-- ==== Sys2Proof/Word.lean ====
section
/-! DEFINITION.  Words of the register space, bytes, and the plain arithmetic on them
that every chapter uses: bit ranges (R4), fixed-point signs (R5) and little-endian
assembly of multi-byte data (R4). -/

namespace Sys2Proof

/-- A 32-bit register word (R4). -/
abbrev Word := BitVec 32

/-- One byte of memory or of a link payload. -/
abbrev Byte := BitVec 8

/-- The field of `w` that starts at bit `lo` and is `n` bits wide (R4). -/
def Word.field (w : Word) (lo n : Nat) : Nat := (w.toNat >>> lo) % 2 ^ n

/-- Bit `i` of `w`. -/
def Word.bit (w : Word) (i : Nat) : Bool := w.getLsbD i

/-- `w` with the `n`-bit field at `lo` replaced by `v`. -/
def Word.put (w : Word) (lo n v : Nat) : Word :=
  (w &&& ~~~(BitVec.ofNat 32 ((2 ^ n - 1) <<< lo))) ||| BitVec.ofNat 32 ((v % 2 ^ n) <<< lo)

/-- A word from a natural number, modulo 2^32. -/
def Word.ofNat (n : Nat) : Word := BitVec.ofNat 32 n

/-- `b` as 0 or 1. -/
def bitOf (b : Bool) : Nat := if b then 1 else 0

/-- Signed value of an `n`-bit two's complement field (R5). -/
def signed (n v : Nat) : Int := if v % 2 ^ n < 2 ^ (n - 1) then (v % 2 ^ n : Nat) else ((v % 2 ^ n : Nat) : Int) - 2 ^ n

/-- An `n`-bit two's complement field that holds `i` (R5). -/
def unsigned (n : Nat) (i : Int) : Nat := (i % (2 ^ n : Int)).toNat

/-- `x` held at `m` once it would pass it: a saturating counter. -/
def satTo (m x : Nat) : Nat := if x ≤ m then x else m

/-- `i` limited to the range from `lo` to `hi`. -/
def clampInt (lo hi i : Int) : Int := if i < lo then lo else if hi < i then hi else i

/-- Quotient rounded up. -/
def ceilDiv (a b : Nat) : Nat := (a + b - 1) / b

/-- Quotient rounded half up. -/
def roundDiv (a b : Nat) : Nat := (2 * a + b) / (2 * b)

/-- Signed quotient rounded half up (towards plus infinity on a tie). -/
def roundDivInt (a b : Int) : Int := (2 * a + b) / (2 * b)

/-- Integer square root by bisection over `fuel` bits, rounded down. -/
def isqrtAux (n : Nat) : Nat → Nat → Nat
  | 0, r => r
  | k + 1, r =>
    let c := r + 2 ^ k
    if c * c ≤ n then isqrtAux n k c else isqrtAux n k r

/-- Integer square root, rounded down, of numbers below 2^200. -/
def isqrt (n : Nat) : Nat := isqrtAux n 100 0

/-- Little-endian number of a byte list (R4). -/
def leNat : List Byte → Nat
  | [] => 0
  | b :: bs => b.toNat + 256 * leNat bs

/-- The `n` little-endian bytes of `v` (R4). -/
def leBytes : Nat → Nat → List Byte
  | 0, _ => []
  | n + 1, v => BitVec.ofNat 8 v :: leBytes n (v / 256)

/-- `len` bytes of `bs` from `off`, as a little-endian number. -/
def leAt (bs : List Byte) (off len : Nat) : Nat := leNat ((bs.drop off).take len)

/-- Network byte order (octet 0 most significant), for protocols outside R4. -/
def beNat (bs : List Byte) : Nat := bs.foldl (fun a b => a * 256 + b.toNat) 0

/-- `len` bytes of `bs` from `off`, most significant first. -/
def beAt (bs : List Byte) (off len : Nat) : Nat := beNat ((bs.drop off).take len)

/-- The bits of a byte, bit 0 first. -/
def byteBits (b : Byte) : List Bool := (List.range 8).map fun i => b.getLsbD i

/-- Positions of the set bits of `v` below `n`, in ascending order. -/
def bitsOf (n v : Nat) : List Nat := (List.range n).filter fun i => v.testBit i

/-- The number with exactly the bits of `l` set. -/
def ofBits (l : List Nat) : Nat := l.foldl (fun a i => a ||| (1 <<< i)) 0

/-- `List.set` written for a list read with a default: the element at `i` replaced. -/
def setAt {α : Type} (l : List α) (i : Nat) (a : α) : List α := l.set i a

end Sys2Proof
end

