-- ==== Sys2Proof/Syntax.lean ====
section
/-! DEFINITION.  The commands of the HL9600 model: one constructor of `Instr` per row of
the table of operations and events.  The first operand of every command, `t`, is the
400 MHz control-clock cycle (2.5 ns) in which the device recognises it (R15, R17). -/

namespace Sys2Proof

/-- Who writes a register (R425). -/
inductive Requester where
  | host | pattern | yarn | chain | store
  deriving DecidableEq, Repr

/-- Requester codes of WRITE_REFUSED (R425). -/
def Requester.code : Requester → Nat
  | .host => 1 | .pattern => 2 | .yarn => 3 | .chain => 4 | .store => 5

/-! ## The contents of a pattern (R81), as the security unit reads them -/

/-- One tile of the tile roster: its rectangle in panel coordinates, its mounting, its lane, zone and native views. -/
structure RosterTile where
  x0 : Nat
  y0 : Nat
  tw : Nat
  th : Nat
  /-- rotation coded as ORIENT.ROT of Table 5-1 -/
  rot : Nat
  mirror : Bool
  lane : Nat
  zone : Nat
  /-- native views across and down -/
  nu : Nat
  nv : Nat
  deriving DecidableEq, Repr

/-- One cue of the cue list (Table 4-6). -/
structure Cue where
  num : Nat
  trigger : Nat
  action : Nat
  time : Nat
  arg0 : Nat
  arg1 : Nat
  arg2 : Nat
  deriving DecidableEq, Repr

/-- One entry of the chain roster (Table 18-1). -/
structure ChainEntry where
  id : Nat
  role : Nat
  partner : Nat
  timing : Nat
  /-- chain ID at the far end of ports 0 to 3, 0xFF unconnected -/
  peer : List Nat
  route : Nat
  deriving DecidableEq, Repr

/-- Warp data of one tile in native orientation: 289 nodes and 256 directions, signed 3.12. -/
structure WarpData where
  tile : Nat
  grid : List (Int × Int)
  dir : List (Int × Int)
  deriving DecidableEq, Repr

/-- One venue slot: its descriptor in the layout of Table 5-8 and its buffer. -/
structure VenueSlot where
  desc : List Word
  buffer : List Byte
  deriving DecidableEq, Repr

/-- Network cue addressing, section 0x07 (R343). -/
structure CueNet where
  udpPort : Nat
  stream : Nat
  /-- 16 address octets, all zero for the port's own address -/
  addr : List Byte
  deriving DecidableEq, Repr

/-- The sections of a pattern (Table 4-5). -/
structure Pattern where
  cues : List Cue := []
  roster : List RosterTile := []
  chain : List ChainEntry := []
  batches : List (List (Nat × Word)) := []
  warp : List WarpData := []
  venueFloor : Nat := 0
  venueSlots : List VenueSlot := []
  cueNet : Option CueNet := none
  /-- section types that the body lists -/
  sections : List Nat := []
  deriving DecidableEq, Repr

/-- A pattern image as read from flash: the signed object's bytes and its sections. -/
structure PatternImage where
  object : List Byte
  body : Pattern
  deriving DecidableEq, Repr

/-- What the HBM step of cast-on finds (R470): stack density, pseudo-channels whose link failed, the trained timing words. -/
structure HbmTraining where
  failed : List Nat
  timing : List Word
  deriving DecidableEq, Repr

/-- A PTP Sync, Follow_Up or Delay_Resp as a slave uses it; times in 2^−16 ns. -/
structure PtpMsg where
  domain : Nat
  source : List Byte
  seq : Nat
  twoStep : Bool
  /-- origin or receive timestamp of the message -/
  origin : Nat
  correction : Int
  /-- ingress stamp of this device, or for Delay_Resp the egress stamp of the Delay_Req -/
  stamp : Nat
  logInterval : Int
  deriving DecidableEq, Repr

/-- A PTP Announce. -/
structure PtpAnnounce where
  domain : Nat
  source : List Byte
  gmId : Nat
  priority1 : Nat
  clockClass : Nat
  accuracy : Nat
  variance : Nat
  priority2 : Nat
  stepsRemoved : Nat
  utcOffset : Nat
  logInterval : Int
  deriving DecidableEq, Repr

/-! ## The commands -/

/-- One constructor per row of the opcode table. -/
inductive Instr where
  /-- GLB_EXPERT_WRITE (R22): A write to GLB_EXPERT unlocks the expert pages with the key value, or locks them with any other value. -/
  | glbExpertWrite (t : Nat) (req : Requester) (data : Word)
  /-- FABRIC_CTL_CLEAR (R20): GLB_FABRIC_CTL.CLEAR clears both counters of GLB_FABRIC_CNT. -/
  | fabricCtlClear (t : Nat) (req : Requester) (data : Word)
  /-- FABRIC_PARITY_ERROR (R19): A fabric hop receives a transfer with a parity error and requests a replay of it. -/
  | fabricParityError (t : Nat) (hop : Nat) (cls : Nat) (transfer : Nat) (addr : Nat) (victim : Nat) (stripes : Nat) (entry : List Byte)
  /-- FABRIC_CRITICAL_CAUSE_EXPIRY (R21): The FABRIC_CRITICAL cause becomes inactive 1 s after its last raise. -/
  | fabricCriticalCauseExpiry (t : Nat)
  /-- REGISTER_WRITE (R9): A write to a register that has no row of its own is checked for refusal and otherwise applied as its Applies column states. -/
  | registerWrite (t : Nat) (req : Requester) (addr : Nat) (size : Nat) (data : Word)
  /-- EARLY_HOST_ACCESS (R65): A host access before READY is refused under the reduced service, counted, and raises EARLY_ACCESS at a limited rate. -/
  | earlyHostAccess (t : Nat) (bar : Nat) (offset : Nat) (write : Bool)
  /-- MODE_CMD_RESET (R30): A mode command with target RESET is refused with reason ILLEGAL. -/
  | modeCmdReset (t : Nat) (seq : Nat)
  /-- MODE_CMD_CAST_ON (R30): A mode command with target CAST-ON is refused with reason ILLEGAL. -/
  | modeCmdCastOn (t : Nat) (seq : Nat)
  /-- MODE_CMD_DEEP (R31): A mode command to DEEP is checked and, if accepted, passes through BIND-OFF. -/
  | modeCmdDeep (t : Nat) (loc : Bool) (seq : Nat)
  /-- MODE_CMD_STRIP (R31): A mode command to STRIP is checked and, if accepted, passes through BIND-OFF into STRIP. -/
  | modeCmdStrip (t : Nat) (loc : Bool) (seq : Nat)
  /-- MODE_CMD_IDLE (R30): A mode command to IDLE is checked and takes effect at a boundary, after the power-up sequence, or within 1 ms, depending on the current mode. -/
  | modeCmdIdle (t : Nat) (loc : Bool) (seq : Nat)
  /-- MODE_CMD_PREVIEW (R29): A mode command to PREVIEW is checked and takes effect at a frame boundary. -/
  | modeCmdPreview (t : Nat) (loc : Bool) (seq : Nat)
  /-- MODE_CMD_SHOW (R29): A mode command to SHOW is checked for panel and store readiness and takes effect at a frame boundary. -/
  | modeCmdShow (t : Nat) (loc : Bool) (seq : Nat)
  /-- MODE_CMD_LIVE (R29): A mode command to LIVE is checked for an armed live source and takes effect at a frame boundary. -/
  | modeCmdLive (t : Nat) (loc : Bool) (seq : Nat)
  /-- MODE_CMD_SWATCH (R29): A mode command to SWATCH is checked and takes effect at a frame boundary. -/
  | modeCmdSwatch (t : Nat) (loc : Bool) (seq : Nat)
  /-- MODE_CMD_SERVICE (R30): A mode command to SERVICE is checked and takes effect within 1 ms. -/
  | modeCmdService (t : Nat) (loc : Bool) (seq : Nat)
  /-- MODE_CMD_BIND_OFF (R31): A mode command to BIND-OFF starts the bind-off of the panel, or of the STRIP band. -/
  | modeCmdBindOff (t : Nat) (loc : Bool) (seq : Nat)
  /-- MODE_CMD_SAFE (R33): A mode command to SAFE enters SAFE with cause HOST. -/
  | modeCmdSafe (t : Nat) (loc : Bool) (seq : Nat)
  /-- MODE_TRANSITION_DONE (R30): A transition that runs over time, such as IDLE to SERVICE or SAFE to IDLE, completes and raises MODE_ENTERED. -/
  | modeTransitionDone (t : Nat)
  /-- HBM_AUTO_SELF_REFRESH (R35): In IDLE with AUTO_SR set, IDLE_TIME ms without HBM access places the stack in self-refresh. -/
  | hbmAutoSelfRefresh (t : Nat)
  /-- HBM_SR_EXIT_DONE (R36): The stack leaves self-refresh and the waiting access or transition proceeds. -/
  | hbmSrExitDone (t : Nat)
  /-- DOMAIN_SWITCH_ON_START (R37): The controller starts the next domain switch-on, at most one per 25 µs. -/
  | domainSwitchOnStart (t : Nat)
  /-- DOMAIN_POWER_GOOD (R37): Power good arrives for a domain, whose reset, clock and isolation are then released in order. -/
  | domainPowerGood (t : Nat) (domain : Fin 80)
  /-- DOMAIN_POWER_GOOD_TIMEOUT (R37): Power good has not arrived within 200 µs; DOMAIN_FAIL is raised and SAFE is entered. -/
  | domainPowerGoodTimeout (t : Nat) (domain : Fin 80)
  /-- WAKE_N_ASSERTED (R41): WAKE_N held low for 1 µs in DEEP starts the whole cast-on toward WAKE_TARGET. -/
  | wakeNAsserted (t : Nat)
  /-- POR (R44): VDD_AON falls below its power-on threshold and the whole device resets. -/
  | por (t : Nat)
  /-- POWER_GOOD (R44): VDD_AON and every supervised rail are in range; POR ends and cast-on starts. -/
  | powerGood (t : Nat)
  /-- RST_N_RECOGNISED (R46): RST_N is recognised low and a whole-device reset is imposed. -/
  | rstNRecognised (t : Nat)
  /-- RST_N_RELEASED (R45): RST_N is recognised high and that reset source ends. -/
  | rstNReleased (t : Nat)
  /-- PCIE_PERST_ASSERTED (R48): PCIE_PERST_N is recognised low and the host endpoint resets. -/
  | pciePerstAsserted (t : Nat) (entries : List (Nat × List Byte))
  /-- PCIE_PERST_RELEASED (R48): PCIE_PERST_N is recognised high; the link trains, and a DEEP device may wake. -/
  | pciePerstReleased (t : Nat)
  /-- ENDPOINT_RESET (R48): The host link is up after PERST, and ENDPOINT_RESET is raised. -/
  | endpointReset (t : Nat) (speed : Nat) (width : Nat)
  /-- WATCHDOG_EXPIRY (R44): The MC0 or MC1 watchdog expires and causes a whole-device reset. -/
  | watchdogExpiry (t : Nat) (core : Fin 2)
  /-- SOFTWARE_RESET (R44): CLKRST_SW_RESET receives the key and starts a whole-device reset. -/
  | softwareReset (t : Nat) (req : Requester) (data : Word)
  /-- RESET_PULSE_END (R44): The 100 µs internal reset pulse of a watchdog or software reset ends. -/
  | resetPulseEnd (t : Nat)
  /-- THERMAL_TRIP (R443): A trip sensor reaches 120 °C; the device resets and THERM_TRIP_N is driven low. -/
  | thermalTrip (t : Nat)
  /-- THERMAL_TRIP_CLEAR (R44): Every trip sensor is below 105 °C; the thermal reset ends and THERM_TRIP_N is released. -/
  | thermalTripClear (t : Nat)
  /-- SUPPLY_FAULT (R44): A supervised rail is out of range for 1 µs and the whole device resets. -/
  | supplyFault (t : Nat) (rail : Nat)
  /-- SUPPLY_RECOVERED (R44): Every supervised rail has been in range for 10 ms and the supply-fault reset ends. -/
  | supplyRecovered (t : Nat)
  /-- BLOCK_RESET (R49): A write to CLKRST_BLOCK_RESET resets an idle block or is refused with BLOCK_BUSY. -/
  | blockReset (t : Nat) (req : Requester) (data : Word)
  /-- BLOCK_RESET_DONE (R51): A block reset completes and the block's registers become accessible again. -/
  | blockResetDone (t : Nat) (code : Nat)
  /-- FLASH_PULSE_END (R54): A held-off flash page program or OTP burn pulse finishes, and the flash interface enters reset. -/
  | flashPulseEnd (t : Nat)
  /-- ERASE_SUSPEND_POLL (R55): A 2 µs status read during a reset finds whether the flash has suspended its erase. -/
  | eraseSuspendPoll (t : Nat) (suspended : Bool)
  /-- ERASE_SUSPEND_TIMEOUT (R55): t_SUSP expires without suspension; the chip select goes high, the interface resets and SUSP_TO is set. -/
  | eraseSuspendTimeout (t : Nat)
  /-- ROOT_PLL_LOCK (R56): The root PLL locks and the option loader starts its first attempt on flash A. -/
  | rootPllLock (t : Nat)
  /-- OPTION_STATUS_POLL (R56): A 10 µs status read of the option loader checks write-in-progress, failing the attempt after 340 µs. -/
  | optionStatusPoll (t : Nat) (busy : Bool)
  /-- OPTION_BLOCK_READ_DONE (R58): The 256-byte option block read completes and is checked; the loader applies it or moves to the next attempt. -/
  | optionBlockReadDone (t : Nat) (block : List Byte)
  /-- CASTON_FW_STEP (R78): The firmware images are verified, one is selected and started, or cast-on halts. -/
  | castonFwStep (t : Nat) (imageA : List Byte) (imageB : List Byte)
  /-- CASTON_PATTERN_STEP (R81): The patterns are verified and one is selected and loaded, or PATTERN_INVALID is recorded. -/
  | castonPatternStep (t : Nat) (imageA : PatternImage) (imageB : PatternImage)
  /-- CASTON_HBM_STEP (R470): The stack is tested and trained, and the rebuilding of content starts. -/
  | castonHbmStep (t : Nat) (training : HbmTraining)
  /-- CASTON_CAL_STEP (R411): Analogue calibration completes, and Ethernet, PTP and the chain handshake start. -/
  | castonCalStep (t : Nat)
  /-- CASTON_PANEL_STEP_END (R63): The panel lanes are trained and tiles enumerated, or the t_PANEL maximum is reached. -/
  | castonPanelStepEnd (t : Nat)
  /-- CASTON_READY (R63): Cast-on enters its target mode, sets READY, retrains PCIe and acts on queued cues. -/
  | castonReady (t : Nat)
  /-- HANDSHAKE_ABSENT_TIMEOUT (R68): A chain device has not answered within 500 ms of the master's first request and is declared absent. -/
  | handshakeAbsentTimeout (t : Nat) (member : Fin 8)
  /-- HANDSHAKE_REPEAT (R68): A handshake message sent out of turn is repeated every 10 ms. -/
  | handshakeRepeat (t : Nat) (port : Fin 4)
  /-- SEC_CMD_ATTEST (R85): ATTEST journals the next leaf and signs a report into SEC_ATTEST_BUF. -/
  | secCmdAttest (t : Nat) (req : Requester)
  /-- SEC_CMD_FLASH_ERASE (R92): FLASH_ERASE erases a 4 KiB-aligned flash range, in SERVICE only. -/
  | secCmdFlashErase (t : Nat) (req : Requester)
  /-- SEC_CMD_FLASH_PROGRAM (R92): FLASH_PROGRAM programs up to 64 KiB from SEC_STAGE, in SERVICE or recovery upload. -/
  | secCmdFlashProgram (t : Nat) (req : Requester)
  /-- SEC_CMD_VERIFY_IMAGE (R92): VERIFY_IMAGE verifies the signed object at the given image pointer. -/
  | secCmdVerifyImage (t : Nat) (req : Requester)
  /-- SEC_CMD_ENROLL_KEY (R77): ENROLL_KEY burns a slot's hashes and seal from a signed key record. -/
  | secCmdEnrollKey (t : Nat) (req : Requester)
  /-- SEC_CMD_REVOKE_KEY (R77): REVOKE_KEY burns a slot's revoke bit from a signed key record. -/
  | secCmdRevokeKey (t : Nat) (req : Requester)
  /-- SEC_CMD_CONFIRM_FW (R79): CONFIRM_FW writes a confirm entry for the running image and clears FW_TRIAL. -/
  | secCmdConfirmFw (t : Nat) (req : Requester)
  /-- SEC_CMD_ADVANCE_FW_SVN (R80): ADVANCE_FW_SVN burns FW_SVN bits up to the running image's SVN. -/
  | secCmdAdvanceFwSvn (t : Nat) (req : Requester)
  /-- SEC_CMD_ADVANCE_PAT_SVN (R80): ADVANCE_PAT_SVN burns PAT_SVN bits up to the loaded pattern's SVN. -/
  | secCmdAdvancePatSvn (t : Nat) (req : Requester)
  /-- SEC_CMD_COMPLETE (R74): A running security command completes; its result and reason are recorded and SEC_CMD_DONE is raised. -/
  | secCmdComplete (t : Nat) (ok : Bool) (image : PatternImage)
  /-- LEAF_JOURNAL_WRITE_DONE (R87): A leaf journal write completes or fails, allowing ATTEST to sign or be refused. -/
  | leafJournalWriteDone (t : Nat) (okA : Bool) (okB : Bool)
  /-- VENUE_SUBMIT (R88): SEC_VENUE_CMD.GO submits the staged venue command for verification and copy. -/
  | venueSubmit (t : Nat) (req : Requester)
  /-- VENUE_VERIFY_DONE (R89): Verification and copy of a venue command complete; it is accepted, discarded as duplicate, or rejected. -/
  | venueVerifyDone (t : Nat)
  /-- VENUE_JOURNAL_WRITE_DONE (R89): The venue journal writes complete, or both fail and VENUE_JOURNAL_FAIL is raised. -/
  | venueJournalWriteDone (t : Nat) (okA : Bool) (okB : Bool)
  /-- CUE_TIME_DUE (R83): A TRIGGER 0x0 cue's show time arrives and the cue fires. -/
  | cueTimeDue (t : Nat) (cue : Nat)
  /-- CUE_DELAY_DUE (R83): A TRIGGER 0x1 cue's delay after the previous entry's completion expires and the cue fires. -/
  | cueDelayDue (t : Nat) (cue : Nat)
  /-- SEC_CUE_GO (R83): A write to SEC_CUE_GO fires the named TRIGGER 0x3 cue or raises CUE_IGNORED. -/
  | secCueGo (t : Nat) (req : Requester) (cue : Nat)
  /-- CUE_MODE_COMMAND (R82): A cue with ACTION 0x0 issues a mode command. -/
  | cueModeCommand (t : Nat) (cue : Nat)
  /-- CUE_PLAY_SKEIN (R318): A cue with ACTION 0x1 opens and plays the named skein from frame ARG0. -/
  | cuePlaySkein (t : Nat) (cue : Nat)
  /-- CUE_REGISTER_BATCH (R82): A cue with ACTION 0x2 applies a register batch of the pattern. -/
  | cueRegisterBatch (t : Nat) (cue : Nat)
  /-- CUE_VENUE_SELECT (R88): A cue with ACTION 0x3 selects a venue slot or clears the venue ply. -/
  | cueVenueSelect (t : Nat) (cue : Nat)
  /-- PLY_DESC_WRITE (R110): A write to a descriptor register replaces its pending value for the next committed flip. -/
  | plyDescWrite (t : Nat) (req : Requester) (ply : Fin 64) (word : Fin 16) (data : Word)
  /-- PLY_FENCE_WRITE (R111): A host write to PLY_FENCE sets a fence value. -/
  | plyFenceWrite (t : Nat) (fence : Fin 64) (data : Word)
  /-- SCAN_COMMIT_GO (R171): SCAN_COMMIT.GO = 1 selects the first boundary at least t_GUARD ahead, or is deferred. -/
  | scanCommitGo (t : Nat) (req : Requester)
  /-- FRAME_LATCH (R168): The delivery window closes; the boundary begins and its latch instant applies commits, validates descriptors and latches the frame. -/
  | frameLatch (t : Nat)
  /-- HBM_RETIME_DONE (R259): The retime completes and held HBM requests resume. -/
  | hbmRetimeDone (t : Nat)
  /-- FRAME_FLIP (R168): The flip instant of a frame arrives and the delivery window of the next frame opens. -/
  | frameFlip (t : Nat)
  /-- PLY_FETCH_DONE (R472): A ply fetch into a tile cache completes, which may make a course eligible for synthesis. -/
  | plyFetchDone (t : Nat) (link : Fin 128) (course : Nat) (ply : Nat)
  /-- PLY_FETCH_FAIL (R161): A ply fetch ends in an uncorrectable error or a lost line, and the ply is switched off. -/
  | plyFetchFail (t : Nat) (link : Fin 128) (course : Nat) (ply : Nat) (reason : Nat)
  /-- COURSE_OPEN (R156): The formatter opens a course on a link and makes the fetch check and compute check. -/
  | courseOpen (t : Nat) (link : Fin 128) (course : Nat)
  /-- SPAN_DONE (R472): A cluster finishes a span and takes the next span of an eligible course. -/
  | spanDone (t : Nat) (link : Fin 128) (course : Nat) (span : Nat) (parityLines : List Nat)
  /-- CACHE_REFETCH_DONE (R149): A refetched cache line arrives and the waiting ray continues. -/
  | cacheRefetchDone (t : Nat) (line : Nat)
  /-- T_CUT_EXPIRY (R160): t_CUT is reached with courses unfinished; they are held with HOLD_RUN and RAY_COURSE_HELD is raised. -/
  | tCutExpiry (t : Nat) (link : Fin 128)
  /-- REFLATTEN_DONE (R115): The composer completes a flat ply, which is used from the next latch if R113 still holds. -/
  | reflattenDone (t : Nat) (group : Fin 16)
  /-- TIME_BLOCK_DUE (R195): A TIME block falls due on a panel lane once per 1 ms and is stamped at departure. -/
  | timeBlockDue (t : Nat) (lane : Fin 128)
  /-- TILE_DELAY_ECHO (R196): The 1 s echo measurement sends a TIME block with ECHO = 1 to a tile. -/
  | tileDelayEcho (t : Nat) (tile : Fin 128)
  /-- BACKCHANNEL_FRAME (R203): A back-channel frame arrives on a PRX lane and is checked and taken as the tile's status. -/
  | backchannelFrame (t : Nat) (lane : Fin 128) (frame : List Byte)
  /-- TILE_BC_TIMEOUT (R203): No valid back-channel frame for 100 µs marks the tile lost. -/
  | tileBcTimeout (t : Nat) (tile : Fin 128)
  /-- TILE_NO_LOCK_TIMEOUT (R211): A tile reports no lock on this port for 1 ms; SPK_TILE_LOST reason 0x2 is raised and the lane retrains. -/
  | tileNoLockTimeout (t : Nat) (tile : Fin 128)
  /-- TILE_BLANKED_TIMEOUT (R211): A tile reports blanked for 1 ms while delivered to; SPK_TILE_LOST reason 0x3 is raised. -/
  | tileBlankedTimeout (t : Nat) (tile : Fin 128)
  /-- CONFIG_TIMEOUT (R199): t_CFG expires without a matching report; the CONFIG is resent or SPK_CONFIG_FAIL is raised. -/
  | configTimeout (t : Nat) (tile : Fin 128)
  /-- TILE_ENUMERATION (R208): Enumeration of a tile's lane starts after training, on return of a lost tile, or on request. -/
  | tileEnumeration (t : Nat) (tile : Fin 128)
  /-- ENUM_BC_WAIT_TIMEOUT (R208): No valid back-channel frame arrives within 20 ms at enumeration, and it fails. -/
  | enumBcWaitTimeout (t : Nat) (tile : Fin 128)
  /-- SPK_CTL_REENUM (R208): SPK_CTL.REENUM enumerates the named tile again. -/
  | spkCtlReenum (t : Nat) (req : Requester) (tile : Nat)
  /-- SPK_CTL_ECHO (R196): SPK_CTL.ECHO measures the named tile's delay now. -/
  | spkCtlEcho (t : Nat) (req : Requester) (tile : Nat)
  /-- SPK_CTL_CLEAR (R203): SPK_CTL.CLEAR clears SPK_TILE_FEC and SPK_LANE_ERR. -/
  | spkCtlClear (t : Nat) (req : Requester)
  /-- SPK_CFGW_GO (R199): SPK_CFGW_CMD.GO queues an expert tile register access for the next boundary. -/
  | spkCfgwGo (t : Nat) (req : Requester)
  /-- LANE_STAGE_DONE (R220): A lane completes a training stage and moves to the next. -/
  | laneStageDone (t : Nat) (lane : Fin 304) (inverted : Bool) (seen : Nat)
  /-- LANE_STAGE_TIMEOUT (R224): A training stage times out; the attempt fails and the lane restarts or becomes FAILED. -/
  | laneStageTimeout (t : Nat) (lane : Fin 304)
  /-- LANE_RETRY_TIMER (R224): A FAILED lane of groups 0 to 2 retries training every 100 ms. -/
  | laneRetryTimer (t : Nat) (lane : Fin 304)
  /-- LANE_LOCK_LOSS (R224): A lane that is UP loses CDR or codeword lock and retrains. -/
  | laneLockLoss (t : Nat) (lane : Fin 304)
  /-- PTX_POLARITY_TIMEOUT (R221): No lock is reported within 5 ms, and the panel forward transmitter is inverted. -/
  | ptxPolarityTimeout (t : Nat) (lane : Fin 128)
  /-- PRESET_TRY_TIMEOUT (R223): A 2 ms preset try ends and the next preset is tried or the best kept. -/
  | presetTryTimeout (t : Nat) (lane : Fin 304)
  /-- LANE_CTL_RETRAIN (R224): LANE_CTL.RETRAIN retrains one lane now. -/
  | laneCtlRetrain (t : Nat) (req : Requester) (lane : Nat)
  /-- LANE_CTL_CLEAR (R228): LANE_CTL.CLEAR clears one lane's LANE_PRBS_ERR and FOM_MINSEEN. -/
  | laneCtlClear (t : Nat) (req : Requester) (lane : Nat)
  /-- LANE_CTL_CLEAR_ALL (R228): LANE_CTL.CLEAR_ALL clears the error counters of every lane. -/
  | laneCtlClearAll (t : Nat) (req : Requester)
  /-- LANE_FOM_UPDATE (R225): Each lane's FOM is updated once per second, raising LANE_FOM_LOW when low. -/
  | laneFomUpdate (t : Nat) (lane : Fin 304) (h : Nat) (w : Nat)
  /-- BGCAL_GRANT (R227): The health unit grants a background calibration slot to a receiver slicer. -/
  | bgcalGrant (t : Nat) (lane : Fin 304) (slicer : Nat)
  /-- BGCAL_GRANT_LAPSE (R227): A granted calibration finds no safe interval within 1 ms and lapses. -/
  | bgcalGrantLapse (t : Nat) (lane : Fin 304) (slicer : Nat)
  /-- LANE_TEST_WRITE (R229): A write to LANE_TEST starts or stops PRBS generators and checkers, or is refused. -/
  | laneTestWrite (t : Nat) (req : Requester) (lane : Fin 304) (data : Word)
  /-- LANE_INJ_WRITE (R230): A write to LANE_INJ starts or stops error injection on live traffic. -/
  | laneInjWrite (t : Nat) (req : Requester) (lane : Fin 304) (data : Word)
  /-- LOOP_TPORT_LOCK_LOSS (R218): The loop timing port loses lock and the loop starts its 10 µs move decision. -/
  | loopTportLockLoss (t : Nat)
  /-- LOOP_MOVE_TIMEOUT (R218): 10 µs after losing lock the loop moves to BPORT or enters holdover. -/
  | loopMoveTimeout (t : Nat)
  /-- LOOP_LOCKED (R216): The loop has held offset and phase error within limits for 10 ms and is locked. -/
  | loopLocked (t : Nat)
  /-- LANE_LATENCY_SLIP (R219): A chain elastic buffer moves more than 8 words from centre and the port retrains. -/
  | laneLatencySlip (t : Nat) (port : Fin 4) (lane : Fin 4) (words : Int)
  /-- IREF_COMPLIANCE_SAMPLE (R235): A 10 ms voltage sample of an owned IREF output checks compliance. -/
  | irefComplianceSample (t : Nat) (output : Fin 48) (millivolts : Nat)
  /-- THM_SAMPLE (R242): A thermistor input is converted and filtered, and its zone's band and HOT state are judged. -/
  | thmSample (t : Nat) (input : Fin 16) (ohms : Nat)
  /-- THM_STALE_TIMEOUT (R242): No sample has converted for 100 ms and the input is flagged STALE. -/
  | thmStaleTimeout (t : Nat) (input : Fin 16)
  /-- PROBE_TIMEOUT (R247): No result arrives within 100 µs of a PROBE and EMIT_PROBE_TIMEOUT is raised. -/
  | probeTimeout (t : Nat) (tile : Fin 128)
  /-- POWERUP_T0 (R249): The power-up sequence starts by sending DISCHARGE once lanes are UP or 850 ms have passed. -/
  | powerupT0 (t : Nat)
  /-- POWERUP_DISCHARGE_END (R249): 50 ms after t0 the discharge is released and the IREF ramp starts. -/
  | powerupDischargeEnd (t : Nat)
  /-- IREF_RAMP_UP_STEP (R249): Every 10 µs a power-up ramp step raises each owned IREF code. -/
  | irefRampUpStep (t : Nat)
  /-- IREF_RAMP_DOWN_STEP (R250): Every 10 µs a bind-off ramp step lowers each IREF code. -/
  | irefRampDownStep (t : Nat)
  /-- BINDOFF_DISCHARGE (R250): 20 ms after the black flip every lane sends DISCHARGE. -/
  | bindoffDischarge (t : Nat)
  /-- BINDOFF_IDLE (R250): 70 ms after the black flip the lanes go to electrical idle and domains switch off. -/
  | bindoffIdle (t : Nat)
  /-- EMIT_STRIP_GO (R252): EMIT_STRIP_CTL.GO sets BUSY to deliver the strip buffer in a later window. -/
  | emitStripGo (t : Nat) (req : Requester)
  /-- EMIT_STRIP_BUF_WRITE (R252): A write to the strip buffer is applied, or refused with EMIT_STRIP_BUSY while BUSY = 1. -/
  | emitStripBufWrite (t : Nat) (req : Requester) (index : Nat) (data : Word)
  /-- STRIP_WINDOW_OPEN (R252): A window of the STRIP cadence opens, delivering the buffer when a GO is pending, and flips at its end. -/
  | stripWindowOpen (t : Nat)
  /-- HBM_REFRESH_TICK (R261): A refresh interval elapses and a bank refresh is due, taking precedence at 8 postponements. -/
  | hbmRefreshTick (t : Nat) (pc : Fin 16)
  /-- HBM_READ_PARITY_ERROR (R263): An HBM read beat fails parity and the burst is reissued, or it becomes uncorrectable. -/
  | hbmReadParityError (t : Nat) (pc : Fin 16) (addr : Nat) (attempt : Nat)
  /-- HBM_ALERT (R264): An alert from the stack reissues the channel's recent commands. -/
  | hbmAlert (t : Nat) (pc : Fin 16) (addr : Nat)
  /-- MIGRATION_PAGE_DONE (R272): A migration page is copied and its row remapped; the last page ends the migration. -/
  | migrationPageDone (t : Nat)
  /-- HBM_CTL_CLEAR_LOST (R269): HBM_CTL.CLEAR_LOST clears the lost marks of a range of blocks. -/
  | hbmCtlClearLost (t : Nat) (req : Requester)
  /-- HBM_CTL_MEMTEST (R278): HBM_CTL.MEMTEST starts the full memory test in SERVICE, or is refused. -/
  | hbmCtlMemtest (t : Nat) (req : Requester)
  /-- HBM_CTL_CLEAR_CNT (R279): HBM_CTL.CLEAR_CNT clears the counters of every pseudo-channel. -/
  | hbmCtlClearCnt (t : Nat) (req : Requester)
  /-- MEMTEST_DONE (R278): The memory test ends; every tagged block is marked lost and regenerated. -/
  | memtestDone (t : Nat)
  /-- SCRUB_READ (R277): Scrub reads its next line, marking the block lost on failure. -/
  | scrubRead (t : Nat) (result : Nat)
  /-- SCRUB_DEFERRAL_TIMEOUT (R277): The scrub deferral clock reaches 100 ms and scrub gains a guaranteed slot. -/
  | scrubDeferralTimeout (t : Nat)
  /-- HANK_JOB_SUBMIT (R291): HANK_JOB_SUBMIT.GO checks and queues a host Hank job, or refuses it. -/
  | hankJobSubmit (t : Nat) (req : Requester)
  /-- HANK_JOB_COMPLETE (R286): A Hank job ends, done or stopped at a decoder error. -/
  | hankJobComplete (t : Nat) (engine : Fin 6)
  /-- NEEDLE_SUBMIT (R301): NEEDLE_SUBMIT.GO captures, checks and queues a Needle command, or rejects it. -/
  | needleSubmit (t : Nat) (req : Requester)
  /-- NEEDLE_CMD_ISSUE (R302): The command at the queue head issues once a run slot is free and no conflict remains. -/
  | needleCmdIssue (t : Nat)
  /-- NEEDLE_FROG_STOP (R304): A frogged command reaches its stripe boundary and ends as frogged. -/
  | needleFrogStop (t : Nat) (run : Nat) (stripes : Nat)
  /-- NEEDLE_CMD_COMPLETE (R306): A Needle command completes, or fails on a read or fabric error. -/
  | needleCmdComplete (t : Nat) (run : Nat) (fail : Option Nat) (stripes : Nat)
  /-- STORE_CTL_OPEN (R315): STORE_CTL.OPEN reads and checks the named skein. -/
  | storeCtlOpen (t : Nat) (req : Requester)
  /-- STORE_OPEN_DONE (R315): The skein's structures are read; the open succeeds or is refused. -/
  | storeOpenDone (t : Nat)
  /-- STORE_CTL_PLAY (R317): STORE_CTL.PLAY sets the start frame and fills the ring. -/
  | storeCtlPlay (t : Nat) (req : Requester)
  /-- STORE_CTL_CLOSE (R315): STORE_CTL.CLOSE closes the skein at once, refused in SHOW. -/
  | storeCtlClose (t : Nat) (req : Requester)
  /-- STORE_READY (R317): The records up to the lead are in the ring and the store is ready. -/
  | storeReady (t : Nat)
  /-- STORE_PREP_DONE (R319): The frame's decodes complete; the store writes descriptors and GO. -/
  | storePrepDone (t : Nat)
  /-- STORE_PREP_DEADLINE (R319): 30 µs before the latch the frame is not ready and STORE_FRAME_LATE is raised. -/
  | storePrepDeadline (t : Nat)
  /-- NVME_COMPLETION (R312): An NVMe command completes, successfully or with error status. -/
  | nvmeCompletion (t : Nat) (drive : Fin 2) (cid : Nat) (status : Nat) (data : List Byte)
  /-- NVME_TIMEOUT (R312): An NVMe command has not completed within 2 s and is reissued or reported. -/
  | nvmeTimeout (t : Nat) (drive : Fin 2) (cid : Nat)
  /-- NVME_CONTROLLER_FATAL (R312): A drive reports CSTS.CFS = 1 and is disabled. -/
  | nvmeControllerFatal (t : Nat) (drive : Fin 2)
  /-- STORE_XFER_READ (R325): STORE_XFER_CMD read moves LBAs into HBM. -/
  | storeXferRead (t : Nat) (req : Requester) (data : Word)
  /-- STORE_XFER_WRITE (R325): STORE_XFER_CMD write moves HBM data to LBAs. -/
  | storeXferWrite (t : Nat) (req : Requester) (data : Word)
  /-- STORE_XFER_FLUSH (R325): STORE_XFER_CMD flush flushes a drive. -/
  | storeXferFlush (t : Nat) (req : Requester) (data : Word)
  /-- STORE_XFER_DEALLOCATE (R325): STORE_XFER_CMD deallocate deallocates LBAs. -/
  | storeXferDeallocate (t : Nat) (req : Requester) (data : Word)
  /-- STORE_XFER_SMART_LOG (R325): STORE_XFER_CMD reads the SMART log into HBM. -/
  | storeXferSmartLog (t : Nat) (req : Requester) (data : Word)
  /-- STORE_XFER_DONE (R325): A drive transfer ends and STORE_XFER_DONE is raised. -/
  | storeXferDone (t : Nat)
  /-- YARN_DATA_FRAGMENT (R327): A yarn data fragment is reassembled; a complete update is decoded. -/
  | yarnDataFragment (t : Nat) (stream : Fin 16) (packet : List Byte)
  /-- YARN_DESCRIPTOR (R328): A yarn descriptor packet writes a descriptor as pending values in LIVE. -/
  | yarnDescriptor (t : Nat) (stream : Fin 16) (packet : List Byte)
  /-- YARN_COMMIT (R328): A yarn commit packet writes SCAN_COMMIT.GO in LIVE. -/
  | yarnCommit (t : Nat) (stream : Fin 16) (packet : List Byte)
  /-- YARN_UPDATE_TIMEOUT (R329): An update still incomplete 100 ms after its first fragment is discarded. -/
  | yarnUpdateTimeout (t : Nat) (stream : Fin 16) (update : Nat)
  /-- DPORT_WRITE_TLP (R331): A data-port write TLP writes HBM at DPORT_PTR and advances it. -/
  | dportWriteTlp (t : Nat) (port : Fin 4) (offset : Nat) (first : Nat) (last : Nat) (data : List Byte)
  /-- DPORT_READ_TLP (R331): A data-port read TLP returns HBM bytes at DPORT_PTR and advances it. -/
  | dportReadTlp (t : Nat) (port : Fin 4) (offset : Nat) (len : Nat)
  /-- DPORT_PTR_WRITE (R332): A write to DPORT_PTR or DPORT_STEP sets the pointer and discards prefetched data. -/
  | dportPtrWrite (t : Nat) (req : Requester) (port : Fin 4) (reg : Fin 3) (data : Word)
  /-- DPORT_DMA_START (R335): Setting RUN or advancing HEAD starts a DMA channel on its next entry. -/
  | dportDmaStart (t : Nat) (req : Requester) (chan : Fin 4) (reg : Fin 2) (data : Word)
  /-- DPORT_DMA_ENTRY_DONE (R335): A DMA entry completes, sets its fence and writes back STATUS, or stops the channel on error. -/
  | dportDmaEntryDone (t : Nat) (chan : Fin 4) (entry : List Byte) (source : List Byte) (error : Nat)
  /-- ETH_FRAME_RX (R341): An Ethernet frame is received, filtered, consumed or forwarded. -/
  | ethFrameRx (t : Nat) (port : Fin 2) (frame : List Byte) (fcsOk : Bool)
  /-- NETWORK_CUE_FRAME (R343): A cue frame of TYPE 0x1 fires its cue as TRIGGER 0x2. -/
  | networkCueFrame (t : Nat) (port : Fin 2) (payload : List Byte)
  /-- VENUE_FRAGMENT (R344): A venue fragment is assembled; a complete object is submitted to the venue channel. -/
  | venueFragment (t : Nat) (port : Fin 2) (payload : List Byte)
  /-- VENUE_ASSEMBLY_TIMEOUT (R344): A venue assembly incomplete after 100 ms is discarded. -/
  | venueAssemblyTimeout (t : Nat)
  /-- PTP_SYNC (R347): A Sync message updates the slave's offset and servo. -/
  | ptpSync (t : Nat) (port : Fin 2) (msg : PtpMsg)
  /-- PTP_FOLLOW_UP (R346): A Follow_Up carries the precise origin time of a two-step Sync. -/
  | ptpFollowUp (t : Nat) (port : Fin 2) (msg : PtpMsg)
  /-- PTP_DELAY_RESP (R346): A Delay_Resp completes a path delay measurement. -/
  | ptpDelayResp (t : Nat) (port : Fin 2) (msg : PtpMsg)
  /-- PTP_ANNOUNCE (R346): An Announce feeds the best master clock algorithm. -/
  | ptpAnnounce (t : Nat) (port : Fin 2) (msg : PtpAnnounce)
  /-- PTP_DELAY_REQ_DUE (R346): The slave sends a Delay_Req at the interval that Delay_Resp names. -/
  | ptpDelayReqDue (t : Nat) (tb : Fin 2)
  /-- PTP_SYNC_TIMEOUT (R347): No Sync in 3 intervals puts a LOCKED time base in HOLDOVER. -/
  | ptpSyncTimeout (t : Nat) (tb : Fin 2)
  /-- PTP_ANNOUNCE_TIMEOUT (R347): The Announce receipt timeout expires and the time base enters HOLDOVER. -/
  | ptpAnnounceTimeout (t : Nat) (tb : Fin 2)
  /-- TB2_REVERT_TIMEOUT (R352): TB0 has been LOCKED for 10 s and show time reverts from TB1. -/
  | tb2RevertTimeout (t : Nat)
  /-- PPS_IN_EDGE (R354): A PPS_IN edge steers show time to a whole second and is captured. -/
  | ppsInEdge (t : Nat)
  /-- TIME_REF_TIMEOUT (R354): No PPS edge for 1.1 s or no 10 MHz edge for 10 µs raises TIME_REF_LOSS. -/
  | timeRefTimeout (t : Nat) (input : Fin 2)
  /-- NET_LINK_SETTLE (R363): A link change that has held for 10 ms raises NET_LINK_STATE. -/
  | netLinkSettle (t : Nat) (port : Fin 2)
  /-- TIME_CMP_ALLOC_REQ (R355): TIME_CMP_ALLOC.REQ grants the lowest free comparator or reports CONFLICT. -/
  | timeCmpAllocReq (t : Nat) (req : Requester)
  /-- TIME_CMP_ALLOC_FREE (R355): TIME_CMP_ALLOC.FREE disarms and releases a comparator. -/
  | timeCmpAllocFree (t : Nat) (req : Requester) (num : Fin 8)
  /-- TIME_CMP_FIRE (R356): An armed comparator reaches its target, drives its output and advances its target. -/
  | timeCmpFire (t : Nat) (cmp : Fin 8)
  /-- TIME_PULSE_END (R358): A comparator output pulse of WIDTH ns ends. -/
  | timePulseEnd (t : Nat) (out : Fin 4)
  /-- PPS_OUT_SECOND (R359): PPS_OUT goes high at each whole second of its time base. -/
  | ppsOutSecond (t : Nat)
  /-- PPS_OUT_WIDTH_END (R359): PPS_OUT returns low after WIDTH µs. -/
  | ppsOutWidthEnd (t : Nat)
  /-- TIME_CAPTURE_EDGE (R360): A capture input edge held for 1 µs is stamped and queued. -/
  | timeCaptureEdge (t : Nat) (cap : Fin 3) (falling : Bool)
  /-- TIME_CAP_FNS_READ (R360): A read of TIME_CAP_FNS takes the oldest stamp into LO and HI. -/
  | timeCapFnsRead (t : Nat) (cap : Fin 3)
  /-- TIME_CTL_SNAP (R350): TIME_CTL.SNAP snapshots all time bases into TIME_TB. -/
  | timeCtlSnap (t : Nat) (req : Requester)
  /-- TIME_CTL_SET_TB3 (R350): TIME_CTL.SET_TB3 sets TB3 to TIME_SET. -/
  | timeCtlSetTb3 (t : Nat) (req : Requester)
  /-- TIME_CTL_SET_TB2 (R353): TIME_CTL.SET_TB2 sets show time before the first latch, refused afterwards. -/
  | timeCtlSetTb2 (t : Nat) (req : Requester)
  /-- TRAF_DE_TIMEOUT (R369): No frame accepted for TIMEOUT ms resets an entry's duplicate-elimination window. -/
  | trafDeTimeout (t : Nat) (entry : Fin 256)
  /-- TRAF_EGRESS_DONE (R370): A frame finishes transmission and the scheduler selects the next frame. -/
  | trafEgressDone (t : Nat) (port : Fin 2)
  /-- TRAF_HIST_SAMPLE (R377): Every 1 ms each queue's depth and delay are binned. -/
  | trafHistSample (t : Nat)
  /-- TRAF_CTL_CLEAR_CNT (R378): TRAF_CTL.CLEAR_CNT clears the traffic counters. -/
  | trafCtlClearCnt (t : Nat) (req : Requester)
  /-- TRAF_CTL_CLEAR_HIST (R378): TRAF_CTL.CLEAR_HIST clears every histogram bin. -/
  | trafCtlClearHist (t : Nat) (req : Requester)
  /-- CHAIN_DATA_BLOCK (R384): A chain data block is received, acknowledged or NAKed. -/
  | chainDataBlock (t : Nat) (port : Fin 4) (block : List Byte)
  /-- CHAIN_ACK (R384): An ACK releases acknowledged blocks from the replay buffer. -/
  | chainAck (t : Nat) (port : Fin 4) (seq : Nat)
  /-- CHAIN_NAK (R384): A NAK replays from SEQ, retraining the port on the fourth NAK. -/
  | chainNak (t : Nat) (port : Fin 4) (seq : Nat)
  /-- CHAIN_ACK_DUE (R384): A receiver sends ACK at least once per 1 µs. -/
  | chainAckDue (t : Nat) (port : Fin 4)
  /-- CHAIN_TRAIN_BLOCK (R386): A TRAIN block carries peer identity, FOM and echo for training and handshake. -/
  | chainTrainBlock (t : Nat) (port : Fin 4) (block : List Byte)
  /-- CHAIN_TIME_BLOCK (R387): A chain TIME block steers a member's show time. -/
  | chainTimeBlock (t : Nat) (port : Fin 4) (block : List Byte)
  /-- CHAIN_TIME_DUE (R387): Every 1 ms a member sends TIME on each port that is up. -/
  | chainTimeDue (t : Nat) (port : Fin 4)
  /-- CHAIN_HELD_TIMEOUT (R385): A packet held for a down port for 1 ms is discarded. -/
  | chainHeldTimeout (t : Nat) (port : Fin 4)
  /-- CHAIN_REGISTER_WRITE (R388): A KIND 0x1 packet applies a mirrored register write. -/
  | chainRegisterWrite (t : Nat) (port : Fin 4) (packet : List Byte)
  /-- CHAIN_COMMIT (R389): A KIND 0x2 packet sets GO with the named target, or applies late. -/
  | chainCommit (t : Nat) (port : Fin 4) (packet : List Byte)
  /-- CHAIN_MODE_COMMAND (R389): A KIND 0x3 packet carries a chain mode command to the named boundary. -/
  | chainModeCommand (t : Nat) (port : Fin 4) (packet : List Byte)
  /-- CHAIN_LATCH_DIGEST (R390): A KIND 0x5 digest from the partner is reconciled or compared. -/
  | chainLatchDigest (t : Nat) (port : Fin 4) (packet : List Byte)
  /-- CHAIN_PLY_OFF (R391): A KIND 0x6 packet makes the partner adopt a switch-off or shed. -/
  | chainPlyOff (t : Nat) (port : Fin 4) (packet : List Byte)
  /-- CHAIN_JOIN_FRAME (R398): A KIND 0x9 packet names the frame from which a joining member delivers. -/
  | chainJoinFrame (t : Nat) (port : Fin 4) (packet : List Byte)
  /-- CHAIN_SKEIN_RECORD (R388): A KIND 0x4 packet places a distributed skein record in the ring. -/
  | chainSkeinRecord (t : Nat) (port : Fin 4) (packet : List Byte)
  /-- CHAIN_SIGNED_OBJECT (R91): A KIND 0x7 packet carries a venue object to be verified and applied at the named boundary. -/
  | chainSignedObject (t : Nat) (port : Fin 4) (packet : List Byte)
  /-- CHAIN_JOIN_STATE (R398): A KIND 0x8 packet applies the mirrored state to a joining member. -/
  | chainJoinState (t : Nat) (port : Fin 4) (packet : List Byte)
  /-- DIGEST_TIMEOUT (R390): A digest not recognised within t_XCHG is replaced by the member's own result. -/
  | digestTimeout (t : Nat)
  /-- HEARTBEAT_DUE (R392): Every 1 ms a member sends its heartbeat on the chain and Ethernet. -/
  | heartbeatDue (t : Nat)
  /-- CHAIN_HB_BLOCK (R393): An HB block from a peer keeps its chain path up. -/
  | chainHbBlock (t : Nat) (port : Fin 4) (block : List Byte)
  /-- HEARTBEAT_DATAGRAM (R393): A heartbeat datagram from the partner keeps the Ethernet path up. -/
  | heartbeatDatagram (t : Nat) (port : Fin 2) (payload : List Byte)
  /-- HB_PATH_TIMEOUT (R393): No heartbeat on a path for t_PATH marks the path down. -/
  | hbPathTimeout (t : Nat) (path : Fin 2)
  /-- PARTNER_FAIL_TIMEOUT (R394): Both paths down for t_FAIL declare the partner failed; the survivor takes over. -/
  | partnerFailTimeout (t : Nat)
  /-- YIELD_CHECK (R395): At t_YIELD a lead checks its tiles and yields if most report partner lock. -/
  | yieldCheck (t : Nat)
  /-- IREF_TAKEUP_TIMEOUT (R397): After t_TAKEUP without partner lock the member sources whole IREF codes. -/
  | irefTakeupTimeout (t : Nat)
  /-- CHAIN_CTL_JOIN (R398): CHAIN_CTL.JOIN allows a member to join. -/
  | chainCtlJoin (t : Nat) (req : Requester)
  /-- CHAIN_CTL_HANDBACK (R399): CHAIN_CTL.HANDBACK moves the lead to the joined partner. -/
  | chainCtlHandback (t : Nat) (req : Requester)
  /-- CHAIN_CTL_TAKE (R399): CHAIN_CTL.TAKE moves the lead to this member. -/
  | chainCtlTake (t : Nat) (req : Requester)
  /-- CHAIN_CTL_YIELD (R399): CHAIN_CTL.YIELD moves the lead away from this member. -/
  | chainCtlYield (t : Nat) (req : Requester)
  /-- CHAIN_CTL_CLEAR (R401): CHAIN_CTL.CLEAR clears every CHAIN_PORT_CNT. -/
  | chainCtlClear (t : Nat) (req : Requester)
  /-- HLTH_SENSOR_ROUND (R403): A sampling round converts the die sensors and evaluates limits, suspicion and throttling. -/
  | hlthSensorRound (t : Nat) (readings : List Int)
  /-- HBM_STACK_SENSOR_READ (R261): Every 1 ms the stack sensors are read to choose the refresh multiplier. -/
  | hbmStackSensorRead (t : Nat) (sensors : List (Option Int))
  /-- HLTH_ROUND_OVERDUE (R405): A round not completed within twice its interval fails the sequencer self-check. -/
  | hlthRoundOverdue (t : Nat)
  /-- HLTH_ONDEMAND_READ (R405): After sequencer failure MC1 reads all sensors every 10 ms. -/
  | hlthOndemandRead (t : Nat) (readings : List Int)
  /-- THROTTLE_STEP2_TIMEOUT (R407): T_hot still at THROTTLE after 2 s in step 1 enters step 2. -/
  | throttleStep2Timeout (t : Nat)
  /-- THROTTLE_RELEASE_TIMEOUT (R406): T_hot below THROTTLE − 5 °C for 1 s releases the throttle. -/
  | throttleReleaseTimeout (t : Nat)
  /-- AVS_STEP (R410): Every 100 µs the controller sends a 5 mV VDD_CORE step toward its target. -/
  | avsStep (t : Nat)
  /-- AVS_RESPONSE (R450): An AVSBus response confirms a target or causes a resend. -/
  | avsResponse (t : Nat) (good : Bool)
  /-- CAL_MEASURE_DONE (R412): A calibration measurement completes and the item is resolved or measured again. -/
  | calMeasureDone (t : Nat) (item : Nat) (value : Nat)
  /-- CAL_MEASURE_TIMEOUT (R412): A calibration measurement exceeds 1 ms and counts as agreeing with nothing. -/
  | calMeasureTimeout (t : Nat) (item : Nat)
  /-- AGEING_MEASURE (R416): Once per hour every ring-oscillator pair is measured and logged. -/
  | ageingMeasure (t : Nat) (pairs : List (Nat × Nat))
  /-- HLTH_CTL_READ (R405): HLTH_CTL.READ reads every sensor now. -/
  | hlthCtlRead (t : Nat) (req : Requester)
  /-- HLTH_CTL_RESTORE (R415): HLTH_CTL.RESTORE restores factory trims in SERVICE. -/
  | hlthCtlRestore (t : Nat) (req : Requester)
  /-- HLTH_CTL_REPLAN (R418): HLTH_CTL.REPLAN starts a margin re-plan in SERVICE. -/
  | hlthCtlReplan (t : Nat) (req : Requester)
  /-- HLTH_REPLAN_DONE (R418): The margin re-plan completes and reports M. -/
  | hlthReplanDone (t : Nat) (pairs : List (Nat × Nat))
  /-- HLTH_CTL_CLEAR_SUSPECT (R404): HLTH_CTL.CLEAR_SUSPECT clears every suspect mark. -/
  | hlthCtlClearSuspect (t : Nat) (req : Requester)
  /-- EVT_RING_ENABLE (R430): Enabling the event ring resets its pointers and writes the early queue. -/
  | evtRingEnable (t : Nat) (req : Requester) (data : Word)
  /-- EVT_TAIL_WRITE (R430): A write to EVT_TAIL frees ring slots, allowing a pending overflow record. -/
  | evtTailWrite (t : Nat) (req : Requester) (data : Word)
  /-- EVT_RING_WRITE_ERROR (R430): A ring write ends in an error; EN clears and EVT_RING_ERROR enters the early queue. -/
  | evtRingWriteError (t : Nat) (slot : Nat) (reason : Nat)
  /-- MSIX_INTERVAL_END (R432): A vector's moderation interval ends and a pending message is sent. -/
  | msixIntervalEnd (t : Nat) (vector : Fin 32)
  /-- REF10M_INPUT_RETURN (R354): The 10 MHz reference input returns after a loss, and TB2 leaves holdover to follow it again. -/
  | ref10mInputReturn (t : Nat)
  /-- PRBS_CHECKER_LOCK (R228): A lane's PRBS checker sees 64 consecutive error-free bits, locks, sets CHK_LOCK and starts counting errors. -/
  | prbsCheckerLock (t : Nat) (lane : Fin 304)
  /-- PRBS_CHECKER_LOCK_LOSS (R228): A locked PRBS checker sees more than 32 errors in 64 bits, loses lock and stops counting. -/
  | prbsCheckerLockLoss (t : Nat) (lane : Fin 304)
  /-- GPIO_INPUT_CHANGE (R445): A GPIO ball changes level and, after the 1 µs deglitch, GLB_GPIO_IN takes the new level. -/
  | gpioInputChange (t : Nat) (ball : Fin 16) (level : Bool)
  /-- MSIX_VECTOR_UNMASK (R432): The host unmasks an MSI-X vector whose PBA bit is set, and the pending message is sent. -/
  | msixVectorUnmask (t : Nat) (vector : Fin 32)
  /-- SHAPED_QUEUE_ELIGIBLE (R372): A shaped queue's rising credit reaches 0 while it holds a frame, so the queue becomes eligible and may start transmitting on an idle port. -/
  | shapedQueueEligible (t : Nat) (port : Fin 2) (queue : Fin 8)
  /-- TRACE_PACKET_SENT (R446): A trace packet finishes leaving the trace port, freeing a queue slot and letting a pending loss marker or the next packet go. -/
  | tracePacketSent (t : Nat)
  /-- STRIP_REFRESH_PERIOD_START (R240): A refresh period of the STRIP band starts, and a band move recorded in STRIP takes effect on the IREF codes. -/
  | stripRefreshPeriodStart (t : Nat)
  deriving DecidableEq, Repr

/-- The control-clock cycle in which a command is recognised. -/
def Instr.cycle : Instr → Nat
  | .glbExpertWrite t _ _ => t
  | .fabricCtlClear t _ _ => t
  | .fabricParityError t _ _ _ _ _ _ _ => t
  | .fabricCriticalCauseExpiry t => t
  | .registerWrite t _ _ _ _ => t
  | .earlyHostAccess t _ _ _ => t
  | .modeCmdReset t _ => t
  | .modeCmdCastOn t _ => t
  | .modeCmdDeep t _ _ => t
  | .modeCmdStrip t _ _ => t
  | .modeCmdIdle t _ _ => t
  | .modeCmdPreview t _ _ => t
  | .modeCmdShow t _ _ => t
  | .modeCmdLive t _ _ => t
  | .modeCmdSwatch t _ _ => t
  | .modeCmdService t _ _ => t
  | .modeCmdBindOff t _ _ => t
  | .modeCmdSafe t _ _ => t
  | .modeTransitionDone t => t
  | .hbmAutoSelfRefresh t => t
  | .hbmSrExitDone t => t
  | .domainSwitchOnStart t => t
  | .domainPowerGood t _ => t
  | .domainPowerGoodTimeout t _ => t
  | .wakeNAsserted t => t
  | .por t => t
  | .powerGood t => t
  | .rstNRecognised t => t
  | .rstNReleased t => t
  | .pciePerstAsserted t _ => t
  | .pciePerstReleased t => t
  | .endpointReset t _ _ => t
  | .watchdogExpiry t _ => t
  | .softwareReset t _ _ => t
  | .resetPulseEnd t => t
  | .thermalTrip t => t
  | .thermalTripClear t => t
  | .supplyFault t _ => t
  | .supplyRecovered t => t
  | .blockReset t _ _ => t
  | .blockResetDone t _ => t
  | .flashPulseEnd t => t
  | .eraseSuspendPoll t _ => t
  | .eraseSuspendTimeout t => t
  | .rootPllLock t => t
  | .optionStatusPoll t _ => t
  | .optionBlockReadDone t _ => t
  | .castonFwStep t _ _ => t
  | .castonPatternStep t _ _ => t
  | .castonHbmStep t _ => t
  | .castonCalStep t => t
  | .castonPanelStepEnd t => t
  | .castonReady t => t
  | .handshakeAbsentTimeout t _ => t
  | .handshakeRepeat t _ => t
  | .secCmdAttest t _ => t
  | .secCmdFlashErase t _ => t
  | .secCmdFlashProgram t _ => t
  | .secCmdVerifyImage t _ => t
  | .secCmdEnrollKey t _ => t
  | .secCmdRevokeKey t _ => t
  | .secCmdConfirmFw t _ => t
  | .secCmdAdvanceFwSvn t _ => t
  | .secCmdAdvancePatSvn t _ => t
  | .secCmdComplete t _ _ => t
  | .leafJournalWriteDone t _ _ => t
  | .venueSubmit t _ => t
  | .venueVerifyDone t => t
  | .venueJournalWriteDone t _ _ => t
  | .cueTimeDue t _ => t
  | .cueDelayDue t _ => t
  | .secCueGo t _ _ => t
  | .cueModeCommand t _ => t
  | .cuePlaySkein t _ => t
  | .cueRegisterBatch t _ => t
  | .cueVenueSelect t _ => t
  | .plyDescWrite t _ _ _ _ => t
  | .plyFenceWrite t _ _ => t
  | .scanCommitGo t _ => t
  | .frameLatch t => t
  | .hbmRetimeDone t => t
  | .frameFlip t => t
  | .plyFetchDone t _ _ _ => t
  | .plyFetchFail t _ _ _ _ => t
  | .courseOpen t _ _ => t
  | .spanDone t _ _ _ _ => t
  | .cacheRefetchDone t _ => t
  | .tCutExpiry t _ => t
  | .reflattenDone t _ => t
  | .timeBlockDue t _ => t
  | .tileDelayEcho t _ => t
  | .backchannelFrame t _ _ => t
  | .tileBcTimeout t _ => t
  | .tileNoLockTimeout t _ => t
  | .tileBlankedTimeout t _ => t
  | .configTimeout t _ => t
  | .tileEnumeration t _ => t
  | .enumBcWaitTimeout t _ => t
  | .spkCtlReenum t _ _ => t
  | .spkCtlEcho t _ _ => t
  | .spkCtlClear t _ => t
  | .spkCfgwGo t _ => t
  | .laneStageDone t _ _ _ => t
  | .laneStageTimeout t _ => t
  | .laneRetryTimer t _ => t
  | .laneLockLoss t _ => t
  | .ptxPolarityTimeout t _ => t
  | .presetTryTimeout t _ => t
  | .laneCtlRetrain t _ _ => t
  | .laneCtlClear t _ _ => t
  | .laneCtlClearAll t _ => t
  | .laneFomUpdate t _ _ _ => t
  | .bgcalGrant t _ _ => t
  | .bgcalGrantLapse t _ _ => t
  | .laneTestWrite t _ _ _ => t
  | .laneInjWrite t _ _ _ => t
  | .loopTportLockLoss t => t
  | .loopMoveTimeout t => t
  | .loopLocked t => t
  | .laneLatencySlip t _ _ _ => t
  | .irefComplianceSample t _ _ => t
  | .thmSample t _ _ => t
  | .thmStaleTimeout t _ => t
  | .probeTimeout t _ => t
  | .powerupT0 t => t
  | .powerupDischargeEnd t => t
  | .irefRampUpStep t => t
  | .irefRampDownStep t => t
  | .bindoffDischarge t => t
  | .bindoffIdle t => t
  | .emitStripGo t _ => t
  | .emitStripBufWrite t _ _ _ => t
  | .stripWindowOpen t => t
  | .hbmRefreshTick t _ => t
  | .hbmReadParityError t _ _ _ => t
  | .hbmAlert t _ _ => t
  | .migrationPageDone t => t
  | .hbmCtlClearLost t _ => t
  | .hbmCtlMemtest t _ => t
  | .hbmCtlClearCnt t _ => t
  | .memtestDone t => t
  | .scrubRead t _ => t
  | .scrubDeferralTimeout t => t
  | .hankJobSubmit t _ => t
  | .hankJobComplete t _ => t
  | .needleSubmit t _ => t
  | .needleCmdIssue t => t
  | .needleFrogStop t _ _ => t
  | .needleCmdComplete t _ _ _ => t
  | .storeCtlOpen t _ => t
  | .storeOpenDone t => t
  | .storeCtlPlay t _ => t
  | .storeCtlClose t _ => t
  | .storeReady t => t
  | .storePrepDone t => t
  | .storePrepDeadline t => t
  | .nvmeCompletion t _ _ _ _ => t
  | .nvmeTimeout t _ _ => t
  | .nvmeControllerFatal t _ => t
  | .storeXferRead t _ _ => t
  | .storeXferWrite t _ _ => t
  | .storeXferFlush t _ _ => t
  | .storeXferDeallocate t _ _ => t
  | .storeXferSmartLog t _ _ => t
  | .storeXferDone t => t
  | .yarnDataFragment t _ _ => t
  | .yarnDescriptor t _ _ => t
  | .yarnCommit t _ _ => t
  | .yarnUpdateTimeout t _ _ => t
  | .dportWriteTlp t _ _ _ _ _ => t
  | .dportReadTlp t _ _ _ => t
  | .dportPtrWrite t _ _ _ _ => t
  | .dportDmaStart t _ _ _ _ => t
  | .dportDmaEntryDone t _ _ _ _ => t
  | .ethFrameRx t _ _ _ => t
  | .networkCueFrame t _ _ => t
  | .venueFragment t _ _ => t
  | .venueAssemblyTimeout t => t
  | .ptpSync t _ _ => t
  | .ptpFollowUp t _ _ => t
  | .ptpDelayResp t _ _ => t
  | .ptpAnnounce t _ _ => t
  | .ptpDelayReqDue t _ => t
  | .ptpSyncTimeout t _ => t
  | .ptpAnnounceTimeout t _ => t
  | .tb2RevertTimeout t => t
  | .ppsInEdge t => t
  | .timeRefTimeout t _ => t
  | .netLinkSettle t _ => t
  | .timeCmpAllocReq t _ => t
  | .timeCmpAllocFree t _ _ => t
  | .timeCmpFire t _ => t
  | .timePulseEnd t _ => t
  | .ppsOutSecond t => t
  | .ppsOutWidthEnd t => t
  | .timeCaptureEdge t _ _ => t
  | .timeCapFnsRead t _ => t
  | .timeCtlSnap t _ => t
  | .timeCtlSetTb3 t _ => t
  | .timeCtlSetTb2 t _ => t
  | .trafDeTimeout t _ => t
  | .trafEgressDone t _ => t
  | .trafHistSample t => t
  | .trafCtlClearCnt t _ => t
  | .trafCtlClearHist t _ => t
  | .chainDataBlock t _ _ => t
  | .chainAck t _ _ => t
  | .chainNak t _ _ => t
  | .chainAckDue t _ => t
  | .chainTrainBlock t _ _ => t
  | .chainTimeBlock t _ _ => t
  | .chainTimeDue t _ => t
  | .chainHeldTimeout t _ => t
  | .chainRegisterWrite t _ _ => t
  | .chainCommit t _ _ => t
  | .chainModeCommand t _ _ => t
  | .chainLatchDigest t _ _ => t
  | .chainPlyOff t _ _ => t
  | .chainJoinFrame t _ _ => t
  | .chainSkeinRecord t _ _ => t
  | .chainSignedObject t _ _ => t
  | .chainJoinState t _ _ => t
  | .digestTimeout t => t
  | .heartbeatDue t => t
  | .chainHbBlock t _ _ => t
  | .heartbeatDatagram t _ _ => t
  | .hbPathTimeout t _ => t
  | .partnerFailTimeout t => t
  | .yieldCheck t => t
  | .irefTakeupTimeout t => t
  | .chainCtlJoin t _ => t
  | .chainCtlHandback t _ => t
  | .chainCtlTake t _ => t
  | .chainCtlYield t _ => t
  | .chainCtlClear t _ => t
  | .hlthSensorRound t _ => t
  | .hbmStackSensorRead t _ => t
  | .hlthRoundOverdue t => t
  | .hlthOndemandRead t _ => t
  | .throttleStep2Timeout t => t
  | .throttleReleaseTimeout t => t
  | .avsStep t => t
  | .avsResponse t _ => t
  | .calMeasureDone t _ _ => t
  | .calMeasureTimeout t _ => t
  | .ageingMeasure t _ => t
  | .hlthCtlRead t _ => t
  | .hlthCtlRestore t _ => t
  | .hlthCtlReplan t _ => t
  | .hlthReplanDone t _ => t
  | .hlthCtlClearSuspect t _ => t
  | .evtRingEnable t _ _ => t
  | .evtTailWrite t _ _ => t
  | .evtRingWriteError t _ _ => t
  | .msixIntervalEnd t _ => t
  | .ref10mInputReturn t => t
  | .prbsCheckerLock t _ => t
  | .prbsCheckerLockLoss t _ => t
  | .gpioInputChange t _ _ => t
  | .msixVectorUnmask t _ => t
  | .shapedQueueEligible t _ _ => t
  | .tracePacketSent t => t
  | .stripRefreshPeriodStart t => t

end Sys2Proof
end

