-- ==== Sys2Proof/Decode.lean ====
section
/-! DEFINITION.  The command that a word spells.  Every row of the table is an operation or an event with operands and
without an encoding: the table gives no row a bit, so no word spells a command. -/

namespace Sys2Proof

/-- The command that a word of `nbits` bits spells by the bits of the table: none, as no row has any. -/
def decodeTableWord (nbits w : Nat) : Option Instr :=
  match nbits, w with
  | _, _ => none

end Sys2Proof
end

