-- ==== Sys2Proof/Machine/EventCodes.lean ====
section
/-! DEFINITION.  Event codes (Table 20-10, R436) and their severities (Table 20-4). -/

namespace Sys2Proof.Machine

namespace Ev
def EXPERT_LOCKED : Nat := 0x1
def FABRIC_UNCORR : Nat := 0x2
def FABRIC_CRITICAL : Nat := 0x3
def PIN_CONFLICT : Nat := 0x4
def MODE_ENTERED : Nat := 0x10
def MODE_REFUSED : Nat := 0x11
def SAFE_ENTERED : Nat := 0x12
def RESET_RECORD : Nat := 0x100
def OPTION_FALLBACK : Nat := 0x101
def CASTON_HALT : Nat := 0x102
def BLOCK_BUSY : Nat := 0x103
def EARLY_ACCESS : Nat := 0x104
def ENDPOINT_RESET : Nat := 0x105
def EARLY_QUEUE_OVERFLOW : Nat := 0x106
def CASTON_DONE : Nat := 0x107
def DOMAIN_FAIL : Nat := 0x200
def WRITE_REFUSED : Nat := 0x300
def EVT_RING_OVERFLOW : Nat := 0x301
def EVT_RING_ERROR : Nat := 0x302
def IMAGE_REJECTED : Nat := 0x400
def FW_FALLBACK : Nat := 0x401
def KEY_SLOT_CHANGED : Nat := 0x402
def SEC_CMD_DONE : Nat := 0x403
def SEC_REFUSED : Nat := 0x404
def OTP_TORN : Nat := 0x405
def ATTEST_LOW : Nat := 0x406
def VENUE_APPLIED : Nat := 0x407
def VENUE_REJECTED : Nat := 0x408
def VENUE_JOURNAL_FAIL : Nat := 0x409
def VENUE_LATE : Nat := 0x40A
def VENUE_CUE_OVERRIDDEN : Nat := 0x40B
def CUE_IGNORED : Nat := 0x40C
def PLY_REJECTED : Nat := 0x500
def PLY_FENCE_MISSED : Nat := 0x501
def PLY_DEACTIVATED : Nat := 0x502
def PLY_GROUP_UNFLATTENED : Nat := 0x503
def PLY_GROUP_FLATTENED : Nat := 0x504
def WARP_DEFAULTED : Nat := 0x600
def COLOUR_PRESET_DEFAULTED : Nat := 0x601
def RAY_SHED : Nat := 0x602
def RAY_PLY_OFF : Nat := 0x603
def RAY_OVERBUDGET : Nat := 0x604
def RAY_COURSE_HELD : Nat := 0x605
def SCAN_COMMIT_DEFERRED : Nat := 0x700
def SCAN_WINDOW_CLAMPED : Nat := 0x701
def SCAN_CADENCE_CHANGED : Nat := 0x702
def SCAN_CARRY_OVER : Nat := 0x703
def SCAN_EMIT_CLAMPED : Nat := 0x704
def SPK_TILE_ENUMERATED : Nat := 0x800
def SPK_TILE_MISMATCH : Nat := 0x801
def SPK_TILE_LOST : Nat := 0x802
def SPK_CONFIG_FAIL : Nat := 0x803
def SPK_FEC_UNCORR : Nat := 0x804
def SPK_STATUS_RANGE : Nat := 0x805
def SPK_FLIP_FAULT : Nat := 0x806
def LANE_TRAIN_FAIL : Nat := 0x900
def LANE_POLARITY : Nat := 0x901
def LANE_REVERSED : Nat := 0x902
def LANE_ORDER_FAIL : Nat := 0x903
def LANE_FOM_LOW : Nat := 0x904
def LANE_LOOP_STATE : Nat := 0x905
def LANE_LOOP_FAIL : Nat := 0x906
def LANE_LATENCY_SLIP : Nat := 0x907
def LANE_TEST_REFUSED : Nat := 0x908
def EMIT_BAND_CHANGE : Nat := 0xA00
def EMIT_THM_FAULT : Nat := 0xA01
def EMIT_ZONE_HOT : Nat := 0xA02
def EMIT_OPEN_EMITTER : Nat := 0xA03
def EMIT_PROBE_TIMEOUT : Nat := 0xA04
def EMIT_PROBE_DEFERRED : Nat := 0xA05
def EMIT_IREF_COMPLIANCE : Nat := 0xA06
def EMIT_STRIP_BUSY : Nat := 0xA07
def HBM_UNCORR : Nat := 0xB00
def HBM_RETIRE_START : Nat := 0xB01
def HBM_RETIRE_DONE : Nat := 0xB02
def HBM_DEGRADED : Nat := 0xB03
def HBM_LOST : Nat := 0xB04
def HBM_REWRITE_REQ : Nat := 0xB05
def HBM_SCRUB_FORCED : Nat := 0xB06
def HBM_REFRESH_RATE : Nat := 0xB07
def HBM_LIFELINE_LOST : Nat := 0xB08
def HBM_CMD_REFUSED : Nat := 0xB09
def HANK_JOB_DONE : Nat := 0xC00
def HANK_DECODE_ERROR : Nat := 0xC01
def HANK_JOB_REFUSED : Nat := 0xC02
def NEEDLE_CMD_DONE : Nat := 0xD00
def NEEDLE_REJECTED : Nat := 0xD01
def NEEDLE_FROGGED : Nat := 0xD02
def NEEDLE_FAILED : Nat := 0xD03
def STORE_OPENED : Nat := 0xE00
def STORE_REFUSED : Nat := 0xE01
def STORE_FRAME_LATE : Nat := 0xE02
def STORE_AHEAD_LOW : Nat := 0xE03
def STORE_END : Nat := 0xE04
def STORE_IO_ERROR : Nat := 0xE05
def STORE_DRIVE_FAIL : Nat := 0xE06
def STORE_DECODE_FAIL : Nat := 0xE07
def STORE_YARN_DROP : Nat := 0xE08
def STORE_DESC_OWNED : Nat := 0xE09
def STORE_XFER_DONE : Nat := 0xE0A
def DPORT_RANGE : Nat := 0xF00
def DPORT_DMA_DONE : Nat := 0xF01
def DPORT_DMA_ERROR : Nat := 0xF02
def DPORT_HBM_OFF : Nat := 0xF03
def NET_LINK_STATE : Nat := 0x1000
def NET_CUE_DROP : Nat := 0x1001
def TIME_TB_STATE : Nat := 0x1100
def TIME_TB2_SOURCE : Nat := 0x1101
def TIME_CONFLICT : Nat := 0x1102
def TIME_CMP_FIRED : Nat := 0x1103
def TIME_CAPTURE : Nat := 0x1104
def TIME_CAP_OVERFLOW : Nat := 0x1105
def TIME_REF_LOSS : Nat := 0x1106
def TRAF_POLICED : Nat := 0x1200
def TRAF_QUEUE_DROP : Nat := 0x1201
def TRAF_DE_RESET : Nat := 0x1202
def TRAF_DE_ROGUE : Nat := 0x1203
def CHAIN_JOINED : Nat := 0x1300
def CHAIN_PORT_DOWN : Nat := 0x1301
def CHAIN_PATH_ALARM : Nat := 0x1302
def CHAIN_PARTNER_FAILED : Nat := 0x1303
def CHAIN_LEAD_CHANGE : Nat := 0x1304
def CHAIN_YIELDED : Nat := 0x1305
def CHAIN_XCHG_LATE : Nat := 0x1306
def CHAIN_FLIP_HELD : Nat := 0x1307
def CHAIN_OFF_ADOPTED : Nat := 0x1308
def CHAIN_STATE_DIVERGED : Nat := 0x1309
def CHAIN_NOT_MASTER : Nat := 0x130A
def CHAIN_COMMIT_LATE : Nat := 0x130B
def CHAIN_MEMBER_LOST : Nat := 0x130C
def CHAIN_CTL_REFUSED : Nat := 0x130D
def CHAIN_IREF_FULL : Nat := 0x130E
def HLTH_WARN : Nat := 0x1400
def HLTH_THROTTLE : Nat := 0x1401
def HLTH_RISE : Nat := 0x1402
def HLTH_SENSOR_SUSPECT : Nat := 0x1403
def HLTH_SEQ_FAIL : Nat := 0x1404
def CAL_FAIL : Nat := 0x1405
def HLTH_CAL_RESTORED : Nat := 0x1406
def HLTH_REPLAN_DONE : Nat := 0x1407
def HLTH_HBM_SENSOR : Nat := 0x1408
def HLTH_CMD_REFUSED : Nat := 0x1409
end Ev

/-- Codes of severity Info. -/
def codesInfo : List Nat := [0x10, 0x100, 0x107, 0x402, 0x403, 0x407, 0x501, 0x504, 0x700, 0x702, 0x800, 0x901, 0x902, 0xA00, 0xA05, 0xB06, 0xB07, 0xC00, 0xD00, 0xD02, 0xE00, 0xE04, 0xE0A, 0xF01, 0x1103, 0x1104, 0x1300, 0x1307, 0x130E, 0x1406, 0x1407]
/-- Codes of severity Error. -/
def codesError : List Nat := [0x2, 0x302, 0x405, 0x409, 0x605, 0x801, 0x802, 0x900, 0x903, 0x906, 0x907, 0xA06, 0xB00, 0xB01, 0xB03, 0xB08, 0xD03, 0xE06, 0xF02, 0x1301, 0x1309, 0x130C, 0x1404]
/-- Codes of severity Critical. -/
def codesCritical : List Nat := [0x3, 0x12, 0x102, 0x200, 0x1303]

/-- Severity of an event code: 0 Info, 1 Warning, 2 Error, 3 Critical (Table 20-4). -/
def severity (code : Nat) : Nat :=
  if codesInfo.contains code then 0 else if codesError.contains code then 2
  else if codesCritical.contains code then 3 else 1

end Sys2Proof.Machine
end

