-- ==== Sys2Proof/Config.lean ====
section
/-! DEFINITION.  What the manual leaves open, as constants without a body: nothing can
prove a value of one, so a statement that holds here holds for every value.  Each names
the rule that leaves it open. -/

namespace Sys2Proof.Config

/-! ## What the standards of R84 leave to the signer -/

/-- Per-message secret number of FIPS 186-5, before it is reduced: private key, digest. -/
opaque ecdsaNonce : Nat → List Byte → Nat
/-- Byte of the randomiser of RFC 8554: seed, leaf, message, position. -/
opaque lmsRandomizer : List Byte → Nat → List Byte → Nat → Byte
/-- Byte of the seed (0 to 31) and identifier (32 to 47) of a subtree of the attestation key, which RFC 8554 leaves to the signer:
the 48 bytes that HKDF yields, subtree, position. -/
opaque subtreeKey : List Byte → Nat → Nat → Byte

/-! ## Values the manual leaves to the implementation -/

/-- Which of the codes within 1 LSB of the exact function a decoded gamma or PQ component takes (R127).
Arguments: container, transfer, reference white, the three inputs in 1/4,096, the factor of step 8, the component. -/
opaque decodeError : Nat → Nat → Nat → List Nat → Rat → Nat → Nat
/-- Content of HBM that nothing defines: content epoch, byte address (R36, R38, R47, R55). -/
opaque undefinedByte : Nat → Nat → Byte
/-- Bytes read from HBM for a frame's ply fetches, which depend on line replacement (RAY_PERF_FETCH): frame count. -/
opaque fetchBytes : Nat → Nat
/-- Addend of TB0 or TB1 after a Sync, from the PI loop whose gains R347 does not give:
time base, bandwidth code, offset, previous addend. -/
opaque servoAddend : Nat → Nat → Int → Nat → Nat
/-- Trim value in effect of a calibration item when the manual gives none (R411): item, cycle. -/
opaque trimValue : Nat → Nat → Nat

/-- Field of a timing register as HBM training finds it (R470): content epoch, timing set, word, field. -/
opaque trainedField : Nat → Nat → Nat → Nat → Nat

/-- How far an OTP burn that a reset cuts short got (R54, R76): index of the cut. -/
opaque burnCut : Nat → Nat
/-- Which flashes completed a journal entry whose write a reset met (R54, R87): index of the reset. -/
opaque journalCut : Nat → Nat
/-- Sector of a flash erase that was in progress when a reset met it (R55): index of the reset. -/
opaque suspendedSector : Nat → Nat

/-- Word of a boot-log record, whose layout Table 3-8 does not give: step, result, time in µs, word. -/
opaque bootWord : Nat → Nat → Nat → Nat → Nat

/-- Row argument of OTP_TORN, whose coding R76 and R94 do not give: slot class (0 vendor, 1 customer), slot number. -/
opaque otpRow : Nat → Nat → Nat
/-- Which code of Table 4-3 a refusal reports that R77 states without a code; the argument tells the cases apart. -/
opaque secReason : Nat → Nat

/-- FERR as the time unit measures it when the 10 MHz input returns (TIME_REF_STAT): index of the measurement. -/
opaque refError : Nat → Nat

/-- LANE_LOOP_STAT.FOFS as measured at a cycle while the loop follows a port or holds over (log entry 147). -/
opaque loopOffset : Nat → BitVec 16

/-- A TEMP field for a temperature that signed 8.8 cannot hold: no rule states what it shows (log entry 145); index of the value. -/
opaque tempField : Nat → BitVec 16

/-- RAW_SIZE of a block whose header lies in what a fabric error or a lost block made unreadable (R286): content epoch, address of
the header. -/
opaque unreadSize : Nat → Nat → Nat
/-- Source bytes that a Hank job had read when a fabric error ended it whose address lies in neither of its ranges (R20): index of
the error. -/
opaque fabricCut : Nat → Nat

/-- Tokens that a compressor finds for a block (R285 fixes no choice among equal codings): history newest byte first, block. -/
opaque hankTokens : List Byte → List Byte → List Byte

/-- Word of a HLTH_LOG record, whose layout R416 does not give: kind (0 lanes, 1 HBM windows, 2 IREF), hour, values logged, word. -/
opaque logWord : Nat → Nat → List Nat → Nat → Nat

/-- Turnaround of an ECHO answer on a chain port, 20.4 ns (R386): index of the answer. -/
opaque echoTurnaround : Nat → BitVec 24

/-- Bytes beyond the pointer that a data port prefetches, up to 4 KiB (R332): index of the read. -/
opaque prefetchLength : Nat → Nat

/-- Place of a yarn update in the staging area (R327: the spec gives the area, not where an update lies in it). -/
opaque stagingPlace : Nat → Nat

/-- Lines of a page that a migration has copied (R272 gives its rate an upper limit only): page, cycles since the migration started. -/
opaque linesCopied : Nat → Nat → Nat
/-- Commands of a pseudo-channel that an alert makes the controller reissue (R264): index of the alert, pseudo-channel. -/
opaque reissued : Nat → Nat → Nat
/-- Stripes that a Needle command has written when an uncorrectable HBM error ends it (R265, R306): index of the error. -/
opaque stripesWritten : Nat → Nat

/-- Control cycles of IDLE that the formatter sent between needing a span and its coming (R160), which depend on what it had still to
send: index of the wait. -/
opaque stallPart : Nat → Nat

/-- Stitch that fills a data block beyond a course's rays or before a HOLD_RUN, which tiles ignore (R191): frame count, position. -/
opaque padStitch : Nat → Nat → BitVec 32

/-- Contents of a transmitter's scrambler before its first block (R183 gives none): lane. -/
opaque scramblerSeed : Nat → Nat
/-- Which message symbol of block slots 10 to 19 an injection inverts (R230 gives their number): lane, codeword, index. -/
opaque injectedSymbol : Nat → Nat → Nat → Nat
/-- Contents of a test generator before its first bit (R228 gives none): lane. -/
opaque prbsSeed : Nat → Nat
/-- Bit errors that a lane's checker finds in a cycle (R228), which the far end decides: lane, cycle. -/
opaque prbsErrors : Nat → Nat → Nat
/-- Bits per control cycle of an NVMe lane under test, whose generation R228 does not give. -/
opaque nvmeTestBits : Nat

end Sys2Proof.Config
end

