-- ==== Sys2Proof/Machine/Ply.lean ====
section
/-! DEFINITION.  Plies as values: the descriptor fields of Table 5-8, the planes of
Table 5-3, the geometry of R95 to R97, the flatten-group conditions of R113 and the
commit-time checks of Table 5-5, as functions of the numbers they need. -/

namespace Sys2Proof.Machine

/-- The fields of one descriptor (Table 5-8). -/
structure Desc where
  base : Nat
  layout : Nat
  aplane : Nat
  container : Nat
  transfer : Nat
  narrow : Bool
  rot : Nat
  mirror : Bool
  premul : Bool
  w : Nat
  h : Nat
  pitch : Nat
  scaleX : Nat
  scaleY : Nat
  offX : Int
  offY : Int
  disp : Int
  tiltX : Int
  tiltY : Int
  alpha : Nat
  order : Nat
  shed : Nat
  active : Bool
  group : Nat
  viewMask : Nat
  maskRgb : Nat
  fenceId : Nat
  fenceEn : Bool
  fenceVal : Nat
  deriving DecidableEq, Repr

/-- The descriptor that sixteen words hold, in register order (Table 5-8). -/
def Desc.ofWords (w : Nat → Word) : Desc :=
  let fmt := w 2
  let ctl := w 12
  { base := (w 0).field 12 20 * 4096 + (w 1).field 0 3 * 2 ^ 32
    layout := fmt.field 0 4, aplane := fmt.field 4 2, container := fmt.field 6 2
    transfer := fmt.field 8 2, narrow := fmt.bit 10, rot := fmt.field 12 2
    mirror := fmt.bit 14, premul := fmt.bit 15
    w := (w 3).field 0 16, h := (w 3).field 16 16, pitch := (w 4).field 0 21
    scaleX := (w 5).field 0 24, scaleY := (w 6).field 0 24
    offX := signed 24 ((w 7).field 0 24), offY := signed 24 ((w 8).field 0 24)
    disp := signed 16 ((w 9).field 0 16)
    tiltX := signed 16 ((w 10).field 0 16), tiltY := signed 16 ((w 10).field 16 16)
    alpha := (w 11).field 0 16
    order := ctl.field 0 6, shed := ctl.field 8 3, active := ctl.bit 11
    group := ctl.field 12 4, viewMask := ctl.field 16 16
    maskRgb := (w 13).field 0 30
    fenceId := (w 14).field 0 6, fenceEn := (w 14).bit 8, fenceVal := (w 15).toNat }

/-- The venue ply's descriptor as R108 takes it: its buffer at `base`, no depth, every view. -/
def Desc.asVenue (d : Desc) (base : Nat) : Desc :=
  { d with base := base, disp := 0, tiltX := 0, tiltY := 0, shed := 0, viewMask := 0xFFFF,
           group := 0, order := 0, active := true, fenceEn := false }

/-- A YCbCr layout (Table 5-2). -/
def Desc.isYcc (d : Desc) : Bool := 2 ≤ d.layout && d.layout ≤ 7
/-- A mask layout (Table 5-2). -/
def Desc.isMask (d : Desc) : Bool := d.layout == 8 || d.layout == 9
/-- Bytes per texel of the first plane (Table 5-2). -/
def Desc.bytesPerTexel (d : Desc) : Nat :=
  match d.layout with
  | 0 => 4 | 1 => 8 | 2 => 1 | 3 => 2 | 4 => 1 | 5 => 2 | 6 => 1 | 7 => 2 | 8 => 1 | _ => 2
/-- Bits per sample (Table 5-2). -/
def Desc.depth (d : Desc) : Nat :=
  match d.layout with
  | 1 => 16 | 3 => 10 | 5 => 10 | 7 => 10 | 9 => 10 | _ => 8
/-- Chroma halved across (4:2:2 and 4:2:0). -/
def Desc.halfX (d : Desc) : Bool := 4 ≤ d.layout && d.layout ≤ 7
/-- Chroma halved down (4:2:0). -/
def Desc.halfY (d : Desc) : Bool := d.layout == 6 || d.layout == 7

/-- Round up to a multiple of 4 KiB (R100). -/
def align4k (n : Nat) : Nat := (n + 4095) / 4096 * 4096

/-- Base, pitch and rows of the CbCr plane (Table 5-3). -/
def Desc.chroma (d : Desc) : Nat × Nat × Nat :=
  (d.base + align4k (d.pitch * d.h), if d.halfX then d.pitch else 2 * d.pitch,
   if d.halfY then d.h / 2 else d.h)

/-- Base, pitch and rows of the alpha plane (Table 5-3). -/
def Desc.alphaPlane (d : Desc) : Nat × Nat × Nat :=
  let c := d.chroma
  (c.1 + align4k (c.2.1 * c.2.2), d.pitch * d.aplane / d.bytesPerTexel, d.h)

/-- First byte past the ply's extent (R100). -/
def Desc.extentEnd (d : Desc) : Nat :=
  if d.isYcc then
    if d.aplane == 0 then let c := d.chroma; c.1 + c.2.1 * c.2.2
    else let a := d.alphaPlane; a.1 + a.2.1 * a.2.2
  else d.base + d.pitch * d.h

/-- Oriented extent W_o × H_o (Table 5-1). -/
def Desc.oriented (d : Desc) : Nat × Nat := if d.rot == 1 || d.rot == 3 then (d.h, d.w) else (d.w, d.h)

/-! ## Activity, order and groups -/

/-- `a` composites before `b`: ascending ORDER, then ascending index (R106). -/
def before (a b : Nat × Desc) : Bool := a.2.order < b.2.order || (a.2.order == b.2.order && a.1 < b.1)

/-- Insert an indexed descriptor into a list in compositing order. -/
def insertOrder (x : Nat × Desc) : List (Nat × Desc) → List (Nat × Desc)
  | [] => [x]
  | y :: ys => if before x y then x :: y :: ys else y :: insertOrder x ys

/-- Active descriptors in compositing order (R106). -/
def compositing (ds : List (Nat × Desc)) : List (Nat × Desc) :=
  (ds.filter fun x => x.2.active).foldr insertOrder []

/-- An entry of the compositing order: a descriptor, or the flat ply of a group (R114). -/
structure PlyRef where
  /-- descriptor number, or 0x100 + g for the flat ply of group g (Table 7-6) -/
  id : Nat
  desc : Desc
  /-- a flat ply, whose texels are stored decoded (R129) -/
  flat : Bool
  /-- descriptors that the entry stands for -/
  members : List Nat
  /-- the venue ply (R107) -/
  venue : Bool
  /-- content change that the venue ply shows, which takes no new descriptor (R177) -/
  gen : Nat := 0
  deriving DecidableEq, Repr

/-- The first condition of R113 that fails, as a code of Table 5-6; 0 when conditions 1 to 3 and the scale hold. -/
def groupReason (order : List (Nat × Desc)) (g scale : Nat) : Nat :=
  let m := order.filter fun x => x.2.group == g
  match m with
  | [] => 1
  | [_] => 1
  | x :: xs =>
    if !(xs.all fun y => y.2.disp == x.2.disp && y.2.tiltX == x.2.tiltX && y.2.tiltY == x.2.tiltY) then 2
    else if !(xs.all fun y => y.2.viewMask == x.2.viewMask) then 3
    else
      let span := ((order.dropWhile fun y => y.2.group != g).reverse.dropWhile fun y => y.2.group != g)
      if !(span.all fun y => y.2.group == g) then 4
      else if 0x20000 < scale then 6
      else 0

/-! ## Fences -/

/-- Fence value `cur` has reached `val` modulo 2^32 as a signed number (R111). -/
def fenceReached (cur val : Nat) : Bool := 0 ≤ signed 32 (cur + 2 ^ 32 - val % 2 ^ 32)

/-! ## Commit-time checks (Table 5-5) -/

/-- PLY_FORMAT: a combination that R103 rejects. -/
def Desc.badFormat (d : Desc) : Bool :=
  (!d.isYcc && d.aplane != 0) || (d.layout == 1 && (d.transfer != 0 || d.narrow)) ||
  (d.isYcc && d.container == 2) || (d.isMask && d.narrow)

/-- PLY_SUBSAMPLE (R101). -/
def Desc.badSubsample (d : Desc) : Bool := (d.halfX && d.w % 2 == 1) || (d.halfY && d.h % 2 == 1)

/-- PLY_PITCH. -/
def Desc.badPitch (d : Desc) : Bool := d.pitch < d.w * d.bytesPerTexel

/-- PLY_BASE: the extent passes the usable range or reaches the venue area (R12, R109). -/
def Desc.badBase (d : Desc) (usable venueBase : Nat) : Bool := usable < d.extentEnd || venueBase < d.extentEnd

/-- PLY_SCALE (R97). -/
def Desc.badScale (d : Desc) : Bool := 0x20000 < d.scaleX || 0x20000 < d.scaleY

/-- A tile as the depth budget and the projection see it (R150, R152). -/
structure TileGeom where
  x0 : Int
  y0 : Int
  tw : Nat
  th : Nat
  /-- M_t in 2^−12 view steps -/
  reach : Nat
  deriving DecidableEq, Repr

/-- Panel rectangle as (left, right, top, bottom) rationals. -/
def Desc.extent (d : Desc) : Rat × Rat × Rat × Rat :=
  let o := d.oriented
  let x : Rat := (d.offX : Rat) / 256
  let y : Rat := (d.offY : Rat) / 256
  (x, x + (o.1 : Rat) * 65536 / (d.scaleX : Rat), y, y + (o.2 : Rat) * 65536 / (d.scaleY : Rat))

/-- The reach rectangle Q of R150 before widening; none when the closed rectangles do not meet. -/
def reachRect (d : Desc) (g : TileGeom) : Option (Rat × Rat × Rat × Rat) :=
  let e := d.extent
  let l := max (g.x0 : Rat) e.1
  let r := min ((g.x0 + g.tw : Int) : Rat) e.2.1
  let t := max (g.y0 : Rat) e.2.2.1
  let b := min ((g.y0 + g.th : Int) : Rat) e.2.2.2
  if l ≤ r ∧ t ≤ b then some (l - 49, r + 49, t - 49, b + 49) else none

/-- Local disparity of R95 at a panel point, exact. -/
def Desc.disparity (d : Desc) (x y : Rat) : Rat :=
  (d.disp : Rat) / 4096 + (d.tiltX : Rat) / 4096 * (x - (d.offX : Rat) / 256) / 1024
    + (d.tiltY : Rat) / 4096 * (y - (d.offY : Rat) / 256) / 1024

/-- |q| of a rational. -/
def ratAbs (q : Rat) : Rat := if q < 0 then -q else q

/-- R150 on one tile: S ≤ 48, or an empty reach rectangle. -/
def depthOk (d : Desc) (nu nv : Nat) (g : TileGeom) : Bool :=
  match reachRect d g with
  | none => true
  | some (l, r, t, b) =>
    let dm := max (max (ratAbs (d.disparity l t)) (ratAbs (d.disparity r t)))
                  (max (ratAbs (d.disparity l b)) (ratAbs (d.disparity r b)))
    let u : Rat := ((max nu nv : Nat) - 1 : Rat) / 2 + (g.reach : Rat) / 4096
    let sc : Rat := max 1 (max ((d.scaleX : Rat) / 65536) ((d.scaleY : Rat) / 65536))
    decide (dm * u * sc ≤ 48)

/-- What the checks of Table 5-5 need beside the descriptor. -/
structure CheckEnv where
  usable : Nat
  venueBase : Nat
  nu : Nat
  nv : Nat
  tiles : List TileGeom

/-- First failing check of Table 5-5 for a flip, 0 when none fails; a flip that clears ACTIVE is held to PLY_FORMAT only (R116). -/
def Desc.check (d : Desc) (e : CheckEnv) : Nat :=
  if d.badFormat then 1
  else if !d.active then 0
  else if d.badSubsample then 2
  else if d.badPitch then 3
  else if d.badBase e.usable e.venueBase then 4
  else if d.badScale then 5
  else if !(e.tiles.all (depthOk d e.nu e.nv)) then 6
  else 0

/-- Re-check of an active ply whose flip was not applied (R116): PLY_DEPTH_BUDGET or PLY_BASE, in table order. -/
def Desc.recheck (d : Desc) (e : CheckEnv) : Nat :=
  if d.badBase e.usable e.venueBase then 4 else if !(e.tiles.all (depthOk d e.nu e.nv)) then 6 else 0

/-- Checks of a venue descriptor (R108): Table 5-5 without the depth budget and the active limit, the buffer `len` bytes long. -/
def Desc.venueBad (d : Desc) (len : Nat) : Bool :=
  d.badFormat || d.badSubsample || d.badPitch || d.badScale || len < d.extentEnd - d.base

/-- View region of view (iu, iv) (R105). -/
def viewRegion (nu nv iu iv : Nat) : Nat := 4 * (iv * 4 / nv) + iu * 4 / nu

end Sys2Proof.Machine
end

