-- ==== Sys2Proof/Machine/RayMath.lean ====
section
/-! DEFINITION.  Ray synthesis to the bit (R118 to R142, R471): warp, sample position,
texel decode, filtering, compositing, the colour stage, dither and packing, as functions
of the latched values and of a byte reader of HBM. -/

namespace Sys2Proof.Machine

/-! ## Rounding (R118) -/

/-- rnd_n of a rational, in units of 2^−n. -/
def rnd (n : Nat) (x : Rat) : Int := (x * (2 ^ n : Nat) + 1 / 2).floor
/-- rnd of `a / 2^k` for an integer `a`. -/
def rshr (a : Int) (k : Nat) : Int := (a + 2 ^ k / 2) / 2 ^ k
/-- sat to a signed format of `bits` bits. -/
def satS (bits : Nat) (x : Int) : Int := clampInt (-(2 ^ (bits - 1) : Nat)) ((2 ^ (bits - 1) : Nat) - 1) x

/-! ## Views and warp -/

/-- Centred view coordinate in 2^−12 (R119). -/
def centred (n i : Nat) : Int := (2 * (i : Int) - ((n : Int) - 1)) * 2048

/-- Warp data of one tile: grid nodes and direction entries as (x, y) pairs in 2^−12. -/
structure WarpSet where
  node : Nat → Int × Int
  dir : Nat → Int × Int

/-- Warped view coordinates (u', v') in 2^−12 of hogel (lx, ly) of a tw × th tile (R122). -/
def warped (w : WarpSet) (tw th lx ly nu nv iu iv : Nat) : Int × Int :=
  let fx : Rat := ((2 * lx + 1 : Nat) : Rat) * 8 / (tw : Rat)
  let fy : Rat := ((2 * ly + 1 : Nat) : Rat) * 8 / (th : Rat)
  let i0 := min fx.floor.toNat 15
  let j0 := min fy.floor.toNat 15
  let wx := rnd 12 (fx - (i0 : Rat))
  let wy := rnd 12 (fy - (j0 : Rat))
  let n := fun i j => w.node (17 * j + i)
  let mix := fun (f : Int × Int → Int) =>
    rshr ((4096 - wx) * (4096 - wy) * f (n i0 j0) + wx * (4096 - wy) * f (n (i0 + 1) j0)
      + (4096 - wx) * wy * f (n i0 (j0 + 1)) + wx * wy * f (n (i0 + 1) (j0 + 1))) 24
  let e := w.dir (iv * nu + iu)
  (centred nu iu + mix Prod.fst + e.1, centred nv iv + mix Prod.snd + e.2)

/-- Index of a node or view after the conversion of R124, in an image of w × h; mirror first. -/
def turnIndex (rot : Nat) (mirror : Bool) (w h i : Nat) : Nat :=
  let x := i % w
  let y := i / w
  -- native (x, y) is the stored texel; its displayed place follows Table 5-1
  let ow := if rot == 1 || rot == 3 then h else w
  let p : Nat × Nat :=
    match rot with
    | 0 => (x, y)
    | 1 => (h - 1 - y, x)
    | 2 => (w - 1 - x, h - 1 - y)
    | _ => (y, w - 1 - x)
  let px := if mirror then ow - 1 - p.1 else p.1
  p.2 * ow + px

/-- Negation that saturates at signed 3.12 (R124). -/
def negSat (v : Int) : Int := satS 16 (-v)

/-- An offset vector turned with the tile: a mirror negates the first component, then the rotation (R124). -/
def turnVector (rot : Nat) (mirror : Bool) (d : Int × Int) : Int × Int :=
  let a := if mirror then (negSat d.1, d.2) else d
  match rot with
  | 0 => a
  | 1 => (negSat a.2, a.1)
  | 2 => (negSat a.1, negSat a.2)
  | _ => (a.2, negSat a.1)

/-! ## Sample position (R95, R96, R126) -/

/-- Stored texel coordinates (a, b) of displayed coordinates (s, t), all in 1/256 (R96, Table 5-1). -/
def orientCoord (d : Desc) (s0 t : Int) : Int × Int :=
  let s := if d.mirror then 256 * (d.oriented.1 : Int) - s0 else s0
  match d.rot with
  | 0 => (s, t)
  | 1 => (t, 256 * (d.h : Int) - s)
  | 2 => (256 * (d.w : Int) - s, 256 * (d.h : Int) - t)
  | _ => (256 * (d.w : Int) - t, s)

/-- Stored texel coordinates (a, b) in 1/256 of a ply at hogel (hx, hy) under view (u', v'). -/
def samplePos (d : Desc) (hx hy : Int) (u v : Int) (venue : Bool) : Int × Int :=
  let dx := 256 * hx + 128 - d.offX
  let dy := 256 * hy + 128 - d.offY
  let ld := if venue then 0 else satS 26 (d.disp * 16 + rshr (d.tiltX * dx + d.tiltY * dy) 14)
  let ex := dx * 256 + rshr (ld * u) 12
  let ey := dy * 256 + rshr (ld * v) 12
  orientCoord d (satS 27 (rshr (ex * (d.scaleX : Int)) 24)) (satS 27 (rshr (ey * (d.scaleY : Int)) 24))

/-- The same at a panel position in hogels, with u' = v' = 0 (R308). -/
def samplePosAt (d : Desc) (x y : Rat) : Int × Int :=
  let at' (p : Rat) (off : Int) (scale : Nat) : Int := satS 27 (rnd 8 ((p - (off : Rat) / 256) * (scale : Rat) / 65536))
  orientCoord d (at' x d.offX d.scaleX) (at' y d.offY d.scaleY)

/-! ## Texel decode (R127 to R129) -/

/-- Largest `y < 2^bits` with `p y`, for a predicate that holds on an initial range. -/
def bisect (p : Nat → Bool) : Nat → Nat → Nat
  | 0, r => r
  | k + 1, r => if p (r + 2 ^ k) then bisect p k (r + 2 ^ k) else bisect p k r

/-- rnd(scale × x^(p/q)) for 0 ≤ x ≤ 4, by bisection on integers. -/
def powScaled (x : Rat) (p q scale : Nat) : Nat :=
  let a := x.num.toNat ^ p * (2 * scale) ^ q
  let b := x.den ^ p
  bisect (fun y => y == 0 || (2 * y - 1) ^ q * b ≤ a) 70 0

/-- Gamma 2.6 of k / 4,096, in 2^−40 (R127 step 5). -/
def gamma26 (k : Nat) : Nat := powScaled ((k : Rat) / 4096) 13 5 (2 ^ 40)

/-- SMPTE ST 2084 EOTF of k / 4,096, in 2^−40 of 10,000 cd/m² (R127 step 5). -/
def pqEotf (k : Nat) : Nat :=
  let v : Rat := (powScaled ((k : Rat) / 4096) 32 2523 (2 ^ 60) : Rat) / (2 ^ 60 : Nat)
  let num := v - 107 / 128
  if num ≤ 0 then 0 else powScaled (num / (2413 / 128 - 2392 / 128 * v)) 8192 1305 (2 ^ 40)

/-- A 3 × 3 matrix of rationals, rows first. -/
abbrev Mat3 := List (List Rat)

def Mat3.at (m : Mat3) (r c : Nat) : Rat := (m.getD r []).getD c 0
def Mat3.of (f : Nat → Nat → Rat) : Mat3 := (List.range 3).map fun r => (List.range 3).map fun c => f r c
def Mat3.mul (a b : Mat3) : Mat3 := Mat3.of fun r c => a.at r 0 * b.at 0 c + a.at r 1 * b.at 1 c + a.at r 2 * b.at 2 c
def Mat3.apply (m : Mat3) (v : List Rat) : List Rat :=
  (List.range 3).map fun r => m.at r 0 * v.getD 0 0 + m.at r 1 * v.getD 1 0 + m.at r 2 * v.getD 2 0
/-- Cofactor of element (r, c). -/
def Mat3.cof (m : Mat3) (r c : Nat) : Rat :=
  m.at ((r + 1) % 3) ((c + 1) % 3) * m.at ((r + 2) % 3) ((c + 2) % 3)
    - m.at ((r + 1) % 3) ((c + 2) % 3) * m.at ((r + 2) % 3) ((c + 1) % 3)
def Mat3.det (m : Mat3) : Rat := m.at 0 0 * m.cof 0 0 + m.at 0 1 * m.cof 0 1 + m.at 0 2 * m.cof 0 2
def Mat3.inv (m : Mat3) : Mat3 := let d := m.det; Mat3.of fun r c => m.cof c r / d

/-- XYZ of a chromaticity at Y = 1. -/
def xyzOf (xy : Rat × Rat) : List Rat := [xy.1 / xy.2, 1, (1 - xy.1 - xy.2) / xy.2]

/-- Matrix from RGB of the primaries to XYZ, by the method of SMPTE RP 177: equal drive gives the white point at Y = 1. -/
def rgbToXyz (r g b white : Rat × Rat) : Mat3 :=
  let p := Mat3.of fun i c => (xyzOf (match c with | 0 => r | 1 => g | _ => b)).getD i 0
  let s := p.inv.apply (xyzOf white)
  Mat3.of fun i c => p.at i c * s.getD c 0

def whiteD65 : Rat × Rat := (3127 / 10000, 3290 / 10000)
def whiteDci : Rat × Rat := (3140 / 10000, 3510 / 10000)
/-- BT.2020 primaries with D65: the working space. -/
def xyz2020 : Mat3 := rgbToXyz (708 / 1000, 292 / 1000) (170 / 1000, 797 / 1000) (131 / 1000, 46 / 1000) whiteD65
def xyz709 : Mat3 := rgbToXyz (640 / 1000, 330 / 1000) (300 / 1000, 600 / 1000) (150 / 1000, 60 / 1000) whiteD65
def xyzP3 : Mat3 := rgbToXyz (680 / 1000, 320 / 1000) (265 / 1000, 690 / 1000) (150 / 1000, 60 / 1000) whiteDci

/-- Container matrix of R127 step 6. -/
def containerMatrix (container : Nat) : Mat3 :=
  match container with
  | 0 => xyz2020.inv.mul xyz709
  | 2 => xyz2020.inv.mul xyzP3
  | _ => Mat3.of fun r c => if r = c then 1 else 0

/-- A texel, a decoded sample or a blend operand: colour in 2^−14 and alpha in 2^−15. -/
structure Texel where
  r : Nat
  g : Nat
  b : Nat
  a : Nat
  deriving DecidableEq, Repr

def Texel.zero : Texel := ⟨0, 0, 0, 0⟩

/-- Limit a rational to the range lo to hi. -/
def clampRat (lo hi x : Rat) : Rat := if x < lo then lo else if hi < x then hi else x

/-- Value of a binary16 under R103: clamped to 0 to 1, NaN 0. -/
def half (h : Nat) : Rat :=
  let e := (h / 1024) % 32
  let m := h % 1024
  if 32768 ≤ h then 0
  else if e == 31 then (if m == 0 then 1 else 0)
  else clampRat 0 1 (if e == 0 then (m : Rat) / 2 ^ 24 else ((1024 + m : Nat) : Rat) * (2 ^ e : Nat) / 2 ^ 25)

/-- The code that a gamma or PQ component takes: one within 1 LSB of the exact value `x`, in 2^−14 and saturated (R118, R127). -/
def nearCode (x : Rat) (pick : Nat) : Nat :=
  let y := clampRat 0 65535 (x * 16384)
  let lo := (clampInt 0 65535 (y - 1).ceil).toNat
  let hi := (clampInt 0 65535 (y + 1).floor).toNat
  lo + pick % (hi - lo + 1)

/-- Steps 5 to 9 of R127 for non-linear R'G'B' and per-pixel alpha; `premul` leaves the colour as it is.  Nothing is rounded or
saturated before step 9 (R118) but the input of step 5 for gamma and PQ. -/
def decodeRgb (d : Desc) (refWhite : Nat) (rgb : List Rat) (ap : Rat) (premul : Bool) : Texel :=
  let m := containerMatrix d.container
  let a := (rnd 15 ap).toNat
  let k : Rat := if premul then 1 else ap
  if d.transfer == 0 then
    let w := m.apply rgb
    let fin := fun i => (clampInt 0 65535 (rnd 14 (w.getD i 0 * k))).toNat
    ⟨fin 0, fin 1, fin 2, a⟩
  else
    let code := rgb.map fun x => (rnd 12 x).toNat
    let lin : List Rat := code.map fun x =>
      if d.transfer == 1 then (pqEotf x : Rat) * 10000 / (2 ^ 40 : Nat) / (refWhite : Rat)
      else (gamma26 x : Rat) / (2 ^ 40 : Nat)
    let w := m.apply lin
    let comp := fun i => nearCode (w.getD i 0 * k) (Config.decodeError d.container d.transfer refWhite code k i)
    ⟨comp 0, comp 1, comp 2, a⟩

/-- Little-endian read of `n` bytes. -/
def readLe (rd : Nat → Byte) (addr n : Nat) : Nat := leNat ((List.range n).map fun i => rd (addr + i))

/-- A component sample of 1 or 2 bytes at a byte offset, 10-bit containers masked (R99). -/
def sampleAt (rd : Nat → Byte) (d : Desc) (addr : Nat) : Nat :=
  if d.depth == 8 then readLe rd addr 1 else readLe rd addr 2 % 1024

/-- The nearest column or row inside 0 to n − 1. -/
def inside (n : Nat) (i : Int) : Nat := (clampInt 0 ((n : Int) - 1) i).toNat

/-- Cb (`which` = 0) or Cr of luma texel (i, j) (R128), in code units. -/
def chromaAt (rd : Nat → Byte) (d : Desc) (which i j : Nat) : Nat :=
  let c := d.chroma
  let bs := if d.depth == 8 then 1 else 2
  let cw := if d.halfX then d.w / 2 else d.w
  let tap := fun (x y : Int) => (sampleAt rd d (c.1 + inside c.2.2 y * c.2.1 + inside cw x * 2 * bs + which * bs) : Int)
  if d.halfX then
    -- chroma coordinates (i/2 + 0.5, j + 0.5) or (i/2 + 0.5, j/2 + 0.25), in 1/256 after the shift by 0.5
    let a' : Int := 128 * i
    let b' : Int := if d.halfY then 128 * j - 64 else 256 * j
    let i0 := a' / 256
    let j0 := b' / 256
    let fa := a' % 256
    let fb := b' % 256
    (rshr ((256 - fa) * (256 - fb) * tap i0 j0 + fa * (256 - fb) * tap (i0 + 1) j0
      + (256 - fa) * fb * tap i0 (j0 + 1) + fa * fb * tap (i0 + 1) (j0 + 1)) 16).toNat
  else (tap i j).toNat

/-- Normalised luma or RGB code (R127 step 3). -/
def normY (d : Desc) (bits code : Nat) : Rat :=
  if d.narrow then clampRat 0 1 (((code : Int) - 16 * 2 ^ (bits - 8) : Int) / ((219 * 2 ^ (bits - 8) : Nat) : Rat))
  else (code : Rat) / ((2 ^ bits - 1 : Nat) : Rat)

/-- Normalised chroma code (R127 step 3). -/
def normC (d : Desc) (bits code : Nat) : Rat :=
  let c : Int := (code : Int) - 2 ^ (bits - 1)
  clampRat (-1 / 2) (1 / 2)
    (if d.narrow then (c : Rat) / ((224 * 2 ^ (bits - 8) : Nat) : Rat) else (c : Rat) / ((2 ^ bits - 1 : Nat) : Rat))

/-- Per-pixel alpha of the separate plane or 1 (R104). -/
def planeAlpha (rd : Nat → Byte) (d : Desc) (i j : Nat) : Rat :=
  let p := d.alphaPlane
  match d.aplane with
  | 1 => (readLe rd (p.1 + j * p.2.1 + i) 1 : Rat) / 255
  | 2 => ((readLe rd (p.1 + j * p.2.1 + 2 * i) 2 % 1024 : Nat) : Rat) / 1023
  | _ => 1

/-- Per-pixel alpha of the stored texel (i, j), exact (R127 step 7). -/
def texelAlpha (rd : Nat → Byte) (d : Desc) (i j : Nat) : Rat :=
  let at0 := d.base + j * d.pitch + i * d.bytesPerTexel
  match d.layout with
  | 0 => (readLe rd (at0 + 3) 1 : Rat) / 255
  | 1 => half (readLe rd (at0 + 6) 2)
  | 8 => (readLe rd at0 1 : Rat) / 255
  | 9 => ((readLe rd at0 2 % 1024 : Nat) : Rat) / 1023
  | _ => planeAlpha rd d i j

/-- Non-linear R'G'B' of the stored texel (i, j) (R127 steps 1 to 4); a mask ply has the constant of its MASK_RGB (R129). -/
def texelRgb (rd : Nat → Byte) (d : Desc) (i j : Nat) : List Rat :=
  let at0 := d.base + j * d.pitch + i * d.bytesPerTexel
  if d.isMask then
    let code := fun k : Nat => ((d.maskRgb / 2 ^ (10 * k) % 1024 : Nat) : Rat) / 1023
    [code 0, code 1, code 2]
  else if d.layout == 0 then
    let c := fun k => normY d 8 (readLe rd (at0 + k) 1)
    [c 0, c 1, c 2]
  else if d.layout == 1 then
    let c := fun k => half (readLe rd (at0 + 2 * k) 2)
    [c 0, c 1, c 2]
  else
    let y := normY d d.depth (sampleAt rd d at0)
    let cb := normC d d.depth (chromaAt rd d 0 i j)
    let cr := normC d d.depth (chromaAt rd d 1 i j)
    let kr : Rat := if d.container == 0 then 2126 / 10000 else 2627 / 10000
    let kb : Rat := if d.container == 0 then 722 / 10000 else 593 / 10000
    [clampRat 0 1 (y + 2 * (1 - kr) * cr),
     clampRat 0 1 ((y - kr * (y + 2 * (1 - kr) * cr) - kb * (y + 2 * (1 - kb) * cb)) / (1 - kr - kb)),
     clampRat 0 1 (y + 2 * (1 - kb) * cb)]

/-- The stored texel (i, j) brought to pre-multiplied working-space colour (R127 to R129). -/
def decodeTexel (rd : Nat → Byte) (d : Desc) (refWhite i j : Nat) : Texel :=
  decodeRgb d refWhite (texelRgb rd d i j) (texelAlpha rd d i j) d.premul

/-- Bytes that decoding the stored texel (i, j) reads, as address and length: the sample, its alpha plane, its chroma. -/
def texelReads (d : Desc) (i j : Nat) : List (Nat × Nat) :=
  let p := d.alphaPlane
  let alpha := match d.aplane with
    | 1 => [(p.1 + j * p.2.1 + i, 1)]
    | 2 => [(p.1 + j * p.2.1 + 2 * i, 2)]
    | _ => []
  let c := d.chroma
  let bs := if d.depth == 8 then 1 else 2
  let cw := if d.halfX then d.w / 2 else d.w
  let tap := fun (x y : Int) => (c.1 + inside c.2.2 y * c.2.1 + inside cw x * 2 * bs, 2 * bs)
  let b' : Int := if d.halfY then 128 * j - 64 else 256 * j
  let chroma := if d.isMask || d.layout ≤ 1 then []
    else if d.halfX then
      let i0 : Int := 128 * i / 256
      let j0 := b' / 256
      [tap i0 j0, tap (i0 + 1) j0, tap i0 (j0 + 1), tap (i0 + 1) (j0 + 1)]
    else [tap i j]
  (d.base + j * d.pitch + i * d.bytesPerTexel, d.bytesPerTexel) :: alpha ++ chroma

/-- A texel of four little-endian 16-bit words R, G, B, A (R129). -/
def flatTexel (rd : Nat → Byte) (at0 : Nat) : Texel :=
  ⟨readLe rd at0 2, readLe rd (at0 + 2) 2, readLe rd (at0 + 4) 2, readLe rd (at0 + 6) 2⟩

/-! ## Filtering (R130 to R133) -/

/-- Componentwise combination of four texels: rnd(Σ weight × component / div). -/
def Texel.mix (w : List Nat) (ts : List Texel) (div : Nat) : Texel :=
  let f := fun (g : Texel → Nat) => roundDiv ((w.zip ts).foldl (fun s p => s + p.1 * g p.2) 0) div
  ⟨f Texel.r, f Texel.g, f Texel.b, f Texel.a⟩

/-- Whether each stored axis is prefiltered (R132). -/
def Desc.prefilter (d : Desc) : Bool × Bool :=
  let sx := 0x10000 < d.scaleX
  let sy := 0x10000 < d.scaleY
  if d.rot == 0 || d.rot == 2 then (sx, sy) else (sy, sx)

/-- A texel of the stored image, transparent outside it (R131). -/
def storedTexel (tex : Nat → Nat → Texel) (d : Desc) (i j : Int) : Texel :=
  if 0 ≤ i ∧ i < d.w ∧ 0 ≤ j ∧ j < d.h then tex i.toNat j.toNat else Texel.zero

/-- A prefiltered texel (R132). -/
def filteredTexel (tex : Nat → Nat → Texel) (d : Desc) (p r : Int) : Texel :=
  let v := storedTexel tex d
  match d.prefilter with
  | (false, false) => v p r
  | (true, false) => Texel.mix [1, 1] [v (2 * p) r, v (2 * p + 1) r] 2
  | (false, true) => Texel.mix [1, 1] [v p (2 * r), v p (2 * r + 1)] 2
  | (true, true) =>
    Texel.mix [1, 1, 1, 1] [v (2 * p) (2 * r), v (2 * p + 1) (2 * r), v (2 * p) (2 * r + 1), v (2 * p + 1) (2 * r + 1)] 4

/-- Coordinate along an axis, halved where it is prefiltered (R132). -/
def filterCoord (pre : Bool) (a : Int) : Int := if pre then rshr a 1 else a

/-- Extent of an axis in (prefiltered) texels. -/
def filterExtent (pre : Bool) (n : Nat) : Nat := if pre then (n + 1) / 2 else n

/-- Whether the bilinear footprint at (a, b) touches the stored extent (R133). -/
def touches (d : Desc) (a b : Int) : Bool :=
  let pf := d.prefilter
  let i0 := (filterCoord pf.1 a - 128) / 256
  let j0 := (filterCoord pf.2 b - 128) / 256
  let w : Int := filterExtent pf.1 d.w
  let h : Int := filterExtent pf.2 d.h
  decide (-1 ≤ i0 ∧ i0 < w ∧ -1 ≤ j0 ∧ j0 < h)

/-- Stored texels that the sample at (a, b) takes, inside the extent (R130 to R132). -/
def sampledTexels (d : Desc) (a b : Int) : List (Nat × Nat) :=
  let pf := d.prefilter
  let kx : Nat := if pf.1 then 2 else 1
  let ky : Nat := if pf.2 then 2 else 1
  let i0 := (filterCoord pf.1 a - 128) / 256 * kx
  let j0 := (filterCoord pf.2 b - 128) / 256 * ky
  (List.range (2 * ky)).flatMap fun dy => (List.range (2 * kx)).filterMap fun dx =>
    let x : Int := i0 + (dx : Nat)
    let y : Int := j0 + (dy : Nat)
    if 0 ≤ x ∧ x < d.w ∧ 0 ≤ y ∧ y < d.h then some (x.toNat, y.toNat) else none

/-- Bilinear sample at (a, b), with ALPHA applied (R130). -/
def sampleTexel (tex : Nat → Nat → Texel) (d : Desc) (a b : Int) : Texel :=
  let pf := d.prefilter
  let a' := filterCoord pf.1 a - 128
  let b' := filterCoord pf.2 b - 128
  let i0 := a' / 256
  let j0 := b' / 256
  let fa := (a' % 256).toNat
  let fb := (b' % 256).toNat
  let t := filteredTexel tex d
  let s := Texel.mix [(256 - fa) * (256 - fb), fa * (256 - fb), (256 - fa) * fb, fa * fb]
    [t i0 j0, t (i0 + 1) j0, t i0 (j0 + 1), t (i0 + 1) (j0 + 1)] 65536
  let k := fun x => roundDiv (x * d.alpha) 32768
  ⟨k s.r, k s.g, k s.b, k s.a⟩

/-! ## Compositing (R134 to R136) -/

/-- Blend accumulators: colour in 2^−18, alpha in 2^−19, plies visited, terminated. -/
structure Blend where
  r : Nat
  g : Nat
  b : Nat
  a : Nat
  n : Nat
  done : Bool
  deriving DecidableEq, Repr

def Blend.start : Blend := ⟨0, 0, 0, 0, 0, false⟩

/-- One blend stage (R135). -/
def Blend.step (acc : Blend) (t : Texel) (sat : Nat) : Blend :=
  if acc.done then acc
  else
    let tr := 524288 - acc.a
    let add := fun (c k : Nat) => satTo 1048575 (c + roundDiv (tr * k) 32768)
    let a := min 524288 (acc.a + roundDiv (tr * t.a) 32768)
    ⟨add acc.r t.r, add acc.g t.g, add acc.b t.b, a, acc.n + 1, decide (sat * 16 ≤ a)⟩

/-- Passes that a ray of `n` visited plies takes (R135). -/
def passesOf (n : Nat) : Nat := max 1 ((n + 7) / 8)

/-! ## Colour stage (R137 to R142) -/

/-- Zone matrix applied to a colour in 2^−18 (R137); coefficients signed 2.14. -/
def zoneColour (m : Nat → Int) (c : Nat × Nat × Nat) (row : Nat) : Nat :=
  (clampInt 0 1048575 (rshr (m (3 * row) * c.1 + m (3 * row + 1) * c.2.1 + m (3 * row + 2) * c.2.2) 14)).toNat

/-- Transfer table lookup of R138 for a 20-bit value; `tt` reads the table in 10.4. -/
def transferCode (tt : Nat → Nat) (n : Nat) : Nat :=
  let at' := fun i => tt (min i 4095)
  if n < 16 then satTo 16383 (roundDiv (at' 0 * n) 16)
  else
    let k := Nat.log2 n
    let r := n - 2 ^ k
    let i := 256 * (k - 4) + r * 256 / 2 ^ k
    let f : Int := (r * 256 % 2 ^ k) * 256 / 2 ^ k
    (clampInt 0 16383 ((at' i : Int) + rshr (f * ((at' (i + 1) : Int) - at' i)) 8)).toNat

/-- Linear value L_i of transfer entry i (R138). -/
def transferLinear (i : Nat) : Rat := ((256 + i % 256 : Nat) : Rat) * (2 ^ (i / 256) : Nat) / (2 ^ 22 : Nat)

/-- Transfer entry i of a preset of Table 6-3 (R139). -/
def presetXfer (preset i : Nat) : Nat :=
  let l := transferLinear i
  min 16368 (match preset with
    | 1 => (rnd 0 (16368 * l)).toNat
    | 2 => (rnd 0 (16368 * l / 2)).toNat
    | 3 => (rnd 0 (16368 * l / 4)).toNat
    | _ => powScaled l 5 11 16368)

/-- White point of CT_PRESET (Table 6-4). -/
def ctWhite (preset : Nat) : Rat × Rat :=
  match preset with
  | 1 => (3127 / 10000, 3290 / 10000)
  | 2 => (3217 / 10000, 3378 / 10000)
  | 3 => (3324 / 10000, 3474 / 10000)
  | 4 => (3457 / 10000, 3585 / 10000)
  | 5 => (3287 / 10000, 3425 / 10000)
  | 6 => (4234 / 10000, 3990 / 10000)
  | _ => (3140 / 10000, 3510 / 10000)

/-- The Bradford cone response matrix. -/
def bradford : Mat3 :=
  [[8951 / 10000, 2664 / 10000, -1614 / 10000], [-7502 / 10000, 17135 / 10000, 367 / 10000],
   [389 / 10000, -685 / 10000, 10296 / 10000]]

/-- Bradford adaptation from D65 to a white point. -/
def adaptFromD65 (white : Rat × Rat) : Mat3 :=
  let s := bradford.apply (xyzOf whiteD65)
  let t := bradford.apply (xyzOf white)
  bradford.inv.mul ((Mat3.of fun r c => if r = c then t.getD r 0 / s.getD r 0 else 0).mul bradford)

/-- Three chromaticities of a zone's primaries (R140). -/
abbrev Primaries := (Rat × Rat) × (Rat × Rat) × (Rat × Rat)

def primaries2020 : Primaries := ((708 / 1000, 292 / 1000), (170 / 1000, 797 / 1000), (131 / 1000, 46 / 1000))

/-- Zone matrix of a CT preset in signed 2.14 (R140). -/
def presetMatrix (preset : Nat) (p : Primaries) : List Int :=
  let w := ctWhite preset
  let m := (rgbToXyz p.1 p.2.1 p.2.2 w).inv.mul ((adaptFromD65 w).mul xyz2020)
  let sum := fun r => m.at r 0 + m.at r 1 + m.at r 2
  let top := max (sum 0) (max (sum 1) (sum 2))
  (List.range 9).map fun e => satS 16 (rnd 14 (m.at (e / 3) (e % 3) / top))

/-- Bit-reversed sequence of R141. -/
def ditherB : List Nat := [0, 8, 4, 12, 2, 10, 6, 14, 1, 9, 5, 13, 3, 11, 7, 15]
/-- Bayer matrix of R141, rows first. -/
def ditherM : List Nat := [0, 8, 2, 10, 12, 4, 14, 6, 3, 11, 1, 9, 15, 7, 13, 5]

/-- Dither threshold (R141). -/
def ditherTheta (frame hx hy iu iv : Nat) : Nat :=
  (ditherB.getD (frame % 16) 0 + ditherM.getD (4 * (hy % 4) + hx % 4) 0 + 5 * iu + 3 * iv) % 16

/-- 10-bit drive code of a 10.4 code (R141). -/
def driveCode (dither : Bool) (theta code : Nat) : Nat :=
  let i := code / 16
  let f := code % 16
  if (if dither then theta < f else 8 ≤ f) ∧ i < 1023 then i + 1 else i

/-- Stitch of three drive codes, type 00 (R142). -/
def packStitch (r g b : Nat) : Word := Word.ofNat (r + g * 2 ^ 10 + b * 2 ^ 20)

/-! ## One ray -/

/-- The latched state of a frame that a ray depends on (R143), for one tile. -/
structure RayEnv where
  nu : Nat
  nv : Nat
  sat : Nat
  refWhite : Nat
  dither : Bool
  frame : Nat
  warp : WarpSet
  mtx : Nat → Int
  xfer : Nat → Nat → Nat
  /-- compositing order, less the plies shed or switched off -/
  plies : List PlyRef
  /-- texels of a ply -/
  tex : PlyRef → Nat → Nat → Texel
  /-- backdrop of a SWATCH frame: colour of (hx, hy, iu, iv) in 2^−14 -/
  backdrop : Option (Nat → Nat → Nat → Nat → Nat × Nat × Nat)
  /-- flat form: one ray per hogel at the centre view (R121, R471) -/
  flatForm : Bool

/-- A ray's stitch with its visited plies and whether it ended early (R133 to R142). -/
structure RayResult where
  stitch : Word
  visited : Nat
  terminated : Bool
  deriving DecidableEq, Repr

/-- Synthesis of the ray of hogel (hx, hy), tile-local (lx, ly), view (iu, iv). -/
def synthRay (e : RayEnv) (tw th : Nat) (hx hy : Int) (lx ly iu iv : Nat) : RayResult :=
  let cu := if e.flatForm then e.nu / 2 else iu
  let cv := if e.flatForm then e.nv / 2 else iv
  let uv := if e.flatForm then (0, 0) else warped e.warp tw th lx ly e.nu e.nv iu iv
  let region := viewRegion e.nu e.nv cu cv
  let acc := e.plies.foldl (fun acc p =>
    if acc.done || !(p.desc.viewMask.testBit region) then acc
    else
      let ab := samplePos p.desc hx hy uv.1 uv.2 p.venue
      if touches p.desc ab.1 ab.2 then acc.step (sampleTexel (e.tex p) p.desc ab.1 ab.2) e.sat else acc) Blend.start
  let acc := match e.backdrop with
    | none => acc
    | some f => let c := f hx.toNat hy.toNat cu cv; acc.step ⟨c.1, c.2.1, c.2.2, 32768⟩ e.sat
  let col := (acc.r, acc.g, acc.b)
  let th' := ditherTheta e.frame hx.toNat hy.toNat cu cv
  let q := fun k => driveCode e.dither th' (transferCode (e.xfer k) (zoneColour e.mtx col k))
  ⟨packStitch (q 0) (q 1) (q 2), acc.n, acc.done⟩

/-- Colour index of a SWATCH pattern (Table 6-9). -/
def swatchIndex (pattern shift iuLit ivLit wp tile hx hy iu iv nu nv : Nat) : Nat :=
  match pattern with
  | 0 => 7
  | 1 => [7, 6, 3, 2, 5, 4, 1, 0].getD (8 * hx / wp) 0
  | 2 => if hx % 2 ^ shift == 0 || hy % 2 ^ shift == 0 then 7 else 0
  | 3 => tile % 7 + 1
  | 4 => (iu + 2 * iv) % 7 + 1
  | _ => if iuLit < nu && ivLit < nv && iu == iuLit && iv == ivLit then 7 else 0

/-- Working-space colour of a colour index at a level (R471). -/
def swatchColour (level c : Nat) : Nat × Nat × Nat :=
  (if c.testBit 2 then level else 0, if c.testBit 1 then level else 0, if c.testBit 0 then level else 0)

/-- Patterns 0x0 to 0x3 are of flat form (Table 6-9). -/
def swatchFlat (pattern : Nat) : Bool := pattern ≤ 3

end Sys2Proof.Machine
end

