-- ==== Sys2Proof/Machine/RegMap.lean ====
section
/-! DEFINITION.  The register maps of every chapter as one table: the byte address of
each register in BAR0 (Table 20-1 of R422 gives the block bases), its array strides, its
access type (R6), its Applies column (R7), the bits a write can place (reserved bits and
read-only fields left out, R8) and its reset value. -/

namespace Sys2Proof.Machine

/-- Access types of Table 0-5 (R6). -/
inductive Access where
  | ro | rw | wo | rw1c | rws | rwx
  deriving DecidableEq, Repr

/-- The Applies column of a register map (R7). -/
inductive Applies where
  | atOnce | atCommit | atMode
  deriving DecidableEq, Repr

/-- One row of a register map.  `dims` lists the array dimensions as (count, stride in
bytes), the widest stride first. -/
structure RegDef where
  base : Nat
  dims : List (Nat × Nat)
  access : Access
  applies : Applies
  mask : Nat
  reset : Nat
  deriving DecidableEq, Repr

/-! ## Addresses, by the manual's register names -/
namespace Reg

def GLB_ID : Nat := 0x0
def GLB_REV : Nat := 0x4
def GLB_EXPERT : Nat := 0x40
def GLB_EXPERT_STAT : Nat := 0x44
def GLB_FABRIC_CNT : Nat := 0x80
def GLB_FABRIC_CTL : Nat := 0x84
def GLB_FABRIC_LAST : Nat := 0x88
def GLB_CLK_STAT : Nat := 0xC0
def GLB_MODE_CMD : Nat := 0x100
def GLB_MODE_STAT : Nat := 0x104
def GLB_MODE_SAFE : Nat := 0x108
def GLB_GPIO_OE : Nat := 0x200
def GLB_GPIO_OUT : Nat := 0x204
def GLB_GPIO_IN : Nat := 0x208
def GLB_GPIO_PULL : Nat := 0x20C
def GLB_TRACE_CFG : Nat := 0x210
def GLB_PIN_STAT : Nat := 0x214
def GLB_TRACE_STAT : Nat := 0x218
def CLKRST_CAUSE : Nat := 0x100000
def CLKRST_RESET_CNT : Nat := 0x100004
def CLKRST_SW_RESET : Nat := 0x100008
def CLKRST_BLOCK_RESET : Nat := 0x10000C
def CLKRST_BLOCK_STAT : Nat := 0x100010
def CLKRST_STRAP : Nat := 0x100020
def CLKRST_OPT_STAT : Nat := 0x100024
def CLKRST_CASTON_STAT : Nat := 0x100028
def CLKRST_CASTON_TIME : Nat := 0x10002C
def CLKRST_EARLY_CNT : Nat := 0x100040
def CLKRST_BOOTLOG (i : Nat) : Nat := 0x101000 + 0x4 * i
def PWR_DOMAIN_STAT0 : Nat := 0x200000
def PWR_DOMAIN_STAT1 : Nat := 0x200004
def PWR_DOMAIN_STAT2 : Nat := 0x200008
def PWR_DOMAIN_REQ1 : Nat := 0x200010
def PWR_DOMAIN_REQ2 : Nat := 0x200014
def PWR_HBM_POLICY : Nat := 0x200020
def PWR_DEEP_CFG : Nat := 0x200024
def PWR_SEQ_STAT : Nat := 0x200028
def EVT_STAT : Nat := 0x300000
def EVT_RING_LO : Nat := 0x300004
def EVT_RING_HI : Nat := 0x300008
def EVT_RING_CFG : Nat := 0x30000C
def EVT_HEAD : Nat := 0x300010
def EVT_TAIL : Nat := 0x300014
def EVT_MOD : Nat := 0x300018
def EVT_VEC (i : Nat) : Nat := 0x300100 + 0x4 * i
def SEC_STAT : Nat := 0x400000
def SEC_OTP_STAT : Nat := 0x400004
def SEC_SLOT_STAT : Nat := 0x400008
def SEC_LEAF_STAT : Nat := 0x40000C
def SEC_SERIAL_LO : Nat := 0x400010
def SEC_SERIAL_HI : Nat := 0x400014
def SEC_CMD : Nat := 0x400020
def SEC_CMD_STAT : Nat := 0x400024
def SEC_FLASH_ADDR : Nat := 0x400028
def SEC_LEN : Nat := 0x40002C
def SEC_VENUE_CMD : Nat := 0x400030
def SEC_VENUE_STAT : Nat := 0x400034
def SEC_VENUE_SEQ : Nat := 0x400038
def SEC_NONCE (i : Nat) : Nat := 0x400040 + 0x4 * i
def SEC_CUE_GO : Nat := 0x400060
def SEC_CUE_STAT : Nat := 0x400064
def SEC_ATTEST_BUF (i : Nat) : Nat := 0x401000 + 0x4 * i
def SEC_STAGE (i : Nat) : Nat := 0x410000 + 0x4 * i
def SEC_VENUE_STAGE (i : Nat) : Nat := 0x420000 + 0x4 * i
def PLY_STAT : Nat := 0x800000
def PLY_VENUE_AREA_LO : Nat := 0x800010
def PLY_VENUE_AREA_HI : Nat := 0x800014
def PLY_VENUE_STAT : Nat := 0x800018
def PLY_FENCE (i : Nat) : Nat := 0x800100 + 0x4 * i
def PLY_GROUP_BASE_LO (i : Nat) : Nat := 0x800420 + 0x20 * i
def PLY_GROUP_BASE_HI (i : Nat) : Nat := 0x800424 + 0x20 * i
def PLY_GROUP_SIZE (i : Nat) : Nat := 0x800428 + 0x20 * i
def PLY_GROUP_SCALE (i : Nat) : Nat := 0x80042C + 0x20 * i
def PLY_GROUP_STAT (i : Nat) : Nat := 0x800430 + 0x20 * i
def PLY_DESC_BASE_LO (i : Nat) : Nat := 0x801000 + 0x40 * i
def PLY_DESC_BASE_HI (i : Nat) : Nat := 0x801004 + 0x40 * i
def PLY_DESC_FMT (i : Nat) : Nat := 0x801008 + 0x40 * i
def PLY_DESC_SIZE (i : Nat) : Nat := 0x80100C + 0x40 * i
def PLY_DESC_PITCH (i : Nat) : Nat := 0x801010 + 0x40 * i
def PLY_DESC_SCALE_X (i : Nat) : Nat := 0x801014 + 0x40 * i
def PLY_DESC_SCALE_Y (i : Nat) : Nat := 0x801018 + 0x40 * i
def PLY_DESC_OFFSET_X (i : Nat) : Nat := 0x80101C + 0x40 * i
def PLY_DESC_OFFSET_Y (i : Nat) : Nat := 0x801020 + 0x40 * i
def PLY_DESC_DISP (i : Nat) : Nat := 0x801024 + 0x40 * i
def PLY_DESC_TILT (i : Nat) : Nat := 0x801028 + 0x40 * i
def PLY_DESC_ALPHA (i : Nat) : Nat := 0x80102C + 0x40 * i
def PLY_DESC_CTRL (i : Nat) : Nat := 0x801030 + 0x40 * i
def PLY_DESC_MASK_RGB (i : Nat) : Nat := 0x801034 + 0x40 * i
def PLY_DESC_FENCE (i : Nat) : Nat := 0x801038 + 0x40 * i
def PLY_DESC_FENCE_VAL (i : Nat) : Nat := 0x80103C + 0x40 * i
def PLY_DESC_STAT (i : Nat) : Nat := 0x802000 + 0x4 * i
def PLY_VENUE_DESC (i : Nat) : Nat := 0x803000 + 0x4 * i
def PLY_LIVE : Nat := 0x800020
def RAY_STAT : Nat := 0xC00000
def RAY_VIEW_GRID : Nat := 0xC00004
def RAY_ALPHA_SAT : Nat := 0xC00008
def RAY_COLOUR : Nat := 0xC0000C
def RAY_BUDGET : Nat := 0xC00010
def RAY_BUDGET_RAW : Nat := 0xC00014
def RAY_BUDGET_WIN : Nat := 0xC00018
def RAY_BUDGET_CFG : Nat := 0xC0001C
def RAY_SHED_LO : Nat := 0xC00020
def RAY_SHED_HI : Nat := 0xC00024
def RAY_OFF_LO : Nat := 0xC00028
def RAY_OFF_HI : Nat := 0xC0002C
def RAY_PERF_RAYS_LO : Nat := 0xC00040
def RAY_PERF_RAYS_HI : Nat := 0xC00044
def RAY_PERF_PASSES_LO : Nat := 0xC00048
def RAY_PERF_PASSES_HI : Nat := 0xC0004C
def RAY_PERF_TERM_LO : Nat := 0xC00050
def RAY_PERF_TERM_HI : Nat := 0xC00054
def RAY_PERF_FETCH_LO : Nat := 0xC00058
def RAY_PERF_FETCH_HI : Nat := 0xC0005C
def RAY_PERF_STALL : Nat := 0xC00060
def RAY_PERF_LATE : Nat := 0xC00064
def RAY_PERF_CACHE : Nat := 0xC00068
def RAY_WARP_STAT (i : Nat) : Nat := 0xC00400 + 0x4 * i
def RAY_ZONE_MTX (i j : Nat) : Nat := 0xC00800 + 0x40 * i + 0x4 * j
def RAY_XFER (i j : Nat) : Nat := 0xC10000 + 0x2000 * i + 0x4 * j
def RAY_WARP_GRID (i j : Nat) : Nat := 0xD00000 + 0x800 * i + 0x4 * j
def RAY_VIEW_DIR (i j : Nat) : Nat := 0xD40000 + 0x400 * i + 0x4 * j
def SCAN_STAT : Nat := 0x1000000
def SCAN_COMMIT : Nat := 0x1000004
def SCAN_TIMING : Nat := 0x1000008
def SCAN_PHASE : Nat := 0x100000C
def SCAN_ANCHOR_LO : Nat := 0x1000010
def SCAN_ANCHOR_HI : Nat := 0x1000014
def SCAN_FRAME : Nat := 0x1000018
def SCAN_FLIP_LO : Nat := 0x100001C
def SCAN_FLIP_HI : Nat := 0x1000020
def SCAN_WIN_STAT : Nat := 0x1000024
def SCAN_CFG : Nat := 0x1000028
def SCAN_EMIT : Nat := 0x100002C
def SCAN_EMIT_MAX : Nat := 0x1000030
def SCAN_COUNT : Nat := 0x1000034
def SCAN_SWATCH : Nat := 0x1000038
def SCAN_TILE_CFG (i : Nat) : Nat := 0x1000100 + 0x4 * i
def SCAN_TILE_STAT (i : Nat) : Nat := 0x1000300 + 0x4 * i
def SPK_STAT : Nat := 0x1400000
def SPK_CFG : Nat := 0x1400004
def SPK_EPOCH : Nat := 0x1400008
def SPK_CTL : Nat := 0x140000C
def SPK_CFGW_ADDR : Nat := 0x1400010
def SPK_CFGW_DATA : Nat := 0x1400014
def SPK_CFGW_CMD : Nat := 0x1400018
def SPK_CFGW_STAT : Nat := 0x140001C
def SPK_CFGW_RDATA : Nat := 0x1400020
def SPK_TILE_STAT (i : Nat) : Nat := 0x1400100 + 0x4 * i
def SPK_TILE_DELAY (i : Nat) : Nat := 0x1400300 + 0x4 * i
def SPK_TILE_FEC (i : Nat) : Nat := 0x1400500 + 0x4 * i
def SPK_LANE_ERR (i : Nat) : Nat := 0x1400700 + 0x4 * i
def SPK_TILE_BC (i j : Nat) : Nat := 0x1410000 + 0x40 * i + 0x4 * j
def LANE_STAT : Nat := 0x1800000
def LANE_CTL : Nat := 0x1800004
def LANE_LOOP_CFG : Nat := 0x1800008
def LANE_LOOP_STAT : Nat := 0x180000C
def LANE_GRP_CFG (i : Nat) : Nat := 0x1800020 + 0x4 * i
def LANE_CFG (i : Nat) : Nat := 0x1801000 + 0x20 * i
def LANE_STATE (i : Nat) : Nat := 0x1801004 + 0x20 * i
def LANE_FOM (i : Nat) : Nat := 0x1801008 + 0x20 * i
def LANE_EYE (i : Nat) : Nat := 0x180100C + 0x20 * i
def LANE_TEST (i : Nat) : Nat := 0x1801010 + 0x20 * i
def LANE_PRBS_ERR (i : Nat) : Nat := 0x1801014 + 0x20 * i
def LANE_INJ (i : Nat) : Nat := 0x1801018 + 0x20 * i
def LANE_TXEQ (i : Nat) : Nat := 0x180101C + 0x20 * i
def EMIT_STAT : Nat := 0x1C00000
def EMIT_BRIGHT : Nat := 0x1C00004
def EMIT_TCOMP : Nat := 0x1C00008
def EMIT_THM_CFG : Nat := 0x1C0000C
def EMIT_THM_EN : Nat := 0x1C00010
def EMIT_PROBE_CFG : Nat := 0x1C00014
def EMIT_PROBE_STAT : Nat := 0x1C00018
def EMIT_STRIP_TILES : Nat := 0x1C00020
def EMIT_STRIP_CFG : Nat := 0x1C00024
def EMIT_STRIP_CTL : Nat := 0x1C00028
def EMIT_STRIP_STAT : Nat := 0x1C0002C
def EMIT_OWN : Nat := 0x1C00030
def EMIT_ZONE_STAT (i : Nat) : Nat := 0x1C00040 + 0x4 * i
def EMIT_THM (i : Nat) : Nat := 0x1C00080 + 0x4 * i
def EMIT_IMAX (i : Nat) : Nat := 0x1C00100 + 0x4 * i
def EMIT_IREF_STAT (i : Nat) : Nat := 0x1C00200 + 0x4 * i
def EMIT_IREF_RAW (i : Nat) : Nat := 0x1C00300 + 0x4 * i
def EMIT_BAND (i j : Nat) : Nat := 0x1C00400 + 0x20 * i + 0x4 * j
def EMIT_PROBE_TILE (i : Nat) : Nat := 0x1C00600 + 0x4 * i
def EMIT_STRIP_BUF (i : Nat) : Nat := 0x1C10000 + 0x4 * i
def HBM_STAT : Nat := 0x2000000
def HBM_ORG : Nat := 0x2000004
def HBM_USABLE : Nat := 0x2000008
def HBM_OPP : Nat := 0x200000C
def HBM_CFG : Nat := 0x2000010
def HBM_RETIRE_CFG : Nat := 0x2000014
def HBM_FORCE : Nat := 0x2000018
def HBM_SCRUB_CFG : Nat := 0x200001C
def HBM_SCRUB_STAT : Nat := 0x2000020
def HBM_CTL : Nat := 0x2000024
def HBM_LOST_CLR_BLK : Nat := 0x2000028
def HBM_LOST_CLR_CNT : Nat := 0x200002C
def HBM_LOST_STAT : Nat := 0x2000030
def HBM_MIGR_STAT : Nat := 0x2000034
def HBM_PC_STAT (i : Nat) : Nat := 0x2000040 + 0x4 * i
def HBM_TSET (i j : Nat) : Nat := 0x2000100 + 0x10 * i + 0x4 * j
def HANK_STAT : Nat := 0x2400000
def HANK_JOB_SRC_LO : Nat := 0x2400010
def HANK_JOB_SRC_HI : Nat := 0x2400014
def HANK_JOB_DST_LO : Nat := 0x2400018
def HANK_JOB_DST_HI : Nat := 0x240001C
def HANK_JOB_LEN : Nat := 0x2400020
def HANK_JOB_CAP : Nat := 0x2400024
def HANK_JOB_CTL : Nat := 0x2400028
def HANK_JOB_SUBMIT : Nat := 0x240002C
def HANK_JOB_RESULT : Nat := 0x2400030
def HANK_JOB_OUT : Nat := 0x2400034
def HANK_ENG_STAT (i : Nat) : Nat := 0x2400100 + 0x10 * i
def HANK_ENG_BYTES_LO (i : Nat) : Nat := 0x2400104 + 0x10 * i
def HANK_ENG_BYTES_HI (i : Nat) : Nat := 0x2400108 + 0x10 * i
def HANK_ENG_ERR (i : Nat) : Nat := 0x240010C + 0x10 * i
def NEEDLE_STAT : Nat := 0x2600000
def NEEDLE_SUBMIT : Nat := 0x2600004
def NEEDLE_CMD : Nat := 0x2600008
def NEEDLE_SEQ : Nat := 0x260000C
def NEEDLE_SRC_BASE_LO : Nat := 0x2600010
def NEEDLE_DST_BASE_LO : Nat := 0x2600030
def NEEDLE_SRC_BASE_HI : Nat := 0x2600014
def NEEDLE_DST_BASE_HI : Nat := 0x2600034
def NEEDLE_SRC_PITCH : Nat := 0x2600018
def NEEDLE_DST_PITCH : Nat := 0x2600038
def NEEDLE_SRC_FMT : Nat := 0x260001C
def NEEDLE_DST_FMT : Nat := 0x260003C
def NEEDLE_SRC_SIZE : Nat := 0x2600020
def NEEDLE_DST_SIZE : Nat := 0x2600040
def NEEDLE_SRC_XY : Nat := 0x2600024
def NEEDLE_DST_XY : Nat := 0x2600044
def NEEDLE_SRC_WH : Nat := 0x2600028
def NEEDLE_FILL_LO : Nat := 0x2600048
def NEEDLE_FILL_HI : Nat := 0x260004C
def NEEDLE_RESULT : Nat := 0x2600060
def NEEDLE_COUNT : Nat := 0x2600064
def NEEDLE_CLIP_A (i : Nat) : Nat := 0x2600080 + 0x8 * i
def NEEDLE_CLIP_B (i : Nat) : Nat := 0x2600084 + 0x8 * i
def STORE_STAT : Nat := 0x2800000
def STORE_CFG : Nat := 0x2800004
def STORE_RING : Nat := 0x2800008
def STORE_BUF : Nat := 0x280000C
def STORE_YSTAGE : Nat := 0x2800010
def STORE_PLAY : Nat := 0x2800014
def STORE_PLAY_FRAME : Nat := 0x2800018
def STORE_CTL : Nat := 0x280001C
def STORE_XFER_HBM : Nat := 0x2800020
def STORE_XFER_LBA : Nat := 0x2800024
def STORE_XFER_CMD : Nat := 0x2800028
def STORE_XFER_STAT : Nat := 0x280002C
def STORE_POS : Nat := 0x2800030
def STORE_AHEAD : Nat := 0x2800034
def STORE_DRV_STAT (i : Nat) : Nat := 0x2800040 + 0x10 * i
def STORE_YARN_CFG (i : Nat) : Nat := 0x2800100 + 0x8 * i
def STORE_YARN_STAT (i : Nat) : Nat := 0x2800104 + 0x8 * i
def DPORT_STAT : Nat := 0x2A00000
def DPORT_PTR_LO (i : Nat) : Nat := 0x2A00010 + 0x10 * i
def DPORT_PTR_HI (i : Nat) : Nat := 0x2A00014 + 0x10 * i
def DPORT_STEP (i : Nat) : Nat := 0x2A00018 + 0x10 * i
def DPORT_DMA_RING_LO (i : Nat) : Nat := 0x2A00100 + 0x20 * i
def DPORT_DMA_RING_HI (i : Nat) : Nat := 0x2A00104 + 0x20 * i
def DPORT_DMA_CFG (i : Nat) : Nat := 0x2A00108 + 0x20 * i
def DPORT_DMA_HEAD (i : Nat) : Nat := 0x2A0010C + 0x20 * i
def DPORT_DMA_TAIL (i : Nat) : Nat := 0x2A00110 + 0x20 * i
def DPORT_DMA_STAT (i : Nat) : Nat := 0x2A00114 + 0x20 * i
def NET_CFG : Nat := 0x2C00000
def NET_PORT_CFG (i : Nat) : Nat := 0x2C00100 + 0x100 * i
def NET_MAC_LO (i : Nat) : Nat := 0x2C00104 + 0x100 * i
def NET_MAC_HI (i : Nat) : Nat := 0x2C00108 + 0x100 * i
def NET_IPV4 (i : Nat) : Nat := 0x2C0010C + 0x100 * i
def NET_IPV6 (i j : Nat) : Nat := 0x2C00110 + 0x100 * i + 0x4 * j
def NET_ING_ADJ (i : Nat) : Nat := 0x2C00120 + 0x100 * i
def NET_EGR_ADJ (i : Nat) : Nat := 0x2C00124 + 0x100 * i
def NET_ASYM (i : Nat) : Nat := 0x2C00128 + 0x100 * i
def NET_PORT_STAT (i : Nat) : Nat := 0x2C0012C + 0x100 * i
def NET_RX_CNT (i : Nat) : Nat := 0x2C00130 + 0x100 * i
def NET_TX_CNT (i : Nat) : Nat := 0x2C00134 + 0x100 * i
def NET_DROP_CNT (i : Nat) : Nat := 0x2C00138 + 0x100 * i
def NET_TC_CNT (i : Nat) : Nat := 0x2C0013C + 0x100 * i
def NET_MCAST (i j : Nat) : Nat := 0x2C00400 + 0x10 * i + 0x4 * j
def TIME_STAT : Nat := 0x3000000
def TIME_CFG : Nat := 0x3000004
def TIME_SERVO_CFG : Nat := 0x3000008
def TIME_TB2_CFG : Nat := 0x300000C
def TIME_REF_CFG : Nat := 0x3000010
def TIME_REF_STAT : Nat := 0x3000014
def TIME_PPS_CFG : Nat := 0x3000018
def TIME_CTL : Nat := 0x300001C
def TIME_SET_SEC_LO : Nat := 0x3000020
def TIME_SET_SEC_HI : Nat := 0x3000024
def TIME_SET_NS : Nat := 0x3000028
def TIME_TB (i j : Nat) : Nat := 0x3000040 + 0x40 * i + 0x4 * j
def TIME_CMP_ALLOC : Nat := 0x3000200
def TIME_CMP_ALLOC_STAT : Nat := 0x3000204
def TIME_CMP (i j : Nat) : Nat := 0x3000300 + 0x20 * i + 0x4 * j
def TIME_CAP_CFG (i : Nat) : Nat := 0x3000400 + 0x20 * i
def TIME_CAP_FNS (i : Nat) : Nat := 0x3000404 + 0x20 * i
def TIME_CAP_LO (i : Nat) : Nat := 0x3000408 + 0x20 * i
def TIME_CAP_HI (i : Nat) : Nat := 0x300040C + 0x20 * i
def TIME_CAP_STAT (i : Nat) : Nat := 0x3000410 + 0x20 * i
def TRAF_CTL : Nat := 0x3400004
def TRAF_LOCAL : Nat := 0x3400008
def TRAF_PORT_CFG (i : Nat) : Nat := 0x3400100 + 0x100 * i
def TRAF_CLASS (i j : Nat) : Nat := 0x3400120 + 0x100 * i + 0x4 * j
def TRAF_CBS_SLOPE (i j : Nat) : Nat := 0x3400140 + 0x100 * i + 0x4 * j
def TRAF_CBS_BURST (i j : Nat) : Nat := 0x3400160 + 0x100 * i + 0x4 * j
def TRAF_CREDIT (i j : Nat) : Nat := 0x3400180 + 0x100 * i + 0x4 * j
def TRAF_QDROP (i j : Nat) : Nat := 0x3400300 + 0x40 * i + 0x4 * j
def TRAF_OUT_ADDR (i j k : Nat) : Nat := 0x3401000 + 0x400 * i + 0x20 * j + 0x4 * k
def TRAF_OUT_CFG (i j : Nat) : Nat := 0x3401010 + 0x400 * i + 0x20 * j
def TRAF_OUT_STAT (i j : Nat) : Nat := 0x3401014 + 0x400 * i + 0x20 * j
def TRAF_IN_ADDR (i j : Nat) : Nat := 0x3402000 + 0x20 * i + 0x4 * j
def TRAF_IN_CFG (i : Nat) : Nat := 0x3402010 + 0x20 * i
def TRAF_POL_RATE (i : Nat) : Nat := 0x3402014 + 0x20 * i
def TRAF_POL_BURST (i : Nat) : Nat := 0x3402018 + 0x20 * i
def TRAF_HIST (i j k l : Nat) : Nat := 0x3404000 + 0x400 * i + 0x80 * j + 0x40 * k + 0x4 * l
def TRAF_IN_CNT (i j : Nat) : Nat := 0x3406000 + 0x10 * i + 0x4 * j
def CHAIN_STAT : Nat := 0x3800000
def CHAIN_CFG : Nat := 0x3800004
def CHAIN_CTL : Nat := 0x3800008
def CHAIN_HB_CFG : Nat := 0x380000C
def CHAIN_HB_STAT : Nat := 0x3800010
def CHAIN_PORT_CFG (i : Nat) : Nat := 0x3800040 + 0x10 * i
def CHAIN_PORT_STAT (i : Nat) : Nat := 0x3800044 + 0x10 * i
def CHAIN_PORT_CNT (i : Nat) : Nat := 0x3800048 + 0x10 * i
def CHAIN_PORT_DELAY (i : Nat) : Nat := 0x380004C + 0x10 * i
def CHAIN_MEMBER (i : Nat) : Nat := 0x3800100 + 0x4 * i
def HLTH_STAT : Nat := 0x3C00000
def HLTH_THERM_CFG : Nat := 0x3C00004
def HLTH_CTL : Nat := 0x3C00008
def HLTH_AVS : Nat := 0x3C0000C
def HLTH_MARGIN : Nat := 0x3C00010
def HLTH_AGE : Nat := 0x3C00014
def HLTH_CAL_SUM : Nat := 0x3C00018
def HLTH_HBM_TEMP (i : Nat) : Nat := 0x3C00020 + 0x4 * i
def HLTH_DIE_TEMP (i : Nat) : Nat := 0x3C00100 + 0x4 * i
def HLTH_RO (i : Nat) : Nat := 0x3C00200 + 0x4 * i
def HLTH_CAL_FACTORY (i : Nat) : Nat := 0x3C10000 + 0x10 * i
def HLTH_CAL_POWERUP (i : Nat) : Nat := 0x3C10004 + 0x10 * i
def HLTH_CAL_USER (i : Nat) : Nat := 0x3C10008 + 0x10 * i
def HLTH_CAL_STAT (i : Nat) : Nat := 0x3C1000C + 0x10 * i
def HLTH_LOG (i : Nat) : Nat := 0x3C20000 + 0x4 * i
end Reg

/-! ## The maps -/

/-- Register map of the GLB block. -/
def regsGLB : List RegDef := [
  ⟨0x0, [], .ro, .atOnce, 0x0, 0x54489600⟩,
  ⟨0x4, [], .ro, .atOnce, 0x0, 0x100⟩,
  ⟨0x40, [], .wo, .atOnce, 0xFFFFFFFF, 0x0⟩,
  ⟨0x44, [], .ro, .atOnce, 0x0, 0x0⟩,
  ⟨0x80, [], .ro, .atOnce, 0x0, 0x0⟩,
  ⟨0x84, [], .wo, .atOnce, 0x1, 0x0⟩,
  ⟨0x88, [], .ro, .atOnce, 0x0, 0x0⟩,
  ⟨0xC0, [], .ro, .atOnce, 0x0, 0x0⟩,
  ⟨0x100, [], .wo, .atOnce, 0xFF1F, 0x0⟩,
  ⟨0x104, [], .ro, .atOnce, 0x0, 0x11⟩,
  ⟨0x108, [], .rw1c, .atOnce, 0x3F000000, 0x0⟩,
  ⟨0x200, [], .rws, .atCommit, 0xFFFF, 0x0⟩,
  ⟨0x204, [], .rw, .atOnce, 0xFFFF, 0x0⟩,
  ⟨0x208, [], .ro, .atOnce, 0x0, 0x0⟩,
  ⟨0x20C, [], .rw, .atOnce, 0xFFFFFFFF, 0xFFFF⟩,
  ⟨0x210, [], .rws, .atCommit, 0x3, 0x0⟩,
  ⟨0x214, [], .ro, .atOnce, 0x0, 0x0⟩,
  ⟨0x218, [], .ro, .atOnce, 0x0, 0x0⟩]

/-- Register map of the CLKRST block. -/
def regsCLKRST : List RegDef := [
  ⟨0x100000, [], .rw1c, .atOnce, 0x1FF, 0x1⟩,
  ⟨0x100004, [], .ro, .atOnce, 0x0, 0x0⟩,
  ⟨0x100008, [], .wo, .atOnce, 0xFFFFFFFF, 0x0⟩,
  ⟨0x10000C, [], .wo, .atOnce, 0x3F, 0x0⟩,
  ⟨0x100010, [], .ro, .atOnce, 0x0, 0x0⟩,
  ⟨0x100020, [], .ro, .atOnce, 0x0, 0x0⟩,
  ⟨0x100024, [], .ro, .atOnce, 0x0, 0x0⟩,
  ⟨0x100028, [], .ro, .atOnce, 0x0, 0x0⟩,
  ⟨0x10002C, [], .ro, .atOnce, 0x0, 0x0⟩,
  ⟨0x100040, [], .ro, .atOnce, 0x0, 0x0⟩,
  ⟨0x101000, [(1024, 0x4)], .ro, .atOnce, 0x0, 0x0⟩]

/-- Register map of the PWR block. -/
def regsPWR : List RegDef := [
  ⟨0x200000, [], .ro, .atOnce, 0x0, 0x1⟩,
  ⟨0x200004, [], .ro, .atOnce, 0x0, 0x0⟩,
  ⟨0x200008, [], .ro, .atOnce, 0x0, 0x0⟩,
  ⟨0x200010, [], .rw, .atMode, 0x6FFFFF, 0x6FFFFF⟩,
  ⟨0x200014, [], .rw, .atMode, 0xBF80, 0x1F80⟩,
  ⟨0x200020, [], .rw, .atOnce, 0xFFFF0001, 0x3E80000⟩,
  ⟨0x200024, [], .rw, .atOnce, 0x30F, 0x104⟩,
  ⟨0x200028, [], .ro, .atOnce, 0x0, 0x7F00⟩]

/-- Register map of the EVT block. -/
def regsEVT : List RegDef := [
  ⟨0x300000, [], .ro, .atOnce, 0x0, 0x0⟩,
  ⟨0x300004, [], .rw, .atOnce, 0xFFFFF000, 0x0⟩,
  ⟨0x300008, [], .rw, .atOnce, 0xFFFFFFFF, 0x0⟩,
  ⟨0x30000C, [], .rw, .atOnce, 0x1F01, 0xA00⟩,
  ⟨0x300010, [], .ro, .atOnce, 0x0, 0x0⟩,
  ⟨0x300014, [], .rw, .atOnce, 0x1FFFF, 0x0⟩,
  ⟨0x300018, [], .rw, .atOnce, 0xFFFF, 0x32⟩,
  ⟨0x300100, [(21, 0x4)], .rw, .atOnce, 0xFF, 0xA0⟩]

/-- Register map of the SEC block. -/
def regsSEC : List RegDef := [
  ⟨0x400000, [], .ro, .atOnce, 0x0, 0x0⟩,
  ⟨0x400004, [], .ro, .atOnce, 0x0, 0x0⟩,
  ⟨0x400008, [], .ro, .atOnce, 0x0, 0x0⟩,
  ⟨0x40000C, [], .ro, .atOnce, 0x0, 0x0⟩,
  ⟨0x400010, [], .ro, .atOnce, 0x0, 0x0⟩,
  ⟨0x400014, [], .ro, .atOnce, 0x0, 0x0⟩,
  ⟨0x400020, [], .wo, .atOnce, 0xFF, 0x0⟩,
  ⟨0x400024, [], .ro, .atOnce, 0x0, 0x0⟩,
  ⟨0x400028, [], .rw, .atOnce, 0x87FFFFFF, 0x0⟩,
  ⟨0x40002C, [], .rw, .atOnce, 0x7FFFFFF, 0x0⟩,
  ⟨0x400030, [], .wo, .atOnce, 0x1, 0x0⟩,
  ⟨0x400034, [], .ro, .atOnce, 0x0, 0x0⟩,
  ⟨0x400038, [], .ro, .atOnce, 0x0, 0x0⟩,
  ⟨0x400040, [(8, 0x4)], .rw, .atOnce, 0xFFFFFFFF, 0x0⟩,
  ⟨0x400060, [], .wo, .atOnce, 0xFFFF, 0x0⟩,
  ⟨0x400064, [], .ro, .atOnce, 0x0, 0x0⟩,
  ⟨0x401000, [(2048, 0x4)], .ro, .atOnce, 0x0, 0x0⟩,
  ⟨0x410000, [(16384, 0x4)], .rw, .atOnce, 0xFFFFFFFF, 0x0⟩,
  ⟨0x420000, [(16384, 0x4)], .rw, .atOnce, 0xFFFFFFFF, 0x0⟩]

/-- Register map of the PLY block. -/
def regsPLY : List RegDef := [
  ⟨0x800000, [], .ro, .atOnce, 0x0, 0x0⟩,
  ⟨0x800010, [], .ro, .atOnce, 0x0, 0x0⟩,
  ⟨0x800014, [], .ro, .atOnce, 0x0, 0x0⟩,
  ⟨0x800018, [], .ro, .atOnce, 0x0, 0x0⟩,
  ⟨0x800100, [(64, 0x4)], .rw, .atOnce, 0xFFFFFFFF, 0x0⟩,
  ⟨0x800420, [(15, 0x20)], .rws, .atCommit, 0xFFFFF000, 0x0⟩,
  ⟨0x800424, [(15, 0x20)], .rws, .atCommit, 0x7, 0x0⟩,
  ⟨0x800428, [(15, 0x20)], .rws, .atCommit, 0xFFFFF, 0x0⟩,
  ⟨0x80042C, [(15, 0x20)], .rws, .atCommit, 0xFFFFFF, 0x10000⟩,
  ⟨0x800430, [(15, 0x20)], .ro, .atOnce, 0x0, 0x0⟩,
  ⟨0x801000, [(64, 0x40)], .rws, .atCommit, 0xFFFFF000, 0x0⟩,
  ⟨0x801004, [(64, 0x40)], .rws, .atCommit, 0x7, 0x0⟩,
  ⟨0x801008, [(64, 0x40)], .rws, .atCommit, 0xF7FF, 0x0⟩,
  ⟨0x80100C, [(64, 0x40)], .rws, .atCommit, 0xFFFFFFFF, 0x10001⟩,
  ⟨0x801010, [(64, 0x40)], .rws, .atCommit, 0x1FFFFF, 0x80⟩,
  ⟨0x801014, [(64, 0x40)], .rws, .atCommit, 0xFFFFFF, 0x10000⟩,
  ⟨0x801018, [(64, 0x40)], .rws, .atCommit, 0xFFFFFF, 0x10000⟩,
  ⟨0x80101C, [(64, 0x40)], .rws, .atCommit, 0xFFFFFF, 0x0⟩,
  ⟨0x801020, [(64, 0x40)], .rws, .atCommit, 0xFFFFFF, 0x0⟩,
  ⟨0x801024, [(64, 0x40)], .rws, .atCommit, 0xFFFF, 0x0⟩,
  ⟨0x801028, [(64, 0x40)], .rws, .atCommit, 0xFFFFFFFF, 0x0⟩,
  ⟨0x80102C, [(64, 0x40)], .rws, .atCommit, 0xFFFF, 0x8000⟩,
  ⟨0x801030, [(64, 0x40)], .rws, .atCommit, 0xFFFFFF3F, 0xFFFF0000⟩,
  ⟨0x801034, [(64, 0x40)], .rws, .atCommit, 0x3FFFFFFF, 0x0⟩,
  ⟨0x801038, [(64, 0x40)], .rws, .atCommit, 0x13F, 0x0⟩,
  ⟨0x80103C, [(64, 0x40)], .rws, .atCommit, 0xFFFFFFFF, 0x0⟩,
  ⟨0x802000, [(64, 0x4)], .ro, .atOnce, 0x0, 0x0⟩,
  ⟨0x803000, [(16, 0x4)], .ro, .atOnce, 0x0, 0x0⟩,
  ⟨0x800020, [], .rw, .atOnce, 0x1FFFF, 0x0⟩]

/-- Register map of the RAY block. -/
def regsRAY : List RegDef := [
  ⟨0xC00000, [], .ro, .atOnce, 0x0, 0x0⟩,
  ⟨0xC00004, [], .rws, .atCommit, 0x1F1F0F, 0x101001⟩,
  ⟨0xC00008, [], .rws, .atCommit, 0xFFFF, 0x7F80⟩,
  ⟨0xC0000C, [], .rws, .atCommit, 0xFFFF017F, 0xCB0111⟩,
  ⟨0xC00010, [], .ro, .atOnce, 0x0, 0x0⟩,
  ⟨0xC00014, [], .ro, .atOnce, 0x0, 0x0⟩,
  ⟨0xC00018, [], .ro, .atOnce, 0x0, 0x0⟩,
  ⟨0xC0001C, [], .rws, .atCommit, 0x3FFFF, 0x30000⟩,
  ⟨0xC00020, [], .ro, .atOnce, 0x0, 0x0⟩,
  ⟨0xC00024, [], .ro, .atOnce, 0x0, 0x0⟩,
  ⟨0xC00028, [], .ro, .atOnce, 0x0, 0x0⟩,
  ⟨0xC0002C, [], .ro, .atOnce, 0x0, 0x0⟩,
  ⟨0xC00040, [], .ro, .atOnce, 0x0, 0x0⟩,
  ⟨0xC00044, [], .ro, .atOnce, 0x0, 0x0⟩,
  ⟨0xC00048, [], .ro, .atOnce, 0x0, 0x0⟩,
  ⟨0xC0004C, [], .ro, .atOnce, 0x0, 0x0⟩,
  ⟨0xC00050, [], .ro, .atOnce, 0x0, 0x0⟩,
  ⟨0xC00054, [], .ro, .atOnce, 0x0, 0x0⟩,
  ⟨0xC00058, [], .ro, .atOnce, 0x0, 0x0⟩,
  ⟨0xC0005C, [], .ro, .atOnce, 0x0, 0x0⟩,
  ⟨0xC00060, [], .ro, .atOnce, 0x0, 0x0⟩,
  ⟨0xC00064, [], .ro, .atOnce, 0x0, 0x0⟩,
  ⟨0xC00068, [], .ro, .atOnce, 0x0, 0x0⟩,
  ⟨0xC00400, [(128, 0x4)], .ro, .atOnce, 0x0, 0x0⟩,
  ⟨0xC00800, [(16, 0x40), (9, 0x4)], .rwx, .atCommit, 0xFFFF, 0x0⟩,
  ⟨0xC10000, [(3, 0x2000), (2048, 0x4)], .rwx, .atCommit, 0x3FFF3FFF, 0x0⟩,
  ⟨0xD00000, [(128, 0x800), (289, 0x4)], .rwx, .atCommit, 0xFFFFFFFF, 0x0⟩,
  ⟨0xD40000, [(128, 0x400), (256, 0x4)], .rwx, .atCommit, 0xFFFFFFFF, 0x0⟩]

/-- Register map of the SCAN block. -/
def regsSCAN : List RegDef := [
  ⟨0x1000000, [], .ro, .atOnce, 0x0, 0x0⟩,
  ⟨0x1000004, [], .rw, .atOnce, 0x1, 0x0⟩,
  ⟨0x1000008, [], .rws, .atCommit, 0xFFFF003F, 0x9⟩,
  ⟨0x100000C, [], .rws, .atCommit, 0xFFFFFFFF, 0x0⟩,
  ⟨0x1000010, [], .rws, .atCommit, 0xFFFFFFFF, 0x0⟩,
  ⟨0x1000014, [], .rws, .atCommit, 0xFFFFFFFF, 0x0⟩,
  ⟨0x1000018, [], .ro, .atOnce, 0x0, 0x0⟩,
  ⟨0x100001C, [], .ro, .atOnce, 0x0, 0x0⟩,
  ⟨0x1000020, [], .ro, .atOnce, 0x0, 0x0⟩,
  ⟨0x1000024, [], .ro, .atOnce, 0x0, 0x0⟩,
  ⟨0x1000028, [], .rws, .atCommit, 0x1, 0x0⟩,
  ⟨0x100002C, [], .rws, .atCommit, 0xFFFF00FF, 0x10⟩,
  ⟨0x1000030, [], .rws, .atCommit, 0x1FFF, 0x1000⟩,
  ⟨0x1000034, [], .ro, .atOnce, 0x0, 0x0⟩,
  ⟨0x1000038, [], .rws, .atCommit, 0xFFFFFFFF, 0x40000060⟩,
  ⟨0x1000100, [(128, 0x4)], .rws, .atCommit, 0x3, 0x2⟩,
  ⟨0x1000300, [(128, 0x4)], .ro, .atOnce, 0x0, 0x0⟩]

/-- Register map of the SPK block. -/
def regsSPK : List RegDef := [
  ⟨0x1400000, [], .ro, .atOnce, 0x0, 0x0⟩,
  ⟨0x1400004, [], .rw, .atMode, 0x7, 0x0⟩,
  ⟨0x1400008, [], .rw, .atOnce, 0xFFFF, 0x0⟩,
  ⟨0x140000C, [], .wo, .atOnce, 0x77F, 0x0⟩,
  ⟨0x1400010, [], .rwx, .atOnce, 0xFFFF017F, 0x0⟩,
  ⟨0x1400014, [], .rwx, .atOnce, 0xFFFFFFFF, 0x0⟩,
  ⟨0x1400018, [], .rwx, .atOnce, 0x1, 0x0⟩,
  ⟨0x140001C, [], .ro, .atOnce, 0x0, 0x0⟩,
  ⟨0x1400020, [], .ro, .atOnce, 0x0, 0x0⟩,
  ⟨0x1400100, [(128, 0x4)], .ro, .atOnce, 0x0, 0x0⟩,
  ⟨0x1400300, [(128, 0x4)], .rw, .atOnce, 0x80FFFFFF, 0x0⟩,
  ⟨0x1400500, [(128, 0x4)], .ro, .atOnce, 0x0, 0x0⟩,
  ⟨0x1400700, [(128, 0x4)], .ro, .atOnce, 0x0, 0x0⟩,
  ⟨0x1410000, [(128, 0x40), (16, 0x4)], .ro, .atOnce, 0x0, 0x0⟩]

/-- Register map of the LANE block. -/
def regsLANE : List RegDef := [
  ⟨0x1800000, [], .ro, .atOnce, 0x0, 0x0⟩,
  ⟨0x1800004, [], .wo, .atOnce, 0xFFF, 0x0⟩,
  ⟨0x1800008, [], .rw, .atOnce, 0x3F, 0x24⟩,
  ⟨0x180000C, [], .ro, .atOnce, 0x0, 0x0⟩,
  ⟨0x1800020, [(6, 0x4)], .rw, .atOnce, 0x1FF, 0x120⟩,
  ⟨0x1801000, [(304, 0x20)], .rw, .atMode, 0x3F, 0x8⟩,
  ⟨0x1801004, [(304, 0x20)], .ro, .atOnce, 0x0, 0x0⟩,
  ⟨0x1801008, [(304, 0x20)], .ro, .atOnce, 0x0, 0x0⟩,
  ⟨0x180100C, [(304, 0x20)], .ro, .atOnce, 0x0, 0x0⟩,
  ⟨0x1801010, [(304, 0x20)], .rwx, .atOnce, 0x3F, 0x0⟩,
  ⟨0x1801014, [(304, 0x20)], .ro, .atOnce, 0x0, 0x0⟩,
  ⟨0x1801018, [(304, 0x20)], .rwx, .atOnce, 0xFFFFFFFF, 0x0⟩,
  ⟨0x180101C, [(304, 0x20)], .rwx, .atMode, 0x3F3F3F, 0x0⟩]

/-- Register map of the EMIT block. -/
def regsEMIT : List RegDef := [
  ⟨0x1C00000, [], .ro, .atOnce, 0x0, 0x0⟩,
  ⟨0x1C00004, [], .rws, .atCommit, 0xFFFF, 0x8000⟩,
  ⟨0x1C00008, [], .rws, .atCommit, 0x1, 0x1⟩,
  ⟨0x1C0000C, [], .rw, .atOnce, 0xFFFFFFFF, 0x500A0D6B⟩,
  ⟨0x1C00010, [], .rw, .atOnce, 0xFFFF, 0xFFFF⟩,
  ⟨0x1C00014, [], .rws, .atCommit, 0x3, 0x0⟩,
  ⟨0x1C00018, [], .ro, .atOnce, 0x0, 0x0⟩,
  ⟨0x1C00020, [], .rw, .atMode, 0xFFFFFFFF, 0xFFFFFFFF⟩,
  ⟨0x1C00024, [], .rw, .atMode, 0x3FFFFFF, 0x3FF8000⟩,
  ⟨0x1C00028, [], .wo, .atOnce, 0x1, 0x0⟩,
  ⟨0x1C0002C, [], .ro, .atOnce, 0x0, 0x0⟩,
  ⟨0x1C00030, [], .ro, .atOnce, 0x0, 0xFFFF⟩,
  ⟨0x1C00040, [(16, 0x4)], .ro, .atOnce, 0x0, 0x2⟩,
  ⟨0x1C00080, [(16, 0x4)], .ro, .atOnce, 0x0, 0x0⟩,
  ⟨0x1C00100, [(48, 0x4)], .rws, .atCommit, 0x3FFF, 0x0⟩,
  ⟨0x1C00200, [(48, 0x4)], .ro, .atOnce, 0x0, 0x0⟩,
  ⟨0x1C00300, [(48, 0x4)], .rwx, .atCommit, 0x80003FFF, 0x0⟩,
  ⟨0x1C00400, [(3, 0x20), (8, 0x4)], .rwx, .atCommit, 0xFFFF, 0x4000⟩,
  ⟨0x1C00600, [(128, 0x4)], .ro, .atOnce, 0x0, 0x0⟩,
  ⟨0x1C10000, [(65536, 0x4)], .rw, .atOnce, 0xFFFFFFFF, 0x0⟩]

/-- Register map of the HBM block. -/
def regsHBM : List RegDef := [
  ⟨0x2000000, [], .ro, .atOnce, 0x0, 0x0⟩,
  ⟨0x2000004, [], .ro, .atOnce, 0x0, 0x0⟩,
  ⟨0x2000008, [], .ro, .atOnce, 0x0, 0x0⟩,
  ⟨0x200000C, [], .rws, .atCommit, 0x1, 0x0⟩,
  ⟨0x2000010, [], .rw, .atMode, 0x1F, 0x1F⟩,
  ⟨0x2000014, [], .rw, .atOnce, 0xF, 0x1⟩,
  ⟨0x2000018, [], .rw, .atMode, 0xFFFF, 0x0⟩,
  ⟨0x200001C, [], .rw, .atOnce, 0x1FF, 0x118⟩,
  ⟨0x2000020, [], .ro, .atOnce, 0x0, 0x0⟩,
  ⟨0x2000024, [], .wo, .atOnce, 0x7, 0x0⟩,
  ⟨0x2000028, [], .rw, .atOnce, 0x7FFFF, 0x0⟩,
  ⟨0x200002C, [], .rw, .atOnce, 0x7FFFF, 0x0⟩,
  ⟨0x2000030, [], .ro, .atOnce, 0x0, 0x0⟩,
  ⟨0x2000034, [], .ro, .atOnce, 0x0, 0x0⟩,
  ⟨0x2000040, [(16, 0x4)], .ro, .atOnce, 0x0, 0x0⟩,
  ⟨0x2000100, [(2, 0x10), (4, 0x4)], .rwx, .atCommit, 0xFFFFFFFF, 0x0⟩]

/-- Register map of the HANK block. -/
def regsHANK : List RegDef := [
  ⟨0x2400000, [], .ro, .atOnce, 0x0, 0x0⟩,
  ⟨0x2400010, [], .rw, .atOnce, 0xFFFFFFFF, 0x0⟩,
  ⟨0x2400014, [], .rw, .atOnce, 0x7, 0x0⟩,
  ⟨0x2400018, [], .rw, .atOnce, 0xFFFFFFFF, 0x0⟩,
  ⟨0x240001C, [], .rw, .atOnce, 0x7, 0x0⟩,
  ⟨0x2400020, [], .rw, .atOnce, 0xFFFFFFFF, 0x0⟩,
  ⟨0x2400024, [], .rw, .atOnce, 0xFFFFFFFF, 0x0⟩,
  ⟨0x2400028, [], .rw, .atOnce, 0xFFFF00FF, 0xE⟩,
  ⟨0x240002C, [], .wo, .atOnce, 0x1, 0x0⟩,
  ⟨0x2400030, [], .ro, .atOnce, 0x0, 0x0⟩,
  ⟨0x2400034, [], .ro, .atOnce, 0x0, 0x0⟩,
  ⟨0x2400100, [(6, 0x10)], .ro, .atOnce, 0x0, 0x0⟩,
  ⟨0x2400104, [(6, 0x10)], .ro, .atOnce, 0x0, 0x0⟩,
  ⟨0x2400108, [(6, 0x10)], .ro, .atOnce, 0x0, 0x0⟩,
  ⟨0x240010C, [(6, 0x10)], .ro, .atOnce, 0x0, 0x0⟩]

/-- Register map of the NEEDLE block. -/
def regsNEEDLE : List RegDef := [
  ⟨0x2600000, [], .ro, .atOnce, 0x0, 0x0⟩,
  ⟨0x2600004, [], .wo, .atOnce, 0x1, 0x0⟩,
  ⟨0x2600008, [], .rw, .atOnce, 0x3FF0F3F, 0x1⟩,
  ⟨0x260000C, [], .rw, .atOnce, 0xFFFF, 0x0⟩,
  ⟨0x2600010, [], .rw, .atOnce, 0xFFFFF000, 0x0⟩,
  ⟨0x2600030, [], .rw, .atOnce, 0xFFFFF000, 0x0⟩,
  ⟨0x2600014, [], .rw, .atOnce, 0x7, 0x0⟩,
  ⟨0x2600034, [], .rw, .atOnce, 0x7, 0x0⟩,
  ⟨0x2600018, [], .rw, .atOnce, 0x1FFFFF, 0x80⟩,
  ⟨0x2600038, [], .rw, .atOnce, 0x1FFFFF, 0x80⟩,
  ⟨0x260001C, [], .rw, .atOnce, 0x87FF, 0x0⟩,
  ⟨0x260003C, [], .rw, .atOnce, 0x87FF, 0x0⟩,
  ⟨0x2600020, [], .rw, .atOnce, 0xFFFFFFFF, 0x10001⟩,
  ⟨0x2600040, [], .rw, .atOnce, 0xFFFFFFFF, 0x10001⟩,
  ⟨0x2600024, [], .rw, .atOnce, 0xFFFFFFFF, 0x0⟩,
  ⟨0x2600044, [], .rw, .atOnce, 0xFFFFFFFF, 0x0⟩,
  ⟨0x2600028, [], .rw, .atOnce, 0xFFFFFFFF, 0x10001⟩,
  ⟨0x2600048, [], .rw, .atOnce, 0xFFFFFFFF, 0x0⟩,
  ⟨0x260004C, [], .rw, .atOnce, 0xFFFFFFFF, 0x0⟩,
  ⟨0x2600060, [], .ro, .atOnce, 0x0, 0x0⟩,
  ⟨0x2600064, [], .ro, .atOnce, 0x0, 0x0⟩,
  ⟨0x2600080, [(4, 0x8)], .rw, .atOnce, 0xFFFFFFFF, 0x0⟩,
  ⟨0x2600084, [(4, 0x8)], .rw, .atOnce, 0xFFFFFFFF, 0x40004000⟩]

/-- Register map of the STORE block. -/
def regsSTORE : List RegDef := [
  ⟨0x2800000, [], .ro, .atOnce, 0x0, 0x0⟩,
  ⟨0x2800004, [], .rw, .atMode, 0x7, 0x3⟩,
  ⟨0x2800008, [], .rw, .atOnce, 0x7FFF7FFF, 0x0⟩,
  ⟨0x280000C, [], .rw, .atOnce, 0x7FFF7FFF, 0x0⟩,
  ⟨0x2800010, [], .rw, .atOnce, 0x7FFF7FFF, 0x0⟩,
  ⟨0x2800014, [], .rw, .atOnce, 0xFFF, 0x0⟩,
  ⟨0x2800018, [], .rw, .atOnce, 0xFFFFFFFF, 0x0⟩,
  ⟨0x280001C, [], .wo, .atOnce, 0x7, 0x0⟩,
  ⟨0x2800020, [], .rw, .atOnce, 0x7FFFFF, 0x0⟩,
  ⟨0x2800024, [], .rw, .atOnce, 0xFFFFFFFF, 0x0⟩,
  ⟨0x2800028, [], .wo, .atOnce, 0xFF1F, 0x0⟩,
  ⟨0x280002C, [], .ro, .atOnce, 0x0, 0x0⟩,
  ⟨0x2800030, [], .ro, .atOnce, 0x0, 0x0⟩,
  ⟨0x2800034, [], .ro, .atOnce, 0x0, 0x0⟩,
  ⟨0x2800040, [(2, 0x10)], .ro, .atOnce, 0x0, 0x0⟩,
  ⟨0x2800100, [(16, 0x8)], .rw, .atOnce, 0xFFFFFFFF, 0x0⟩,
  ⟨0x2800104, [(16, 0x8)], .ro, .atOnce, 0x0, 0x0⟩]

/-- Register map of the DPORT block. -/
def regsDPORT : List RegDef := [
  ⟨0x2A00000, [], .ro, .atOnce, 0x0, 0x0⟩,
  ⟨0x2A00010, [(4, 0x10)], .rw, .atOnce, 0xFFFFFFFC, 0x0⟩,
  ⟨0x2A00014, [(4, 0x10)], .rw, .atOnce, 0x7, 0x0⟩,
  ⟨0x2A00018, [(4, 0x10)], .rw, .atOnce, 0x7, 0x1⟩,
  ⟨0x2A00100, [(4, 0x20)], .rw, .atOnce, 0xFFFFF000, 0x0⟩,
  ⟨0x2A00104, [(4, 0x20)], .rw, .atOnce, 0xFFFFFFFF, 0x0⟩,
  ⟨0x2A00108, [(4, 0x20)], .rw, .atOnce, 0xF1, 0x0⟩,
  ⟨0x2A0010C, [(4, 0x20)], .rw, .atOnce, 0x7FFF, 0x0⟩,
  ⟨0x2A00110, [(4, 0x20)], .ro, .atOnce, 0x0, 0x0⟩,
  ⟨0x2A00114, [(4, 0x20)], .ro, .atOnce, 0x0, 0x0⟩]

/-- Register map of the NET block. -/
def regsNET : List RegDef := [
  ⟨0x2C00000, [], .rw, .atMode, 0x1, 0x0⟩,
  ⟨0x2C00100, [(2, 0x100)], .rw, .atMode, 0xFFF0003, 0x3⟩,
  ⟨0x2C00104, [(2, 0x100)], .rw, .atOnce, 0xFFFFFFFF, 0x0⟩,
  ⟨0x2C00108, [(2, 0x100)], .rw, .atOnce, 0xFFFF, 0x0⟩,
  ⟨0x2C0010C, [(2, 0x100)], .rw, .atOnce, 0xFFFFFFFF, 0x0⟩,
  ⟨0x2C00110, [(2, 0x100), (4, 0x4)], .rw, .atOnce, 0xFFFFFFFF, 0x0⟩,
  ⟨0x2C00120, [(2, 0x100)], .rw, .atOnce, 0xFFFFFFFF, 0x0⟩,
  ⟨0x2C00124, [(2, 0x100)], .rw, .atOnce, 0xFFFFFFFF, 0x0⟩,
  ⟨0x2C00128, [(2, 0x100)], .rw, .atOnce, 0xFFFFFFFF, 0x0⟩,
  ⟨0x2C0012C, [(2, 0x100)], .ro, .atOnce, 0x0, 0x0⟩,
  ⟨0x2C00130, [(2, 0x100)], .ro, .atOnce, 0x0, 0x0⟩,
  ⟨0x2C00134, [(2, 0x100)], .ro, .atOnce, 0x0, 0x0⟩,
  ⟨0x2C00138, [(2, 0x100)], .ro, .atOnce, 0x0, 0x0⟩,
  ⟨0x2C0013C, [(2, 0x100)], .ro, .atOnce, 0x0, 0x0⟩,
  ⟨0x2C00400, [(16, 0x10), (4, 0x4)], .rw, .atOnce, 0xFFFFFFFF, 0x0⟩]

/-- Register map of the TIME block. -/
def regsTIME : List RegDef := [
  ⟨0x3000000, [], .ro, .atOnce, 0x0, 0x0⟩,
  ⟨0x3000004, [], .rw, .atOnce, 0xFFFF01F3, 0x7E7F00F1⟩,
  ⟨0x3000008, [], .rw, .atOnce, 0x3FFFF, 0x10064⟩,
  ⟨0x300000C, [], .rw, .atOnce, 0xFF1FFF, 0xA0642⟩,
  ⟨0x3000010, [], .rws, .atCommit, 0x1, 0x0⟩,
  ⟨0x3000014, [], .ro, .atOnce, 0x0, 0x0⟩,
  ⟨0x3000018, [], .rw, .atOnce, 0xFFFFF07, 0x186A006⟩,
  ⟨0x300001C, [], .wo, .atOnce, 0x7, 0x0⟩,
  ⟨0x3000020, [], .rw, .atOnce, 0xFFFFFFFF, 0x0⟩,
  ⟨0x3000024, [], .rw, .atOnce, 0xFFFF, 0x0⟩,
  ⟨0x3000028, [], .rw, .atOnce, 0x3FFFFFFF, 0x0⟩,
  ⟨0x3000040, [(4, 0x40), (11, 0x4)], .ro, .atOnce, 0x0, 0x0⟩,
  ⟨0x3000200, [], .wo, .atOnce, 0x703, 0x0⟩,
  ⟨0x3000204, [], .ro, .atOnce, 0x0, 0x0⟩,
  ⟨0x3000300, [(8, 0x20), (8, 0x4)], .rw, .atOnce, 0xFFFFFFFF, 0x20⟩,
  ⟨0x3000400, [(3, 0x20)], .rws, .atCommit, 0x77, 0x20⟩,
  ⟨0x3000404, [(3, 0x20)], .ro, .atOnce, 0x0, 0x0⟩,
  ⟨0x3000408, [(3, 0x20)], .ro, .atOnce, 0x0, 0x0⟩,
  ⟨0x300040C, [(3, 0x20)], .ro, .atOnce, 0x0, 0x0⟩,
  ⟨0x3000410, [(3, 0x20)], .ro, .atOnce, 0x0, 0x0⟩]

/-- Register map of the TRAF block. -/
def regsTRAF : List RegDef := [
  ⟨0x3400004, [], .wo, .atOnce, 0x3, 0x0⟩,
  ⟨0x3400008, [], .rws, .atCommit, 0x77, 0x66⟩,
  ⟨0x3400100, [(2, 0x100)], .rws, .atCommit, 0xF0F07, 0x70600⟩,
  ⟨0x3400120, [(2, 0x100), (8, 0x4)], .rws, .atCommit, 0xFF07FF0F, 0x1008001⟩,
  ⟨0x3400140, [(2, 0x100), (8, 0x4)], .rwx, .atCommit, 0x1FFFF, 0x0⟩,
  ⟨0x3400160, [(2, 0x100), (8, 0x4)], .rwx, .atCommit, 0xFFFFF, 0x0⟩,
  ⟨0x3400180, [(2, 0x100), (8, 0x4)], .ro, .atOnce, 0x0, 0x0⟩,
  ⟨0x3400300, [(2, 0x40), (8, 0x4)], .ro, .atOnce, 0x0, 0x0⟩,
  ⟨0x3401000, [(2, 0x400), (32, 0x20), (4, 0x4)], .rws, .atCommit, 0xFFFFFFFF, 0x0⟩,
  ⟨0x3401010, [(2, 0x400), (32, 0x20)], .rws, .atCommit, 0xFFFFFF71, 0x100⟩,
  ⟨0x3401014, [(2, 0x400), (32, 0x20)], .ro, .atOnce, 0x0, 0x0⟩,
  ⟨0x3402000, [(256, 0x20), (4, 0x4)], .rws, .atCommit, 0xFFFFFFFF, 0x0⟩,
  ⟨0x3402010, [(256, 0x20)], .rws, .atCommit, 0xFFFFFF03, 0x1400⟩,
  ⟨0x3402014, [(256, 0x20)], .rwx, .atCommit, 0x1FFFF, 0x186A0⟩,
  ⟨0x3402018, [(256, 0x20)], .rwx, .atCommit, 0xFFFFF, 0xFFFFF⟩,
  ⟨0x3404000, [(2, 0x400), (8, 0x80), (2, 0x40), (16, 0x4)], .ro, .atOnce, 0x0, 0x0⟩,
  ⟨0x3406000, [(256, 0x10), (4, 0x4)], .ro, .atOnce, 0x0, 0x0⟩]

/-- Register map of the CHAIN block. -/
def regsCHAIN : List RegDef := [
  ⟨0x3800000, [], .ro, .atOnce, 0x0, 0x0⟩,
  ⟨0x3800004, [], .rw, .atMode, 0xF, 0x7⟩,
  ⟨0x3800008, [], .wo, .atOnce, 0x1F, 0x0⟩,
  ⟨0x380000C, [], .rw, .atOnce, 0x7FFFFF, 0x705048⟩,
  ⟨0x3800010, [], .ro, .atOnce, 0x0, 0x0⟩,
  ⟨0x3800040, [(4, 0x10)], .rw, .atMode, 0xFF01, 0x1⟩,
  ⟨0x3800044, [(4, 0x10)], .ro, .atOnce, 0x0, 0x0⟩,
  ⟨0x3800048, [(4, 0x10)], .ro, .atOnce, 0x0, 0x0⟩,
  ⟨0x380004C, [(4, 0x10)], .ro, .atOnce, 0x0, 0x0⟩,
  ⟨0x3800100, [(8, 0x4)], .ro, .atOnce, 0x0, 0x0⟩]

/-- Register map of the HLTH block. -/
def regsHLTH : List RegDef := [
  ⟨0x3C00000, [], .ro, .atOnce, 0x0, 0x0⟩,
  ⟨0x3C00004, [], .rw, .atOnce, 0xFFFFFF, 0x5645F⟩,
  ⟨0x3C00008, [], .wo, .atOnce, 0xF, 0x0⟩,
  ⟨0x3C0000C, [], .ro, .atOnce, 0x0, 0x0⟩,
  ⟨0x3C00010, [], .ro, .atOnce, 0x0, 0x0⟩,
  ⟨0x3C00014, [], .ro, .atOnce, 0x0, 0x0⟩,
  ⟨0x3C00018, [], .ro, .atOnce, 0x0, 0x0⟩,
  ⟨0x3C00020, [(2, 0x4)], .ro, .atOnce, 0x0, 0x0⟩,
  ⟨0x3C00100, [(32, 0x4)], .ro, .atOnce, 0x0, 0x0⟩,
  ⟨0x3C00200, [(64, 0x4)], .ro, .atOnce, 0x0, 0x0⟩,
  ⟨0x3C10000, [(560, 0x10)], .ro, .atOnce, 0x0, 0x0⟩,
  ⟨0x3C10004, [(560, 0x10)], .ro, .atOnce, 0x0, 0x0⟩,
  ⟨0x3C10008, [(560, 0x10)], .rwx, .atCommit, 0x8000FFFF, 0x0⟩,
  ⟨0x3C1000C, [(560, 0x10)], .ro, .atOnce, 0x0, 0x0⟩,
  ⟨0x3C20000, [(16384, 0x4)], .ro, .atOnce, 0x0, 0x0⟩]

end Sys2Proof.Machine
end

