-- ==== Sys2Proof/Machine/State.lean ====
section
/-! DEFINITION.  The state of the HL9600 as plain data: the register space, every buffer,
queue, counter and mode that the chapters give the device, the queue of waiting commands,
and the state after reset.  Registers that software addresses live in `regs` (and, while
they wait to apply, in `rws` and `atMode`); what the chapters give the device beside its
registers lives in one structure per block. -/

namespace Sys2Proof.Machine

/-- No command of this block ends in a fault: the manual gives every access an outcome. -/
inductive Fault where
  /-- Raised by no meaning; kept so that the type has a value.  Safe. -/
  | none
  deriving DecidableEq, Repr

/-- Why a command has no meaning yet. -/
inductive Refusal where
  /-- Raised only by an arm of `exec` whose command has no meaning yet.  Safe: nothing is claimed of it. -/
  | notModelled (mnemonic : String)
  deriving DecidableEq, Repr

/-! ## Events, interrupts and the trace port -/

/-- An event as raised: the cycle, the code of Table 20-10, its argument words and show time (R426). -/
structure Event where
  cycle : Nat
  code : Nat
  args : List Nat
  time : Nat
  deriving DecidableEq, Repr

/-- A write that waits for its apply point, in write order, with the cycle it was recognised in (R7, R110). -/
structure PendWrite where
  addr : Nat
  data : Word
  stamp : Nat
  req : Requester
  deriving DecidableEq, Repr

/-- Queues of the event unit beside its registers (R66, R430, R432). -/
structure EvtState where
  /-- the early queue of R66, oldest first -/
  early : List Event := []
  /-- events lost from the early queue -/
  earlyLost : Nat := 0
  /-- CODE of the first event lost from the ring since the last overflow record -/
  lostFirst : Option Nat := none
  /-- events lost from the ring since the last overflow record -/
  lostCount : Nat := 0
  /-- vectors whose message waits for the moderation interval -/
  vecWaiting : List Nat := []
  /-- cycle of the last message of each vector -/
  vecLast : List (Nat × Nat) := []
  /-- mask bits of the MSI-X table, set at reset as its specification has them -/
  vecMask : Nat := 0xFFFFFFFF
  /-- pending-bit array of the MSI-X capability -/
  pba : Nat := 0
  deriving DecidableEq, Repr

/-- What a packet of the trace port carries (R446). -/
inductive TracePacket where
  | event (e : Event)
  | latch (frame at_ mode : Nat) (commit : Bool)
  | loss (dropped : Nat)
  deriving DecidableEq, Repr

/-- The trace port (R446). -/
structure TraceState where
  /-- queued packets, the one being sent first -/
  queue : List TracePacket := []
  /-- packets dropped since the previous loss marker -/
  dropped : Nat := 0
  /-- next packet sequence number -/
  pseq : Nat := 0
  /-- cycle in which the packet at the head began, or in which the next one may begin -/
  headAt : Nat := 0
  deriving DecidableEq, Repr

/-- Balls whose level the device reads or drives (Tables 21-2 and 21-3). -/
structure Pins where
  /-- CHAIN_ID strap levels -/
  chainId : Nat := 0
  testMode : Bool := false
  /-- THERM_TRIP_N driven low (R443) -/
  thermTrip : Bool := false
  /-- levels of TOUT[3:0] -/
  tout : Nat := 0
  ppsOut : Bool := false
  /-- NVME_PERST_N[1:0] driven low -/
  nvmePerst : Nat := 3
  /-- NVME_REFCLK_OUT[1:0] driven (R213) -/
  nvmeRefclk : Nat := 0
  deriving DecidableEq, Repr

/-! ## Fabric -/

/-- Replay bookkeeping of the fabric (R19 to R21). -/
structure FabricState where
  /-- replay buffers of the sending hops, newest last: hop, transfer, its failures so far, cycle of the last one -/
  fails : List (Nat × Nat × Nat × Nat) := []
  /-- cycles of the uncorrectable errors counted toward the next FABRIC_CRITICAL -/
  uncorr : List Nat := []
  /-- cycle at which the FABRIC_CRITICAL cause ends -/
  criticalEnd : Option Nat := none
  deriving DecidableEq, Repr

/-! ## Modes and power -/

/-- Where a commanded transition stands. -/
inductive Stage where
  /-- takes effect at a frame boundary (R29) -/
  | latch
  /-- waits for the boundary that latches the black frame (R31) -/
  | bindLatch
  /-- black frame latched; waits for its flip -/
  | bindFlip
  /-- quiet withdrawal: the open courses end (R32) -/
  | withdraw
  /-- IREF ramp, DISCHARGE and electrical idle run (R250) -/
  | bindRun
  /-- power-up sequence runs (R249) -/
  | powerUp
  /-- completes by MODE_TRANSITION_DONE -/
  | timed
  deriving DecidableEq, Repr

/-- A transition in progress (R27 to R33). -/
structure Transition where
  target : Nat
  seq : Nat
  source : Nat
  local_ : Bool
  frm : Nat
  accepted : Nat
  /-- frame named by the acting master of a chain (R389) -/
  frame : Option Nat
  stage : Stage
  /-- list position of the cue whose command it is (R83) -/
  cue : Option Nat := none
  deriving DecidableEq, Repr

/-- The mode machine beside GLB_MODE_STAT and GLB_MODE_SAFE. -/
structure ModeState where
  cur : Option Transition := none
  /-- cycle in which entry to SAFE last started (R33) -/
  safeStart : Option Nat := none
  /-- priority of the mode command last taken and its cycle (R27) -/
  lastTaken : Option (Nat × Nat) := none
  /-- STRIP bind-off is of the band only -/
  bandOnly : Bool := false
  /-- SERVICE was entered from SAFE: the panel octets are off (Table 2-2) -/
  serviceSafe : Bool := false
  /-- count of the dark frame at whose flip the bind-off sequence starts (R31, R33) -/
  darkCount : Option Nat := none
  deriving DecidableEq, Repr

/-- The power sequencer (R37). -/
structure PowerState where
  /-- domains that wait for their switch-on, in order -/
  queue : List Nat := []
  /-- domains switched on whose power good is awaited, with the deadline cycle -/
  rising : List (Nat × Nat) := []
  /-- cycle of the last switch-on start -/
  lastStart : Option Nat := none
  /-- cycle of the last HBM access or of entry to IDLE (R35) -/
  hbmIdleSince : Nat := 0
  /-- cycle in which a panel octet last came on (R249) -/
  panelOn : Nat := 0
  /-- the stack is on its way out of self-refresh (R36) -/
  srExit : Bool := false
  deriving DecidableEq, Repr

/-! ## Reset and cast-on -/

/-- Sources whose scope is the whole device (Table 3-1). -/
inductive ResetSource where
  | por | pin | wdog | soft | therm | supply
  deriving DecidableEq, Repr

/-- A flash erase in progress (R55). -/
structure EraseState where
  flash : Nat
  sector : Nat
  len : Nat
  /-- cycle in which the suspend was issued, once a reset caught the erase -/
  suspendAt : Option Nat
  deriving DecidableEq, Repr

/-- Resets in force and the flash and OTP interface (R44 to R55). -/
structure ResetState where
  active : List ResetSource := []
  perst : Bool := false
  /-- cycle at which the internal pulse of a watchdog or software reset ends -/
  pulseEnd : Option Nat := none
  /-- start cycle of a page program or OTP burn pulse in progress (R54) -/
  flashPulse : Option Nat := none
  erase : Option EraseState := none
  /-- the flash and OTP interface is in reset -/
  flashInReset : Bool := false
  /-- sectors of undefined content after a suspended erase: flash, address -/
  undefinedSectors : List (Nat × Nat) := []
  /-- block resets in progress: code and start cycle -/
  blocks : List (Nat × Nat) := []
  /-- cycle of power good, or of the end of the last source -/
  endedAt : Nat := 0
  /-- reset held for factory test (R442) -/
  held : Bool := false
  deriving DecidableEq, Repr

/-- Fields of an option block that cast-on uses (Table 3-4). -/
structure Options where
  target : Nat := 4
  chainOvr : Nat := 0
  pcieCfg : Nat := 5
  subsysVid : Nat := 0
  subsysId : Nat := 0
  fwA : Nat := 0
  fwB : Nat := 0
  patA : Nat := 0
  patB : Nat := 0
  trimSel : Nat := 0
  flashCfg : Nat := 8
  deriving DecidableEq, Repr

/-- Cast-on beside CLKRST_CASTON_STAT and CLKRST_OPT_STAT. -/
structure CastonState where
  /-- attempt of the option loader, 0 to 2 on flash A and 3 to 5 on flash B; none before PLL lock -/
  attempt : Option Nat := none
  /-- cycle of the reset sequence of the attempt in progress -/
  attemptStart : Nat := 0
  /-- flash reported ready in this attempt -/
  flashReady : Bool := false
  opts : Options := {}
  /-- target of a wake from DEEP, which replaces the option block's (R41) -/
  wakeTarget : Option Nat := none
  /-- causes of Table 2-4 recorded during cast-on -/
  causes : List Nat := []
  /-- next record of the boot log -/
  bootPos : Nat := 0
  /-- cycle of the last EARLY_ACCESS (R65) -/
  earlyAt : Option Nat := none
  /-- refused accesses since then that raised no event -/
  earlySuppressed : Nat := 0
  /-- cue frames held until READY (R67): port, payload -/
  cueQueue : List (Nat × List Byte) := []
  /-- early policers per port: PTP and cue tokens with the cycle of the last refill -/
  earlyTokens : List (Nat × Nat) := [(983040, 0), (983040, 0), (983040, 0), (983040, 0)]
  /-- link speed (Gen) and width of the host endpoint, 0 while down -/
  pcieSpeed : Nat := 0
  pcieWidth : Nat := 0
  deriving DecidableEq, Repr

/-! ## Security unit -/

/-- One key slot of OTP (R75, R76). -/
structure KeySlot where
  ecdsaHash : List Byte := []
  lmsHash : List Byte := []
  /-- any hash bit burnt -/
  burnt : Bool := false
  sealBit : Bool := false
  revoked : Bool := false
  deriving DecidableEq, Repr

/-- One-time-programmable rows (Table 4-4). -/
structure Otp where
  secret : Nat := 0
  serial : Nat := 0
  vendor : List KeySlot := [{}, {}]
  cust : List KeySlot := [{}, {}, {}, {}]
  fwSvnMin : Nat := 0
  patSvnMin : Nat := 0
  leafMarks : Nat := 0
  /-- identity certificate, 2 KiB -/
  idCert : List Byte := []
  /-- factory copy of the option fields (R59) -/
  optionCopy : Options := {}
  /-- alternate trim rows that are programmed: item, row -/
  trimRows : List (Nat × Nat) := []
  /-- MAC addresses of ports A and B -/
  macA : Nat := 0
  macB : Nat := 0
  /-- factory core voltage at ÷5 and ÷6 in mV, and sensitivity in µV per 1,000 ppm (R417) -/
  vfac5 : Nat := 760
  vfac6 : Nat := 760
  sens : Nat := 1200
  /-- factory trims: item, value -/
  trims : List (Nat × Nat) := []
  /-- trims of programmed alternate rows: row, item, value -/
  altTrims : List (Nat × Nat × Nat) := []
  deriving DecidableEq, Repr

/-- One journal on one flash (R86): the entries programmed into the two sectors of its pair since their last erase, one whose write did
not complete as no bytes, and the sector that is written now. -/
structure JournalPair where
  first : List (List Byte) := []
  second : List (List Byte) := []
  inSecond : Bool := false
  deriving DecidableEq, Repr

/-- The journals of one flash (R71). -/
structure Journal where
  leaf : JournalPair := {}
  venue : JournalPair := {}
  boot : JournalPair := {}
  deriving DecidableEq, Repr

/-- A firmware or pattern image in use: where it lies and what attestation reports of it. -/
structure ImageInfo where
  ptr : Nat
  len : Nat
  svn : Nat
  generation : Nat
  slot : Nat
  /-- SHA-384 of bytes 0x000 to 0x0FF -/
  headHash : List Byte
  deriving DecidableEq, Repr

/-- A security command that runs, with what it captured (R74, R92). -/
structure SecRun where
  op : Nat
  flashAddr : Word
  len : Nat
  stage : List Byte
  /-- it has started; one that the venue channel is served before waits (R90) -/
  started : Bool := true
  deriving DecidableEq, Repr

/-- A venue command in the venue channel (R88 to R91). -/
structure VenueJob where
  /-- 0x0 SEC_VENUE_CMD, 0x1 network, 0x2 pattern cue, 0x3 chain.  DESIGN CHOICE: R94 codes the Source argument for CUE_IGNORED only
  (log entry 160) -/
  source : Nat
  object : List Byte
  /-- boundary named by the accepting member of a chain -/
  frame : Option Nat
  deriving DecidableEq, Repr

/-- A venue change that waits for its boundary. -/
structure VenueReady where
  source : Nat
  op : Nat
  slot : Nat
  vseq : Nat
  desc : List Word
  buffer : List Byte
  /-- cycle at which verification and copy were complete -/
  ready : Nat
  frame : Option Nat
  /-- cue that selects it -/
  cue : Option Nat
  deriving DecidableEq, Repr

/-- The security unit beside its registers. -/
structure SecState where
  otp : Otp := {}
  journalA : Journal := {}
  journalB : Journal := {}
  fw : Option ImageInfo := none
  pat : Option ImageInfo := none
  pattern : Pattern := {}
  run : Option SecRun := none
  /-- leaf whose journal writes run, then whether one of them completed (R87) -/
  leaf : Option (Nat × Option Bool) := none
  venueJob : Option VenueJob := none
  venueReady : List VenueReady := []
  /-- last accepted VSEQ and BODY_HASH (R89) -/
  lastVseq : Nat := 0
  lastHash : List Byte := []
  /-- venue ply in effect: pattern slot, 0xFE inline or 0xFF cleared, with descriptor and buffer -/
  venueSlot : Nat := 0xFF
  venueDesc : List Word := []
  venueBuffer : List Byte := []
  /-- source of the change that put it in effect -/
  venueSource : Nat := 0
  /-- content changes of the venue ply so far (R177) -/
  venueGen : Nat := 0
  /-- the venue buffer changed while the stack was off and is not in HBM yet -/
  venueStale : Bool := false
  /-- accepted VSEQs whose journal writes run or wait, oldest first (R89) -/
  venueJournal : List Nat := []
  deriving DecidableEq, Repr

/-- A cue that has fired and whose action is due (R83): list position and source as GLB_MODE_STAT.LAST_SOURCE. -/
structure FiredCue where
  index : Nat
  source : Nat
  cycle : Nat
  deriving DecidableEq, Repr

/-- The cue sequencer. -/
structure CueState where
  fired : List FiredCue := []
  /-- cues that have fired: list positions -/
  spent : List Nat := []
  /-- entries whose delay of TRIGGER 0x1 runs: list position, cycle since which -/
  armed : List (Nat × Nat) := []
  /-- entries whose completion another unit reports: list position -/
  running : List Nat := []
  /-- list position of the cue whose skein start is awaited (R318) -/
  skein : Option Nat := none
  deriving DecidableEq, Repr

/-! ## Frame delivery and the ray engine -/

/-- How a frame is sent (R176). -/
inductive Form where
  /-- dark FLAT_COURSE frames of IDLE and SERVICE -/
  | dark
  /-- the black frame of R31, which closes the emission window -/
  | black
  /-- one stitch per hogel: PREVIEW and flat SWATCH patterns -/
  | flat
  /-- every view -/
  | full
  deriving DecidableEq, Repr

/-- The cadence in effect (R165, R166), with the frame that is latched next. -/
structure Cadence where
  rate : Nat
  align : Nat
  phase : Int
  anchor : Nat
  /-- frame count at the first instant of this cadence under anchor alignment -/
  anchorCount : Nat
  /-- position j of the frame in delivery under anchor alignment -/
  anchorPos : Nat
  deriving DecidableEq, Repr

/-- A frame that has been latched. -/
structure FrameInfo where
  count : Nat
  /-- flip instant, flat ns on TB2 -/
  flip : Nat
  /-- t_WIN in µs -/
  window : Nat
  form : Form
  mode : Nat
  deriving DecidableEq, Repr

/-- A link in the frame in delivery (R156, R160, R472). -/
structure LinkFrame where
  link : Nat
  tile : Nat
  courses : Nat
  /-- spans per course -/
  spans : Nat
  /-- courses opened so far, in send order -/
  opened : Nat := 0
  /-- COURSE_END of the last course sent -/
  complete : Bool := false
  /-- finished under R160 -/
  held : Bool := false
  /-- a course is open: spans of it handed to the link, and those that go as HOLD_RUN -/
  open_ : Bool := false
  sent : Nat := 0
  holds : List Nat := []
  /-- what the open course has sent: position pointer of R191, stitches that do not fill a block yet, payload and blocks -/
  pos : Nat := 0
  buf : List Word := []
  payload : List Byte := []
  blocks : Nat := 0
  /-- cycle since which the formatter may have to wait for the next span of the open course (R160) -/
  waitAt : Option Nat := none
  deriving DecidableEq, Repr

/-- A ply fetch that is issued and not complete: link, course, ply id. -/
structure Fetch where
  link : Nat
  course : Nat
  ply : Nat
  venue : Bool
  deriving DecidableEq, Repr

/-- A synthesised span with its stitches, until the formatter has sent it. -/
structure SpanOut where
  link : Nat
  course : Nat
  span : Nat
  stitches : List Word
  deriving DecidableEq, Repr

/-- The formatter and the ray engine beside their registers. -/
structure FrameState where
  cadence : Option Cadence := none
  /-- the frame in delivery, and the one latched for the window that opens next -/
  cur : Option FrameInfo := none
  next : Option FrameInfo := none
  /-- in a boundary: the window has closed and the flip of `cur` is ahead -/
  boundary : Bool := false
  /-- cycle in which the window of `cur` opened -/
  openedAt : Nat := 0
  /-- a latch instant has occurred since the last whole-device reset (R353) -/
  latched : Bool := false
  /-- cycle of the last latch instant -/
  latchAt : Nat := 0
  /-- RAY_VIEW_GRID takes the roster's grid at the next boundary (R120) -/
  gridDue : Bool := false
  /-- warp sets selected at an enumeration that wait for a commit: tile, source, cycle (R125) -/
  warpSel : List (Nat × Nat × Nat) := []
  /-- the tile that supplied each zone's primaries when its matrix was last made, and its T_PRIM words (R140) -/
  suppliers : List (Nat × Nat × List Word) := []
  /-- zones whose matrix is regenerated at the next commit, with the cycle (R140) -/
  zoneDue : List (Nat × Nat) := []
  /-- cycle of the pending GO, and the frame named by the acting master (R389) -/
  go : Option (Nat × Option Nat) := none
  /-- compositing order of the frame latched last, less its sheds, and of the one before -/
  order : List PlyRef := []
  lastOrder : List PlyRef := []
  /-- ply ids switched off or shed during delivery, with the cycle (R157, R158) -/
  off : List (Nat × Nat) := []
  /-- fetches that a switch-off cancelled, and failed ones whose texels read as transparent (R157, R161): link, course, ply -/
  cancelled : List (Nat × Nat × Nat) := []
  failed : List (Nat × Nat × Nat) := []
  /-- cycle of the last shed of R158 -/
  shedAt : Option Nat := none
  links : List LinkFrame := []
  /-- fetches issued ahead of the window that opens next, and of the frame in delivery -/
  fetches : List Fetch := []
  /-- courses whose fetches are issued: link, course -/
  issued : List (Nat × Nat) := []
  /-- eligible courses in order: cycle, link, course -/
  eligible : List (Nat × Nat × Nat) := []
  /-- courses whose synthesis started: link, course, cycle -/
  started : List (Nat × Nat × Nat) := []
  /-- spans that clusters took, and those finished: link, course, span -/
  taken : List (Nat × Nat × Nat) := []
  /-- the last cycle in which clusters took spans, and those that they took in it (R472) -/
  dealt : Nat × List (Nat × Nat × Nat) := (0, [])
  spansDone : List (Nat × Nat × Nat) := []
  spanOut : List SpanOut := []
  /-- cache lines being refetched, parity errors per line in this frame, and lines whose fetch failed so (R149) -/
  refetch : List Nat := []
  parity : List (Nat × Nat) := []
  badLines : List Nat := []
  /-- the latched state of R143 beside the plies equals that of the frame before, and no ply was taken off in it (R177) -/
  sameState : Bool := false
  /-- RAY registers and tables and SCAN_SWATCH as latched last, and the form (R143, R177) -/
  lastState : List (Nat × Word) := []
  lastForm : Form := .dark
  /-- spans that wait for cache lines being refetched (R149): link, course, span, lines -/
  spanWait : List (Nat × Nat × Nat × List Nat) := []
  /-- count of the frame before the one latched last, and links of which it had a course held (R177) -/
  lastFrame : Nat := 0
  /-- frames whose window has opened, as runs of consecutive numbers, latest first (R203) -/
  sent : List (Nat × Nat) := []
  heldLinks : List Nat := []
  /-- performance totals of the frame in delivery -/
  rayCount : Nat := 0
  passes : Nat := 0
  term : Nat := 0
  lateFetch : Nat := 0
  lateCompute : Nat := 0
  heldCourses : Nat := 0
  refetched : Nat := 0
  stall : Nat := 0
  /-- descriptors whose flip was applied at the last latch (R113) -/
  flippedNow : List Nat := []
  /-- and those whose flip was applied at the latch before it, which the last complete frame holds (R113) -/
  flippedPrev : List Nat := []
  /-- groups whose flat ply is complete: group, members' values it was made from -/
  flat : List Nat := []
  /-- groups being flattened -/
  flattening : List Nat := []
  /-- groups whose flat ply did not fit (reason 0x5) -/
  flatNoFit : List Nat := []
  /-- groups whose flat ply lost a block and is made again (reason 0x7) -/
  flatLost : List Nat := []
  /-- SAFE entry: the rest of the frame in delivery is dark (R33) -/
  darkRest : Bool := false
  /-- last update of a fence: fence, cycle, rank in the order of R111 -/
  fenceLast : List (Nat × Nat × Nat) := []
  /-- carry-over events raised: tile, frame number -/
  carried : List (Nat × Nat) := []
  deriving DecidableEq, Repr

/-! ## Time bases, comparators, captures -/

/-- A time base as a line: value in 2^−40 ns at a control cycle, and the addend per 800 MHz cycle (R350). -/
structure TimeLine where
  at_ : Nat := 0
  value : Nat := 0
  addend : Nat := 0
  deriving DecidableEq, Repr

/-- A slew of TB2 toward its source (R353): start cycle, offset and rate difference then, and the limits.
Offsets are in 1/1.6·10^12 ns and rates in 1/(4·10^12) per cycle, so that a cycle at a rate moves the offset by it. -/
structure Slew where
  start : Nat := 0
  off : Int := 0
  rate : Int := 0
  slewMax : Nat := 0
  accel : Nat := 0
  deriving DecidableEq, Repr

/-- A master heard by a PTP slave (R346). -/
structure Master where
  port : Nat
  ann : PtpAnnounce
  at_ : Nat
  /-- cycle of the Announce before that -/
  before : Option Nat
  deriving DecidableEq, Repr

/-- A PTP slave and its time base (R346, R347). -/
structure SlaveState where
  line : TimeLine := {}
  masters : List Master := []
  /-- selected master and its port -/
  sel : Option (List Byte × Nat) := none
  offset : Int := 0
  good : Nat := 0
  bad : Nat := 0
  lastSync : Nat := 0
  syncLog : Int := -3
  lastAnnounce : Nat := 0
  announceLog : Int := 0
  /-- a two-step Sync that awaits its Follow_Up -/
  twoStep : Option PtpMsg := none
  /-- t2 − t1 of the last complete Sync, 2^−16 ns -/
  syncDelta : Int := 0
  /-- egress stamp and number of the Delay_Req in flight -/
  delayReq : Option (Nat × Nat) := none
  delaySeq : Nat := 0
  /-- cycle of the last Delay_Req to this master, and the interval that its Delay_Resp named -/
  delayAt : Option Nat := none
  delayLog : Int := 0
  /-- last eight path delay measurements -/
  mpd : List Int := []
  /-- cycle since which LOCKED without a break -/
  lockedSince : Option Nat := none
  deriving DecidableEq, Repr

/-- Comparator state beside its registers (R356 to R358). -/
structure CmpState where
  /-- exact target in 2^−16 ns, modulo 2^80 -/
  target : Nat := 0
  lastEvent : Option Nat := none
  suppressed : Nat := 0
  deriving DecidableEq, Repr

/-- A captured edge: flat 2^−16 ns and its direction (R360). -/
structure Stamp where
  flat : Nat
  falling : Bool
  deriving DecidableEq, Repr

/-- A capture input (R360). -/
structure CapState where
  queue : List Stamp := []
  overflowAt : Option Nat := none
  overflowCount : Nat := 0
  deriving DecidableEq, Repr

/-- The time unit beside its registers. -/
structure TimeState where
  tb0 : SlaveState := {}
  tb1 : SlaveState := {}
  /-- TB2's source line as copied at the last change, and the slew on top of it -/
  tb2 : TimeLine := {}
  slew : Slew := {}
  tb3 : TimeLine := {}
  lastPps : Nat := 0
  refPresent : Bool := false
  /-- cycle since which the 10 MHz input is present -/
  refSince : Nat := 0
  ppsPresent : Bool := false
  cmp : List CmpState := List.replicate 8 {}
  /-- running high pulses: output, end cycle -/
  pulses : List (Nat × Nat) := []
  caps : List CapState := [{}, {}, {}]
  /-- cycle in which PPS_OUT went high (R359) -/
  ppsAt : Option Nat := none
  /-- the chain's show time as last received: line -/
  chainLine : Option TimeLine := none
  deriving DecidableEq, Repr

/-! ## Ethernet -/

/-- A venue object under assembly (R344). -/
structure Assembly where
  id : Nat
  total : Nat
  port : Nat
  first : Nat
  /-- fragments received: offset, bytes -/
  parts : List (Nat × List Byte)
  deriving DecidableEq, Repr

/-- A Sync held for its Follow_Up by the transparent clock (R349). -/
structure TcEntry where
  source : List Byte
  seq : Nat
  residence : Int
  at_ : Nat
  deriving DecidableEq, Repr

/-- The Ethernet ports beside their registers. -/
structure NetState where
  /-- link changes that have not settled: port, cycle, level before -/
  change : List (Nat × Nat × Bool) := []
  /-- NET_CUE_DROP limiter per port: cycle of the last, count since -/
  cueDrop : List (Option Nat × Nat) := [(none, 0), (none, 0)]
  assembly : Option Assembly := none
  tc : List TcEntry := []
  /-- echo answers in the current second per port: second start cycle, count -/
  echo : List (Nat × Nat) := [(0, 0), (0, 0)]
  deriving DecidableEq, Repr
/-! ## Traffic units -/

/-- A frame in an egress queue (R370, R376): its bytes without FCS, egress stream (32 is the default one), start and finish
tags, cycle of entry, and ingress stamp (control cycle) and port when the transparent clock corrects it (R349). -/
structure QFrame where
  bytes : List Byte
  stream : Nat
  start : Rat
  finish : Rat
  at_ : Nat
  tc : Option (Nat × Nat)
  deriving DecidableEq, Repr

/-- An egress queue (R370 to R376): credit in 1/400,000 byte at an instant in 1/125 control cycle (0.02 ns). -/
structure EgressQueue where
  frames : List QFrame := []
  vtime : Rat := 0
  credit : Int := 0
  at_ : Nat := 0
  /-- tail drops of the last second, and cycle of the last TRAF_QUEUE_DROP -/
  drops : List Nat := []
  dropAt : Option Nat := none
  /-- frames that left in the cycle given, which a sample of that cycle still counts (R377) -/
  left : List QFrame := []
  leftAt : Nat := 0
  deriving DecidableEq, Repr

/-- The egress side of a port: its queues, and the queue that transmits with the start and end of its frame in 1/125 cycle. -/
structure EgressPort where
  queues : List EgressQueue := List.replicate 8 {}
  sending : Option (Nat × Nat × Nat) := none
  deriving DecidableEq, Repr

/-- A duplicate-elimination window (R368, R369): history bit k is sequence number N − k; N is in TRAF_IN_CNT. -/
structure DeWindow where
  /-- the next frame is accepted whatever its number -/
  fresh : Bool := true
  hist : Nat := 0
  last : Nat := 0
  rogues : List Nat := []
  rogueAt : Option Nat := none
  deriving DecidableEq, Repr

/-- The traffic units beside their registers. -/
structure TrafState where
  ports : List EgressPort := [{}, {}]
  /-- policer buckets that are not full: 2 × entry + port, tokens in 1/3,200 byte, cycle -/
  buckets : List (Nat × Nat × Nat) := []
  /-- policer drops of the last second and the last TRAF_POLICED: 2 × entry + port, cycles, cycle -/
  policed : List (Nat × List Nat × Option Nat) := []
  windows : List (Nat × DeWindow) := []
  /-- cycle of the last histogram sample (R377) -/
  histAt : Option Nat := none
  deriving DecidableEq, Repr


/-! ## The panel link -/

/-- What a CONFIG access is for (R199, R208). -/
inductive CfgFor where
  /-- step of an enumeration: its number of R208, 2 to 4 or 6 -/
  | enumeration
  /-- SPK_CFGW_CMD.GO -/
  | expert
  deriving DecidableEq, Repr

/-- A CONFIG access that is queued or outstanding (R199). -/
structure CfgReq where
  tile : Nat
  /-- TILE field: the assigned address, or 0x3FF -/
  target : Nat
  read : Bool
  addr : Nat
  data : Nat
  why : CfgFor
  /-- tries sent so far -/
  tries : Nat := 0
  tag : Nat := 0
  /-- cycle in which it was last sent -/
  sent : Nat := 0
  deriving DecidableEq, Repr

/-- Where the enumeration of a tile stands (R208). -/
inductive EnumStep where
  /-- waits for valid back-channel frames -/
  | wait
  /-- reads and writes of steps 2 to 4 still to make -/
  | access
  /-- delay measurements made so far (step 5) -/
  | delay
  /-- warp reads of step 6 -/
  | warp
  deriving DecidableEq, Repr

/-- What the controller keeps of one tile beside SPK_TILE_STAT, SPK_TILE_DELAY, SPK_TILE_FEC and SPK_TILE_BC. -/
structure TileState where
  enumStep : Option EnumStep := none
  /-- cycle in which the enumeration started -/
  enumAt : Nat := 0
  /-- CONFIG accesses that the enumeration still has to make -/
  todo : List CfgReq := []
  /-- values read in this enumeration: tile register address, value -/
  regs : List (Nat × Word) := []
  /-- delays measured in this enumeration, in 2^−2 ns -/
  delays : List Int := []
  /-- echo measurement in progress: departure in flat 2^−16 ns and its cycle -/
  echo : Option (Nat × Nat) := none
  /-- cycle of the last valid back-channel frame -/
  lastBc : Option Nat := none
  /-- STATUS of the last valid frame: lock on the partner's port -/
  partnerLock : Bool := false
  /-- frames have reported no lock without a break since this cycle; the event was raised -/
  noLock : Option Nat := none
  noLockRaised : Bool := false
  /-- frames have reported blanking without a break, while delivered to, since this cycle -/
  blanked : Option Nat := none
  blankedRaised : Bool := false
  /-- flip fault flags seen since the last swap, cycle of the last SPK_FLIP_FAULT and faults suppressed since -/
  flipSeen : Nat := 0
  flipSwap : Nat := 0
  flipAt : Option Nat := none
  flipSuppressed : Nat := 0
  /-- cycle of the last SPK_STATUS_RANGE -/
  rangeAt : Option Nat := none
  /-- raw cumulative counters of the last frame: FEC_CORR, FEC_UNCORR, COURSE_BAD -/
  raw : Option (Nat × Nat × Nat) := none
  /-- uncorrectable codewords with the cycle they were reported in, and the last SPK_FEC_UNCORR -/
  uncorr : List (Nat × Nat) := []
  fecAt : Option Nat := none
  /-- FEC_CORR increments since the last FOM update, and in the preset try in progress -/
  fomCorr : Nat := 0
  tryCorr : Nat := 0
  tryLock : Option Bool := none
  /-- probe outstanding: ID, segment, cycle sent -/
  probe : Option (Nat × Nat × Nat) := none
  /-- open emitters and timeouts of the cycle in progress, event raised in it -/
  probeOpen : Nat := 0
  probeTimeouts : Nat := 0
  probeRaised : Bool := false
  /-- in-pulse reports: cycle of the last event (R248) -/
  inPulseAt : Option Nat := none
  /-- cycle of the last delay measurement (R196) -/
  echoAt : Option Nat := none
  /-- the cycle of R245 is over but for the PROBE outstanding, whose end shows its results -/
  probeLast : Bool := false
  /-- TEMP0 of the last frame that passed R203 with a temperature in range, 8.8, with its cycle -/
  temp : Option (Int × Nat) := none
  /-- last LAST_COMPLETE taken -/
  lastComplete : Option Nat := none
  /-- primaries as read: red, green, blue words; all zero when not reported -/
  prim : List Word := []
  /-- T_WARP[0] of the last enumeration -/
  warpPresent : Bool := false
  deriving DecidableEq, Repr

/-- The link controller beside its registers. -/
structure SpkState where
  /-- tiles with state of their own: tile, state -/
  tiles : List (Nat × TileState) := []
  /-- CONFIG outstanding per lane: lane, request -/
  out : List (Nat × CfgReq) := []
  /-- CONFIGs to resend or queued for the next boundary -/
  queued : List CfgReq := []
  nextTag : Nat := 0
  /-- the expert access waits or is outstanding -/
  expert : Option CfgReq := none
  deriving DecidableEq, Repr

/-! ## Lanes -/

/-- Corruption of a lane's codewords (R230): the codeword it counts from and the one it stops before, and the fields of LANE_INJ. -/
structure InjectRun where
  from_ : Nat
  until_ : Option Nat := none
  symbols : Nat
  count : Nat
  every : Nat
  deriving DecidableEq, Repr

/-- Errors of a test generator (R230): the bit of the first, the interval (0: one error), the bit before which they end. -/
structure BitError where
  bit : Nat
  every : Nat
  until_ : Option Nat := none
  deriving DecidableEq, Repr

/-- One lane beside its registers. -/
structure LaneState where
  /-- the first CAL since cast-on has been made -/
  calDone : Bool := false
  /-- polarity was changed in this attempt (group 0) -/
  polTried : Bool := false
  /-- preset search: preset under trial and sums so far (none: lock lost) -/
  tryPreset : Option Nat := none
  sums : List (Option Nat) := []
  failRaised : Bool := false
  /-- cycle of the last LANE_FOM_LOW -/
  fomLowAt : Option Nat := none
  /-- cycles of the last calibration of each slicer -/
  slicers : List (Nat × Nat) := []
  /-- slicer that a grant covers, cycle of the grant, and the slicer's calibration before it -/
  granted : Option (Nat × Nat × Option Nat) := none
  /-- corruption of codewords since the first marker, latest last (R230) -/
  inject : List InjectRun := []
  /-- cycle of the stage's begin (Table 10-3), of the present polarity, of the preset try, of FAILED or the retry after it -/
  stageAt : Nat := 0
  polAt : Nat := 0
  tryAt : Nat := 0
  retryAt : Nat := 0
  /-- cycles of the last TIME block and of the last FOM update -/
  timeAt : Option Nat := none
  fomAt : Option Nat := none
  /-- cycle of the transmitter's first marker (R185), the blocks in its payload slots as slot, H and payload, and the first slot
  that none has passed -/
  first : Option Nat := none
  placed : List (Nat × Bool × List Byte) := []
  nextSlot : Nat := 0
  /-- slots beyond it that hold a block already -/
  taken : List Nat := []
  /-- cycles in which the test generator and the checker began, the generator's errors, and the cycle from which the checker
  counts bit errors that LANE_PRBS_ERR does not hold yet (R228) -/
  genAt : Option Nat := none
  genErrors : List BitError := []
  chkAt : Option Nat := none
  countAt : Option Nat := none
  /-- lane number that the receiver saw in ORDER -/
  seen : Option Nat := none
  /-- the next FOM starts FOM_MINSEEN anew -/
  minFresh : Bool := true
  /-- FOM that the peer reports for its receiver of this lane; none: not yet in this preset try -/
  peerFom : Option Nat := none
  deriving DecidableEq, Repr

/-- The loop timing beside LANE_LOOP_STAT (R216 to R218). -/
structure LoopState where
  /-- cycle in which the followed port lost lock -/
  lostAt : Option Nat := none
  /-- cycle of the last change of state or port, and the timing port selected then -/
  since : Nat := 0
  tport : Nat := 0
  /-- port that holds the root refuses (R217) -/
  refused : Bool := false
  deriving DecidableEq, Repr

/-- The lanes beside their registers. -/
structure LanesState where
  lanes : List (Nat × LaneState) := []
  loop : LoopState := {}
  deriving DecidableEq, Repr

/-! ## HBM -/

/-- A migration in progress (R272, R274). -/
structure Migration where
  from_ : Nat
  slot : Nat
  donor : Bool
  page : Nat
  started : Nat
  /-- blocks that lines failing during the copy marked lost (R272) -/
  lost : Nat
  deriving DecidableEq, Repr

/-- The HBM controller and the stack beside their registers (tag map, lost map and training results live in PD00). -/
structure HbmState where
  /-- bytes with a defined value: address, byte, addresses strictly rising -/
  mem : List Host.Cell := []
  /-- content epoch: rises each time the content is lost -/
  epoch : Nat := 0
  /-- non-zero source tags: 64 KiB block, tag -/
  tags : List (Nat × Nat) := []
  /-- blocks marked lost, with the cycle of the mark -/
  lost : List (Nat × Nat) := []
  /-- training results kept in PD00: both sets, four words each (R38, R470) -/
  kept : List Word := List.replicate 8 0
  /-- pseudo-channel that backs each slot since the last power-up, as moved by completed migrations; none for a slot without -/
  backing : List (Option Nat) := []
  /-- slots that degraded operation holds on donor pages, in ascending order -/
  donors : List Nat := []
  migr : Option Migration := none
  /-- retired pseudo-channels whose migration waits -/
  waiting : List Nat := []
  /-- the stack went off since its last power-up (R38, R270) -/
  wasOff : Bool := true
  /-- the stack has content under state S of Table 2-5 -/
  stateS : Bool := false
  /-- command alerts: cycle, pseudo-channel (R264) -/
  alerts : List (Nat × Nat) := []
  /-- postponed refresh intervals of each pseudo-channel -/
  postponed : List Nat := List.replicate 16 0
  /-- a change of point or timing set waits for the next self-refresh exit, or its retime runs (R259) -/
  retime : Bool := false
  retimeLater : Bool := false
  /-- cycles of the HBM_LOST and HBM_REWRITE_REQ events of the last second -/
  reports : List Nat := []
  /-- lost blocks of which some part could not be regenerated (R324) -/
  regenFailed : List Nat := []
  /-- cycle from which the scrub pass in progress is scheduled (R277) -/
  scrubPass : Int := 0
  /-- scrub: next line's slot and line in the row, the cycle of the last grant or of the power-up, last HBM_SCRUB_FORCED -/
  scrubSlot : Nat := 0
  scrubLine : Nat := 0
  scrubWait : Option Nat := none
  /-- what the deferral clock had counted when self-refresh stopped it (R36) -/
  scrubHeld : Option Nat := none
  scrubForced : Option Nat := none
  deriving DecidableEq, Repr

/-! ## Emission -/

/-- A thermistor input beside EMIT_THM (R242). -/
structure ThmState where
  /-- the last three conversions: resistance in ohm and temperature, signed 8.8 -/
  samples : List (Nat × Int) := []
  /-- cycle at which its STALE clock last started -/
  since : Option Nat := none
  valid : Bool := false
  /-- it has been valid since sampling began, or a fault was raised -/
  faulted : Bool := false
  deriving DecidableEq, Repr

/-- A zone beside EMIT_ZONE_STAT (R238 to R240). -/
structure ZoneState where
  /-- band last recognised -/
  band : Nat := 2
  /-- temperature of the move that waits for its flip -/
  moveTemp : Int := 0
  /-- cycle of the last move, and band and temperature before that cycle (R240) -/
  movedAt : Option Nat := none
  before : Nat × Int := (2, 0)
  hot : Bool := false
  /-- a valid reading has been seen since cast-on -/
  seen : Bool := false
  deriving DecidableEq, Repr

/-- Ramp in progress: codes per output that it starts from or goes to, and steps made (R249, R250). -/
structure Ramp where
  codes : List Nat
  step : Nat
  /-- cycle of its start -/
  at_ : Nat := 0
  deriving DecidableEq, Repr

/-- Emission settings of a frame as latched (R179, R180, R236, R237): LEN, refresh multiple, PHASE, and the code of each
output in each band. -/
structure EmitSet where
  len : Nat := 0
  mult : Nat := 16
  phase : Nat := 0
  codes : List (List Nat) := []
  /-- LEN of R236, before R180 shortens it (R244), and the rate of the frame's period -/
  asked : Nat := 0
  rate : Nat := 0
  deriving DecidableEq, Repr

/-- The emission unit beside its registers. -/
structure EmitState where
  thm : List ThmState := List.replicate 16 {}
  zones : List ZoneState := List.replicate 16 {}
  /-- settings of the frame latched last, and of the frame that flips next (R237) -/
  latched : EmitSet := {}
  flipping : EmitSet := {}
  /-- bands recognised before the last latch, which take effect at its flip -/
  nextBands : List Nat := List.replicate 16 2
  /-- and the temperatures that moved them -/
  nextTemps : List Int := List.replicate 16 0
  /-- cycle of t0 of the sequence in progress (R249, R250) -/
  seqAt : Nat := 0
  up : Option Ramp := none
  down : Option Ramp := none
  /-- tiles of the STRIP band in effect, from entry to STRIP to the end of its bind-off (R31, R251) -/
  band : List Nat := []
  /-- the power-up sequence in progress leaves out its DISCHARGE (R253) or covers the band only -/
  noDischarge : Bool := false
  /-- compliance: output, consecutive samples out of range -/
  comp : List (Nat × Nat) := []
  /-- next PROBE ID minus 1 -/
  probeId : Nat := 0
  /-- cycle of the last strip flip -/
  stripFlip : Option Nat := none
  /-- strip frame sent in the window that is open: cycle of its flip, dark, LEN -/
  stripPend : Option (Nat × Bool × Nat) := none
  /-- a dark flat strip frame is to be sent in the next window, for a transition out of STRIP -/
  stripDark : Bool := false
  /-- zones that this member sources whole while the partner is not sourcing (R397) -/
  whole : Bool := true
  deriving DecidableEq, Repr
/-! ## Hank engines -/

/-- Who asked for a Hank job (HANK_DECODE_ERROR). -/
inductive HankWho where
  | skein | yarn | host
  /-- the decode of a descriptor DMA entry (R335) -/
  | dma
  deriving DecidableEq, Repr

/-- A Hank job as queued (R290, R291, R319, R327). -/
structure HankJob where
  who : HankWho
  compress : Bool := false
  seq : Nat := 0
  src : Nat := 0
  len : Nat := 0
  dst : Nat := 0
  cap : Nat := 0
  hdr : Bool := true
  cont : Bool := false
  /-- reset flush at the end of a compression -/
  resetFlush : Bool := false
  /-- descriptor of a skein job, stream of a yarn job, channel of a DMA decode -/
  what : Nat := 0
  /-- skein frame, or update identifier -/
  frame : Nat := 0
  tag : Nat := 3
  fence : Option (Nat × Word) := none
  /-- the second decode of R323 -/
  second : Bool := false
  /-- lost block that the job regenerates (R324) -/
  regen : Option Nat := none
  /-- source bytes that do not lie in HBM -/
  payload : Option (List Byte) := none
  /-- ring entry of a DMA decode -/
  entry : List Byte := []
  deriving DecidableEq, Repr

/-- One engine (R289, R290). -/
structure HankEngine where
  run : Option HankJob := none
  /-- cycle in which that job left the queue (R14) -/
  startedAt : Nat := 0
  queue : List HankJob := []
  /-- history that a compressor keeps, newest byte first -/
  hist : List Byte := []
  deriving DecidableEq, Repr

/-- A flat-ply fetch: link, course, ply. -/
structure FlatFetch where
  link : Nat
  course : Nat
  ply : Nat
  deriving DecidableEq, Repr

/-- The HANK block beside its registers. -/
structure HankState where
  engines : List HankEngine := List.replicate 6 {}
  /-- jobs of internal requesters that wait for space -/
  waiting : List HankJob := []
  /-- flat-ply fetches queued: engine, fetch -/
  flat : List (Nat × FlatFetch) := []
  /-- flat-ply fetches that wait for space -/
  flatWait : List FlatFetch := []
  deriving DecidableEq, Repr

/-! ## Needle -/

/-- A command as captured at GO (R293, R299). -/
structure NeedleCmd where
  op : Nat
  frog : Bool
  notify : Bool
  reduce : Nat
  dead : Nat
  seq : Nat
  src : Desc
  srcFlat : Bool
  dst : Desc
  dstFlat : Bool
  sx : Nat
  sy : Nat
  w : Nat
  h : Nat
  dx : Nat
  dy : Nat
  fill : Nat
  /-- enabled clip rectangles X0, Y0, X1, Y1; none when CLIP = 0 -/
  clip : Option (List (Nat × Nat × Nat × Nat))
  deriving DecidableEq, Repr

/-- A command in flight; `frogBy` is the SEQ of the command that cancels it (R304). -/
structure NeedleRun where
  slot : Nat
  cmd : NeedleCmd
  frogBy : Option Nat := none
  deriving DecidableEq, Repr

/-- The NEEDLE block beside its registers. -/
structure NeedleState where
  queue : List NeedleCmd := []
  runs : List NeedleRun := []
  /-- cycle of the last look at the head of the queue -/
  issueAt : Option Nat := none
  deriving DecidableEq, Repr

/-! ## Skein store, yarn streams, data ports -/

/-- What an NVMe command serves. -/
inductive NvmeUse where
  /-- the drive's bring-up: Identify and the queues, after which the drive is up -/
  | identify
  /-- a structure of the skein that is being opened -/
  | open_
  /-- part of a record on its way into the ring: the fetch -/
  | record (id : Nat)
  /-- part of a reread: the reread -/
  | reread (id : Nat)
  /-- a drive transfer -/
  | xfer
  deriving DecidableEq, Repr

/-- An NVMe command in flight (R312). -/
structure NvmeCmd where
  drive : Nat
  cid : Nat
  op : Nat
  lba : Nat
  blocks : Nat
  addr : Nat
  why : NvmeUse
  /-- byte offset of its data in what it serves -/
  off : Nat := 0
  /-- issued a second time -/
  retry : Bool := false
  submitted : Nat
  deriving DecidableEq, Repr

/-- One ply entry of a frame record (R314). -/
structure PlyEntry where
  desc : Nat
  new : Bool
  offset : Nat
  length : Nat
  words : List Word
  deriving DecidableEq, Repr

/-- One entry of the frame index (R314). -/
structure IndexEntry where
  lba : Nat
  length : Nat
  rap : Bool
  crc : Nat
  deriving DecidableEq, Repr

/-- The open skein (R314, R315). -/
structure Skein where
  index : Nat
  rate : Nat
  frames : Nat
  start : Nat
  lbas : Nat
  /-- LBA offset of the frame index from START -/
  indexLba : Nat
  extent : List Nat
  entries : List IndexEntry
  deriving DecidableEq, Repr

/-- A record held in the ring (R321). -/
structure RingRecord where
  /-- sequence it was read for, and position in that sequence -/
  gen : Nat
  pos : Nat
  frame : Nat
  /-- place in HBM -/
  addr : Nat
  length : Nat
  plies : List PlyEntry
  deriving DecidableEq, Repr

/-- A record on its way into the ring: LBAs read by `left` commands that have not completed. -/
structure RingFetch where
  id : Nat
  gen : Nat
  pos : Nat
  frame : Nat
  addr : Nat
  length : Nat
  left : Nat
  bad : Bool := false
  deriving DecidableEq, Repr

/-- A reread of a record or of part of the index (R323, R324). -/
structure Reread where
  id : Nat
  /-- HBM address that the data go to; none for a record that the store only decodes -/
  addr : Option Nat
  /-- lost block that it regenerates -/
  block : Option Nat
  frame : Nat
  length : Nat
  /-- decodes that follow, as they failed or as they filled the block's buffer -/
  jobs : List HankJob
  left : Nat
  bad : Bool := false
  parts : List (Nat × List Byte) := []
  deriving DecidableEq, Repr

/-- A sequence that plays or is to play (R317): record positions count from the RAP at or before F0. -/
structure Sequence where
  gen : Nat
  f0 : Nat
  rap : Nat
  /-- position of the next record to read -/
  next : Nat := 0
  /-- frames latched since the first one in SHOW, that one included; none before it -/
  shown : Option Nat := none
  deriving DecidableEq, Repr

/-- A descriptor's pair of buffers (R316): the stream (skein frame) in each, the one whose content is latched or was last
written, and the one that pending descriptor values name. -/
structure SkBuffers where
  desc : Nat
  frame0 : Option Nat := none
  frame1 : Option Nat := none
  latched : Nat := 0
  /-- latest stream whose second decode failed: the descriptor keeps its content until the next one (R323) -/
  given : Option Nat := none
  deriving DecidableEq, Repr

/-- Preparation of a frame (R319). -/
structure Prep where
  gen : Nat
  pos : Nat
  frame : Nat
  /-- decodes that have not completed: descriptor, skein frame of the stream -/
  jobs : List (Nat × Nat)
  /-- the record was not in the ring when it started -/
  missing : Bool
  done : Bool := false
  late : Bool := false
  deriving DecidableEq, Repr

/-- An open in progress: bytes of the volume header, skein entry, skein header and index, in the order read. -/
structure OpenRun where
  skein : Nat
  /-- play from this frame once open (R318) -/
  play : Option Nat
  cue : Option Nat
  parts : List (List Byte) := []
  failed : Bool := false
  deriving DecidableEq, Repr

/-- A yarn update in assembly (R327). -/
structure Update where
  stream : Nat
  id : Nat
  total : Nat
  skein : Nat
  first : Nat
  /-- HBM address at which the staging area holds it -/
  base : Nat
  parts : List (Nat × List Byte)
  deriving DecidableEq, Repr

/-- The store and the yarn unit beside their registers. -/
structure StoreState where
  skein : Option Skein := none
  run : Option OpenRun := none
  /-- sequence set last, and the one that plays until that is ready -/
  seq : Option Sequence := none
  old : Option Sequence := none
  ring : List RingRecord := []
  fetching : List RingFetch := []
  rereads : List Reread := []
  buffers : List SkBuffers := []
  prep : Option Prep := none
  /-- skein frame that the frame latched last presents, and the one in delivery -/
  posNext : Option Nat := none
  inflight : List NvmeCmd := []
  nextCid : Nat := 0
  nextId : Nat := 0
  /-- drive that serves the next mirrored read -/
  nextDrive : Nat := 0
  /-- most LBAs that a command on each drive may move: 256, or what MDTS gives (Table 15-1) -/
  maxLbas : Vector Nat 2 := Vector.replicate 2 256
  /-- failed commands of each drive: drive, cycle -/
  fails : List (Nat × Nat) := []
  /-- disabled drives that have not returned: drive, its root port was reset since (R312) -/
  barred : List (Nat × Bool) := []
  /-- the lead is below 2 s and was reported -/
  low : Bool := false
  /-- STORE_DESC_OWNED raised in this frame -/
  owned : List Nat := []
  /-- transfer running: op, drives still to complete, failed, status -/
  xfer : Option (Nat × Nat × Bool × Nat) := none
  updates : List Update := []
  /-- STORE_YARN_DROP limiter: stream, last cycle, count since -/
  yarnDrop : List (Nat × Nat × Nat) := []
  deriving DecidableEq, Repr

/-- A DMA entry as read from host memory (R335). -/
structure DmaEntry where
  host : Nat
  hbm : Nat
  length : Nat
  cap : Nat
  ctl : Word
  fenceVal : Word
  deriving DecidableEq, Repr

/-- The host endpoint's data path beside its registers. -/
structure DportState where
  /-- prefetched data of each port: port, address, bytes (R332) -/
  prefetch : List (Nat × Nat × List Byte) := []
  /-- cycle of the last DPORT_RANGE of each port -/
  range : List (Nat × Nat) := []
  /-- period of R337: mode in which it began, and TLPs discarded so far -/
  period : Option (Nat × Nat) := none
  deriving DecidableEq, Repr

/-! ## Chain -/

/-- A chain packet: header word and the words that follow (R383). -/
structure Packet where
  words : List Word
  deriving DecidableEq, Repr

/-- One chain port beside its registers (R383 to R386). -/
structure ChainPort where
  /-- next SEQ to send, blocks sent and not acknowledged: SEQ, payload -/
  txSeq : Nat := 0
  unacked : List (Nat × List Byte) := []
  /-- blocks that wait for space in the replay buffer, of class 0 and class 1, each with its SOP, and the blocks left of a class 1
  segment that has begun (R383) -/
  wait0 : List (List Word × Bool) := []
  wait1 : List (List Word × Bool) := []
  segLeft : Nat := 0
  /-- cycle of the last TIME block (R387) -/
  timeAt : Option Nat := none
  /-- SEQ last NAKed by the peer and how often -/
  nakSeq : Option (Nat × Nat) := none
  /-- next SEQ expected; a NAK is out for it -/
  rxSeq : Nat := 0
  naked : Bool := false
  /-- data blocks received since the last ACK, and the cycle of that ACK -/
  sinceAck : Nat := 0
  ackAt : Nat := 0
  /-- words of the packet in reception, class 0 and class 1 -/
  rx0 : List Word := []
  rx1 : List Word := []
  /-- packets held for the port while it is down: cycle, packet -/
  held : List (Nat × Packet) := []
  /-- delays measured in this handshake, in 2^−2 ns; round trip start, flat 2^−16 ns -/
  echoes : List Int := []
  echoOut : Option Nat := none
  /-- FOM that the peer reports for its receiver -/
  peerFom : Nat := 0
  /-- the peer loop-times, and its timing port -/
  peerLoop : Bool := false
  peerTport : Nat := 0
  deriving DecidableEq, Repr

/-- Digest 1 of a pair member (R390). -/
structure Digest where
  frame : Nat
  applied : Nat
  skipped : Nat
  rejected : Nat
  shed : Nat
  bands : List Nat
  deriving DecidableEq, Repr

/-- What a heartbeat body says (Table 18-6). -/
structure Heartbeat where
  sender : Nat
  seq : Nat
  mode : Nat
  flags : Nat
  epoch : Nat
  frame : Nat
  deriving DecidableEq, Repr

/-- The chain unit beside its registers. -/
structure ChainState where
  /-- this device is chained by its pattern's roster (R380) -/
  chained : Bool := false
  ports : List ChainPort := [{}, {}, {}, {}]
  /-- members that completed their handshake with this one, that a peer has shown to be done, or that were declared absent (R68) -/
  done : List Nat := []
  told : List Nat := []
  absent : List Nat := []
  /-- cycle of the master's first handshake request to a member -/
  asked : List (Nat × Nat) := []
  handshake : Bool := false
  /-- mirrored state received from acting master and pair lead; CHAIN_CTL.JOIN was written -/
  joinState : Bool × Bool := (false, false)
  joinAllowed : Bool := false
  /-- digests matched at the last latches -/
  matched : Nat := 0
  /-- frame named for the join -/
  joinFrame : Option Nat := none
  /-- own digest 1 of the last latch, the partner's, and whether the partner's digests 1 and 2 arrived -/
  own : Option Digest := none
  got1 : Bool := false
  got2 : Bool := false
  ownCrc : Nat := 0
  /-- what a reverted flip needs: descriptor, its words before the flip, its pending writes (R390) -/
  undo : List (Nat × List Word × List PendWrite) := []
  /-- digest waits of the last latch: frame, deadline cycle -/
  wait : Option (Nat × Nat) := none
  /-- last heartbeat of the partner on the chain and on Ethernet, and on either in flat ns -/
  hbChain : Option Nat := none
  hbEth : Option Nat := none
  hbNs : Nat := 0
  partner : Option Heartbeat := none
  hbSeq : Nat := 0
  /-- cycle of this member's last heartbeat -/
  hbAt : Option Nat := none
  /-- peers whose loss was reported -/
  lostPeers : List Nat := []
  /-- cycle of the last heartbeat of each other peer -/
  peers : List (Nat × Nat) := []
  /-- pair lead at the moment it declared its partner failed -/
  wasLead : Bool := false
  /-- it was acting master when it yielded (R395) -/
  wasActing : Bool := false
  ethAlarm : Bool := false
  /-- cycle since which more than half of the pair's tiles report no lock on the partner's port -/
  noPartnerLock : Option Nat := none
  /-- host command on the lead that waits for the next latch: 2 HANDBACK, 3 TAKE, 4 YIELD -/
  leadMove : Option Nat := none
  /-- chain ID of the acting master and of this pair's lead -/
  acting : Nat := 0
  lead : Nat := 0
  /-- this member quietly withdrew from delivery (R32) -/
  quiet : Bool := false
  deriving DecidableEq, Repr
/-! ## Health -/

/-- A die sensor beside HLTH_DIE_TEMP (R403, R404): last conversions in signed 8.8 °C, consecutive rounds beyond 8 °C and
within 6 °C of its neighbours' median, and the event of a fifth sensor. -/
structure DieSensor where
  conv : List Int := []
  far : Nat := 0
  near : Nat := 0
  fifth : Bool := false
  deriving DecidableEq, Repr

/-- The calibration in progress (R411, R412): items still to measure, the first in progress, and its measurements; a
timeout is none. -/
structure CalRun where
  items : List Nat
  got : List (Option Nat) := []
  /-- cycle in which the measurement in progress began -/
  since : Nat
  deriving DecidableEq, Repr

/-- The health unit beside its registers. -/
structure HealthState where
  sensors : List DieSensor := List.replicate 32 {}
  /-- a failure run of each stack sensor was reported -/
  stackFail : List Bool := [false, false]
  /-- reading of each stack sensor, signed 8.8 °C, from its last read that gave one -/
  stackTemp : List Int := [0, 0]
  /-- cycle of the last sampling round, or in which the sequencer started -/
  lastRound : Nat := 0
  /-- consecutive rounds whose reference code was off -/
  refBad : Nat := 0
  /-- T_hot of the rounds of the last 200 ms and more, newest first: cycle, signed 8.8 °C -/
  history : List (Nat × Int) := []
  /-- T_hot of the last round; none while no sensor has a value -/
  tHot : Option Int := none
  /-- DIE_CRITICAL is active -/
  crit : Bool := false
  /-- the throttle by temperature holds -/
  tempOn : Bool := false
  /-- step that the limits ask for, with the cause of the change; HLTH_STAT.STEP is the one in effect -/
  want : Nat := 0
  cause : Nat := 0
  /-- cycle in which step 1 was entered; cycle since which T_hot has been below THROTTLE − 5 °C -/
  stepAt : Nat := 0
  coolAt : Option Nat := none
  /-- cycle since which the rate has stayed at or below RISE, and cycle of the last HLTH_RISE -/
  calmAt : Option Nat := none
  riseEvent : Option Nat := none
  /-- cycle in which the wanted divider was decided -/
  decided : Nat := 0
  cal : Option CalRun := none
  /-- a restore waits for a commit: cycle of the write; items that it holds at FACTORY -/
  restore : Option Nat := none
  held : List Nat := []
  /-- VDD_CORE in mV as last sent and acknowledged, and the command out -/
  volts : Nat := 800
  sent : Option Nat := none
  tries : Nat := 0
  /-- cycle of the last step on AVSBus -/
  avsAt : Option Nat := none
  /-- cycle of the last hourly measurement (R416) -/
  ageAt : Option Nat := none
  /-- next record of HLTH_LOG -/
  logPos : Nat := 0
  deriving DecidableEq, Repr


/-! ## What the device sends -/

/-- One thing that leaves the device, in the order of sending. -/
inductive Out where
  /-- an event record written to ring slot `slot` (R429) -/
  | record (slot : Nat) (bytes : List Byte)
  | msix (vector : Nat)
  /-- completion data of a host read -/
  | completion (bytes : List Byte)
  /-- a write to host memory -/
  | hostWrite (addr : Nat) (bytes : List Byte)
  /-- a control block of the panel link -/
  | block (lane : Nat) (bytes : List Byte)
  /-- a data block of a course: eight stitches in send order (R187) -/
  | stitches (lane course : Nat) (words : List Word)
  /-- a packet or control block on a chain port -/
  | chain (port : Nat) (bytes : List Byte)
  /-- an Ethernet frame handed to an egress queue -/
  | eth (port queue : Nat) (bytes : List Byte)
  /-- a received Ethernet frame handed to its consumer: port, entry of TRAF_IN (none for a protocol of R342 without one) -/
  | deliver (port : Nat) (entry : Option Nat)
  /-- a VDD_CORE target in mV on AVSBus -/
  | avs (mv : Nat)
  /-- a flash operation: flash, command byte, address, length -/
  | flash (flash cmd addr len : Nat)
  /-- the data of the page programs that follow -/
  | flashData (bytes : List Byte)
  /-- an NVMe command: drive, command identifier, opcode, LBA, blocks, HBM address -/
  | nvme (drive cid op lba blocks addr : Nat)
  /-- the beats of a packet on the trace port, in the order sent -/
  | trace (beats : List Nat)
  deriving DecidableEq, Repr

/-! ## The whole device -/

/-- Ordering codes (Table 0-2, R2). -/
inductive Part where
  | c24 | c16 | e24
  deriving DecidableEq, Repr

/-- The state of the HL9600. -/
structure State where
  /-- current control-clock cycle -/
  now : Nat := 0
  part : Part := .c24
  /-- waiting commands, first in first out -/
  pending : List Instr := []
  /-- registers that differ from their reset value: BAR0 address, word; addresses strictly rising -/
  regs : List (Nat × Word) := []
  /-- writes that wait for a commit, in write order (R7, R110) -/
  rws : List PendWrite := []
  /-- writes that wait for a mode entry, in write order (R7) -/
  atMode : List PendWrite := []
  /-- events raised in cycle `now`, in raising order (R428) -/
  raised : List Event := []
  outbox : List Out := []
  evt : EvtState := {}
  trace : TraceState := {}
  pins : Pins := {}
  fabric : FabricState := {}
  mode : ModeState := {}
  power : PowerState := {}
  rst : ResetState := {}
  caston : CastonState := {}
  sec : SecState := {}
  cue : CueState := {}
  frame : FrameState := {}
  time : TimeState := {}
  net : NetState := {}
  traf : TrafState := {}
  spk : SpkState := {}
  lanes : LanesState := {}
  hbm : HbmState := {}
  emit_ : EmitState := {}
  hank : HankState := {}
  needle : NeedleState := {}
  store : StoreState := {}
  dport : DportState := {}
  chain : ChainState := {}
  health : HealthState := {}
  /-- index of the next free value that the step reads (the model's own field) -/
  fresh : Nat := 0
  deriving DecidableEq, Repr

/-- The device right after power-on reset has ended: every register at its reset value, cast-on about to start. -/
def State.reset : State := { power := { queue := [1, 2, 3, 52, 78] }, rst := { flashInReset := true } }

end Sys2Proof.Machine
end

