-- ==== Sys2Proof/Machine/Ops.lean ====
section
/-! DEFINITION.  The shared operations: the register space, the advance of the clock,
raising and delivering events, MSI-X messages and the trace port. -/

namespace Sys2Proof.Machine

/-! ## Sorted maps with addresses as keys -/

/-- The value at key `k`. -/
def mapGet {α : Type} : List (Nat × α) → Nat → Option α
  | [], _ => none
  | (k, v) :: m, a => if k = a then some v else mapGet m a

/-- The map with `v` at key `a`, keys kept strictly rising. -/
def mapPut {α : Type} : List (Nat × α) → Nat → α → List (Nat × α)
  | [], a, v => [(a, v)]
  | (k, w) :: m, a, v =>
    if a < k then (a, v) :: (k, w) :: m else if a = k then (a, v) :: m else (k, w) :: mapPut m a v

/-- The map without key `a`. -/
def mapErase {α : Type} : List (Nat × α) → Nat → List (Nat × α)
  | [], _ => []
  | (k, w) :: m, a => if k = a then mapErase m a else (k, w) :: mapErase m a

/-- Keys strictly rising. -/
def keysRising {α : Type} : List (Nat × α) → Bool
  | [] => true
  | [_] => true
  | (k, _) :: (k', v) :: m => decide (k < k') && keysRising ((k', v) :: m)

/-! ## The register maps -/

/-- Offset `off` from a row's base is an element of an array of these dimensions. -/
def inDims : Nat → List (Nat × Nat) → Bool
  | off, [] => off == 0
  | off, (n, st) :: ds => decide (off / st < n) && inDims (off % st) ds

/-- The row covers address `a`. -/
def RegDef.covers (d : RegDef) (a : Nat) : Bool := decide (d.base ≤ a) && inDims (a - d.base) d.dims

/-- Block number of a BAR0 address (Table 20-1). -/
def blockOf (a : Nat) : Nat :=
  if a < 0x400000 then a / 0x100000
  else if a < 0x2400000 then 4 + (a - 0x400000) / 0x400000
  else if a < 0x2C00000 then 12 + (a - 0x2400000) / 0x200000
  else if a < 0x4000000 then 16 + (a - 0x2C00000) / 0x400000
  else 21

/-- First and last-plus-one address of a block (Table 20-1). -/
def blockRange (n : Nat) : Nat × Nat :=
  if n < 4 then (n * 0x100000, (n + 1) * 0x100000)
  else if n < 12 then (0x400000 * (n - 3), 0x400000 * (n - 2))
  else if n < 16 then (0x2400000 + 0x200000 * (n - 12), 0x2400000 + 0x200000 * (n - 11))
  else (0x2C00000 + 0x400000 * (n - 16), 0x2C00000 + 0x400000 * (n - 15))

/-- Register map of a block. -/
def blockMap (n : Nat) : List RegDef :=
  match n with
  | 0 => regsGLB | 1 => regsCLKRST | 2 => regsPWR | 3 => regsEVT | 4 => regsSEC | 5 => regsPLY
  | 6 => regsRAY | 7 => regsSCAN | 8 => regsSPK | 9 => regsLANE | 10 => regsEMIT | 11 => regsHBM
  | 12 => regsHANK | 13 => regsNEEDLE | 14 => regsSTORE | 15 => regsDPORT | 16 => regsNET
  | 17 => regsTIME | 18 => regsTRAF | 19 => regsCHAIN | 20 => regsHLTH | _ => []

/-- The register map row of an address. -/
def findReg (a : Nat) : Option RegDef :=
  if a % 4 = 0 then (blockMap (blockOf a)).find? fun d => d.covers a else none

/-- Reset values that one row's value does not give: array elements that differ, and what the 12-high stack of HL9600-24C and -24E
gives HBM_ORG, HBM_USABLE and PLY_VENUE_AREA (R109, R256); State.stackReset has those of HL9600-16C. -/
def resetSpecial (a : Nat) : Option Nat :=
  if 0xC00800 ≤ a ∧ a < 0xC00C00 then
    (if (a - 0xC00800) / 4 % 16 == 0 || (a - 0xC00800) / 4 % 16 == 4 || (a - 0xC00800) / 4 % 16 == 8 then some 0x4000 else none)
  else if a = Reg.HBM_ORG then some 0x03001001
  else if a = Reg.HBM_USABLE then some 0x3F005A00
  else if a = Reg.PLY_VENUE_AREA_LO then some 0x9F000000
  else if a = Reg.PLY_VENUE_AREA_HI then some 5
  else if 0xC10000 ≤ a ∧ a < 0xC16000 then
    let w := (a - 0xC10000) % 0x2000 / 4
    some (presetXfer 1 (2 * w) + presetXfer 1 (2 * w + 1) * 2 ^ 16)
  else if 0x3000300 ≤ a ∧ a < 0x3000400 then (if a % 0x20 = 0 then some 0x20 else none)
  else if 0x3000040 ≤ a ∧ a < 0x3000140 then (if a % 0x40 = 0x14 then some 0x140 else none)
  else if 0x3402010 ≤ a ∧ a < 0x3402010 + 0x20 * 18 then (if a % 0x20 = 0x10 then some 0x1403 else none)
  else none

/-- What a register holds right after reset (the Reset columns of the register maps). -/
def resetNat (a : Nat) : Nat :=
  match resetSpecial a with
  | some v => v
  | none => match findReg a with
    | some d => d.reset
    | none => 0

def resetWord (a : Nat) : Word := BitVec.ofNat 32 (resetNat a)

/-! ## Reading and setting registers from inside the device -/

/-- The current value of a register. -/
def State.reg (s : State) (a : Nat) : Word := (mapGet s.regs a).getD (resetWord a)

/-- A register set; its reset value is kept by leaving it out. -/
def State.setReg (s : State) (a : Nat) (w : Word) : State :=
  { s with regs := if w = resetWord a then mapErase s.regs a else mapPut s.regs a w }

/-- A field of a register. -/
def State.fld (s : State) (a lo n : Nat) : Nat := (s.reg a).field lo n
/-- A bit of a register. -/
def State.bit (s : State) (a i : Nat) : Bool := (s.reg a).bit i
/-- Set a field. -/
def State.setFld (s : State) (a lo n v : Nat) : State := s.setReg a ((s.reg a).put lo n v)
/-- Set a bit. -/
def State.setBit (s : State) (a i : Nat) (b : Bool) : State := s.setFld a i 1 (bitOf b)
/-- Add to a saturating field. -/
def State.incFld (s : State) (a lo n k : Nat) : State := s.setFld a lo n (satTo (2 ^ n - 1) (s.fld a lo n + k))
/-- Set a register from a number. -/
def State.setNat (s : State) (a v : Nat) : State := s.setReg a (Word.ofNat v)
/-- A register as a number. -/
def State.nat (s : State) (a : Nat) : Nat := (s.reg a).toNat

/-- Return the registers of an address range to their reset values, and drop their waiting writes. -/
def State.resetRange (s : State) (lo hi : Nat) : State :=
  { s with
    regs := s.regs.filter fun x => x.1 < lo || hi ≤ x.1
    rws := s.rws.filter fun x => x.addr < lo || hi ≤ x.addr
    atMode := s.atMode.filter fun x => x.addr < lo || hi ≤ x.addr }

/-- Return a block's registers to their reset values. -/
def State.resetBlock (s : State) (n : Nat) : State := s.resetRange (blockRange n).1 (blockRange n).2

/-- Fold a state change over a list. -/
def State.each {α : Type} (s : State) (l : List α) (f : State → α → State) : State := l.foldl f s

/-! ## Time conversion -/

/-- Control cycles of a number of microseconds (R18). -/
def us (n : Nat) : Nat := 400 * n
/-- Control cycles of a number of milliseconds. -/
def ms (n : Nat) : Nat := 400000 * n
/-- Control cycles of a number of nanoseconds, rounded up (R18). -/
def nsCycles (n : Nat) : Nat := (2 * n + 4) / 5

/-! ## Modes (Table 2-1) -/
namespace Mode
def RESET : Nat := 0x0
def CAST_ON : Nat := 0x1
def DEEP : Nat := 0x2
def STRIP : Nat := 0x3
def IDLE : Nat := 0x4
def PREVIEW : Nat := 0x5
def SHOW : Nat := 0x6
def LIVE : Nat := 0x7
def SWATCH : Nat := 0x8
def SERVICE : Nat := 0x9
def BIND_OFF : Nat := 0xA
def SAFE : Nat := 0xB
end Mode

/-- Current mode code (R25). -/
def State.modeCode (s : State) : Nat := s.fld Reg.GLB_MODE_STAT 0 4
/-- A transition is in progress (R27). -/
def State.busy (s : State) : Bool := s.bit Reg.GLB_MODE_STAT 8
/-- PREVIEW, SHOW, LIVE and SWATCH. -/
def isDelivering (m : Nat) : Bool := Mode.PREVIEW ≤ m && m ≤ Mode.SWATCH
def State.delivering (s : State) : Bool := isDelivering s.modeCode
/-- READY of cast-on (R65). -/
def State.ready (s : State) : Bool := s.bit Reg.CLKRST_CASTON_STAT 5
/-- The stack is in self-refresh (R35, R259). -/
def State.selfRefresh (s : State) : Bool := s.bit Reg.GLB_MODE_STAT 9

/-! ## Power domains -/

/-- Domain `d` is powered. -/
def State.domainOn (s : State) (d : Nat) : Bool := s.bit (Reg.PWR_DOMAIN_STAT0 + 4 * (d / 32)) (d % 32)
/-- Mark domain `d` on or off. -/
def State.setDomain (s : State) (d : Nat) (on : Bool) : State :=
  let s := s.setBit (Reg.PWR_DOMAIN_STAT0 + 4 * (d / 32)) (d % 32) on
  if d = 53 ∨ d = 54 then
    -- the reference output of a root port runs while its domain is on (R213)
    let bit := 2 ^ (d - 53)
    let off := if s.pins.nvmeRefclk.testBit (d - 53) then s.pins.nvmeRefclk - bit else s.pins.nvmeRefclk
    { s with pins := { s.pins with nvmeRefclk := if on then off + bit else off } }
  else s

/-- Domains that hold a block (Table 1-1); none for the blocks of R423 that are never off. -/
def blockDomains (n : Nat) : List Nat :=
  match n with
  | 4 => [2]
  | 6 => (List.range 24).map (· + 4)
  | 7 => [28, 29, 30, 31]
  | 8 => (List.range 20).map (· + 28)
  | 9 => (List.range 23).map (· + 32)
  | 10 => [71, 72, 73, 74, 75, 76, 77]
  | 11 => (List.range 8).map (· + 55)
  | 12 => [63, 64, 65, 66]
  | 13 => [67, 68]
  | 14 => [53, 54]
  | 15 => [52]
  | 16 => [50, 51]
  | 17 => [78]
  | 18 => [50, 51]
  | 19 => [48, 49]
  | 20 => [3]
  | _ => []

/-- A block has power (R423). -/
def State.blockOn (s : State) (n : Nat) : Bool :=
  match blockDomains n with
  | [] => true
  | ds => ds.any fun d => s.domainOn d

/-! ## Show time -/

/-- Value of a time line at a control cycle, in 2^−40 ns (R350: two additions of the addend per control cycle). -/
def TimeLine.at (l : TimeLine) (c : Nat) : Nat := l.value + 2 * (c - l.at_) * l.addend

/-- Displacement in slew units of a change of rate from r0 to r1 at `a` per cycle. -/
def rampMove (a : Nat) (r0 r1 : Int) : Int := (r1 * r1 - r0 * r0) / (2 * (a : Int))

/-- Offset and rate of a slew `n` cycles after its start: the shortest profile to zero offset and zero rate difference
within the limits (R353). -/
def Slew.eval (sl : Slew) (n : Nat) : Int × Int :=
  let a : Int := sl.accel
  if sl.accel = 0 then (sl.off, sl.rate)
  else
    -- displacement still wanted, and where braking from the present rate alone would lead
    let d := -sl.off
    let stop := (if 0 ≤ sl.rate then sl.rate * sl.rate else -(sl.rate * sl.rate)) / (2 * a)
    let sg : Int := if stop ≤ d then 1 else -1
    -- mirrored so that the first phase raises the rate
    let d' := sg * d
    let r0 := sg * sl.rate
    let peak := min (sl.slewMax : Int) (isqrt (a * d' + r0 * r0 / 2).toNat : Int)
    let peak := max peak r0
    let t1 := (peak - r0) / a
    let t3 := peak / a
    let rest := d' - rampMove sl.accel r0 peak - rampMove sl.accel 0 peak
    let t2 := if peak ≤ 0 then 0 else (max rest 0) / peak
    let k : Int := n
    if t1 + t2 + t3 ≤ k then (0, 0)
    else
      let moved :=
        if k < t1 then r0 * k + a * k * k / 2
        else if k < t1 + t2 then rampMove sl.accel r0 peak + peak * (k - t1)
        else let j := k - t1 - t2; rampMove sl.accel r0 peak + peak * t2 + peak * j - a * j * j / 2
      let rate := if k < t1 then r0 + a * k else if k < t1 + t2 then peak else peak - a * (k - t1 - t2)
      (sl.off + sg * moved, sg * rate)

/-- Slew offset units (2.5/4·10^12 ns) to 2^−40 ns. -/
def slewToFine (x : Int) : Int := x * 2 ^ 40 / 1600000000000
/-- 2^−40 ns to slew offset units. -/
def fineToSlew (x : Int) : Int := x * 1600000000000 / 2 ^ 40

/-- TB2 at a control cycle, in 2^−40 ns. -/
def TimeState.showFine (t : TimeState) (c : Nat) : Nat :=
  ((t.tb2.at c : Int) + slewToFine (t.slew.eval (c - t.slew.start)).1).toNat

/-- A time base in 2^−40 ns. -/
def TimeState.tbFine (t : TimeState) (b c : Nat) : Nat :=
  match b with
  | 0 => t.tb0.line.at c
  | 1 => t.tb1.line.at c
  | 2 => t.showFine c
  | _ => t.tb3.at c

/-- Flat nanoseconds of a fine time (R351). -/
def flatNs (fine : Nat) : Nat := fine / 2 ^ 40 % 2 ^ 64
/-- Flat time with 16 fraction bits (R351), modulo 2^80. -/
def flatFns (fine : Nat) : Nat := fine / 2 ^ 24 % 2 ^ 80

/-- Show time now, flat ns (R426). -/
def State.showNs (s : State) : Nat := flatNs (s.time.showFine s.now)

/-! ## Events -/

/-- A signed argument word (R427). -/
def argInt (i : Int) : Nat := unsigned 32 i

/-- The 32-byte record of an event (Table 20-3). -/
def Event.bytes (e : Event) (phase : Bool) : List Byte :=
  leBytes 2 e.code ++ leBytes 1 (e.code / 256) ++ leBytes 1 (severity e.code + 128 * bitOf phase)
    ++ leBytes 8 e.time ++ (List.range 5).flatMap fun i => leBytes 4 (e.args.getD i 0)

/-- Raise an event in the current cycle (R426 to R428). -/
def State.raise (s : State) (code : Nat) (args : List Nat) : State :=
  { s with raised := s.raised ++ [⟨s.now, code, args.map (· % 2 ^ 32), s.showNs⟩] }

/-- Append to what the device has sent. -/
def State.emit (s : State) (o : Out) : State := { s with outbox := s.outbox ++ [o] }

/-- The trace port owns its balls and PD79 is on (R446). -/
def State.traceOn (s : State) : Bool := s.bit Reg.GLB_PIN_STAT 16 && s.domainOn 79

/-- A packet enters the trace queue, or is dropped and counted (R446). -/
def State.traceSend (s : State) (p : TracePacket) : State :=
  if !s.traceOn then s
  else
    let loss : List TracePacket := if s.trace.dropped = 0 then [] else [.loss s.trace.dropped]
    if s.trace.queue.length + loss.length + 1 ≤ 64 ∧ (loss = [] ∨ s.trace.queue.length + 2 ≤ 64) then
      { s with trace := { s.trace with queue := s.trace.queue ++ loss ++ [p], dropped := 0
                                       headAt := if s.trace.queue.isEmpty then max s.now s.trace.headAt else s.trace.headAt } }
    else
      ({ s with trace := { s.trace with dropped := s.trace.dropped + 1 } }).incFld Reg.GLB_TRACE_STAT 0 16 1

/-- Free slots of the event ring. -/
def State.ringFree (s : State) : Nat :=
  let n := 2 ^ s.fld Reg.EVT_RING_CFG 8 5
  n - (s.fld Reg.EVT_HEAD 0 17 + n - s.fld Reg.EVT_TAIL 0 17) % n

/-- Send a vector's message and restart its interval. -/
def State.msixSend (s : State) (v : Nat) : State :=
  { (s.emit (.msix v)) with
    evt := { s.evt with vecLast := (v, s.now) :: s.evt.vecLast.filter (fun x => x.1 != v)
                        vecWaiting := s.evt.vecWaiting.filter (· != v)
                        pba := s.evt.pba &&& (2 ^ 32 - 1 - 2 ^ v) } }

/-- The moderation interval of a vector is over. -/
def State.vecFree (s : State) (v : Nat) : Bool :=
  let i := s.fld Reg.EVT_MOD 0 16
  match mapGet s.evt.vecLast v with
  | none => true
  | some c => c + us i ≤ s.now

/-- Signal a recorded event on its block's vector (R432). -/
def State.signal (s : State) (e : Event) : State :=
  let w := s.reg (Reg.EVT_VEC (e.code / 256))
  let v := w.field 0 5
  if !(w.bit 7) || severity e.code < w.field 5 2 then s
  else if s.evt.vecMask.testBit v then
    { s with evt := { s.evt with pba := s.evt.pba ||| 2 ^ v } }
  else if severity e.code = 3 || s.vecFree v then s.msixSend v
  else { s with evt := { s.evt with vecWaiting := if s.evt.vecWaiting.contains v then s.evt.vecWaiting
                                                  else s.evt.vecWaiting ++ [v] } }

/-- Write a record to the ring and advance HEAD (R429). -/
def State.ringWrite (s : State) (e : Event) : State :=
  let n := 2 ^ s.fld Reg.EVT_RING_CFG 8 5
  let h := s.fld Reg.EVT_HEAD 0 17
  let ph := s.bit Reg.EVT_HEAD 31
  let s := s.emit (.record h (e.bytes ph))
  let s := s.setFld Reg.EVT_HEAD 0 17 ((h + 1) % n)
  let s := if h + 1 = n then s.setBit Reg.EVT_HEAD 31 (!ph) else s
  s.signal e

/-- The overflow record of R430, once two slots are free. -/
def State.flushLost (s : State) : State :=
  match s.evt.lostFirst with
  | none => s
  | some c =>
    if s.ringFree < 2 then s
    else
      let e : Event := ⟨s.now, Ev.EVT_RING_OVERFLOW, [s.evt.lostCount, c], s.showNs⟩
      let s := { s with evt := { s.evt with lostFirst := none, lostCount := 0 } }
      (s.traceSend (.event e)).ringWrite e

/-- An event enters the ring, or is lost and counted (R430). -/
def State.toRing (s : State) (e : Event) : State :=
  let s := s.flushLost
  if 2 ≤ s.ringFree ∧ s.evt.lostFirst = none then s.ringWrite e
  else
    let s := { s with evt := { s.evt with lostFirst := some (s.evt.lostFirst.getD e.code)
                                          lostCount := s.evt.lostCount + 1 } }
    s.incFld Reg.EVT_STAT 16 16 1

/-- An event enters the early queue (R66). -/
def State.toEarly (s : State) (e : Event) : State :=
  let s := if s.evt.early.length < 63 then { s with evt := { s.evt with early := s.evt.early ++ [e] } }
    else { s with evt := { s.evt with earlyLost := s.evt.earlyLost + 1 } }
  s.setBit Reg.EVT_STAT 1 true

/-- Deliver one event: trace port, then ring or early queue (R428, R430, R446). -/
def State.deliverOne (s : State) (e : Event) : State :=
  let s := s.traceSend (.event e)
  if s.bit Reg.EVT_STAT 0 then s.toRing e else s.toEarly e

/-- Insert an event behind those of equal or lower CODE (R428). -/
def insertEvent (e : Event) : List Event → List Event
  | [] => [e]
  | x :: xs => if e.code < x.code then e :: x :: xs else x :: insertEvent e xs

/-- Events of one cycle in ascending CODE (R428). -/
def sortEvents (l : List Event) : List Event := l.foldl (fun a e => insertEvent e a) []

/-- Deliver the events raised in the cycle that ends. -/
def State.deliver (s : State) : State :=
  ({ s with raised := [] }).each (sortEvents s.raised) State.deliverOne

/-- The clock moves to cycle `t`: the events of an earlier cycle are delivered first.  A cycle already past leaves the clock where it is. -/
def State.advance (s : State) (t : Nat) : State :=
  if t ≤ s.now then s else { s.deliver with now := t }

/-! ## Commands that wait -/

/-- A command of the current cycle that satisfies `p` waits in the queue. -/
def State.sameCycle (s : State) (p : Instr → Bool) : Bool := s.pending.any fun i => i.cycle == s.now && p i

/-- The `n`-th fresh value index is used. -/
def State.useFresh (s : State) : State := { s with fresh := s.fresh + 1 }

/-- A limiter "at most once per `interval` cycles" counts from its last raise (R431). -/
def limited (last : Option Nat) (interval now : Nat) : Bool :=
  match last with
  | none => false
  | some c => now < c + interval

end Sys2Proof.Machine
end

