-- ==== Sys2Proof/Machine/Operands.lean ====
section
/-! DEFINITION.  What a register write may place and what refuses it: the bits each
register takes (R8), the encodings that the field maps refuse (R9), and the ordered causes
of Table 20-2 (R424). -/

namespace Sys2Proof.Machine

/-! ## Bits that a write can place -/

/-- Writable bits of the words of one comparator (Table 16-9). -/
def cmpWordMask (i : Nat) : Nat :=
  match i with
  | 0 => 0x7737 | 1 => 0xFFFF | 4 => 0xFFFF | 6 => 0xFFFFFF | 7 => 0 | _ => 0xFFFFFFFF

/-- Writable bits of the words of one timing set (HBM_TSET). -/
def tsetWordMask (i : Nat) : Nat :=
  match i with
  | 2 => 0xFFFFFF | 3 => 0x0FFFFFFF | _ => 0xFFFFFFFF

/-- Bits of a register that a write can place (R8). -/
def writeMask (a : Nat) : Word :=
  Word.ofNat (if Reg.TIME_CMP 0 0 ≤ a ∧ a < Reg.TIME_CMP 8 0 then cmpWordMask (a / 4 % 8)
    else if Reg.HBM_TSET 0 0 ≤ a ∧ a < Reg.HBM_TSET 2 0 then tsetWordMask (a / 4 % 4)
    else match findReg a with
      | some d => d.mask
      | none => 0)

/-! ## Reading -/

/-- The write that waits for register `a`, latest first: a shadow of R6 or a mode-change write of R7. -/
def waitingWrite (l : List PendWrite) (a : Nat) : Option Word :=
  l.foldl (fun r p => if p.addr = a then some p.data else r) none

/-- The value most recently written to a register, whether or not it has applied (R6, R251). -/
def State.latest (s : State) (a : Nat) : Word :=
  match waitingWrite s.rws a, waitingWrite s.atMode a with
  | some w, _ => w
  | none, some w => w
  | none, none => s.reg a

/-- The NEEDLE block answers in these modes only (R293). -/
def State.needleMode (s : State) : Bool :=
  s.modeCode == Mode.IDLE || s.delivering || s.modeCode == Mode.SERVICE

/-- Block-reset codes whose registers share an address (Table 3-2). -/
def resetCovers (code a : Nat) : Bool :=
  if code ≤ 4 then decide (Reg.HANK_ENG_STAT (code - 1) ≤ a ∧ a < Reg.HANK_ENG_STAT code)
  else if code ≤ 6 then decide (Reg.HANK_ENG_STAT (code - 1) ≤ a ∧ a < Reg.HANK_ENG_STAT code)
  else if code = 7 then blockOf a == 13
  else if code = 8 then false
  else if code ≤ 0x0A then decide (Reg.STORE_DRV_STAT (code - 9) ≤ a ∧ a < Reg.STORE_DRV_STAT (code - 8))
  else if code ≤ 0x0C then
    let x := code - 0x0B
    decide (Reg.NET_PORT_CFG x ≤ a ∧ a < Reg.NET_PORT_CFG x + 0x100) ||
    decide (Reg.TRAF_PORT_CFG x ≤ a ∧ a < Reg.TRAF_PORT_CFG x + 0x100) ||
    decide (Reg.TRAF_QDROP x 0 ≤ a ∧ a < Reg.TRAF_QDROP (x + 1) 0) ||
    decide (Reg.TRAF_OUT_ADDR x 0 0 ≤ a ∧ a < Reg.TRAF_OUT_ADDR (x + 1) 0 0) ||
    decide (Reg.TRAF_HIST x 0 0 0 ≤ a ∧ a < Reg.TRAF_HIST (x + 1) 0 0 0)
  else if code ≤ 0x10 then decide (Reg.CHAIN_PORT_CFG (code - 0x0D) ≤ a ∧ a < Reg.CHAIN_PORT_CFG (code - 0x0C))
  else decide (Reg.DPORT_DMA_RING_LO (code - 0x11) ≤ a ∧ a < Reg.DPORT_DMA_RING_LO (code - 0x10))

/-- A block reset in progress that covers address `a` (R51). -/
def State.resetOver (s : State) (a : Nat) : Option Nat :=
  (s.rst.blocks.find? fun b => resetCovers b.1 a).map (·.1)

/-- Access to a register is possible under the reduced service (Table 3-6, R93). -/
def State.earlyReadable (s : State) (a : Nat) : Bool :=
  a == Reg.GLB_ID || a == Reg.GLB_REV || a == Reg.GLB_MODE_STAT || blockOf a == 1 ||
  (s.bit Reg.CLKRST_CASTON_STAT 4 &&
    (a == Reg.SEC_CMD || a == Reg.SEC_CMD_STAT || a == Reg.SEC_FLASH_ADDR || a == Reg.SEC_LEN ||
     decide (Reg.SEC_STAGE 0 ≤ a ∧ a < Reg.SEC_STAGE 16384)))

/-- A block answers accesses (R423, R293). -/
def State.blockAnswers (s : State) (a : Nat) : Bool :=
  if blockOf a = 13 then s.needleMode else s.blockOn (blockOf a)

/-! ## Encodings that the field maps refuse (R9) -/

/-- `v` lies between `lo` and `hi`. -/
def within (lo hi v : Nat) : Bool := lo ≤ v && v ≤ hi

/-- CLKRST, PWR and GLB fields. -/
def validLow (s : State) (a : Nat) (w : Word) : Bool :=
  if a = Reg.GLB_MODE_CMD then w.field 0 4 ≤ 0xB
  else if a = Reg.CLKRST_BLOCK_RESET then within 1 0x14 (w.field 0 6)
  else if a = Reg.PWR_HBM_POLICY then w.field 16 16 != 0
  else if a = Reg.PWR_DEEP_CFG then within 3 4 (w.field 0 4)
  else if a = Reg.GLB_GPIO_PULL then w.field 0 16 &&& w.field 16 16 == 0
  else if a = Reg.EVT_RING_LO ∨ a = Reg.EVT_RING_HI then !s.bit Reg.EVT_STAT 0
  else if a = Reg.EVT_RING_CFG then
    within 6 16 (w.field 8 5) && (!s.bit Reg.EVT_STAT 0 || w.field 8 5 == s.fld Reg.EVT_RING_CFG 8 5)
  else if a = Reg.EVT_TAIL then w.field 0 17 < 2 ^ s.fld Reg.EVT_RING_CFG 8 5
  else true

/-- SEC fields. -/
def validSec (a : Nat) (w : Word) : Bool :=
  if a = Reg.SEC_CMD then within 1 9 (w.field 0 8)
  else if a = Reg.SEC_CUE_GO then w.field 0 16 != 0
  else true

/-- PLY fields (Table 5-8, PLY_GROUP). -/
def validPly (a : Nat) (w : Word) : Bool :=
  if Reg.PLY_DESC_BASE_LO 0 ≤ a ∧ a < Reg.PLY_DESC_BASE_LO 64 then
    match a / 4 % 16 with
    | 2 => w.field 0 4 ≤ 9 && w.field 6 2 ≤ 2 && w.field 8 2 ≤ 2 && w.field 4 2 ≤ 2
    | 3 => within 1 16384 (w.field 0 16) && within 1 16384 (w.field 16 16)
    | 4 => w.field 0 21 != 0 && w.field 0 21 % 128 == 0
    | 5 => w.field 0 24 != 0
    | 6 => w.field 0 24 != 0
    | 11 => w.field 0 16 ≤ 0x8000
    | _ => true
  else if Reg.PLY_GROUP_BASE_LO 0 ≤ a ∧ a < Reg.PLY_GROUP_BASE_LO 15 then
    (if a % 32 = 0xC then w.field 0 24 != 0 else true)
  else true

/-- The roster of the loaded pattern. -/
def State.roster (s : State) : List RosterTile := s.sec.pattern.roster
/-- View grid of a preset of RAY_VIEW_GRID; none for custom. -/
def gridPreset (p : Nat) : Option Nat :=
  match p with
  | 1 => some 16 | 2 => some 12 | 3 => some 10 | 4 => some 8 | 5 => some 4 | 6 => some 1 | _ => none

/-- Views across and down that a RAY_VIEW_GRID word selects (R119). -/
def gridOf (w : Word) : Nat × Nat :=
  match gridPreset (w.field 0 4) with
  | some n => (n, n)
  | none => (w.field 8 5, w.field 16 5)

/-- View grid of the roster in panel orientation: that of its first tile, which every tile shares (R120). -/
def State.rosterGrid (s : State) : Option (Nat × Nat) :=
  s.roster.head?.map fun t => if t.rot % 2 == 1 then (t.nv, t.nu) else (t.nu, t.nv)

/-- R120 accepts a grid: the roster's, and square while a tile is mounted at 90° or 270°. -/
def State.gridOk (s : State) (w : Word) : Bool :=
  (match s.rosterGrid with
   | some g => gridOf w == g
   | none => true) &&
  ((gridOf w).1 == (gridOf w).2 || !s.roster.any fun t => t.rot % 2 == 1)

/-- RAY and SCAN fields. -/
def validScene (s : State) (a : Nat) (w : Word) : Bool :=
  if a = Reg.RAY_VIEW_GRID then
    w.field 0 4 ≤ 6 && (w.field 0 4 != 0 || (within 1 16 (w.field 8 5) && within 1 16 (w.field 16 5))) && s.gridOk w
  else if a = Reg.RAY_ALPHA_SAT then within 0x6000 0x8000 (w.field 0 16)
  else if a = Reg.RAY_COLOUR then w.field 0 4 ≤ 7 && w.field 4 3 ≤ 4 && within 1 10000 (w.field 16 16)
  else if a = Reg.SCAN_TIMING then w.field 0 4 ≤ 0xC && w.field 4 2 ≤ 1
  else if a = Reg.SCAN_EMIT then within 1 160 (w.field 0 8)
  else if a = Reg.SCAN_EMIT_MAX then within 1 4096 (w.field 0 13)
  else if a = Reg.SCAN_SWATCH then w.field 0 4 ≤ 5 && within 2 0xC (w.field 4 4)
  else if Reg.SCAN_TILE_CFG 0 ≤ a ∧ a < Reg.SCAN_TILE_CFG 128 then w.field 0 2 ≤ 2
  else true


/-- Tile `t` of the roster. -/
def State.tile (s : State) (t : Nat) : Option RosterTile := s.roster[t]?
/-- Lane of a roster tile. -/
def State.laneOfTile (s : State) (t : Nat) : Nat := ((s.tile t).map (·.lane)).getD 0
/-- Roster tile that a panel lane serves. -/
def State.tileOfLane (s : State) (l : Nat) : Option Nat :=
  (List.range s.roster.length).find? fun t => s.laneOfTile t == l

/-- The tiles that a word of EMIT_STRIP_TILES names, in order. -/
def bandOf (w : Word) : List Nat := ([0, 1, 2, 3].map fun i => w.field (8 * i) 8).filter (· != 0xFF)

/-- R251: the tiles are in the roster, differ, share a panel octet, and hold at most 524,288 hogels. -/
def State.bandOk (s : State) (w : Word) : Bool :=
  let b := bandOf w
  b.all (fun t => decide (t < s.roster.length)) && decide b.Nodup &&
  b.all (fun t => s.laneOfTile t / 8 == s.laneOfTile (b.headD 0) / 8) &&
  decide ((b.map fun t => ((s.tile t).map fun r => r.tw * r.th).getD 0).sum ≤ 524288)

/-- Registers of the roster that a chained device's host may not change (R381). -/
def State.rosterOwned (s : State) (req : Requester) (a : Nat) (w : Word) : Bool :=
  req == .host && s.bit Reg.CHAIN_CFG 0 &&
    (a == Reg.SPK_EPOCH || (a == Reg.SPK_CFG && w != s.latest a) ||
     (a == Reg.LANE_LOOP_CFG && (w.field 0 5 != s.fld a 0 5)))

/-- Group of a lane (Table 10-1). -/
def laneGroup (l : Nat) : Nat :=
  if l < 0x80 then 0 else if l < 0x100 then 1 else if l < 0x110 then 2 else if l < 0x118 then 3
  else if l < 0x128 then 4 else 5

/-- SPK and LANE fields. -/
def validLink (s : State) (req : Requester) (a : Nat) (w : Word) : Bool :=
  if s.rosterOwned req a w then false
  else if a = Reg.SPK_CFG then w.field 0 2 ≤ 2
  else if a = Reg.SPK_CTL then
    decide (w.field 0 7 < s.roster.length)
  else if a = Reg.SPK_CFGW_ADDR then w.bit 8 || (w.field 16 16 != 0x10 && w.field 16 16 != 0x14)
  else if a = Reg.SPK_CFGW_CMD then !(w.bit 0 && s.bit Reg.SPK_CFGW_STAT 0)
  else if a = Reg.LANE_CTL then
    w.field 0 9 < 0x130 && !(w.bit 9 && laneGroup (w.field 0 9) == 4)
  else if a = Reg.LANE_LOOP_CFG then !(w.bit 4 && w.field 0 2 == w.field 2 2)
  else if Reg.LANE_CFG 0 ≤ a ∧ a < Reg.LANE_CFG 304 then
    let l := (a - Reg.LANE_CFG 0) / 32
    match a / 4 % 8 with
    | 0 => w.field 0 4 ≤ 9 && w.field 4 2 ≤ 2
    | 4 => w.field 0 2 ≤ 2 && w.field 4 2 ≤ 2
    | 6 => w.field 0 5 ≤ 16 && (w.field 0 5 == 0 || (laneGroup l == 0 || laneGroup l == 2)) &&
           (w.field 0 5 == 0 || w.field 16 16 != 0)
    | 7 => w.field 0 6 + w.field 8 6 + w.field 16 6 ≤ 63
    | _ => true
  else true

/-- EMIT fields. -/
def validEmit (s : State) (a : Nat) (w : Word) : Bool :=
  if a = Reg.EMIT_THM_CFG then
    within 1000 10000 (w.field 0 16) && w.field 16 8 != 0 && w.field 24 8 ≤ 125
  else if a = Reg.EMIT_PROBE_CFG then w.field 0 2 ≤ 2
  else if a = Reg.EMIT_STRIP_TILES then s.bandOk w
  else true

/-- HBM, HANK and NEEDLE fields. -/
def validHbm (a : Nat) (w : Word) : Bool :=
  if a = Reg.HBM_RETIRE_CFG then w.field 0 4 != 0
  else if a = Reg.HBM_SCRUB_CFG then w.field 0 8 != 0
  else if a = Reg.HBM_LOST_CLR_CNT then within 1 393216 (w.field 0 19)
  else if Reg.HBM_TSET 0 0 ≤ a ∧ a < Reg.HBM_TSET 2 0 then
    match a / 4 % 4 with
    | 2 => w.field 0 8 != 0 && w.field 8 8 != 0 && w.field 16 8 != 0
    | 3 => w.field 0 12 != 0 && w.field 12 16 != 0
    | _ => w.field 0 8 != 0 && w.field 8 8 != 0 && w.field 16 8 != 0 && w.field 24 8 != 0
  else if a = Reg.HANK_JOB_CTL then
    w.field 6 2 ≤ 1 && w.field 1 3 != 6 &&
    (w.field 1 3 == 7 || (if w.bit 0 then w.field 1 3 == 4 || w.field 1 3 == 5 else w.field 1 3 ≤ 3))
  else if a = Reg.NEEDLE_CMD then w.field 0 2 ≤ 2
  else if a = Reg.NEEDLE_SRC_PITCH ∨ a = Reg.NEEDLE_DST_PITCH then w.field 0 21 % 128 == 0
  else if a = Reg.NEEDLE_SRC_FMT ∨ a = Reg.NEEDLE_DST_FMT then
    w.field 0 4 ≤ 0xA && w.field 4 2 ≤ 2 && w.field 6 2 ≤ 2 && w.field 8 2 ≤ 2
  else if Reg.NEEDLE_CLIP_A 0 ≤ a ∧ a < Reg.NEEDLE_CLIP_A 4 then
    w.field 0 16 ≤ 16384 && w.field 16 16 ≤ 16384
  else true

/-- Some skein is open. -/
def State.skeinOpen (s : State) : Bool := s.store.skein.isSome

/-- STORE and DPORT fields. -/
def validStore (s : State) (a : Nat) (w : Word) : Bool :=
  if a = Reg.STORE_RING ∨ a = Reg.STORE_BUF then !s.skeinOpen
  else if a = Reg.STORE_YSTAGE then s.fld Reg.PLY_LIVE 0 16 == 0
  else if a = Reg.STORE_CTL then bitOf (w.bit 0) + bitOf (w.bit 1) + bitOf (w.bit 2) ≤ 1
  else if a = Reg.STORE_XFER_CMD then within 1 5 (w.field 0 3)
  else if Reg.STORE_YARN_CFG 0 ≤ a ∧ a < Reg.STORE_YARN_CFG 16 then w.field 0 16 != 0
  else if Reg.DPORT_PTR_LO 0 ≤ a ∧ a < Reg.DPORT_PTR_LO 4 then (if a % 16 = 8 then w.field 0 3 ≤ 4 else true)
  else if Reg.DPORT_DMA_RING_LO 0 ≤ a ∧ a < Reg.DPORT_DMA_RING_LO 4 then
    let c := (a - Reg.DPORT_DMA_RING_LO 0) / 32
    let run := s.bit (Reg.DPORT_DMA_CFG c) 0
    match a / 4 % 8 with
    | 2 => (!w.bit 0 || 4 ≤ w.field 4 4) && (!run || w.field 4 4 == s.fld (Reg.DPORT_DMA_CFG c) 4 4)
    | 3 => w.field 0 15 < 2 ^ s.fld (Reg.DPORT_DMA_CFG c) 4 4
    | _ => !run
  else true

/-- A NET_MCAST entry after the write can still name a group: all zero, IPv6 multicast, or IPv4-mapped multicast, in part or whole. -/
def groupPartOk (ws : List Word) : Bool :=
  let w (i : Nat) := (ws.getD i 0)
  ws.all (· == 0) || (w 0).field 0 8 == 0xFF ||
  (w 0 == 0 && w 1 == 0 && (w 2 == 0 || w 2 == 0xFFFF0000) && (w 3 == 0 || within 224 239 ((w 3).field 0 8)))

/-- NET and TIME fields. -/
def validNet (s : State) (a : Nat) (w : Word) : Bool :=
  if Reg.NET_PORT_CFG 0 ≤ a ∧ a < Reg.NET_PORT_CFG 2 then
    match (a - Reg.NET_PORT_CFG 0) % 0x100 with
    | 0 => w.field 16 12 ≤ 4094
    | 4 => !w.bit 0
    | _ => true
  else if Reg.NET_MCAST 0 0 ≤ a ∧ a < Reg.NET_MCAST 16 0 then
    let g := (a - Reg.NET_MCAST 0 0) / 16
    groupPartOk ([0, 1, 2, 3].map fun i => if Reg.NET_MCAST g i = a then w else s.reg (Reg.NET_MCAST g i))
  else if a = Reg.TIME_CFG then w.field 0 2 ≤ 1 && w.field 16 8 != w.field 24 8
  else if a = Reg.TIME_SERVO_CFG then within 10 10000 (w.field 0 16) && w.field 16 2 ≤ 2
  else if a = Reg.TIME_TB2_CFG then w.field 0 3 ≤ 5 && within 1 500 (w.field 4 9) && within 1 100 (w.field 16 8)
  else if a = Reg.TIME_PPS_CFG then within 1 999999 (w.field 8 20)
  else if a = Reg.TIME_CTL then !(w.bit 2 && s.frame.latched)
  else if a = Reg.TIME_SET_NS then w.field 0 30 ≤ 999999999
  else if Reg.TIME_CAP_CFG 0 ≤ a ∧ a < Reg.TIME_CAP_CFG 3 then (if a % 32 = 0 then w.field 1 2 ≤ 2 else true)
  else if Reg.TIME_CMP 0 0 ≤ a ∧ a < Reg.TIME_CMP 8 0 then
    let n := (a - Reg.TIME_CMP 0 0) / 32
    let i := a / 4 % 8
    let at_ (j : Nat) : Word := if i = j then w else s.reg (Reg.TIME_CMP n j)
    let c := at_ 0
    if s.bit (Reg.TIME_CMP n 0) 0 && !(i == 0 && !w.bit 0) then false
    else c.field 1 2 ≤ 2 && c.field 8 3 ≤ 4 &&
      !(c.field 1 2 == 1 && at_ 4 == 0 && at_ 5 == 0 && (i == 0 || i == 4 || i == 5)) &&
      !(c.field 12 2 == 3 && at_ 6 == 0 && (i == 0 || i == 6))
  else true

/-- The queue limits of a port with one of them replaced total at most 1,024 KiB (R371). -/
def State.qlimOk (s : State) (a : Nat) (w : Word) : Bool :=
  let x := (a - Reg.TRAF_PORT_CFG 0) / 0x100
  decide (((List.range 8).map fun q => (if Reg.TRAF_CLASS x q = a then w else s.latest (Reg.TRAF_CLASS x q)).field 8 11).sum ≤ 1024)

/-- TRAF fields. -/
def validTraf (s : State) (a : Nat) (w : Word) : Bool :=
  if a = Reg.TRAF_LOCAL then w.field 0 3 ≤ 6 && w.field 4 3 ≤ 6
  else if Reg.TRAF_PORT_CFG 0 ≤ a ∧ a < Reg.TRAF_PORT_CFG 2 then
    let o := (a - Reg.TRAF_PORT_CFG 0) % 0x100
    if o = 0 then w.field 0 3 ≤ 6
    else if 0x20 ≤ o ∧ o < 0x40 then
      w.field 0 4 ≤ 9 && (w.field 0 4 == 1 || o != 0x3C) && within 1 1024 (w.field 8 11) && w.field 24 8 != 0 && s.qlimOk a w
    else if 0x40 ≤ o ∧ o < 0x60 then within 1 99999 (w.field 0 17)
    else true
  else if Reg.TRAF_OUT_ADDR 0 0 0 ≤ a ∧ a < Reg.TRAF_OUT_ADDR 2 0 0 then
    (if a % 32 = 0x10 then w.field 4 3 ≤ 6 && w.field 8 8 != 0 else true)
  else if Reg.TRAF_IN_ADDR 0 0 ≤ a ∧ a < Reg.TRAF_IN_ADDR 256 0 then
    match a % 32 with
    | 0x10 => !(w.bit 1 && 18 ≤ (a - Reg.TRAF_IN_ADDR 0 0) / 32) && w.field 8 8 != 0
    | 0x14 => within 1 100000 (w.field 0 17)
    | 0x18 => 64 ≤ w.field 0 20
    | _ => true
  else true

/-- CHAIN and HLTH fields. -/
def validChain (s : State) (a : Nat) (w : Word) : Bool :=
  if a = Reg.CHAIN_CTL then (bitsOf 4 w.toNat).length ≤ 1
  else if a = Reg.CHAIN_HB_CFG then
    w.field 0 16 != 0 && !(w.bit 20 && w.field 21 2 == 0) &&
    ([0, 1, 2, 3].any fun i => s.reg (Reg.NET_MCAST (w.field 16 4) i) != 0)
  else if a = Reg.HLTH_THERM_CFG then
    within 80 95 (w.field 0 8) && within 85 100 (w.field 8 8) && w.field 0 8 < w.field 8 8 && within 1 20 (w.field 16 8)
  else if a = Reg.HLTH_CTL then !(w.bit 1 && w.bit 2)
  else if a = Reg.HLTH_CAL_USER 0x31 then false
  else true

/-- The masked word places no encoding that the field maps refuse (R9). -/
def validWrite (s : State) (req : Requester) (a : Nat) (w : Word) : Bool :=
  let n := blockOf a
  if n ≤ 3 then validLow s a w
  else if n = 4 then validSec a w
  else if n = 5 then validPly a w
  else if n = 6 ∨ n = 7 then validScene s a w
  else if n = 8 ∨ n = 9 then validLink s req a w
  else if n = 10 then validEmit s a w
  else if n ≤ 13 then validHbm a w
  else if n ≤ 15 then validStore s a w
  else if n ≤ 17 then validNet s a w
  else if n = 18 then validTraf s a w
  else validChain s a w

/-! ## Mirrored registers (Table 18-5) -/

/-- Scope of a register in a chain: 0 local, 1 chain, 2 pair. -/
def mirrorScope (a : Nat) : Nat :=
  if (Reg.PLY_DESC_BASE_LO 0 ≤ a ∧ a < Reg.PLY_DESC_BASE_LO 64) then 1
  else if Reg.PLY_GROUP_BASE_LO 0 ≤ a ∧ a < Reg.PLY_GROUP_BASE_LO 15 ∧ a % 32 ≠ 0x10 then 1
  else if [Reg.SCAN_COMMIT, Reg.SCAN_TIMING, Reg.SCAN_PHASE, Reg.SCAN_ANCHOR_LO, Reg.SCAN_ANCHOR_HI, Reg.SCAN_CFG,
      Reg.SCAN_EMIT, Reg.SCAN_EMIT_MAX, Reg.SCAN_SWATCH, Reg.RAY_VIEW_GRID, Reg.RAY_ALPHA_SAT, Reg.RAY_COLOUR,
      Reg.RAY_BUDGET_CFG, Reg.EMIT_BRIGHT, Reg.EMIT_TCOMP, Reg.EMIT_PROBE_CFG].contains a then 1
  else if (Reg.RAY_ZONE_MTX 0 0 ≤ a ∧ a < Reg.RAY_ZONE_MTX 16 0) ∨ (Reg.RAY_XFER 0 0 ≤ a ∧ a < Reg.RAY_XFER 3 0) ∨
      (Reg.RAY_WARP_GRID 0 0 ≤ a ∧ a < Reg.RAY_WARP_GRID 128 0) ∨ (Reg.RAY_VIEW_DIR 0 0 ≤ a ∧ a < Reg.RAY_VIEW_DIR 128 0) ∨
      (Reg.EMIT_IMAX 0 ≤ a ∧ a < Reg.EMIT_IMAX 48) ∨ (Reg.EMIT_IREF_RAW 0 ≤ a ∧ a < Reg.EMIT_IREF_RAW 48) ∨
      (Reg.EMIT_BAND 0 0 ≤ a ∧ a < Reg.EMIT_BAND 3 0) ∨ (Reg.SCAN_TILE_CFG 0 ≤ a ∧ a < Reg.SCAN_TILE_CFG 128) ∨
      (Reg.SPK_CFGW_ADDR ≤ a ∧ a ≤ Reg.SPK_CFGW_CMD) then 2
  else 0

/-- This device is a member of a twin or view-split pair. -/
def State.paired (s : State) : Bool :=
  s.chain.chained && (s.fld Reg.CHAIN_STAT 3 2 == 1 || s.fld Reg.CHAIN_STAT 3 2 == 2)
/-- This member is acting master (R382). -/
def State.isActing (s : State) : Bool := s.bit Reg.CHAIN_STAT 5
/-- This member is pair lead (R382). -/
def State.isLead (s : State) : Bool := s.bit Reg.CHAIN_STAT 6
/-- This member forwards writes to `a`, or need not: the register is local to it (R388). -/
def State.forwards (s : State) (a : Nat) : Bool :=
  if !s.chain.chained then true
  else match mirrorScope a with
    | 1 => s.isActing
    | 2 => !s.paired || s.isLead
    | _ => true

/-! ## Causes that refuse a write (Table 20-2) -/

/-- A cause of Table 20-2, in its order. -/
inductive Cause where
  | early
  | blockBusy (code : Nat)
  | unpowered
  | needleMode
  | unmapped
  | size
  | notMaster
  | descOwned (ply : Nat)
  | locked
  | encoding
  /-- a refusal of rank 8 with an event of its own: code and arguments (R424) -/
  | own (code : Nat) (args : List Nat)
  deriving DecidableEq, Repr

/-- Descriptor that an address belongs to. -/
def descOf (a : Nat) : Option Nat :=
  if Reg.PLY_DESC_BASE_LO 0 ≤ a ∧ a < Reg.PLY_DESC_BASE_LO 64 then some ((a - Reg.PLY_DESC_BASE_LO 0) / 64) else none

/-- The playing skein owns descriptor `n` (R322). -/
def State.descOwned (s : State) (n : Nat) : Bool :=
  s.fld Reg.STORE_STAT 0 2 == 3 &&
    match s.store.skein with
    | some k => k.extent.getD n 0 != 0
    | none => false

/-- Refusals of rank 8 that raise an event of their own (R229, R252, R355). -/
def State.ownCause (s : State) (req : Requester) (a : Nat) (w : Word) : Option Cause :=
  if Reg.EMIT_STRIP_BUF 0 ≤ a ∧ a < Reg.EMIT_STRIP_BUF 65536 then
    (if s.bit Reg.EMIT_STRIP_STAT 0 then some (.own Ev.EMIT_STRIP_BUSY [a]) else none)
  else if Reg.TIME_CMP 0 0 ≤ a ∧ a < Reg.TIME_CMP 8 0 then
    let n := (a - Reg.TIME_CMP 0 0) / 32
    if s.bit Reg.TIME_CMP_ALLOC_STAT (16 + n) then none
    else some (.own Ev.TIME_CONFLICT [2, if req == .host then 1 else 2, a])
  else if Reg.LANE_CFG 0 ≤ a ∧ a < Reg.LANE_CFG 304 ∧ a / 4 % 8 = 4 ∧ (w.bit 2 ∨ w.bit 3) then
    let l := (a - Reg.LANE_CFG 0) / 32
    let g := laneGroup l
    let why :=
      if g ≤ 1 then (if s.modeCode = Mode.SERVICE ∧ !s.mode.serviceSafe then 0 else 1)
      else if g = 2 then (if s.bit (Reg.CHAIN_PORT_CFG ((l - 0x100) / 4)) 0 then 2 else 0)
      else if g = 3 then (if s.bit (Reg.NET_PORT_CFG ((l - 0x110) / 4)) 0 then 2 else 0)
      else if g = 5 then (if s.bit Reg.STORE_CFG ((l - 0x128) / 4) then 2 else 0)
      else 3
    if why = 0 ∨ !validLink s req a w then none else some (.own Ev.LANE_TEST_REFUSED [l, why])
  else none

/-- The first cause of Table 20-2 that refuses a write (R424); none when it is carried out. -/
def writeCause (s : State) (req : Requester) (a size : Nat) (w : Word) : Option Cause :=
  if !s.ready && req == .host && !(s.earlyReadable a && (blockOf a == 1 || blockOf a == 4)) then some .early
  else match s.resetOver a with
    | some c => some (.blockBusy c)
    | none =>
      if !s.blockAnswers a then some (if blockOf a = 13 then .needleMode else .unpowered)
      else if size ≠ 4 ∨ a % 4 ≠ 0 then some .size
      else match findReg a with
        | none => some .unmapped
        | some d =>
          -- a write of an RO register is ignored, with no event (R6)
          if d.access == .ro then none
          else if (req == .host || req == .pattern || req == .yarn) && !s.forwards a then some .notMaster
          else
            let owned := (descOf a).filter fun n => (req == .host || req == .pattern || req == .yarn) && s.descOwned n
            match owned with
            | some n => some (.descOwned n)
            | none =>
              if d.access == .rwx && !s.bit Reg.GLB_EXPERT_STAT 0 && req != .pattern && req != .chain then some .locked
              else match s.ownCause req a (w &&& writeMask a) with
                | some c => some c
                | none => if validWrite s req a (w &&& writeMask a) then none else some .encoding

/-- Count a refused host access and raise EARLY_ACCESS at its limited rate (R65, R431). -/
def State.earlyAccess (s : State) (bar off : Nat) : State :=
  let s := s.incFld Reg.CLKRST_EARLY_CNT 0 16 1
  if limited s.caston.earlyAt (ms 1) s.now then
    { s with caston := { s.caston with earlySuppressed := s.caston.earlySuppressed + 1 } }
  else
    ({ s with caston := { s.caston with earlyAt := some s.now, earlySuppressed := 0 } }).raise Ev.EARLY_ACCESS
      [bar, off, s.caston.earlySuppressed]

/-- The event of a refused write (R423 to R425). -/
def State.refuse (s : State) (req : Requester) (a : Nat) (w : Word) (c : Cause) : State :=
  match c with
  | .early => s.earlyAccess 0 a
  | .blockBusy code => s.raise Ev.BLOCK_BUSY [code, 2, a]
  | .unpowered => s.raise Ev.WRITE_REFUSED [a, 2, req.code, w.toNat]
  | .needleMode => s.raise Ev.NEEDLE_REJECTED [0, 1, a]
  | .unmapped => s.raise Ev.WRITE_REFUSED [a, 3, req.code, w.toNat]
  | .size => s.raise Ev.WRITE_REFUSED [a, 4, req.code, w.toNat]
  | .notMaster => s.raise Ev.CHAIN_NOT_MASTER [a, req.code]
  | .descOwned n =>
    if s.store.owned.contains n then s
    else ({ s with store := { s.store with owned := n :: s.store.owned } }).raise Ev.STORE_DESC_OWNED [n, req.code]
  | .locked => s.raise Ev.EXPERT_LOCKED [a]
  | .encoding => s.raise Ev.WRITE_REFUSED [a, 1, req.code, w.toNat]
  | .own code args => s.raise code args

end Sys2Proof.Machine
end

