-- ==== Sys2Proof/Machine/Flags.lean ====
section
/-! DEFINITION.  Status fields that are computed from other state, and the preconditions
and conditions that several chapters ask for. -/

namespace Sys2Proof.Machine

/-! ## Panel link and lanes -/

/-- State of one tile. -/
def State.tileState (s : State) (t : Nat) : TileState := (mapGet s.spk.tiles t).getD {}
/-- Set the state of one tile. -/
def State.setTile (s : State) (t : Nat) (x : TileState) : State :=
  { s with spk := { s.spk with tiles := mapPut s.spk.tiles t x } }
/-- A tile is enumerated. -/
def State.enumerated (s : State) (t : Nat) : Bool := s.bit (Reg.SPK_TILE_STAT t) 0
/-- Tiles of the roster, by number. -/
def State.tiles (s : State) : List Nat := List.range s.roster.length

/-- ENUM_CNT, ROSTER_CNT and PANEL_READY of SPK_STAT (Table 9-10). -/
def State.refreshSpk (s : State) : State :=
  let n := (s.tiles.filter s.enumerated).length
  s.setReg Reg.SPK_STAT (Word.ofNat (n + s.roster.length * 2 ^ 8
    + bitOf (s.bit Reg.SEC_STAT 2 && n == s.roster.length) * 2 ^ 16))

/-- Roster tiles of a zone, in roster order. -/
def State.zoneTiles (s : State) (z : Nat) : List Nat := s.tiles.filter fun t => ((s.tile t).map (·.zone)) == some z

/-- An input of the thermistor ADC. -/
def State.thm (s : State) (n : Nat) : ThmState := s.emit_.thm.getD n {}

/-- Highest recent TEMP0 among a zone's enumerated tiles (R239). -/
def State.tileTemp (s : State) (z : Nat) : Option Int :=
  (s.zoneTiles z).foldl (fun best t =>
    match (s.tileState t).temp with
    | some (v, c) =>
      if s.enumerated t && decide (s.now ≤ c + ms 100) then
        (match best with
         | some b => some (max b v)
         | none => some v)
      else best
    | none => best) none

/-- The source of a zone's temperature, coded as SOURCE, and the temperature (R239). -/
def State.zoneTemp (s : State) (z : Nat) : Nat × Option Int :=
  if (s.zoneTiles z).isEmpty then (3, none)
  else if (s.thm z).valid then (0, some (signed 16 (s.fld (Reg.EMIT_THM z) 0 16)))
  else match s.tileTemp z with
    | some v => (1, some v)
    | none => (2, none)

/-- EMIT_ZONE_STAT of a zone with the source in use and its temperature as they are now (R239). -/
def State.zoneShown (s : State) (a z : Nat) : Word :=
  let r := s.zoneTemp z
  let w := (s.reg a).put 4 2 r.1
  match r.2 with
  | some v => w.put 8 16 (unsigned 16 v)
  | none => w

/-- LANE_PRBS_ERR of a lane: the errors it holds and those the locked checker has counted since, those of this cycle among them;
saturating (R228, R231). -/
def State.prbsErrors (s : State) (l : Nat) : Nat :=
  let new := match (mapGet s.lanes.lanes l).bind (·.countAt) with
    | some c => ((List.range (s.now + 1 - c)).map fun i => Config.prbsErrors l (c + i)).sum
    | none => 0
  satTo (2 ^ 32 - 1) (s.nat (Reg.LANE_PRBS_ERR l) + new)

/-- A register whose read measures something shows it, GLB_REV shows the part's grade (R469); the others show what they hold. -/
def State.shown (s : State) (a : Nat) : Word :=
  if Reg.EMIT_ZONE_STAT 0 ≤ a ∧ a ≤ Reg.EMIT_ZONE_STAT 15 then s.zoneShown a ((a - Reg.EMIT_ZONE_STAT 0) / 4) else
  if Reg.LANE_PRBS_ERR 0 ≤ a ∧ a ≤ Reg.LANE_PRBS_ERR 303 ∧ a % 32 = 0x14 then Word.ofNat (s.prbsErrors ((a - Reg.LANE_PRBS_ERR 0) / 32)) else
  if a = Reg.GLB_REV then (s.reg a).put 16 4 (bitOf (s.part == .e24)) else
  if a = Reg.LANE_LOOP_STAT ∧ s.fld a 0 3 ≠ 0 then (s.reg a).put 16 16 (Config.loopOffset s.now).toNat else s.reg a

/-- What a host read of a register returns (R6, R8, R51, R65, R423); reads with an effect of their own have a row, and TRAF_CREDIT
reads as State.creditRead. -/
def State.readReg (s : State) (a size : Nat) : Word :=
  if size ≠ 4 ∨ a % 4 ≠ 0 then 0xFFFFFFFF
  else if !s.ready && !s.earlyReadable a then 0xFFFFFFFF
  else if (s.resetOver a).isSome then 0xFFFFFFFF
  else if !s.blockAnswers a then 0xFFFFFFFF
  else match findReg a with
    | none => 0
    | some d => match d.access with
      | .wo => 0
      | .rws => s.latest a
      | _ => s.shown a

/-- STATE of a lane. -/
def State.laneStage (s : State) (l : Nat) : Nat := s.fld (Reg.LANE_STATE l) 0 4
/-- A lane is UP. -/
def State.laneUp (s : State) (l : Nat) : Bool := s.laneStage l == 8
/-- Number of lanes UP among `n` from `lo`. -/
def State.upCount (s : State) (lo n : Nat) : Nat := ((List.range n).filter fun i => s.laneUp (lo + i)).length
/-- All four lanes of chain port `p` are UP. -/
def State.portLanesUp (s : State) (p : Nat) : Bool := s.upCount (0x100 + 4 * p) 4 == 4

/-- A change of an Ethernet port's link level waits 10 ms to settle; a return to the level before ends the wait (R363). -/
def State.noteLink (s : State) (p : Nat) : State :=
  let up := s.upCount (0x110 + 4 * p) 4 == 4
  let was := s.bit Reg.LANE_STAT (20 + p)
  if up = was then s
  else if s.net.change.any fun x => x.1 == p then
    { s with net := { s.net with change := s.net.change.filter fun x => x.1 != p } }
  else { s with net := { s.net with change := s.net.change ++ [(p, s.now, was)] } }

/-- LANE_STAT (Table 10-6) and NET_PORT_STAT (Table 16-6). -/
def State.refreshLanes (s : State) : State :=
  let s := (s.noteLink 0).noteLink 1
  let s := s.each [0, 1] fun s p =>
    let up := s.upCount (0x110 + 4 * p) 4 == 4
    s.setReg (Reg.NET_PORT_STAT p) (Word.ofNat (bitOf up + 2 * bitOf (up && s.bit (Reg.NET_PORT_CFG p) 1)))
  s.setReg Reg.LANE_STAT (Word.ofNat (s.upCount 0 128 + s.upCount 0x80 128 * 2 ^ 8
    + ofBits ((List.range 4).filter s.portLanesUp) * 2 ^ 16
    + bitOf (s.upCount 0x110 4 == 4) * 2 ^ 20 + bitOf (s.upCount 0x114 4 == 4) * 2 ^ 21
    + bitOf (s.upCount 0x118 16 != 0) * 2 ^ 22
    + bitOf (s.upCount 0x128 4 != 0) * 2 ^ 23 + bitOf (s.upCount 0x12C 4 != 0) * 2 ^ 24))

/-- State of one lane beside its registers. -/
def State.lane (s : State) (l : Nat) : LaneState := (mapGet s.lanes.lanes l).getD {}
def State.setLane (s : State) (l : Nat) (x : LaneState) : State :=
  { s with lanes := { s.lanes with lanes := mapPut s.lanes.lanes l x } }

/-- A forward lane is no longer UP: the runs of R211 that need it end. -/
def State.endRuns (s : State) (l : Nat) : State :=
  match s.tileOfLane l with
  | some k => s.setTile k { s.tileState k with noLock := none, blanked := none }
  | none => s

/-- A lane enters a stage: STATE, the counts that follow from it, and the stage's begin. -/
def State.setStage (s : State) (l v : Nat) : State :=
  let s := if v ≠ 8 ∧ s.laneUp l then s.endRuns l else s
  ((s.setLane l { s.lane l with stageAt := s.now, polAt := s.now }).setFld (Reg.LANE_STATE l) 0 4 v).refreshLanes

/-! ## Preconditions of Table 2-2 -/

/-- Panel ready. -/
def State.panelReady (s : State) : Bool := s.bit Reg.SPK_STAT 16
/-- Store ready. -/
def State.storeReady (s : State) : Bool := s.bit Reg.STORE_STAT 2
/-- Live source armed (R338). -/
def State.liveArmed (s : State) : Bool := s.fld Reg.PLY_LIVE 0 17 != 0
/-- Band configured (R251). -/
def State.bandConfigured (s : State) : Bool := !(bandOf (s.latest Reg.EMIT_STRIP_TILES)).isEmpty
/-- A wake source is enabled. -/
def State.wakeEnabled (s : State) : Bool := s.fld Reg.PWR_DEEP_CFG 8 2 != 0
/-- Security operations that SERVICE alone offers (R92). -/
def serviceOp (op : Nat) : Bool := [2, 3, 4, 5, 6, 8, 9].contains op
/-- A service operation runs: an update, a margin re-plan, a memory test (Table 2-1). -/
def State.serviceRunning (s : State) : Bool :=
  (s.bit Reg.SEC_CMD_STAT 8 && serviceOp (s.fld Reg.SEC_CMD_STAT 0 8)) ||
  s.bit Reg.HLTH_STAT 6 || s.bit Reg.HBM_STAT 7

/-- Precondition code of R42 that fails for a transition from `from_` to `dest`; 0 when all hold (Table 2-2). -/
def State.precondition (s : State) (from_ dest : Nat) : Nat :=
  if isDelivering dest then
    if !s.panelReady then 1
    else if dest = Mode.SHOW ∧ !s.storeReady then 2
    else if dest = Mode.LIVE ∧ !s.liveArmed then 3
    else 0
  else if from_ = Mode.SERVICE ∧ dest = Mode.IDLE ∧ s.serviceRunning then 4
  else if dest = Mode.STRIP ∧ !s.bandConfigured then 5
  else if dest = Mode.DEEP ∧ !s.wakeEnabled then 6
  else 0

/-- Table 2-2 lists `dest` for the mode `from_`; SAFE to SAFE is R34's. -/
def listed (from_ dest : Nat) : Bool :=
  if dest = Mode.SAFE then 2 < from_
  else if from_ = Mode.IDLE then isDelivering dest || [Mode.SERVICE, Mode.BIND_OFF, Mode.STRIP, Mode.DEEP].contains dest
  else if isDelivering from_ then
    (isDelivering dest && dest != from_) || [Mode.IDLE, Mode.BIND_OFF, Mode.STRIP, Mode.DEEP].contains dest
  else if from_ = Mode.SERVICE then [Mode.IDLE, Mode.BIND_OFF, Mode.STRIP, Mode.DEEP].contains dest
  else if from_ = Mode.BIND_OFF then [Mode.IDLE, Mode.STRIP, Mode.DEEP].contains dest
  else if from_ = Mode.STRIP then [Mode.IDLE, Mode.BIND_OFF, Mode.DEEP].contains dest
  else if from_ = Mode.SAFE then [Mode.IDLE, Mode.DEEP, Mode.SERVICE].contains dest
  else false

/-- Transitions that take effect at a frame boundary (R29). -/
def atBoundary (from_ dest : Nat) : Bool := isDelivering dest || (isDelivering from_ && dest == Mode.IDLE)

/-- Transitions that pass through BIND-OFF (R31). -/
def throughBindOff (from_ dest : Nat) : Bool :=
  ([Mode.BIND_OFF, Mode.STRIP, Mode.DEEP].contains dest && (from_ == Mode.IDLE || isDelivering from_ || from_ == Mode.SERVICE)) ||
  (from_ == Mode.STRIP && (dest == Mode.BIND_OFF || dest == Mode.DEEP))

/-- A frame cadence runs: IDLE, SERVICE with a lit link, the delivering modes, and BIND-OFF until the black flip (R31, R250). -/
def State.cadenceRuns (s : State) : Bool := s.frame.cadence.isSome

/-! ## Chain -/

/-- Own chain ID. -/
def State.chainId (s : State) : Nat := s.fld Reg.CLKRST_STRAP 4 3
/-- Roster entry of a member. -/
def State.member (s : State) (id : Nat) : Option ChainEntry := s.sec.pattern.chain.find? fun e => e.id == id
/-- Own roster entry. -/
def State.me (s : State) : Option ChainEntry := s.member s.chainId
/-- Pair partner. -/
def State.partnerId (s : State) : Option Nat :=
  if s.paired then s.me.map (·.partner) else none
/-- Members of the roster, by ID. -/
def State.members (s : State) : List Nat := s.sec.pattern.chain.map (·.id)
/-- Chain ID at the far end of port `p` of member `e`. -/
def peerFar (e : ChainEntry) (p : Nat) : Option Nat :=
  match e.peer[p]? with
  | some q => if q = 0xFF then none else some q
  | none => none
/-- Chain port of member `e` toward member `d` (ROUTE). -/
def routeToward (e : ChainEntry) (d : Nat) : Nat := e.route / 4 ^ d % 4
/-- Peers of this device: port, chain ID. -/
def State.peerPorts (s : State) : List (Nat × Nat) :=
  match s.me with
  | none => []
  | some e => (List.range 4).filterMap fun p => (peerFar e p).map fun q => (p, q)
/-- Joined to its chain. -/
def State.joined (s : State) : Bool := s.bit Reg.CHAIN_STAT 7

/-- This member sends nothing to the panel but TIME: it has not joined a delivering pair, or withdrew quietly (R32, R64). -/
def State.silent (s : State) : Bool :=
  s.chain.quiet || (s.paired && !s.joined && (s.ready || s.chain.partner.any fun h => isDelivering h.mode))

/-- Mode at the end of cast-on: WAKE_TARGET after a wake, else TARGET of the option block (R41, R61). -/
def State.castTarget (s : State) : Nat := s.caston.wakeTarget.getD s.caston.opts.target

/-! ## Health log -/

/-- One 64-byte record of HLTH_LOG (R416). -/
def State.healthLog (s : State) (kind : Nat) (values : List Nat) : State :=
  let p := s.health.logPos
  let hour := s.fld Reg.HLTH_AGE 20 12
  let s := s.each (List.range 16) fun s i => s.setNat (Reg.HLTH_LOG (16 * (p % 1024) + i)) (Config.logWord kind hour values i)
  { s with health := { s.health with logPos := (p + 1) % 1024 } }

/-- A temperature in a signed 8.8 field: beyond its range, which R419 does not keep it within, the field is a free value. -/
def State.setTemp (s : State) (a lo : Nat) (v : Int) : State :=
  if -32768 ≤ v ∧ v ≤ 32767 then s.setFld a lo 16 (unsigned 16 v) else (s.setFld a lo 16 (Config.tempField s.fresh).toNat).useFresh

/-- Throttle step 2 is entered: flattening and compressors are held (R407). -/
def State.step2 (s : State) : Bool := s.health.want == 2

/-! ## HBM access -/

/-- The stack is accessible to the endpoint: PD55–PD62 on and not in self-refresh in SAFE (R337). -/
def State.hbmUsable (s : State) : Bool :=
  s.domainOn 55 && !(s.selfRefresh && s.modeCode == Mode.SAFE)

/-- DPORT_STAT.HBM_OFF in force. -/
def State.hbmOffPeriod (s : State) : Bool := s.dport.period.isSome

end Sys2Proof.Machine
end

