-- ==== Sys2Proof/Machine/Line.lean ====
section
/-! DEFINITION.  The line of a panel forward or chain transmitter (R183 to R185, R383): its block slots with markers and SKIP, the
scrambler, the RS(544,514) codewords and their PAM4 symbols, error injection (R230), and the test generators (R228). -/

namespace Sys2Proof.Machine

/-- Split a list into runs of at most `n` (fuel: the list's length). -/
def chunksAux {α : Type} (n : Nat) : Nat → List α → List (List α)
  | 0, _ => []
  | _, [] => []
  | f + 1, x :: xs => (x :: xs).take n :: chunksAux n f ((x :: xs).drop n)

def chunks {α : Type} (n : Nat) (l : List α) : List (List α) := chunksAux n l.length l

/-! ## Block slots (R184, R185) -/

/-- Slot `n` holds an alignment marker: slot 0 of every sixth codeword. -/
def markerSlot (n : Nat) : Bool := n % 120 == 0

/-- Slot `n` holds SKIP: each slot 4,095 modulo 4,096, or the next where that is a marker's. -/
def skipSlot (n : Nat) : Bool :=
  (n % 4096 == 4095 && !markerSlot n) || (n != 0 && (n - 1) % 4096 == 4095 && markerSlot (n - 1))

/-- The first slot from `n` on that is neither a marker's nor SKIP's, among the next `k`. -/
def payloadSlotIn : Nat → Nat → Nat
  | 0, n => n
  | k + 1, n => if markerSlot n || skipSlot n then payloadSlotIn k (n + 1) else n

/-- The first payload slot from `n` on: a marker and SKIP may follow each other. -/
def payloadSlot (n : Nat) : Nat := payloadSlotIn 4 n

/-- The first payload slot from `n` on that is not among `taken`, which each can move it once. -/
def freeSlot (taken : List Nat) (n : Nat) : Nat :=
  (List.range taken.length).foldl (fun k _ => if taken.contains k then payloadSlot (k + 1) else k) (payloadSlot n)

/-- Payload of the marker with count `c`; the first one's is 0 (log entry 174). -/
def markerPayload (c : Nat) : List Byte :=
  leBytes 32 (0x9A4FC12665B03ED9 * 2 ^ 8 + 0x65B03ED99A4FC126 * 2 ^ 72 + c % 2 ^ 16 * 2 ^ 136)

/-- Header and payload of slot `n`: a marker, SKIP, the block placed there, or IDLE (Table 9-2). -/
def LaneState.slot (x : LaneState) (n : Nat) : Bool × List Byte :=
  if markerSlot n then (true, markerPayload (n / 120))
  else if skipSlot n then (true, leBytes 32 2)
  else (mapGet x.placed n).getD (true, leBytes 32 1)

/-- Slots begun `d` cycles after the first marker, at the nominal 195,312,500 per second (Table 9-1). -/
def slotsBegun (d : Nat) : Nat := (125 * d + 255) / 256

/-- The first slot of a lane that is still to come, where its transmitter runs. -/
def State.slotNow (s : State) (l : Nat) : Option Nat := (s.lane l).first.map fun c => slotsBegun (s.now - c)

/-- The corruption that a LANE_INJ word starts from codeword `k` on. -/
def injectionFrom (w : Word) (k : Nat) : List InjectRun :=
  if w.field 0 5 = 0 then [] else [{ from_ := k, symbols := w.field 0 5, count := w.field 5 11, every := w.field 16 16 }]

/-- A lane's transmitter runs from here with its first marker, unless it does. -/
def State.startTx (s : State) (l : Nat) : State :=
  if (s.lane l).first.isSome then s
  else s.setLane l { s.lane l with first := some s.now, placed := [], nextSlot := 0, taken := [], inject := injectionFrom (s.reg (Reg.LANE_INJ l)) 0 }

/-- A lane's transmitter ends. -/
def State.stopTx (s : State) (l : Nat) : State := s.setLane l { s.lane l with first := none, placed := [], nextSlot := 0, taken := [], inject := [] }

/-- A block goes into the next payload slot of a lane whose transmitter runs. -/
def State.putSlot (s : State) (l : Nat) (h : Bool) (b : List Byte) : State :=
  match s.slotNow l with
  | none => s
  | some k =>
    let x := s.lane l
    let n := freeSlot x.taken (max k x.nextSlot)
    s.setLane l { x with placed := x.placed ++ [(n, h, b)], nextSlot := n + 1, taken := x.taken.filter (n < ·) }

/-- A control block goes into the first free slot of a lane from cycle `c` on, ahead of its turn. -/
def State.putSlotAt (s : State) (l c : Nat) (b : List Byte) : State :=
  let x := s.lane l
  match x.first with
  | none => s
  | some c0 =>
    let n := freeSlot x.taken (max (slotsBegun (c - c0)) x.nextSlot)
    s.setLane l { x with placed := x.placed ++ [(n, true, b)], taken := x.taken ++ [n] }

/-- A block of chain port `p` goes into the next slot of its slot groups, in lane order (R383). -/
def State.putGroup (s : State) (p : Nat) (h : Bool) (b : List Byte) : State :=
  let ls := (List.range 4).map (0x100 + 4 * p + ·)
  let gone := (ls.filterMap s.slotNow).foldl max 0
  let best := (ls.map fun l => (payloadSlot (max gone (s.lane l).nextSlot), l)).foldl
    (fun (r : Option (Nat × Nat)) x => match r with
      | none => some x
      | some y => if x.1 < y.1 then some x else r) none
  match best with
  | none => s
  | some (n, l) =>
    if (ls.filterMap s.slotNow).length < 4 then s
    else s.setLane l { s.lane l with placed := (s.lane l).placed ++ [(n, h, b)], nextSlot := n + 1 }

/-- A block is sent on a chain port. -/
def State.sendGroup (s : State) (p : Nat) (h : Bool) (b : List Byte) : State := (s.putGroup p h b).emit (.chain p b)

/-! ## Codewords (R183) -/

/-- The scrambler 1 + x^39 + x^58 on one bit: its last 58 output bits, newest lowest, and the bit sent. -/
def scrambleBit (st : Nat) (b : Bool) : Nat × Bool :=
  let o := b ^^ (st.testBit 38 ^^ st.testBit 57)
  ((2 * st + bitOf o) % 2 ^ 58, o)

/-- The scrambler on a run of bits. -/
def scramble (st : Nat) : List Bool → Nat × List Bool
  | [] => (st, [])
  | b :: bs =>
    let r := scrambleBit st b
    let t := scramble r.1 bs
    (t.1, r.2 :: t.2)

/-- Payload bits [255:0], bit 0 first. -/
def payloadBits (b : List Byte) : List Bool := (List.range 256).map (leNat b).testBit

/-- The 257 bits of slot `n` as sent, from the scrambler's contents before it; a marker passes unscrambled. -/
def LaneState.slotBits (x : LaneState) (st n : Nat) : Nat × List Bool :=
  let b := x.slot n
  let bits := payloadBits b.2
  if markerSlot n then (st, b.1 :: bits)
  else
    let r := scramble st bits
    (r.1, b.1 :: r.2)

/-- The scrambler's contents before slot `n`. -/
def LaneState.scramblerAt (x : LaneState) (seed : Nat) : Nat → Nat
  | 0 => seed % 2 ^ 58
  | n + 1 => (x.slotBits (x.scramblerAt seed n) n).1

/-- Bits as 10-bit symbols, the first bit lowest. -/
def symbolsOf (bits : List Bool) : List Nat :=
  (chunks 10 bits).map fun c => ofBits ((List.range 10).filter fun i => c.getD i false)

/-- The 514 message symbols of codeword `k`: 20 blocks of 257 bits. -/
def LaneState.message (x : LaneState) (seed k : Nat) : List Nat :=
  symbolsOf ((List.range 20).flatMap fun i => (x.slotBits (x.scramblerAt seed (20 * k + i)) (20 * k + i)).2)

/-- Product in GF(2^10) with x^10 + x^3 + 1. -/
def gfMul (a b : Nat) : Nat :=
  (List.range 10).foldl (fun acc i =>
    let d := if 512 ≤ acc then 2 * acc ^^^ 0x409 else 2 * acc
    if a.testBit (9 - i) then d ^^^ b else d) 0

/-- α to the power `n`. -/
def gfPow : Nat → Nat
  | 0 => 1
  | n + 1 => gfMul 2 (gfPow n)

/-- The generator polynomial of RS(544,514), highest power first: the product of x − α^j for j from 0 to 29. -/
def rsGenerator : List Nat :=
  (List.range 30).foldl (fun g j => List.zipWith (fun a b => a ^^^ b) (g ++ [0]) (0 :: g.map (gfMul (gfPow j)))) [1]

/-- The 30 parity symbols of a message: the remainder by the generator. -/
def rsParity (m : List Nat) : List Nat :=
  m.foldl (fun r x =>
    let f := x ^^^ r.headD 0
    List.zipWith (fun a b => a ^^^ b) (r.drop 1 ++ [0]) ((rsGenerator.drop 1).map (gfMul f))) (List.replicate 30 0)

/-- Gray coding of a pair of bits, the first the most significant. -/
def grayLevel (a b : Bool) : Nat := if a then (if b then 2 else 3) else bitOf b

/-- The PAM4 levels of a codeword's symbols, the lowest bit first. -/
def pam4 (symbols : List Nat) : List Nat :=
  (chunks 2 (symbols.flatMap fun v => (List.range 10).map v.testBit)).map fun c => grayLevel (c.getD 0 false) (c.getD 1 false)

/-! ## Error injection (R230) -/

/-- Symbols that a run inverts in codeword `k`: every EVERY-th one it counts, COUNT of them, or without end for 0. -/
def InjectRun.symbolsIn (r : InjectRun) (k : Nat) : Nat :=
  let d := k + 1 - r.from_
  if r.from_ ≤ k ∧ d % r.every = 0 ∧ (r.count = 0 ∨ d / r.every ≤ r.count) ∧ r.until_.all (k < ·) then r.symbols else 0

/-- `n` different symbols of block slots 10 to 19, which are symbols 257 to 513. -/
def injectedSymbols (l k : Nat) : Nat → List Nat → List Nat
  | 0, _ => []
  | n + 1, pool =>
    match pool[Config.injectedSymbol l k n % pool.length]? with
    | none => []
    | some v => v :: injectedSymbols l k n (pool.erase v)

/-- Codeword `k` of a lane as it leaves the device: message and parity, with the injected symbols inverted after the coding. -/
def State.codeword (s : State) (l k : Nat) : List Nat :=
  let x := s.lane l
  let m := x.message (Config.scramblerSeed l) k
  let hit := injectedSymbols l k ((x.inject.map fun r => r.symbolsIn k).foldl max 0) ((List.range 257).map (· + 257))
  ((m ++ rsParity m).zipIdx).map fun v => if hit.contains v.2 then v.1 ^^^ 1023 else v.1

/-- The PAM4 levels of codeword `k` at the balls, with TX_INV (R221). -/
def State.lineLevels (s : State) (l k : Nat) : List Nat :=
  (pam4 (s.codeword l k)).map fun v => if s.bit (Reg.LANE_STATE l) 4 then 3 - v else v

/-- LANE_INJ is written: what runs ends before the codeword after the one being sent, from which a new run counts (R230, R231). -/
def State.setInjection (s : State) (l : Nat) (w : Word) : State :=
  match s.slotNow l with
  | none => s
  | some n =>
    let k := (n + 19) / 20
    let old := (s.lane l).inject.map fun r => if r.until_.isNone then { r with until_ := some k } else r
    s.setLane l { s.lane l with inject := old ++ injectionFrom w k }

/-! ## Test generators (R228) -/

/-- Degree and tap of PATTERN. -/
def prbsTaps (pattern : Nat) : Nat × Nat := if pattern = 0 then (7, 6) else if pattern = 1 then (15, 14) else (31, 28)

/-- One bit of a generator: its new contents, newest bit lowest, and the bit. -/
def prbsStep (pattern st : Nat) : Nat × Bool :=
  let t := prbsTaps pattern
  let o := st.testBit (t.1 - 1) ^^ st.testBit (t.2 - 1)
  ((2 * st + bitOf o) % 2 ^ t.1, o)

/-- Contents of a generator before bit `n`; no generator starts from 0. -/
def prbsState (pattern seed : Nat) : Nat → Nat
  | 0 => 1 + seed % (2 ^ (prbsTaps pattern).1 - 1)
  | n + 1 => (prbsStep pattern (prbsState pattern seed n)).1

/-- Line bits of a group per control cycle, as a ratio (Table 10-1). -/
def lineRate (g : Nat) : Nat × Nat :=
  match g with
  | 0 => (2125, 16)
  | 1 => (25, 8)
  | 2 => (2125, 16)
  | 3 => (4125, 64)
  | _ => (Config.nvmeTestBits + 1, 1)

/-- Bits of a lane begun in `d` cycles. -/
def bitsBegun (l d : Nat) : Nat := (d * (lineRate (laneGroup l)).1 + (lineRate (laneGroup l)).2 - 1) / (lineRate (laneGroup l)).2

/-- Bit `n` is one that a run of errors inverts (R230). -/
def BitError.hits (e : BitError) (n : Nat) : Bool :=
  e.until_.all (n < ·) && (n == e.bit || (e.every != 0 && decide (e.bit ≤ n) && (n - e.bit) % e.every == 0))

/-- Bit `n` that a lane's generator sends. -/
def State.generated (s : State) (l n : Nat) : Bool :=
  let p := s.fld (Reg.LANE_TEST l) 0 2
  (prbsStep p (prbsState p (Config.prbsSeed l) n)).2 ^^ (s.lane l).genErrors.any fun e => e.hits n

/-- LANE_TEST is written: the generator begins, goes on or ends; INJ puts an error into the next bit, or from it one into each
2^20 (R228, R230). -/
def State.setGenerator (s : State) (l : Nat) (old w : Word) : State :=
  let x := s.lane l
  if !w.bit 2 then s.setLane l { x with genAt := none, genErrors := [] }
  else
    let on := x.genAt.isSome && old.field 0 2 == w.field 0 2
    let start := if on then x.genAt.getD s.now else s.now
    let n := bitsBegun l (s.now - start)
    let errors := if on then x.genErrors.map fun e => if e.until_.isNone && e.every != 0 then { e with until_ := some n } else e else []
    let new : List BitError := match w.field 4 2 with
      | 1 => [⟨n, 0, none⟩]
      | 2 => [⟨n, 2 ^ 20, none⟩]
      | _ => []
    s.setLane l { x with genAt := some start, genErrors := errors ++ new }

/-- The checker's bit errors so far go into LANE_PRBS_ERR, and none is counted from here on. -/
def State.foldErrors (s : State) (l : Nat) : State :=
  (s.setNat (Reg.LANE_PRBS_ERR l) (s.prbsErrors l)).setLane l { s.lane l with countAt := none }

/-- The checker begins, goes on or ends; a new pattern makes it lock anew (R228). -/
def State.setChecker (s : State) (l : Nat) (old w : Word) : State :=
  let on := old.bit 3 && w.bit 3 && old.field 0 2 == w.field 0 2
  if on then s.setBit (Reg.LANE_TEST l) 8 (old.bit 8)
  else
    let s := (s.foldErrors l).setBit (Reg.LANE_TEST l) 8 false
    s.setLane l { s.lane l with chkAt := if w.bit 3 then some s.now else none }

end Sys2Proof.Machine
end

