-- ==== Sys2Proof/Machine/ChainLink.lean ====
section
/-! DEFINITION.  Packets and blocks of the chain ports (R383 to R385): data blocks with
their SEQ and parity, the replay buffer, held packets and routing. -/

namespace Sys2Proof.Machine

/-- Header word of a packet: DEST, ALL, KIND and the count of words that follow (R383). -/
def chainHeader (dest : Nat) (all : Bool) (kind count : Nat) : Word :=
  Word.ofNat (dest % 8 + 8 * bitOf all + 16 * (kind % 16) + 256 * count)

/-- A packet of KIND `kind`. -/
def mkPacket (dest : Nat) (all : Bool) (kind : Nat) (body : List Word) : Packet :=
  ⟨chainHeader dest all kind body.length :: body⟩

def Packet.header (p : Packet) : Word := p.words.headD 0
def Packet.dest (p : Packet) : Nat := p.header.field 0 3
def Packet.all (p : Packet) : Bool := p.header.bit 3
def Packet.kind (p : Packet) : Nat := p.header.field 4 4
def Packet.body (p : Packet) : List Word := p.words.drop 1

/-- Traffic class of a KIND; none for a KIND that is discarded (R383). -/
def kindClass (k : Nat) : Option Nat :=
  if [1, 2, 3, 5, 6, 9].contains k then some 0 else if [4, 7, 8].contains k then some 1 else none

/-- Even parity of a word: 1 when it holds an odd number of ones. -/
def wordParity (w : Word) : Nat := (bitsOf 32 w.toNat).length % 2

/-- Payload of a data block (R383). -/
def dataBlock (ws : List Word) (sop : Bool) (seq : Nat) : List Byte :=
  leBytes 32 (((List.range 7).map fun k => (ws.getD k 0).toNat * 2 ^ (32 * k) + wordParity (ws.getD k 0) * 2 ^ (224 + k)).sum
    + bitOf sop * 2 ^ 231 + seq % 2 ^ 16 * 2 ^ 232)

/-- The seven words of a received data block, its SOP and SEQ, and whether every parity bit is right. -/
def parseDataBlock (b : List Byte) : List Word × Bool × Nat × Bool :=
  let v := leNat b
  let ws := (List.range 7).map fun k => Word.ofNat (v / 2 ^ (32 * k))
  (ws, v.testBit 231, v / 2 ^ 232 % 2 ^ 16,
   (List.range 7).all fun k => v / 2 ^ (224 + k) % 2 == wordParity (ws.getD k 0))

/-- One step of the CRC-16 of R189 on a byte. -/
def crc16Step (crc : Nat) (b : Byte) : Nat :=
  (List.range 8).foldl (fun c _ => if c.testBit 15 then (c * 2) % 2 ^ 16 ^^^ 0x1021 else (c * 2) % 2 ^ 16) (crc ^^^ (b.toNat * 256))

/-- CRC-16 of R189: polynomial 0x1021, initial 0xFFFF, no reflection, no final XOR. -/
def crc16 (bs : List Byte) : Nat := bs.foldl crc16Step 0xFFFF

/-- One step of a reflected CRC-32 on a byte. -/
def crc32Step (poly crc : Nat) (b : Byte) : Nat :=
  (List.range 8).foldl (fun c _ => if c.testBit 0 then c / 2 ^^^ poly else c / 2) (crc ^^^ b.toNat)

/-- CRC-32C of R192 (Castagnoli). -/
def crc32c (bs : List Byte) : Nat := (bs.foldl (crc32Step 0x82F63B78) 0xFFFFFFFF) ^^^ 0xFFFFFFFF

/-- CRC-32 of IEEE 802.3, as Table 3-4 gives it. -/
def crc32 (bs : List Byte) : Nat := (bs.foldl (crc32Step 0xEDB88320) 0xFFFFFFFF) ^^^ 0xFFFFFFFF

/-- A control block: type and fields as one number over payload bits [239:0], with its CRC-16 (R189). -/
def ctlBlock (type fields : Nat) : List Byte :=
  let body := leBytes 30 (type + fields)
  body ++ leBytes 2 (crc16 body)

/-- A control block's CRC holds. -/
def ctlOk (b : List Byte) : Bool := b.length == 32 && leAt b 30 2 == crc16 (b.take 30)

/-- A field of a block's payload. -/
def blockField (b : List Byte) (lo n : Nat) : Nat := leNat b / 2 ^ lo % 2 ^ n

/-! ## Ports -/

def State.chainPort (s : State) (p : Nat) : ChainPort := (s.chain.ports[p]?).getD {}
def State.setChainPort (s : State) (p : Nat) (x : ChainPort) : State :=
  { s with chain := { s.chain with ports := s.chain.ports.set p x } }
/-- STATE of a chain port. -/
def State.portState (s : State) (p : Nat) : Nat := s.fld (Reg.CHAIN_PORT_STAT p) 0 2
def State.portUp (s : State) (p : Nat) : Bool := s.portState p == 3

/-- Send one data block, which stays in the replay buffer (R384). -/
def State.sendBlock (s : State) (p : Nat) (b : List Word × Bool) : State :=
  let x := s.chainPort p
  let d := dataBlock b.1 b.2 x.txSeq
  (s.setChainPort p { x with txSeq := (x.txSeq + 1) % 2 ^ 16, unacked := x.unacked ++ [(x.txSeq, d)] }).sendGroup p false d

/-- Blocks left of a class 1 segment of at most 64 after the block `b` of it, with `rest` behind: a packet's end closes it (R383). -/
def segmentLeft (left : Nat) (sop : Bool) (rest : List (List Word × Bool)) : Nat :=
  if (rest.headD ([], true)).2 then 0 else if left = 0 ∨ sop then 63 else left - 1

/-- Blocks that wait go out while the replay buffer has space: those of class 0 at the end of a class 1 segment at the latest (R383,
R384).  `fuel` bounds them. -/
def State.drainPort (s : State) (p : Nat) : Nat → State
  | 0 => s
  | f + 1 =>
    let x := s.chainPort p
    if 2048 ≤ x.unacked.length then s
    else match (if x.segLeft = 0 ∨ x.wait1.isEmpty then x.wait0 else []), x.wait1 with
      | b :: rest, _ => ((s.setChainPort p { x with wait0 := rest }).sendBlock p b).drainPort p f
      | [], b :: rest => ((s.setChainPort p { x with wait1 := rest, segLeft := segmentLeft x.segLeft b.2 rest }).sendBlock p b).drainPort p f
      | [], [] => s

/-- Blocks of a port that wait go out as far as they can. -/
def State.drain (s : State) (p : Nat) : State := s.drainPort p ((s.chainPort p).wait0.length + (s.chainPort p).wait1.length)

/-- The blocks of a packet: seven words each, SOP on the first. -/
def Packet.blocks (k : Packet) : List (List Word × Bool) := (chunks 7 k.words).zipIdx.map fun x => (x.1, x.2 == 0)

/-- Queue the blocks of a packet behind those of its class and send what can go. -/
def State.sendPacket (s : State) (p : Nat) (k : Packet) : State :=
  let x := s.chainPort p
  (s.setChainPort p (if kindClass k.kind == some 1 then { x with wait1 := x.wait1 ++ k.blocks } else { x with wait0 := x.wait0 ++ k.blocks })).drain p

/-- Send a packet on a port, or hold it while the port is down (R385). -/
def State.sendOn (s : State) (p : Nat) (k : Packet) : State :=
  if s.portUp p then s.sendPacket p k
  else
    let x := s.chainPort p
    s.setChainPort p { x with held := x.held ++ [(s.now, k)] }

/-- Ports on which a packet to every member goes out at this member: to each peer whose ROUTE toward the originator leads here (R385). -/
def State.floodPorts (s : State) (origin : Nat) : List Nat :=
  s.peerPorts.filterMap fun (p, q) =>
    if q = origin then none
    else match s.member q with
      | some e => if peerFar e (routeToward e origin) == some s.chainId then some p else none
      | none => none

/-- Send a packet of this member to one other (R385). -/
def State.sendTo (s : State) (d kind : Nat) (body : List Word) : State :=
  match s.me with
  | some e => s.sendOn (routeToward e d) (mkPacket d false kind body)
  | none => s

/-- Send a packet of this member to every member; DEST then names the originator. -/
def State.sendAll (s : State) (kind : Nat) (body : List Word) : State :=
  (s.floodPorts s.chainId).foldl (fun s p => s.sendOn p (mkPacket s.chainId true kind body)) s

/-- Send to the pair partner. -/
def State.sendPartner (s : State) (kind : Nat) (body : List Word) : State :=
  match s.partnerId with
  | some d => s.sendTo d kind body
  | none => s

/-- A control block on a port. -/
def State.sendControl (s : State) (p type fields : Nat) : State := s.sendGroup p true (ctlBlock type fields)

/-- Forward a mirrored write to its scope (R388). -/
def State.mirror (s : State) (req : Requester) (a : Nat) (w : Word) : State :=
  if !s.chain.chained || req == .chain || req == .store then s
  else match mirrorScope a with
    | 1 => if s.isActing then s.sendAll 1 [Word.ofNat a, w] else s
    | 2 => if s.isLead && s.paired then s.sendPartner 1 [Word.ofNat a, w] else s
    | _ => s

end Sys2Proof.Machine
end

