-- ==== Sys2Proof/Machine/Hbm.lean ====
section
/-! DEFINITION.  The HBM stack and its controller: addresses and backing (R256 to R258),
content, source tags and lost blocks (R266 to R270), retirement and migration (R271 to
R275), self-refresh and retime (R35, R36, R259), and the meanings of the HBM commands. -/

namespace Sys2Proof.Machine

/-! ## Organisation -/

/-- Pages per pseudo-channel, P (Table 12-1); HL9600-16C carries the 8-high stack. -/
def State.pagesPerPc (s : State) : Nat := if s.part = .c16 then 512 else 768
/-- Rows in use. -/
def State.rowsUse (s : State) : Nat := s.fld Reg.HBM_USABLE 16 10
/-- Slots, N_s. -/
def State.slots (s : State) : Nat := s.fld Reg.HBM_USABLE 26 5
/-- Usable size in bytes (R257). -/
def State.usable (s : State) : Nat := s.rowsUse * s.slots * 2 ^ 21
/-- Set HBM_USABLE and PLY_VENUE_AREA from the rows in use and the slots. -/
def State.setUsable (s : State) (rows slots : Nat) : State :=
  let s := s.setReg Reg.HBM_USABLE (Word.ofNat (rows * slots * 2 % 2 ^ 16 + rows * 2 ^ 16 + slots * 2 ^ 26))
  let base := rows * slots * 2 ^ 21 - 2 ^ 24
  (s.setNat Reg.PLY_VENUE_AREA_LO base).setNat Reg.PLY_VENUE_AREA_HI (base / 2 ^ 32)
/-- HBM_ORG as the stack gives it. -/
def State.setOrg (s : State) : State :=
  s.setReg Reg.HBM_ORG (Word.ofNat (bitOf (s.part != .c16) + 16 * 2 ^ 8 + s.pagesPerPc * 2 ^ 16))

/-- HBM_ORG, HBM_USABLE and PLY_VENUE_AREA right after reset, which the stack gives (Tables 12-1, 12-7). -/
def State.stackReset (s : State) : State := s.setOrg.setUsable s.pagesPerPc 15

/-- Base of the venue area, the top 16 MiB of the usable range (R109). -/
def State.venueBase (s : State) : Nat := s.usable - 2 ^ 24

/-- Slot, row and byte within the page of an HBM address (R257). -/
def hbmSplit (slots a : Nat) : Nat × Nat × Nat :=
  let g := a / 256
  let o := g / slots * 256 + a % 256
  (g % slots, o / 2 ^ 21, o % 2 ^ 21)

/-- STATE of a pseudo-channel. -/
def State.pcState (s : State) (p : Nat) : Nat := s.fld (Reg.HBM_PC_STAT p) 0 2
/-- Pseudo-channels in service, in ascending order; one that is retired stays so until its migration starts (R272). -/
def State.inService (s : State) : List Nat := (List.range 16).filter fun p => s.pcState p == 0 || s.hbm.waiting.contains p
/-- Slot that a pseudo-channel backs. -/
def State.slotOfPc (s : State) (p : Nat) : Nat := s.fld (Reg.HBM_PC_STAT p) 4 5

/-- Donor page `i`: pseudo-channel and page (R274). -/
def State.donorPage (s : State) (i : Nat) : Nat × Nat :=
  let pcs := s.inService
  (pcs.getD (i % pcs.length) 0, s.rowsUse + i / pcs.length)

/-- Pseudo-channel and page that hold row `j` of slot `k` outside its own migration (R258, R274). -/
def State.place (s : State) (k j : Nat) : Option (Nat × Nat) :=
  match s.hbm.donors.findIdx? (· == k) with
  | some d => some (s.donorPage (d * s.rowsUse + j))
  | none => ((s.hbm.backing[k]?).join).map fun p => (p, j)

/-- Where a migration copies row `j` of its slot to (R272, R274). -/
def State.moveTarget (s : State) (m : Migration) (j : Nat) : Nat × Nat :=
  if m.donor then s.donorPage ((s.hbm.donors.findIdx? (· == m.slot)).getD 0 * s.rowsUse + j) else (s.fld Reg.HBM_MIGR_STAT 4 4, j)

/-- 32-byte lines of a page. -/
def pageLines : Nat := 65536

/-- Lines of the page being copied that are at the target by now; the copy's rate has an upper limit only, so the number is free. -/
def State.linesCopied (s : State) (m : Migration) : Nat := Config.linesCopied m.page (s.now - m.started) % (pageLines + 1)

/-- Pseudo-channel and page that a read of an HBM address goes to (R273). -/
def State.readPlace (s : State) (a : Nat) : Option (Nat × Nat) :=
  let x := hbmSplit s.slots a
  match s.hbm.migr with
  | some m =>
    if m.slot = x.1 then
      some (if x.2.1 < m.page ∨ (x.2.1 = m.page ∧ x.2.2 / 32 < s.linesCopied m) then s.moveTarget m x.2.1 else (m.from_, x.2.1))
    else s.place x.1 x.2.1
  | none => s.place x.1 x.2.1

/-- Pseudo-channels and pages that a write of an HBM address goes to: both copies of the page being copied (R273). -/
def State.writePlaces (s : State) (a : Nat) : List (Nat × Nat) :=
  let x := hbmSplit s.slots a
  match s.hbm.migr with
  | some m => if m.slot = x.1 ∧ m.page = x.2.1 then [(m.from_, x.2.1), s.moveTarget m x.2.1] else (s.readPlace a).toList
  | none => (s.readPlace a).toList

/-- The pseudo-channel that a read of an HBM address goes to. -/
def State.pcOf (s : State) (a : Nat) : Option Nat := (s.readPlace a).map (·.1)

/-! ## Content -/

/-- The memory's canonical form: addresses strictly rising; an unlisted byte has no defined value. -/
def Memory.wf (m : List Host.Cell) : Bool := keysRising m

/-- One byte of HBM; a byte that nothing defines is a free value of its content epoch. -/
def State.byte (s : State) (a : Nat) : Byte := (mapGet s.hbm.mem a).getD (Config.undefinedByte s.hbm.epoch a)

/-- Bytes from an address. -/
def State.bytes (s : State) (a n : Nat) : List Byte := (List.range n).map fun i => s.byte (a + i)

/-- Memory with bytes stored from an address. -/
def memWrite : List Host.Cell → Nat → List Byte → List Host.Cell
  | m, _, [] => m
  | m, a, b :: bs => memWrite (mapPut m a b) (a + 1) bs

/-- Check bits of an eight-byte beat: each word's parity is made even, check bits 2 to 7 are 0 (R262). -/
def checkBits (beat : List Byte) : Nat :=
  wordParity (Word.ofNat (leNat (beat.take 4))) + 2 * wordParity (Word.ofNat (leNat (beat.drop 4)))

/-- Check bits that the stack holds beside the beat of an address. -/
def State.checkAt (s : State) (a : Nat) : Nat := checkBits (s.bytes (a / 8 * 8) 8)

/-- 32-byte bursts that a write covers in part, which are read first (R262): a parity failure of such a read comes as that of any
other (R263). -/
def rmwBursts (a n : Nat) : List Nat :=
  if n = 0 then [] else
    let first := a / 32
    let last := (a + n - 1) / 32
    ((if a % 32 = 0 ∧ (first ≠ last ∨ (a + n) % 32 = 0) then [] else [first * 32]) ++
      (if (a + n) % 32 = 0 ∨ first = last then [] else [last * 32]))

/-- 64 KiB blocks that `n` bytes from `a` touch. -/
def blocksOf (a n : Nat) : List Nat := if n = 0 then [] else (List.range ((a + n - 1) / 65536 - a / 65536 + 1)).map (· + a / 65536)

/-- Source tag of a block (R266). -/
def State.tagOf (s : State) (b : Nat) : Nat := (mapGet s.hbm.tags b).getD 0
/-- A block is marked lost. -/
def State.marked (s : State) (b : Nat) : Bool := (mapGet s.hbm.lost b).isSome
/-- A read of a block ends as one of a lost block: it is marked lost, or lies at or beyond the usable size (R267, R274). -/
def State.isLost (s : State) (b : Nat) : Bool := s.marked b || decide (s.usable ≤ b * 65536)
/-- Some block that `n` bytes from `a` touch is lost. -/
def State.lostIn (s : State) (a n : Nat) : Bool := (blocksOf a n).any s.isLost

/-- HBM_LOST_STAT.BLOCKS. -/
def State.refreshLost (s : State) : State := s.setFld Reg.HBM_LOST_STAT 0 19 s.hbm.lost.length

/-- Tag the blocks of a range (R266). -/
def State.tag (s : State) (a n t : Nat) : State :=
  { s with hbm := { s.hbm with tags := (blocksOf a n).foldl (fun m b => if t = 0 then mapErase m b else mapPut m b t) s.hbm.tags } }

/-- An HBM access while the stack is in self-refresh starts the exit (R36). -/
def State.wakeHbm (s : State) : State :=
  if s.selfRefresh && !s.hbm.retime && s.modeCode != Mode.SAFE then { s with power := { s.power with srExit := true } } else s

/-- The stack is in self-refresh for longer than a retime takes (R35, R36). -/
def State.resting (s : State) : Bool := s.selfRefresh && !s.hbm.retime

/-- Any access restarts the idle time of R35 and ends self-refresh (R36). -/
def State.touchHbm (s : State) : State :=
  let s := s.wakeHbm
  { s with power := { s.power with hbmIdleSince := s.now } }

/-- Write bytes with a path's source tag (R13, R266). -/
def State.hbmWrite (s : State) (a : Nat) (bs : List Byte) (t : Nat) : State :=
  ({ s with hbm := { s.hbm with mem := memWrite s.hbm.mem a bs } }).tag a bs.length t |>.touchHbm

/-- All content is lost: nothing is defined any more (R38, R47). -/
def State.dropContent (s : State) : State := { s with hbm := { s.hbm with mem := [], epoch := s.hbm.epoch + 1 } }

/-! ## NVMe submission, which regeneration needs -/

/-- NVMe opcodes: the I/O commands, and the admin commands (Table 15-1). -/
def nvmeFlush : Nat := 0x00
def nvmeWrite : Nat := 0x01
def nvmeRead : Nat := 0x02
def nvmeLog : Nat := 0x02
def nvmeDeallocate : Nat := 0x09
def nvmeIdentify : Nat := 0x06
def nvmeCreateSq : Nat := 0x01
def nvmeCreateCq : Nat := 0x05
def nvmeSetFeatures : Nat := 0x09

/-- Submit an NVMe command (R312). -/
def State.nvmeSubmit (s : State) (c : NvmeCmd) : State :=
  let c := { c with cid := s.store.nextCid, submitted := s.now }
  ({ s with store := { s.store with nextCid := (s.store.nextCid + 1) % 2 ^ 16, inflight := s.store.inflight ++ [c] } }).emit
    (.nvme c.drive c.cid c.op c.lba c.blocks c.addr)

/-- A drive is enabled and up. -/
def State.driveUp (s : State) (d : Nat) : Bool := s.bit Reg.STORE_CFG d && s.fld (Reg.STORE_DRV_STAT d) 0 2 == 2

/-- The commands of a drive's bring-up in order, as opcode and CDW10: Identify CNS 0x01 and 0x00, Set Features (Number of Queues),
and the I/O completion and submission queue, each of depth 256 (Table 15-1).  Their order and codes are PRESUMED from NVMe 2.0 (log 177). -/
def bringUpSteps : List (Nat × Nat) :=
  [(nvmeIdentify, 1), (nvmeIdentify, 0), (nvmeSetFeatures, 7), (nvmeCreateCq, 0xFF0001), (nvmeCreateSq, 0xFF0001)]

/-- Step `n` of a drive's bring-up goes out; after the last the drive is up. -/
def State.bringUpStep (s : State) (d n : Nat) : State :=
  match bringUpSteps[n]? with
  | none => s.setFld (Reg.STORE_DRV_STAT d) 0 2 2
  | some (op, w) =>
    s.nvmeSubmit { drive := d, cid := 0, op := op, lba := w, blocks := if op = nvmeIdentify then 1 else 0, addr := 0, why := .identify, off := n, submitted := 0 }

/-- A root port whose lanes are all up brings its drive up with Identify (R311); a disabled drive stays so (R312). -/
def State.driveInit (s : State) (d : Nat) : State :=
  if s.bit Reg.STORE_CFG d && s.upCount (0x128 + 4 * d) 4 == 4 && s.fld (Reg.STORE_DRV_STAT d) 0 2 == 0 &&
      !(s.store.barred.any fun x => x.1 == d) then
    (s.setFld (Reg.STORE_DRV_STAT d) 0 2 1).bringUpStep d 0
  else s

/-- Drive for the next read of a volume: with MIRROR = 1 they alternate, over the drives that are up (R313). -/
def State.readDrive (s : State) (volume : Nat) : Nat × State :=
  if s.bit Reg.STORE_CFG 2 then
    let d := s.store.nextDrive
    (if s.driveUp d then d else 1 - d, { s with store := { s.store with nextDrive := 1 - d } })
  else (volume, s)

/-- Most LBAs of one command on a volume: with MIRROR = 1 either drive may serve it (Table 15-1, R313). -/
def State.lbaLimit (s : State) (volume : Nat) : Nat :=
  if s.bit Reg.STORE_CFG 2 then min (s.store.maxLbas[0]?.getD 256) (s.store.maxLbas[1]?.getD 256)
  else s.store.maxLbas[volume]?.getD 256

/-- Read LBAs in commands of at most 256, or MDTS (Table 15-1); `fuel` bounds the commands. -/
def State.readChunks (s : State) (volume lba blocks addr off : Nat) (why : NvmeUse) : Nat → State
  | 0 => s
  | f + 1 =>
    if blocks = 0 then s
    else
      let n := min blocks (s.lbaLimit volume)
      let (d, s) := s.readDrive volume
      let c : NvmeCmd := { drive := d, cid := 0, op := nvmeRead, lba := lba, blocks := n, addr := addr, why := why, off := off, submitted := 0 }
      (s.nvmeSubmit c).readChunks volume (lba + n) (blocks - n) (addr + 4096 * n) (off + 4096 * n) why f

/-- Drive of the open skein's volume. -/
def Skein.drive (k : Skein) : Nat := k.index / 1024 % 2

/-- Base and end of a store area register (STORE_RING, STORE_BUF, STORE_YSTAGE), in bytes. -/
def State.area (s : State) (a : Nat) : Nat × Nat :=
  (s.fld a 0 15 * 2 ^ 20, (s.fld a 0 15 + s.fld a 16 15) * 2 ^ 20)

/-- Buffers of the buffer area in order: descriptor, which of its two, base, bytes (R316). -/
def State.bufferMap (s : State) : List (Nat × Nat × Nat × Nat) :=
  match s.store.skein with
  | none => []
  | some k => ((List.range 64).foldl (fun (acc : Nat × List (Nat × Nat × Nat × Nat)) n =>
      let e := k.extent.getD n 0 * 4096
      if e = 0 then acc else (acc.1 + 2 * e, acc.2 ++ [(n, 0, acc.1, e), (n, 1, acc.1 + e, e)])) ((s.area Reg.STORE_BUF).1, [])).2

/-- Base and bytes of a descriptor's buffer. -/
def State.bufferAt (s : State) (n w : Nat) : Nat × Nat :=
  match s.bufferMap.find? fun x => x.1 == n && x.2.1 == w with
  | some (_, _, a, e) => (a, e)
  | none => (0, 0)

/-- Reread LBAs of the volume, with what follows when all have arrived (R323, R324). -/
def State.reread (s : State) (lba blocks : Nat) (r : Reread) : State :=
  match s.store.skein with
  | none => s
  | some k =>
    let id := s.store.nextId
    let r := { r with id := id, left := ceilDiv blocks 256 }
    ({ s with store := { s.store with nextId := id + 1, rereads := s.store.rereads ++ [r] } }).readChunks k.drive (k.start + lba) blocks
      (r.addr.getD 0) 0 (.reread id) blocks

/-- Reread the record of skein frame `f`. -/
def State.rereadRecord (s : State) (f : Nat) (addr block : Option Nat) (jobs : List HankJob) : State :=
  match s.store.skein.bind fun k => k.entries[f]? with
  | none => s
  | some e => s.reread e.lba (ceilDiv e.length 4096)
      { id := 0, addr := addr, block := block, frame := f, length := e.length, jobs := jobs, left := 0 }

/-- Clear the lost mark of a block. -/
def State.clearLost (s : State) (b : Nat) : State :=
  ({ s with hbm := { s.hbm with lost := mapErase s.hbm.lost b } }).refreshLost

/-- Something of a lost block is still to be reread or decoded. -/
def State.regenLeft (s : State) (b : Nat) : Bool :=
  let is (j : HankJob) : Bool := j.regen == some b
  s.store.rereads.any (fun r => r.block == some b) || s.store.rereads.any (fun r => r.jobs.any is) || s.hank.waiting.any is ||
    s.hank.engines.any fun e => e.run.any is || e.queue.any is

/-- A part of a lost block is written again, or could not be: the mark goes with the last part, when every part is there (R268, R324). -/
def State.regenPart (s : State) (b : Nat) (ok : Bool) : State :=
  let s := if ok then s else { s with hbm := { s.hbm with regenFailed := b :: s.hbm.regenFailed } }
  if s.regenLeft b || s.hbm.regenFailed.contains b then s else s.clearLost b

/-- The decode that fills buffer `w` of descriptor `n` with the stream of skein frame `f`; its source is set when the record is at hand. -/
def State.bufferJob (s : State) (n w f : Nat) : HankJob :=
  let b := s.bufferAt n w
  { who := .skein, dst := b.1, cap := b.2, what := n, frame := f, tag := 1 }

/-- A buffer that a lost block touches (R324): a latched, pending or spare-in-use one is decoded again from the drive, any other is
released. -/
def State.bufferRegen (s : State) (b n w : Nat) : State :=
  match s.store.buffers.find? fun q => q.desc == n with
  | none => s
  | some q =>
    let inUse := q.latched == w || (s.store.prep.any fun p => p.jobs.any fun j => j.1 == n)
    match (if w = 0 then q.frame0 else q.frame1), inUse with
    | some f, true => s.rereadRecord f none (some b) [{ s.bufferJob n w f with regen := some b }]
    | _, _ => s

/-- What a lost block of the ring holds is reread: the index at the base, and each record that touches it (R324). -/
def State.ringRegen (s : State) (k : Skein) (b : Nat) : State :=
  let a := b * 65536
  let o := a - (s.area Reg.STORE_RING).1
  let s := if o < k.frames * 16 then
      s.reread (k.indexLba + o / 4096) (min 16 (ceilDiv (k.frames * 16 - o) 4096))
        { id := 0, addr := some a, block := some b, frame := 0, length := 65536, jobs := [], left := 0 }
    else s
  s.each (s.store.ring.filter fun r => decide (r.addr < a + 65536 ∧ a < r.addr + r.length)) fun s r =>
    s.rereadRecord r.frame (some r.addr) (some b) []

/-- What becomes of a lost skein-derived block (R324): its parts are reread, or it is released, or host-written; true when
HBM_REWRITE_REQ is due. -/
def State.skeinRegen (s : State) (b : Nat) : State × Bool :=
  let a := b * 65536
  let ring := s.area Reg.STORE_RING
  let buf := s.area Reg.STORE_BUF
  let settle (s : State) : State := if s.regenLeft b then s else s.clearLost b
  if ring.1 ≤ a ∧ a < ring.2 then
    match s.store.skein with
    | none => (s.clearLost b, false)
    | some k => (settle (s.ringRegen k b), false)
  else if buf.1 ≤ a ∧ a < buf.2 then
    let l := s.bufferMap.filter fun x => decide (x.2.2.1 < a + 65536 ∧ a < x.2.2.1 + x.2.2.2)
    (settle (s.each l fun s x => s.bufferRegen b x.1 x.2.1), false)
  else (s, true)

/-- Group whose flat-ply region holds a block. -/
def State.groupOfBlock (s : State) (b : Nat) : Option Nat :=
  (List.range 15).find? fun g =>
    let base := s.fld (Reg.PLY_GROUP_BASE_LO g) 12 20 * 4096 + s.fld (Reg.PLY_GROUP_BASE_HI g) 0 3 * 2 ^ 32
    let size := s.fld (Reg.PLY_GROUP_SIZE g) 0 20 * 4096
    decide (base < (b + 1) * 65536 ∧ b * 65536 < base + size)

/-- A lost block lies in the venue area. -/
def State.inVenue (s : State) (b : Nat) : Bool := s.venueBase ≤ b * 65536 && b * 65536 < s.usable

/-- Descriptor words as in effect: placed in the venue area, with the values that R108 takes. -/
def venueWords (base : Nat) (ws : List Word) : List Word :=
  ws.zipIdx.map fun x =>
    match x.2 with
    | 0 => Word.ofNat base
    | 1 => Word.ofNat (base / 2 ^ 32)
    | 9 => 0
    | 10 => 0
    | 12 => ((x.1.put 8 3 0).put 12 4 0).put 16 16 0xFFFF
    | _ => x.1

/-- Slot and descriptor in PLY_VENUE_STAT and PLY_VENUE_DESC. -/
def State.showVenue (s : State) : State :=
  let s := s.setFld Reg.PLY_VENUE_STAT 8 8 s.sec.venueSlot
  let ws := venueWords s.venueBase s.sec.venueDesc
  s.each (List.range 16) fun s i => s.setReg (Reg.PLY_VENUE_DESC i) (ws.getD i 0)

/-- The venue ply's buffer is written to its area again, from the pattern's slot or as the content in effect. -/
def State.restoreVenue (s : State) : State :=
  let s := { s with sec := { s.sec with venueStale := false } }
  if s.sec.venueSlot = 0xFF ∨ s.sec.venueBuffer = [] then s
  else s.hbmWrite s.venueBase s.sec.venueBuffer 3

/-- Inline content is lost: the cleared state replaces it, with VENUE_REJECTED (R91). -/
def State.clearInline (s : State) : State :=
  let s := { s with sec := { s.sec with venueSlot := 0xFF, venueDesc := [], venueBuffer := [], venueGen := s.sec.venueGen + 1 } }
  s.showVenue.raise Ev.VENUE_REJECTED [s.sec.venueSource, 0x0B, s.sec.lastVseq]

/-- The venue area has moved: its content is restored as R91 has it (R274). -/
def State.moveVenue (s : State) : State :=
  if s.sec.venueSlot = 0xFF then s
  else if s.sec.venueSlot = 0xFE ∧ !s.sec.venueStale then s.clearInline
  else s.restoreVenue.showVenue

/-- A block of the venue area is lost (R91). -/
def State.venueLost (s : State) (b : Nat) : State :=
  if s.venueBase + s.sec.venueBuffer.length ≤ b * 65536 then s
  else if s.sec.venueSlot = 0xFE ∧ !s.sec.venueStale then s.clearInline
  else s.restoreVenue

/-- Regenerate one lost block (Table 12-4); true when HBM_REWRITE_REQ is due. -/
def State.regenBlock (s : State) (b : Nat) : State × Bool :=
  match s.tagOf b with
  | 0 => (s.clearLost b, false)
  | 1 => s.skeinRegen b
  | 2 => match s.groupOfBlock b with
    | some g => ({ s with frame := { s.frame with flat := s.frame.flat.filter (· != g + 1)
                                                  flatLost := if s.frame.flatLost.contains (g + 1) then s.frame.flatLost
                                                              else s.frame.flatLost ++ [g + 1] } }, false)
    | none => (s.clearLost b, false)
  | _ => if s.inVenue b then ((s.venueLost b).clearLost b, false) else (s, true)

/-- Events of the last second that R268 limits. -/
def State.reportsNow (s : State) : List Nat := s.hbm.reports.filter fun c => s.now < c + ms 1000

/-- Report a run of lost blocks, or count it (R268). -/
def State.reportRun (s : State) (first n t : Nat) (rewrite : Bool) : State :=
  let r := s.reportsNow
  let need := if rewrite then 2 else 1
  if r.length + need ≤ 64 then
    let s := { s with hbm := { s.hbm with reports := r ++ List.replicate need s.now } }
    let s := s.raise Ev.HBM_LOST [first, n, t]
    if rewrite then s.raise Ev.HBM_REWRITE_REQ [first * 65536 / 8, n] else s
  else ({ s with hbm := { s.hbm with reports := r } }).incFld Reg.HBM_LOST_STAT 19 13 1

/-- Runs of contiguous blocks with one tag, in ascending order. -/
def State.runs (s : State) : List Nat → List (Nat × Nat × Nat)
  | [] => []
  | b :: bs =>
    match s.runs bs with
    | (f, n, t) :: rest => if f = b + 1 ∧ t = s.tagOf b then (b, n + 1, t) :: rest else (b, 1, s.tagOf b) :: (f, n, t) :: rest
    | [] => [(b, 1, s.tagOf b)]

/-- Mark blocks lost, and regenerate and report some of them (R268); both lists in ascending order. -/
def State.markBlocks (s : State) (bs new : List Nat) : State :=
  let s := { s with hbm := { s.hbm with lost := bs.foldl (fun m b => mapPut m b s.now) s.hbm.lost
                                        regenFailed := s.hbm.regenFailed.filter fun b => !new.contains b } }
  let s := (s.runs new).foldl (fun s (f, n, t) =>
      let r := (List.range n).foldl (fun (x : State × Bool) i => let y := x.1.regenBlock (f + i); (y.1, x.2 || y.2)) (s, false)
      r.1.reportRun f n t r.2) s
  s.refreshLost

/-- Mark blocks lost and regenerate those that were not lost before. -/
def State.markLost (s : State) (bs : List Nat) : State := s.markBlocks bs (bs.filter fun b => !s.marked b)

/-- Every tagged block, in ascending order. -/
def State.taggedBlocks (s : State) : List Nat := s.hbm.tags.map (·.1)

/-- Every tagged block is lost with the content and regenerated, whatever was lost before (R270, R278). -/
def State.markTagged (s : State) : State := s.markBlocks s.taggedBlocks s.taggedBlocks

/-! ## Power-up of the stack -/

/-- A trained field: within 1 and the field's greatest value (R470). -/
def trainedIn (n v : Nat) : Nat := 1 + v % (2 ^ n - 1)

/-- A word of a timing set from the values of its fields. -/
def timingWord (w : Nat) (f : Nat → Nat) : Word :=
  Word.ofNat (match w with
    | 2 => f 0 + f 1 * 2 ^ 8 + f 2 * 2 ^ 16
    | 3 => f 0 + f 1 * 2 ^ 12
    | _ => f 0 + f 1 * 2 ^ 8 + f 2 * 2 ^ 16 + f 3 * 2 ^ 24)

/-- Place and width of a field of a timing word (Table 12-7). -/
def timingField (w i : Nat) : Nat × Nat := if w = 3 then (if i = 0 then (0, 12) else (12, 16)) else (8 * i, 8)

/-- A word that training found, each value within the range of its field, which 0 is not (R470). -/
def trainedAs (w : Nat) (x : Word) : Word := timingWord w fun i => max 1 (x.field (timingField w i).1 (timingField w i).2)

/-- Word `w` of timing set `t` as training finds it (R470). -/
def trainedWord (epoch t w : Nat) : Word :=
  let f := Config.trainedField epoch t w
  timingWord w fun i => trainedIn (timingField w i).2 (f i)

/-- Write training results to both timing sets and the copy in PD00 (R470). -/
def State.setTraining (s : State) (ws : List Word) : State :=
  let s := { s with hbm := { s.hbm with kept := ws } }
  s.each (List.range 8) fun s i => s.setReg (Reg.HBM_TSET (i / 4) (i % 4)) (ws.getD i 0)

/-- Reload the kept results for the timing set of the operating point in effect (R38). -/
def State.reloadTraining (s : State) : State :=
  let t := s.fld Reg.HBM_STAT 0 1
  s.each (List.range 4) fun s w => s.setReg (Reg.HBM_TSET t w) (s.hbm.kept.getD (4 * t + w) 0)

/-- Train both sets: the values are free (R470). -/
def State.trainHbm (s : State) : State :=
  let s := s.setTraining ((List.range 8).map fun i => trainedWord s.hbm.epoch (i / 4) (i % 4))
  s.healthLog 1 ((List.range 8).map fun i => (trainedWord s.hbm.epoch (i / 4) (i % 4)).toNat)

/-- Slot assignment at an HBM power-up (R258, R271): pseudo-channels that fail their test or that HBM_FORCE names are retired. -/
def State.assignSlots (s : State) (failed : List Nat) : State :=
  let ll := s.fld Reg.HBM_CFG 0 4
  let llEn := s.bit Reg.HBM_CFG 4
  let bad (p : Nat) : Bool := failed.contains p || s.bit Reg.HBM_FORCE p || decide (2 ≤ s.pcState p)
  -- a lifeline that fails here, not one that was retired before (R275)
  let lifeFails := llEn && bad ll && decide (s.pcState ll < 2)
  let ns := if llEn then 15 else 16
  let pool := (List.range 16).filter fun p => !bad p && p != ll
  -- a list shorter than N_s takes the lifeline for the next slot
  let list := if pool.length < ns ∧ !bad ll then pool ++ [ll] else pool
  let free := llEn && !bad ll && ns ≤ pool.length
  let s := { s with hbm := { s.hbm with backing := (List.range ns).map (fun i => list[i]?), migr := none, waiting := [],
                                        donors := (List.range ns).filter fun i => list.length ≤ i } }
  let s := s.each (List.range 16) fun s p =>
    let st := if bad p then 3 else if list.contains p then 0 else 1
    let sl := match list.findIdx? (· == p) with
      | some i => i
      | none => 0x1F
    (s.setFld (Reg.HBM_PC_STAT p) 0 2 st).setFld (Reg.HBM_PC_STAT p) 4 5 sl
  let rows := if list.length < ns then list.length * s.pagesPerPc / ns else s.pagesPerPc
  let s := (s.setUsable rows ns).setBit Reg.HBM_STAT 4 free
  let s := s.setBit Reg.HBM_STAT 6 (decide (list.length < ns))
  let s := if lifeFails then s.raise Ev.HBM_LIFELINE_LOST [ll] else s
  if list.length < ns then
    s.raise Ev.HBM_DEGRADED [s.pagesPerPc * ns * 2, rows * ns * 2, rows] else s

/-- Scrub starts a pass at a power-up, with its first request waiting (R277). -/
def State.scrubStart (s : State) : State :=
  let s := s.setFld Reg.HBM_SCRUB_STAT 0 10 0
  { s with hbm := { s.hbm with scrubPass := s.now, scrubSlot := 0, scrubLine := 0, scrubWait := some s.now, scrubHeld := none } }

/-- Slots are assigned anew; a venue area that moved with the usable size is restored (R109, R258, R274). -/
def State.backSlots (s : State) (failed : List Nat) : State :=
  let base := s.venueBase
  let s := (s.setOrg.assignSlots failed).scrubStart
  if s.venueBase = base then s else s.moveVenue

/-- The stack's interface comes on: out of state S with its content, or as a power-up whose content is lost (R38, R258, R270). -/
def State.hbmPowerUp (s : State) : State :=
  if s.hbm.stateS then
    ({ s with hbm := { s.hbm with stateS := false } }).reloadTraining
  else
    let s := { s with hbm := { s.hbm with wasOff := false } }
    (s.backSlots []).trainHbm.markTagged

/-! ## Uncorrectable errors, retirement and migration -/

/-- Start the migration of a retired pseudo-channel (R271, R272, R274). -/
def State.startMigration (s : State) (p : Nat) : State :=
  let slot := s.slotOfPc p
  -- the lifeline in effect since the last power-up (R258)
  let ll := ((List.range 16).find? fun q => s.pcState q == 1).getD 0xF
  if s.bit Reg.HBM_STAT 4 then
    let s := { s with hbm := { s.hbm with migr := some ⟨p, slot, false, 0, s.now, 0⟩ } }
    let s := (s.setReg Reg.HBM_MIGR_STAT (Word.ofNat (p + ll * 2 ^ 4 + 2 ^ 9))).setBit Reg.HBM_STAT 5 true
    s.raise Ev.HBM_RETIRE_START [p, slot, 1]
  else
    let k := (s.inService.filter (· != p)).length
    let rows := k * s.pagesPerPc / s.slots
    let before := s.fld Reg.HBM_USABLE 0 16
    let s := s.setUsable rows s.slots
    let s := { s with hbm := { s.hbm with migr := some ⟨p, slot, true, 0, s.now, 0⟩
                                          donors := (List.range 16).filter fun i => s.hbm.donors.contains i || i == slot } }
    let s := (s.setReg Reg.HBM_MIGR_STAT (Word.ofNat (p + 0xF * 2 ^ 4 + 2 ^ 8 + 2 ^ 9))).setBit Reg.HBM_STAT 5 true
    let s := s.setBit Reg.HBM_STAT 6 true
    let s := (s.raise Ev.HBM_RETIRE_START [p, slot, 2]).raise Ev.HBM_DEGRADED [before, s.fld Reg.HBM_USABLE 0 16, rows]
    s.moveVenue

/-- A migration moves content to a pseudo-channel. -/
def State.migratesTo (s : State) (p : Nat) : Bool := s.hbm.migr.any fun m => !m.donor && s.fld Reg.HBM_MIGR_STAT 4 4 == p

/-- Retire a pseudo-channel (R271, R272, R275).  DESIGN CHOICE: a lifeline that fails while content moves to it is no spare any more
and waits for a migration of its own (log entry 180). -/
def State.retirePc (s : State) (p : Nat) : State :=
  if s.pcState p = 1 ∧ !s.migratesTo p then
    ((s.setFld (Reg.HBM_PC_STAT p) 0 2 3).setBit Reg.HBM_STAT 4 false).raise Ev.HBM_LIFELINE_LOST [p]
  else if 2 ≤ s.pcState p then s
  else
    let s := s.setFld (Reg.HBM_PC_STAT p) 0 2 2
    match s.hbm.migr with
    | some _ => { s with hbm := { s.hbm with waiting := s.hbm.waiting ++ [p] } }
    | none => s.startMigration p

/-- UNCORR advances, and at THRESH the pseudo-channel is retired (R265, R271). -/
def State.countUncorr (s : State) (p : Nat) : State :=
  let s := s.incFld (Reg.HBM_PC_STAT p) 24 4 1
  if s.fld Reg.HBM_RETIRE_CFG 0 4 ≤ s.fld (Reg.HBM_PC_STAT p) 24 4 then s.retirePc p else s

/-- A block that a line of the retiring pseudo-channel loses during its migration counts for HBM_RETIRE_DONE (R272, R279). -/
def State.countMoveLoss (s : State) (p b : Nat) : State :=
  match s.hbm.migr with
  | some m => if m.from_ = p ∧ !s.marked b then { s with hbm := { s.hbm with migr := some { m with lost := m.lost + 1 } } } else s
  | none => s

/-- An uncorrectable read or command error at an address (R265), beside what becomes of its request. -/
def State.hbmUncorr (s : State) (p a kind : Nat) : State :=
  let s := (s.countMoveLoss p (a / 65536)).markLost [a / 65536]
  (s.raise Ev.HBM_UNCORR [p, a / 8, kind]).countUncorr p

/-! ## Self-refresh and retime -/

/-- Lines that a scrub pass reads: of every slot in service, and of the lifeline while it is a spare (R275, R277). -/
def State.scrubLanes (s : State) : Nat := s.slots + bitOf (s.bit Reg.HBM_STAT 4)

/-- Lines read so far in the pass in progress, and lines of a pass. -/
def State.scrubPos (s : State) : Nat × Nat :=
  ((s.fld Reg.HBM_SCRUB_STAT 0 10 * s.scrubLanes + s.hbm.scrubSlot) * pageLines + s.hbm.scrubLine,
   s.rowsUse * s.scrubLanes * pageLines)

/-- Cycles of a scrub pass: PERIOD hours. -/
def State.scrubPeriod (s : State) : Nat := s.fld Reg.HBM_SCRUB_CFG 0 8 * 3600 * ms 1000

/-- Cycles into a pass at which its next line is due: the lines are spread evenly over the period.  DESIGN CHOICE: log entry 181. -/
def State.scrubOffset (s : State) : Int :=
  let x := s.scrubPos
  if x.2 = 0 then 0 else ceilDiv (x.1 * s.scrubPeriod) x.2

/-- Cycle since which the next scrub request waits or waited; it may lie ahead. -/
def State.scrubDueAt (s : State) : Int := s.hbm.scrubPass + s.scrubOffset

/-- Reading of the deferral clock (R277): the time since the later of the last grant and the request; none while no request waits. -/
def State.deferral (s : State) : Option Nat :=
  match s.hbm.scrubWait with
  | some c => if s.bit Reg.HBM_SCRUB_CFG 8 && decide (s.scrubDueAt ≤ (s.now : Int)) then some ((s.now : Int) - max (c : Int) s.scrubDueAt).toNat
              else none
  | none => none

/-- The schedule of scrub is laid so that its next line is due now: EN is set, or PERIOD changes. -/
def State.rebaseScrub (s : State) : State := { s with hbm := { s.hbm with scrubPass := (s.now : Int) - s.scrubOffset } }

/-- The stack enters self-refresh: the deferral clock of scrub stops (R36). -/
def State.enterSR (s : State) : State :=
  let s := (s.setBit Reg.GLB_MODE_STAT 9 true).setBit Reg.HBM_STAT 1 true
  let held := match s.hbm.scrubWait with
    | some _ => some (s.deferral.getD 0)
    | none => s.hbm.scrubHeld
  { s with hbm := { s.hbm with scrubWait := none, scrubHeld := held }, power := { s.power with srExit := false } }

/-- The point of HBM_OPP and its divider take effect (R16, R259). -/
def State.switchPoint (s : State) : State :=
  let low := s.bit Reg.HBM_OPP 0
  (s.setBit Reg.HBM_STAT 0 low).setBit Reg.GLB_CLK_STAT 2 low

/-- The stack leaves self-refresh; a change of point or timing set that waited applies with the exit (R259). -/
def State.exitSR (s : State) : State :=
  let s := (s.setBit Reg.GLB_MODE_STAT 9 false).setBit Reg.HBM_STAT 1 false
  let s := { s with power := { s.power with srExit := false, hbmIdleSince := s.now }
                    hbm := { s.hbm with scrubWait := s.hbm.scrubHeld.map fun n => s.now - n, scrubHeld := none } }
  if s.hbm.retimeLater then ({ s with hbm := { s.hbm with retimeLater := false } }).switchPoint else s

/-- A latch applies a change of point or of the timing set in effect (R259): requests are held and the stack enters self-refresh; while
it already is there, the change waits for the exit. -/
def State.startRetime (s : State) : State :=
  if s.selfRefresh then { s with hbm := { s.hbm with retimeLater := true } }
  else ({ s with hbm := { s.hbm with retime := true } }).enterSR

/-- The retime's divider and timing set are in place: the stack leaves self-refresh, and the requests held go on (R16, R259). -/
def State.endRetime (s : State) : State :=
  let idle := s.power.hbmIdleSince
  let s := (({ s with hbm := { s.hbm with retime := false } }).switchPoint).exitSR
  { s with power := { s.power with hbmIdleSince := idle } }

/-! ## Meanings -/

abbrev Res := Host.Outcome State Fault Refusal

/-- HBM_AUTO_SELF_REFRESH (R35): IDLE_TIME ms in IDLE without an access. -/
def execHbmAutoSelfRefresh (t : Nat) (s : State) : Res :=
  let s := s.advance t
  .next (if s.bit Reg.PWR_HBM_POLICY 0 && s.modeCode == Mode.IDLE && !s.busy && !s.selfRefresh &&
      s.power.hbmIdleSince + ms (s.fld Reg.PWR_HBM_POLICY 16 16) ≤ s.now then s.enterSR else s)

/-- Requests other than refresh are outstanding on the stack (R261, R276): ply fetches of delivery, Hank and Needle work, flattening,
DMA and a memory test. -/
def State.hbmBusy (s : State) : Bool :=
  (s.delivering && !s.frame.boundary) || !s.frame.fetches.isEmpty || (s.hank.engines.any fun e => e.run.isSome) ||
    !s.needle.runs.isEmpty || !s.frame.flattening.isEmpty || s.hbm.migr.isSome || s.bit Reg.HBM_STAT 7 ||
    ((List.range 4).any fun c => s.bit (Reg.DPORT_DMA_STAT c) 0)

/-- HBM_REFRESH_TICK (R261, R276): a refresh interval of a pseudo-channel elapses; the refresh yields to other requests up to 8
intervals, and then goes before them all. -/
def execHbmRefreshTick (t : Nat) (pc : Fin 16) (s : State) : Res :=
  let s := s.advance t
  let n := s.hbm.postponed.getD pc 0
  let yields := s.hbmBusy && n < 8
  .next (if s.selfRefresh then s
    else { s with hbm := { s.hbm with postponed := s.hbm.postponed.set pc (if yields then n + 1 else 0) } })

/-- Alerts of a channel within the last millisecond, this one included. -/
def State.alertsOf (s : State) (ch : Nat) : List (Nat × Nat) :=
  s.hbm.alerts.filter fun x => x.2 / 2 == ch && s.now < x.1 + ms 1

/-- The commands of a channel that fall within the alert latency are reissued and count as replays of their pseudo-channels; how many
they are is free (R264). -/
def State.reissue (s : State) (ch : Nat) : State :=
  let n := s.fresh
  (s.each [2 * ch, 2 * ch + 1] fun s p => s.incFld (Reg.HBM_PC_STAT p) 16 8 (Config.reissued n p)).useFresh

/-- The migration in progress ends (R272). -/
def State.endMigration (s : State) (m : Migration) : State :=
  let ll := s.fld Reg.HBM_MIGR_STAT 4 4
  let s := (s.setFld (Reg.HBM_PC_STAT m.from_) 0 2 3).setFld (Reg.HBM_PC_STAT m.from_) 4 5 0x1F
  let s := if m.donor then s
    else
      let s := { s with hbm := { s.hbm with backing := s.hbm.backing.set m.slot (some ll) } }
      -- a lifeline that failed meanwhile stays retiring (R275)
      let s := if s.pcState ll = 1 then s.setFld (Reg.HBM_PC_STAT ll) 0 2 0 else s
      (s.setFld (Reg.HBM_PC_STAT ll) 4 5 m.slot).setBit Reg.HBM_STAT 4 false
  let s := { s with hbm := { s.hbm with migr := none } }
  let s := (s.setBit Reg.HBM_MIGR_STAT 9 false).setBit Reg.HBM_STAT 5 false
  let s := s.raise Ev.HBM_RETIRE_DONE [m.from_, m.page, m.lost, (s.now - m.started) / 400]
  match s.hbm.waiting with
  | [] => s
  | p :: ps => ({ s with hbm := { s.hbm with waiting := ps } }).startMigration p

/-- MIGRATION_PAGE_DONE (R272): a page is copied and its row remapped. -/
def execMigrationPageDone (t : Nat) (s : State) : Res :=
  let s := s.advance t
  .next (match s.hbm.migr with
    | none => s
    | some m =>
      let m := { m with page := m.page + 1 }
      let s := { s with hbm := { s.hbm with migr := some m } }
      let s := s.setFld Reg.HBM_MIGR_STAT 16 10 m.page
      if m.page = (if m.donor then s.rowsUse else s.pagesPerPc) then s.endMigration m else s)

/-- Clear the lost marks of a range; a block marked lost in this very cycle stays lost (R269). -/
def State.clearLostRange (s : State) (first n : Nat) : State :=
  ({ s with hbm := { s.hbm with lost := s.hbm.lost.filter fun x => !(first ≤ x.1 && x.1 < first + n && x.2 != s.now) } }).refreshLost

/-- MEMTEST_DONE (R278): every tagged block is marked lost and regenerated. -/
def execMemtestDone (t : Nat) (s : State) : Res :=
  let s := s.advance t
  .next (if !s.bit Reg.HBM_STAT 7 then s
    else
      (s.setBit Reg.HBM_STAT 7 false).dropContent.markTagged)

/-- The scrub position moves to the next line: 32-byte lines of a row of each slot, slot by slot and then the spare, in row order; the
next pass is scheduled a period after this one (R275, R277). -/
def State.scrubNext (s : State) : State :=
  let h := s.hbm
  if h.scrubLine + 1 < pageLines then { s with hbm := { h with scrubLine := h.scrubLine + 1 } }
  else if h.scrubSlot + 1 < s.scrubLanes then { s with hbm := { h with scrubLine := 0, scrubSlot := h.scrubSlot + 1 } }
  else
    let s := { s with hbm := { h with scrubLine := 0, scrubSlot := 0 } }
    let row := s.fld Reg.HBM_SCRUB_STAT 0 10 + 1
    if row < s.rowsUse then s.setFld Reg.HBM_SCRUB_STAT 0 10 row
    else
      let s := { s with hbm := { s.hbm with scrubPass := s.hbm.scrubPass + (s.scrubPeriod : Nat) } }
      (s.setFld Reg.HBM_SCRUB_STAT 0 10 0).incFld Reg.HBM_SCRUB_STAT 24 8 1

/-- HBM address of the line scrub is at; none at the spare, which backs no slot. -/
def State.scrubAddr (s : State) : Option Nat :=
  let o := s.fld Reg.HBM_SCRUB_STAT 0 10 * 2 ^ 21 + s.hbm.scrubLine * 32
  if s.hbm.scrubSlot < s.slots then some ((o / 256 * s.slots + s.hbm.scrubSlot) * 256 + o % 256) else none

/-- The guaranteed slots end with the grant that brings scrub back on its schedule (R277). -/
def State.scrubSchedule (s : State) : State :=
  if (s.now : Int) < s.scrubDueAt then s.setBit Reg.HBM_SCRUB_STAT 16 false else s

/-- A scrub read has failed for the third time: of a line in service (R265, R277), or of the spare's test pattern (R275). -/
def State.scrubFails (s : State) : State :=
  match s.scrubAddr with
  | some a =>
    if s.isLost (a / 65536) then s
    else match s.pcOf a with
      | some p => s.hbmUncorr p a 1
      | none => s.markLost [a / 65536]
  | none => match (List.range 16).find? fun p => s.pcState p == 1 with
    | some p => s.countUncorr p
    | none => s

/-- SCRUB_READ (R277): the next line is read; `result` 0 good, else its third failure; a grant restarts the deferral clock.  DESIGN
CHOICE: a scrub read does not restart the idle time of R35 (log entry 169). -/
def execScrubRead (t result : Nat) (s : State) : Res :=
  let s := s.advance t
  .next (if !s.bit Reg.HBM_SCRUB_CFG 8 || s.selfRefresh || !s.domainOn 55 || s.slots = 0 then s
    else
      let s := { s with hbm := { s.hbm with scrubWait := some s.now } }
      let s := if result = 0 then s else s.scrubFails
      s.scrubNext.scrubSchedule)

/-- SCRUB_DEFERRAL_TIMEOUT (R17, R277): the deferral clock reaches 100 ms without a grant. -/
def execScrubDeferralTimeout (t : Nat) (s : State) : Res :=
  let s := s.advance t
  let granted := s.sameCycle fun i => match i with
    | .scrubRead _ _ => true
    | _ => false
  .next (if granted || s.selfRefresh || !s.domainOn 55 || decide (s.deferral.getD 0 < ms 100) then s
    else
      let s := s.setBit Reg.HBM_SCRUB_STAT 16 true
      if limited s.hbm.scrubForced (ms 10000) s.now then s
      else ({ s with hbm := { s.hbm with scrubForced := some s.now } }).raise Ev.HBM_SCRUB_FORCED
        [s.fld Reg.HBM_SCRUB_STAT 0 10, s.hbm.scrubSlot])

end Sys2Proof.Machine
end

