-- ==== Sys2Proof/Machine/Regs.lean ====
section
/-! DEFINITION.  How a register write that nothing refuses is carried out (R6, R7), and
the guard that every write passes first (R424). -/

namespace Sys2Proof.Machine

/-- A waiting write replaces an earlier one to the same register and goes last (R110). -/
def putWrite (l : List PendWrite) (p : PendWrite) : List PendWrite := l.filter (fun q => q.addr != p.addr) ++ [p]

/-- Store a write by its register's access type and Applies column (R6, R7); `w` is masked. -/
def State.store' (s : State) (req : Requester) (a : Nat) (w : Word) : State :=
  match findReg a with
  | none => s
  | some d =>
    match d.access with
    | .ro => s
    | .wo => s
    | .rw1c => s.setReg a (s.reg a &&& ~~~w)
    | _ =>
      match d.applies with
      | .atOnce => s.setReg a ((s.reg a &&& ~~~writeMask a) ||| w)
      | .atCommit => { s with rws := putWrite s.rws ⟨a, w, s.now, req⟩ }
      | .atMode => { s with atMode := putWrite s.atMode ⟨a, w, s.now, req⟩ }

/-- A waiting write lands in its register. -/
def State.land (s : State) (p : PendWrite) : State := s.setReg p.addr ((s.reg p.addr &&& ~~~writeMask p.addr) ||| p.data)

/-- Writes that wait for a mode entry apply, in write order (R7). -/
def State.applyAtMode (s : State) : State :=
  let l := s.atMode
  ({ s with atMode := [] }).each l State.land

/-- Writes of one lane's registers that wait apply at its retrain (R224). -/
def State.applyLane (s : State) (l : Nat) : State :=
  let mine (p : PendWrite) : Bool := Reg.LANE_CFG l ≤ p.addr && p.addr < Reg.LANE_CFG (l + 1)
  let w := s.atMode.filter mine
  ({ s with atMode := s.atMode.filter fun p => !mine p }).each w State.land

/-! ## Trims in effect -/

/-- Value in effect of an item (R413). -/
def State.calValue (s : State) (i : Nat) : Nat × Nat :=
  let res := s.fld (Reg.HLTH_CAL_STAT i) 0 2
  if s.bit (Reg.HLTH_CAL_USER i) 31 then (s.fld (Reg.HLTH_CAL_USER i) 0 16, 2)
  else if (res = 1 ∨ res = 2) ∧ !s.health.held.contains i then (s.fld (Reg.HLTH_CAL_POWERUP i) 0 16, 1)
  else (s.fld (Reg.HLTH_CAL_FACTORY i) 0 16, 0)

/-- The value in effect takes its place: SOURCE, and TRIM of an IREF output (R413, R414). -/
def State.applyCal (s : State) (i : Nat) : State :=
  let v := s.calValue i
  let s := s.setFld (Reg.HLTH_CAL_STAT i) 2 2 v.2
  if i < 0x30 then s.setFld (Reg.EMIT_IREF_STAT i) 16 8 v.1 else s

/-- Guard a write (R424): refuse it with its first cause, or carry out `f` on the masked word, and forward a mirrored write (R388). -/
def State.guarded (s : State) (req : Requester) (a size : Nat) (w : Word) (f : State → Word → State) : State :=
  match writeCause s req a size w with
  | some c => s.refuse req a w c
  | none => (f s (w &&& writeMask a)).mirror req a (w &&& writeMask a)

/-- The write of a command that has a row of its own: the bits it places, guarded, then its effect. -/
def State.control (s : State) (req : Requester) (a : Nat) (w : Word) (f : State → State) : State :=
  s.guarded req a 4 w fun s _ => f s

/-! ## Commands of the HBM block -/

/-- HBM_CTL_CLEAR_LOST (R269). -/
def execHbmCtlClearLost (t : Nat) (req : Requester) (s : State) : Res :=
  .next ((s.advance t).control req Reg.HBM_CTL 1 fun s =>
    s.clearLostRange (s.fld Reg.HBM_LOST_CLR_BLK 0 19) (s.fld Reg.HBM_LOST_CLR_CNT 0 19))

/-- HBM_CTL_MEMTEST (R278): accepted in SERVICE only. -/
def execHbmCtlMemtest (t : Nat) (req : Requester) (s : State) : Res :=
  .next ((s.advance t).control req Reg.HBM_CTL 2 fun s =>
    if s.modeCode = Mode.SERVICE then s.setBit Reg.HBM_STAT 7 true
    else s.raise Ev.HBM_CMD_REFUSED [Reg.HBM_CTL, s.modeCode])

/-- HBM_CTL_CLEAR_CNT (Table 12-7). -/
def execHbmCtlClearCnt (t : Nat) (req : Requester) (s : State) : Res :=
  .next ((s.advance t).control req Reg.HBM_CTL 4 fun s =>
    s.each (List.range 16) fun s p => s.setFld (Reg.HBM_PC_STAT p) 16 16 0)

end Sys2Proof.Machine
end

