-- ==== Sys2Proof/Machine/Pattern.lean ====
section
/-! DEFINITION.  What the loaded pattern places in the device: the tile and chain roster in
the link registers (R208, R381), the roster's view grid (R120), warp sets (R123 to R125)
and the expansion of the colour presets (R23, R139, R140). -/

namespace Sys2Proof.Machine

/-! ## Roster -/

/-- PORT_MODE and PORT of this device by its chain roster entry (Table 18-2); single on port A for others. -/
def State.rosterPort (s : State) : Nat :=
  match s.me with
  | some e => if s.chain.chained ∧ (e.role = 1 ∨ e.role = 2) then e.role + 4 * bitOf (decide (e.partner < e.id)) else 0
  | none => 0

/-- The output sources its code: bank on, zone with a roster tile, zone owned (R234). -/
def State.irefOwned (s : State) (n : Nat) : Bool :=
  s.domainOn (71 + n / 8) && !(s.zoneTiles (n / 3)).isEmpty && s.bit Reg.EMIT_OWN (n / 3)

/-- EMIT_IREF_STAT.OWNED of every output. -/
def State.refreshOwned (s : State) : State :=
  s.each (List.range 48) fun s n => s.setBit (Reg.EMIT_IREF_STAT n) 24 (s.irefOwned n)

/-- This device owns the zones of its panel (R397): alone or with SHARE = 1 it always does, without SHARE only the pair lead. -/
def State.ownsZones (s : State) : Bool := !s.paired || s.bit Reg.CHAIN_CFG 2 || s.isLead

/-- EMIT_OWN as the roles have it (R234, R397). -/
def State.refreshOwn (s : State) : State :=
  (s.setNat Reg.EMIT_OWN (if s.ownsZones then 0xFFFF else 0)).refreshOwned

/-- The device chains by its roster while CHAIN_CFG.EN = 1, with the roles that R382 gives at cast-on; a pair member sources whole
codes until its partner joins (R380, R397). -/
def State.chainRoles (s : State) : State :=
  let on := !s.sec.pattern.chain.isEmpty && s.bit Reg.CHAIN_CFG 0
  let s := { s with chain := { s.chain with chained := on, acting := 0 } }
  match (if on then s.me else none) with
  | none => (s.setReg Reg.CHAIN_STAT (Word.ofNat (s.chainId + 3 * 2 ^ 3))).refreshOwn
  | some e =>
    let pair := e.role == 1 || e.role == 2
    let p := if pair then e.partner else 0
    let s := { s with chain := { s.chain with lead := min e.id p } }
    (s.setReg Reg.CHAIN_STAT (Word.ofNat (e.id + e.role * 2 ^ 3 + bitOf (e.id == 0) * 2 ^ 5 + bitOf (pair && decide (e.id < e.partner)) * 2 ^ 6
      + bitOf (pair && s.bit Reg.CHAIN_CFG 2) * 2 ^ 10 + p * 2 ^ 16))).refreshOwn

/-- The roster in SPK_TILE_STAT, SPK_STAT, SPK_CFG and LANE_LOOP_CFG (R208, R381). -/
def State.loadRoster (s : State) : State :=
  let s := s.each s.tiles fun s t => s.setFld (Reg.SPK_TILE_STAT t) 8 7 (s.laneOfTile t)
  let s := s.refreshSpk
  if s.chain.chained then
    let s := s.setFld Reg.SPK_CFG 0 3 s.rosterPort
    match s.me with
    | some e => s.setFld Reg.LANE_LOOP_CFG 0 5 e.timing
    | none => s
  else s

/-- A RAY_VIEW_GRID word for a grid: the matching preset, else custom (R120). -/
def gridWord (g : Nat × Nat) : Word :=
  let p := if g.1 = g.2 then (([1, 2, 3, 4, 5, 6].find? fun p => gridPreset p == some g.1).getD 0) else 0
  Word.ofNat (p + g.1 * 2 ^ 8 + g.2 * 2 ^ 16)

/-- The controller writes the roster's grid; the write waits for the first boundary (R6, R120). -/
def State.loadGrid (s : State) : State :=
  match s.rosterGrid with
  | some g => { s with rws := putWrite s.rws ⟨Reg.RAY_VIEW_GRID, gridWord g, s.now, .store⟩
                       frame := { s.frame with gridDue := true } }
  | none => { s with frame := { s.frame with gridDue := false } }

/-- The roster's grid lands at the first boundary, commit or not (R120); a write that came later waits on. -/
def State.landGrid (s : State) : State :=
  match s.frame.gridDue, s.rosterGrid with
  | true, some g =>
    let w := gridWord g
    let s := s.setReg Reg.RAY_VIEW_GRID w
    { s with rws := s.rws.filter fun p => !(p.addr == Reg.RAY_VIEW_GRID && p.data == w)
             frame := { s.frame with gridDue := false } }
  | _, _ => s

/-! ## Warp sets -/

/-- A pair of signed 3.12 components of a warp word. -/
def warpPair (w : Word) : Int × Int := (signed 16 (w.field 0 16), signed 16 (w.field 16 16))
/-- A warp word from its components. -/
def warpWord (p : Int × Int) : Word := Word.ofNat (unsigned 16 p.1 + unsigned 16 p.2 * 2 ^ 16)

/-- A table in native orientation moved to panel orientation: entries below `w × h` move and turn, the others stay (R124). -/
def turnTable (r : RosterTile) (w h n : Nat) (l : List (Int × Int)) : List (Int × Int) :=
  (List.range (min n (w * h))).foldl
    (fun acc i => acc.set (turnIndex r.rot r.mirror w h i) (turnVector r.rot r.mirror (l.getD i (0, 0))))
    ((List.range n).map fun i => l.getD i (0, 0))

/-- Warp data of a tile in the pattern. -/
def State.patternWarp (s : State) (t : Nat) : Option WarpData := s.sec.pattern.warp.find? fun w => w.tile == t

/-- This joined member is the lead of a pair: pair-scope values go to its partner (R388). -/
def State.leadsJoined (s : State) : Bool := s.isLead && s.paired && s.bit Reg.CHAIN_STAT 7

/-- A selected set is one write of every entry of the tile's tables (R125): source, nodes and directions in native orientation. -/
def State.selectWarp (s : State) (t src : Nat) (grid dir : List (Int × Int)) : State :=
  match s.tile t with
  | none => s
  | some r =>
    let g := turnTable r 17 17 289 grid
    let d := turnTable r r.nu r.nv 256 dir
    let mine (a : Nat) : Bool := (Reg.RAY_WARP_GRID t 0 ≤ a && a < Reg.RAY_WARP_GRID t 289) ||
      (Reg.RAY_VIEW_DIR t 0 ≤ a && a < Reg.RAY_VIEW_DIR t 256)
    let new := ((List.range 289).map fun i => (⟨Reg.RAY_WARP_GRID t i, warpWord (g.getD i (0, 0)), s.now, .store⟩ : PendWrite)) ++
      ((List.range 256).map fun i => (⟨Reg.RAY_VIEW_DIR t i, warpWord (d.getD i (0, 0)), s.now, .store⟩ : PendWrite))
    let s : State := { s with rws := s.rws.filter (fun p => !mine p.addr) ++ new
                              frame := { s.frame with warpSel := s.frame.warpSel.filter (fun x => x.1 != t) ++ [(t, src, s.now)] } }
    -- the pair lead's set reaches its partner as the writes that it is (R125, R388)
    if s.leadsJoined then s.each new fun s p => s.sendPartner 1 [Word.ofNat p.addr, p.data] else s

/-- Selection at an enumeration (R123, R125, R145): `own` is the tile's data when present and sound, `reason` that of WARP_DEFAULTED otherwise. -/
def State.enumWarp (s : State) (t : Nat) (own : Option (List (Int × Int) × List (Int × Int))) (reason : Nat) : State :=
  match s.patternWarp t, own with
  | some w, some _ => s.selectWarp t 2 w.grid w.dir
  | some w, none => (if reason = 2 then s.raise Ev.WARP_DEFAULTED [t, 2] else s).selectWarp t 2 w.grid w.dir
  | none, some d => s.selectWarp t 1 d.1 d.2
  | none, none => (s.raise Ev.WARP_DEFAULTED [t, reason]).selectWarp t 0 [] []

/-- Selection in a pair member without the lead, which sends no CONFIG and so reads no tile (Table 18-3): the pattern's set; for a tile
that reports no warp data (STATUS bit 9 of Table 9-5) zero offsets; else the set that the lead reads and forwards (R123, R125, R388). -/
def State.enumWarpUnread (s : State) (t : Nat) : State :=
  if (s.patternWarp t).isSome || !s.bit (Reg.SPK_TILE_BC t 1) 25 then s.enumWarp t none 1 else s

/-! ## Colour presets -/

/-- Primaries that three T_PRIM words report (R140): each y non-zero and the three not on one line. -/
def primOf (ws : List Word) : Option Primaries :=
  let x (i : Nat) : Int := (ws.getD i 0).field 0 16
  let y (i : Nat) : Int := (ws.getD i 0).field 16 16
  if y 0 = 0 ∨ y 1 = 0 ∨ y 2 = 0 ∨ (x 1 - x 0) * (y 2 - y 0) = (x 2 - x 0) * (y 1 - y 0) then none
  else
    let p (i : Nat) : Rat × Rat := ((x i : Rat) / 65536, (y i : Rat) / 65536)
    some (p 0, p 1, p 2)

/-- The tile that supplies a zone's primaries, its first enumerated one that reports them, and its T_PRIM words (R140). -/
def State.zoneSupplier (s : State) (z : Nat) : Option (Nat × List Word) :=
  ((s.zoneTiles z).find? fun t => s.enumerated t && (primOf (s.tileState t).prim).isSome).map fun t => (t, (s.tileState t).prim)

/-- The zone's primaries (R140). -/
def State.zonePrims (s : State) (z : Nat) : Option Primaries := (s.zoneSupplier z).bind fun x => primOf x.2

/-- The words of a zone's matrix from a CT preset (R140). -/
def State.zoneWords (s : State) (ct z : Nat) : List Word :=
  let m := presetMatrix ct ((s.zonePrims z).getD primaries2020)
  (List.range 9).map fun e => Word.ofNat (unsigned 16 (m.getD e 0))

/-- A zone's matrix follows the tile that now supplies its primaries. -/
def State.noteSupplier (s : State) (z : Nat) : State :=
  { s with frame := { s.frame with suppliers := s.frame.suppliers.filter (fun x => x.1 != z) ++
                                     ((s.zoneSupplier z).map fun x => (z, x)).toList } }

/-- Regenerate one zone's matrix from a CT preset (R140). -/
def State.regenZone (s : State) (ct z : Nat) : State :=
  let ws := s.zoneWords ct z
  (s.each (List.range 9) fun s e => s.setReg (Reg.RAY_ZONE_MTX z e) (ws.getD e 0)).noteSupplier z

/-- The pair lead sends its partner, which reads no tile, the matrices that a preset gives the zones of its tiles (R140, R388,
Table 18-3). -/
def State.forwardZone (s : State) (ct z : Nat) : State :=
  if s.leadsJoined && !(s.zoneTiles z).isEmpty then
    let ws := s.zoneWords ct z
    s.each (List.range 9) fun s e => s.sendPartner 1 [Word.ofNat (Reg.RAY_ZONE_MTX z e), ws.getD e 0]
  else s

/-- COLOUR_PRESET_DEFAULTED for a zone that holds roster tiles, none of which reports primaries. -/
def State.zoneDefaulted (s : State) (ct z : Nat) : State :=
  if (s.zoneTiles z).isEmpty || (s.zonePrims z).isSome then s else s.raise Ev.COLOUR_PRESET_DEFAULTED [z, ct]

/-- Regenerate every zone matrix (R140). -/
def State.expandCt (s : State) (ct : Nat) : State :=
  s.each (List.range 16) fun s z => (s.regenZone ct z).zoneDefaulted ct z

/-- RAY_COLOUR is written: on a pair lead the matrices that a new CT_PRESET will give go to the partner with it (R140, R388). -/
def State.forwardCt (s : State) (ct : Nat) : State :=
  if ct = 0 ∨ ct = s.fld Reg.RAY_COLOUR 0 4 then s else s.each (List.range 16) fun s z => s.forwardZone ct z

/-- Replace a whole range of registers by words in address order. -/
def State.putRange (s : State) (lo hi : Nat) (ws : List (Nat × Word)) : State :=
  { s with regs := s.regs.filter (fun x => x.1 < lo) ++ ws.filter (fun x => x.2 != resetWord x.1) ++ s.regs.filter (fun x => hi ≤ x.1) }

/-- Fill the three transfer tables from a preset (R139). -/
def State.expandXfer (s : State) (p : Nat) : State :=
  let ws : List Word := (List.range 2048).map fun w => Word.ofNat (presetXfer p (2 * w) + presetXfer p (2 * w + 1) * 2 ^ 16)
  s.putRange (Reg.RAY_XFER 0 0) (Reg.RAY_XFER 3 0)
    ((List.range 3).flatMap fun q => (ws.zipIdx).map fun (w, i) => (Reg.RAY_XFER q i, w))

/-- CT_PRESET of RAY_COLOUR in effect. -/
def State.ctPreset (s : State) : Nat := s.fld Reg.RAY_COLOUR 0 4
/-- XFER_PRESET of RAY_COLOUR in effect. -/
def State.xferPreset (s : State) : Nat := s.fld Reg.RAY_COLOUR 4 3

/-- An enumeration may change which tile supplies a zone's primaries, or what it reports: the zone's matrix is then due at the next
commit (R140). -/
def State.zoneChanged (s : State) (z : Nat) : State :=
  if s.ctPreset = 0 ∨ mapGet s.frame.suppliers z = s.zoneSupplier z then s
  else
    let s : State := { s with frame := { s.frame with zoneDue := s.frame.zoneDue.filter (fun x => x.1 != z) ++ [(z, s.now)] } }
    (s.noteSupplier z).forwardZone s.ctPreset z

/-- The RAY block comes on: presets in their tables and the roster's grid due (R23, R120, R140). -/
def State.rayUp (s : State) : State :=
  (s.each (List.range 16) fun s z => if (s.zoneTiles z).isEmpty then s else s.regenZone s.ctPreset z).loadGrid

end Sys2Proof.Machine
end

