-- ==== Sys2Proof/Machine/Iref.lean ====
section
/-! DEFINITION.  The emission values: IREF codes and the emission window (R233 to R237),
the emission settings of a frame (R179, R180), bands at a flip (R240), the two current
ramps (R249, R250) and the temperature of a zone (R239). -/

namespace Sys2Proof.Machine

/-- The code of R236 for an output, from its settings and the band gain. -/
def irefCode (raw : Word) (bright imax gain : Nat) (tcomp : Bool) : Nat :=
  if raw.bit 31 then raw.field 0 14
  else
    let g := if tcomp then gain else 16384
    min 16383 (roundDiv (imax * max bright 8192 * g) (65535 * 16384))

/-- The emission window of R236. -/
def emitLen (bright maxlen : Nat) : Nat :=
  if bright = 0 then 0 else if 8192 ≤ bright then maxlen else max 1 (roundDiv (maxlen * bright) 8192)

/-- The sequence is that of the band, within STRIP or at the end of cast-on to STRIP, not the full one that leads out of it
(R61, R253). -/
def State.bandSequence (s : State) : Bool :=
  (s.modeCode == Mode.STRIP && !(s.mode.cur.any fun tr => tr.stage == .powerUp)) ||
  (s.modeCode == Mode.CAST_ON && s.castTarget == Mode.STRIP)

/-- BRIGHT that governs: the strip's in STRIP (R252), but not on the way out of it (R249). -/
def State.bright (s : State) : Nat :=
  if s.bandSequence then s.fld Reg.EMIT_STRIP_CFG 0 16 else s.fld Reg.EMIT_BRIGHT 0 16

/-- The code of output `n` in band `k` from the settings as latched. -/
def State.codeIn (s : State) (bright n k : Nat) : Nat :=
  irefCode (s.reg (Reg.EMIT_IREF_RAW n)) bright (s.fld (Reg.EMIT_IMAX n) 0 14) (s.fld (Reg.EMIT_BAND (n % 3) k) 0 16)
    (s.bit Reg.EMIT_TCOMP 0)

/-- Band in effect in a zone. -/
def State.band (s : State) (z : Nat) : Nat := s.fld (Reg.EMIT_ZONE_STAT z) 0 3

/-- What this member sources of a code (R397): the whole, or with SHARE = 1 its half, the odd step with the lower chain ID;
a member that has not joined sources nothing (R249). -/
def State.shareOf (s : State) (c : Nat) : Nat :=
  if !s.paired || !s.bit Reg.CHAIN_CFG 2 then c
  else if s.silent then 0
  else if s.bit Reg.CHAIN_STAT 10 then c
  else if s.me.any fun e => e.id < e.partner then (c + 1) / 2 else c / 2

/-- The IREF target of every output now (R237). -/
def State.targets (s : State) : List Nat := (List.range 48).map fun n => s.shareOf (s.codeIn s.bright n (s.band (n / 3)))

/-- Set the code in effect of every output. -/
def State.setCodes (s : State) (codes : List Nat) : State :=
  s.each (List.range 48) fun s n => s.setFld (Reg.EMIT_IREF_STAT n) 0 14 (codes.getD n 0)

/-- Codes in effect. -/
def State.codesNow (s : State) : List Nat := (List.range 48).map fun n => s.fld (Reg.EMIT_IREF_STAT n) 0 14

/-- EMIT_STAT.SEQ. -/
def State.setSeq (s : State) (v : Nat) : State := s.setFld Reg.EMIT_STAT 0 3 v

/-! ## Emission settings of a frame -/

/-- Rates in use as (numerator, denominator) of P in seconds (Table 8-1). -/
def ratePeriod (rate : Nat) : Nat × Nat :=
  match rate with
  | 0 => (1001, 24000) | 1 => (1, 24) | 2 => (1, 25) | 3 => (1001, 30000) | 4 => (1, 30) | 5 => (1001, 48000)
  | 6 => (1, 48) | 7 => (1, 50) | 8 => (1001, 60000) | 9 => (1, 60) | 10 => (1, 96) | 11 => (1, 100) | _ => (1, 120)

/-- REFRESH_MULT after the limit of 3,840 Hz (R180). -/
def limitMult (rate mult : Nat) : Nat :=
  let p := ratePeriod rate
  min mult (3840 * p.1 / p.2)

/-- The window shortened to end with its refresh period (R180). -/
def limitLen (phase len : Nat) : Nat := min len ((65536 - phase) / 16)

/-- The emission settings of the frame that is latched, with the clamp events of R180; a dark or black frame has LEN = 0. -/
def State.latchEmit (s : State) (rate frameNo : Nat) (dark : Bool) : State :=
  let asked := s.fld Reg.SCAN_EMIT 0 8
  let mult := limitMult rate asked
  let phase := s.fld Reg.SCAN_EMIT 16 16
  let want := if dark then 0 else emitLen s.bright (s.fld Reg.SCAN_EMIT_MAX 0 13)
  let len := limitLen phase want
  let s := if mult < asked then s.raise Ev.SCAN_EMIT_CLAMPED [1, asked, mult, frameNo % 2 ^ 16] else s
  let s := if len < want then s.raise Ev.SCAN_EMIT_CLAMPED [2, want, len, frameNo % 2 ^ 16] else s
  let codes := (List.range 48).map fun n => (List.range 8).map fun k => s.codeIn s.bright n k
  let new : EmitSet := { len := len, mult := mult, phase := phase, codes := codes, asked := want, rate := rate }
  { s with emit_ := { s.emit_ with flipping := s.emit_.latched, latched := new } }

/-- Band and temperature of a zone as recognised before this cycle (R240). -/
def State.bandBefore (s : State) (x : ZoneState) : Nat × Int := if x.movedAt = some s.now then x.before else (x.band, x.moveTemp)

/-- Bands recognised before this cycle take effect at the flip ahead (R240). -/
def State.latchBands (s : State) : State :=
  { s with emit_ := { s.emit_ with nextBands := s.emit_.zones.map fun x => (s.bandBefore x).1
                                   nextTemps := s.emit_.zones.map fun x => (s.bandBefore x).2 } }

/-- A cadence starts with the bands in effect: no latch has passed a move to its first flip (R240). -/
def State.keepBands (s : State) : State :=
  { s with emit_ := { s.emit_ with nextBands := (List.range 16).map s.band } }

/-- A ramp or a discharge of this chapter runs (R240). -/
def State.emitSequence (s : State) : Bool := [1, 2, 4, 5].contains (s.fld Reg.EMIT_STAT 0 3)

/-- A zone's band in effect becomes `k`, with its event (R240). -/
def State.applyBand (s : State) (z k : Nat) (t : Int) (frameNo : Nat) : State :=
  if s.band z = k then s
  else
    let s := s.raise Ev.EMIT_BAND_CHANGE [z, s.band z, k, argInt t, frameNo % 2 ^ 16]
    let s := s.setFld (Reg.EMIT_ZONE_STAT z) 0 3 k
    s.setBit (Reg.EMIT_ZONE_STAT z) 3 (decide ((s.emit_.zones.getD z {}).band ≠ k))

/-- At a flip: bands, LEN and codes of the frame that flips (R237, R240). -/
def State.flipEmit (s : State) (frameNo : Nat) : State :=
  if s.emitSequence then s.setFld Reg.EMIT_STAT 16 13 s.emit_.flipping.len
  else
    let s := s.each (List.range 16) fun s z => s.applyBand z (s.emit_.nextBands.getD z 2) (s.emit_.nextTemps.getD z 0) frameNo
    let s := s.setFld Reg.EMIT_STAT 16 13 s.emit_.flipping.len
    if s.emit_.flipping.codes = [] ∨ s.fld Reg.EMIT_STAT 0 3 ≠ 3 then s
    else s.setCodes ((List.range 48).map fun n => s.shareOf ((s.emit_.flipping.codes.getD n []).getD (s.band (n / 3)) 0))

/-! ## Ramps -/

/-- The power-up ramp starts from 0 toward the IREF target (R249). -/
def State.startRampUp (s : State) : State :=
  let c := s.targets
  ({ s with emit_ := { s.emit_ with up := some ⟨c, 0, s.now⟩, down := none } }).setSeq 2

/-- The bind-off ramp starts from the codes in effect (R250). -/
def State.startRampDown (s : State) : State :=
  ({ s with emit_ := { s.emit_ with seqAt := s.now, down := some ⟨s.codesNow, 0, s.now⟩, up := none } }).setSeq 4

/-- Code of a power-up ramp step. -/
def rampUpCode (c k : Nat) : Nat := roundDiv (c * k) 5000
/-- Code of a bind-off ramp step. -/
def rampDownCode (c k : Nat) : Nat := roundDiv (c * (2000 - k)) 2000

/-! ## The temperature of a zone (R239) -/

/-- SOURCE and TEMP of a zone. -/
def State.showZone (s : State) (z : Nat) : State :=
  let (src, t) := s.zoneTemp z
  let s := s.setFld (Reg.EMIT_ZONE_STAT z) 4 2 src
  match t with
  | some v => s.setFld (Reg.EMIT_ZONE_STAT z) 8 16 (unsigned 16 v)
  | none => s

/-- SOURCE and TEMP where one of the sources may have gone. -/
def State.refreshZone (s : State) (z : Nat) : State := if z < 16 then s.showZone z else s

/-! ## Thermistor sampling (R241) -/

/-- Thermistors are sampled from the calibration step of cast-on, once item 0x030 is calibrated (R241). -/
def State.samplingOpen (s : State) : Bool :=
  let step := s.fld Reg.CLKRST_CASTON_STAT 0 4
  s.ready || decide (6 ≤ step) || (step == 5 && s.fld (Reg.HLTH_CAL_STAT 0x30) 0 2 != 0)

/-- Some of PD71 to PD76 is on: the thermistor ADC is powered. -/
def State.adcOn (s : State) : Bool := (List.range 6).any fun b => s.domainOn (71 + b)

/-- Each enabled input starts afresh (R242). -/
def State.startThm (s : State) (inputs : List Nat) : State :=
  let fresh : ThmState := { since := some s.now }
  let thm := s.emit_.thm.zipIdx.map fun x => if inputs.contains x.2 then fresh else x.1
  let s := { s with emit_ := { s.emit_ with thm := thm } }
  s.each inputs fun s n => (s.setReg (Reg.EMIT_THM n) 0).showZone n

/-- Inputs of EMIT_THM_EN. -/
def State.thmEnabled (s : State) : List Nat := bitsOf 16 (s.nat Reg.EMIT_THM_EN)

/-- Sampling stops: every filtered value is discarded (R241). -/
def State.stopThm (s : State) (inputs : List Nat) : State :=
  let none_ : ThmState := {}
  let thm := s.emit_.thm.zipIdx.map fun x => if inputs.contains x.2 then none_ else x.1
  let s := { s with emit_ := { s.emit_ with thm := thm } }
  s.each inputs fun s n => (s.setReg (Reg.EMIT_THM n) 0).showZone n

/-- A zone without a roster tile has SOURCE 0x3 (R239). -/
def State.zoneSources (s : State) : State :=
  s.each (List.range 16) fun s z => if (s.zoneTiles z).isEmpty then s.setFld (Reg.EMIT_ZONE_STAT z) 4 2 3 else s

end Sys2Proof.Machine
end

