-- ==== Sys2Proof/Machine/Otp.lean ====
section
/-! DEFINITION.  What the security unit shows of OTP and the journals (R75, R76, R87), and
the time bases when the time unit comes on. -/

namespace Sys2Proof.Machine

/-- State of a key slot: 0 empty, 1 enrolled, 2 revoked, 3 torn (R76, SEC_SLOT_STAT). -/
def slotState (k : KeySlot) : Nat := if k.revoked then 2 else if k.sealBit then 1 else if k.burnt then 3 else 0

/-! ## Journals (R71, R86); kind 0 leaf, 1 venue, 2 boot -/

/-- MAGIC of a journal's entries (Table 4-8). -/
def journalMagic (k : Nat) : Nat := match k with | 0 => 0x54484C4A | 1 => 0x5448564A | _ => 0x5448424A

/-- A journal entry (Table 4-8). -/
def journalEntry (k v : Nat) : List Byte :=
  let b := leBytes 4 (journalMagic k) ++ leBytes 4 v ++ leBytes 4 (2 ^ 32 - 1 - v % 2 ^ 32)
  b ++ leBytes 4 (crc32 b)

/-- VALUE of an entry whose MAGIC, complement and CRC hold. -/
def entryValue (k : Nat) (e : List Byte) : Option Nat :=
  if e.length = 16 ∧ leAt e 0 4 = journalMagic k ∧ leAt e 4 4 + leAt e 8 4 = 2 ^ 32 - 1 ∧ leAt e 12 4 = crc32 (e.take 12) then some (leAt e 4 4)
  else none

/-- The sector that is written now. -/
def JournalPair.active (j : JournalPair) : List (List Byte) := if j.inSecond then j.second else j.first

/-- It holds its 256 entries, so that the next one erases the other sector and goes there. -/
def JournalPair.full (j : JournalPair) : Bool := 256 ≤ j.active.length

/-- One more entry. -/
def JournalPair.add (j : JournalPair) (e : List Byte) : JournalPair :=
  match j.inSecond, j.full with
  | false, false => { j with first := j.first ++ [e] }
  | true, false => { j with second := j.second ++ [e] }
  | false, true => { j with second := [e], inSecond := true }
  | true, true => { j with first := [e], inSecond := false }

/-- Valid values of a pair. -/
def JournalPair.values (j : JournalPair) (k : Nat) : List Nat := (j.first ++ j.second).filterMap (entryValue k)

/-- The pair of a kind. -/
def Journal.pair (j : Journal) (k : Nat) : JournalPair := match k with | 0 => j.leaf | 1 => j.venue | _ => j.boot
def Journal.setPair (j : Journal) (k : Nat) (p : JournalPair) : Journal :=
  match k with | 0 => { j with leaf := p } | 1 => { j with venue := p } | _ => { j with boot := p }

/-- An entry's write to one flash ends: the entry, or one that is not valid. -/
def Journal.put (j : Journal) (k v : Nat) (ok : Bool) : Journal := j.setPair k ((j.pair k).add (if ok then journalEntry k v else []))

/-- The flash commands of an entry's write to flash `f` (R71, R86). -/
def State.journalOut (s : State) (f k v : Nat) (j : Journal) : State :=
  let p := j.pair k
  let base := 0x1000 + 0x2000 * k
  let second := p.inSecond != p.full
  let at_ := base + 4096 * bitOf second + (if p.full then 0 else 16 * p.active.length)
  let s := if p.full then s.emit (.flash f 0x21 (base + 4096 * bitOf second) 4096) else s
  (s.emit (.flash f 0x12 at_ 16)).emit (.flashData (journalEntry k v))

/-- A journal entry goes to both flashes; the page program holds resets off (R54). -/
def State.journalStart (s : State) (k v : Nat) : State :=
  let s := (s.journalOut 0 k v s.sec.journalA).journalOut 1 k v s.sec.journalB
  { s with rst := { s.rst with flashPulse := some s.now } }

/-- Its writes end. -/
def State.journalEnd (s : State) (k v : Nat) (okA okB : Bool) : State :=
  { s with sec := { s.sec with journalA := s.sec.journalA.put k v okA, journalB := s.sec.journalB.put k v okB } }

/-- Valid values on either flash. -/
def State.journalValues (s : State) (k : Nat) : List Nat := (s.sec.journalA.pair k).values k ++ (s.sec.journalB.pair k).values k

/-- A page program or OTP burn of the security unit is under way (R54). -/
def State.pulses (s : State) : Bool :=
  (s.sec.run.any fun r => r.started && [3, 5, 6, 7, 8, 9].contains r.op) || (s.sec.leaf.any fun x => x.2.isNone) || !s.sec.venueJournal.isEmpty

/-- A pulse has ended: none is in progress unless another one runs. -/
def State.pulseDone (s : State) : State := if s.pulses then s else { s with rst := { s.rst with flashPulse := none } }

/-- Highest valid VALUE of the leaf journals (R87). -/
def State.leafValue (s : State) : Option Nat := (s.journalValues 0).max?

/-- The next leaf at cast-on (R87). -/
def State.nextLeaf (s : State) : Nat :=
  let m := s.sec.otp.leafMarks
  match s.leafValue with
  | some v => if 1 ≤ m ∧ 4096 * (m - 1) ≤ v then v else 4096 * m
  | none => 4096 * m

/-- Number of attestation leaves (R85). -/
def leaves : Nat := 1048576

/-- SEC_LEAF_STAT for a next leaf. -/
def State.setLeaf (s : State) (l : Nat) : State :=
  s.setNat Reg.SEC_LEAF_STAT (l % leaves + bitOf (decide (leaves ≤ l)) * 2 ^ 20)

/-- SEC_OTP_STAT, SEC_SLOT_STAT and the serial (Table 4-11). -/
def State.refreshOtp (s : State) : State :=
  let o := s.sec.otp
  let s := s.setNat Reg.SEC_OTP_STAT (o.fwSvnMin + o.patSvnMin * 2 ^ 8 + o.leafMarks * 2 ^ 16)
  let c := (o.cust.zipIdx.map fun x => slotState x.1 * 4 ^ x.2).sum
  let v := (o.vendor.zipIdx.map fun x => slotState x.1 * 4 ^ x.2).sum
  let s := s.setNat Reg.SEC_SLOT_STAT (c + v * 2 ^ 8)
  (s.setNat Reg.SEC_SERIAL_LO o.serial).setNat Reg.SEC_SERIAL_HI (o.serial / 2 ^ 32)

/-- Highest VSEQ of the venue journals (R89). -/
def State.venueJournalSeq (s : State) : Nat := (s.journalValues 1).max?.getD 0

/-- The security unit comes on. -/
def State.secUp (s : State) : State :=
  let s := (s.refreshOtp.setLeaf s.nextLeaf)
  let s := { s with sec := { s.sec with lastVseq := max s.sec.lastVseq s.venueJournalSeq } }
  s.setNat Reg.SEC_VENUE_SEQ s.sec.lastVseq

/-- A time base that counts nominal nanoseconds from `c` on (R350). -/
def TimeLine.nominal (c value : Nat) : TimeLine := { at_ := c, value := value, addend := 0x14000000000 }

/-- The time unit comes on: every time base starts at 0 (R37). -/
def State.timeUp (s : State) : State :=
  let l := TimeLine.nominal s.now 0
  { s with time := { tb0 := { line := l }, tb1 := { line := l }, tb2 := l, tb3 := l } }

end Sys2Proof.Machine
end

