-- ==== Sys2Proof/Machine/Power.lean ====
section
/-! DEFINITION.  Power domains: what each mode wants on (Table 2-5), switching off and on
(R37 to R39), what a block loses with its last domain, and the HBM-off period of R337. -/

namespace Sys2Proof.Machine

/-! ## What a mode wants (Table 2-5) -/

/-- IDLE, SERVICE and the delivering modes share one column set of Table 2-5, but for the strip buffer. -/
def fullMode (m : Nat) : Bool := m == Mode.IDLE || isDelivering m || m == Mode.SERVICE

/-- Tiles of the STRIP band: those in effect in STRIP and in its bind-off, else those that entry to STRIP will take (R7, R251). -/
def State.bandTiles (s : State) : List Nat :=
  if s.modeCode = Mode.STRIP ∨ s.mode.bandOnly then s.emit_.band else bandOf (s.latest Reg.EMIT_STRIP_TILES)

/-- Panel octet, formatter quadrant and IREF banks that the STRIP band uses (R39). -/
def State.bandDomains (s : State) : List Nat :=
  s.bandTiles.flatMap fun t => match s.tile t with
    | some r => [32 + r.lane / 8, 28 + r.lane / 32, 71 + 3 * r.zone / 8, 71 + (3 * r.zone + 2) / 8]
    | none => []

/-- The request bit of a C domain, as the mode entry that the domains are switched for has it (R7). -/
def State.requested (s : State) (d : Nat) : Bool :=
  if d < 64 then (s.latest Reg.PWR_DOMAIN_REQ1).bit (d - 32) else (s.latest Reg.PWR_DOMAIN_REQ2).bit (d - 64)

/-- Table 2-5: domain `d` is on in mode `m`; in CAST-ON the steps switch what they need. -/
def State.wanted (s : State) (m d : Nat) : Bool :=
  let band := m == Mode.STRIP && s.bandDomains.contains d
  if d = 0 then true
  else if m = Mode.RESET ∨ m = Mode.DEEP then false
  else if d ≤ 3 ∨ d = 52 ∨ d = 78 then true
  else if m = Mode.CAST_ON then s.domainOn d
  else if d ≤ 27 then fullMode m
  else if d ≤ 31 then fullMode m || band
  else if d ≤ 47 then (fullMode m && s.requested d && !s.mode.serviceSafe) || band
  else if d ≤ 49 then m != Mode.STRIP && s.requested d
  else if d ≤ 51 then s.requested d
  else if d ≤ 54 then fullMode m && s.requested d
  else if d ≤ 68 then fullMode m
  else if d ≤ 70 then m != Mode.STRIP
  else if d ≤ 76 then (fullMode m && s.requested d) || band
  else if d = 77 then m == Mode.STRIP || (m == Mode.IDLE && s.requested d)
  else s.requested d

/-! ## Lanes of a domain -/

/-- Lanes that a domain powers (Tables 1-1 and 10-1). -/
def domainLanes (d : Nat) : List Nat :=
  if 32 ≤ d ∧ d ≤ 47 then ((List.range 8).map fun i => 8 * (d - 32) + i) ++ (List.range 8).map fun i => 0x80 + 8 * (d - 32) + i
  else if d = 48 ∨ d = 49 then (List.range 8).map fun i => 0x100 + 8 * (d - 48) + i
  else if d = 50 ∨ d = 51 then (List.range 4).map fun i => 0x110 + 4 * (d - 50) + i
  else if d = 52 then (List.range 16).map (· + 0x118)
  else if d = 53 ∨ d = 54 then (List.range 4).map fun i => 0x128 + 4 * (d - 53) + i
  else []

/-- A lane that its configuration uses: panel lanes of roster tiles, chain ports of a chained device, enabled Ethernet ports and root ports, PCIe. -/
def State.laneUsed (s : State) (l : Nat) : Bool :=
  match laneGroup l with
  | 0 => (s.tileOfLane l).isSome
  | 1 => (s.tileOfLane (l - 0x80)).isSome
  | 2 => s.chain.chained && s.bit (Reg.CHAIN_PORT_CFG ((l - 0x100) / 4)) 0
  | 3 => s.bit (Reg.NET_PORT_CFG ((l - 0x110) / 4)) 0
  | 4 => true
  | _ => s.bit Reg.STORE_CFG ((l - 0x128) / 4)

/-- Items that no calibration since cast-on has covered are calibrated, behind those in progress (R411). -/
def State.calibrate (s : State) (items : List Nat) : State :=
  let due := items.filter fun i => s.fld (Reg.HLTH_CAL_STAT i) 0 2 == 0 && !s.health.cal.any fun c => c.items.contains i
  let old : CalRun := s.health.cal.getD { items := [], since := s.now }
  if due.isEmpty then s else { s with health := { s.health with cal := some { old with items := old.items ++ due } } }

/-- The calibration step of cast-on has been reached (R411). -/
def State.calReached (s : State) : Bool := s.ready || decide (5 ≤ s.fld Reg.CLKRST_CASTON_STAT 0 4)

/-- A lane starts, with its trim in effect (R414), at CAL, measured at its first CAL since cast-on; PCIe host and NVMe lanes report
DETECT meanwhile (R220, R411). -/
def State.startLane (s : State) (l : Nat) : State :=
  ((s.applyCal (0x100 + l)).setStage l (if 4 ≤ laneGroup l then 2 else 1)).calibrate [0x100 + l]

/-- Item of TRIM_SEL that a calibration item belongs to (Table 3-4): PLL, IREF, thermistor ADC, die sensors, SerDes. -/
def trimGroup (i : Nat) : Nat := if i < 0x30 then 1 else if i = 0x30 then 2 else if i = 0x31 then 0 else if i < 0x60 then 3 else 4

/-- FACTORY values from the OTP rows that TRIM_SEL selects (R413). -/
def State.loadFactory (s : State) : State :=
  let o := s.sec.otp
  let row (i : Nat) : Nat := s.caston.opts.trimSel / 4 ^ trimGroup i % 4
  let s := s.each o.trims fun s (x : Nat × Nat) => if row x.1 = 0 then s.setNat (Reg.HLTH_CAL_FACTORY x.1) (x.2 % 2 ^ 16) else s
  s.each o.altTrims fun s (x : Nat × Nat × Nat) => if row x.2.1 = x.1 then s.setNat (Reg.HLTH_CAL_FACTORY x.2.1) (x.2.2 % 2 ^ 16) else s

/-- The health unit comes on: FACTORY values from OTP, and the sequencer starts (R403, R413). -/
def State.healthUp (s : State) : State :=
  let s := s.loadFactory
  { s with health := { s.health with lastRound := s.now } }

/-- An Ethernet port comes on: its MAC address from OTP (Table 16-5). -/
def State.netUp (s : State) (x : Nat) : State :=
  let m := if x = 0 then s.sec.otp.macA else s.sec.otp.macB
  (s.setNat (Reg.NET_MAC_LO x) m).setNat (Reg.NET_MAC_HI x) (m / 2 ^ 32 % 2 ^ 16)

/-- A lane is off: electrical idle, no state (R37). -/
def State.dropLane (s : State) (l : Nat) : State :=
  let s := (s.endRuns l).setReg (Reg.LANE_STATE l) 0
  let s := { s with lanes := { s.lanes with lanes := mapErase s.lanes.lanes l } }
  -- a root port without lanes has no drive
  if laneGroup l = 5 ∧ s.fld (Reg.STORE_DRV_STAT ((l - 0x128) / 4)) 0 2 ≠ 3 then s.setFld (Reg.STORE_DRV_STAT ((l - 0x128) / 4)) 0 2 0 else s

/-! ## The HBM-off period (R337) -/

/-- The period begins, unless it runs. -/
def State.beginHbmOff (s : State) : State :=
  if s.dport.period.isSome then s
  else ({ s with dport := { s.dport with period := some (s.modeCode, 0) } }).setBit Reg.DPORT_STAT 4 true

/-- A DMA channel that runs and has entries starts its next one, outside the HBM-off period (R335, R337). -/
def State.dmaKick (s : State) (c : Nat) : State :=
  if s.bit (Reg.DPORT_DMA_CFG c) 0 && !s.bit (Reg.DPORT_DMA_STAT c) 0 && s.dport.period.isNone &&
      s.fld (Reg.DPORT_DMA_TAIL c) 0 15 != s.fld (Reg.DPORT_DMA_HEAD c) 0 15 then s.setBit (Reg.DPORT_DMA_STAT c) 0 true
  else s

/-- The period ends with its event, when a TLP arrived in it. -/
def State.endHbmOff (s : State) : State :=
  match s.dport.period with
  | none => s
  | some (m, n) =>
    let s := ({ s with dport := { s.dport with period := none } }).setBit Reg.DPORT_STAT 4 false
    let s := s.each [0, 1, 2, 3] State.dmaKick
    let s := if s.sec.venueStale then s.restoreVenue else s
    if n = 0 then s else s.raise Ev.DPORT_HBM_OFF [n, m]

/-- PD55 to PD62 go off: into state S of SAFE, or with the content lost (R38). -/
def State.hbmOff (s : State) (toS : Bool) : State :=
  let s := s.beginHbmOff
  if toS then
    -- an exit under way is complete before the stack enters self-refresh again (R36)
    let s := if s.power.srExit then s.exitSR else s
    ({ s with hbm := { s.hbm with stateS := true, retime := false, retimeLater := s.hbm.retime || s.hbm.retimeLater } }).enterSR
  else
    let s := { s with power := { s.power with srExit := false } }
    -- a retirement that had not ended its migration stands (R271)
    let s := s.each ((List.range 16).filter fun p => s.pcState p == 2) fun s p =>
      (s.setFld (Reg.HBM_PC_STAT p) 0 2 3).setFld (Reg.HBM_PC_STAT p) 4 5 0x1F
    let s := { s with hbm := { s.hbm with stateS := false, wasOff := true, retime := false, retimeLater := false, migr := none, waiting := [] } }
    (((s.dropContent.setBit Reg.GLB_MODE_STAT 9 false).setBit Reg.HBM_STAT 1 false).setBit Reg.HBM_STAT 5 false).setBit Reg.HBM_MIGR_STAT 9 false

/-- NVME_PERST_N of a root port is driven low but where the port's domain is on after cast-on (R52). -/
def State.showPerst (s : State) : State :=
  let low (d : Nat) : Nat := bitOf (!(s.ready && s.domainOn (53 + d)))
  { s with pins := { s.pins with nvmePerst := low 0 + 2 * low 1 } }

/-! ## Switching off -/

/-- The HBM block without its interface logic (R37).  HBM_CFG, HBM_FORCE and the retired pseudo-channels stay, as R258 and R271
use them at the next power-up; so do, in state S, where the content lies, the operating point and the timing sets (R38). -/
def State.loseHbm (s : State) : State :=
  let s := [Reg.HBM_RETIRE_CFG, Reg.HBM_SCRUB_CFG, Reg.HBM_SCRUB_STAT, Reg.HBM_LOST_CLR_BLK, Reg.HBM_LOST_CLR_CNT].foldl
    (fun s a => s.resetRange a (a + 4)) s
  let s := s.each (List.range 16) fun s p => s.setFld (Reg.HBM_PC_STAT p) 16 16 0
  let s := s.setFld Reg.HBM_LOST_STAT 19 13 0
  let s := { s with hbm := { s.hbm with alerts := [], postponed := List.replicate 16 0, reports := [], scrubSlot := 0, scrubLine := 0
                                        scrubWait := none, scrubHeld := none, scrubForced := none } }
  if s.hbm.stateS then s
  else
    let s := [Reg.HBM_OPP, Reg.HBM_MIGR_STAT].foldl (fun s a => s.resetRange a (a + 4)) s
    let s := s.resetRange (Reg.HBM_TSET 0 0) (Reg.HBM_TSET 2 0)
    (s.setBit Reg.HBM_STAT 0 false).setBit Reg.GLB_CLK_STAT 2 false

/-- What a block loses when its last domain goes off (R37).  EMIT_STRIP_TILES stays, as Table 2-2 uses it across such a time. -/
def State.loseBlock (s : State) (n : Nat) : State :=
  match n with
  | 4 => let s := s.resetBlock 4
         { s with sec := { s.sec with run := none, leaf := none, venueJob := none, venueReady := [], venueJournal := [] } }
  | 7 => let s := s.resetBlock 7
         { s with frame := { s.frame with cadence := none, cur := none, next := none, boundary := false, go := none, links := [] } }
  | 8 => let s := s.resetBlock 8
         { s with spk := {} }
  | 10 =>
    let w := s.latest Reg.EMIT_STRIP_TILES
    let s := (s.resetBlock 10).setReg Reg.EMIT_STRIP_TILES w
    { s with emit_ := {} }
  | 11 => s.loseHbm
  | 12 => let s := s.resetBlock 12
          { s with hank := {} }
  | 13 => let s := s.resetBlock 13
          { s with needle := {} }
  | 14 => let s := s.resetBlock 14
          { s with store := {} }
  | 15 => let s := s.resetBlock 15
          { s with dport := { s.dport with prefetch := [], range := [] } }
  | 16 => let s := s.resetBlock 16
          { s with net := {} }
  | 17 => let s := s.resetBlock 17
          { s with time := {} }
  | 18 => let s := s.resetBlock 18
          { s with traf := {} }
  | 19 => let s := s.resetBlock 19
          { s with chain := {} }
  | 20 => let s := s.resetBlock 20
          { s with health := {} }
  | n => s.resetBlock n

/-- Blocks that a domain holds. -/
def blocksOfDomain (d : Nat) : List Nat := (List.range 21).filter fun n => (blockDomains n).contains d

/-- Register ranges that one domain of a block with several holds by itself (R37): an octet's lanes and tiles, a formatter quadrant's
tiles, a pair of chain ports, an Ethernet port, a drive, an IREF bank. -/
def State.unitRanges (s : State) (d : Nat) : List (Nat × Nat) :=
  let one (a n : Nat) : Nat × Nat := (a, a + 4 * n)
  if 28 ≤ d ∧ d ≤ 31 then
    (s.tiles.filter fun t => s.laneOfTile t / 32 == d - 28).flatMap fun t => [one (Reg.SCAN_TILE_CFG t) 1, one (Reg.SCAN_TILE_STAT t) 1]
  else if 32 ≤ d ∧ d ≤ 47 then
    ((domainLanes d).map fun l => one (Reg.LANE_CFG l) 8) ++
    ((s.tiles.filter fun t => s.laneOfTile t / 8 == d - 32).flatMap fun t =>
      [one (Reg.SPK_TILE_STAT t) 1, one (Reg.SPK_TILE_DELAY t) 1, one (Reg.SPK_TILE_FEC t) 1, one (Reg.SPK_TILE_BC t 0) 16]) ++
    ((List.range 8).map fun i => one (Reg.SPK_LANE_ERR (8 * (d - 32) + i)) 1)
  else if d = 48 ∨ d = 49 then
    one (Reg.CHAIN_PORT_CFG (2 * (d - 48))) 8 :: (domainLanes d).map fun l => one (Reg.LANE_CFG l) 8
  else if d = 50 ∨ d = 51 then (domainLanes d).map fun l => one (Reg.LANE_CFG l) 8
  else if d = 53 ∨ d = 54 then
    one (Reg.STORE_DRV_STAT (d - 53)) 4 :: (domainLanes d).map fun l => one (Reg.LANE_CFG l) 8
  else if d = 52 then (domainLanes d).map fun l => one (Reg.LANE_CFG l) 8
  else if 71 ≤ d ∧ d ≤ 76 then
    let n := 8 * (d - 71)
    [one (Reg.EMIT_IMAX n) 8, one (Reg.EMIT_IREF_STAT n) 8, one (Reg.EMIT_IREF_RAW n) 8]
  else if d = 77 then [one (Reg.EMIT_STRIP_BUF 0) 65536]
  else []

/-- What one such domain holds beside its registers. -/
def State.dropUnit (s : State) (d : Nat) : State :=
  let s := s.each (s.unitRanges d) fun s r => s.resetRange r.1 r.2
  if d = 48 ∨ d = 49 then
    let p := 2 * (d - 48)
    { s with chain := { s.chain with ports := (s.chain.ports.set p {}).set (p + 1) {} } }
  else if d = 50 ∨ d = 51 then
    let x := d - 50
    let mine (a : Nat) : Bool := resetCovers (0x0B + x) a
    { s with regs := s.regs.filter fun r => !mine r.1
             rws := s.rws.filter fun r => !mine r.addr
             atMode := s.atMode.filter fun r => !mine r.addr
             traf := { s.traf with ports := s.traf.ports.set x {} }
             net := { s.net with echo := s.net.echo.set x (0, 0), cueDrop := s.net.cueDrop.set x (none, 0) } }
  else if d = 53 ∨ d = 54 then
    { s with store := { s.store with inflight := s.store.inflight.filter fun c => c.drive != d - 53
                                     fails := s.store.fails.filter fun x => x.1 != d - 53
                                     barred := s.store.barred.filter fun x => x.1 != d - 53 } }
  else s

/-- A domain goes off: its lanes, its blocks' state, the strip buffer (R37). -/
def State.dropDomain (s : State) (d : Nat) : State :=
  let s := (s.setDomain d false).dropUnit d
  let s := if (domainLanes d).isEmpty then s else (s.each (domainLanes d) State.dropLane).refreshLanes
  let s := if 32 ≤ d ∧ d ≤ 47 then
      (s.each (s.tiles.filter fun t => s.laneOfTile t / 8 == d - 32) fun s t =>
        (s.setTile t {}).refreshZone (((s.tile t).map (·.zone)).getD 16)).refreshSpk
    else s
  let s := if 71 ≤ d ∧ d ≤ 76 then
      let s := s.refreshOwned
      if s.adcOn then s else s.stopThm (List.range 16)
    else s
  (s.each (blocksOfDomain d) fun s n => if s.blockOn n then s else s.loseBlock n).showPerst

/-- PWR_SEQ_STAT.BUSY. -/
def State.refreshSeq (s : State) : State :=
  s.setBit Reg.PWR_SEQ_STAT 0 (!(s.power.queue.isEmpty && s.power.rising.isEmpty))

/-- Domains that `m` wants and that are off, in ascending order. -/
def State.missing (s : State) (m : Nat) : List Nat := (List.range 80).filter fun d => s.wanted m d && !s.domainOn d

/-- Some domains as mode `m` has them: those it does not want go off in reverse order, those it lacks wait for their switch-on
(R37, R39). -/
def State.switchAmong (s : State) (ds : List Nat) (m : Nat) : State :=
  let off := (ds.filter fun d => s.domainOn d && !s.wanted m d).reverse
  let on := (s.missing m).filter ds.contains
  let s := s.each off State.dropDomain
  let q := s.power.queue.filter fun d => !ds.contains d
  ({ s with power := { s.power with queue := q ++ on.filter fun d => !s.power.rising.any fun r => r.1 == d
                                    rising := s.power.rising.filter fun r => !ds.contains r.1 || on.contains r.1 } }).refreshSeq

/-- The domains of mode `m`. -/
def State.switchDomains (s : State) (m : Nat) : State :=
  let s := if s.domainOn 55 ∧ !s.wanted m 55 then s.hbmOff (m == Mode.SAFE)
    else if s.hbm.stateS ∧ m ≠ Mode.SAFE ∧ !s.wanted m 55 then s.hbmOff false else s
  s.switchAmong (List.range 80) m

/-- Ask for further domains in CAST-ON, as a step needs them. -/
def State.askDomains (s : State) (ds : List Nat) : State :=
  let new := ds.filter fun d => !s.domainOn d && !s.power.queue.contains d && !s.power.rising.any fun r => r.1 == d
  ({ s with power := { s.power with queue := s.power.queue ++ new } }).refreshSeq

/-- No domain waits for its switch-on or its power good. -/
def State.powerIdle (s : State) : Bool := s.power.queue.isEmpty && s.power.rising.isEmpty

/-! ## Switching on -/

/-- A block's first domain is on: what the pattern or the power-up places in its registers. -/
def State.blockUp (s : State) (n : Nat) : State :=
  match n with
  | 4 => s.secUp
  | 6 => s.rayUp
  | 8 => s.loadRoster
  | 9 => s.loadRoster
  | 10 => s.zoneSources.refreshOwn
  | 17 => s.timeUp
  | 19 =>
    let s := s.chainRoles
    { s with chain := { s.chain with handshake := s.ready } }
  | 20 => s.healthUp
  | _ => s

/-- All of PD55 to PD62 are on: outside CAST-ON the stack powers up at once; out of state S it then leaves self-refresh (R38, R258). -/
def State.hbmDomainsUp (s : State) : State :=
  if s.modeCode = Mode.CAST_ON then s
  else if s.hbm.stateS then
    let s := s.hbmPowerUp
    { s with power := { s.power with srExit := true } }
  else s.hbmPowerUp.endHbmOff

/-- A domain is on: power good, reset released, clock enabled, isolation released (R37). -/
def State.bringUp (s : State) (d : Nat) : State :=
  let first := (blocksOfDomain d).filter fun n => !s.blockOn n
  let adc := s.adcOn
  let s := s.setDomain d true
  let s := s.each first State.blockUp
  let s := if 71 ≤ d ∧ d ≤ 76 then
      -- before the thermistor ADC is calibrated in cast-on no input is sampled (R241)
      let s := s.refreshOwned
      -- a bank that was off at the calibration step is calibrated now (R411)
      let s := if s.calReached then s.calibrate ((List.range 8).map (8 * (d - 71) + ·)) else s
      -- the trims in effect take their places again (R413)
      let s := s.each ((List.range 8).map (8 * (d - 71) + ·)) State.applyCal
      if adc ∨ !s.samplingOpen then s else s.startThm s.thmEnabled
    else s
  -- root-port lanes stay in electrical idle until the end of cast-on (R52)
  let s := s.each ((domainLanes d).filter fun l => s.laneUsed l && (s.ready || laneGroup l != 5)) State.startLane
  let s := s.showPerst
  let s := if 32 ≤ d ∧ d ≤ 47 then ({ s with power := { s.power with panelOn := s.now } }).loadRoster else s
  let s := if d = 50 ∨ d = 51 then s.netUp (d - 50) else s
  if 55 ≤ d ∧ d ≤ 62 ∧ (List.range 8).all (fun i => s.domainOn (55 + i)) then s.hbmDomainsUp else s

/-- DOMAIN_SWITCH_ON_START (R37): at most one switch-on per 25 µs; power good is due within 200 µs. -/
def execDomainSwitchOnStart (t : Nat) (s : State) : Res :=
  let s := s.advance t
  .next (match s.power.queue with
    | [] => s
    | d :: ds =>
      if limited s.power.lastStart (us 25) s.now then s
      else ({ s with power := { s.power with queue := ds, lastStart := some s.now
                                             rising := s.power.rising ++ [(d, s.now + us 200)] } }).refreshSeq)

/-- Power good of a rising domain, in time (R17, R37). -/
def State.powerGood (s : State) (d : Nat) : State :=
  match s.power.rising.find? fun r => r.1 == d with
  | none => s
  | some r =>
    if r.2 < s.now then s
    else
      let s := { s with power := { s.power with rising := s.power.rising.filter fun r => r.1 != d } }
      (s.bringUp d).refreshSeq

/-- DOMAIN_POWER_GOOD (R37). -/
def execDomainPowerGood (t : Nat) (domain : Fin 80) (s : State) : Res :=
  .next ((s.advance t).powerGood domain)

/-- HBM_SR_EXIT_DONE (R36, R259): the stack is out of self-refresh. -/
def execHbmSrExitDone (t : Nat) (s : State) : Res :=
  let s := s.advance t
  .next (if s.power.srExit ∧ s.selfRefresh ∧ s.domainOn 55 then s.exitSR.endHbmOff else s)

end Sys2Proof.Machine
end

