-- ==== Sys2Proof/Machine/Cadence.lean ====
section
/-! DEFINITION.  The frame cadence: flip instants (R166), delivery windows (R168, R169),
the boundary a commit or a transition selects (R171), and the start of a cadence (R473). -/

namespace Sys2Proof.Machine

/-! ## Instants -/

/-- P in ns as numerator and denominator. -/
def periodNs (rate : Nat) : Nat × Nat := ((ratePeriod rate).1 * 1000000000, (ratePeriod rate).2)

/-- φ reduced into 0 ≤ φ < P, times the denominator of P (R166). -/
def phaseIn (rate : Nat) (phase : Int) : Nat := ((phase * (periodNs rate).2) % ((periodNs rate).1 : Int)).toNat

/-- rnd(k × P + φ), ns from the origin of the alignment (R166). -/
def instantOf (rate : Nat) (phase : Int) (k : Nat) : Nat :=
  let p := periodNs rate
  (2 * (k * p.1 + phaseIn rate phase) + p.2) / (2 * p.2)

/-- The least k whose instant is not earlier than `x`. -/
def firstIndex (rate : Nat) (phase : Int) (x : Nat) : Nat :=
  let p := periodNs rate
  ceilDiv (2 * p.2 * x - p.2 - 2 * phaseIn rate phase) (2 * p.1)

/-- Origin of a cadence: the PTP epoch, or the anchor. -/
def Cadence.origin (c : Cadence) : Nat := if c.align = 1 then c.anchor else 0

/-- Flip instant of index k, flat ns. -/
def Cadence.instant (c : Cadence) (k : Nat) : Nat := c.origin + instantOf c.rate c.phase k

/-- The first index whose instant is not earlier than `x`. -/
def Cadence.first (c : Cadence) (x : Nat) : Nat := firstIndex c.rate c.phase (x - c.origin)

/-- Frame count of index k (R166). -/
def Cadence.count (c : Cadence) (k : Nat) : Nat :=
  if c.align = 1 then c.anchorCount + (k - c.anchorPos) else k

/-- The cadence that the SCAN registers name, from index 0 and count 0. -/
def State.scanCadence (s : State) : Cadence :=
  { rate := s.fld Reg.SCAN_TIMING 0 4, align := s.fld Reg.SCAN_TIMING 4 2, phase := signed 32 (s.nat Reg.SCAN_PHASE)
    anchor := s.nat Reg.SCAN_ANCHOR_LO + s.nat Reg.SCAN_ANCHOR_HI * 2 ^ 32, anchorCount := 0, anchorPos := 0 }

/-- The STRIP cadence (R252): 30 Hz, epoch alignment, φ = 0. -/
def stripCadence : Cadence := { rate := 4, align := 0, phase := 0, anchor := 0, anchorCount := 0, anchorPos := 0 }

/-! ## Windows -/

/-- Native views across and down that this device sends of a tile (Table 9-6). -/
def State.sentViews (s : State) (r : RosterTile) : Nat :=
  if s.fld Reg.SPK_CFG 0 2 = 2 then
    (if s.bit Reg.SPK_CFG 2 then r.nu * (r.nv / 2) else r.nu * ceilDiv r.nv 2)
  else r.nu * r.nv

/-- Native courses of a tile and hogels per course. -/
def tileCourses (r : RosterTile) : Nat × Nat := if r.rot % 2 = 1 then (r.tw, r.th) else (r.th, r.tw)

/-- Stitches per course of a tile in a form (R168). -/
def State.courseStitches (s : State) (r : RosterTile) (f : Form) : Nat :=
  match f with
  | .full => (tileCourses r).2 * s.sentViews r
  | _ => (tileCourses r).2

/-- B_t: blocks that a tile's frame takes (R168). -/
def State.tileBlocks (s : State) (r : RosterTile) (f : Form) : Nat :=
  (tileCourses r).1 * (ceilDiv (s.courseStitches r f) 8 + 2)

/-- t_WIN_auto in µs over some tiles (R168). -/
def State.autoWindow (s : State) (ts : List RosterTile) (f : Form) : Nat :=
  ceilDiv (8 * (ts.foldl (fun m r => max m (s.tileBlocks r f)) 0)) 1547

/-- t_WIN in µs of a form (R168). -/
def State.windowOf (s : State) (f : Form) : Nat :=
  let w := s.fld Reg.SCAN_TIMING 16 16
  if w = 0 then s.autoWindow s.roster f else w

/-- t_BND in ns. -/
def tBnd : Nat := 100000

/-! ## Which boundary is next -/

/-- Frame count that follows `f`. -/
def State.countAfter (s : State) (f : FrameInfo) : Nat :=
  match s.frame.cadence with
  | some c => if c.align = 1 then f.count + 1 else c.first (f.flip + 1)
  | none => f.count + 1

/-- Control cycles from now to a show time. -/
def State.cyclesTo (s : State) (ns : Nat) : Nat := nsCycles (ns - s.showNs)

/-- Cycle of the next latch instant, and the frame whose window closes there. -/
def State.closing (s : State) : Option (Nat × FrameInfo) :=
  match s.frame.cadence, s.frame.cur with
  | some _, some f =>
    if s.frame.boundary then s.frame.next.map fun g => (s.now + s.cyclesTo f.flip + us g.window, g)
    else some (s.frame.openedAt + us f.window, f)
  | _, _ => none

/-- Cycle of the next latch instant, and the frame count it latches. -/
def State.nextLatch (s : State) : Option (Nat × Nat) := s.closing.map fun x => (x.1, s.countAfter x.2)

/-- Length of a frame period in cycles, rounded down. -/
def State.periodCycles (s : State) : Nat :=
  match s.frame.cadence with
  | some c => (periodNs c.rate).1 * 2 / (5 * (periodNs c.rate).2)
  | none => 0

/-- t_GUARD in cycles (R171). -/
def tGuard : Nat := 8000

/-- Count of the first frame whose latch lies at least t_GUARD after now, and whether the guard moved it past the first latch ahead. -/
def State.selectLatch (s : State) : Option (Nat × Bool) :=
  (s.nextLatch).map fun (l, c) => if s.now + tGuard ≤ l then (c, false) else (c + 1, true)

/-- Form in which a mode's frames are sent (R176). -/
def State.formOf (s : State) (m : Nat) : Form :=
  if m = Mode.PREVIEW then .flat
  else if m = Mode.SWATCH then (if s.fld Reg.SCAN_SWATCH 0 4 ≤ 3 then .flat else .full)
  else if isDelivering m then .full
  else .dark

/-- A frame of a cadence at index k. -/
def State.frameAt (s : State) (c : Cadence) (k : Nat) (f : Form) (m : Nat) : FrameInfo :=
  { count := c.count k, flip := c.instant k, window := s.windowOf f, form := f, mode := m }

/-- The registers that show the frame in delivery. -/
def State.showFrame (s : State) (f : FrameInfo) : State :=
  let s := (s.setNat Reg.SCAN_FRAME f.count).setFld Reg.SCAN_STAT 16 16 f.count
  let s := (s.setNat Reg.SCAN_FLIP_LO f.flip).setNat Reg.SCAN_FLIP_HI (f.flip / 2 ^ 32)
  s.setFld Reg.RAY_STAT 16 16 f.count

/-! ## The frame that follows -/

/-- Index of a frame count on a cadence. -/
def Cadence.index (c : Cadence) (n : Nat) : Nat := if c.align = 1 then c.anchorPos + (n - c.anchorCount) else n

/-- P − t_BND in whole µs (R169). -/
def clampedWindow (rate : Nat) : Nat := ((periodNs rate).1 / (periodNs rate).2 - tBnd) / 1000

/-- A window of `w` µs that opens at the flip of `f` leaves less than t_BND before `flip` (R169). -/
def windowShort (f : FrameInfo) (flip w : Nat) : Bool := decide (flip < f.flip + 1000 * w + tBnd)

/-- The frame behind `f` on a cadence, its window clamped where it must be (R166, R169). -/
def State.frameBehind (s : State) (c : Cadence) (f : FrameInfo) (form : Form) (m : Nat) : FrameInfo :=
  let n := s.countAfter f
  let flip := c.instant (c.index n)
  let w := s.windowOf form
  { count := n, flip := flip, window := if windowShort f flip w then clampedWindow c.rate else w, form := form, mode := m }

/-- SCAN_WINDOW_CLAMPED for a frame whose window was asked to be `w` (R169). -/
def State.reportClamp (s : State) (f g : FrameInfo) (w : Nat) : State :=
  if windowShort f g.flip w then s.raise Ev.SCAN_WINDOW_CLAMPED [w, g.window, g.count % 2 ^ 16] else s

/-- The cadence that a commit places (R167): none when RATE, ALIGN, PHASE and ANCHOR are unchanged. -/
def State.newCadence (s : State) : Option Cadence :=
  match s.frame.cadence with
  | none => none
  | some c =>
    let d := s.scanCadence
    if c.rate = d.rate ∧ c.align = d.align ∧ c.phase = d.phase ∧ c.anchor = d.anchor then none else some d

/-- First frame on a new cadence, after frame `f`: the cadence with its anchor count, and the index (R167). -/
def placeOn (c : Cadence) (f : FrameInfo) (window : Nat) : Cadence × Nat :=
  let k := c.first (f.flip + 1000 * window + tBnd)
  if c.align = 1 then ({ c with anchorPos := k, anchorCount := f.count + 1 }, k)
  else (c, if k % 2 ^ 16 = f.count % 2 ^ 16 then k + 1 else k)

/-! ## The boundary of a pending GO -/

/-- A cadence whose boundaries apply commits runs (R473): not that of STRIP, which ends with the band's dark flip. -/
def State.commitCadence (s : State) : Bool := s.cadenceRuns && s.modeCode != Mode.STRIP && !s.mode.bandOnly

/-- A transition selects the boundary whose latch falls in cycle `l` and has this count (R29, R31, R389). -/
def Transition.selects (tr : Transition) (l count : Nat) : Bool :=
  (tr.stage == .latch || tr.stage == .bindLatch) &&
  (match tr.frame with
    | none => decide (tr.accepted + tGuard ≤ l)
    | some n => fenceReached count n)

/-- Form that the boundary in cycle `l` behind a frame of this count latches, as far as is known (Table 8-2). -/
def State.formAhead (s : State) (l count : Nat) : Form :=
  match s.mode.cur with
  | some tr => if tr.selects l count then (if tr.stage == .bindLatch then .black else s.formOf tr.target) else s.formOf s.modeCode
  | none => s.formOf s.modeCode

/-- The SCAN settings that place a frame, as a commit leaves them: with their waiting writes. -/
def State.scanAhead (s : State) : State :=
  s.each [Reg.SCAN_TIMING, Reg.SCAN_PHASE, Reg.SCAN_ANCHOR_LO, Reg.SCAN_ANCHOR_HI, Reg.SCAN_SWATCH] fun s a => s.setReg a (s.latest a)

/-- Frame count that the boundary in cycle `l` at the close of `f`'s window latches when it applies the commit (R167, R171). -/
def State.goCount (s : State) (l : Nat) (f : FrameInfo) : Nat :=
  let u := s.scanAhead
  match u.newCadence with
  | some d => let p := placeOn d f (u.windowOf (u.formAhead l (s.countAfter f))); p.1.count p.2
  | none => s.countAfter f

/-- The frame that the next boundary latches without a commit, and the cycle in which its own window closes. -/
def State.behind (s : State) (l : Nat) (f : FrameInfo) : Nat × FrameInfo :=
  match s.frame.cadence with
  | some c =>
    let g := s.frameBehind c f (s.formAhead l (s.countAfter f)) s.modeCode
    (s.now + s.cyclesTo f.flip + us g.window, g)
  | none => (l, f)

/-- Count that a pending GO's boundary latches: the first boundary when the guard allows it, or its named frame is reached there, else
the one behind it (R171, R389). -/
def State.aimed (s : State) (go : Nat × Option Nat) : Option Nat :=
  s.closing.map fun x =>
    let k := s.goCount x.1 x.2
    let first : Bool := match go.2 with
      | none => decide (go.1 + tGuard ≤ x.1)
      | some n => fenceReached k n
    if first then k else let y := s.behind x.1 x.2; s.goCount y.1 y.2

/-- TARGET shows the frame number that the boundary of the pending GO latches (R171). -/
def State.aim (s : State) : State :=
  match s.frame.go.bind s.aimed with
  | some k => s.setFld Reg.SCAN_COMMIT 16 16 k
  | none => s

/-- A change that can place the frame of a pending GO elsewhere: TARGET follows. -/
def State.retarget (s : State) : State := if s.commitCadence then s.aim else s

/-! ## The start and the end of a cadence -/

/-- A cadence starts: nothing is in delivery until its first instant, at which the window of its second frame opens; that window keeps
t_BND before its flip (R169). -/
def State.startCadence (s : State) (m : Nat) : State :=
  let c := if m = Mode.STRIP then stripCadence else s.scanCadence
  let k := c.first s.showNs
  let c := if c.align = 1 then { c with anchorPos := k, anchorCount := 0 } else c
  let f0 := { s.frameAt c k .dark m with window := 0 }
  let f1 := s.frameAt c (k + 1) .dark m
  let w := f1.window
  let f1 := if windowShort f0 f1.flip w then { f1 with window := clampedWindow c.rate } else f1
  let s := { s with frame := { s.frame with cadence := some c, cur := some f0, next := some f1, boundary := true,
                                            links := [], darkRest := false } }
  let s := s.setBit Reg.SCAN_STAT 0 true
  -- a GO kept while no frame cadence ran takes its target now; the STRIP cadence applies no commit (R473)
  let s := s.keepBands
  if m = Mode.STRIP then s else (s.reportClamp f0 f1 w).aim

/-- A frame is sent to the tiles: its number joins those sent (R203). -/
def State.noteSent (s : State) (n : Nat) : State :=
  { s with frame := { s.frame with sent := match s.frame.sent with
                                           | (a, b) :: r => if n = b + 1 then (a, n) :: r else (n, n) :: (a, b) :: r
                                           | [] => [(n, n)] } }

/-- The cadence stops. -/
def State.stopCadence (s : State) : State :=
  let s := { s with frame := { s.frame with cadence := none, cur := none, next := none, boundary := false, links := [], fetches := [],
                                            issued := [], eligible := [], started := [], taken := [], spansDone := [], spanOut := [],
                                            darkRest := false } }
  let s := s.setBit Reg.EMIT_STAT 3 false
  if s.frame.go.isSome then s.setFld Reg.SCAN_COMMIT 16 16 0 else s

end Sys2Proof.Machine
end

