-- ==== Sys2Proof/Machine/Lane.lean ====
section
/-! DEFINITION.  Serial lanes (chapter 10): the stages of Table 10-3, polarity, lane order and preset search, failed
attempts, the figure of merit, background calibration, test patterns and error injection. -/

namespace Sys2Proof.Machine

/-! ## Back-channel frames, as the lanes use them -/

/-- A back-channel frame whose framing, FORMAT and CRC hold (R202, R203). -/
def bcValid (f : List Byte) : Bool := f.length == 64 && leAt f 0 1 == 1 && leAt f 0x3E 2 == crc16 (f.take 0x3E)

/-- A frame reports lock on this device's port (R211, R221). -/
def State.bcLock (s : State) (f : List Byte) : Bool := (leAt f 0x06 2).testBit (s.fld Reg.SPK_CFG 2 1)

/-- A valid frame that arrives on panel lane `l` in this cycle and satisfies `p` (R17). -/
def State.bcNow (s : State) (l : Nat) (p : List Byte → Bool) : Bool :=
  s.sameCycle fun i => match i with
    | .backchannelFrame _ k f => k.val == l && bcValid f && p f
    | _ => false

/-! ## Loop timing (R216 to R218) -/

def State.loopState (s : State) : Nat := s.fld Reg.LANE_LOOP_STAT 0 3
def State.loopPort (s : State) : Nat := s.fld Reg.LANE_LOOP_STAT 3 2

/-- This device loop-times: it is chained, not chain master, and ENABLE = 1 (R216). -/
def State.loops (s : State) : Bool := s.chain.chained && s.chainId != 0 && s.bit Reg.LANE_LOOP_CFG 5

/-- The loop's state and port; a change of state raises LANE_LOOP_STATE (R218). -/
def State.setLoop (s : State) (st port : Nat) : State :=
  let old := s.loopState
  let s : State := { s with lanes := { s.lanes with loop := { s.lanes.loop with
                                                                since := if old = st ∧ s.loopPort = port then s.lanes.loop.since else s.now
                                                                tport := s.fld Reg.LANE_LOOP_CFG 0 2 } } }
  let s := (s.setFld Reg.LANE_LOOP_STAT 0 3 st).setFld Reg.LANE_LOOP_STAT 3 2 port
  if old = st then s else s.raise Ev.LANE_LOOP_STATE [old, st, port]

/-- All four lanes of port `p` have a STATE from `lo` to UP. -/
def State.portReached (s : State) (p lo : Nat) : Bool :=
  (List.range 4).all fun k => let st := s.laneStage (0x100 + 4 * p + k); lo ≤ st && st ≤ 8

/-- BPORT may be followed: enabled, up and not refused (R218). -/
def State.backupUp (s : State) : Bool :=
  s.bit Reg.LANE_LOOP_CFG 4 && s.portLanesUp (s.fld Reg.LANE_LOOP_CFG 2 2) && !s.lanes.loop.refused

/-- What the loop does when a chain lane has moved: it starts to follow TPORT at LOCK, leaves holdover when a port is up
again, and drops a pending move when the followed port has locked again (R216, R218). -/
def State.loopCheck (s : State) : State :=
  if !s.loops then s
  else
    let t := s.fld Reg.LANE_LOOP_CFG 0 2
    match s.loopState with
    | 0 => if s.portReached t 3 then s.setLoop 1 t else s
    | 3 => if s.portLanesUp t then s.setLoop 1 t
           else if s.backupUp then s.setLoop 1 (s.fld Reg.LANE_LOOP_CFG 2 2) else s
    | 4 => s
    | _ => if s.portReached s.loopPort 4 then
        { s with lanes := { s.lanes with loop := { s.lanes.loop with lostAt := none } } }
      else s

/-- A new TPORT is followed from the moment its lanes reach LOCK; until then the loop follows BPORT where it may, or holds over
(R216, R218; log entry 175). -/
def State.loopTurn (s : State) : State :=
  let t := s.fld Reg.LANE_LOOP_CFG 0 2
  let s : State := { s with lanes := { s.lanes with loop := { s.lanes.loop with lostAt := none, refused := false } } }
  if s.portReached t 3 then s.setLoop 1 t
  else if s.loopState = 0 then s
  else if s.backupUp then s.setLoop 1 (s.fld Reg.LANE_LOOP_CFG 2 2)
  else s.setLoop 3 s.loopPort

/-- ENABLE or a port changed: the loop is off, starts again, or turns to the new timing port (R216). -/
def State.loopConfig (s : State) : State :=
  if !s.loops then s.setLoop 0 s.loopPort
  else if s.loopState ≠ 0 ∧ s.lanes.loop.tport ≠ s.fld Reg.LANE_LOOP_CFG 0 2 then s.loopTurn
  else s.loopCheck

/-! ## Chain ports as groups of four lanes -/

/-- Chain port of a lane of group 2. -/
def lanePort (l : Nat) : Nat := (l - 0x100) / 4

/-- CHAIN_PORT_STAT.STATE, as the four lanes give it. -/
def State.refreshPort (s : State) (p : Nat) : State :=
  let st := (List.range 4).map fun k => s.laneStage (0x100 + 4 * p + k)
  s.setFld (Reg.CHAIN_PORT_STAT p) 0 2
    (if st.all (· == 8) then 3 else if st.all (fun x => x == 7 || x == 8) then 2
     else if st.any (fun x => 1 ≤ x && x ≤ 6) then 1 else 0)

/-- Chain state that follows a lane. -/
def State.afterLane (s : State) (l : Nat) : State :=
  if laneGroup l = 2 then (s.refreshPort (lanePort l)).loopCheck else s

/-- Send TRAIN on lane `k` of a port (Table 18-4). -/
def State.sendTrainOn (s : State) (p k : Nat) (echo : Bool) (turn : Nat) : State :=
  let loop := s.loopState == 1 || s.loopState == 2
  let l := 0x100 + 4 * p + k
  let b := ctlBlock 0x40 (k * 2 ^ 8 + s.chainId * 2 ^ 10 + s.fld Reg.LANE_LOOP_CFG 0 2 * 2 ^ 13 + bitOf loop * 2 ^ 15
    + s.fld (Reg.LANE_FOM l) 0 8 * 2 ^ 16 + bitOf echo * 2 ^ 24 + turn * 2 ^ 32)
  (s.putSlot l true b).emit (.chain p b)

/-- A chain lane sends its training block: its number in ORDER, its receiver's FOM in EQUALISE (R222, R223). -/
def State.train (s : State) (l : Nat) : State :=
  if laneGroup l = 2 ∧ (s.laneStage l = 5 ∨ s.laneStage l = 6) then s.sendTrainOn (lanePort l) (l % 4) false 0 else s

/-- Set a lane's stage with what follows from it. -/
def State.goStage (s : State) (l v : Nat) : State := (s.setStage l v).afterLane l

/-- A port that was up runs with fewer than four lanes: the others await its handshake again, and the retrain counts (R222). -/
def State.breakPort (s : State) (p : Nat) : State :=
  let s := s.each ((List.range 4).filter fun k => s.laneUp (0x100 + 4 * p + k)) fun s k => s.setStage (0x100 + 4 * p + k) 7
  let x := s.chainPort p
  let s := s.setChainPort p { x with echoes := [], echoOut := none, rx0 := [], rx1 := [] }
  (s.incFld (Reg.CHAIN_PORT_CNT p) 16 8 1).refreshPort p

/-! ## Stages (Table 10-3) -/

/-- A preset try starts (R223). -/
def State.startTry (s : State) (l p : Nat) : State :=
  let s := (s.setLane l { s.lane l with tryPreset := some p, tryAt := s.now, peerFom := none }).setFld (Reg.LANE_STATE l) 8 4 p
  match s.tileOfLane l with
  | some t => if laneGroup l = 0 then s.setTile t { s.tileState t with tryCorr := 0, tryLock := none } else s
  | none => s

/-- EQUALISE, with the transmitter preset of groups 0, 2 and 3 (R223). -/
def State.enterEqualise (s : State) (l : Nat) : State :=
  let g := laneGroup l
  let p := s.fld (Reg.LANE_CFG l) 0 4
  let s := (s.goStage l 6).train l
  if g = 1 then s
  else if p = 8 then (if g = 3 then s else (s.setLane l { s.lane l with sums := [] }).startTry l 0)
  else s.setFld (Reg.LANE_STATE l) 8 4 p

/-- What follows POLARITY. -/
def State.afterPolarity (s : State) (l : Nat) : State :=
  if laneGroup l = 2 then ((s.setLane l { s.lane l with seen := none }).goStage l 5).train l else s.enterEqualise l

/-- POLARITY: POL_OVR fixes the polarity and skips detection (R221); a panel forward lane leaves electrical idle here (R220). -/
def State.enterPolarity (s : State) (l : Nat) : State :=
  let s := if laneGroup l = 0 then s.startTx l else s
  let at_ := if laneGroup l = 0 then 4 else 5
  let o := s.fld (Reg.LANE_CFG l) 4 2
  let s := s.setFld (Reg.LANE_STATE l) at_ 1 (bitOf (o == 2))
  if o = 0 then (s.setLane l { s.lane l with polTried := false }).goStage l 4 else s.afterPolarity l

/-- Lock is reported at POLARITY to the panel forward lane: a correction raises LANE_POLARITY (R221). -/
def State.polarityFound (s : State) (l : Nat) : State :=
  let s := if s.bit (Reg.LANE_STATE l) 4 then s.raise Ev.LANE_POLARITY [l, 1] else s
  s.enterEqualise l

/-- The lane is UP; a return lane that comes up lets its forward lane go on at POLARITY (R220). -/
def State.finishUp (s : State) (l : Nat) : State :=
  let s := ((s.setStage l 8).setFld (Reg.LANE_STATE l) 12 4 0).setFld (Reg.LANE_FOM l) 8 8 0
  let s := (s.setLane l { s.lane l with failRaised := false, minFresh := true, tryPreset := none }).afterLane l
  let s := if laneGroup l = 5 then s.driveInit ((l - 0x128) / 4) else s
  if laneGroup l = 1 ∧ s.laneStage (l - 0x80) = 1 ∧ (s.lane (l - 0x80)).calDone then s.enterPolarity (l - 0x80) else s

/-- EQUALISE is over: FOM_TRAIN takes the FOM, and the lane waits at LINK. -/
def State.enterLink (s : State) (l : Nat) : State :=
  (s.setFld (Reg.LANE_FOM l) 16 8 (s.fld (Reg.LANE_FOM l) 0 8)).goStage l 7

/-- A lane trains again: waiting writes of its registers apply, its trim takes effect (R414), and it restarts at DETECT, or at
POLARITY for group 0 (R224); a chain transmitter sends while it trains. -/
def State.retrain (s : State) (l : Nat) : State :=
  let s := (s.applyLane l).applyCal (0x100 + l)
  let s := s.setLane l { s.lane l with tryPreset := none, seen := none }
  let s := if laneGroup l = 2 then s.startTx l else s
  if laneGroup l = 0 then s.enterPolarity l else s.goStage l 2

/-- A failed attempt: the lane restarts, or is FAILED after three, with one LANE_TRAIN_FAIL (R224). -/
def State.failAttempt (s : State) (l : Nat) : State :=
  let st := s.laneStage l
  let s := if laneGroup l = 2 ∧ st = 7 then
      s.setChainPort (lanePort l) { s.chainPort (lanePort l) with echoes := [], echoOut := none }
    else s
  let s := s.incFld (Reg.LANE_STATE l) 12 4 1
  let a := s.fld (Reg.LANE_STATE l) 12 4
  if 3 ≤ a then
    let raised := (s.lane l).failRaised
    let s := s.setLane l { s.lane l with tryPreset := none, failRaised := true, retryAt := if raised then (s.lane l).retryAt else s.now }
    let s := s.goStage l 9
    if raised then s else s.raise Ev.LANE_TRAIN_FAIL [l, st, a]
  else s.retrain l

/-- A chain port trains again with all its lanes (R219, R384). -/
def State.retrainPort (s : State) (p reason : Nat) : State :=
  let s := s.breakPort p
  let s := s.each (List.range 4) fun s k => s.retrain (0x100 + 4 * p + k)
  s.raise Ev.CHAIN_PORT_DOWN [p, reason]

/-- Lane numbers seen at all four positions of a port decide its order (R222). -/
def State.orderCheck (s : State) (p : Nat) : State :=
  let ls := (List.range 4).map (0x100 + 4 * p + ·)
  let seen := ls.filterMap fun l => if s.laneStage l = 5 then (s.lane l).seen else none
  if seen.length < 4 then s
  else if seen = [0, 1, 2, 3] then
    s.each ls fun s l => (s.setFld (Reg.LANE_STATE l) 6 1 0).enterEqualise l
  else if seen = [3, 2, 1, 0] then
    (s.each ls fun s l => (s.setFld (Reg.LANE_STATE l) 6 1 1).enterEqualise l).raise Ev.LANE_REVERSED [p]
  else (s.each ls State.failAttempt).raise Ev.LANE_ORDER_FAIL (p :: seen)

/-- A stage is complete (Table 10-3). -/
def State.stageDone (s : State) (l : Nat) (inverted : Bool) (seen : Nat) : State :=
  let g := laneGroup l
  match s.laneStage l with
  | 1 =>
    let s := s.setLane l { s.lane l with calDone := true }
    if g = 0 then (if s.laneUp (l + 0x80) then s.enterPolarity l else s)
    else (if g = 2 then s.startTx l else s).goStage l 2
  | 2 => s.goStage l (if 4 ≤ g then 7 else 3)
  | 3 => s.enterPolarity l
  | 4 =>
    if g = 0 then s.polarityFound l
    else if inverted then ((s.setFld (Reg.LANE_STATE l) 5 1 1).raise Ev.LANE_POLARITY [l, 2]).afterPolarity l
    else s.afterPolarity l
  | 5 => (s.setLane l { s.lane l with seen := some seen }).orderCheck (lanePort l)
  | 6 => if (s.lane l).tryPreset.isSome then s else s.enterLink l
  | 7 => if g = 2 then s else s.finishUp l
  | _ => s

/-- LANE_STAGE_DONE (R220). -/
def execLaneStageDone (t : Nat) (lane : Fin 304) (inverted : Bool) (seen : Nat) (s : State) : Res :=
  .next ((s.advance t).stageDone lane inverted seen)

/-- All four lanes of a port have seen a lane number by this cycle, which ends ORDER (R17, R222). -/
def State.orderDoneNow (s : State) (p : Nat) : Bool :=
  (List.range 4).all fun k =>
    let l := 0x100 + 4 * p + k
    s.laneStage l == 5 && ((s.lane l).seen.isSome || s.sameCycle fun i => match i with
      | .laneStageDone _ j _ _ => j.val == l
      | _ => false)

/-- The last ECHO answer of a port's handshake is recognised in this cycle (R17, R386). -/
def State.linkDoneNow (s : State) (p : Nat) : Bool :=
  decide (15 ≤ (s.chainPort p).echoes.length) && (s.chainPort p).echoOut.isSome && s.sameCycle fun i => match i with
    | .chainTrainBlock _ q b => q.val == p && ctlOk b && blockField b 0 8 == 0x40 && blockField b 24 1 == 0 &&
        s.peerPorts.contains (p, blockField b 10 3)
    | _ => false

/-- Completion of the lane's stage is recognised in this cycle (R17). -/
def State.stageDoneNow (s : State) (l : Nat) : Bool :=
  if laneGroup l = 2 ∧ s.laneStage l = 5 then s.orderDoneNow (lanePort l)
  else if laneGroup l = 2 ∧ s.laneStage l = 7 then s.linkDoneNow (lanePort l)
  else
    (s.sameCycle fun i => match i with
      | .laneStageDone _ k _ _ => k.val == l
      | _ => false) ||
    (laneGroup l == 1 && s.laneStage l == 7 && s.bcNow (l - 0x80) fun _ => true) ||
    (laneGroup l == 0 && (s.laneStage l == 4 || s.laneStage l == 7) && s.bcNow l s.bcLock)

/-- Timeout of a stage in ms (Table 10-3, R386). -/
def stageLimit (g st : Nat) : Nat :=
  match st with
  | 1 => 2
  | 2 => 10
  | 4 => if g = 0 then 10 else 1
  | 6 => 20
  | 7 => if g = 2 then 600 else 1
  | _ => 1

/-- LANE_STAGE_TIMEOUT (R220, R224): a stage that completes in the cycle of expiry is in time. -/
def execLaneStageTimeout (t : Nat) (lane : Fin 304) (s : State) : Res :=
  let s := s.advance t
  let st := s.laneStage lane
  let due := (s.lane lane).stageAt + ms (stageLimit (laneGroup lane) st) ≤ s.now
  .next (if laneGroup lane ≤ 3 ∧ 1 ≤ st ∧ st ≤ 7 ∧ due ∧ !(st == 1 && (s.lane lane).calDone) ∧ !s.stageDoneNow lane then
      s.failAttempt lane
    else s)

/-- LANE_RETRY_TIMER (R224): a FAILED lane of groups 0 to 2 tries again 100 ms after it failed or last tried. -/
def execLaneRetryTimer (t : Nat) (lane : Fin 304) (s : State) : Res :=
  let s := s.advance t
  let x := s.lane lane
  .next (if laneGroup lane ≤ 2 ∧ s.laneStage lane = 9 ∧ x.retryAt + ms 100 ≤ s.now then
      (s.setLane lane { x with retryAt := s.now }).retrain lane
    else s)

/-- LANE_LOCK_LOSS (R224): an UP lane retrains at once; a chain port goes down with it. -/
def execLaneLockLoss (t : Nat) (lane : Fin 304) (s : State) : Res :=
  let s := s.advance t
  let l := lane.val
  .next (if !s.laneUp l then s
    else if laneGroup l = 2 then
      let up := s.portLanesUp (lanePort l)
      let s := (s.retrain l).breakPort (lanePort l)
      if up then s.raise Ev.CHAIN_PORT_DOWN [lanePort l, 3] else s
    else s.retrain l)

/-- PTX_POLARITY_TIMEOUT (R221): after 5 ms the transmitter is inverted; 5 ms later the attempt fails. -/
def execPtxPolarityTimeout (t : Nat) (lane : Fin 128) (s : State) : Res :=
  let s := s.advance t
  let l := lane.val
  .next (if s.laneStage l ≠ 4 ∨ s.now < (s.lane l).polAt + ms 5 ∨ s.stageDoneNow l then s
    else if (s.lane l).polTried then s.failAttempt l
    else (s.setLane l { s.lane l with polTried := true, polAt := s.now }).setBit (Reg.LANE_STATE l) 4 (!s.bit (Reg.LANE_STATE l) 4))

/-- Index of the best sum: the smallest for group 0, the largest for chain lanes, the lowest index on a tie (R223). -/
def bestPreset (smallest : Bool) (sums : List (Option Nat)) : Option Nat :=
  (sums.zipIdx.foldl (fun (best : Option (Nat × Nat)) x =>
    match x.1, best with
    | none, b => b
    | some v, none => some (v, x.2)
    | some v, some b => if (if smallest then v < b.1 else b.1 < v) then some (v, x.2) else some b) none).map (·.2)

/-- PRESET_TRY_TIMEOUT (R223): after 2 ms the next preset is tried, or the best kept; a try that brought no report of lock, or no
FOM from the partner, is none. -/
def execPresetTryTimeout (t : Nat) (lane : Fin 304) (s : State) : Res :=
  let s := s.advance t
  let l := lane.val
  .next (match (s.lane l).tryPreset with
    | none => s
    | some p =>
      if s.now < (s.lane l).tryAt + ms 2 then s else
      let x := s.lane l
      let sum := if laneGroup l = 0 then
          match s.tileOfLane l with
          | some k => if (s.tileState k).tryLock = some true then some (s.tileState k).tryCorr else none
          | none => none
        else x.peerFom
      let sums := x.sums ++ [sum]
      if p < 7 then (s.setLane l { x with sums := sums }).startTry l (p + 1)
      else
        let s := s.setLane l { x with sums := sums, tryPreset := none }
        match bestPreset (laneGroup l == 0) sums with
        | none => s.failAttempt l
        | some b =>
          let s := (s.setFld (Reg.LANE_STATE l) 8 4 b).enterLink l
          -- the kept preset has reported lock, which is what LINK asks of group 0
          if laneGroup l = 0 then s.finishUp l else s)

/-! ## LANE_CTL -/

/-- CLEAR of one lane (Table 10-6); errors of this cycle count after it (R231). -/
def State.clearLane (s : State) (l : Nat) : State :=
  let s := (s.setReg (Reg.LANE_PRBS_ERR l) 0).setFld (Reg.LANE_FOM l) 8 8 0
  let x := s.lane l
  s.setLane l { x with minFresh := true, countAt := x.countAt.map fun _ => s.now }

/-- A lane that is on and not under test retrains; a chain port that was up breaks (R224). -/
def State.retrainNow (s : State) (l : Nat) : State :=
  if s.laneStage l = 0 ∨ s.laneStage l = 0xA then s
  else if laneGroup l = 2 ∧ s.portLanesUp (lanePort l) then (s.retrain l).breakPort (lanePort l)
  else s.retrain l

/-- LANE_CTL_RETRAIN (R224). -/
def execLaneCtlRetrain (t : Nat) (req : Requester) (lane : Nat) (s : State) : Res :=
  .next ((s.advance t).control req Reg.LANE_CTL (Word.ofNat (lane % 512 + 2 ^ 9)) fun s => s.retrainNow (lane % 512))

/-- LANE_CTL_CLEAR (R228, R231). -/
def execLaneCtlClear (t : Nat) (req : Requester) (lane : Nat) (s : State) : Res :=
  .next ((s.advance t).control req Reg.LANE_CTL (Word.ofNat (lane % 512 + 2 ^ 10)) fun s => s.clearLane (lane % 512))

/-- LANE_CTL_CLEAR_ALL (R228, R231). -/
def execLaneCtlClearAll (t : Nat) (req : Requester) (s : State) : Res :=
  .next ((s.advance t).control req Reg.LANE_CTL (Word.ofNat (2 ^ 11)) fun s => s.each (List.range 304) State.clearLane)

/-! ## Figure of merit -/

/-- H_ref × W_ref of a group (Table 10-4). -/
def eyeRef (g : Nat) : Nat :=
  match g with
  | 1 => 200 * 40
  | 2 => 40 * 16
  | 3 => 80 * 24
  | _ => 30 * 20

/-- FOM of a receiver from its eye (R225). -/
def eyeFom (g h w : Nat) : Nat := min 255 (256 * h * w / eyeRef g)

/-- FOM of a panel forward lane from the corrected codewords of one second: 255 − floor(10 × log2(1 + n)), not below 0 (R225). -/
def corrFom (n : Nat) : Nat := 255 - Nat.log2 ((1 + n) ^ 10)

/-- LANE_FOM_UPDATE (R225, R226), once per second. -/
def execLaneFomUpdate (t : Nat) (lane : Fin 304) (h w : Nat) (s : State) : Res :=
  let s := s.advance t
  let l := lane.val
  if limited (s.lane l).fomAt (ms 1000) s.now then .next s else
  let g := laneGroup l
  let tile := if g = 0 then s.tileOfLane l else none
  let corr := match tile with
    | some k => (s.tileState k).fomCorr
    | none => 0
  let fom := if g = 0 then corrFom corr else eyeFom g h (min w 64)
  let s := match tile with
    | some k => s.setTile k { s.tileState k with fomCorr := 0 }
    | none => s
  let s := if g = 0 then s else s.setNat (Reg.LANE_EYE l) (satTo 255 h + min w 64 * 256)
  let x := s.lane l
  let low := if x.minFresh then fom else min fom (s.fld (Reg.LANE_FOM l) 8 8)
  let s := ((s.setFld (Reg.LANE_FOM l) 0 8 fom).setFld (Reg.LANE_FOM l) 8 8 low).setLane l { x with minFresh := false, fomAt := some s.now }
  let s := s.train l
  let least := s.fld (Reg.LANE_GRP_CFG g) 0 8
  let low := s.laneUp l && decide (fom < least) && !limited x.fomLowAt (ms 10000) s.now
  .next (if low then
      (s.setLane l { s.lane l with fomLowAt := some s.now }).raise Ev.LANE_FOM_LOW [l, fom, least]
    else s)

/-! ## Background calibration (R227) -/

/-- Domain of a lane (Tables 1-1 and 10-1). -/
def laneDomain (l : Nat) : Nat :=
  match laneGroup l with
  | 0 => 32 + l / 8
  | 1 => 32 + (l - 0x80) / 8
  | 2 => 48 + (l - 0x100) / 8
  | 3 => 50 + (l - 0x110) / 4
  | 4 => 52
  | _ => 53 + (l - 0x128) / 4

/-- BGCAL_GRANT: a slicer of a lane that is on is calibrated under the grant unless it lapses: one slicer at a time, each at most once
per 100 ms. -/
def execBgcalGrant (t : Nat) (lane : Fin 304) (slicer : Nat) (s : State) : Res :=
  let s := s.advance t
  let x := s.lane lane
  let before := mapGet x.slicers slicer
  let busy := x.granted.any fun g => decide (s.now ≤ g.2.1 + ms 1)
  .next (if laneGroup lane = 0 ∨ !s.bit (Reg.LANE_GRP_CFG (laneGroup lane)) 8 ∨ !s.domainOn (laneDomain lane) ∨ busy ∨
      limited before (ms 100) s.now then s
    else s.setLane lane { x with slicers := mapPut x.slicers slicer s.now, granted := some (slicer, s.now, before) })

/-- BGCAL_GRANT_LAPSE: no safe interval came within 1 ms of the grant, and the slicer was not calibrated; no event. A lane that is not UP
needs no interval. -/
def execBgcalGrantLapse (t : Nat) (lane : Fin 304) (slicer : Nat) (s : State) : Res :=
  let s := s.advance t
  let x := s.lane lane
  .next (match x.granted with
    | none => s
    | some (k, at_, before) =>
      if k ≠ slicer ∨ s.now ≠ at_ + ms 1 ∨ !s.laneUp lane then s
      else s.setLane lane { x with slicers := match before with
                                              | some c => mapPut x.slicers slicer c
                                              | none => mapErase x.slicers slicer
                                   granted := none })

/-! ## Test patterns and error injection -/

/-- LANE_TEST_WRITE (R228, R229): GEN or CHK puts the lane under test, where it carries no traffic; clearing both retrains it. -/
def execLaneTestWrite (t : Nat) (req : Requester) (lane : Fin 304) (data : Word) (s : State) : Res :=
  .next ((s.advance t).guarded req (Reg.LANE_TEST lane) 4 data fun s w =>
    let l := lane.val
    let old := s.reg (Reg.LANE_TEST l)
    let s := ((s.setReg (Reg.LANE_TEST l) w).setGenerator l old w).setChecker l old w
    if w.bit 2 || w.bit 3 then
      (if s.domainOn (laneDomain l) then (s.stopTx l).goStage l 0xA else s)
    else if s.laneStage l = 0xA then s.retrain l else s)

/-- LANE_INJ_WRITE (R230): injection starts with COUNT codewords, without end for 0, and ends with SYMBOLS = 0. -/
def execLaneInjWrite (t : Nat) (req : Requester) (lane : Fin 304) (data : Word) (s : State) : Res :=
  .next ((s.advance t).guarded req (Reg.LANE_INJ lane) 4 data fun s w =>
    (s.setReg (Reg.LANE_INJ lane) w).setInjection lane w)

/-- The checker of a lane has had 64 bits to lock on (R228). -/
def State.lockPossible (s : State) (l : Nat) : Bool :=
  (s.lane l).chkAt.any fun c => decide (64 ≤ bitsBegun l (s.now - c))

/-- PRBS_CHECKER_LOCK (R228): after 64 error-free bits the checker is locked, and counts errors from here on. -/
def execPrbsCheckerLock (t : Nat) (lane : Fin 304) (s : State) : Res :=
  let s := s.advance t
  let l := lane.val
  .next (if s.bit (Reg.LANE_TEST l) 3 && !s.bit (Reg.LANE_TEST l) 8 && s.lockPossible l then
      (s.setBit (Reg.LANE_TEST l) 8 true).setLane l { s.lane l with countAt := some (s.now + 1) }
    else s)

/-- PRBS_CHECKER_LOCK_LOSS (R228): the errors counted so far stay, and the checker needs 64 error-free bits again. -/
def execPrbsCheckerLockLoss (t : Nat) (lane : Fin 304) (s : State) : Res :=
  let s := s.advance t
  let l := lane.val
  .next (if s.bit (Reg.LANE_TEST l) 8 then
      let s := (s.foldErrors l).setBit (Reg.LANE_TEST l) 8 false
      s.setLane l { s.lane l with chkAt := some s.now }
    else s)

/-! ## Loop and latency events that need the lanes alone -/

/-- LOOP_TPORT_LOCK_LOSS (R218): the 10 µs of the move decision start. -/
def execLoopTportLockLoss (t : Nat) (s : State) : Res :=
  let s := s.advance t
  .next (if s.loopState = 1 ∨ s.loopState = 2 then
      { s with lanes := { s.lanes with loop := { s.lanes.loop with lostAt := some s.now } } }
    else s)

/-- LOOP_LOCKED (R216): offset and error have stayed small for 10 ms of following the port. -/
def execLoopLocked (t : Nat) (s : State) : Res :=
  let s := s.advance t
  .next (if s.loopState = 1 ∧ s.lanes.loop.lostAt = none ∧ s.lanes.loop.since + ms 10 ≤ s.now then s.setLoop 2 s.loopPort else s)

/-- LANE_LATENCY_SLIP (R219, R385): an elastic buffer more than 8 words from its centre retrains the whole port. -/
def execLaneLatencySlip (t : Nat) (port lane : Fin 4) (words : Int) (s : State) : Res :=
  let s := s.advance t
  .next (if -8 ≤ words ∧ words ≤ 8 then s
    else (s.raise Ev.LANE_LATENCY_SLIP [port, 0x100 + 4 * port + lane, argInt words]).retrainPort port 2)

/-- Lanes whose use has changed start, or go to electrical idle. -/
def State.syncLanes (s : State) (ls : List Nat) : State :=
  s.each ls fun s l =>
    if !s.domainOn (laneDomain l) then s
    else if s.laneUsed l then (if s.laneStage l = 0 then (s.startLane l).afterLane l else s)
    else if s.laneStage l = 0 ∨ s.laneStage l = 0xA then s
    else ((s.dropLane l).refreshLanes).afterLane l

/-! ## Writes that apply at a mode change (R7) -/

/-- Credits at 0 and buckets full: at a block reset of an Ethernet port, and when it is enabled (R373). -/
def State.resetShaper (s : State) (x : Nat) : State :=
  let e := s.traf.ports.getD x {}
  let e := { e with queues := e.queues.map fun (v : EgressQueue) => { v with credit := 0, at_ := 125 * s.now } }
  { s with traf := { s.traf with ports := s.traf.ports.set x e, buckets := s.traf.buckets.filter fun b => b.1 % 2 != x } }

/-- A write to a port, drive or chain setting is among those that apply. -/
def touchesLinks (l : List PendWrite) : Bool :=
  l.any fun p => [Reg.NET_PORT_CFG 0, Reg.NET_PORT_CFG 1, Reg.STORE_CFG, Reg.CHAIN_CFG].contains p.addr ||
    (List.range 4).any fun i => p.addr == Reg.CHAIN_PORT_CFG i

/-- Waiting writes apply at a mode change, with what follows from them: the chain by CHAIN_CFG.EN (R380), lanes that a port or drive now
uses or no longer uses, and the shapers of a port that is enabled (R373). -/
def State.applyMode (s : State) : State :=
  let l := s.atMode
  let was (x : Nat) : Bool := s.bit (Reg.NET_PORT_CFG x) 0
  let n := s.applyAtMode
  if !touchesLinks l then n
  else
    let n := if s.bit Reg.CHAIN_CFG 0 = n.bit Reg.CHAIN_CFG 0 then n.refreshOwn else n.chainRoles.loadRoster
    let n := n.each ([0, 1].filter fun x => !was x && n.bit (Reg.NET_PORT_CFG x) 0) State.resetShaper
    n.syncLanes ((List.range 24).map (· + 0x100) ++ (List.range 8).map (· + 0x128))

end Sys2Proof.Machine
end

