-- ==== Sys2Proof/Machine/Modes.lean ====
section
/-! DEFINITION.  The mode machine: commands and their refusals (R26 to R30), transitions
through BIND-OFF (R31, R32), entry to SAFE and its causes (R33, R34), and the meanings of
the mode commands. -/

namespace Sys2Proof.Machine

/-! ## Status and events -/

/-- LAST_SEQ, LAST_RESULT and LAST_SOURCE. -/
def State.setLast (s : State) (seq result source : Nat) : State :=
  ((s.setFld Reg.GLB_MODE_STAT 16 8 seq).setFld Reg.GLB_MODE_STAT 24 4 result).setFld Reg.GLB_MODE_STAT 28 4 source

/-- TARGET and BUSY. -/
def State.setTarget (s : State) (tgt : Nat) (busy : Bool) : State :=
  (s.setFld Reg.GLB_MODE_STAT 4 4 tgt).setBit Reg.GLB_MODE_STAT 8 busy

/-- Delivery to the tiles starts or stops: the 1 ms of R211 starts again. -/
def State.restartBlank (s : State) : State :=
  { s with spk := { s.spk with tiles := s.spk.tiles.map fun x => (x.1, { x.2 with blanked := none }) } }

/-- Cue entry at a list position. -/
def State.cueAt (s : State) (i : Nat) : Option Cue := s.sec.pattern.cues[i]?

/-- A cue-list entry completes: the delay of the next entry in list order runs from now (R83). -/
def State.completeCue (s : State) (i : Nat) : State :=
  { s with cue := { s.cue with armed := s.cue.armed ++ [(i + 1, s.now)], running := s.cue.running.filter (· != i) } }

/-- MODE_ENTERED or MODE_REFUSED was raised for a command: the entry of the cue that gave it completes (R83). -/
def State.cueCommandEnds (s : State) (cue : Option Nat) : State :=
  match cue with
  | some i => s.completeCue i
  | none => s

/-- MODE_REFUSED (R28, R42) of a command, a cue's or not. -/
def State.refuseMode (s : State) (tgt reason pre seq source result : Nat) (cue : Option Nat := none) : State :=
  ((s.raise Ev.MODE_REFUSED [tgt, reason, pre, seq, source]).setLast seq result source).cueCommandEnds cue

/-- PART of RAY_STAT in a mode (Table 7-1). -/
def cachePart (m : Nat) : Nat :=
  if m = Mode.IDLE then 1 else if m = Mode.PREVIEW then 2 else if isDelivering m ∨ m = Mode.SERVICE then 3 else 0

/-- The tile cache takes the partition of a mode (R147, R148). -/
def State.setPart (s : State) (m : Nat) : State := if s.blockOn 6 then s.setFld Reg.RAY_STAT 0 2 (cachePart m) else s

/-- GLB_MODE_STAT.MODE reads `m`, and every domain among `ds` is as the mode has it: the writes that wait for a mode entry apply
first (R7, R39). -/
def State.placeMode (s : State) (m : Nat) (ds : List Nat) : State := ((s.applyMode.setFld Reg.GLB_MODE_STAT 0 4 m).setPart m).switchAmong ds m

/-- Domains that entry to BIND-OFF switches: the others stay on until the end of the bind-off (Table 2-5). -/
def bindDomains : List Nat := [48, 49, 50, 51, 69, 70, 79]

/-- The device enters BIND-OFF on the way to another mode (R31). -/
def State.enterBindOff (s : State) : State :=
  let was := s.delivering
  let s := s.placeMode Mode.BIND_OFF bindDomains
  if was then s.restartBlank else s

/-- The device enters mode `m`; entry to STRIP takes the band (R251). -/
def State.setMode (s : State) (m : Nat) : State :=
  let was := s.delivering
  let s := if m = Mode.STRIP then { s with emit_ := { s.emit_ with band := s.bandTiles } } else s
  let s := s.placeMode m (List.range 80)
  let s := if m = Mode.IDLE then s.touchHbm else s
  if was = isDelivering m then s else s.restartBlank

/-! ## The venue ply changes (R88, R90) -/

/-- The venue ply has new content: state, buffer and read-back.  While the stack is off the buffer waits for it. -/
def State.setVenue (s : State) (slot : Nat) (desc : List Word) (buf : List Byte) : State :=
  let s := { s with sec := { s.sec with venueSlot := slot, venueDesc := desc, venueBuffer := buf, venueGen := s.sec.venueGen + 1
                                        venueStale := buf != [] && s.dport.period.isSome } }
  (if buf = [] ∨ s.dport.period.isSome then s else s.hbmWrite s.venueBase buf 3).showVenue

/-- VENUE_APPLIED of a change at frame `frameNo`; a cue's entry completes (R83). -/
def State.applyVenue (s : State) (v : VenueReady) (frameNo : Nat) : State :=
  let s := s.setVenue v.slot v.desc v.buffer
  let s := ({ s with sec := { s.sec with venueSource := v.source } }).raise Ev.VENUE_APPLIED [v.source, v.op, v.slot, v.vseq, frameNo]
  let s := match v.frame with
    | some f => if f % 2 ^ 32 ≠ frameNo % 2 ^ 32 ∧ fenceReached frameNo f then s.raise Ev.VENUE_LATE [f, frameNo] else s
    | none => s
  match v.cue with
  | some i => s.completeCue i
  | none => s

/-- Venue changes that fall due together at a frame: a command overrides a cue (R90). -/
def State.applyVenues (s : State) (due : List VenueReady) (frameNo : Nat) : State :=
  let s := { s with sec := { s.sec with venueReady := s.sec.venueReady.filter fun v => !due.contains v } }
  let cmds := due.filter fun v => v.cue.isNone
  let cues := due.filter fun v => v.cue.isSome
  match cmds.getLast? with
  | some c =>
    let s := s.each cues fun s v => s.raise Ev.VENUE_CUE_OVERRIDDEN [((v.cue.bind s.cueAt).map (·.num)).getD 0, c.vseq]
    s.each cmds fun s v => s.applyVenue v frameNo
  | none => s.each cues fun s v => s.applyVenue v frameNo

/-- A transition completes: MODE_ENTERED (R28).  In SAFE the venue changes that waited for a boundary reach the stored state (R88). -/
def State.finishMode (s : State) (tr : Transition) : State :=
  let s := { s with mode := { s.mode with cur := none, darkCount := none, bandOnly := false } }
  let s := (s.setMode tr.target).setTarget tr.target false
  let s := if tr.target = Mode.SAFE then s.applyVenues s.sec.venueReady (s.nat Reg.SCAN_FRAME) else s
  ((s.raise Ev.MODE_ENTERED [tr.target, tr.frm, tr.seq, tr.source]).setLast tr.seq 1 tr.source).cueCommandEnds tr.cue

/-- The transition in progress moves to a stage. -/
def State.setStage' (s : State) (g : Stage) : State :=
  { s with mode := { s.mode with cur := s.mode.cur.map fun tr => { tr with stage := g } } }

/-- The transition in progress goes to `m`. -/
def State.movingTo (s : State) (m : Nat) : Bool := s.mode.cur.any fun tr => tr.target == m

/-! ## Sequences of a transition -/

/-- Panel forward lanes go to electrical idle. -/
def State.idleLanes (s : State) (ls : List Nat) : State := (s.each ls State.dropLane).refreshLanes

/-- Forward lanes of the roster. -/
def State.rosterLanes (s : State) : List Nat := s.roster.map (·.lane)

/-- The black flip: the cadence stops and the ramp-down starts (R250). -/
def State.startBindRun (s : State) : State := (s.stopCadence.setStage' .bindRun).startRampDown

/-- Domains of a target switch. -/
def State.towards (s : State) (m : Nat) : State := (s.switchDomains m).setStage' .timed

/-- The power-up sequence towards IDLE (R249): domains on, then t0. -/
def State.startPowerUp (s : State) : State :=
  let s := { s with mode := { s.mode with serviceSafe := false }, emit_ := { s.emit_ with noDischarge := false }
                    chain := { s.chain with quiet := false } }
  (s.switchDomains Mode.IDLE).setStage' .powerUp

/-- The bind-off sequence is over: domains for the target (R250). -/
def State.bindDone (s : State) : State :=
  match s.mode.cur with
  | some tr => (s.setSeq 0).towards tr.target
  | none => s.setSeq 0

/-- R32: the partner's heartbeat reports a delivering mode and it is not failed. -/
def State.partnerDelivers (s : State) : Bool :=
  s.paired && s.joined && !s.bit Reg.CHAIN_STAT 8 && (s.chain.partner.any fun h => isDelivering h.mode)

/-- The stream of a quiet withdrawal has ended once no course is open: lanes go to electrical idle, nothing else is sent (R32). -/
def State.withdrawn (s : State) : State :=
  if s.frame.links.any (·.open_) then s else (s.stopCadence.idleLanes s.rosterLanes).bindDone

/-- Quiet withdrawal (R32): the stream ends at the next course boundary. -/
def State.withdraw (s : State) : State :=
  (({ s with chain := { s.chain with quiet := true } }).setStage' .withdraw).withdrawn

/-! ## SAFE -/

/-- ACTIVE of GLB_MODE_SAFE. -/
def State.activeCauses (s : State) : Nat := s.fld Reg.GLB_MODE_SAFE 16 6

/-- ACTIVE and LATCHED take a cause; HOST is never active (Table 2-4). -/
def State.recordCause (s : State) (c : Nat) : State :=
  let s := if c = 6 then s else s.setBit Reg.GLB_MODE_SAFE (16 + (c - 1)) true
  s.setBit Reg.GLB_MODE_SAFE (24 + (c - 1)) true

/-- A cause is no longer active. -/
def State.causeEnds (s : State) (c : Nat) : State := s.setBit Reg.GLB_MODE_SAFE (16 + (c - 1)) false

/-- Expert pages lock (R22). -/
def State.lockExpert (s : State) : State := s.setBit Reg.GLB_EXPERT_STAT 0 false

/-- The frame from which the panel is dark: the one in delivery, or in a boundary the one whose window opens next (R33). -/
def State.darkenFrame (s : State) : State :=
  let s := { s with emit_ := { s.emit_ with latched := { s.emit_.latched with len := 0 } } }
  if s.frame.boundary then
    match s.frame.next with
    | some g => { s with frame := { s.frame with next := some { g with form := .black } }
                         mode := { s.mode with darkCount := some g.count } }
    | none => s
  else
    match s.frame.cur with
    | some f => { s with frame := { s.frame with darkRest := true }
                         mode := { s.mode with darkCount := some f.count } }
    | none => s

/-- The panel is taken down on the way into SAFE (R33 steps 3 to 5); `old` is the stage that was pre-empted. -/
def State.safeDown (s : State) (old : Option Stage) : State :=
  if s.partnerDelivers then s.withdraw
  else if old = some .bindRun then s.setStage' .bindRun
  else if old = some .bindFlip then s.setStage' .bindFlip
  else if s.modeCode = Mode.STRIP ∧ s.cadenceRuns then
    ({ s with mode := { s.mode with bandOnly := true }, emit_ := { s.emit_ with stripDark := true } }).setStage' .bindFlip
  else if s.cadenceRuns then s.darkenFrame.setStage' .bindFlip
  else if s.fld Reg.EMIT_STAT 0 3 ≠ 0 then s.startBindRun
  else s.bindDone

/-- Entry to SAFE starts, or the cause is recorded under R34. -/
def State.startSafe (s : State) (cause : Nat) (cmd : Option (Nat × Nat × Option Nat)) : State :=
  let m := s.modeCode
  let old := s.mode.cur
  let entering := s.movingTo Mode.SAFE
  let leaving := m == Mode.SAFE && old.isSome && !entering
  if entering ∨ (m = Mode.SAFE ∧ !leaving) then
    let s := s.raise Ev.SAFE_ENTERED [cause, Mode.SAFE, s.activeCauses]
    match cmd with
    | some (seq, source, cue) => ((s.raise Ev.MODE_ENTERED [Mode.SAFE, m, seq, source]).setLast seq 1 source).cueCommandEnds cue
    | none => s
  else
    let s := s.raise Ev.SAFE_ENTERED [cause, m, s.activeCauses]
    let s := if leaving then s else s.setFld Reg.GLB_MODE_SAFE 0 8 cause
    let s := s.lockExpert
    let s := match old with
      | some tr => s.refuseMode tr.target 5 0 tr.seq tr.source (if tr.accepted = s.now then 2 else 3) tr.cue
      | none => s
    let c := cmd.getD (0, 5, none)
    let tr : Transition := { target := Mode.SAFE, seq := c.1, source := c.2.1, cue := c.2.2, local_ := true, frm := m, accepted := s.now,
                             frame := none, stage := .timed }
    -- a command that leaves IDLE takes the stack out of self-refresh (R36)
    let s := if cmd.isSome ∧ m = Mode.IDLE then s.wakeHbm else s
    let s := { s with mode := { s.mode with cur := some tr, safeStart := if cmd.isSome then s.mode.safeStart else some s.now
                                            bandOnly := old.isSome && s.mode.bandOnly } }
    (s.setTarget Mode.SAFE true).safeDown (old.map (·.stage))

/-- A cause of Table 2-4 arises: recorded in CAST-ON, ignored in RESET and DEEP (R33). -/
def State.enterSafe (s : State) (cause : Nat) (cmd : Option (Nat × Nat × Option Nat)) : State :=
  let m := s.modeCode
  if m = Mode.RESET ∨ m = Mode.DEEP then s
  else
    let s := s.recordCause cause
    if m = Mode.CAST_ON then
      if s.caston.causes.contains cause then s
      else { s with caston := { s.caston with causes := s.caston.causes ++ [cause] } }
    else s.startSafe cause cmd

/-! ## Commands -/

/-- Reason and precondition that refuse a command (R30, R34, R389), in that order; none when it is acceptable. -/
def State.modeCheck (s : State) (tgt : Nat) (loc : Bool) : Option (Nat × Nat) :=
  let m := s.modeCode
  if s.chain.chained ∧ !loc ∧ !s.isActing then some (1, 0)
  else if !listed m tgt then some (1, 0)
  else if m = Mode.SAFE ∧ (tgt = Mode.IDLE ∨ tgt = Mode.DEEP) ∧ s.activeCauses ≠ 0 then some (4, 0)
  else
    let p := s.precondition m tgt
    if p = 0 then none else some (3, p)

/-- An accepted command starts (R29 to R33). -/
def State.startMode (s : State) (tgt : Nat) (loc : Bool) (seq source : Nat) (frame : Option Nat) (cue : Option Nat := none) : State :=
  let m := s.modeCode
  let tr : Transition := { target := tgt, seq := seq, source := source, local_ := loc, frm := m, accepted := s.now,
                           frame := frame, stage := .latch, cue := cue }
  if tgt = Mode.SAFE then s.enterSafe 6 (some (seq, source, cue))
  else
    let s := (({ s with mode := { s.mode with cur := some tr } }).setTarget tgt true).retarget
    let s := if m = Mode.IDLE then s.wakeHbm else s
    if throughBindOff m tgt then
      if loc && s.partnerDelivers then s.enterBindOff.withdraw
      else if m = Mode.STRIP then
        ({ s with mode := { s.mode with bandOnly := true }, emit_ := { s.emit_ with stripDark := true } }).enterBindOff.setStage' .bindFlip
      else s.setStage' .bindLatch
    else if m = Mode.STRIP then
      ({ s with mode := { s.mode with bandOnly := true }, emit_ := { s.emit_ with stripDark := true } }).setStage' .bindFlip
    else if atBoundary m tgt then s
    else if tgt = Mode.IDLE ∧ m ≠ Mode.SERVICE then s.startPowerUp
    else
      let s := { s with mode := { s.mode with serviceSafe := tgt == Mode.SERVICE && m == Mode.SAFE } }
      s.towards tgt

/-- Forward a mode command with LOCAL = 0, with the boundary it takes effect at (R389). -/
def State.forwardMode (s : State) (tgt : Nat) (loc : Bool) (seq source frame : Nat) : State :=
  if s.chain.chained && s.isActing && !loc then
    s.sendAll 3 [Word.ofNat (tgt + seq * 2 ^ 8 + source * 2 ^ 16), Word.ofNat frame]
  else s

/-- The mode command that a row of its own or a register write spells: target and LOCAL. -/
def modeOfInstr : Instr → Option (Nat × Bool)
  | .modeCmdDeep _ l _ => some (Mode.DEEP, l)
  | .modeCmdStrip _ l _ => some (Mode.STRIP, l)
  | .modeCmdIdle _ l _ => some (Mode.IDLE, l)
  | .modeCmdPreview _ l _ => some (Mode.PREVIEW, l)
  | .modeCmdShow _ l _ => some (Mode.SHOW, l)
  | .modeCmdLive _ l _ => some (Mode.LIVE, l)
  | .modeCmdSwatch _ l _ => some (Mode.SWATCH, l)
  | .modeCmdService _ l _ => some (Mode.SERVICE, l)
  | .modeCmdBindOff _ l _ => some (Mode.BIND_OFF, l)
  | .modeCmdSafe _ l _ => some (Mode.SAFE, l)
  | .registerWrite _ _ a size w => if a = Reg.GLB_MODE_CMD ∧ size = 4 then some (w.field 0 4, w.bit 4) else none
  | _ => none

/-- A command of this cycle with a higher priority waits and is acceptable (R27): the register before cues, a network cue before a
pattern cue; a write that Table 20-2 refuses is none. -/
def State.outranked (s : State) (source : Nat) : Bool :=
  (source != 0 && (writeCause s .host Reg.GLB_MODE_CMD 4 0).isNone &&
    s.sameCycle fun i => (modeOfInstr i).any fun x => (s.modeCheck x.1 x.2).isNone) ||
  (source == 2 && s.sameCycle fun i => match i with
    | .cueModeCommand _ c => s.cue.fired.any fun f => f.source == 1 &&
        ((s.cueAt f.index).any fun q => q.num == c && (s.modeCheck q.arg0 (q.arg1 % 2 == 1)).isNone)
    | _ => false)

/-- A mode command from a source of R26, a cue's or not: refused, or accepted and started. -/
def State.modeCommand (s : State) (tgt : Nat) (loc : Bool) (seq source : Nat) (cue : Option Nat := none) : State :=
  if s.mode.safeStart = some s.now then s.refuseMode tgt 5 0 seq source 2 cue
  else if s.busy ∨ s.outranked source then s.refuseMode tgt 2 0 seq source 2 cue
  else match s.modeCheck tgt loc with
    | some (r, p) => s.refuseMode tgt r p seq source 2 cue
    | none =>
      let f := (s.selectLatch.map (·.1)).getD 0
      let frame := if s.chain.chained && !loc then some f else none
      (s.forwardMode tgt loc seq source f).startMode tgt loc seq source frame cue

/-- A GLB_MODE_CMD write passes the guard of R424, then is taken as a command. -/
def State.modeWrite (s : State) (tgt : Nat) (loc : Bool) (seq : Nat) : State :=
  let w := Word.ofNat (tgt + 16 * bitOf loc + 256 * seq)
  match writeCause s .host Reg.GLB_MODE_CMD 4 w with
  | some c => s.refuse .host Reg.GLB_MODE_CMD w c
  | none => s.modeCommand tgt loc (seq % 256) 0

/-! ## Meanings of the mode commands -/

/-- MODE_CMD_RESET (R30, Table 2-8): refused as ILLEGAL. -/
def execModeCmdReset (t seq : Nat) (s : State) : Res := .next ((s.advance t).modeWrite Mode.RESET true seq)
/-- MODE_CMD_CAST_ON (R30, Table 2-8): refused as ILLEGAL. -/
def execModeCmdCastOn (t seq : Nat) (s : State) : Res := .next ((s.advance t).modeWrite Mode.CAST_ON true seq)
/-- MODE_CMD_DEEP (R31). -/
def execModeCmdDeep (t : Nat) (loc : Bool) (seq : Nat) (s : State) : Res := .next ((s.advance t).modeWrite Mode.DEEP loc seq)
/-- MODE_CMD_STRIP (R31). -/
def execModeCmdStrip (t : Nat) (loc : Bool) (seq : Nat) (s : State) : Res := .next ((s.advance t).modeWrite Mode.STRIP loc seq)
/-- MODE_CMD_IDLE (R30). -/
def execModeCmdIdle (t : Nat) (loc : Bool) (seq : Nat) (s : State) : Res := .next ((s.advance t).modeWrite Mode.IDLE loc seq)
/-- MODE_CMD_PREVIEW (R29). -/
def execModeCmdPreview (t : Nat) (loc : Bool) (seq : Nat) (s : State) : Res := .next ((s.advance t).modeWrite Mode.PREVIEW loc seq)
/-- MODE_CMD_SHOW (R29). -/
def execModeCmdShow (t : Nat) (loc : Bool) (seq : Nat) (s : State) : Res := .next ((s.advance t).modeWrite Mode.SHOW loc seq)
/-- MODE_CMD_LIVE (R29). -/
def execModeCmdLive (t : Nat) (loc : Bool) (seq : Nat) (s : State) : Res := .next ((s.advance t).modeWrite Mode.LIVE loc seq)
/-- MODE_CMD_SWATCH (R29). -/
def execModeCmdSwatch (t : Nat) (loc : Bool) (seq : Nat) (s : State) : Res := .next ((s.advance t).modeWrite Mode.SWATCH loc seq)
/-- MODE_CMD_SERVICE (R30). -/
def execModeCmdService (t : Nat) (loc : Bool) (seq : Nat) (s : State) : Res := .next ((s.advance t).modeWrite Mode.SERVICE loc seq)
/-- MODE_CMD_BIND_OFF (R31). -/
def execModeCmdBindOff (t : Nat) (loc : Bool) (seq : Nat) (s : State) : Res := .next ((s.advance t).modeWrite Mode.BIND_OFF loc seq)
/-- MODE_CMD_SAFE (R33). -/
def execModeCmdSafe (t : Nat) (loc : Bool) (seq : Nat) (s : State) : Res := .next ((s.advance t).modeWrite Mode.SAFE loc seq)

/-- What the entry to a mode starts beside its registers: the frame cadence (R473), the STRIP cadence and band ramp (R252, R253). -/
def State.modeStarted (s : State) (tr : Transition) : State :=
  if (tr.target = Mode.IDLE ∨ tr.target = Mode.SERVICE) ∧ !s.cadenceRuns then s.startCadence tr.target
  else if tr.target = Mode.STRIP then
    let s := ((s.startCadence Mode.STRIP).setBit Reg.EMIT_STRIP_STAT 1 false).setFld Reg.EMIT_STRIP_STAT 16 16 0
    let e : EmitState := { s.emit_ with noDischarge := true, stripFlip := none, stripPend := none, stripDark := false, up := none }
    let s := ({ s with emit_ := e }).setSeq 0
    -- lanes of the band that the bind-off left in electrical idle train again
    s.each ((s.bandTiles.map s.laneOfTile).filter fun l => s.laneStage l == 0) State.startLane
  else s

/-- A timed transition may complete: its domains are switched, and a target that needs the stack finds it out of self-refresh (R36, R38). -/
def State.transitionReady (s : State) (tr : Transition) : Bool :=
  tr.stage == .timed && s.powerIdle && !(fullMode tr.target && s.resting) && !s.power.srExit

/-- MODE_TRANSITION_DONE (R30). -/
def execModeTransitionDone (t : Nat) (s : State) : Res :=
  let s := s.advance t
  .next (match s.mode.cur with
    | none => s
    | some tr => if s.transitionReady tr then (s.finishMode tr).modeStarted tr else s)

/-- DOMAIN_POWER_GOOD_TIMEOUT (R37): power good of a rising domain has not arrived within 200 µs. -/
def execDomainPowerGoodTimeout (t : Nat) (domain : Fin 80) (s : State) : Res :=
  let s := s.advance t
  let arrives := s.sameCycle fun i => match i with
    | .domainPowerGood _ d => d == domain
    | _ => false
  .next (match s.power.rising.find? fun r => r.1 == domain.val with
    | none => s
    | some r =>
      if s.now < r.2 ∨ arrives then s
      else
        let s := { s with power := { s.power with rising := s.power.rising.filter fun r => r.1 != domain.val } }
        let s := s.refreshSeq.setFld Reg.PWR_SEQ_STAT 8 7 domain
        (s.raise Ev.DOMAIN_FAIL [domain, s.modeCode, s.fld Reg.GLB_MODE_STAT 4 4]).enterSafe 5 none)

end Sys2Proof.Machine
end

