-- ==== Sys2Proof/Machine/Blocks.lean ====
section
/-! DEFINITION.  The control blocks of the panel link as the controller sends them (R187 to R192, Table 9-3). -/

namespace Sys2Proof.Machine

/-- An IEEE 1588 timestamp of 80 bits: seconds above nanoseconds (R190). -/
def stamp80 (ns : Nat) : Nat := ns / 1000000000 % 2 ^ 48 * 2 ^ 32 + ns % 1000000000

/-- COURSE block. -/
def courseBlock (tile frame course rays hogels : Nat) (purl flat half : Bool) : List Byte :=
  ctlBlock 0x10 (tile % 2 ^ 10 * 2 ^ 8 + frame % 2 ^ 16 * 2 ^ 24 + course % 2 ^ 13 * 2 ^ 40 + rays % 2 ^ 24 * 2 ^ 56
    + bitOf purl * 2 ^ 80 + bitOf flat * 2 ^ 81 + bitOf half * 2 ^ 82 + hogels % 2 ^ 13 * 2 ^ 96)

/-- COURSE_END block. -/
def courseEndBlock (tile frame course crc blocks : Nat) : List Byte :=
  ctlBlock 0x11 (tile % 2 ^ 10 * 2 ^ 8 + frame % 2 ^ 16 * 2 ^ 24 + course % 2 ^ 13 * 2 ^ 40 + crc % 2 ^ 32 * 2 ^ 56
    + blocks % 2 ^ 24 * 2 ^ 88)

/-- HOLD_RUN block. -/
def holdRunBlock (start count : Nat) : List Byte := ctlBlock 0x12 (start % 2 ^ 24 * 2 ^ 8 + count % 2 ^ 24 * 2 ^ 32)

/-- FLIP block: frame number and flip instant in ns. -/
def flipBlock (frame ns : Nat) : List Byte := ctlBlock 0x20 (frame % 2 ^ 16 * 2 ^ 8 + stamp80 ns * 2 ^ 24)

/-- TIME block. -/
def timeBlock (echo : Bool) (ns : Nat) : List Byte := ctlBlock 0x21 (bitOf echo * 2 ^ 8 + stamp80 ns * 2 ^ 24)

/-- CONFIG block. -/
def configBlock (target tag addr data epoch : Nat) (read : Bool) : List Byte :=
  ctlBlock 0x30 (target % 2 ^ 10 * 2 ^ 8 + bitOf read * 2 ^ 18 + tag % 2 ^ 8 * 2 ^ 24 + addr % 2 ^ 16 * 2 ^ 32
    + data % 2 ^ 32 * 2 ^ 48 + epoch % 2 ^ 16 * 2 ^ 80)

/-- EMIT block; the period is in 2^−6 ns. -/
def emitBlock (frame mult phase len period : Nat) : List Byte :=
  ctlBlock 0x31 (frame % 2 ^ 16 * 2 ^ 8 + mult % 2 ^ 8 * 2 ^ 24 + phase % 2 ^ 16 * 2 ^ 32 + len % 2 ^ 13 * 2 ^ 48
    + period % 2 ^ 32 * 2 ^ 64)

/-- PROBE block for the three colours. -/
def probeBlock (target id first count : Nat) : List Byte :=
  ctlBlock 0x32 (target % 2 ^ 10 * 2 ^ 8 + id % 2 ^ 8 * 2 ^ 24 + first % 2 ^ 24 * 2 ^ 32 + count % 2 ^ 24 * 2 ^ 56 + 7 * 2 ^ 80)

/-- DISCHARGE block. -/
def dischargeBlock (target hold : Nat) (on : Bool) : List Byte :=
  ctlBlock 0x33 (target % 2 ^ 10 * 2 ^ 8 + bitOf on * 2 ^ 24 + hold % 2 ^ 16 * 2 ^ 32)

/-- A control block goes out on a panel lane, in its next payload slot (R184, R185, R187). -/
def State.sendSlot (s : State) (lane : Nat) (b : List Byte) : State := (s.putSlot lane true b).emit (.block lane b)

/-- A block on a panel lane, where the lane is UP and this member sends to the panel (R32, R64). -/
def State.sendPanel (s : State) (lane : Nat) (b : List Byte) : State :=
  if s.laneUp lane && !s.silent then s.sendSlot lane b else s

/-- A block that leaves at cycle `c`, ahead of its turn. -/
def State.sendPanelAt (s : State) (lane c : Nat) (b : List Byte) : State :=
  if s.laneUp lane && !s.silent then (s.putSlotAt lane c b).emit (.block lane b) else s

/-- The panel still gets what belongs to the open courses: the member sends to it, or withdraws and ends its stream at the next course
boundary (R32). -/
def State.streaming (s : State) : Bool := !s.silent || s.mode.cur.any fun tr => tr.stage == .withdraw

/-- A block of an open course. -/
def State.sendStream (s : State) (lane : Nat) (b : List Byte) : State :=
  if s.laneUp lane && s.streaming then s.sendSlot lane b else s

/-- A TIME block goes out from a member that has not joined as well (R64). -/
def State.sendTime (s : State) (lane : Nat) (b : List Byte) : State :=
  if s.laneUp lane && !s.chain.quiet then s.sendSlot lane b else s

/-- DISCHARGE, ON = 1, HOLD = 50, on some lanes (R249, R250). -/
def State.sendDischarge (s : State) (lanes : List Nat) : State :=
  s.each lanes fun s l => s.sendPanel l (dischargeBlock 0x3FF 50 true)

end Sys2Proof.Machine
end

