-- ==== Sys2Proof/Machine/Zone.lean ====
section
/-! DEFINITION.  Zone temperatures and bands (R238 to R240, R243), thermistor conversion (R241, R242) and compliance
samples (R235). -/

namespace Sys2Proof.Machine

/-! ## Temperature of a thermistor -/

/-- One bit of a binary logarithm: the argument in 2^60, squared and halved when it reaches 2. -/
def logStep (x : Nat × Nat) (_ : Nat) : Nat × Nat :=
  let y := x.1 * x.1 / 2 ^ 60
  if 2 ^ 61 ≤ y then (y / 2, 2 * x.2 + 1) else (y, 2 * x.2)

/-- ln(num / den) in 2^−40, rounded toward the exact value to within a few units. -/
def lnFix (num den : Nat) : Int :=
  let e : Int := (Nat.log2 num : Int) - Nat.log2 den
  -- mantissa of the quotient in [1/2, 2), in 2^60
  let m := if 0 ≤ e then num * 2 ^ 60 / (den * 2 ^ e.toNat) else num * 2 ^ (-e).toNat * 2 ^ 60 / den
  let e := if m < 2 ^ 60 then e - 1 else e
  let m := if m < 2 ^ 60 then 2 * m else m
  let f := ((List.range 40).foldl logStep (m, 0)).2
  (e * 2 ^ 40 + (f : Int)) * 762123384786 / 2 ^ 40

/-- Temperature of R241 in 1/256 °C: `r` and `r25` in ohm, BETA in K.  What lies beyond signed 8.8 is one step beyond it. -/
def thmTemp (r r25 beta : Nat) : Int :=
  if r = 0 then 32768
  else
    let y := lnFix r r25
    let den := 100 * (beta : Int) * 2 ^ 40 + 29815 * y
    if den ≤ 0 then 32768
    else clampInt (-32769) 32768 (roundDivInt (5 * (256 * 29815 * (beta : Int) * 2 ^ 40) - 349632 * den) (5 * den))

/-- The middle one of three numbers. -/
def median3 {α : Type} (le : α → α → Bool) (a b c : α) : α :=
  if le a b then (if le b c then b else if le a c then c else a)
  else if le a c then a else if le b c then c else b

/-! ## Zones -/

/-- Edge E_k in 1/256 °C (R238). -/
def bandEdge (k : Nat) : Int := 3200 * (k : Int) - 2560

/-- The band after a sample: one band up at its upper edge, one down below its lower edge − 2 °C (R238). -/
def nextBand (k : Nat) (t : Int) : Nat :=
  if k < 7 ∧ bandEdge (k + 1) ≤ t then k + 1 else if 0 < k ∧ t < bandEdge k - 512 then k - 1 else k

def State.zone (s : State) (z : Nat) : ZoneState := s.emit_.zones.getD z {}
def State.setZone (s : State) (z : Nat) (x : ZoneState) : State :=
  { s with emit_ := { s.emit_ with zones := s.emit_.zones.set z x } }
def State.setThm (s : State) (n : Nat) (x : ThmState) : State :=
  { s with emit_ := { s.emit_ with thm := s.emit_.thm.set n x } }

/-- A band move is recognised and waits for its flip (R240). -/
def State.moveBand (s : State) (z : Nat) (t : Int) : State :=
  let x := s.zone z
  let k := nextBand x.band t
  let s := s.setZone z (if k = x.band then { x with seen := true }
    else { x with band := k, moveTemp := t, movedAt := some s.now, before := s.bandBefore x, seen := true })
  s.setBit (Reg.EMIT_ZONE_STAT z) 3 (decide (k ≠ s.band z))

/-- HOT of a zone (R243). -/
def State.judgeHot (s : State) (z : Nat) (t : Int) : State :=
  let hot : Int := 256 * (s.fld Reg.EMIT_THM_CFG 24 8 : Nat)
  let x := s.zone z
  if hot ≤ t then
    (if x.hot then s
     else (s.setZone z { x with hot := true }).raise Ev.EMIT_ZONE_HOT [z, argInt t, s.fld Reg.EMIT_THM_CFG 24 8])
  else if t < hot - 512 then s.setZone z { x with hot := false } else s

/-- A sample of the source that a zone uses: band and HOT are judged; without a source the zone holds (R238, R239, R243). -/
def State.judgeZone (s : State) (z : Nat) : State :=
  let s := s.showZone z
  match (s.zoneTemp z).2 with
  | some t => (s.moveBand z t).judgeHot z t
  | none => s

/-- The results of the cycle of R245 show in EMIT_PROBE_TILE, and the next cycle starts (R247). -/
def State.showProbes (s : State) (k : Nat) : State :=
  let x := s.tileState k
  let s := s.setNat (Reg.EMIT_PROBE_TILE k) (satTo 65535 x.probeOpen + satTo 255 x.probeTimeouts * 2 ^ 16)
  s.setTile k { x with probeOpen := 0, probeTimeouts := 0, probeRaised := false, probeLast := false }

/-- The PROBE outstanding for a tile has ended: with the last one of a cycle its results show. -/
def State.probeEnds (s : State) (k : Nat) : State := if (s.tileState k).probeLast then s.showProbes k else s

/-! ## Thermistor inputs -/

/-- Flag bits of the conditions that a filtered value meets: bit 0 OPEN, 1 SHORT, 2 RANGE (R242). -/
def thmFlags (r r25 : Nat) (t : Int) : Nat :=
  bitOf (decide (100 * r25 < r)) + 2 * bitOf (decide (100 * r < r25)) + 4 * bitOf (decide (t < -10240 ∨ 32000 < t))

/-- Within 5 °C of an edge E_1 to E_7 or of HOT (R242). -/
def thmFast (hot : Nat) (t : Int) : Bool :=
  ((List.range 7).any fun k => decide (bandEdge (k + 1) - 1280 ≤ t ∧ t ≤ bandEdge (k + 1) + 1280)) ||
  decide (256 * (hot : Int) - 1280 ≤ t ∧ t ≤ 256 * (hot : Int) + 1280)

/-- An input is invalid: EMIT_THM_FAULT once, with the condition and the zone's source now in use (R242). -/
def State.thmInvalid (s : State) (n cond : Nat) : State :=
  let x := s.thm n
  let s := (s.setThm n { x with valid := false, faulted := true }).showZone n
  if x.faulted then s else s.raise Ev.EMIT_THM_FAULT [n, cond, s.fld (Reg.EMIT_ZONE_STAT n) 4 2]

/-- A conversion of an input that is sampled (R242). -/
def State.thmConvert (s : State) (n ohms : Nat) : State :=
  let x := s.thm n
  let r25 := 1000 * s.fld Reg.EMIT_THM_CFG 16 8
  let t := thmTemp ohms r25 (s.fld Reg.EMIT_THM_CFG 0 16)
  let samples := (x.samples ++ [(ohms, t)]).drop (x.samples.length + 1 - 3)
  let s := s.setThm n { x with samples := samples, since := some s.now }
  match samples with
  | [a, b, c] =>
    let r := median3 (fun p q : Nat => decide (p ≤ q)) a.1 b.1 c.1
    let v := median3 (fun p q : Int => decide (p ≤ q)) a.2 b.2 c.2
    let flags := thmFlags r r25 v
    let s := (s.setNat (Reg.EMIT_THM n) (bitOf (flags == 0) * 2 ^ 16 + flags * 2 ^ 17
      + bitOf (thmFast (s.fld Reg.EMIT_THM_CFG 24 8) v) * 2 ^ 21)).setTemp (Reg.EMIT_THM n) 0 v
    if flags = 0 then (s.setThm n { s.thm n with valid := true, faulted := false }).judgeZone n
    else s.thmInvalid n (if flags % 2 = 1 then 1 else if flags / 2 % 2 = 1 then 2 else 3)
  | _ => s

/-- THM_SAMPLE (R242): an input that is enabled and sampled converts. -/
def execThmSample (t : Nat) (input : Fin 16) (ohms : Nat) (s : State) : Res :=
  let s := s.advance t
  .next (if s.bit Reg.EMIT_THM_EN input ∧ (s.thm input).since.isSome then s.thmConvert input ohms else s)

/-- THM_STALE_TIMEOUT (R242): no conversion for 100 ms; one in the cycle of expiry is in time (R17). -/
def execThmStaleTimeout (t : Nat) (input : Fin 16) (s : State) : Res :=
  let s := s.advance t
  let n := input.val
  let now_ := s.sameCycle fun i => match i with
    | .thmSample _ k _ => k == input
    | _ => false
  let due : Bool := match (s.thm n).since with
    | some c => decide (c + ms 100 ≤ s.now)
    | none => false
  .next (if due ∧ !now_ ∧ (s.thm n).samples.length = 3 then
      ((s.setBit (Reg.EMIT_THM n) 16 false).setBit (Reg.EMIT_THM n) 20 true).thmInvalid n 4
    else s)

/-- EMIT_THM_EN was written: inputs that come in start afresh, inputs that go out are no longer sampled (R241, R242). -/
def State.thmEnableWritten (s : State) (was : Nat) : State :=
  let on := s.thmEnabled
  let old := bitsOf 16 was
  let s := s.stopThm (old.filter fun n => !on.contains n)
  if s.adcOn && s.samplingOpen then s.startThm (on.filter fun n => !old.contains n) else s

/-! ## Compliance -/

/-- IREF_COMPLIANCE_SAMPLE (R235): three consecutive samples outside 0.3 to 3.0 V of an owned output whose code is above 0. -/
def execIrefComplianceSample (t : Nat) (output : Fin 48) (millivolts : Nat) (s : State) : Res :=
  let s := s.advance t
  let n := output.val
  let code := s.fld (Reg.EMIT_IREF_STAT n) 0 14
  let count (c : Nat) : State := { s with emit_ := { s.emit_ with comp := mapPut s.emit_.comp n c } }
  .next (if !s.irefOwned n ∨ code = 0 then s
    else if 300 ≤ millivolts ∧ millivolts ≤ 3000 then (count 0).setBit (Reg.EMIT_IREF_STAT n) 25 false
    else
      let c := (mapGet s.emit_.comp n).getD 0 + 1
      if c < 3 then count c
      else if s.bit (Reg.EMIT_IREF_STAT n) 25 then count 3
      else ((count 3).setBit (Reg.EMIT_IREF_STAT n) 25 true).raise Ev.EMIT_IREF_COMPLIANCE [n, millivolts, code])

end Sys2Proof.Machine
end

