-- ==== Sys2Proof/Machine/Emit.lean ====
section
/-! DEFINITION.  The power-up and bind-off sequences (R249, R250), the probe timeout (R247), the strip buffer and the band
moves of STRIP (R240, R252). -/

namespace Sys2Proof.Machine

/-- Forward lanes that the sequence covers and waits for: those that the roster assigns on powered octets (R249). -/
def State.sequenceLanes (s : State) : List Nat := s.rosterLanes.filter fun l => s.domainOn (laneDomain l)

/-- Lanes whose tile is enumerated. -/
def State.enumLanes (s : State) (ls : List Nat) : List Nat :=
  ls.filter fun l => match s.tileOfLane l with
    | some t => s.enumerated t
    | none => false

/-- t0 of a transition: the lanes are UP, or 850 ms have passed since their octets came on (R249). -/
def State.t0Due (s : State) : Bool :=
  (s.sequenceLanes.all s.laneUp) || decide (s.power.panelOn + ms 850 ≤ s.now)

/-- The sequence is over: steady, and a transition that waited for it completes next; RAMPED in STRIP. -/
def State.sequenceOver (s : State) : State :=
  let s := (({ s with emit_ := { s.emit_ with up := none } }).setSeq 3)
  let s := if s.bandSequence then s.setBit Reg.EMIT_STRIP_STAT 1 true else s
  match s.mode.cur with
  | some tr => if tr.stage = .powerUp then s.setStage' .timed else s
  | none => if s.modeCode = Mode.CAST_ON ∧ s.caston.causes = [] then s.askDomains (s.missing s.castTarget) else s

/-- t0 of the power-up sequence (R249): DISCHARGE, or the ramp at once where it runs without; a member that joins a
delivering partner runs neither. -/
def State.startSequence (s : State) : State :=
  if s.silent then s.sequenceOver
  else if s.emit_.noDischarge then s.startRampUp
  else
    let s : State := { s with emit_ := { s.emit_ with seqAt := s.now } }
    (s.sendDischarge (s.enumLanes s.sequenceLanes)).setSeq 1

/-- The power-up sequence is awaited: a transition is at it, or STRIP has just been entered from BIND-OFF. -/
def State.sequenceWaits (s : State) : Bool :=
  s.fld Reg.EMIT_STAT 0 3 == 0 &&
    ((s.mode.cur.any fun tr => tr.stage == .powerUp) || (s.modeCode == Mode.STRIP && s.mode.cur.isNone))

/-- POWERUP_T0 (R249). -/
def execPowerupT0 (t : Nat) (s : State) : Res :=
  let s := s.advance t
  .next (if s.sequenceWaits ∧ s.powerIdle ∧ s.t0Due then s.startSequence else s)

/-- POWERUP_DISCHARGE_END (R249): 50 ms after t0 the ramp starts from 0. -/
def execPowerupDischargeEnd (t : Nat) (s : State) : Res :=
  let s := s.advance t
  .next (if s.fld Reg.EMIT_STAT 0 3 = 1 ∧ s.emit_.seqAt + ms 50 ≤ s.now then s.startRampUp else s)

/-- IREF_RAMP_UP_STEP (R249): step k of 5,000, due k × 10 µs after the ramp's start. -/
def execIrefRampUpStep (t : Nat) (s : State) : Res :=
  let s := s.advance t
  .next (match s.emit_.up with
    | none => s
    | some r =>
      let k := r.step + 1
      if s.now < r.at_ + us (10 * k) then s else
      let s := s.setCodes (r.codes.map fun c => rampUpCode c k)
      if 5000 ≤ k then s.sequenceOver
      else { s with emit_ := { s.emit_ with up := some { r with step := k } } })

/-- IREF_RAMP_DOWN_STEP (R250): step k of 2,000, due k × 10 µs after t0. -/
def execIrefRampDownStep (t : Nat) (s : State) : Res :=
  let s := s.advance t
  .next (match s.emit_.down with
    | none => s
    | some r =>
      let k := r.step + 1
      if 2000 < k ∨ s.now < r.at_ + us (10 * k) then s
      else
        let s := s.setCodes (r.codes.map fun c => rampDownCode c k)
        { s with emit_ := { s.emit_ with down := some { r with step := k } } })

/-- Forward lanes that a bind-off takes down: the band's, or the roster's. -/
def State.bindLanes (s : State) : List Nat := if s.mode.bandOnly then s.bandTiles.map s.laneOfTile else s.rosterLanes

/-- BINDOFF_DISCHARGE (R250): 20 ms after the black flip the ramp is at 0 and every lane sends DISCHARGE. -/
def execBindoffDischarge (t : Nat) (s : State) : Res :=
  let s := s.advance t
  .next (match s.emit_.down with
    | none => s
    | some r =>
      if s.now < r.at_ + ms 20 then s
      else
        let s := s.setCodes (r.codes.map fun c => rampDownCode c 2000)
        ({ (s.sendDischarge s.bindLanes) with emit_ := { s.emit_ with down := none } }).setSeq 5)

/-- BINDOFF_IDLE (R250): 70 ms after the black flip the lanes go to electrical idle and the domains switch. -/
def execBindoffIdle (t : Nat) (s : State) : Res :=
  let s := s.advance t
  .next (if s.fld Reg.EMIT_STAT 0 3 = 5 ∧ s.emit_.seqAt + ms 70 ≤ s.now then (s.idleLanes s.bindLanes).bindDone else s)

/-! ## Probes -/

/-- A probe result of tile `k` arrives in this cycle (R17, R247). -/
def State.probeNow (s : State) (k id : Nat) : Bool :=
  s.bcNow (s.laneOfTile k) fun f => leAt f 0x24 1 == id && leAt f 0x25 1 == 2

/-- PROBE_TIMEOUT (R247): counted, reported, and left to the next cycle. -/
def execProbeTimeout (t : Nat) (tile : Fin 128) (s : State) : Res :=
  let s := s.advance t
  let k := tile.val
  let x := s.tileState k
  .next (match x.probe with
    | none => s
    | some (id, seg, c) =>
      if s.now < c + us 100 ∨ s.probeNow k id then s
      else ((s.setTile k { x with probe := none, probeTimeouts := satTo 255 (x.probeTimeouts + 1) }).raise
        Ev.EMIT_PROBE_TIMEOUT [k, id, seg]).probeEnds k)

/-! ## STRIP -/

/-- EMIT_STRIP_GO (R252): without effect while BUSY = 1. -/
def execEmitStripGo (t : Nat) (req : Requester) (s : State) : Res :=
  .next ((s.advance t).control req Reg.EMIT_STRIP_CTL 1 fun s => s.setBit Reg.EMIT_STRIP_STAT 0 true)

/-- EMIT_STRIP_BUF_WRITE (R252): refused with EMIT_STRIP_BUSY while BUSY = 1. -/
def execEmitStripBufWrite (t : Nat) (req : Requester) (index : Nat) (data : Word) (s : State) : Res :=
  let a := Reg.EMIT_STRIP_BUF (index % 65536)
  .next ((s.advance t).guarded req a 4 data fun s w => s.setReg a w)

/-- STRIP_REFRESH_PERIOD_START (R240): band moves recorded in STRIP take effect, unless a ramp or discharge runs. -/
def execStripRefreshPeriodStart (t : Nat) (s : State) : Res :=
  let s := s.advance t
  .next (if s.modeCode ≠ Mode.STRIP ∨ s.emitSequence then s
    else
      let s := s.each (List.range 16) fun s z => s.applyBand z (s.zone z).band (s.zone z).moveTemp (s.nat Reg.SCAN_FRAME)
      if s.fld Reg.EMIT_STAT 0 3 = 3 then s.setCodes s.targets else s)

end Sys2Proof.Machine
end

