-- ==== Sys2Proof/Machine/Spk.lean ====
section
/-! DEFINITION.  The controller's end of the panel link (chapter 9): CONFIG accesses (R198, R199), enumeration (R208),
delay measurement (R195, R196), and back-channel status (R202, R203, R211). -/

namespace Sys2Proof.Machine

/-! ## CONFIG accesses -/

/-- CONFIG blocks may go out: in a boundary, or at any time while no cadence runs (R170, R188). -/
def State.configOpen (s : State) : Bool := !s.cadenceRuns || s.frame.boundary

/-- This member sends CONFIG to its tiles: it is alone, or pair lead that has not yielded (Table 18-3, R395). -/
def State.configs (s : State) : Bool := (!s.paired || (s.isLead && !s.bit Reg.CHAIN_STAT 9)) && !s.silent

/-- Send an access with a new TAG; it is then outstanding on its lane (R199). -/
def State.sendCfg (s : State) (q : CfgReq) : State :=
  let l := s.laneOfTile q.tile
  let tag := (s.spk.nextTag + 1) % 256
  let q := { q with tries := q.tries + 1, tag := tag, sent := s.now }
  let s := { s with spk := { s.spk with nextTag := tag, out := mapPut s.spk.out l q } }
  s.sendPanel l (configBlock q.target tag q.addr q.data (s.fld Reg.SPK_EPOCH 0 16) q.read)

/-- The first access that waits for lane `l` goes out when none is outstanding there. -/
def State.pumpLane (s : State) (l : Nat) : State :=
  if !s.configOpen || (mapGet s.spk.out l).isSome then s
  else
    match s.spk.queued.find? fun q => s.laneOfTile q.tile == l with
    | none => s
    | some q => ({ s with spk := { s.spk with queued := s.spk.queued.erase q } }).sendCfg q

/-- CONFIG blocks of a boundary (R170). -/
def State.pumpConfigs (s : State) : State := s.each s.rosterLanes State.pumpLane

/-- An access is queued, behind those that wait. -/
def State.queueCfg (s : State) (q : CfgReq) : State := { s with spk := { s.spk with queued := s.spk.queued ++ [q] } }

/-! ## Delay measurement -/

/-- Show time now in 2^−16 ns. -/
def State.showFns (s : State) : Nat := flatFns (s.time.showFine s.now)

/-- TIME value for a tile: show time at departure plus the delay in use, whole ns (R195). -/
def State.timeFor (s : State) (k : Nat) : Nat := (s.showFns + s.fld (Reg.SPK_TILE_DELAY k) 0 16 * 2 ^ 14) / 2 ^ 16

/-- Send TIME with ECHO = 1 to a tile (R196); where no TIME can go out, no echo is outstanding. -/
def State.startEcho (s : State) (k : Nat) : State :=
  let l := s.laneOfTile k
  let goes := s.laneUp l && !s.chain.quiet
  let s := s.setTile k { s.tileState k with echo := if goes then some (s.showFns, s.now) else none, echoAt := some s.now }
  s.sendTime l (timeBlock true (s.timeFor k))

/-- D of R196 in 2^−2 ns from the interval R and ECHO, with ASYM. -/
def echoDelay (r echo : Nat) (asym : Int) : Int := roundDivInt ((r : Int) - (echo * 2 ^ 12 : Nat)) (2 ^ 15) + asym

/-- The delay in use becomes `d`, unless OVERRIDE holds the written one (R196). -/
def State.setDelay (s : State) (k : Nat) (d : Int) : State :=
  if s.bit (Reg.SPK_TILE_DELAY k) 31 then s else s.setFld (Reg.SPK_TILE_DELAY k) 0 16 (clampInt 0 65535 d).toNat

/-! ## Enumeration (R208) -/

/-- Reads of step 2. -/
def identReads : List Nat := [0x00, 0x04, 0x08, 0x0C, 0x18, 0x1C, 0x20]
/-- Reads of step 6 that follow T_WARP[0] = 1. -/
def warpReads : List Nat := (List.range 289).map (0x1000 + 4 * ·) ++ (List.range 256).map (0x1800 + 4 * ·) ++ [0x28]

/-- A register of a tile as read in this enumeration. -/
def TileState.read (x : TileState) (a : Nat) : Word := (mapGet x.regs a).getD 0

/-- A read for the enumeration of tile `k`. -/
def enumRead (k target a : Nat) : CfgReq := { tile := k, target := target, read := true, addr := a, data := 0, why := .enumeration }
/-- A write for the enumeration of tile `k`. -/
def enumWrite (k a v : Nat) : CfgReq := { tile := k, target := 0x3FF, read := false, addr := a, data := v, why := .enumeration }

/-- The enumeration's next access is queued. -/
def State.enumPush (s : State) (k : Nat) : State :=
  let x := s.tileState k
  match x.todo with
  | [] => s
  | q :: rest => ((s.setTile k { x with todo := rest }).queueCfg q).pumpLane (s.laneOfTile k)

/-- The enumeration of a tile starts: it is no longer enumerated, and waits for its back-channel (step 1). -/
def State.enumStart (s : State) (k : Nat) : State :=
  let mine (q : CfgReq) : Bool := q.tile == k && q.why == .enumeration
  let s := { s with spk := { s.spk with queued := s.spk.queued.filter (fun q => !mine q), out := s.spk.out.filter fun x => !mine x.2 } }
  let s := s.setTile k { s.tileState k with enumStep := some .wait, enumAt := s.now, todo := [], regs := [], delays := [],
                                                echo := none, noLock := none, blanked := none }
  ((s.setBit (Reg.SPK_TILE_STAT k) 0 false).refreshSpk).refreshZone (((s.tile k).map (·.zone)).getD 16)

/-- A failure in steps 1 to 4: SPK_TILE_MISMATCH, and the tile stays out (R208, R210). -/
def State.enumFail (s : State) (k reason value : Nat) : State :=
  let s := s.setTile k { s.tileState k with enumStep := none, todo := [] }
  (s.setBit (Reg.SPK_TILE_STAT k) 4 true).raise Ev.SPK_TILE_MISMATCH [k, s.laneOfTile k, reason, value]

/-- Step 7: the tile is enumerated; a new source of its zone's primaries makes the matrix due (R140). -/
def State.enumFinish (s : State) (k : Nat) : State :=
  let x := s.tileState k
  let prim := [x.read 0x18, x.read 0x1C, x.read 0x20]
  let z := ((s.tile k).map fun (r : RosterTile) => r.zone).getD 0
  let s := s.setTile k { x with enumStep := none, todo := [], prim := prim, warpPresent := (x.read 0x24).bit 0,
                                noLock := none, blanked := none, flipSeen := 0, lastComplete := none }
  let s := ((s.setBit (Reg.SPK_TILE_STAT k) 0 true).setBit (Reg.SPK_TILE_STAT k) 4 false).refreshSpk
  let s := s.zoneChanged z
  s.raise Ev.SPK_TILE_ENUMERATED [k, s.laneOfTile k, (x.read 0).toNat, s.fld (Reg.SPK_TILE_DELAY k) 0 16]

/-- Step 3: what differs from the roster, as reason and value read; none when the tile is as expected. -/
def State.enumCheck (s : State) (k : Nat) : Option (Nat × Nat) :=
  let x := s.tileState k
  match s.tile k with
  | none => some (2, (x.read 0x08).toNat)
  | some r =>
    let (courses, width) := tileCourses r
    if (x.read 0x04).field 0 8 ≠ 1 then some (1, (x.read 0x04).toNat)
    else if (x.read 0x08).field 0 13 ≠ width ∨ (x.read 0x08).field 16 13 ≠ courses then some (2, (x.read 0x08).toNat)
    else if (x.read 0x0C).field 0 5 ≠ r.nu ∨ (x.read 0x0C).field 8 5 ≠ r.nv then some (3, (x.read 0x0C).toNat)
    else none

/-- Step 5 begins. -/
def State.enumDelay (s : State) (k : Nat) : State :=
  (s.setTile k { s.tileState k with enumStep := some .delay, delays := [] }).startEcho k

/-- Step 6 begins, or the enumeration ends where this member makes no CONFIG access. -/
def State.enumWarpStep (s : State) (k : Nat) : State :=
  if s.configs then
    (s.setTile k { s.tileState k with enumStep := some .warp, todo := [enumRead k k 0x24] }).enumPush k
  else (s.enumWarpUnread k).enumFinish k

/-- The warp window and its CRC have been read: the check of R145 (R208 step 6). -/
def State.enumWarpCheck (s : State) (k : Nat) : State :=
  let x := s.tileState k
  let grid := (List.range 289).map fun i => x.read (0x1000 + 4 * i)
  let dir := (List.range 256).map fun i => x.read (0x1800 + 4 * i)
  let crc := crc32c ((grid ++ dir).flatMap fun w => leBytes 4 w.toNat)
  let s := if crc = (x.read 0x28).toNat then s.enumWarp k (some (grid.map warpPair, dir.map warpPair)) 0 else s.enumWarp k none 2
  s.enumFinish k

/-- A CONFIG access of an enumeration ended with `result` (0x5 for a timeout). -/
def State.enumAccess (s : State) (k : Nat) (q : CfgReq) (result : Nat) (data : Word) : State :=
  let x := s.tileState k
  match x.enumStep with
  | some .access =>
    if result ≠ 1 then s.enumFail k 5 q.addr
    else
      let s := if q.read then s.setTile k { x with regs := mapPut x.regs q.addr data } else s
      if q.read ∧ q.addr = 0x20 then
        match s.enumCheck k with
        | some (reason, v) => s.enumFail k reason v
        | none =>
          (s.setTile k { s.tileState k with todo := [enumWrite k 0x10 k, enumWrite k 0x14 (s.fld Reg.SPK_CFG 0 2)] }).enumPush k
      else if !q.read ∧ q.addr = 0x14 then s.enumDelay k
      else s.enumPush k
  | some .warp =>
    if result ≠ 1 then ((s.setTile k { x with todo := [] }).enumWarp k none 2).enumFinish k
    else
      let s := s.setTile k { x with regs := mapPut x.regs q.addr data }
      if q.addr = 0x24 then
        if data.bit 0 then (s.setTile k { s.tileState k with todo := warpReads.map fun a => enumRead k k a }).enumPush k
        else (s.enumWarp k none 1).enumFinish k
      else if q.addr = 0x28 then s.enumWarpCheck k
      else s.enumPush k
  | _ => s

/-- The outstanding access of lane `l` ended (R199). -/
def State.endCfg (s : State) (l : Nat) (q : CfgReq) (result : Nat) (data : Word) : State :=
  let s := { s with spk := { s.spk with out := mapErase s.spk.out l } }
  let s := if result = 1 then s
    else s.raise Ev.SPK_CONFIG_FAIL [q.tile, q.addr, result, s.fld Reg.SPK_EPOCH 0 16]
  let s := match q.why with
    | .expert =>
      let s := (s.setNat Reg.SPK_CFGW_STAT (16 * result)).setBit Reg.SPK_CFGW_CMD 0 false
      if q.read ∧ result = 1 then s.setReg Reg.SPK_CFGW_RDATA data else s
    | .enumeration => s.enumAccess q.tile q result data
  s.pumpLane l

/-- A frame reports the access that is outstanding on lane `l` (R199). -/
def State.cfgReported (s : State) (l : Nat) (f : List Byte) : Option CfgReq :=
  (mapGet s.spk.out l).filter fun q => leAt f 0x1C 1 == q.tag && leAt f 0x1D 1 != 0

/-- Start of the accesses of steps 2 to 4, at the first valid frame. -/
def State.enumHeard (s : State) (k : Nat) : State :=
  if s.configs then
    (s.setTile k { s.tileState k with enumStep := some .access, todo := identReads.map fun a => enumRead k 0x3FF a }).enumPush k
  else s.enumDelay k

/-! ## Back-channel status -/

/-- SPK_STATUS_RANGE, at most once per tile per second (R203). -/
def State.rangeFault (s : State) (k off value : Nat) : State :=
  let x := s.tileState k
  if limited x.rangeAt (ms 1000) s.now then s
  else (s.setTile k { x with rangeAt := some s.now }).raise Ev.SPK_STATUS_RANGE [k, off, value]

/-- TEMP0 and TEMP1 checked for range; TEMP0 serves the zone (R203, R239). -/
def State.takeTemps (s : State) (k : Nat) (f : List Byte) : State :=
  let bad (v : Int) : Bool := decide (v < -10240 ∨ 32000 < v)
  let t0 := signed 16 (leAt f 0x16 2)
  let t1 := signed 16 (leAt f 0x18 2)
  let z := ((s.tile k).map fun (r : RosterTile) => r.zone).getD 0
  let s := if bad t1 then s.rangeFault k 0x18 (argInt t1) else s
  if bad t0 then (s.rangeFault k 0x16 (argInt t0)).refreshZone z
  else
    let s := s.setTile k { s.tileState k with temp := some (t0, s.now) }
    if (s.zoneTemp z).1 = 1 then s.judgeZone z else s

/-- FEC counters: increments since the last frame (R202, R211, R225). -/
def State.takeFec (s : State) (k : Nat) (f : List Byte) : State :=
  let x := s.tileState k
  let corr := leAt f 0x0C 4
  let unc := leAt f 0x10 4
  let bad := leAt f 0x14 2
  match x.raw with
  | none => s.setTile k { x with raw := some (corr, unc, bad) }
  | some (c0, u0, b0) =>
    let dc := (corr + 2 ^ 32 - c0) % 2 ^ 32
    let du := (unc + 2 ^ 32 - u0) % 2 ^ 32
    let db := (bad + 2 ^ 16 - b0) % 2 ^ 16
    let recent := x.uncorr.filter (fun u => s.now < u.2 + ms 1000) ++ (if du = 0 then [] else [(du, s.now)])
    let s := s.setTile k { x with raw := some (corr, unc, bad), uncorr := recent, fomCorr := x.fomCorr + dc, tryCorr := x.tryCorr + dc }
    -- no status is taken from a tile that is not enumerated (R203)
    let s := if s.enumerated k then (s.incFld (Reg.SPK_TILE_FEC k) 0 16 du).incFld (Reg.SPK_TILE_FEC k) 16 16 db else s
    if du = 0 ∨ !s.enumerated k ∨ limited x.fecAt (ms 1000) s.now then s
    else (s.setTile k { s.tileState k with fecAt := some s.now }).raise Ev.SPK_FEC_UNCORR [k, (recent.map (·.1)).sum]

/-- A frame number is one of those sent, by this device or, in a pair, by its partner up to the frame in delivery, modulo 2^16; as
LAST_COMPLETE it is not the frame in delivery. Before the first frame nothing is refused (R203; log entry 176). -/
def State.frameSent (s : State) (n : Nat) (flipped : Bool) : Bool :=
  let own := s.frame.sent.any fun r => decide ((n + 2 ^ 16 - r.1 % 2 ^ 16) % 2 ^ 16 ≤ r.2 - r.1)
  let cur := s.frame.cur.map fun c => c.count % 2 ^ 16
  let pair := s.paired && cur.any fun c => decide (0 ≤ signed 16 (c + 2 ^ 16 - n % 2 ^ 16))
  s.frame.sent.isEmpty || ((own || pair) && !(flipped && cur == some (n % 2 ^ 16)))

/-- Courses that a tile can report carried: twice its courses in view-split (R206). -/
def State.carryMax (s : State) (k : Nat) : Nat :=
  match s.tile k with
  | some r => (tileCourses r).1 * (if s.fld Reg.SPK_CFG 0 2 = 2 then 2 else 1)
  | none => 0

/-- LAST_COMPLETE and CARRY: a new completed frame is recorded, and a carry-over counted and reported (R178, R203). -/
def State.takeComplete (s : State) (k : Nat) (f : List Byte) : State :=
  let n := leAt f 0x08 2
  let carry := leAt f 0x0A 2
  let recv := leAt f 0x1E 2
  let x := s.tileState k
  let s := if s.frameSent recv false then s else s.rangeFault k 0x1E recv
  if !s.frameSent n true then s.rangeFault k 0x08 n
  else if s.carryMax k < carry then s.rangeFault k 0x0A carry
  else if x.lastComplete = some n then s
  else
    let s := s.setTile k { s.tileState k with lastComplete := some n, flipSeen := 0 }
    let s := s.setNat (Reg.SCAN_TILE_STAT k) (n + satTo 255 carry * 2 ^ 16
      + bitOf (carry != 0 || n != s.frame.lastFrame % 2 ^ 16) * 2 ^ 24)
    if carry = 0 ∨ s.frame.carried.contains (k, n) then s
    else
      let seen := s.frame.carried.filter (fun c => c.1 != k) ++ [(k, n)]
      let s := ({ s with frame := { s.frame with carried := seen } }).incFld Reg.SCAN_COUNT 16 16 carry
      s.raise Ev.SCAN_CARRY_OVER [k, n, carry]

/-- A flip fault flag that a frame shows first: SPK_FLIP_FAULT at its limited rate (R211, R431). -/
def State.flipFault (s : State) (k n flag : Nat) : State :=
  let x := s.tileState k
  if limited x.flipAt (ms 1000) s.now then s.setTile k { x with flipSuppressed := x.flipSuppressed + 1 }
  else (s.setTile k { x with flipAt := some s.now, flipSuppressed := 0 }).raise Ev.SPK_FLIP_FAULT [k, n, flag, x.flipSuppressed]

/-- FLIP_LATE, FLIP_MISSED and FLIP_CONFLICT (R211). -/
def State.takeFlips (s : State) (k : Nat) (f : List Byte) : State :=
  let flags := leAt f 0x06 2 / 32 % 8
  let x := s.tileState k
  let new := (List.range 3).filter fun i => flags.testBit i && !x.flipSeen.testBit i
  (s.setTile k { x with flipSeen := x.flipSeen ||| flags }).each new fun s i => s.flipFault k (leAt f 0x08 2) (i + 1)

/-- Runs of frames that report no lock, or blanking while delivered to (R211). -/
def State.takeRuns (s : State) (k : Nat) (f : List Byte) : State :=
  let x := s.tileState k
  let lock := s.bcLock f
  let blank := (leAt f 0x06 2).testBit 3
  let up := s.laneUp (s.laneOfTile k)
  let x := if lock then { x with noLock := none, noLockRaised := false }
    else { x with noLock := if up then some (x.noLock.getD s.now) else none }
  let x := if !blank then { x with blanked := none, blankedRaised := false }
    else { x with blanked := if s.delivering && !s.silent && up then some (x.blanked.getD s.now) else none }
  s.setTile k x

/-- The words of an argument for the first open emitter: hogel and view, and its colour (Table 9-5). -/
def firstOpen (f : List Byte) : List Nat := [leAt f 0x28 4, leAt f 0x2C 4 % 4]

/-- A probe result or an in-pulse report (R247, R248). -/
def State.takeProbe (s : State) (k : Nat) (f : List Byte) : State :=
  let id := leAt f 0x24 1
  let n := leAt f 0x26 2
  let x := s.tileState k
  if leAt f 0x25 1 ≠ 2 then s
  else if id = 0 then
    if n = 0 then s
    else
      let s := s.setTile k { x with probeOpen := x.probeOpen + n }
      if limited x.inPulseAt (ms 1000) s.now then s
      else (s.setTile k { s.tileState k with inPulseAt := some s.now }).raise Ev.EMIT_OPEN_EMITTER ([k, 0, n] ++ firstOpen f)
  else match x.probe with
    | some (i, _, _) =>
      if i ≠ id then s
      else if n = 0 then (s.setTile k { x with probe := none }).probeEnds k
      else
        let s := s.setTile k { x with probe := none, probeOpen := x.probeOpen + n, probeRaised := true }
        (if x.probeRaised then s else s.raise Ev.EMIT_OPEN_EMITTER ([k, id, n] ++ firstOpen f)).probeEnds k
    | none => s

/-- ECHO of a frame that starts at least 2 µs after the echo block's receipt: recognised 2.528 µs after its departure or later (R196, R202). -/
def State.takeEcho (s : State) (k : Nat) (f : List Byte) : State :=
  let x := s.tileState k
  match x.echo with
  | none => s
  | some (dep, c) =>
    if s.now < c + nsCycles 2528 ∨ (!s.enumerated k ∧ x.enumStep ≠ some .delay) then s
    else
      -- the frame reached the balls 528 ns before its last byte
      let r := s.showFns - 528 * 2 ^ 16 - dep
      let d := echoDelay r (leAt f 0x30 4) (signed 8 (s.fld (Reg.SPK_TILE_DELAY k) 16 8))
      let s := s.setTile k { x with echo := none }
      if x.enumStep = some .delay then
        let ds := x.delays ++ [d]
        let s := s.setTile k { s.tileState k with delays := ds }
        if ds.length < 8 then s.startEcho k else (s.setDelay k (roundDivInt ds.sum 8)).enumWarpStep k
      else s.setDelay k d

/-- What the lanes take from a valid frame: lock for POLARITY, LINK and the preset search, and the return lane's LINK (R220 to R223). -/
def State.takeLanes (s : State) (l k : Nat) (f : List Byte) : State :=
  let lock := s.bcLock f
  let s := if s.laneStage (l + 0x80) = 7 then s.finishUp (l + 0x80) else s
  let x := s.tileState k
  let s := s.setTile k { x with tryLock := some (x.tryLock.getD true && lock) }
  if lock ∧ s.laneStage l = 4 then s.polarityFound l
  else if lock ∧ s.laneStage l = 7 then s.finishUp l
  else s

/-- The status that a valid frame shows at once (Table 9-10). -/
def State.showBc (s : State) (k : Nat) (f : List Byte) : State :=
  let lock := bitOf (s.bcLock f)
  let blank := bitOf ((leAt f 0x06 2).testBit 3)
  let s := s.setTile k { s.tileState k with lastBc := some s.now
                                            partnerLock := (leAt f 0x06 2).testBit (1 - s.fld Reg.SPK_CFG 2 1) }
  let s := s.setFld (Reg.SPK_TILE_STAT k) 1 3 (1 + 2 * lock + 4 * blank)
  s.each (List.range 16) fun s i => s.setNat (Reg.SPK_TILE_BC k i) (leAt f (4 * i) 4)

/-- Enumerated tiles that report lock on the partner's port, and those that report none (R395, R397). -/
def State.partnerLocks (s : State) : Nat × Nat :=
  let e := s.tiles.filter s.enumerated
  ((e.filter fun k => (s.tileState k).partnerLock).length, (e.filter fun k => !(s.tileState k).partnerLock).length)

/-- More than half of the pair's enumerated tiles report no lock on the partner's port: since when (R397). -/
def State.notePartnerLock (s : State) : State :=
  let n := s.partnerLocks
  if s.paired ∧ n.1 < n.2 then { s with chain := { s.chain with noPartnerLock := some (s.chain.noPartnerLock.getD s.now) } }
  else { s with chain := { s.chain with noPartnerLock := none } }

/-- The CONFIG report of a frame. -/
def State.takeConfig (s : State) (l : Nat) (f : List Byte) : State :=
  match s.cfgReported l f with
  | some q => s.endCfg l q (leAt f 0x1D 1) (Word.ofNat (leAt f 0x20 4))
  | none => s

/-- What an enumerated tile's frame says (R203, R211). -/
def State.takeStatus (s : State) (k : Nat) (f : List Byte) : State :=
  let s := (s.takeTemps k f).takeComplete k f
  let s := (s.takeFlips k f).takeRuns k f
  s.takeProbe k f

/-- A valid frame of tile `k` on lane `l`. -/
def State.takeFrame (s : State) (l k : Nat) (f : List Byte) : State :=
  let s := (s.takeFec k f).showBc k f
  let s := (s.takeLanes l k f).takeEcho k f
  let s := s.takeConfig l f
  if (s.tileState k).enumStep = some .wait then s.enumHeard k
  else if s.enumerated k then (s.takeStatus k f).notePartnerLock
  else s

/-- BACKCHANNEL_FRAME (R69, R202, R203); a return lane that is off or under test carries none (R228). -/
def execBackchannelFrame (t : Nat) (lane : Fin 128) (frame : List Byte) (s : State) : Res :=
  let s := s.advance t
  let l := lane.val
  .next (if s.laneStage (l + 0x80) = 0 ∨ s.laneStage (l + 0x80) = 0xA then s
    else if !bcValid frame then s.incFld (Reg.SPK_LANE_ERR l) 0 16 1
    else match s.tileOfLane l with
      | none => s
      | some k => if s.enumerated k ∧ leAt frame 0x02 2 ≠ k then s else s.takeFrame l k frame)

/-- TIME_BLOCK_DUE (R188, R195), once per 1 ms on a lane. -/
def execTimeBlockDue (t : Nat) (lane : Fin 128) (s : State) : Res :=
  let s := s.advance t
  let x := s.lane lane
  .next (match s.tileOfLane lane with
    | some k =>
      if limited x.timeAt (ms 1) s.now then s
      else (s.setLane lane { x with timeAt := some s.now }).sendTime lane (timeBlock false (s.timeFor k))
    | none => s)

/-- TILE_DELAY_ECHO (R196), every 1 s. -/
def execTileDelayEcho (t : Nat) (tile : Fin 128) (s : State) : Res :=
  let s := s.advance t
  .next (if s.enumerated tile ∧ !limited (s.tileState tile).echoAt (ms 1000) s.now then s.startEcho tile else s)

/-- TILE_BC_TIMEOUT (R203): no valid frame for 100 µs; one in the cycle of expiry counts as arrived (R17). -/
def execTileBcTimeout (t : Nat) (tile : Fin 128) (s : State) : Res :=
  let s := s.advance t
  let k := tile.val
  let l := s.laneOfTile k
  let due : Bool := match (s.tileState k).lastBc with
    | some c => decide (c + us 100 ≤ s.now)
    | none => true
  let arrives := s.bcNow l fun f => !s.enumerated k || leAt f 0x02 2 == k
  .next (if !s.bit (Reg.SPK_TILE_STAT k) 1 ∨ !due ∨ arrives then s
    else
      let was := s.enumerated k
      let s := (s.setFld (Reg.SPK_TILE_STAT k) 0 2 0).refreshSpk
      -- a lost tile is no source of its zone's temperature (R239)
      let z := ((s.tile k).map (·.zone)).getD 16
      if was then ((s.setTile k { s.tileState k with noLock := none, blanked := none }).refreshZone z).raise Ev.SPK_TILE_LOST [k, l, 1]
      else s)

/-- TILE_NO_LOCK_TIMEOUT (R211): reported once while the condition lasts; the forward lane retrains from POLARITY. -/
def execTileNoLockTimeout (t : Nat) (tile : Fin 128) (s : State) : Res :=
  let s := s.advance t
  let k := tile.val
  let x := s.tileState k
  let l := s.laneOfTile k
  let due : Bool := match x.noLock with
    | some c => decide (c + ms 1 ≤ s.now)
    | none => false
  .next (if !due ∨ x.noLockRaised ∨ !s.enumerated k ∨ !s.laneUp l ∨ s.bcNow l s.bcLock then s
    else ((s.setTile k { x with noLockRaised := true, noLock := none }).raise Ev.SPK_TILE_LOST [k, l, 2]).retrain l)

/-- TILE_BLANKED_TIMEOUT (R211). -/
def execTileBlankedTimeout (t : Nat) (tile : Fin 128) (s : State) : Res :=
  let s := s.advance t
  let k := tile.val
  let x := s.tileState k
  let l := s.laneOfTile k
  let due : Bool := match x.blanked with
    | some c => decide (c + ms 1 ≤ s.now)
    | none => false
  .next (if !due ∨ x.blankedRaised ∨ !s.enumerated k ∨ !s.delivering ∨ s.silent ∨ !s.laneUp l ∨ (s.bcNow l fun f => !(leAt f 0x06 2).testBit 3) then s
    else (s.setTile k { x with blankedRaised := true }).raise Ev.SPK_TILE_LOST [k, l, 3])

/-- CONFIG_TIMEOUT (R199): resent with a new TAG, at most twice; the third timeout fails with 0x5. -/
def execConfigTimeout (t : Nat) (tile : Fin 128) (s : State) : Res :=
  let s := s.advance t
  let l := s.laneOfTile tile
  .next (match mapGet s.spk.out l with
    | none => s
    | some q =>
      if s.now < q.sent + us 50 ∨ (s.bcNow l fun f => (s.cfgReported l f).isSome) then s
      else if 3 ≤ q.tries then s.endCfg l q 5 0
      else
        let s := { s with spk := { s.spk with out := mapErase s.spk.out l, queued := q :: s.spk.queued } }
        s.pumpLane l)

/-- TILE_ENUMERATION (R208). -/
def execTileEnumeration (t : Nat) (tile : Fin 128) (s : State) : Res :=
  let s := s.advance t
  .next (if tile.val < s.roster.length then s.enumStart tile else s)

/-- ENUM_BC_WAIT_TIMEOUT (R208): no valid frame within 20 ms. -/
def execEnumBcWaitTimeout (t : Nat) (tile : Fin 128) (s : State) : Res :=
  let s := s.advance t
  let x := s.tileState tile
  .next (if x.enumStep = some .wait ∧ x.enumAt + ms 20 ≤ s.now ∧ !(s.bcNow (s.laneOfTile tile) fun _ => true) then
      s.enumFail tile 4 0
    else s)

/-- SPK_CTL_REENUM (R208). -/
def execSpkCtlReenum (t : Nat) (req : Requester) (tile : Nat) (s : State) : Res :=
  .next ((s.advance t).control req Reg.SPK_CTL (Word.ofNat (tile % 128 + 2 ^ 8)) fun s => s.enumStart (tile % 128))

/-- SPK_CTL_ECHO (R196). -/
def execSpkCtlEcho (t : Nat) (req : Requester) (tile : Nat) (s : State) : Res :=
  .next ((s.advance t).control req Reg.SPK_CTL (Word.ofNat (tile % 128 + 2 ^ 9)) fun s => s.startEcho (tile % 128))

/-- SPK_CTL_CLEAR (Table 9-10). -/
def execSpkCtlClear (t : Nat) (req : Requester) (s : State) : Res :=
  .next ((s.advance t).control req Reg.SPK_CTL (Word.ofNat (2 ^ 10)) fun s =>
    s.each (List.range 128) fun s i => (s.setReg (Reg.SPK_TILE_FEC i) 0).setReg (Reg.SPK_LANE_ERR i) 0)

/-- GO of SPK_CFGW_CMD (R199): the expert access waits for the next boundary, or goes out while no cadence runs; a tile that
the roster does not hold has no lane, and the access ends as timed out. -/
def State.cfgwGo (s : State) (w : Word) : State :=
  let a := s.reg Reg.SPK_CFGW_ADDR
  let q : CfgReq := { tile := a.field 0 7, target := a.field 0 7, read := a.bit 8, addr := a.field 16 16,
                      data := if a.bit 8 then 0 else s.nat Reg.SPK_CFGW_DATA, why := .expert }
  if !s.configs then s
  else
    let s := (s.setReg Reg.SPK_CFGW_CMD w).setNat Reg.SPK_CFGW_STAT 1
    if s.roster.length ≤ q.tile then
      ((s.setNat Reg.SPK_CFGW_STAT (16 * 5)).setBit Reg.SPK_CFGW_CMD 0 false).raise Ev.SPK_CONFIG_FAIL
        [q.tile, q.addr, 5, s.fld Reg.SPK_EPOCH 0 16]
    else
      let s := s.queueCfg q
      if s.cadenceRuns then s else s.pumpLane (s.laneOfTile q.tile)

/-- SPK_CFGW_GO (R199). -/
def execSpkCfgwGo (t : Nat) (req : Requester) (s : State) : Res :=
  .next ((s.advance t).guarded req Reg.SPK_CFGW_CMD 4 1 State.cfgwGo)

end Sys2Proof.Machine
end

