-- ==== Sys2Proof/Machine/Hank.lean ====
section
/-! DEFINITION.  Hank coding (chapter 13): streams, blocks and tokens (R280 to R283), the
decoder's errors (R286), the compressor (R284, R285), and the engines with their queues
(R289 to R291). -/

namespace Sys2Proof.Machine

/-! ## Tokens -/

namespace Hc
/-- Codes of Table 13-4. -/
def ILLEGAL_CODE : Nat := 1
def DISTANCE : Nat := 2
def LENGTH_OVERRUN : Nat := 3
def TRUNCATED : Nat := 4
def BLOCK_CHECK : Nat := 5
def DEST_SHORT : Nat := 6
def FABRIC : Nat := 7
end Hc

/-- Copy `l` bytes from `d` behind the output position, one at a time; the output is held newest byte first (R282). -/
def copyBack (d : Nat) : Nat → List Byte → List Byte
  | 0, out => out
  | l + 1, out => copyBack d l (out.getD (d - 1) 0 :: out)

/-- What a token does. -/
inductive Token where
  | literal (bytes : List Byte)
  | copy (len dist : Nat)
  | zeros (len : Nat)
  deriving DecidableEq, Repr

/-- A 16-bit word of the payload. -/
def word16 (a b : Byte) : Nat := a.toNat + 256 * b.toNat

/-- The token at the head of a payload and what follows it (Table 13-3), or the error it is; a literal run that runs past
the source gives the bytes there are. -/
def readToken : List Byte → Except Nat (Token × Nat × List Byte)
  | [] => .error Hc.TRUNCATED
  | t :: r =>
    let v := t.toNat
    if v < 0x80 then .ok (.literal (r.take (v + 1)), v + 1, r.drop (v + 1))
    else if v < 0xC0 then
      match r with
      | a :: r => .ok (.copy (v / 8 % 8 + 4) (v % 8 * 256 + a.toNat + 1), v / 8 % 8 + 4, r)
      | _ => .error Hc.TRUNCATED
    else if v < 0xE0 then
      match r with
      | a :: b :: r => .ok (.copy (v % 32 + 4) (word16 a b + 1), v % 32 + 4, r)
      | _ => .error Hc.TRUNCATED
    else if v = 0xE0 then
      match r with
      | a :: b :: c :: d :: r =>
        if word16 a b < 4 then .error Hc.ILLEGAL_CODE else .ok (.copy (word16 a b) (word16 c d + 1), word16 a b, r)
      | _ => .error Hc.TRUNCATED
    else if v = 0xE1 then
      match r with
      | a :: b :: r => .ok (.zeros (word16 a b + 1), word16 a b + 1, r)
      | _ => .error Hc.TRUNCATED
    else .error Hc.ILLEGAL_CODE

/-- Decode tokens until `left` bytes are out (R282): the rest of the source, the output newest first, and the history
available.  `fuel` bounds the tokens. -/
def decodeTokens : Nat → List Byte → Nat → List Byte → Nat → Except Nat (List Byte × List Byte × Nat)
  | _, src, 0, out, avail => .ok (src, out, avail)
  | 0, _, _ + 1, _, _ => .error Hc.TRUNCATED
  | f + 1, src, left + 1, out, avail =>
    match readToken src with
    | .error e => .error e
    | .ok (tok, n, rest) =>
      match tok with
      | .copy l d =>
        if min avail 65536 < d then .error Hc.DISTANCE
        else if left + 1 < n then .error Hc.LENGTH_OVERRUN
        else decodeTokens f rest (left + 1 - n) (copyBack d l out) (avail + n)
      | .zeros _ =>
        if left + 1 < n then .error Hc.LENGTH_OVERRUN
        else decodeTokens f rest (left + 1 - n) (List.replicate n 0 ++ out) (avail + n)
      | .literal bs =>
        if left + 1 < n then .error Hc.LENGTH_OVERRUN
        else if bs.length < n then .error Hc.TRUNCATED
        else decodeTokens f rest (left + 1 - n) (bs.reverse ++ out) (avail + n)

/-! ## Blocks and streams -/

/-- What a decode gives: the bytes of the completed blocks, and the error with the failed block's source offset and RAW_SIZE. -/
structure Decoded where
  bytes : List Byte
  err : Option (Nat × Nat × Nat) := none
  /-- source bytes before the end or the failed block -/
  used : Nat := 0
  deriving DecidableEq, Repr

/-- Decode blocks (R281, R286): `pos` is the offset of `src` in the job's source, `out` the output so far newest first with
`avail` of it history, `left` the capacity left, `total` the bytes after which the stream ends (none: with the source). -/
def decodeBlocks : Nat → List Byte → Nat → List Byte → Nat → Nat → Option Nat → Decoded
  | 0, _, _, out, _, _, _ => { bytes := out.reverse }
  | f + 1, src, pos, out, avail, left, total =>
    if (match total with | some t => decide (t ≤ out.length) | none => src.isEmpty) then { bytes := out.reverse, used := pos }
    else
      let fail (code raw : Nat) : Decoded := { bytes := out.reverse, err := some (code, pos, raw), used := pos }
      if src.length < 4 then fail Hc.TRUNCATED 0
      else
        let h := leAt src 0 4
        let raw := h % 2 ^ 19
        let coded := !h.testBit 19
        if raw = 0 ∨ 262144 < raw ∨ 2 ^ 21 ≤ h then fail Hc.ILLEGAL_CODE raw
        else if left < raw then fail Hc.DEST_SHORT raw
        else
          let avail := if h.testBit 20 then 0 else avail
          let body := src.drop 4
          let r : Except Nat (List Byte × List Byte × Nat) :=
            if coded then decodeTokens (raw + 1) body raw out avail
            else if body.length < raw then .error Hc.TRUNCATED
            else .ok (body.drop raw, (body.take raw).reverse ++ out, avail + raw)
          match r with
          | .error e => fail e raw
          | .ok (rest, out', avail') =>
            if rest.length < 4 then fail Hc.TRUNCATED raw
            else if leAt rest 0 4 ≠ crc32c (out'.take raw).reverse then fail Hc.BLOCK_CHECK raw
            else decodeBlocks f (rest.drop 4) (pos + (src.length - (rest.length - 4))) out' avail' (left - raw) total

/-- Decode a source of a job: with a stream header (R280), or blocks alone. -/
def hankDecode (src : List Byte) (hdr : Bool) (cap : Nat) (total : Option Nat) : Decoded :=
  if hdr then
    if src.length < 16 then { bytes := [], err := some (Hc.TRUNCATED, 0, 0) }
    else if leAt src 0 4 ≠ 0x4B4E4148 ∨ leAt src 4 2 ≠ 1 then { bytes := [], err := some (Hc.ILLEGAL_CODE, 0, 0) }
    else decodeBlocks (src.length + 1) (src.drop 16) 16 [] 0 cap (some (leAt src 8 8 % 2 ^ 40))
  else decodeBlocks (src.length + 1) src 0 [] 0 cap total

/-- One block of compressor output (R285): tokens where they decode to the block and are shorter, else raw.  `hist` is newest first. -/
def hankBlock (hist block : List Byte) : List Byte :=
  let n := block.length
  let toks := Config.hankTokens hist block
  let good := decide (toks.length < n) &&
    (match decodeTokens (n + 1) toks n hist hist.length with
     | .ok (rest, out, _) => rest.isEmpty && out == block.reverse ++ hist
     | .error _ => false)
  leBytes 4 (n + (if good then 0 else 2 ^ 19) + (if hist.isEmpty then 2 ^ 20 else 0)) ++
    (if good then toks else block) ++ leBytes 4 (crc32c block)

/-- Blocks of a compressor in order (R284, R285), with the history after them. -/
def hankBlocks (hist : List Byte) : List (List Byte) → List Byte × List Byte
  | [] => ([], hist)
  | b :: bs =>
    let r := hankBlocks ((b.reverse ++ hist).take 65536) bs
    (hankBlock hist b ++ r.1, r.2)

/-- Compress a source: output and history left; a reset flush at the end clears it (R284). -/
def hankEncode (hist src : List Byte) (hdr reset : Bool) : List Byte × List Byte :=
  let r := hankBlocks hist (chunks 262144 src)
  ((if hdr then leBytes 4 0x4B4E4148 ++ leBytes 2 1 ++ leBytes 2 0 ++ leBytes 8 src.length else []) ++ r.1,
   if reset then [] else r.2)

/-! ## Engines and queues -/

def State.engine (s : State) (e : Nat) : HankEngine := s.hank.engines.getD e {}
def State.setEngine (s : State) (e : Nat) (x : HankEngine) : State :=
  { s with hank := { s.hank with engines := s.hank.engines.set e x } }

/-- Flat-ply fetches queued at a decompressor. -/
def State.flatCount (s : State) (e : Nat) : Nat := (s.hank.flat.filter fun x => x.1 == e).length

/-- HANK_STAT and HANK_ENG_STAT. -/
def State.refreshHank (s : State) : State :=
  let s := s.setNat Reg.HANK_STAT (ofBits ((List.range 6).filter fun e => (s.engine e).run.isSome))
  s.each (List.range 6) fun s e => s.setNat (Reg.HANK_ENG_STAT e) (min 16 (s.engine e).queue.length + s.flatCount e * 2 ^ 8)

/-- An idle engine takes the head of its ingest queue, unless a flat-ply fetch is queued (R14, R290); in throttle step 2 a compressor takes none (R407). -/
def State.startEngine (s : State) (e : Nat) : State :=
  let x := s.engine e
  match x.run, x.queue with
  | none, j :: q => if s.flatCount e = 0 ∧ !(decide (4 ≤ e) && s.step2) then s.setEngine e { x with run := some j, startedAt := s.now, queue := q } else s
  | _, _ => s

/-- Engines of a direction. -/
def enginesOf (compress : Bool) : List Nat := if compress then [4, 5] else [0, 1, 2, 3]

/-- The head of an engine's queue leaves it in this cycle: its job and its flat-ply fetches end here (R14, R290, R407). -/
def State.slotFrees (s : State) (e : Nat) : Bool :=
  let flats := s.hank.flat.filter fun x => x.1 == e
  let jobEnds := (s.engine e).run.isNone || s.sameCycle fun i => match i with
    | .hankJobComplete _ k => k.val == e
    | _ => false
  let flatEnds (x : FlatFetch) : Bool := s.sameCycle fun i => match i with
    | .plyFetchDone _ l c p => l.val == x.link && c == x.course && p == x.ply
    | _ => false
  jobEnds && flats.all (fun x => flatEnds x.2) && !(decide (4 ≤ e) && s.step2)

/-- An engine has space in its ingest queue: a slot that frees in this cycle counts (R290). -/
def State.engineFree (s : State) (e : Nat) : Bool :=
  decide ((s.engine e).queue.length < 16 + bitOf (s.slotFrees e))

/-- Engine that "any of the direction" names: one that is idle, else one with space, the lowest-numbered. -/
def State.pickEngine (s : State) (compress : Bool) : Option Nat :=
  match (enginesOf compress).find? fun e => (s.engine e).run.isNone && (s.engine e).queue.isEmpty with
  | some e => some e
  | none => (enginesOf compress).find? s.engineFree

/-- Queue a job on an engine. -/
def State.queueJob (s : State) (e : Nat) (j : HankJob) : State :=
  ((s.setEngine e { (s.engine e) with queue := (s.engine e).queue ++ [j] }).startEngine e).refreshHank

/-- A job of an internal requester: queued, or waiting for space behind those that wait (R290). -/
def State.internalJob (s : State) (j : HankJob) : State :=
  match (if s.hank.waiting.isEmpty then s.pickEngine j.compress else none) with
  | some e => s.queueJob e j
  | none => { s with hank := { s.hank with waiting := s.hank.waiting ++ [j] } }

/-- Internal jobs that wait enter queues as long as there is space. -/
def State.admitWaiting (s : State) : List HankJob → State
  | [] => { s with hank := { s.hank with waiting := [] } }
  | j :: js =>
    match (enginesOf j.compress).find? fun e => decide ((s.engine e).queue.length < 16) with
    | some e => (s.queueJob e j).admitWaiting js
    | none => { s with hank := { s.hank with waiting := j :: js } }

/-! ## Flat-ply fetches (R14) -/

/-- Decompressor with the fewest flat-ply fetches queued, the lowest-numbered on a tie; none when all hold 8. -/
def State.flatEngine (s : State) : Option Nat :=
  let best := [1, 2, 3].foldl (fun b e => if s.flatCount e < s.flatCount b then e else b) 0
  if s.flatCount best < 8 then some best else none

/-- An ingest job that its engine took in this very cycle goes back to the head of its queue: a flat-ply fetch that is ready in the
same cycle goes first (R14). -/
def State.yieldEngine (s : State) (e : Nat) : State :=
  let x := s.engine e
  match x.run with
  | some j => if x.startedAt = s.now then s.setEngine e { x with run := none, queue := j :: x.queue } else s
  | none => s

/-- The fetches that wait for a decompressor are served by the course whose fetch check is earliest: the lower course in send order
first, then the lower link (R162). -/
def insertFlat (x : FlatFetch) : List FlatFetch → List FlatFetch
  | [] => [x]
  | y :: ys => if x.course < y.course ∨ (x.course = y.course ∧ x.link < y.link) then x :: y :: ys else y :: insertFlat x ys

/-- Queue a flat-ply fetch. -/
def State.queueFlat (s : State) (x : FlatFetch) : State :=
  match s.flatEngine with
  | some e => (({ s with hank := { s.hank with flat := s.hank.flat ++ [(e, x)] } }).yieldEngine e).refreshHank
  | none => { s with hank := { s.hank with flatWait := insertFlat x s.hank.flatWait } }

/-- Engine that serves a flat-ply fetch. -/
def State.flatServer (s : State) (x : FlatFetch) : Nat := ((s.hank.flat.find? fun y => y.2 == x).map (·.1)).getD 0

/-- A flat-ply fetch has ended: the next waiting one takes its place and ingest may go on. -/
def State.endFlat (s : State) (x : FlatFetch) : State :=
  let s := { s with hank := { s.hank with flat := s.hank.flat.filter (fun y => y.2 != x), flatWait := s.hank.flatWait.filter (· != x) } }
  let s := match s.hank.flatWait with
    | [] => s
    | y :: ys => ({ s with hank := { s.hank with flatWait := ys } }).queueFlat y
  (s.each [0, 1, 2, 3] State.startEngine).refreshHank

/-- Every flat-ply fetch is dropped: the frame that issued them is over. -/
def State.dropFlats (s : State) : State :=
  (({ s with hank := { s.hank with flat := [], flatWait := [] } }).each [0, 1, 2, 3] State.startEngine).refreshHank

/-! ## Results -/

/-- 64-bit count of bytes that an engine wrote. -/
def State.countBytes (s : State) (e n : Nat) : State :=
  let v := (s.nat (Reg.HANK_ENG_BYTES_LO e) + s.nat (Reg.HANK_ENG_BYTES_HI e) * 2 ^ 32 + n) % 2 ^ 64
  (s.setNat (Reg.HANK_ENG_BYTES_LO e) v).setNat (Reg.HANK_ENG_BYTES_HI e) (v / 2 ^ 32)

/-- A decoder error is counted at its engine. -/
def State.countError (s : State) (e code : Nat) : State :=
  (s.setFld (Reg.HANK_ENG_ERR e) 0 4 code).incFld (Reg.HANK_ENG_ERR e) 16 16 1

/-- HANK_JOB_RESULT and HANK_JOB_OUT. -/
def State.jobResult (s : State) (status code seq bytes : Nat) : State :=
  (s.setNat Reg.HANK_JOB_RESULT (status + code * 2 ^ 4 + seq * 2 ^ 16)).setNat Reg.HANK_JOB_OUT bytes

/-- Bytes of a range lose their value. -/
def State.undefine (s : State) (a n : Nat) : State :=
  { s with hbm := { s.hbm with mem := s.hbm.mem.filter fun x => !(a ≤ x.1 && x.1 < a + n) } }

/-- The failed range: written by the path, so with its tag (R266), undefined, and marked lost (R286). -/
def State.failRange (s : State) (a n tag : Nat) : State := ((s.undefine a n).tag a n tag).markLost (blocksOf a n)

/-- Result of a job on memory now: bytes written, and the error with the failed block's source address and failed range. -/
structure JobEnd where
  bytes : List Byte
  /-- code, source address of the failed block, first output address and length of the failed range -/
  err : Option (Nat × Nat × Nat × Nat) := none
  /-- history that a compressor keeps -/
  hist : List Byte := []
  deriving DecidableEq, Repr

/-- Bytes of a range that lie before its first lost block. -/
def State.readable (s : State) (a n : Nat) : Nat :=
  match (blocksOf a n).find? s.isLost with
  | some b => b * 65536 - a
  | none => n

/-- A decode whose source can be read for its first `k` bytes alone: what needed more fails as on a fabric error, and a stream whose
length is known may have ended before (R267, R286). -/
def Decoded.cut (d : Decoded) (k : Nat) (hdr : Bool) : Decoded :=
  match d.err with
  | none => if hdr then d else { d with err := some (Hc.FABRIC, k, 0) }
  | some x => if x.1 = Hc.TRUNCATED then { d with err := some (Hc.FABRIC, x.2) } else d

/-- The end of a decode with its error placed in memory (R286): the failed range runs for the failed block's RAW_SIZE or to the end
of the destination; a RAW_SIZE that the error kept from being read is free. -/
def State.decodeEnd (s : State) (j : HankJob) (d : Decoded) : JobEnd :=
  let n := d.bytes.length
  let raw (x : Nat × Nat × Nat) : Nat :=
    if x.1 = Hc.FABRIC ∧ x.2.2 = 0 then 1 + Config.unreadSize s.hbm.epoch (j.src + x.2.1) % 262144 else x.2.2
  { bytes := d.bytes, err := d.err.map fun x => (x.1, j.src + x.2.1, j.dst + n, min (raw x) (j.cap - n)) }

/-- A compression that cannot read its source: its whole destination is the failed range (Table 1-4). -/
def State.compressFails (s : State) (e : Nat) (j : HankJob) : JobEnd :=
  { bytes := [], err := some (Hc.FABRIC, j.src, j.dst, j.cap), hist := (s.engine e).hist }

/-- Source bytes of a job. -/
def State.jobSource (s : State) (j : HankJob) : List Byte := j.payload.getD (s.bytes j.src j.len)

/-- What a job does (R280 to R286); a source that reaches a lost block fails there as a fabric error does (R267). -/
def State.runJob (s : State) (e : Nat) (j : HankJob) : JobEnd :=
  let src := s.jobSource j
  let k := if j.payload.isSome then src.length else s.readable j.src j.len
  if j.compress then
    if k < src.length then s.compressFails e j
    else
      let r := hankEncode (if j.cont then (s.engine e).hist else []) src j.hdr j.resetFlush
      { bytes := r.1, hist := r.2 }
  else
    let d := hankDecode (src.take k) j.hdr j.cap none
    s.decodeEnd j (if k < src.length then d.cut k j.hdr else d)

/-- A job that an uncorrectable fabric error ends (R20, Table 13-4).  The transfer's address says where: in its source the block that
reads it fails, in its destination the block that writes it, and otherwise a free place.  Blocks before the failed one stay (R286). -/
def State.fabricJob (s : State) (e : Nat) (j : HankJob) (addr : Nat) : JobEnd :=
  if j.compress then s.compressFails e j
  else
    let src := s.jobSource j
    let d : Decoded :=
      if j.dst ≤ addr ∧ addr < j.dst + j.cap then
        let d := hankDecode src j.hdr (addr - j.dst) none
        { d with err := d.err.map fun x => if x.1 = Hc.DEST_SHORT then (Hc.FABRIC, x.2) else x }
      else
        let k := if j.payload.isNone ∧ j.src ≤ addr ∧ addr < j.src + j.len then addr - j.src
          else Config.fabricCut s.fresh % (src.length + 1)
        (hankDecode (src.take k) j.hdr j.cap none).cut k j.hdr
    s.decodeEnd j { d with err := some (d.err.getD (Hc.FABRIC, src.length, 0)) }

/-- Requester code of HANK_DECODE_ERROR. -/
def HankWho.code : HankWho → Nat
  | .skein => 2 | .yarn => 3 | .host => 4 | .dma => 4

/-- A decoder error of a job: counted, reported, its failed range lost (R286, R287). -/
def State.reportDecode (s : State) (e : Nat) (j : HankJob) (x : Nat × Nat × Nat × Nat) : State :=
  let s := (s.countError e x.1).failRange x.2.2.1 x.2.2.2 j.tag
  s.raise Ev.HANK_DECODE_ERROR [e, x.1, j.who.code, x.2.1 / 8, x.2.2.1 / 65536]

/-- The job that an engine runs leaves it, its output is written, and the next starts (R290). -/
def State.finishJob (s : State) (e : Nat) (j : HankJob) (r : JobEnd) : State :=
  let s := s.setEngine e { (s.engine e) with run := none, hist := if j.compress then r.hist else (s.engine e).hist }
  let s := (s.hbmWrite j.dst r.bytes j.tag).countBytes e r.bytes.length
  let s := match r.err with
    | some x => s.reportDecode e j x
    | none => s
  let s := ((s.startEngine e).refreshHank)
  s.admitWaiting s.hank.waiting

/-- What becomes of a host job (R287). -/
def State.hostJobEnds (s : State) (e : Nat) (j : HankJob) (r : JobEnd) : State :=
  let code := (r.err.map (·.1)).getD 0
  let st := if r.err.isSome then 2 else 1
  (s.jobResult st code j.seq r.bytes.length).raise Ev.HANK_JOB_DONE [j.seq, st, code, r.bytes.length, e]

/-! ## Submission -/

/-- The host job that the registers describe. -/
def State.hostJob (s : State) : HankJob :=
  let c := s.reg Reg.HANK_JOB_CTL
  { who := .host, compress := c.bit 0, seq := c.field 16 16
    src := s.nat Reg.HANK_JOB_SRC_LO + s.fld Reg.HANK_JOB_SRC_HI 0 3 * 2 ^ 32, len := s.nat Reg.HANK_JOB_LEN
    dst := s.nat Reg.HANK_JOB_DST_LO + s.fld Reg.HANK_JOB_DST_HI 0 3 * 2 ^ 32, cap := s.nat Reg.HANK_JOB_CAP
    hdr := c.bit 4, cont := c.bit 0 && c.bit 5, resetFlush := c.field 6 2 == 1, tag := 3 }

/-- The most bytes that compressing `n` bytes can give (R285, R291). -/
def hankBound (n : Nat) (hdr : Bool) : Nat := n + 8 * (ceilDiv n 65536 + 1) + 16 * bitOf hdr

/-- STATUS of a refusal (R290, R291), or the engine that takes the job. -/
def State.admitJob (s : State) (j : HankJob) (engine : Nat) : Except Nat Nat :=
  if j.len = 0 ∨ s.usable < j.src + j.len ∨ s.usable < j.dst + j.cap then .error 4
  else if j.compress ∧ j.cap < hankBound j.len j.hdr then .error 5
  else if j.cont ∧ engine = 7 then .error 6
  else if engine = 7 then
    match s.pickEngine j.compress with
    | some e => .ok e
    | none => .error 3
  else if s.engineFree engine then .ok engine else .error 3

/-- HANK_JOB_SUBMIT (R290, R291): the host job of the registers is checked and queued, or refused. -/
def execHankJobSubmit (t : Nat) (req : Requester) (s : State) : Res :=
  .next ((s.advance t).control req Reg.HANK_JOB_SUBMIT 1 fun s =>
    let j := s.hostJob
    match s.admitJob j (s.fld Reg.HANK_JOB_CTL 1 3) with
    | .ok e => s.wakeHbm.touchHbm.queueJob e j
    | .error st => (s.jobResult st 0 j.seq 0).raise Ev.HANK_JOB_REFUSED [j.seq, st])

end Sys2Proof.Machine
end

