-- ==== Sys2Proof/Machine/Crypto.lean ====
section
/-! DEFINITION.  The standards that R72 and R84 name: SHA-256 and SHA-384 (FIPS 180-4), ECDSA on P-384 (FIPS 186-5), LMS, LM-OTS
and HSS signatures (RFC 8554), HMAC and HKDF (RFC 2104, RFC 5869).  What a standard leaves to the signer is a constant of Config. -/

namespace Sys2Proof.Machine.Crypto

/-! ## Bytes -/

/-- The `n` bytes of `v`, most significant first. -/
def beBytes (n v : Nat) : List Byte := (leBytes n v).reverse

/-! ## SHA-2 -/

/-- The primes below 410. -/
def primes : List Nat := (List.range 410).filter fun n => 1 < n && (List.range n).all fun d => d < 2 || n % d != 0

/-- Integer cube root of numbers below 2^210, by bisection. -/
def icbrtAux (n : Nat) : Nat → Nat → Nat
  | 0, r => r
  | k + 1, r =>
    let c := r + 2 ^ k
    if c * c * c ≤ n then icbrtAux n k c else icbrtAux n k r

/-- First `w` bits of the fraction of a prime's cube root: the round constants. -/
def roundConst (w p : Nat) : Nat := icbrtAux (p * 2 ^ (3 * w)) 70 0 % 2 ^ w
/-- First `w` bits of the fraction of a prime's square root: the initial hash values. -/
def initConst (w p : Nat) : Nat := isqrt (p * 2 ^ (2 * w)) % 2 ^ w

/-- What SHA-256 and SHA-512 differ in: word width, rounds, and the rotations of Σ0, Σ1, σ0, σ1 (the last of σ is a shift). -/
structure Sha where
  w : Nat
  rounds : Nat
  s0 : Nat × Nat × Nat
  s1 : Nat × Nat × Nat
  g0 : Nat × Nat × Nat
  g1 : Nat × Nat × Nat

def sha256Kind : Sha := { w := 32, rounds := 64, s0 := (2, 13, 22), s1 := (6, 11, 25), g0 := (7, 18, 3), g1 := (17, 19, 10) }
def sha512Kind : Sha := { w := 64, rounds := 80, s0 := (28, 34, 39), s1 := (14, 18, 41), g0 := (1, 8, 7), g1 := (19, 61, 6) }

/-- Right rotation of a `w`-bit word. -/
def rotr (w n x : Nat) : Nat := (x >>> n) ||| ((x <<< (w - n)) % 2 ^ w)

def Sha.sum (k : Sha) (r : Nat × Nat × Nat) (x : Nat) : Nat := rotr k.w r.1 x ^^^ rotr k.w r.2.1 x ^^^ rotr k.w r.2.2 x
def Sha.gamma (k : Sha) (r : Nat × Nat × Nat) (x : Nat) : Nat := rotr k.w r.1 x ^^^ rotr k.w r.2.1 x ^^^ (x >>> r.2.2)

/-- Message schedule, newest word first, of `n` more words. -/
def Sha.schedule (k : Sha) : Nat → List Nat → List Nat
  | 0, l => l
  | n + 1, l =>
    let v := (k.gamma k.g1 (l.getD 1 0) + l.getD 6 0 + k.gamma k.g0 (l.getD 14 0) + l.getD 15 0) % 2 ^ k.w
    k.schedule n (v :: l)

/-- One round on the working variables a to h. -/
def Sha.round (k : Sha) (v : List Nat) (kw : Nat × Nat) : List Nat :=
  match v with
  | [a, b, c, d, e, f, g, h] =>
    let t1 := h + k.sum k.s1 e + ((e &&& f) ^^^ ((2 ^ k.w - 1 - e) &&& g)) + kw.1 + kw.2
    let t2 := k.sum k.s0 a + ((a &&& b) ^^^ (a &&& c) ^^^ (b &&& c))
    [(t1 + t2) % 2 ^ k.w, a, b, c, (d + t1) % 2 ^ k.w, e, f, g]
  | v => v

/-- One message block into the hash value. -/
def Sha.block (k : Sha) (h : List Nat) (m : List Byte) : List Nat :=
  let ws := (List.range 16).map fun i => beAt m (k.w / 8 * i) (k.w / 8)
  let sched := (k.schedule (k.rounds - 16) ws.reverse).reverse
  let ks := (primes.take k.rounds).map (roundConst k.w)
  let v := (ks.zip sched).foldl k.round h
  (h.zip v).map fun x => (x.1 + x.2) % 2 ^ k.w

/-- Pieces of `n` bytes; `fuel` bounds them. -/
def pieces (n : Nat) : Nat → List Byte → List (List Byte)
  | 0, _ => []
  | f + 1, l => if l.isEmpty then [] else l.take n :: pieces n f (l.drop n)

/-- The message padded to whole blocks. -/
def Sha.pad (k : Sha) (m : List Byte) : List Byte :=
  let b := k.w * 2
  let n := m.length + 1 + k.w / 4
  m ++ [0x80] ++ List.replicate ((b - n % b) % b) 0 ++ beBytes (k.w / 4) (8 * m.length)

/-- Hash of a message from initial values. -/
def Sha.hash (k : Sha) (h : List Nat) (m : List Byte) : List Byte :=
  let p := k.pad m
  (((pieces (k.w * 2) p.length p).foldl k.block h).flatMap fun x => beBytes (k.w / 8) x)

def sha256 (m : List Byte) : List Byte := sha256Kind.hash ((primes.take 8).map (initConst 32)) m
def sha384 (m : List Byte) : List Byte := (sha512Kind.hash (((primes.drop 8).take 8).map (initConst 64)) m).take 48

/-! ## HMAC and HKDF over SHA-384 -/

def hmac384 (key m : List Byte) : List Byte :=
  let k := if 128 < key.length then sha384 key else key
  let k := k ++ List.replicate (128 - k.length) 0
  sha384 (k.map (· ^^^ 0x5C) ++ sha384 (k.map (· ^^^ 0x36) ++ m))

/-- `n` blocks of HKDF-Expand: the block before, the counter. -/
def hkdfBlocks (prk info : List Byte) : Nat → List Byte → Nat → List Byte
  | 0, _, _ => []
  | n + 1, t, i =>
    let t := hmac384 prk (t ++ info ++ beBytes 1 i)
    t ++ hkdfBlocks prk info n t (i + 1)

/-- HKDF with an empty salt, `len` bytes out. -/
def hkdf384 (ikm info : List Byte) (len : Nat) : List Byte :=
  (hkdfBlocks (hmac384 [] ikm) info (ceilDiv len 48) [] 1).take len

/-! ## ECDSA on P-384 -/

def p384 : Nat := 2 ^ 384 - 2 ^ 128 - 2 ^ 96 + 2 ^ 32 - 1
def n384 : Nat := 0xFFFFFFFFFFFFFFFFFFFFFFFFFFFFFFFFFFFFFFFFFFFFFFFFC7634D81F4372DDF581A0DB248B0A77AECEC196ACCC52973
def b384 : Nat := 0xB3312FA7E23EE7E4988E056BE3F82D19181D9C6EFE8141120314088F5013875AC656398D8A2ED19D2A85C8EDD3EC2AEF
def g384 : Nat × Nat :=
  (0xAA87CA22BE8B05378EB1C71EF320AD746E1D3B628BA79B9859F741E082542A385502F25DBF55296C3A545E3872760AB7,
   0x3617DE4A96262C6F5D9E98BF9292DC29F8F41DBD289A147CE9DA3113B5F0B8C00A60B1CE1D7E819D7A431D7C90EA0E5F)

/-- Power modulo `m`, over the low `k` bits of the exponent. -/
def powMod (m b : Nat) : Nat → Nat → Nat
  | 0, _ => 1
  | k + 1, e => let r := powMod m (b * b % m) k (e / 2); if e % 2 = 1 then r * b % m else r

/-- Inverse modulo a prime below 2^384. -/
def invMod (m a : Nat) : Nat := powMod m (a % m) 384 (m - 2)

/-- Sum of two points; none is the point at infinity. -/
def pointAdd : Option (Nat × Nat) → Option (Nat × Nat) → Option (Nat × Nat)
  | none, q => q
  | p, none => p
  | some (x1, y1), some (x2, y2) =>
    if x1 = x2 ∧ (y1 + y2) % p384 = 0 then none
    else
      let l := if x1 = x2 then (3 * x1 * x1 + p384 - 3) * invMod p384 (2 * y1) % p384
        else (y2 + p384 - y1) * invMod p384 (x2 + p384 - x1) % p384
      let x3 := (l * l + 2 * p384 - x1 - x2) % p384
      some (x3, (l * (x1 + p384 - x3) + p384 - y1) % p384)

/-- `k` times a point, over the low `n` bits of `k`. -/
def pointMul (p : Option (Nat × Nat)) : Nat → Nat → Option (Nat × Nat)
  | 0, _ => none
  | n + 1, k => let r := pointMul (pointAdd p p) n (k / 2); if k % 2 = 1 then pointAdd r p else r

/-- The point of an uncompressed encoding, when it is one of the curve. -/
def decodePoint (b : List Byte) : Option (Nat × Nat) :=
  let x := beAt b 1 48
  let y := beAt b 49 48
  if b.length = 97 ∧ beAt b 0 1 = 4 ∧ x < p384 ∧ y < p384 ∧ y * y % p384 = (x * x * x + (p384 - 3) * x + b384) % p384 then some (x, y)
  else none

/-- Verification: public key, SHA-384 digest, signature r ‖ s. -/
def ecdsaVerify (pub digest sig : List Byte) : Bool :=
  let r := beAt sig 0 48
  let s := beAt sig 48 48
  match decodePoint pub with
  | none => false
  | some q =>
    if r = 0 ∨ n384 ≤ r ∨ s = 0 ∨ n384 ≤ s then false
    else
      let w := invMod n384 s
      match pointAdd (pointMul (some g384) 384 (beNat digest * w % n384)) (pointMul (some q) 384 (r * w % n384)) with
      | none => false
      | some (x, _) => x % n384 == r

/-- Signature of a digest with a private key and a per-message secret number. -/
def ecdsaSign (key k : Nat) (digest : List Byte) : List Byte :=
  let r := ((pointMul (some g384) 384 k).map (·.1)).getD 0 % n384
  beBytes 48 r ++ beBytes 48 (invMod n384 k * ((beNat digest + r * key) % n384) % n384)

/-! ## LM-OTS and LMS with SHA-256 and 32-byte hashes -/

/-- An LM-OTS parameter set: typecode, width w of a digit, number of digits, left shift of the checksum. -/
structure LmOts where
  type : Nat
  w : Nat
  p : Nat
  ls : Nat

/-- LMOTS_SHA256_N32_W4 and LMOTS_SHA256_N32_W8. -/
def otsW4 : LmOts := { type := 3, w := 4, p := 67, ls := 4 }
def otsW8 : LmOts := { type := 4, w := 8, p := 34, ls := 0 }

/-- Digit `i` of a byte string. -/
def otsDigit (w : Nat) (s : List Byte) (i : Nat) : Nat := (s.getD (i * w / 8) 0).toNat / 2 ^ (8 - w * (i % (8 / w) + 1)) % 2 ^ w

/-- Q with its checksum. -/
def LmOts.withSum (o : LmOts) (q : List Byte) : List Byte :=
  q ++ beBytes 2 (((List.range (256 / o.w)).map fun i => 2 ^ o.w - 1 - otsDigit o.w q i).sum * 2 ^ o.ls)

/-- `n` steps of a hash chain from position `j`. -/
def otsChain (id : List Byte) (q i : Nat) : Nat → Nat → List Byte → List Byte
  | 0, _, x => x
  | n + 1, j, x => otsChain id q i n (j + 1) (sha256 (id ++ beBytes 4 q ++ beBytes 2 i ++ beBytes 1 j ++ x))

/-- Public key of the chain ends. -/
def otsPublic (id : List Byte) (q : Nat) (ys : List (List Byte)) : List Byte := sha256 (id ++ beBytes 4 q ++ beBytes 2 0x8080 ++ ys.flatten)

/-- Hash of a message with its randomiser, and the checksum. -/
def LmOts.message (o : LmOts) (id : List Byte) (q : Nat) (c m : List Byte) : List Byte :=
  o.withSum (sha256 (id ++ beBytes 4 q ++ beBytes 2 0x8181 ++ c ++ m))

/-- Candidate public key of a signature (without its typecode): randomiser and chain values. -/
def LmOts.candidate (o : LmOts) (id : List Byte) (q : Nat) (sig m : List Byte) : List Byte :=
  let a := o.message id q (sig.take 32) m
  otsPublic id q ((List.range o.p).map fun i =>
    let d := otsDigit o.w a i
    otsChain id q i (2 ^ o.w - 1 - d) d ((sig.drop (32 + 32 * i)).take 32))

/-- Secret start of chain `i` of leaf `q`, as RFC 8554 Appendix A derives it from a seed. -/
def otsSecret (id seed : List Byte) (q i : Nat) : List Byte := sha256 (id ++ beBytes 4 q ++ beBytes 2 i ++ beBytes 1 0xFF ++ seed)

/-- Public key of leaf `q`. -/
def LmOts.leafKey (o : LmOts) (id seed : List Byte) (q : Nat) : List Byte :=
  otsPublic id q ((List.range o.p).map fun i => otsChain id q i (2 ^ o.w - 1) 0 (otsSecret id seed q i))

/-- Signature of a message with leaf `q` and a randomiser. -/
def LmOts.sign (o : LmOts) (id seed : List Byte) (q : Nat) (c m : List Byte) : List Byte :=
  let a := o.message id q c m
  beBytes 4 o.type ++ c ++ (List.range o.p).flatMap fun i => otsChain id q i (otsDigit o.w a i) 0 (otsSecret id seed q i)

/-- Node of the tree above a leaf key, and above two nodes. -/
def lmsLeaf (id : List Byte) (r : Nat) (key : List Byte) : List Byte := sha256 (id ++ beBytes 4 r ++ beBytes 2 0x8282 ++ key)
def lmsNode (id : List Byte) (r : Nat) (a b : List Byte) : List Byte := sha256 (id ++ beBytes 4 r ++ beBytes 2 0x8383 ++ a ++ b)

/-- Root from a node, its number and the path. -/
def lmsPath (id : List Byte) : Nat → List Byte → List (List Byte) → List Byte
  | _, x, [] => x
  | r, x, s :: l => lmsPath id (r / 2) (if r % 2 = 1 then lmsNode id (r / 2) s x else lmsNode id (r / 2) x s) l

/-- Verification with LMS_SHA256_M32_H15 over LMOTS_SHA256_N32_W8: 56-byte public key, message, 1,612-byte signature. -/
def lmsVerify (pub m sig : List Byte) : Bool :=
  let id := (pub.drop 8).take 16
  let q := beAt sig 0 4
  pub.length == 56 && sig.length == 1612 && beAt pub 0 4 == 7 && beAt pub 4 4 == 4 && beAt sig 4 4 == 4 && beAt sig 1128 4 == 7 &&
    decide (q < 2 ^ 15) &&
    lmsPath id (2 ^ 15 + q) (lmsLeaf id (2 ^ 15 + q) (otsW8.candidate id q ((sig.drop 8).take 1120) m))
      ((List.range 15).map fun i => (sig.drop (1132 + 32 * i)).take 32) == pub.drop 24

/-- Node `r` of a tree whose leaves lie `h` levels below it, for a tree of 10 levels. -/
def lmsTree (id seed : List Byte) : Nat → Nat → List Byte
  | 0, r => lmsLeaf id r (otsW4.leafKey id seed (r - 1024))
  | h + 1, r => lmsNode id r (lmsTree id seed h (2 * r)) (lmsTree id seed h (2 * r + 1))

/-- LMS_SHA256_M32_H10 public key of a seed and identifier. -/
def lmsPublic (id seed : List Byte) : List Byte := beBytes 4 6 ++ beBytes 4 otsW4.type ++ id ++ lmsTree id seed 10 1

/-- LMS_SHA256_M32_H10 signature with leaf `q`. -/
def lmsSign (id seed : List Byte) (q : Nat) (c m : List Byte) : List Byte :=
  beBytes 4 q ++ otsW4.sign id seed q c m ++ beBytes 4 6 ++
    (List.range 10).flatMap fun i => lmsTree id seed i (((1024 + q) / 2 ^ i) ^^^ 1)

end Sys2Proof.Machine.Crypto
end

