-- ==== Sys2Proof/Machine/Sec.lean ====
section
/-! DEFINITION.  The security unit: signed objects (R72, R73), key slots (R76, R77),
security commands (R79, R80, R84 to R87, R92, R93), the venue path (R88 to R91) and the
firing of cues (R82, R83). -/

namespace Sys2Proof.Machine

/-! ## Signed objects -/

/-- MAGIC of each object type (R72). -/
def magicFw : Nat := 0x54484657
def magicPat : Nat := 0x54485054
def magicKey : Nat := 0x54484B52
def magicVenue : Nat := 0x54485643

/-- Body of a signed object. -/
def objBody (o : List Byte) : List Byte := (o.drop 0x800).take (leAt o 8 4)
/-- BODY_HASH of a signed object. -/
def objHash (o : List Byte) : List Byte := (o.drop 0x20).take 48
/-- ECDSA and LMS public keys. -/
def objEcdsa (o : List Byte) : List Byte := (o.drop 0x50).take 97
def objLms (o : List Byte) : List Byte := (o.drop 0xB4).take 56

/-- Key slot that a header names. -/
def State.keySlot (s : State) (cls n : Nat) : Option KeySlot := if cls = 0 then s.sec.otp.vendor[n]? else s.sec.otp.cust[n]?

/-- Checks 4 to 9 of R73 against given hashes; `bind` demands the device serial. -/
def State.keyReason (s : State) (o : List Byte) (eh lh : List Byte) (bind : Bool) : Nat :=
  let msg := o.take 0x100
  if Crypto.sha384 (objEcdsa o) ≠ eh ∨ Crypto.sha256 (objLms o) ≠ lh then 0x05
  else if beAt o 0xB4 4 ≠ 7 ∨ beAt o 0xB8 4 ≠ 4 then 0x06
  else if !Crypto.ecdsaVerify (objEcdsa o) (Crypto.sha384 msg) ((o.drop 0x100).take 96) then 0x07
  else if !Crypto.lmsVerify (objLms o) msg ((o.drop 0x160).take 1612) then 0x08
  else if Crypto.sha384 (objBody o) ≠ objHash o then 0x09
  else
    let ser := leAt o 0x14 8
    if (ser = 0 ∧ !bind) ∨ ser = s.sec.otp.serial then 0 else 0x0A

/-- Checks 1 to 9 of R73: reason of Table 4-3 of the first that fails, 0 when all pass. -/
def State.objReason (s : State) (o : List Byte) (magic cls : Nat) (bind : Bool) : Nat :=
  if leAt o 0 4 ≠ magic ∨ leAt o 4 2 ≠ 1 then 0x01
  else if leAt o 6 1 ≠ cls then 0x02
  else match s.keySlot cls (leAt o 7 1) with
    | none => 0x03
    | some k =>
      if slotState k = 2 then 0x04
      else if slotState k ≠ 1 then 0x03
      else s.keyReason o k.ecdsaHash k.lmsHash bind

/-- Check 10 for an image at a pointer: SVN, GENERATION, extent (R71, R72, R78). -/
def imageReason (o : List Byte) (ptr svnMin : Nat) : Nat :=
  let svn := leAt o 0xC 4
  let g := leAt o 0x10 4
  if svn < svnMin then 0x0A
  else if 63 < svn ∨ g = 0 ∨ 0x7FFFFFFF < g then 0x0B
  else if ptr % 2 ^ 27 < 0x10000 ∨ ptr % 4096 ≠ 0 ∨ ptr / 2 ^ 27 % 16 ≠ 0 then 0x0B
  else 0

/-- A firmware image at a pointer (R73, R78). -/
def State.fwReason (s : State) (o : List Byte) (ptr : Nat) : Nat :=
  let r := s.objReason o magicFw 0 false
  if r ≠ 0 then r else imageReason o ptr s.sec.otp.fwSvnMin

/-- A cue entry holds no invalid value (Table 4-6): a mode command names a mode and LOCAL 0 or 1. -/
def cueOk (c : Cue) : Bool :=
  within 1 65535 c.num && c.trigger ≤ 4 && c.action ≤ 3 && (c.action != 0 || (c.arg0 ≤ 0xB && c.arg1 ≤ 1)) &&
  (c.action != 3 || c.arg0 ≤ 15 || c.arg0 == 0xFF)

/-- The venue slots' buffers fit in the venue area together with the longest inline buffer (R89, R109). -/
def venueFits (vs : List VenueSlot) : Bool := (vs.map fun v => v.buffer.length).sum + 63416 ≤ 2 ^ 24

/-! ## Sections of a pattern body (R81) -/

/-- Section table: type, offset, length. -/
def bodySections (b : List Byte) : List (Nat × Nat × Nat) :=
  (List.range (min (leAt b 0 4) (b.length / 16))).map fun i => (leAt b (4 + 16 * i) 1, leAt b (8 + 16 * i) 4, leAt b (12 + 16 * i) 4)

/-- The table and every section lie within the body. -/
def extentsOk (b : List Byte) : Bool :=
  4 ≤ b.length && 4 + 16 * leAt b 0 4 ≤ b.length && (bodySections b).all fun x => x.2.1 + x.2.2 ≤ b.length

/-- Bytes of the first section of a type. -/
def sectionOf (b : List Byte) (t : Nat) : Option (List Byte) :=
  ((bodySections b).find? fun x => x.1 == t).map fun x => (b.drop x.2.1).take x.2.2

/-- A cue entry (Table 4-6). -/
def parseCue (e : List Byte) : Cue :=
  { num := leAt e 0 2, trigger := leAt e 2 1, action := leAt e 3 1, time := leAt e 4 8
    arg0 := leAt e 0xC 4, arg1 := leAt e 0x10 4, arg2 := leAt e 0x14 4 }

/-- A chain roster entry (Table 18-1). -/
def parseMember (e : List Byte) : ChainEntry :=
  { id := leAt e 0 1, role := leAt e 1 1, partner := leAt e 2 1, timing := leAt e 3 1
    peer := (List.range 4).map fun p => leAt e (4 + p) 1, route := leAt e 8 2 }

/-- The chain roster's header holds version 0x01 and the count of the entries that follow (R380). -/
def chainHeaderOk (b : List Byte) : Bool := leAt b 0 1 == 1 && b.length == 4 + 16 * leAt b 1 1

/-- The section's lengths are those of their formats (R82, R343, R380). -/
def lengthsOk (b : List Byte) : Bool :=
  ((sectionOf b 1).all fun x => x.length % 32 == 0) && ((sectionOf b 3).all chainHeaderOk) && ((sectionOf b 6).all fun x => 4 ≤ x.length) &&
  (sectionOf b 7).all fun x => x.length == 24

/-- Content that comes with a section type; nothing where the body has no such section. -/
def ifListed {α : Type} (types : List Nat) (t : Nat) (x d : α) : α := if types.contains t then x else d

/-- The pattern of an image: cue list, chain roster, VSEQ_FLOOR and cue addressing from the body's bytes; tile roster, register
batches, warp data and venue slots, whose byte layout the manual does not give, as the image brings them beside those bytes. -/
def patternOf (i : PatternImage) : Pattern :=
  let b := objBody i.object
  let types := (bodySections b).map (·.1)
  { sections := types
    cues := (chunks 32 ((sectionOf b 1).getD [])).map parseCue
    roster := ifListed types 2 i.body.roster []
    chain := (chunks 16 (((sectionOf b 3).getD []).drop 4)).map parseMember
    batches := ifListed types 4 i.body.batches []
    warp := ifListed types 5 i.body.warp []
    venueFloor := leAt ((sectionOf b 6).getD []) 0 4
    venueSlots := ifListed types 6 i.body.venueSlots []
    cueNet := (sectionOf b 7).map fun x => { udpPort := leAt x 0 2, stream := leAt x 2 2, addr := (x.drop 4).take 16 } }

/-- Every tile of a roster has one view grid in panel orientation, square where it is turned by 90° or 270° (R120). -/
def rosterGrids (l : List RosterTile) : Bool :=
  let g (t : RosterTile) : Nat × Nat := if t.rot % 2 = 1 then (t.nv, t.nu) else (t.nu, t.nv)
  l.all fun t => some (g t) == l.head?.map g && (t.rot % 2 == 0 || t.nu == t.nv)

/-- Member of a roster by ID. -/
def rosterMember (l : List ChainEntry) (id : Nat) : Option ChainEntry := l.find? fun e => e.id == id

/-- Some chain port of `e` leads to member `q`. -/
def peersWith (e : ChainEntry) (q : Nat) : Bool := (List.range 4).any fun p => peerFar e p == some q

/-- Chain ID 0 is within `n` hops of member `id` along ROUTE (R381). -/
def hopsToMaster (l : List ChainEntry) : Nat → Nat → Bool
  | 0, id => id == 0
  | n + 1, id => id == 0 || match (rosterMember l id).bind fun e => peerFar e (routeToward e 0) with
    | some q => hopsToMaster l n q
    | none => false

/-- One entry of a chain roster (R381): role, mutual links, a partner of the same role on a chain port, distance and TPORT. -/
def chainEntryOk (l : List ChainEntry) (e : ChainEntry) : Bool :=
  e.role ≤ 2 &&
  ((List.range 4).all fun p => match peerFar e p with
    | none => true
    | some q => q != e.id && (rosterMember l q).any fun f => peersWith f e.id) &&
  (e.role == 0 || (peersWith e e.partner && (rosterMember l e.partner).any fun f => f.partner == e.id && f.role == e.role)) &&
  hopsToMaster l 4 e.id && (e.id == 0 || e.timing % 4 == routeToward e 0)

/-- A chain roster (R380, R381) for the device of chain ID `own`. -/
def chainRosterOk (l : List ChainEntry) (own : Nat) : Bool :=
  within 2 8 l.length && decide ((l.map (·.id)).Nodup) && (l.any fun e => e.id == 0) && (l.any fun e => e.id == own) &&
  l.all (chainEntryOk l)

/-- The sections of a pattern (R81, R82, R109, R120, R381): required ones present, no unknown type below 0x80, every cue valid and
unique, rosters sound, venue slots that fit. -/
def patternOk (p : Pattern) (own : Nat) : Bool :=
  p.sections.contains 1 && p.sections.contains 2 &&
  (p.sections.all fun t => within 1 7 t || 0x80 ≤ t) &&
  p.cues.length ≤ 4096 && p.cues.all cueOk && decide ((p.cues.map (·.num)).Nodup) && p.venueSlots.length ≤ 16 && venueFits p.venueSlots &&
  rosterGrids p.roster && (p.chain.isEmpty || (p.sections.contains 3 && chainRosterOk p.chain own))

/-- A pattern image at a pointer (R73, R81). -/
def State.patReason (s : State) (i : PatternImage) (ptr : Nat) : Nat :=
  let r := s.objReason i.object magicPat 1 false
  if r ≠ 0 then r
  else
    let r := imageReason i.object ptr s.sec.otp.patSvnMin
    if r ≠ 0 then r else if 2 ^ 26 < leAt i.object 8 4 ∨ !extentsOk (objBody i.object) ∨ !lengthsOk (objBody i.object) ∨
        !patternOk (patternOf i) s.chainId then 0x0B else 0

/-- What attestation and R92 keep of an image in use. -/
def imageInfo (o : List Byte) (ptr : Nat) : ImageInfo :=
  { ptr := ptr, len := 0x800 + leAt o 8 4, svn := leAt o 0xC 4, generation := leAt o 0x10 4, slot := leAt o 7 1
    headHash := Crypto.sha384 (o.take 0x100) }

/-! ## Security commands -/

/-- The codes of Table 4-3. -/
def reasonCodes : List Nat :=
  [0x01, 0x02, 0x03, 0x04, 0x05, 0x06, 0x07, 0x08, 0x09, 0x0A, 0x0B, 0x0C, 0x20, 0x21, 0x22, 0x23, 0x24, 0x25, 0x26, 0x27, 0x28]

/-- The code of Table 4-3, left free, of a refusal that R77 states without one. -/
def openReason (k : Nat) : Nat := reasonCodes.getD (Config.secReason k % 21) 0x0B

/-- SEC_CMD_STAT with a result (Table 4-11). -/
def State.secResult (s : State) (op result reason : Nat) : State :=
  s.setNat Reg.SEC_CMD_STAT (op + result * 2 ^ 12 + reason * 2 ^ 16)

/-- A command is refused (R74). -/
def State.secRefuse (s : State) (op reason : Nat) : State :=
  (if s.bit Reg.SEC_CMD_STAT 8 then s else s.secResult op 2 reason).raise Ev.SEC_REFUSED [op, reason]

/-- A running command ends (R94): done, or failed with a reason. -/
def State.secDone (s : State) (op result reason : Nat) : State :=
  (({ s with sec := { s.sec with run := none } }).secResult op result reason).raise Ev.SEC_CMD_DONE [op, result, reason]

/-- A running command ends refused. -/
def State.secEndRefused (s : State) (op reason : Nat) : State :=
  (({ s with sec := { s.sec with run := none } }).secResult op 2 reason).raise Ev.SEC_REFUSED [op, reason]

/-- Two byte ranges of one flash meet. -/
def rangesMeet (a n b m : Nat) : Bool := a < b + m && b < a + n

/-- A flash range is protected (R92): it touches the journals and the reserved region, or an image in use. -/
def State.flashProtected (s : State) (addr : Word) (len : Nat) : Bool :=
  let off := addr.field 0 27
  let inUse (i : Option ImageInfo) : Bool := i.any fun i => i.ptr / 2 ^ 31 == addr.field 31 1 && rangesMeet off len (i.ptr % 2 ^ 27) i.len
  rangesMeet off len 0x1000 0xF000 || inUse s.sec.fw || inUse s.sec.pat

/-- The range lies within 8 MiB of FW_A_PTR or FW_B_PTR (R93). -/
def State.recoveryRange (s : State) (addr : Word) (len : Nat) : Bool :=
  [s.caston.opts.fwA, s.caston.opts.fwB].any fun p =>
    p / 2 ^ 31 == addr.field 31 1 && p % 2 ^ 27 ≤ addr.field 0 27 && addr.field 0 27 + len ≤ p % 2 ^ 27 + 2 ^ 23

/-- CLKRST_CASTON_STAT.HALTED. -/
def State.halted (s : State) : Bool := s.bit Reg.CLKRST_CASTON_STAT 4

/-- Reason that refuses a flash command (R92, R93); 0 for none. -/
def State.flashReason (s : State) (op : Nat) (addr : Word) (len : Nat) : Nat :=
  if op = 2 ∧ (addr.field 0 27 % 4096 ≠ 0 ∨ len % 4096 ≠ 0) then 0x27
  else if op = 3 ∧ 65536 < len then 0x27
  else if s.halted ∧ !s.recoveryRange addr len then 0x22
  else if s.flashProtected addr len then 0x22
  else 0

/-- Reason that refuses a command on acceptance (R80, R85, R92, R93); 0 for none.  DEDUCED: ADVANCE_PAT_SVN is not refused for a trial
image, as the pattern has no trial (log entry 157); in the recovery upload another command gets 0x20, and one outside the extents
0x22 (log entry 158). -/
def State.secReason (s : State) (op : Nat) : Nat :=
  let o := s.sec.otp
  if s.bit Reg.SEC_CMD_STAT 8 then 0x21
  else if s.halted ∧ op ≠ 2 ∧ op ≠ 3 then 0x20
  else if !s.halted ∧ !s.ready then 0x20
  else if !s.halted ∧ serviceOp op ∧ s.modeCode ≠ Mode.SERVICE then 0x20
  else if op = 1 ∧ s.bit Reg.SEC_LEAF_STAT 20 then 0x23
  else if op = 2 ∨ op = 3 then s.flashReason op (s.reg Reg.SEC_FLASH_ADDR) (s.fld Reg.SEC_LEN 0 27)
  else if op = 8 ∧ s.bit Reg.SEC_STAT 3 then 0x28
  else if op = 8 ∧ (s.sec.fw.any fun i => i.svn ≤ o.fwSvnMin) then 0x26
  else if op = 9 ∧ (s.sec.pat.all fun i => i.svn ≤ o.patSvnMin) then 0x26
  else 0

/-- Bytes of a staging buffer. -/
def State.stage (s : State) (base n : Nat) : List Byte := (List.range (ceilDiv n 4)).flatMap (fun i => leBytes 4 (s.nat (base + 4 * i))) |>.take n

/-- GENERATION of the running firmware with the confirm bit (Table 4-8). -/
def State.confirmValue (s : State) : Nat := (s.sec.fw.map (·.generation)).getD 0 + 2 ^ 31

/-- An accepted command starts with what it captured (R92): ATTEST burns a mark and journals its leaf (R87), CONFIRM_FW journals its
entry (R79), and a page program or burn pulse holds resets off (R54). -/
def State.secStart (s : State) (r : SecRun) : State :=
  let s := { s with sec := { s.sec with run := some { r with started := true } } }
  match r.op with
  | 1 =>
    let l := s.fld Reg.SEC_LEAF_STAT 0 20
    let o := s.sec.otp
    let s := if 4096 * o.leafMarks ≤ l then ({ s with sec := { s.sec with otp := { o with leafMarks := o.leafMarks + 1 } } }).refreshOtp else s
    ({ s with sec := { s.sec with leaf := some (l, none) } }).journalStart 0 (l + 1)
  | 2 =>
    let f := r.flashAddr.field 31 1
    ({ s with rst := { s.rst with erase := some ⟨f, r.flashAddr.field 0 27, r.len, none⟩ } }).emit (.flash f 0x21 (r.flashAddr.field 0 27) r.len)
  | 3 =>
    let f := r.flashAddr.field 31 1
    let s := { s with rst := { s.rst with flashPulse := some s.now } }
    (s.emit (.flash f 0x12 (r.flashAddr.field 0 27) r.len)).emit (.flashData r.stage)
  | 4 => s
  | 7 => s.journalStart 2 s.confirmValue
  | _ => { s with rst := { s.rst with flashPulse := some s.now } }

/-- A command is accepted with what it captures (R74, R92); it starts unless a venue command is served first (R90). -/
def State.secBegin (s : State) (op : Nat) : State :=
  let len := s.fld Reg.SEC_LEN 0 27
  let n := if op = 3 then len else if op = 5 ∨ op = 6 then 0x854 else 0
  let r : SecRun := { op := op, flashAddr := s.reg Reg.SEC_FLASH_ADDR, len := len, stage := s.stage (Reg.SEC_STAGE 0) n, started := false }
  let s := (({ s with sec := { s.sec with run := some r } }).secResult op 0 0).setBit Reg.SEC_CMD_STAT 8 true
  if s.sec.venueJob.isSome then s else s.secStart r

/-- A command that waited for the venue channel starts (R90). -/
def State.secResume (s : State) : State :=
  match s.sec.run with
  | some r => if r.started then s else s.secStart r
  | none => s

/-- A write to SEC_CMD with operation `op`. -/
def State.secCommand (s : State) (req : Requester) (op : Nat) : State :=
  s.control req Reg.SEC_CMD (Word.ofNat op) fun s =>
    let r := s.secReason op
    if r = 0 then s.secBegin op else s.secRefuse op r

/-- SEC_CMD_ATTEST (R85, R87). -/
def execSecCmdAttest (t : Nat) (req : Requester) (s : State) : Res := .next ((s.advance t).secCommand req 1)
/-- SEC_CMD_FLASH_ERASE (R92). -/
def execSecCmdFlashErase (t : Nat) (req : Requester) (s : State) : Res := .next ((s.advance t).secCommand req 2)
/-- SEC_CMD_FLASH_PROGRAM (R92). -/
def execSecCmdFlashProgram (t : Nat) (req : Requester) (s : State) : Res := .next ((s.advance t).secCommand req 3)
/-- SEC_CMD_VERIFY_IMAGE (R92). -/
def execSecCmdVerifyImage (t : Nat) (req : Requester) (s : State) : Res := .next ((s.advance t).secCommand req 4)
/-- SEC_CMD_ENROLL_KEY (R77). -/
def execSecCmdEnrollKey (t : Nat) (req : Requester) (s : State) : Res := .next ((s.advance t).secCommand req 5)
/-- SEC_CMD_REVOKE_KEY (R77). -/
def execSecCmdRevokeKey (t : Nat) (req : Requester) (s : State) : Res := .next ((s.advance t).secCommand req 6)
/-- SEC_CMD_CONFIRM_FW (R79). -/
def execSecCmdConfirmFw (t : Nat) (req : Requester) (s : State) : Res := .next ((s.advance t).secCommand req 7)
/-- SEC_CMD_ADVANCE_FW_SVN (R80). -/
def execSecCmdAdvanceFwSvn (t : Nat) (req : Requester) (s : State) : Res := .next ((s.advance t).secCommand req 8)
/-- SEC_CMD_ADVANCE_PAT_SVN (R80). -/
def execSecCmdAdvancePatSvn (t : Nat) (req : Requester) (s : State) : Res := .next ((s.advance t).secCommand req 9)

/-! ## Key records -/

/-- Every customer slot is empty. -/
def State.custEmpty (s : State) : Bool := s.sec.otp.cust.all fun k => slotState k == 0

/-- Reason that refuses a key record (R73, R77); 0 when it is carried out.  DESIGN CHOICE, where R77 names no code: a class, slot or
BODY_LEN that no record has gets 0x0B, and the revocation of a slot that is empty or torn 0x03, of one revoked before 0x04
(log entry 156); an OP that is not the command's, a vendor enrolment and a vendor slot that signs its own revocation get a code of
Table 4-3 that is left free (log entry 19). -/
def State.recordReason (s : State) (o : List Byte) (op : Nat) : Nat :=
  let b := objBody o
  let cls := leAt b 1 1
  let n := leAt b 2 1
  let eh := (b.drop 4).take 48
  let lh := (b.drop 0x34).take 32
  let first := op == 5 && cls == 1 && s.custEmpty
  let r :=
    if first then
      (if leAt o 0 4 ≠ magicKey ∨ leAt o 4 2 ≠ 1 then 0x01 else if leAt o 6 1 ≠ 1 then 0x02 else s.keyReason o eh lh true)
    else s.objReason o magicKey (if cls = 0 then 0 else 1) true
  if r ≠ 0 then r
  else if leAt o 0x14 8 = 0 then 0x0A
  else if leAt o 8 4 ≠ 84 ∨ 1 < cls ∨ (if cls = 0 then 2 else 4) ≤ n then 0x0B
  else if leAt b 0 1 ≠ op - 4 then openReason 0
  else match s.keySlot cls n with
    | none => 0x0B
    | some k =>
      if op = 5 then
        (if slotState k ≠ 0 then 0x03 else if cls = 0 then openReason 1 else 0)
      else if cls = 0 ∧ leAt o 7 1 = n then openReason 2
      else if slotState k = 2 then 0x04
      else if slotState k ≠ 1 then 0x03
      else if cls = 1 ∧ (s.sec.otp.cust.zipIdx.all fun x => x.2 == n || slotState x.1 != 1) then 0x24
      else 0

/-- Carry out a key record (R77). -/
def State.applyRecord (s : State) (o : List Byte) (op : Nat) : State :=
  let b := objBody o
  let cls := leAt b 1 1
  let n := leAt b 2 1
  let otp := s.sec.otp
  let upd (k : KeySlot) : KeySlot :=
    if op = 5 then { ecdsaHash := (b.drop 4).take 48, lmsHash := (b.drop 0x34).take 32, burnt := true, sealBit := true, revoked := false }
    else { k with revoked := true }
  let set (l : List KeySlot) : List KeySlot := l.zipIdx.map fun x => if x.2 = n then upd x.1 else x.1
  let otp := if cls = 0 then { otp with vendor := set otp.vendor } else { otp with cust := set otp.cust }
  (({ s with sec := { s.sec with otp := otp } }).refreshOtp).raise Ev.KEY_SLOT_CHANGED [cls, n, if op = 5 then 1 else 2]

/-! ## Attestation -/

/-- Slot states as one byte. -/
def slotByte (l : List KeySlot) : Nat := (l.zipIdx.map fun x => slotState x.1 * 4 ^ x.2).sum

/-- The 256-byte report body of Table 4-7, with leaf `l`.  DESIGN CHOICE: SEC_NONCE, like every field, is read when the report is
signed (log entry 159). -/
def State.attestBody (s : State) (l : Nat) : List Byte :=
  let o := s.sec.otp
  let none_ : ImageInfo := ⟨0, 0, 0, 0, 0, []⟩
  let fw := s.sec.fw.getD none_
  let pat := s.sec.pat.getD none_
  let hash (h : List Byte) : List Byte := (h ++ List.replicate 48 0).take 48
  let venue := (s.sec.venueDesc.flatMap fun w => leBytes 4 w.toNat) ++ s.sec.venueBuffer
  leBytes 4 0x54484154 ++ leBytes 2 1 ++ leBytes 2 0x1534 ++ leBytes 8 o.serial
    ++ (List.range 8).flatMap (fun i => leBytes 4 (s.nat (Reg.SEC_NONCE i)))
    ++ hash fw.headHash ++ hash pat.headHash
    ++ leBytes 1 fw.svn ++ leBytes 1 o.fwSvnMin ++ leBytes 1 pat.svn ++ leBytes 1 o.patSvnMin
    ++ leBytes 1 pat.slot ++ leBytes 1 (slotByte o.cust) ++ leBytes 1 (slotByte o.vendor) ++ leBytes 1 s.modeCode
    ++ leBytes 4 fw.generation ++ leBytes 4 pat.generation
    ++ leBytes 4 (s.nat Reg.CLKRST_CAUSE) ++ leBytes 4 (s.nat Reg.CLKRST_RESET_CNT)
    ++ leBytes 8 s.showNs ++ leBytes 4 l ++ leBytes 4 s.sec.lastVseq
    ++ hash (Crypto.sha384 venue) ++ List.replicate 24 0

/-- Words of a byte list. -/
def wordsOf (bs : List Byte) : List Word := (chunks 4 bs).map fun c => Word.ofNat (leNat c)

/-- ASCII bytes of an HKDF info string. -/
def infoBytes (t : String) : List Byte := t.toList.map fun c => BitVec.ofNat 8 c.toNat

/-- What HKDF-SHA-384 derives from SECRET with an info (R84). -/
def State.derive (s : State) (info : String) (n : Nat) : List Byte := Crypto.hkdf384 (Crypto.beBytes 32 s.sec.otp.secret) (infoBytes info) n

/-- The identity key: 56 bytes modulo n − 1, and one more (R84). -/
def State.identityKey (s : State) : Nat := beNat (s.derive "HL9600 DEVID ECDSA" 56) % (Crypto.n384 - 1) + 1

/-- ECDSA signature of a message with the identity key. -/
def State.identitySign (s : State) (m : List Byte) : List Byte :=
  let d := s.identityKey
  let h := Crypto.sha384 m
  Crypto.ecdsaSign d (Config.ecdsaNonce d h % (Crypto.n384 - 1) + 1) h

/-- A randomiser of RFC 8554. -/
def randomizer (seed : List Byte) (q : Nat) (m : List Byte) : List Byte := (List.range 32).map (Config.lmsRandomizer seed q m)

/-- Two-level HSS signature of a message with leaf `l` (R84, R85): the top key signs the subtree's public key with the leaf of the
subtree's number, the subtree signs the message. -/
def State.hssSign (s : State) (l : Nat) (m : List Byte) : List Byte :=
  let okm := s.derive "HL9600 ATTEST HSS" 48
  let seed := okm.take 32
  let id := okm.drop 32
  let tree := l / 1024
  let key := (List.range 48).map (Config.subtreeKey okm tree)
  let pub := Crypto.lmsPublic (key.drop 32) (key.take 32)
  Crypto.beBytes 4 1 ++ Crypto.lmsSign id seed tree (randomizer seed tree pub) pub ++ pub ++
    Crypto.lmsSign (key.drop 32) (key.take 32) (l % 1024) (randomizer (key.take 32) (l % 1024) m) m

/-- The whole report in SEC_ATTEST_BUF (R85). -/
def State.signReport (s : State) (l : Nat) : State :=
  let body := s.attestBody l
  let report := body ++ s.identitySign body ++ s.hssSign l body
  let ws := (wordsOf (report.take 5428)).zipIdx.map fun x => (Reg.SEC_ATTEST_BUF x.2, x.1)
  s.putRange (Reg.SEC_ATTEST_BUF 0) (Reg.SEC_ATTEST_BUF 2048) ws

/-- LEAF_JOURNAL_WRITE_DONE (R87): with neither write complete the command is refused; else the leaf is used. -/
def execLeafJournalWriteDone (t : Nat) (okA okB : Bool) (s : State) : Res :=
  let s := s.advance t
  .next (match s.sec.leaf with
    | some (l, none) =>
      let s := s.journalEnd 0 (l + 1) okA okB
      if !okA && !okB then (({ s with sec := { s.sec with leaf := none } }).secEndRefused 1 0x25).pulseDone
      else
        let s := ({ s with sec := { s.sec with leaf := some (l, some true) } }).pulseDone
        let s := s.setLeaf (l + 1)
        if leaves - l = 65536 then s.raise Ev.ATTEST_LOW [leaves - (l + 1)] else s
    | _ => s)

/-! ## Completion -/

/-- SEC_CMD_COMPLETE (R74, R77, R79, R80, R85, R92): the command that has started ends; `ok` says whether the flash or OTP took it,
`image` is what VERIFY_IMAGE read. -/
def State.secEnds (s : State) (r : SecRun) (ok : Bool) (image : PatternImage) : State :=
  match r.op with
  | 1 => match s.sec.leaf with
    | some (l, some true) => (({ s with sec := { s.sec with leaf := none } }).signReport l).secDone 1 1 0
    | _ => s
  | 2 =>
    let gone (x : Nat × Nat) : Bool := ok && x.1 == r.flashAddr.field 31 1 && r.flashAddr.field 0 27 ≤ x.2 && x.2 < r.flashAddr.field 0 27 + r.len
    ({ s with rst := { s.rst with erase := none, undefinedSectors := s.rst.undefinedSectors.filter fun x => !gone x } }).secDone 2
      (if ok then 1 else 3) 0
  | 3 => s.secDone 3 (if ok then 1 else 3) 0
  | 4 =>
    let p := r.flashAddr.toNat
    let reason := if leAt image.object 0 4 = magicPat then s.patReason image p else s.fwReason image.object p
    s.secDone 4 (if reason = 0 then 1 else 3) reason
  | 5 => let x := s.recordReason r.stage 5
         if x = 0 then (s.applyRecord r.stage 5).secDone 5 1 0 else s.secEndRefused 5 x
  | 6 => let x := s.recordReason r.stage 6
         if x = 0 then (s.applyRecord r.stage 6).secDone 6 1 0 else s.secEndRefused 6 x
  | 7 =>
    let s := s.journalEnd 2 s.confirmValue ok ok
    if !ok then s.secDone 7 3 0x25 else (s.setBit Reg.SEC_STAT 3 false).secDone 7 1 0
  | 8 =>
    (({ s with sec := { s.sec with otp := { s.sec.otp with fwSvnMin := (s.sec.fw.map fun (i : ImageInfo) => i.svn).getD 0 } } }).refreshOtp).secDone 8 1 0
  | 9 =>
    (({ s with sec := { s.sec with otp := { s.sec.otp with patSvnMin := (s.sec.pat.map fun (i : ImageInfo) => i.svn).getD 0 } } }).refreshOtp).secDone 9 1 0
  | _ => s

/-- The command that has started ends, and with it the pulse that held resets off. -/
def State.secComplete (s : State) (ok : Bool) (image : PatternImage) : State :=
  match s.sec.run with
  | none => s
  | some r => if r.started then (s.secEnds r ok image).pulseDone else s

/-- SEC_CMD_COMPLETE (R74, R94). -/
def execSecCmdComplete (t : Nat) (ok : Bool) (image : PatternImage) (s : State) : Res :=
  .next ((s.advance t).secComplete ok image)

/-! ## The venue path -/

/-- Result and reason of SEC_VENUE_STAT. -/
def State.venueResult (s : State) (result reason : Nat) : State :=
  s.setNat Reg.SEC_VENUE_STAT (result * 2 ^ 4 + reason * 2 ^ 8)

/-- A venue command is rejected (R74, R94); a rejection of a submission while the channel is busy leaves the running one's status. -/
def State.venueReject (s : State) (source reason vseq result : Nat) : State :=
  (if reason = 0x21 then s else s.venueResult result reason).raise Ev.VENUE_REJECTED [source, reason, vseq]

/-- Modes that refuse a venue command (R90). -/
def venueMode (m : Nat) : Bool := !([Mode.RESET, Mode.CAST_ON, Mode.DEEP, Mode.STRIP, Mode.BIND_OFF].contains m)

/-- A venue object arrives from a source of R88 or R91. -/
def State.venueArrives (s : State) (source : Nat) (o : List Byte) (frame : Option Nat) : State :=
  let v := leAt o 0xC 4
  if !venueMode s.modeCode then s.venueReject source 0x20 v 2
  else if s.bit Reg.SEC_VENUE_STAT 0 then s.venueReject source 0x21 v 2
  else ({ s with sec := { s.sec with venueJob := some ⟨source, o, frame⟩ } }).setNat Reg.SEC_VENUE_STAT 1

/-- VENUE_SUBMIT (R88, R90): SEC_VENUE_CMD.GO submits SEC_VENUE_STAGE. -/
def execVenueSubmit (t : Nat) (req : Requester) (s : State) : Res :=
  .next ((s.advance t).control req Reg.SEC_VENUE_CMD 1 fun s =>
    let len := 0x800 + s.nat (Reg.SEC_VENUE_STAGE 2)
    s.venueArrives 0 (s.stage (Reg.SEC_VENUE_STAGE 0) (min len 65536)) none)

/-- Descriptor of a venue body or slot, checked under R108. -/
def venueDescOk (ws : List Word) (len : Nat) : Bool := !((Desc.ofWords fun i => ws.getD i 0).asVenue 0).venueBad len

/-- Check 10 of R73 for a venue command (R88, R89, R108). -/
def State.venueReason (s : State) (o : List Byte) : Nat :=
  let b := objBody o
  let op := leAt b 0 1
  let slot := leAt b 1 1
  let n := leAt b 4 4
  if leAt o 0xC 4 ≤ s.sec.lastVseq then 0x0C
  else if op = 1 then (if (s.sec.pattern.venueSlots[slot]?).any fun v => venueDescOk v.desc v.buffer.length then 0 else 0x0B)
  else if op = 2 then
    (if 63416 < n ∨ leAt o 8 4 < 0x48 + n ∨ !venueDescOk (wordsOf ((b.drop 8).take 64)) n then 0x0B else 0)
  else if op = 3 then 0 else 0x0B

/-- What a venue operation puts in place: slot code, descriptor, buffer. -/
def State.venueContent (s : State) (op slot : Nat) (b : List Byte) : Nat × List Word × List Byte :=
  match op with
  | 1 => match s.sec.pattern.venueSlots[slot]? with
    | some v => (slot, v.desc, v.buffer)
    | none => (0xFF, [], [])
  | 2 => (0xFE, wordsOf ((b.drop 8).take 64), (b.drop 0x48).take (leAt b 4 4))
  | _ => (0xFF, [], [])

/-- Frame whose boundary is the first at least `c` cycles ahead. -/
def State.boundaryAfter (s : State) (c : Nat) : Option Nat :=
  s.nextLatch.map fun (l, k) => if s.now + c ≤ l then k else k + ceilDiv (s.now + c - l) (max 1 s.periodCycles)

/-- Forward an accepted object to every member (R91): named frame, length, bytes. -/
def State.forwardVenue (s : State) (o : List Byte) (frame : Nat) : State :=
  if s.chain.chained then s.sendAll 7 ([Word.ofNat frame, Word.ofNat o.length] ++ wordsOf o) else s

/-- The journal writes of an accepted VSEQ run, or wait for those before them (R89). -/
def State.journalVenue (s : State) (v : Nat) : State :=
  let idle := s.sec.venueJournal.isEmpty
  let s := { s with sec := { s.sec with venueJournal := s.sec.venueJournal ++ [v] } }
  if idle then s.journalStart 1 v else s

/-- VENUE_VERIFY_DONE (R73, R88 to R91): the object in the venue channel is verified and its content copied.  DESIGN CHOICE: a member
that delivers no frames names frame 0 (log entry 161). -/
def State.venueVerified (s : State) (j : VenueJob) : State :=
  let o := j.object
  let v := leAt o 0xC 4
  let s := { s with sec := { s.sec with venueJob := none } }
  let r := s.objReason o magicVenue 1 false
  if r ≠ 0 then s.venueReject j.source r v 3
  else if v = s.sec.lastVseq ∧ objHash o = s.sec.lastHash then s.venueResult 1 0
  else
    let r := s.venueReason o
    if r ≠ 0 then s.venueReject j.source r v 3
    else
      let b := objBody o
      let c := s.venueContent (leAt b 0 1) (leAt b 1 1) b
      let own := s.chain.chained && j.source != 3
      let named := if own then s.boundaryAfter (ms 10) else j.frame
      let w : VenueReady := { source := j.source, op := leAt b 0 1, slot := c.1, vseq := v, desc := c.2.1, buffer := c.2.2
                              ready := s.now, frame := named, cue := none }
      let s := { s with sec := { s.sec with lastVseq := v, lastHash := objHash o } }
      let s := s.journalVenue v
      let s := (s.setNat Reg.SEC_VENUE_SEQ v).venueResult 1 0
      let s := if own then s.forwardVenue o (named.getD 0) else s
      if s.modeCode = Mode.SAFE then s.applyVenue w (s.nat Reg.SCAN_FRAME)
      else { s with sec := { s.sec with venueReady := s.sec.venueReady ++ [w] } }

/-- VENUE_VERIFY_DONE (R88 to R91): verification and copy are complete; a security command that had started finishes first, and one
that waits starts then (R90). -/
def execVenueVerifyDone (t : Nat) (s : State) : Res :=
  let s := s.advance t
  .next (match s.sec.venueJob with
    | none => s
    | some j => if s.sec.run.any (·.started) then s else (s.venueVerified j).secResume)

/-- Venue changes whose boundary this is: ready 20 µs before it, and named no later frame (R88, R91). -/
def State.venueDue (s : State) (frameNo : Nat) : List VenueReady :=
  s.sec.venueReady.filter fun v => v.ready + us 20 ≤ s.now && (v.frame.all fun f => fenceReached frameNo f)

/-- Venue changes at the boundary `count` that latches frame `frameNo` (R88, R90). -/
def State.venueBoundary (s : State) (count frameNo : Nat) : State := s.applyVenues (s.venueDue count) frameNo

/-- VENUE_JOURNAL_WRITE_DONE (R89). -/
def execVenueJournalWriteDone (t : Nat) (okA okB : Bool) (s : State) : Res :=
  let s := s.advance t
  .next (match s.sec.venueJournal with
    | [] => s
    | v :: rest =>
      let s := (({ s with sec := { s.sec with venueJournal := rest } }).journalEnd 1 v okA okB).pulseDone
      let s := match rest with
        | [] => s
        | w :: _ => s.journalStart 1 w
      if okA || okB then s else s.raise Ev.VENUE_JOURNAL_FAIL [v])

/-! ## Cues fire -/

/-- Insert a fired cue behind those fired in earlier cycles, in ascending CUE within its cycle (R83). -/
def State.insertFired (s : State) (f : FiredCue) : List FiredCue → List FiredCue
  | [] => [f]
  | x :: xs =>
    if x.cycle = f.cycle ∧ ((s.cueAt f.index).map (·.num)).getD 0 < ((s.cueAt x.index).map (·.num)).getD 0 then f :: x :: xs
    else x :: s.insertFired f xs

/-- A cue fires: its action is due (R83). -/
def State.fireCue (s : State) (i source : Nat) : State :=
  let l := s.insertFired ⟨i, source, s.now⟩ s.cue.fired
  let s := { s with cue := { s.cue with fired := l } }
  s.setFld Reg.SEC_CUE_STAT 0 16 (((l.getLast?.bind fun f => s.cueAt f.index).map (·.num)).getD 0)

/-- List position of a cue number with a trigger. -/
def State.cueIndex (s : State) (num trigger : Nat) : Option Nat :=
  s.sec.pattern.cues.findIdx? fun c => c.num == num && c.trigger == trigger

/-- CUE_TIME_DUE (R83): a TRIGGER 0x0 cue whose TIME has come. -/
def execCueTimeDue (t cue : Nat) (s : State) : Res :=
  let s := s.advance t
  .next (match s.cueIndex cue 0 with
    | none => s
    | some i =>
      if s.ready && !s.cue.spent.contains i && (s.cueAt i).any (fun c => c.time ≤ s.showNs) then
        ({ s with cue := { s.cue with spent := i :: s.cue.spent } }).fireCue i 2
      else s)

/-- CUE_DELAY_DUE (R83): a TRIGGER 0x1 cue whose delay has passed since the entry before it completed. -/
def execCueDelayDue (t cue : Nat) (s : State) : Res :=
  let s := s.advance t
  .next (match s.cueIndex cue 1 with
    | none => s
    | some i =>
      match s.cue.armed.find? fun x => x.1 == i with
      | some x =>
        if (s.cueAt i).any fun c => x.2 + nsCycles c.time ≤ s.now then
          ({ s with cue := { s.cue with armed := s.cue.armed.erase x } }).fireCue i 2
        else s
      | none => s)

/-- SEC_CUE_GO (R82, R83): fires a TRIGGER 0x3 cue, else CUE_IGNORED. -/
def execSecCueGo (t : Nat) (req : Requester) (cue : Nat) (s : State) : Res :=
  .next ((s.advance t).control req Reg.SEC_CUE_GO (Word.ofNat (cue % 2 ^ 16)) fun s =>
    match s.cueIndex (cue % 2 ^ 16) 3 with
    | some i => s.fireCue i 2
    | none => s.raise Ev.CUE_IGNORED [cue % 2 ^ 16, 0])

/-- A network cue names a cue (R83, R343). -/
def State.networkCue (s : State) (num : Nat) : State :=
  match s.cueIndex num 2 with
  | some i => s.fireCue i 1
  | none => s.raise Ev.CUE_IGNORED [num, 1]

end Sys2Proof.Machine
end

