-- ==== Sys2Proof/Machine/Plies.lean ====
section
/-! DEFINITION.  The ply unit at a boundary: pending flips and their fences (R110 to R112),
validation (R116), flatten groups (R113 to R115, R307), the compositing order (R106, R107)
and the projection of the render time (R152 to R155). -/

namespace Sys2Proof.Machine

/-! ## Descriptors -/

/-- Address of word `i` of descriptor `n`. -/
def descAddr (n i : Nat) : Nat := Reg.PLY_DESC_BASE_LO n + 4 * i

/-- Latched descriptor `n`. -/
def State.desc (s : State) (n : Nat) : Desc := Desc.ofWords fun i => s.reg (descAddr n i)

/-- Waiting writes that a latch in this cycle may apply: those of the cycle itself stay (R110). -/
def State.dueWrites (s : State) : List PendWrite := s.rws.filter fun p => p.stamp < s.now

/-- Descriptor `n` with its pending values. -/
def State.pendingDesc (s : State) (due : List PendWrite) (n : Nat) : Desc :=
  Desc.ofWords fun i => (waitingWrite due (descAddr n i)).getD (s.reg (descAddr n i))

/-- Descriptors with a pending flip among some writes. -/
def flipsOf (l : List PendWrite) : List Nat := (List.range 64).filter fun n => l.any fun p => descOf p.addr == some n

/-- PENDING of each descriptor and PENDING_CNT (Table 5-8). -/
def State.refreshPending (s : State) : State :=
  let f := flipsOf s.rws
  let s := s.each (List.range 64) fun s n => s.setBit (Reg.PLY_DESC_STAT n) 0 (f.contains n)
  s.setFld Reg.PLY_STAT 8 7 f.length

/-- Greatest |first| and |second| of a list of vectors. -/
def greatest (l : List (Int × Int)) : Nat × Nat :=
  l.foldl (fun m v => (max m.1 v.1.natAbs, max m.2 v.2.natAbs)) (0, 0)

/-- M_t of R150 in 2^−12 view steps. -/
def State.reach (s : State) (t nu nv : Nat) : Nat :=
  let g := greatest ((List.range 289).map fun n => warpPair (s.reg (Reg.RAY_WARP_GRID t n)))
  let d := greatest ((List.range (nu * nv)).map fun m => warpPair (s.reg (Reg.RAY_VIEW_DIR t m)))
  max (g.1 + d.1) (g.2 + d.2)

/-- The view grid in effect. -/
def State.grid (s : State) : Nat × Nat := gridOf (s.reg Reg.RAY_VIEW_GRID)

/-- Geometry of the roster's tiles. -/
def State.tileGeoms (s : State) : List TileGeom :=
  let g := s.grid
  s.roster.zipIdx.map fun x => { x0 := x.1.x0, y0 := x.1.y0, tw := x.1.tw, th := x.1.th, reach := s.reach x.2 g.1 g.2 }

/-- What the checks of Table 5-5 need. -/
def State.checkEnv (s : State) : CheckEnv :=
  { usable := s.usable, venueBase := s.venueBase, nu := s.grid.1, nv := s.grid.2, tiles := s.tileGeoms }

/-- CODE of a descriptor. -/
def State.setCode (s : State) (n c : Nat) : State := s.setFld (Reg.PLY_DESC_STAT n) 8 4 c

/-- A pending flip's fence is not reached (R112). -/
def State.fenceMissed (s : State) (d : Desc) : Bool := d.fenceEn && !fenceReached (s.nat (Reg.PLY_FENCE d.fenceId)) d.fenceVal

/-- Groups whose members take another content lose their flat ply, and one that had or awaited one is made again (R115, R309). -/
def State.unflatten (s : State) (gs : List Nat) : State :=
  let f := s.frame
  let again := gs.filter fun g => (f.flat.contains g || f.flattening.contains g) && !f.flatLost.contains g
  let out (l : List Nat) : List Nat := l.filter fun g => !gs.contains g
  { s with frame := { f with flat := out f.flat, flatNoFit := out f.flatNoFit, flattening := out f.flattening
                             flatLost := f.flatLost ++ again } }

/-- Drop the due writes of some descriptors. -/
def State.dropFlips (s : State) (ns : List Nat) : State :=
  { s with rws := s.rws.filter fun p => !(p.stamp < s.now && (descOf p.addr).any fun n => ns.contains n) }

/-- R116: the descriptors at the latch instant of a boundary that applies a commit. -/
def State.flipDescs (s : State) (frameNo : Nat) : State :=
  let due := s.dueWrites
  let ns := flipsOf due
  let env := s.checkEnv
  let d (n : Nat) : Desc := s.pendingDesc due n
  let missed := ns.filter fun n => s.fenceMissed (d n)
  let bad := (ns.filter fun n => !missed.contains n && (d n).check env != 0)
  let good := ns.filter fun n => !missed.contains n && !bad.contains n
  let was (n : Nat) : Bool := (s.desc n).active
  let group (n : Nat) : Nat := (s.desc n).group
  let count := ((List.range 64).filter fun n => if good.contains n then (d n).active else was n).length
  let excess := if 32 < count then good.filter fun n => (d n).active && !was n else []
  let applied := good.filter fun n => !excess.contains n
  let fences (n : Nat) : List Nat := [n, (d n).fenceId, (d n).fenceVal, s.nat (Reg.PLY_FENCE (d n).fenceId), frameNo % 2 ^ 16]
  let lands := due.filter fun p => (descOf p.addr).any fun n => applied.contains n
  let s := s.each missed fun s n => (s.raise Ev.PLY_FENCE_MISSED (fences n)).incFld (Reg.PLY_DESC_STAT n) 16 8 1
  let reject (s : State) (n c : Nat) : State := ((s.raise Ev.PLY_REJECTED [n, c, frameNo % 2 ^ 16]).setCode n c).setFld (Reg.PLY_DESC_STAT n) 16 8 0
  let s := s.each bad fun s n => reject s n ((d n).check env)
  let s := s.each excess fun s n => reject s n 7
  let s := (s.dropFlips (bad ++ excess ++ applied)).each lands State.land
  let s := s.each applied fun s n => (s.setCode n 0).setFld (Reg.PLY_DESC_STAT n) 16 8 0
  let again := (List.range 64).filter fun n => (s.desc n).active && !applied.contains n && (s.desc n).recheck env != 0
  let s := s.each again fun s n =>
    let c := (s.desc n).recheck env
    ((s.setBit (Reg.PLY_DESC_CTRL n) 11 false).raise Ev.PLY_DEACTIVATED [n, c, frameNo % 2 ^ 16]).setCode n c
  let left := ((applied ++ again).filter was).map group
  { s with frame := { s.frame with flippedNow := applied } }.unflatten (left.eraseDups.filter (· != 0))

/-! ## Groups -/

/-- Active descriptors in compositing order. -/
def State.activeOrder (s : State) : List (Nat × Desc) := compositing ((List.range 64).map fun n => (n, s.desc n))

/-- Base address and size of a group's region. -/
def State.groupBase (s : State) (g : Nat) : Nat :=
  s.fld (Reg.PLY_GROUP_BASE_LO (g - 1)) 12 20 * 4096 + s.fld (Reg.PLY_GROUP_BASE_HI (g - 1)) 0 3 * 2 ^ 32
def State.groupSize (s : State) (g : Nat) : Nat := s.fld (Reg.PLY_GROUP_SIZE (g - 1)) 0 20 * 4096
def State.groupScale (s : State) (g : Nat) : Nat := s.fld (Reg.PLY_GROUP_SCALE (g - 1)) 0 24

/-- The flat ply of a group as a descriptor (R114, R307): `m` holds its members in compositing order. -/
def flatDesc (m : List (Nat × Desc)) (scale base : Nat) : Desc :=
  match m with
  | [] => Desc.ofWords fun _ => 0
  | (_, f) :: _ =>
    let ox := m.foldl (fun a x => min a x.2.offX) f.offX
    let oy := m.foldl (fun a x => min a x.2.offY) f.offY
    let xm := m.foldl (fun a x => max a x.2.extent.2.1) f.extent.2.1
    let ym := m.foldl (fun a x => max a x.2.extent.2.2.2) f.extent.2.2.2
    let sz (hi : Rat) (lo : Int) : Nat := ((hi - (lo : Rat) / 256) * (scale : Rat) / 65536).ceil.toNat
    let dx : Rat := ((ox - f.offX : Int) : Rat) / 256
    let dy : Rat := ((oy - f.offY : Int) : Rat) / 256
    let disp := rnd 12 ((f.disp : Rat) / 4096 + ((f.tiltX : Rat) / 4096 * dx + (f.tiltY : Rat) / 4096 * dy) / 1024)
    { f with base := base, layout := 1, aplane := 0, container := 2, transfer := 0, narrow := false, rot := 0, mirror := false
             premul := true, w := sz xm ox, h := sz ym oy, pitch := 128, scaleX := scale, scaleY := scale, offX := ox, offY := oy
             disp := disp, alpha := 0x8000, shed := m.foldl (fun a x => min a x.2.shed) f.shed, active := true, group := 0
             fenceEn := false }

/-- Members of a group in compositing order. -/
def groupMembers (order : List (Nat × Desc)) (g : Nat) : List (Nat × Desc) := order.filter fun x => x.2.group == g

/-- A flat ply that R307 keeps from being made: too large, or outside the depth budget. -/
def flatBad (d : Desc) (e : CheckEnv) : Bool := 16384 < d.w || 16384 < d.h || !(e.tiles.all (depthOk d e.nu e.nv))

/-- REASON of a group at a boundary (Table 5-6); 0x100 when it may be flattened and its flat ply is not ready. A flip of the last
complete frame keeps a ply that is ready from use (R113). -/
def State.groupCode (s : State) (order : List (Nat × Desc)) (e : CheckEnv) (g : Nat) : Nat :=
  let r := groupReason order g (s.groupScale g)
  if r ≠ 0 then r
  else if s.groupSize g = 0 ∨ s.frame.flatNoFit.contains g ∨ flatBad (flatDesc (groupMembers order g) (s.groupScale g) 0) e then 5
  else if s.frame.flatLost.contains g then 7
  else if s.frame.flat.contains g then (if (groupMembers order g).any fun x => s.frame.flippedPrev.contains x.1 then 7 else 0)
  else 0x100

/-- Group `g` at a boundary: STATE, REASON, and the events of a change (R113, R115). -/
def State.latchGroup (s : State) (order : List (Nat × Desc)) (e : CheckEnv) (frameNo g : Nat) : State :=
  let m := (groupMembers order g).map (·.1)
  let s := if m.any fun n => s.frame.flippedNow.contains n then s.unflatten [g] else s
  let c := s.groupCode order e g
  let was := s.fld (Reg.PLY_GROUP_STAT (g - 1)) 0 2
  let st := if m = [] then 0 else if c = 0 then 3 else if c = 7 ∨ c = 0x100 then 2 else 1
  let reason := if m = [] ∨ c = 0x100 then 0 else c
  let s := s.setNat (Reg.PLY_GROUP_STAT (g - 1)) (st + reason * 2 ^ 8)
  let wants := decide (st = 2) && !s.frame.flat.contains g
  let s := { s with frame := { s.frame with
      flattening := if wants then (if s.frame.flattening.contains g then s.frame.flattening else s.frame.flattening ++ [g])
                    else s.frame.flattening.filter (· != g)
      flatLost := if c = 7 then s.frame.flatLost else s.frame.flatLost.filter (· != g)
      flat := if (c = 0 ∨ c = 7) ∧ m ≠ [] then s.frame.flat else s.frame.flat.filter (· != g) } }
  if was ≠ 3 ∧ st = 3 then s.raise Ev.PLY_GROUP_FLATTENED [g, frameNo % 2 ^ 16]
  else if was = 3 ∧ st ≠ 3 then s.raise Ev.PLY_GROUP_UNFLATTENED [g, reason, frameNo % 2 ^ 16]
  else if was = 2 ∧ st = 1 then s.raise Ev.PLY_GROUP_UNFLATTENED [g, reason, frameNo % 2 ^ 16]
  else s

/-- PLY_GROUP STATE is flattened. -/
def State.flattened (s : State) (g : Nat) : Bool := g != 0 && s.fld (Reg.PLY_GROUP_STAT (g - 1)) 0 2 == 3

/-- The compositing order with flat plies in the place of their front-most member (R106, R114). -/
def State.plyOrder (s : State) (order : List (Nat × Desc)) : List PlyRef :=
  (order.foldl (fun (acc : List PlyRef × List Nat) x =>
    let g := x.2.group
    if s.flattened g then
      if acc.2.contains g then acc
      else
        let m := groupMembers order g
        (acc.1 ++ [{ id := 0x100 + g, desc := flatDesc m (s.groupScale g) (s.groupBase g), flat := true, members := m.map (·.1), venue := false }],
         g :: acc.2)
    else (acc.1 ++ [{ id := x.1, desc := x.2, flat := false, members := [x.1], venue := false }], acc.2)) ([], [])).1

/-- Id of the venue ply in the compositing order. -/
def venueId : Nat := 0x200

/-- The venue ply, when it is not cleared (R107, R108). -/
def State.venuePly (s : State) : List PlyRef :=
  if s.sec.venueSlot = 0xFF then []
  else
    let d := (Desc.ofWords fun i => s.sec.venueDesc.getD i 0).asVenue s.venueBase
    [{ id := venueId, desc := d, flat := false, members := [], venue := true, gen := s.sec.venueGen }]

/-- Compositing order of a frame in mode `m` (R106, R107, R471). -/
def State.frameOrder (s : State) (m : Nat) : List PlyRef :=
  if m = Mode.SWATCH then s.venuePly
  else if isDelivering m then s.venuePly ++ s.plyOrder s.activeOrder
  else []

/-! ## Projection -/

/-- Views of a region. -/
def viewsIn (nu nv r : Nat) : Nat :=
  ((List.range nv).map fun iv => ((List.range nu).filter fun iu => viewRegion nu nv iu iv == r).length).sum

/-- Passes on one tile (R152): `extra` counts a backdrop. -/
def tilePasses (order : List PlyRef) (nu nv extra : Nat) (flatForm : Bool) (g : TileGeom) : Nat :=
  let near := order.filter fun p => (reachRect p.desc g).isSome
  let p (r : Nat) : Nat := passesOf ((near.filter fun q => q.desc.viewMask.testBit r).length + extra)
  if flatForm then g.tw * g.th * p (viewRegion nu nv (nu / 2) (nv / 2))
  else ((List.range 16).map fun r => g.tw * g.th * viewsIn nu nv r * p r).sum

/-- Courses of all tiles. -/
def State.courseTotal (s : State) : Nat := (s.roster.map fun r => (tileCourses r).1).sum

/-- Numerator of t_proj: passes and overhead (R152). -/
def State.projected (s : State) (order : List PlyRef) (m : Nat) (f : Form) : Nat :=
  let g := s.grid
  let extra := if m = Mode.SWATCH then 1 else 0
  (s.tileGeoms.map fun t => tilePasses order g.1 g.2 extra (f == .flat) t).sum + 96 * s.courseTotal

/-- t_proj in ns, rounded up (R152, R153), at the ray clock latched. -/
def State.projNs (s : State) (total : Nat) : Nat :=
  if s.bit Reg.GLB_CLK_STAT 1 then ceilDiv (total * 10) 2304 else ceilDiv (total * 100) 27648

/-- t_proj is over a limit in ns, compared exactly. -/
def State.projOver (s : State) (total limit : Nat) : Bool :=
  if s.bit Reg.GLB_CLK_STAT 1 then limit * 2304 < total * 10 else limit * 27648 < total * 100

/-- The ply that is shed next (R154): highest SHED, then furthest back. -/
def shedNext (order : List PlyRef) : Option PlyRef :=
  order.foldl (fun best p =>
    if p.venue || p.desc.shed == 0 then best
    else match best with
      | none => some p
      | some q => if q.desc.shed ≤ p.desc.shed then some p else some q) none

/-- Shed until the projection fits or no candidate remains (R154): order left and plies shed. -/
def State.shedLoop (s : State) (m : Nat) (f : Form) (limit : Nat) : Nat → List PlyRef → List PlyRef → List PlyRef × List PlyRef
  | 0, order, out => (order, out)
  | k + 1, order, out =>
    if s.projOver (s.projected order m f) limit then
      match shedNext order with
      | some p => s.shedLoop m f limit k (order.filter fun q => q.id != p.id) (out ++ [p])
      | none => (order, out)
    else (order, out)

/-- Bits of descriptors in a pair of registers. -/
def State.setPair (s : State) (lo hi : Nat) (ns : List Nat) : State :=
  let v := ofBits ns
  (s.setNat lo v).setNat hi (v / 2 ^ 32)

/-- Six arguments: the first two share a word (R427). -/
def pack6 (a b c d e f : Nat) : List Nat := [a % 2 ^ 16 + b % 2 ^ 16 * 2 ^ 16, c, d, e, f]

/-- R152 to R155 at a latch instant: the compositing order that is latched. -/
def State.project (s : State) (order : List PlyRef) (m : Nat) (f : Form) (window frameNo : Nat) : State × List PlyRef :=
  if f = .flat ∨ f = .full then
    let limit := (window - s.fld Reg.RAY_BUDGET_CFG 0 16) * 1000
    let raw := s.projected order m f
    let r := if s.bit Reg.RAY_BUDGET_CFG 16 then s.shedLoop m f limit order.length order [] else (order, [])
    let total := s.projected r.1 m f
    let excess := s.projOver total limit
    let sat (x : Nat) : Nat := min x 0xFFFFFFFF
    let s := ((s.setNat Reg.RAY_BUDGET_RAW (sat (s.projNs raw))).setNat Reg.RAY_BUDGET (sat (s.projNs total))).setNat Reg.RAY_BUDGET_WIN (sat limit)
    let s := s.setPair Reg.RAY_SHED_LO Reg.RAY_SHED_HI (r.2.flatMap (·.members))
    let s := s.each r.2 fun s p => s.raise Ev.RAY_SHED (pack6 p.id p.desc.shed 1 0xFFFF 0xFFFF (frameNo % 2 ^ 16))
    let s := s.setBit Reg.RAY_STAT 2 excess
    (if excess then s.raise Ev.RAY_OVERBUDGET [s.nat Reg.RAY_BUDGET, s.nat Reg.RAY_BUDGET_WIN, frameNo % 2 ^ 16] else s, r.1)
  else
    let s := ((s.setNat Reg.RAY_BUDGET_RAW 0).setNat Reg.RAY_BUDGET 0).setNat Reg.RAY_BUDGET_WIN 0
    ((s.setPair Reg.RAY_SHED_LO Reg.RAY_SHED_HI []).setBit Reg.RAY_STAT 2 false, [])

/-- The status of the plies as latched for frame `frameNo`, composited in `order` (Table 5-8). -/
def State.showPlies (s : State) (order : List PlyRef) (frameNo : Nat) : State :=
  let on := (List.range 64).filter fun n => (s.desc n).active
  let flat := (order.filter (·.flat)).flatMap (·.members)
  let s := s.each (List.range 64) fun s n => (s.setBit (Reg.PLY_DESC_STAT n) 1 (on.contains n)).setBit (Reg.PLY_DESC_STAT n) 2 (flat.contains n)
  let s := (s.setFld Reg.PLY_STAT 0 6 on.length).setFld Reg.PLY_STAT 16 16 frameNo
  s.setBit Reg.PLY_VENUE_STAT 0 (order.any (·.venue))

/-! ## Host writes of descriptors and fences -/

/-- A write of a descriptor word by any path that R110 covers. -/
def State.descWrite (s : State) (req : Requester) (n i : Nat) (w : Word) : State :=
  s.guarded req (descAddr n i) 4 w fun s w => (s.store' req (descAddr n i) w).refreshPending

/-- PLY_DESC_WRITE (R110). -/
def execPlyDescWrite (t : Nat) (req : Requester) (ply : Fin 64) (word : Fin 16) (data : Word) (s : State) : Res :=
  .next ((s.advance t).descWrite req ply word data)

/-- A fence takes a value from a source of rank 0 to 3 (DMA channels), 4 (yarn) or 5 (register write): of the updates of one
cycle the one of highest rank stands (R111). -/
def State.setFence (s : State) (n rank : Nat) (w : Word) : State :=
  if s.frame.fenceLast.any fun (x : Nat × Nat × Nat) => x.1 == n && x.2.1 == s.now && rank < x.2.2 then s
  else
    ({ s with frame := { s.frame with fenceLast := s.frame.fenceLast.filter (fun (x : Nat × Nat × Nat) => x.1 != n) ++ [(n, s.now, rank)] } }).setReg
      (Reg.PLY_FENCE n) w

/-- PLY_FENCE_WRITE (R111). -/
def execPlyFenceWrite (t : Nat) (fence : Fin 64) (data : Word) (s : State) : Res :=
  .next ((s.advance t).guarded .host (Reg.PLY_FENCE fence) 4 data fun s w => s.setFence fence 5 w)

end Sys2Proof.Machine
end

