-- ==== Sys2Proof/Machine/Needle.lean ====
section
/-! DEFINITION.  The Needle 2D engine and the composer (chapter 14): the captured command
and its checks (R293 to R301), conversion to the bit (R295 to R298), issue, scoreboard and
frog (R302 to R304), failure (R306), and flattening (R307 to R309). -/

namespace Sys2Proof.Machine

/-! ## Surfaces and rectangles -/

/-- A surface from its registers (R294, R295): the flat format 0xA is held as layout 1 with a flag. -/
def surfaceOf (base size fmt pitch : Nat) : Desc × Bool :=
  let f := Word.ofNat fmt
  let d := Desc.ofWords fun _ => 0
  ({ d with base := base, layout := if f.field 0 4 = 0xA then 1 else f.field 0 4, aplane := f.field 4 2, container := f.field 6 2
            transfer := f.field 8 2, narrow := f.bit 10, premul := f.bit 15, w := size % 2 ^ 16, h := size / 2 ^ 16, pitch := pitch },
   f.field 0 4 == 0xA)

/-- The command that the NEEDLE registers describe (R293, R299). -/
def State.captured (s : State) : NeedleCmd :=
  let c := s.reg Reg.NEEDLE_CMD
  let src := surfaceOf (s.nat Reg.NEEDLE_SRC_BASE_LO + s.fld Reg.NEEDLE_SRC_BASE_HI 0 3 * 2 ^ 32) (s.nat Reg.NEEDLE_SRC_SIZE)
    (s.nat Reg.NEEDLE_SRC_FMT) (s.fld Reg.NEEDLE_SRC_PITCH 0 21)
  let dst := surfaceOf (s.nat Reg.NEEDLE_DST_BASE_LO + s.fld Reg.NEEDLE_DST_BASE_HI 0 3 * 2 ^ 32) (s.nat Reg.NEEDLE_DST_SIZE)
    (s.nat Reg.NEEDLE_DST_FMT) (s.fld Reg.NEEDLE_DST_PITCH 0 21)
  let xy (a : Nat) : Nat × Nat := (s.fld a 0 16, s.fld a 16 16)
  { op := c.field 0 2, frog := c.bit 2, notify := c.bit 3, reduce := c.field 4 2, dead := c.field 16 10
    seq := s.fld Reg.NEEDLE_SEQ 0 16, src := src.1, srcFlat := src.2, dst := dst.1, dstFlat := dst.2
    sx := (xy Reg.NEEDLE_SRC_XY).1, sy := (xy Reg.NEEDLE_SRC_XY).2, w := (xy Reg.NEEDLE_SRC_WH).1, h := (xy Reg.NEEDLE_SRC_WH).2
    dx := (xy Reg.NEEDLE_DST_XY).1, dy := (xy Reg.NEEDLE_DST_XY).2
    fill := s.nat Reg.NEEDLE_FILL_LO + s.nat Reg.NEEDLE_FILL_HI * 2 ^ 32
    clip := if c.field 8 4 = 0 then none
      else some ((bitsOf 4 (c.field 8 4)).map fun k =>
        let a := xy (Reg.NEEDLE_CLIP_A k)
        let b := xy (Reg.NEEDLE_CLIP_B k)
        (a.1, a.2, b.1, b.2)) }

/-- Size of the destination rectangle (R294). -/
def NeedleCmd.dw (c : NeedleCmd) : Nat := ceilDiv c.w (2 ^ c.reduce)
def NeedleCmd.dh (c : NeedleCmd) : Nat := ceilDiv c.h (2 ^ c.reduce)

/-- Bytes of each plane that a rectangle's rows occupy, as (address, length) segments (R294). -/
def rectSegments (d : Desc) (x y w h : Nat) : List (Nat × Nat) :=
  let l := d.bytesPerTexel
  let first := (List.range h).map fun r => (d.base + (y + r) * d.pitch + x * l, w * l)
  if !d.isYcc then first
  else
    let c := d.chroma
    let cx := if d.halfX then x / 2 else x
    let cw := if d.halfX then w / 2 else w
    let cy := if d.halfY then y / 2 else y
    let ch := if d.halfY then h / 2 else h
    let chroma := (List.range ch).map fun r => (c.1 + (cy + r) * c.2.1 + cx * 2 * l, cw * 2 * l)
    let a := d.alphaPlane
    let alpha := if d.aplane = 0 then [] else (List.range h).map fun r => (a.1 + (y + r) * a.2.1 + x * d.aplane, w * d.aplane)
    first ++ chroma ++ alpha

/-- Source and destination extents. -/
def NeedleCmd.srcExtent (c : NeedleCmd) : List (Nat × Nat) := if c.op = 0 then [] else rectSegments c.src c.sx c.sy c.w c.h
def NeedleCmd.dstExtent (c : NeedleCmd) : List (Nat × Nat) := rectSegments c.dst c.dx c.dy c.dw c.dh

/-- Two extents share a byte (R301). -/
def overlaps (a b : List (Nat × Nat)) : Bool := a.any fun x => b.any fun y => decide (x.1 < y.1 + y.2 ∧ y.1 < x.1 + x.2)

/-- 64 KiB blocks of an extent, in ascending order. -/
def extentBlocks (l : List (Nat × Nat)) : List Nat :=
  ((l.foldl (fun m x => (blocksOf x.1 x.2).foldl (fun m b => mapPut m b ()) m) ([] : List (Nat × Unit))).map (·.1))

/-! ## Checks (Table 14-3) -/

/-- Between 1 and 16,384. -/
def side (n : Nat) : Bool := within 1 16384 n

/-- R294 and the sizes of Table 14-3: NEEDLE_GEOMETRY does not fail. -/
def NeedleCmd.geometryOk (c : NeedleCmd) : Bool :=
  let evenX (d : Desc) (x : Nat) : Bool := !d.halfX || (x % 2 == 0 && c.w % 2 == 0)
  let evenY (d : Desc) (y : Nat) : Bool := !d.halfY || (y % 2 == 0 && c.h % 2 == 0)
  let dst := side c.dst.w && side c.dst.h && side c.w && side c.h && decide (c.dx + c.dw ≤ c.dst.w ∧ c.dy + c.dh ≤ c.dst.h) &&
    evenX c.dst c.dx && evenY c.dst c.dy
  let src := side c.src.w && side c.src.h && decide (c.sx + c.w ≤ c.src.w ∧ c.sy + c.h ≤ c.src.h) && evenX c.src c.sx && evenY c.src c.sy
  dst && (c.op == 0 || src)

/-- NEEDLE_RANGE does not fail. -/
def NeedleCmd.rangeOk (c : NeedleCmd) (usable venueBase : Nat) : Bool :=
  (c.srcExtent ++ c.dstExtent).all fun x => decide (x.1 + x.2 ≤ usable ∧ x.1 + x.2 ≤ venueBase)

/-- Kind of a format in Table 14-1: 0 RGBA8, 1 RGBA16F, 2 YCbCr, 3 mask, 4 flat. -/
def formatKind (d : Desc) (flat : Bool) : Nat :=
  if flat then 4 else if d.isYcc then 2 else if d.isMask then 3 else d.layout

/-- Conversion of Table 14-1 for a converting copy; 0 where the table has none. -/
def NeedleCmd.conversion (c : NeedleCmd) : Nat :=
  match formatKind c.src c.srcFlat, formatKind c.dst c.dstFlat with
  | 0, 1 => 1
  | 1, 0 => 2
  | 2, 0 => 3
  | 2, 1 => 3
  | 0, 3 => 4
  | 1, 3 => 4
  | 2, 3 => if c.src.aplane = 0 then 0 else 4
  | 0, 4 => 5
  | 1, 4 => 5
  | 2, 4 => 5
  | 3, 3 => if c.src.layout = c.dst.layout then 0 else 6
  | _, _ => 0

/-- NEEDLE_FORMAT does not fail (R295 to R298). -/
def NeedleCmd.formatOk (c : NeedleCmd) : Bool :=
  let same := c.srcFlat == c.dstFlat && c.src.layout == c.dst.layout && c.src.aplane == c.dst.aplane
  match c.op with
  | 0 => !c.dst.isYcc && c.reduce == 0
  | 1 => same && (c.reduce == 0 || !c.dst.isYcc)
  | _ =>
    let k := c.conversion
    k != 0 && (c.reduce == 0 || !c.dst.isYcc) &&
      (k == 5 || (c.src.container == c.dst.container && c.src.transfer == c.dst.transfer && !c.dst.narrow))

/-- Bytes per pixel in each plane: first, chroma, alpha. -/
def planeBytes (d : Desc) : Nat × Nat × Nat := (d.bytesPerTexel, if d.isYcc then 2 * d.bytesPerTexel else 0, if d.isYcc then d.aplane else 0)

/-- The same surface: BASE, PITCH, FMT and size (R300). -/
def NeedleCmd.sameSurface (c : NeedleCmd) : Bool := c.src == c.dst && c.srcFlat == c.dstFlat

/-- First failing check of Table 14-3; 0 when the command is accepted. -/
def NeedleCmd.check (c : NeedleCmd) (full : Bool) (usable venueBase : Nat) : Nat :=
  if full then 2
  else if !c.geometryOk then 3
  else if !c.rangeOk usable venueBase then 4
  else if !c.formatOk then 5
  else if overlaps c.srcExtent c.dstExtent then
    (if planeBytes c.src != planeBytes c.dst || c.reduce != 0 then 6 else if !c.sameSurface then 7 else 0)
  else 0

/-! ## Pixels -/

/-- Round to nearest, ties to even. -/
def rne (x : Rat) : Nat :=
  let f := x.floor.toNat
  let r := x - (f : Rat)
  if r < 1 / 2 then f else if 1 / 2 < r then f + 1 else if f % 2 = 0 then f else f + 1

/-- Least k up to 14 with x × 2^k ≥ 1, else 15. -/
def halfShift (x : Rat) : Nat → Nat → Nat
  | 0, k => k
  | f + 1, k => if 1 ≤ x * (2 ^ k : Nat) then k else halfShift x f (k + 1)

/-- binary16 of a number from 0 to 1, ties to even (R296). -/
def encodeHalf (x : Rat) : Nat :=
  let k := halfShift x 15 0
  if k = 15 then rne (x * (2 ^ 24 : Nat)) else (15 - k) * 1024 + rne (x * (2 ^ (10 + k) : Nat)) - 1024

/-- A pixel between decoding and encoding: R, G, B, A. -/
abbrev Pixel := List Rat

/-- Source pixel (i, j) as the conversion reads it (R296): components from 0 to 1, or working-space colour for a flat destination. -/
def sourcePixel (rd : Nat → Byte) (c : NeedleCmd) (refWhite i j : Nat) : Pixel :=
  let flat (t : Texel) : Pixel := [(t.r : Rat) / 16384, (t.g : Rat) / 16384, (t.b : Rat) / 16384, (t.a : Rat) / 32768]
  if c.srcFlat then flat (flatTexel rd (c.src.base + j * c.src.pitch + 8 * i))
  else if c.dstFlat then flat (decodeTexel rd c.src refWhite i j)
  else texelRgb rd c.src i j ++ [texelAlpha rd c.src i j]

/-- Source pixels that a destination pixel averages (R297); one beyond the rectangle is transparent. -/
def meanPixel (rd : Nat → Byte) (c : NeedleCmd) (refWhite x y : Nat) : Pixel :=
  let n := 2 ^ c.reduce
  let px := (List.range (n * n)).map fun k =>
    let i := x * n + k % n
    let j := y * n + k / n
    if i < c.w ∧ j < c.h then sourcePixel rd c refWhite (c.sx + i) (c.sy + j) else [0, 0, 0, 0]
  (List.range 4).map fun k => (px.foldl (fun a p => a + p.getD k 0) 0) / ((n * n : Nat) : Rat)

/-- Bytes of a pixel in the destination's first plane (R296). -/
def encodePixel (c : NeedleCmd) (p : Pixel) : List Byte :=
  let v (k : Nat) : Rat := p.getD k 0
  let scaled (k m : Nat) : Nat := (rnd 0 (v k * (m : Rat))).toNat
  if c.dstFlat then
    (List.range 3).flatMap (fun k => leBytes 2 (clampInt 0 65535 (rnd 14 (v k))).toNat) ++ leBytes 2 (rnd 15 (v 3)).toNat
  else match c.dst.layout with
    | 0 => (List.range 4).flatMap fun k => leBytes 1 (scaled k 255)
    | 1 => (List.range 4).flatMap fun k => leBytes 2 (encodeHalf (v k))
    | 8 => leBytes 1 (scaled 3 255)
    | _ => leBytes 2 (scaled 3 1023)

/-- A destination pixel is written (R299). -/
def NeedleCmd.writes (c : NeedleCmd) (x y : Nat) : Bool :=
  match c.clip with
  | none => true
  | some l => l.any fun r => decide (r.1 ≤ x ∧ x < r.2.2.1 ∧ r.2.1 ≤ y ∧ y < r.2.2.2)

/-- Bytes that a pixel of a plain copy takes in each plane, as (destination, source, length): a chroma sample goes with the even
pixel it is co-sited with. -/
def copySegments (c : NeedleCmd) (x y : Nat) : List (Nat × Nat × Nat) :=
  let l := c.dst.bytesPerTexel
  let at' (d : Desc) (px py : Nat) : Nat := d.base + py * d.pitch + px * l
  let first := [(at' c.dst (c.dx + x) (c.dy + y), at' c.src (c.sx + x) (c.sy + y), l)]
  if !c.dst.isYcc then first
  else
    let hx := if c.dst.halfX then 2 else 1
    let hy := if c.dst.halfY then 2 else 1
    let ch (d : Desc) (px py : Nat) : Nat := d.chroma.1 + py / hy * d.chroma.2.1 + px / hx * 2 * l
    let al (d : Desc) (px py : Nat) : Nat := d.alphaPlane.1 + py * d.alphaPlane.2.1 + px * d.aplane
    let chroma := if x % hx = 0 ∧ y % hy = 0 then [(ch c.dst (c.dx + x) (c.dy + y), ch c.src (c.sx + x) (c.sy + y), 2 * l)] else []
    let alpha := if c.dst.aplane = 0 then [] else [(al c.dst (c.dx + x) (c.dy + y), al c.src (c.sx + x) (c.sy + y), c.dst.aplane)]
    first ++ chroma ++ alpha

/-- What writing destination pixel (x, y) of the rectangle stores: address and bytes, read from memory before the command (R300). -/
def pixelWrites (rd : Nat → Byte) (c : NeedleCmd) (refWhite x y : Nat) : List (Nat × List Byte) :=
  let a := c.dst.base + (c.dy + y) * c.dst.pitch + (c.dx + x) * c.dst.bytesPerTexel
  if !c.writes (c.dx + x) (c.dy + y) then []
  else if c.op = 0 then [(a, leBytes c.dst.bytesPerTexel c.fill)]
  else if c.op = 1 ∧ c.reduce = 0 then
    (copySegments c x y).map fun s => (s.1, (List.range s.2.2).map fun i => rd (s.2.1 + i))
  else [(a, encodePixel c (meanPixel rd c refWhite x y))]

/-- Rows of the destination rectangle in the order they are written: bottom-up for an overlapping copy that moves down (R300). -/
def NeedleCmd.rows (c : NeedleCmd) : List Nat :=
  let up := c.op != 0 && decide (c.sy < c.dy) && overlaps c.srcExtent c.dstExtent
  if up then (List.range c.dh).reverse else List.range c.dh

/-- All stores of some rows, in order. -/
def rowWrites (rd : Nat → Byte) (c : NeedleCmd) (refWhite : Nat) (rows : List Nat) : List (Nat × List Byte) :=
  rows.flatMap fun y => (List.range c.dw).flatMap fun x => pixelWrites rd c refWhite x y

/-! ## Queue and scoreboard -/

/-- NEEDLE_STAT. -/
def State.refreshNeedle (s : State) : State :=
  let used := (s.needle.runs.map fun r => if r.cmd.op = 0 then 1 else 2).sum
  s.setNat Reg.NEEDLE_STAT (min 64 s.needle.queue.length + s.needle.runs.length * 2 ^ 8 + used * 2 ^ 16
    + bitOf (!s.frame.flattening.isEmpty) * 2 ^ 21)

/-- A run completes in this very cycle (R303, R304). -/
def State.completesNow (s : State) (slot : Nat) : Bool := s.sameCycle fun i => match i with
  | .needleCmdComplete _ r f _ => r == slot && f.isNone
  | _ => false

/-- `c` conflicts with a command in flight (R303). -/
def conflicts (c r : NeedleCmd) : Bool :=
  overlaps c.dstExtent r.dstExtent || overlaps c.srcExtent r.dstExtent || overlaps c.dstExtent r.srcExtent

/-- A frog command at the head of the queue cancels what overlaps its destination (R304). -/
def State.frogHead (s : State) : State :=
  match s.needle.queue with
  | c :: _ =>
    if !c.frog then s
    else
      let mark (r : NeedleRun) : NeedleRun :=
        if r.frogBy.isNone && overlaps c.dstExtent r.cmd.dstExtent && !s.completesNow r.slot then { r with frogBy := some c.seq } else r
      { s with needle := { s.needle with runs := s.needle.runs.map mark } }
  | [] => s

/-- Commands in flight that still hold scoreboard entries: one that completes in this cycle does not (R303). -/
def State.holding (s : State) : List NeedleRun := s.needle.runs.filter fun r => !s.completesNow r.slot

/-- A run slot that is free: none of the eight when all are held. -/
def State.freeSlot (s : State) : Option Nat := (List.range 8).find? fun k => !s.needle.runs.any fun r => r.slot == k

/-- The head of the queue issues (R302, R303). -/
def State.issueHead (s : State) : State :=
  match s.needle.queue, s.freeSlot with
  | c :: q, some k =>
    if s.holding.any (fun (r : NeedleRun) => conflicts c r.cmd) then s
    else { s with needle := { s.needle with queue := q, runs := s.needle.runs ++ [{ slot := k, cmd := c }] } }
  | _, _ => s

/-- The head leaves the queue in this cycle: it is looked at, its run slot is or becomes free, and no conflict stays (R17, R301). -/
def State.headLeaves (s : State) : Bool :=
  (s.needle.issueAt == some s.now || s.sameCycle fun i => match i with
    | .needleCmdIssue _ => true
    | _ => false) &&
  decide (s.holding.length < 8) && match s.needle.queue with
    | c :: _ => !s.holding.any fun (r : NeedleRun) => conflicts c r.cmd
    | [] => false

/-- NEEDLE_RESULT. -/
def State.needleResult (s : State) (status reason seq : Nat) : State :=
  s.setNat Reg.NEEDLE_RESULT (status + reason * 2 ^ 4 + seq * 2 ^ 16)

/-- NEEDLE_SUBMIT (R293, R301): the command is captured, checked and queued, or rejected. -/
def execNeedleSubmit (t : Nat) (req : Requester) (s : State) : Res :=
  .next ((s.advance t).control req Reg.NEEDLE_SUBMIT 1 fun s =>
    let c := s.captured
    -- a slot that frees in this cycle counts as free
    let r := c.check (decide (64 ≤ s.needle.queue.length) && !s.headLeaves) s.usable s.venueBase
    if r = 0 then
      (({ s.wakeHbm.touchHbm with needle := { s.needle with queue := s.needle.queue ++ [c] } }).frogHead).refreshNeedle
    else (s.needleResult 4 r c.seq).raise Ev.NEEDLE_REJECTED [c.seq, r, Reg.NEEDLE_SUBMIT])

/-- NEEDLE_CMD_ISSUE (R302, R303): the head issues when a run slot is free and nothing in flight conflicts with it. -/
def execNeedleCmdIssue (t : Nat) (s : State) : Res :=
  let s := s.advance t
  let s : State := { s with needle := { s.needle with issueAt := some s.now } }
  .next ((s.frogHead.issueHead).frogHead).refreshNeedle

/-- Rows of the first `n` 64-line stripes. -/
def NeedleCmd.stripeRows (c : NeedleCmd) (n : Nat) : List Nat := c.rows.take (64 * n)

/-- Reference white in effect. -/
def State.refWhite (s : State) : Nat := s.fld Reg.RAY_COLOUR 16 16

/-- Store some rows of a command; the bytes carry the host-written tag (R306). Bytes written. -/
def State.needleWrite (s : State) (c : NeedleCmd) (rows : List Nat) : State × Nat :=
  let w := rowWrites s.byte c s.refWhite rows
  (s.each w fun s x => s.hbmWrite x.1 x.2 3, (w.map fun x => x.2.length).sum)

/-- A command leaves the scoreboard; where the head was looked at in this cycle, it issues now if it only waited for this (R303). -/
def State.endRun (s : State) (slot : Nat) : State :=
  let s : State := { s with needle := { s.needle with runs := s.needle.runs.filter fun r => r.slot != slot } }
  let s := if s.needle.issueAt = some s.now then s.frogHead.issueHead else s
  s.frogHead.refreshNeedle

def State.needleRun (s : State) (slot : Nat) : Option NeedleRun := s.needle.runs.find? fun r => r.slot == slot

/-- A cancelled command ends with `stripes` complete (R304). -/
def State.frogEnd (s : State) (run : Nat) (c : NeedleCmd) (by_ stripes : Nat) : State :=
  let s := (s.needleWrite c (c.stripeRows stripes)).1.endRun run
  let s := (s.needleResult 2 0 c.seq).incFld Reg.NEEDLE_COUNT 16 16 1
  s.raise Ev.NEEDLE_FROGGED [c.seq, by_, min stripes (ceilDiv c.dh 64)]

/-- NEEDLE_FROG_STOP (R304): a cancelled command stops at a stripe boundary, `stripes` of them complete. -/
def execNeedleFrogStop (t run stripes : Nat) (s : State) : Res :=
  let s := s.advance t
  .next (match s.needleRun run with
    | some ⟨_, c, some by_⟩ => s.frogEnd run c by_ stripes
    | _ => s)

/-- A command stops at a failed read or a fabric error (R306): `stripes` are written and the rest is lost. -/
def State.needleFail (s : State) (run : Nat) (c : NeedleCmd) (addr stripes : Nat) : State :=
  let s := (s.needleWrite c (c.stripeRows stripes)).1
  let left := (c.rows.drop (64 * stripes)).flatMap fun y => rectSegments c.dst c.dx (c.dy + y) c.dw 1
  let chroma := if c.dst.halfY then rectSegments c.dst c.dx c.dy c.dw c.dh else []
  let bs := extentBlocks (if c.rows.length ≤ 64 * stripes then [] else left ++ chroma.filter fun x => decide (c.dst.chroma.1 ≤ x.1))
  let s := ((s.markLost bs).endRun run).needleResult 3 0 c.seq
  s.raise Ev.NEEDLE_FAILED [c.seq, addr / 8, bs.headD 0]

/-- The source bytes that destination pixel (x, y) of the rectangle needs, chroma samples whole. -/
def NeedleCmd.pixelReads (c : NeedleCmd) (x y : Nat) : List (Nat × Nat) :=
  let n := 2 ^ c.reduce
  let first (half : Bool) (v : Nat) : Nat := if half then v / 2 * 2 else v
  let size (half : Bool) (v : Nat) : Nat := if half then (v + 1) / 2 * 2 else v
  let x0 := first c.src.halfX (c.sx + x * n)
  let y0 := first c.src.halfY (c.sy + y * n)
  rectSegments c.src x0 y0 (size c.src.halfX (min n (c.w - x * n))) (size c.src.halfY (min n (c.h - y * n)))

/-- The source that a command reads: source pixels that feed only unwritten pixels are not read (R299). -/
def NeedleCmd.readExtent (c : NeedleCmd) : List (Nat × Nat) :=
  if c.clip.isNone ∨ c.op = 0 then c.srcExtent
  else (List.range c.dh).flatMap fun y =>
    ((List.range c.dw).filter fun x => c.writes (c.dx + x) (c.dy + y)).flatMap fun x => c.pixelReads x y

/-- First lost block that a command's source reaches (R306). -/
def State.lostSource (s : State) (c : NeedleCmd) : Option Nat := (extentBlocks c.readExtent).find? s.isLost

/-- A command is complete: every row is written (R302, R306). -/
def State.needleDone (s : State) (run : Nat) (c : NeedleCmd) : State :=
  let r := s.needleWrite c c.rows
  let s := ((r.1.endRun run).needleResult 1 0 c.seq).incFld Reg.NEEDLE_COUNT 0 16 1
  if c.notify then s.raise Ev.NEEDLE_CMD_DONE [c.seq, r.2] else s

/-- NEEDLE_CMD_COMPLETE (R302, R306): a command ends, or fails at an HBM address with `stripes` written. -/
def execNeedleCmdComplete (t run : Nat) (fail : Option Nat) (stripes : Nat) (s : State) : Res :=
  let s := s.advance t
  .next (match s.needleRun run with
    | none => s
    | some r => match fail with
      | some a => s.needleFail run r.cmd a stripes
      | none => match s.lostSource r.cmd with
        | some b => s.needleFail run r.cmd (b * 65536) stripes
        | none => match r.frogBy with
          -- cancelled in its last stripe
          | some by_ => s.frogEnd run r.cmd by_ (ceilDiv r.cmd.dh 64)
          | none => s.needleDone run r.cmd)

/-! ## Flattening -/

/-- Flat texel at a panel position: the members front to back, without termination (R308). -/
def flatSample (rd : Nat → Byte) (refWhite : Nat) (m : List (Nat × Desc)) (x y : Rat) : Texel :=
  let acc := m.foldl (fun acc p =>
    let ab := samplePosAt p.2 x y
    if touches p.2 ab.1 ab.2 then acc.step (sampleTexel (decodeTexel rd p.2 refWhite) p.2 ab.1 ab.2) 40000 else acc) Blend.start
  let c (v : Nat) : Nat := satTo 65535 ((v + 8) / 16)
  ⟨c acc.r, c acc.g, c acc.b, (acc.a + 8) / 16⟩

/-- Bytes of a flat texel (R129). -/
def Texel.bytes (t : Texel) : List Byte := leBytes 2 t.r ++ leBytes 2 t.g ++ leBytes 2 t.b ++ leBytes 2 t.a

/-- HBM ranges that a flat texel reads of the members: the texels of each one's 2 × 2 samples (R130, R308). -/
def flatReads (m : List (Nat × Desc)) (x y : Rat) : List (Nat × Nat) :=
  m.flatMap fun p =>
    let ab := samplePosAt p.2 x y
    if touches p.2 ab.1 ab.2 then (sampledTexels p.2 ab.1 ab.2).flatMap fun t => texelReads p.2 t.1 t.2 else []

/-- Panel position of a flat texel along one axis: offset, scale, index (R308). -/
def flatAxis (off : Int) (scale i : Nat) : Rat := (off : Rat) / 256 + ((2 * i + 1 : Nat) : Rat) / 2 * 65536 / (scale : Rat)

/-- Bytes of flat tile `k` of a flat ply, X tiles across: 256 rows of 256 texels, transparent beyond the extent (R288). -/
def flatTile (rd : Nat → Byte) (refWhite : Nat) (m : List (Nat × Desc)) (d : Desc) (across k : Nat) : List Byte :=
  (List.range 65536).flatMap fun n =>
    let i := k % across * 256 + n % 256
    let j := k / across * 256 + n / 256
    if i < d.w ∧ j < d.h then
      (flatSample rd refWhite m (flatAxis d.offX d.scaleX i) (flatAxis d.offY d.scaleY j)).bytes
    else List.replicate 8 0

/-- Tiles across and down. -/
def flatTiles (d : Desc) : Nat × Nat := (ceilDiv d.w 256, ceilDiv d.h 256)

/-- A region: the index, then the tiles in row-major order (R288). -/
def flatRegion (tiles : List (List Byte)) : List Byte :=
  let index := (tiles.foldl (fun (x : List Byte × Nat) t => (x.1 ++ leBytes 4 x.2, x.2 + t.length)) ([], 4 * tiles.length)).1
  index ++ tiles.flatten

/-- The group whose flattening the composer works on: the lowest (R309). -/
def State.composing (s : State) : Option Nat := (List.range 16).find? fun g => s.frame.flattening.contains g

/-- A texel that flattening reads lies in a lost block (R267). -/
def State.flatReadsLost (s : State) (m : List (Nat × Desc)) (d : Desc) : Bool :=
  (List.range d.h).any fun j => (List.range d.w).any fun i =>
    (flatReads m (flatAxis d.offX d.scaleX i) (flatAxis d.offY d.scaleY j)).any fun x => s.lostIn x.1 x.2

/-- REFLATTEN_DONE (R113, R307 to R309, R407): in throttle step 2 flattening is suspended; else the composer has flattened a group; it is used from a later boundary, or left when it does not fit. -/
def execReflattenDone (t : Nat) (group : Fin 16) (s : State) : Res :=
  let s := s.advance t
  .next (if s.composing ≠ some group.val ∨ s.step2 then s
    else
      let g := group.val
      let m := groupMembers s.activeOrder g
      let d := flatDesc m (s.groupScale g) (s.groupBase g)
      let n := flatTiles d
      let tiles := (List.range (n.1 * n.2)).map fun k => (hankEncode [] (flatTile s.byte s.refWhite m d n.1 k) false true).1
      let region := flatRegion tiles
      let fits := decide (region.length ≤ s.groupSize g ∧ s.groupBase g + region.length ≤ s.venueBase)
      let s := { s with frame := { s.frame with flattening := s.frame.flattening.filter (· != g), flatLost := s.frame.flatLost.filter (· != g) } }
      -- a read of a lost block ends the job: its region is lost, and flattening starts over (Table 1-4, R267, R268)
      if s.flatReadsLost m d then (s.failRange (s.groupBase g) (s.groupSize g) 2).refreshNeedle
      else if fits then
        let s := s.hbmWrite (s.groupBase g) region 2
        let s := s.each (blocksOf (s.groupBase g) region.length) State.clearLost
        let s := s.countBytes 4 (tiles.map List.length).sum
        ({ s with frame := { s.frame with flat := s.frame.flat ++ [g] } }).refreshNeedle
      else ({ s with frame := { s.frame with flatNoFit := s.frame.flatNoFit ++ [g] } }).refreshNeedle)

end Sys2Proof.Machine
end

