-- ==== Sys2Proof/Machine/Commit.lean ====
section
/-! DEFINITION.  SCAN_COMMIT.GO (R171, R172, R389, R473): which boundary a commit selects. -/

namespace Sys2Proof.Machine

/-- GO is recognised in the cycle of a latch instant that has passed (Table 8-2). -/
def State.inLatchCycle (s : State) : Bool := s.frame.latched && s.frame.latchAt == s.now && s.frame.boundary

/-- GO is pending: its registers, its deferral (R171). -/
def State.pendGo (s : State) (deferred : Bool) (early : Nat) : State :=
  let s := { s with frame := { s.frame with go := some (s.now, none) } }
  let s := ((s.setBit Reg.SCAN_COMMIT 0 true).setBit Reg.SCAN_COMMIT 1 deferred).aim
  if deferred then
    (s.incFld Reg.SCAN_COUNT 0 16 1).raise Ev.SCAN_COMMIT_DEFERRED [early, s.fld Reg.SCAN_COMMIT 16 16]
  else s

/-- Count of the frame that a GO of this cycle makes its boundary latch. -/
def State.goFrame (s : State) : Nat := (s.aimed (s.now, none)).getD 0

/-- A GO of this member: kept, or pending for the first boundary that the guard allows, and forwarded by an acting master (R171, R389). -/
def State.commitGo (s : State) : State :=
  if s.frame.go.isSome then s
  else if !s.commitCadence then
    (({ s with frame := { s.frame with go := some (s.now, none) } }).setBit Reg.SCAN_COMMIT 0 true).setBit Reg.SCAN_COMMIT 1 false |>.setFld
      Reg.SCAN_COMMIT 16 16 0
  else match s.nextLatch with
    | none => s
    | some (l, _) =>
      let inside := decide (l < s.now + tGuard)
      let frame := s.goFrame
      let s := s.pendGo (inside || s.inLatchCycle) (if inside then l - s.now else 0)
      if s.chain.chained && s.isActing then s.sendAll 2 [Word.ofNat frame] else s

/-- SCAN_COMMIT_GO (R171 to R173, R473): GO = 1 is written. -/
def execScanCommitGo (t : Nat) (req : Requester) (s : State) : Res :=
  let s := s.advance t
  .next (match writeCause s req Reg.SCAN_COMMIT 4 1 with
    | some c => s.refuse req Reg.SCAN_COMMIT 1 c
    | none => s.commitGo)

end Sys2Proof.Machine
end

