-- ==== Sys2Proof/Machine/Store.lean ====
section
/-! DEFINITION.  The skein store (R311 to R325): opening and closing a skein, playback and
the preparation of frames, the read-ahead ring, NVMe completions and failures, and drive
transfers. -/

namespace Sys2Proof.Machine

/-! ## Fragments -/

/-- Insert a part by its offset. -/
def insertPart (x : Nat × List Byte) : List (Nat × List Byte) → List (Nat × List Byte)
  | [] => [x]
  | y :: ys => if x.1 < y.1 then x :: y :: ys else y :: insertPart x ys

/-- Bytes that parts in ascending order give without a gap from `n` on, newest first after those in `acc`. -/
def joinParts : List (Nat × List Byte) → Nat → List Byte → List Byte
  | [], _, acc => acc
  | (o, bs) :: ps, n, acc =>
    if n < o then acc
    else
      let new := bs.drop (n - o)
      joinParts ps (n + new.length) (new.reverse ++ acc)

/-- The bytes of `total` that parts give from offset 0 without a gap; none while one is missing. -/
def assembled (parts : List (Nat × List Byte)) (total : Nat) : Option (List Byte) :=
  let bs := (joinParts (parts.foldl (fun l p => insertPart p l) []) 0 []).reverse
  if total ≤ bs.length then some (bs.take total) else none

/-! ## Structures on the drive (R314) -/

/-- ceil(2 / P) frames (R315). -/
def twoSeconds (rate : Nat) : Nat := ceilDiv (2 * (ratePeriod rate).2) (ratePeriod rate).1

/-- The entries of a frame index. -/
def parseIndex (bs : List Byte) (n : Nat) : List IndexEntry :=
  ((chunks 16 bs).take n).map fun e =>
    { lba := leAt e 0 4, length := leAt e 4 4, rap := leAt e 8 1 % 2 == 1, crc := leAt e 12 4 }

/-- A ply entry of a record. -/
def parsePly (e : List Byte) : PlyEntry :=
  { desc := leAt e 0 1, new := leAt e 1 1 % 2 == 1, offset := leAt e 4 4, length := leAt e 8 4
    words := (List.range 16).map fun i => Word.ofNat (leAt e (0x10 + 4 * i) 4) }

/-- The ply entries of frame record `f`, when its header is right. -/
def parseRecord (bs : List Byte) (f : Nat) : Option (List PlyEntry) :=
  if leAt bs 0 4 = 0x54484652 ∧ leAt bs 4 4 = f ∧ leAt bs 8 1 ≤ 64 then
    some (((List.range (leAt bs 8 1)).map fun i => parsePly ((bs.drop (0x10 + 96 * i)).take 96)).filter fun p => p.desc < 64)
  else none

/-- Volume header (Table 15-2). -/
def volumeOk (bs : List Byte) (mirror : Bool) (drive : Nat) : Bool :=
  leAt bs 0 4 == 0x5448564C && leAt bs 4 2 == 1 && leAt bs 6 1 ≤ 1 && (mirror || leAt bs 6 1 == drive) && leAt bs 8 4 == crc32c (bs.take 8)

/-- The skein entry of a table block. -/
def skeinEntry (bs : List Byte) (idx : Nat) : List Byte := (bs.drop (64 * (idx % 1024 % 64))).take 64

/-- Entry present, CRC good, extent within the first 2^33 LBAs (R311). -/
def entryOk (e : List Byte) : Bool :=
  leAt e 0 4 != 0 && leAt e 0x3C 4 == crc32c (e.take 0x3C) && leAt e 8 8 + leAt e 0x10 8 ≤ 2 ^ 33

/-- Skein header. -/
def headerOk (h : List Byte) : Bool :=
  leAt h 0 4 == 0x5448534B && leAt h 4 2 == 1 && leAt h 6 1 ≤ 0xC && leAt h 8 4 != 0 && leAt h 0xFFC 4 == crc32c (h.take 0xFFC)

/-- Longest run of entries without a random-access point. -/
def longestGap (es : List IndexEntry) : Nat :=
  (es.foldl (fun (x : Nat × Nat) e => if e.rap then (x.1, 0) else (max x.1 (x.2 + 1), x.2 + 1)) (0, 0)).1

/-- Largest total length of `k` consecutive records. -/
def largestRun (es : List IndexEntry) (k : Nat) : Nat :=
  (List.range (es.length - k + 1)).foldl (fun m i => max m (((es.drop i).take k).map (·.length)).sum) 0

/-- The skein that an open has read. -/
def OpenRun.skeinOf (r : OpenRun) : Skein :=
  let e := skeinEntry (r.parts.getD 1 []) r.skein
  let h := r.parts.getD 2 []
  { index := r.skein, rate := leAt h 6 1, frames := leAt h 8 4, start := leAt e 8 8, lbas := leAt e 0x10 8, indexLba := leAt h 0xC 4
    extent := (List.range 64).map fun n => leAt h (0x10 + 4 * n) 4
    entries := parseIndex (r.parts.drop 3).flatten (leAt h 8 4) }

/-- MiB of the ring that the index takes (R315). -/
def Skein.indexMib (k : Skein) : Nat := ceilDiv (16 * k.frames) (2 ^ 20)

/-- The index is valid (R315 check 0x4). -/
def Skein.indexOk (k : Skein) : Bool :=
  k.entries.length == k.frames && (k.entries.headD ⟨0, 0, false, 0⟩).rap && longestGap k.entries < twoSeconds k.rate &&
  k.entries.all fun e => 16 ≤ e.length && e.lba + ceilDiv e.length 4096 ≤ k.lbas

/-- Areas do not meet. -/
def apart (a b : Nat × Nat) : Bool := a.1 == a.2 || b.1 == b.2 || a.2 ≤ b.1 || b.2 ≤ a.1

/-! ## Opening (R315) -/

/-- STORE_STAT.STATE. -/
def State.setStore (s : State) (v : Nat) : State := s.setFld Reg.STORE_STAT 0 2 v

/-- An operation of the store is refused; a cue that asked for it ends (R83, R318). -/
def State.storeRefuse (s : State) (op reason : Nat) (cue : Option Nat) : State :=
  let s := s.raise Ev.STORE_REFUSED [if cue.isSome then 0x10 else op, reason]
  match cue with
  | some i => s.completeCue i
  | none => s

/-- LBAs of the index that an open has read. -/
def OpenRun.indexRead (r : OpenRun) : Nat := ((r.parts.drop 3).map (·.length)).sum / 4096

/-- The next read of an open, of at most `most` LBAs: LBA and blocks; none when all structures are read, or one of them is wrong. -/
def OpenRun.next (r : OpenRun) (most : Nat) : Option (Nat × Nat) :=
  let n := r.parts.length
  if r.failed then none
  else if n = 0 then some (0, 1)
  else if n = 1 then some (1 + r.skein % 1024 / 64, 1)
  else
    let e := skeinEntry (r.parts.getD 1 []) r.skein
    if !entryOk e then none
    else if n = 2 then some (leAt e 8 8, 1)
    else
      let h := r.parts.getD 2 []
      let all := ceilDiv (16 * leAt h 8 4) 4096
      if !headerOk h ∨ all ≤ r.indexRead then none
      else some (leAt e 8 8 + leAt h 0xC 4 + r.indexRead, min most (all - r.indexRead))

/-- Volume of a skein index (R313). -/
def volumeOf (idx : Nat) : Nat := idx / 1024 % 2

/-- The next read of the open in progress goes out. -/
def State.openRead (s : State) : State :=
  match s.store.run with
  | none => s
  | some r => match r.next (s.lbaLimit (volumeOf r.skein)) with
    | none => s
    | some (lba, n) => s.readChunks (volumeOf r.skein) lba n 0 0 .open_ 1

/-- The skein's drive is enabled and up; with MIRROR = 1 one of the two is enough. -/
def State.volumeUp (s : State) (idx : Nat) : Bool :=
  if s.bit Reg.STORE_CFG 2 then s.driveUp 0 || s.driveUp 1 else s.driveUp (volumeOf idx)

/-- OPEN (R315): refused, or the structures are read. -/
def State.openSkein (s : State) (idx : Nat) (play cue : Option Nat) : State :=
  if !fullMode s.modeCode ∨ !s.ready ∨ s.skeinOpen ∨ s.store.run.isSome then s.storeRefuse 0 1 cue
  else if !s.volumeUp idx then s.storeRefuse 0 2 cue
  else
    let r : OpenRun := { skein := idx, play := play, cue := cue }
    (({ s with store := { s.store with run := some r } }).setStore 1).wakeHbm.openRead

/-- STORE_CTL_OPEN (R315). -/
def execStoreCtlOpen (t : Nat) (req : Requester) (s : State) : Res :=
  .next ((s.advance t).control req Reg.STORE_CTL 1 fun s => s.openSkein (s.fld Reg.STORE_PLAY 0 11) none none)

/-- First failing check of R315 on what was read; 0 when the skein opens. -/
def State.openReason (s : State) (r : OpenRun) : Nat :=
  let k := r.skeinOf
  let c := twoSeconds k.rate
  let ring := s.area Reg.STORE_RING
  let areas := [ring, s.area Reg.STORE_BUF, s.area Reg.STORE_YSTAGE]
  let maxRec : Nat := k.entries.foldl (fun m e => max m e.length) 0
  let ringNeed : Nat := k.indexMib * 2 ^ 20 + largestRun k.entries (2 * c + 1) + 2 * maxRec
  if r.parts.length < 2 ∨ !volumeOk (r.parts.getD 0 []) (s.bit Reg.STORE_CFG 2) (volumeOf r.skein) ∨
      !entryOk (skeinEntry (r.parts.getD 1 []) r.skein) then 3
  else if r.failed ∨ r.parts.length < 3 ∨ !headerOk (r.parts.getD 2 []) ∨ !k.indexOk then 4
  else if k.rate ≠ s.fld Reg.SCAN_TIMING 0 4 then 5
  else if s.fld Reg.STORE_BUF 16 15 * 2 ^ 20 < 2 * (k.extent.sum * 4096) then 6
  else if s.fld Reg.STORE_RING 16 15 * 2 ^ 20 < ringNeed then 7
  else if !(areas.all fun a => a.1 == a.2 || (a.2 ≤ s.usable && a.2 ≤ s.venueBase)) ∨
      !(apart ring (s.area Reg.STORE_BUF) && apart ring (s.area Reg.STORE_YSTAGE) && apart (s.area Reg.STORE_BUF) (s.area Reg.STORE_YSTAGE)) then 8
  else 0

/-! ## The ring (R321) -/

/-- LOOP of STORE_PLAY. -/
def State.loops' (s : State) : Bool := s.bit Reg.STORE_PLAY 11

/-- Skein frame at a position of a sequence; none past the end (R320). -/
def State.frameAtPos (s : State) (k : Skein) (q : Sequence) (pos : Nat) : Option Nat :=
  let x := q.rap + pos
  if x < k.frames then some x else if s.loops' then some (x % k.frames) else none

/-- Lowest place in the ring for `n` bytes among the used pieces, in ascending order. -/
def firstFit (hi n : Nat) : Nat → List (Nat × Nat) → Option Nat
  | lo, [] => if lo + n ≤ hi then some lo else none
  | lo, (a, l) :: us => if lo + n ≤ a then some lo else firstFit hi n (max lo (a + l)) us

/-- Bytes of a record in whole LBAs. -/
def recordBytes (n : Nat) : Nat := ceilDiv n 4096 * 4096

/-- Pieces of the ring in use, in ascending order. -/
def State.ringUsed (s : State) : List (Nat × Nat) :=
  ((s.store.ring.map fun r => (r.addr, recordBytes r.length)) ++ s.store.fetching.map fun r => (r.addr, recordBytes r.length)).foldl
    (fun l x => mapPut l x.1 x.2) []

/-- The store reads its records itself: not on a member that gets them over the chain (R388). -/
def State.readsRecords (s : State) : Bool := !(s.chain.chained && s.bit Reg.CHAIN_CFG 1) || s.isActing

/-- Read records in frame order as far as space and the I/O queue allow (R321). -/
def State.pumpRing (s : State) : Nat → State
  | 0 => s
  | f + 1 =>
    match s.store.skein, s.store.seq with
    | some k, some q => match s.frameAtPos k q q.next with
      | none => s
      | some fr => match k.entries[fr]? with
        | none => s
        | some e =>
          let n := ceilDiv e.length 4096
          let ring := s.area Reg.STORE_RING
          match firstFit ring.2 (recordBytes e.length) (ring.1 + k.indexMib * 2 ^ 20) s.ringUsed with
          | none => s
          | some a =>
            let parts := ceilDiv n (s.lbaLimit k.drive)
            if 255 < s.store.inflight.length + parts ∨ !s.readsRecords then s
            else
              let id := s.store.nextId
              let x : RingFetch := { id := id, gen := q.gen, pos := q.next, frame := fr, addr := a, length := e.length, left := parts }
              let s := { s with store := { s.store with nextId := id + 1, fetching := s.store.fetching ++ [x]
                                                        seq := some { q with next := q.next + 1 } } }
              (s.readChunks k.drive (k.start + e.lba) n a 0 (.record id) n).pumpRing f
    | _, _ => s

def State.pump (s : State) : State := s.pumpRing 256

/-- Sequence that plays. -/
def State.playing (s : State) : Option Sequence := s.store.old.orElse fun _ => s.store.seq

/-- Position that a sequence presents in a frame with count m. -/
def Sequence.posAt (q : Sequence) (m : Nat) : Nat := q.f0 - q.rap + m

/-- Whole records in the ring from a position on, without a gap; `fuel` bounds them. -/
def State.leadFrom (s : State) (gen : Nat) : Nat → Nat → Nat
  | 0, _ => 0
  | f + 1, pos => if s.store.ring.any fun r => r.gen == gen && r.pos == pos then s.leadFrom gen f (pos + 1) + 1 else 0

/-- STORE_AHEAD.MS and STORE_AHEAD_LOW (R321). -/
def State.refreshLead (s : State) : State :=
  match s.store.skein, s.playing with
  | some k, some q =>
    let pos := q.posAt ((q.shown.getD 1) - 1)
    let n := s.leadFrom q.gen s.store.ring.length (pos + 1)
    let p := ratePeriod k.rate
    let lead := n * p.1 * 1000 / p.2
    let s := s.setFld Reg.STORE_AHEAD 0 16 (satTo 65535 lead)
    let low := decide (lead < 2000)
    let was := s.store.low
    let s := { s with store := { s.store with low := low } }
    if low && !was && s.fld Reg.STORE_STAT 0 2 == 3 then
      s.raise Ev.STORE_AHEAD_LOW [lead, s.nat Reg.STORE_POS]
    else s
  | _, _ => s

/-- A record is whole in the ring: kept when its CRC and header hold, and passed on over the chain (R321, R388). -/
def State.recordArrives (s : State) (x : RingFetch) : State :=
  let bs := s.bytes x.addr x.length
  let good := (s.store.skein.bind fun k => k.entries[x.frame]?).any fun e => e.crc == crc32c bs
  match (if good && !x.bad then parseRecord bs x.frame else none) with
  | none => s
  | some ps =>
    let r : RingRecord := { gen := x.gen, pos := x.pos, frame := x.frame, addr := x.addr, length := x.length, plies := ps }
    let s := { s with store := { s.store with ring := s.store.ring ++ [r] } }
    let s := s.refreshLead
    if s.chain.chained && s.isActing && s.bit Reg.CHAIN_CFG 1 then
      s.sendAll 4 ([Word.ofNat x.frame, Word.ofNat x.length] ++ (chunks 4 bs).map fun c => Word.ofNat (leNat c))
    else s

/-! ## Playback (R317 to R320) -/

/-- Latest random-access point at or before a frame. -/
def Skein.rapBefore (k : Skein) (f : Nat) : Nat :=
  ((List.range (f + 1)).filter fun i => (k.entries[i]?).any (·.rap)).getLastD 0

/-- PLAY (R317, R318): the start frame is set and the ring filled, or the operation is refused. -/
def State.playFrom (s : State) (f0 : Nat) (cue : Option Nat) : State :=
  match s.store.skein with
  | none => s.storeRefuse 1 1 cue
  | some k =>
    if k.frames ≤ f0 then s.storeRefuse 1 4 cue
    else
      let gen := (s.store.seq.map fun (q : Sequence) => q.gen + 1).getD 0
      let keep := if s.modeCode = Mode.SHOW ∧ s.fld Reg.STORE_STAT 0 2 = 3 then s.playing else none
      let new : Sequence := { gen := gen, f0 := f0, rap := k.rapBefore f0 }
      let s := { s with store := { s.store with seq := some new, old := keep
                                                ring := s.store.ring.filter (fun r => keep.any fun (q : Sequence) => q.gen == r.gen) }
                        cue := { s.cue with skein := cue } }
      ((s.setBit Reg.STORE_STAT 2 false).setBit Reg.STORE_STAT 3 false).pump

/-- STORE_CTL_PLAY (R317). -/
def execStoreCtlPlay (t : Nat) (req : Requester) (s : State) : Res :=
  .next ((s.advance t).control req Reg.STORE_CTL 2 fun s => s.playFrom (s.nat Reg.STORE_PLAY_FRAME) none)

/-- A skein is closed: its areas' lost blocks are released (R324). -/
def State.closeSkein (s : State) : State :=
  let s := { s with store := { s.store with skein := none, run := none, seq := none, old := none, ring := [], fetching := [], rereads := []
                                            buffers := [], prep := none, posNext := none, low := false } }
  let s := (((s.setStore 0).setBit Reg.STORE_STAT 2 false).setBit Reg.STORE_STAT 3 false)
  let areas := [s.area Reg.STORE_RING, s.area Reg.STORE_BUF]
  s.each ((s.hbm.lost.map (·.1)).filter fun b => s.tagOf b == 1 && areas.any fun a => a.1 ≤ b * 65536 && b * 65536 < a.2) State.clearLost

/-- STORE_CTL_CLOSE (R315): refused in SHOW. -/
def execStoreCtlClose (t : Nat) (req : Requester) (s : State) : Res :=
  .next ((s.advance t).control req Reg.STORE_CTL 4 fun s =>
    if s.modeCode = Mode.SHOW then s.storeRefuse 2 9 none else s.closeSkein)

/-- STORE_OPEN_DONE (R315, R318): the structures are read; the skein opens, or the open is refused. -/
def execStoreOpenDone (t : Nat) (s : State) : Res :=
  let s := s.advance t
  .next (match s.store.run with
    | none => s
    | some r =>
      if (r.next 256).isSome ∨ (s.store.inflight.any fun c => c.why == .open_) then s
      else
        let reason := s.openReason r
        let s := { s with store := { s.store with run := none } }
        if reason ≠ 0 then (s.setStore 0).storeRefuse 0 reason r.cue
        else
          let k := r.skeinOf
          let bufs := ((List.range 64).filter fun n => k.extent.getD n 0 != 0).map fun n => ({ desc := n } : SkBuffers)
          let s := { s with store := { s.store with skein := some k, buffers := bufs } }
          let s := s.hbmWrite (s.area Reg.STORE_RING).1 ((r.parts.drop 3).flatten.take (16 * k.frames)) 1
          let s := (s.setStore 2).setFld Reg.STORE_AHEAD 16 16 0
          let s := s.raise Ev.STORE_OPENED [k.index, k.frames, k.rate]
          match r.play with
          | some f => s.playFrom f r.cue
          | none => s)

/-- Positions that must be in the ring for READY (R317): to F0 + ceil(2 / P), or to the end. -/
def State.readyPositions (s : State) (k : Skein) (q : Sequence) : List Nat :=
  (List.range (q.posAt (twoSeconds k.rate) + 1)).filter fun p => (s.frameAtPos k q p).isSome

/-- STORE_READY (R317). -/
def execStoreReady (t : Nat) (s : State) : Res :=
  let s := s.advance t
  .next (match s.store.skein, s.store.seq with
    | some k, some q =>
      if (s.readyPositions k q).all (fun p => s.store.ring.any fun r => r.gen == q.gen && r.pos == p) then
        let s := s.setBit Reg.STORE_STAT 2 true
        match s.cue.skein with
        | some i => ({ s with cue := { s.cue with skein := none } }).completeCue i
        | none => s
      else s
    | _, _ => s)

/-! ## Preparation (R316, R319) -/

def State.skBuffer (s : State) (n : Nat) : SkBuffers := (s.store.buffers.find? fun q => q.desc == n).getD { desc := n }
def State.setSkBuffer (s : State) (q : SkBuffers) : State :=
  { s with store := { s.store with buffers := s.store.buffers.map fun x => if x.desc = q.desc then q else x } }
/-- Stream that a buffer holds. -/
def SkBuffers.stream (q : SkBuffers) (w : Nat) : Option Nat := if w = 0 then q.frame0 else q.frame1
/-- A buffer holds a stream. -/
def SkBuffers.put (q : SkBuffers) (w : Nat) (f : Option Nat) : SkBuffers := if w = 0 then { q with frame0 := f } else { q with frame1 := f }

/-- The latest record at or before a position with a stream for descriptor `n`. -/
def State.latestStream (s : State) (gen pos n : Nat) : Option (RingRecord × PlyEntry) :=
  (s.store.ring.foldl (fun (best : Option (RingRecord × PlyEntry)) r =>
    if r.gen = gen ∧ r.pos ≤ pos ∧ (best.all fun b => b.1.pos ≤ r.pos) then
      match r.plies.find? fun p => p.desc == n && p.new with
      | some p => some (r, p)
      | none => best
    else best) none)

/-- A skein job for descriptor `n` and the stream of frame `f` is queued or runs. -/
def State.jobFor (s : State) (n f : Nat) : Bool :=
  let is (j : HankJob) : Bool := j.who == .skein && j.what == n && j.frame == f && j.regen.isNone
  s.hank.waiting.any is || (s.hank.engines.any fun e => e.run.any is || e.queue.any is) ||
    s.store.rereads.any fun r => r.jobs.any is

/-- Step 1 of R319 for descriptor `n`: the stream still to decode, submitted when it is not yet on its way. -/
def State.prepDesc (s : State) (gen pos n : Nat) : State × List (Nat × Nat) :=
  match s.latestStream gen pos n with
  | none => (s, [])
  | some (r, p) =>
    let q := s.skBuffer n
    let spare := 1 - q.latched
    if q.stream q.latched = some r.frame ∨ q.stream spare = some r.frame ∨ q.given = some r.frame then (s, [])
    else if s.jobFor n r.frame then (s, [(n, r.frame)])
    else
      let s := s.setSkBuffer (q.put spare none)
      (s.internalJob { s.bufferJob n spare r.frame with src := r.addr + p.offset, len := p.length }, [(n, r.frame)])

/-- Descriptors of the open skein. -/
def State.skDescs (s : State) : List Nat := s.store.buffers.map (·.desc)

/-- STORE_FRAME_LATE and STORE_AHEAD.LATE. -/
def State.frameLate (s : State) (skFrame frameNo reason : Nat) : State :=
  (s.incFld Reg.STORE_AHEAD 16 16 1).raise Ev.STORE_FRAME_LATE [skFrame, frameNo % 2 ^ 16, reason]

/-- The preparation of the frame with position `pos` starts (R319 step 1); `frameNo` is the frame that will present it. -/
def State.startPrep (s : State) (q : Sequence) (pos frameNo : Nat) : State :=
  match s.store.skein.bind fun k => s.frameAtPos k q pos with
  | none => { s with store := { s.store with prep := none } }
  | some f =>
    let missing := !s.store.ring.any fun r => r.gen == q.gen && r.pos == pos
    let x : State × List (Nat × Nat) := if missing then (s, [])
      else s.skDescs.foldl (fun (a : State × List (Nat × Nat)) n => let y := a.1.prepDesc q.gen pos n; (y.1, a.2 ++ y.2)) (s, [])
    let p : Prep := { gen := q.gen, pos := pos, frame := f, jobs := x.2, missing := missing }
    let s := { x.1 with store := { x.1.store with prep := some p } }
    let s := s.setStore 3
    if missing then s.frameLate f frameNo 2 else s

/-- Buffer whose content frame `pos` of a sequence presents for descriptor `n`. -/
def State.bufferFor (s : State) (gen pos n : Nat) : Nat :=
  let q := s.skBuffer n
  match s.latestStream gen pos n with
  | some (r, _) => if q.stream (1 - q.latched) = some r.frame ∧ q.stream q.latched ≠ some r.frame then 1 - q.latched else q.latched
  | none => q.latched

/-- Sixteen words of a ply entry with BASE at a buffer and FENCE_EN = 0 (R314, R319). -/
def prepWords (ws : List Word) (base : Nat) : List Word :=
  [Word.ofNat base, Word.ofNat (base / 2 ^ 32)] ++ ((ws.drop 2).take 12) ++ [(ws.getD 14 0).put 8 1 0, ws.getD 15 0]

/-- The store writes one descriptor as pending values; nothing is mirrored (R388). -/
def State.storeDesc (s : State) (n : Nat) (ws : List Word) : State :=
  s.each (List.range 16) fun s i => s.descWrite .store n i (ws.getD i 0)

/-- Less than 30 µs are left to the next latch instant (R319). -/
def State.prepTooLate (s : State) : Bool := s.nextLatch.any fun x => decide (x.1 < s.now + us 30)

/-- The jobs that a preparation waits for end in this cycle at the latest, and the store writes its values in it (R17, R319). -/
def State.prepArrives (s : State) (p : Prep) : Bool :=
  let ends (j : Nat × Nat) : Bool := s.sameCycle fun i => match i with
    | .hankJobComplete _ e => (s.engine e.val).run.any fun r => r.who == .skein && (r.what, r.frame) == j
    | _ => false
  p.jobs.all ends && s.sameCycle fun i => match i with
    | .storePrepDone _ => true
    | _ => false

/-- STORE_PREP_DONE (R319 steps 2 and 3): every decode is complete; descriptor values and GO are written. -/
def execStorePrepDone (t : Nat) (s : State) : Res :=
  let s := s.advance t
  .next (match s.store.prep with
    | none => s
    | some p =>
      if p.missing || p.late || p.done || !p.jobs.isEmpty || s.prepTooLate then s
      else match s.store.ring.find? fun r => r.gen == p.gen && r.pos == p.pos with
        | none => s
        | some r =>
          let s := s.each r.plies fun s e => s.storeDesc e.desc (prepWords e.words (s.bufferAt e.desc (s.bufferFor p.gen p.pos e.desc)).1)
          let s := { s with store := { s.store with prep := some { p with done := true } } }
          if s.chain.chained && !s.isActing then s else s.commitGo)

/-- STORE_PREP_DEADLINE (R319): 30 µs before the latch the jobs have not completed, and the frame goes without the store's changes. -/
def execStorePrepDeadline (t : Nat) (s : State) : Res :=
  let s := s.advance t
  .next (match s.store.prep, s.nextLatch with
    | some p, some (l, k) =>
      if p.missing || p.late || p.done || s.prepArrives p || decide (s.now + us 30 < l) then s
      else ({ s with store := { s.store with prep := some { p with late := true } } }).frameLate p.frame k 1
    | _, _ => s)

/-! ## At a latch and at a flip -/

/-- Some skein job reads from a record. -/
def State.recordBusy (s : State) (r : RingRecord) : Bool :=
  let is (j : HankJob) : Bool := j.who == .skein && j.payload.isNone && decide (r.addr ≤ j.src ∧ j.src < r.addr + r.length)
  s.hank.waiting.any is || s.hank.engines.any fun e => e.run.any is || e.queue.any is

/-- The frame that is latched presents the buffers that were prepared for it (R316). -/
def State.latchPrep (s : State) : State :=
  match s.store.prep with
  | none => s
  | some p =>
    let s := if p.done then s.each s.skDescs fun s n => s.setSkBuffer { s.skBuffer n with latched := s.bufferFor p.gen p.pos n } else s
    { s with store := { s.store with prep := none } }

/-- The sequence that plays counts the latched frame (R317); past its end STORE_END is raised once (R320). -/
def State.countFrame (s : State) (inShow : Bool) : State :=
  match s.playing with
  | none => s
  | some q =>
    if !inShow && q.shown.isNone then s
    else
      let q' : Sequence := { q with shown := some (q.shown.getD 0 + 1) }
      let pos := q.posAt (q.shown.getD 0)
      let s := if s.store.old.isSome then { s with store := { s.store with old := some q' } } else { s with store := { s.store with seq := some q' } }
      match s.store.skein with
      | none => s
      | some k =>
        let s := { s with store := { s.store with
          ring := s.store.ring.filter (fun r => !(r.gen == q.gen && decide (r.pos ≤ pos)) || s.recordBusy r) } }
        match s.frameAtPos k q pos with
        | some f => { s with store := { s.store with posNext := some f } }
        | none =>
          if s.bit Reg.STORE_STAT 3 then s else (s.setBit Reg.STORE_STAT 3 true).raise Ev.STORE_END [k.index, k.frames - 1]

/-- The store at a latch instant (R319): `inShow` is the mode of the frame latched, `frameNo` the frame that follows it. -/
def State.storeLatch (s : State) (inShow : Bool) (frameNo : Nat) : State :=
  let s := { s with store := { s.store with owned := [] } }
  let s := s.latchPrep.countFrame inShow
  if s.store.skein.isNone then s
  else
    let s := s.pump.refreshLead
    -- SHOW, or about to enter it at the next boundary
    let soon := s.mode.cur.any fun tr => tr.target == Mode.SHOW && tr.stage == .latch
    if inShow || soon then
      -- a new sequence takes over once it is ready
      let s := if s.bit Reg.STORE_STAT 2 then { s with store := { s.store with old := none } } else s
      match s.playing with
      | some q => s.startPrep q (q.posAt (q.shown.getD 0)) frameNo
      | none => s
    else if s.fld Reg.STORE_STAT 0 2 = 3 then s.setStore 2 else s

/-- The frame that was latched is in delivery: STORE_POS (Table 15-8). -/
def State.storeFlip (s : State) : State :=
  match s.store.posNext with
  | some f => s.setNat Reg.STORE_POS f
  | none => s

/-! ## NVMe completions (R312, R313) -/

/-- A reread is complete: the block's mark goes, and the decodes that waited for the record follow (R323, R324). -/
def State.rereadDone (s : State) (r : Reread) : State :=
  let bytes := (assembled r.parts r.length).getD []
  if r.bad ∨ bytes = [] then
    -- the record could not be read: a descriptor keeps its content (R323)
    let s := match r.block with
      | some b => s.regenPart b false
      | none => s
    s.each r.jobs fun s j =>
      let s := s.setSkBuffer { s.skBuffer j.what with given := some j.frame }
      { s with store := { s.store with prep := s.store.prep.map fun p => { p with jobs := p.jobs.filter (· != (j.what, j.frame)) } } }
  else
    let s := match r.addr, r.block with
      | some _, some b => s.regenPart b true
      | _, _ => s
    s.each r.jobs fun s j =>
      match (parseRecord bytes r.frame).bind fun ps => ps.find? fun p => p.desc == j.what && p.new with
      | some p => s.internalJob { j with src := r.addr.getD 0 + p.offset, len := p.length, payload := some ((bytes.drop p.offset).take p.length) }
      | none => s

/-- Part of a reread has arrived, or failed. -/
def State.rereadPart (s : State) (id off : Nat) (data : Option (List Byte)) : State :=
  match s.store.rereads.find? fun r => r.id == id with
  | none => s
  | some r =>
    let r := { r with left := r.left - 1, bad := r.bad || data.isNone, parts := r.parts ++ (data.map fun d => (off, d)).toList }
    if r.left = 0 then ({ s with store := { s.store with rereads := s.store.rereads.filter fun x => x.id != id } }).rereadDone r
    else { s with store := { s.store with rereads := s.store.rereads.map fun x => if x.id = id then r else x } }

/-- Part of a record has arrived, or failed. -/
def State.recordPart (s : State) (id : Nat) (ok : Bool) : State :=
  match s.store.fetching.find? fun r => r.id == id with
  | none => s
  | some r =>
    let r := { r with left := r.left - 1, bad := r.bad || !ok }
    if r.left = 0 then
      (({ s with store := { s.store with fetching := s.store.fetching.filter fun x => x.id != id } }).recordArrives r).pump
    else { s with store := { s.store with fetching := s.store.fetching.map fun x => if x.id = id then r else x } }

/-- STORE_DRIVE_FAIL: the drive is disabled (R311, R312). -/
def State.disableDrive (s : State) (d reason : Nat) : State :=
  let s := (s.setFld (Reg.STORE_DRV_STAT d) 0 2 3).raise Ev.STORE_DRIVE_FAIL [d, reason]
  { s with store := { s.store with barred := (s.store.barred.filter fun x => x.1 != d) ++ [(d, false)] } }

/-- A command has failed for good: what it served goes without it. -/
def State.nvmeLost (s : State) (c : NvmeCmd) (status : Nat) : State :=
  match c.why with
  | .identify => s.disableDrive c.drive 3
  | .open_ => { s with store := { s.store with run := s.store.run.map fun r => { r with failed := true } } }
  | .record id => s.recordPart id false
  | .reread id => s.rereadPart id c.off none
  | .xfer => { s with store := { s.store with xfer := s.store.xfer.map fun x => (x.1, x.2.1 - 1, true, status) } }

/-- Read, Write and Flush are issued a second time (R312). -/
def NvmeCmd.reissued (c : NvmeCmd) : Bool :=
  !c.retry && (match c.why with
    | .identify => false
    | .xfer => c.op == nvmeFlush || c.op == nvmeWrite || (c.op == nvmeRead && c.blocks != 0)
    | _ => true)

/-- A failed command is issued again, a mirrored read on the other drive, or reported (R312). -/
def State.nvmeFails (s : State) (c : NvmeCmd) (status : Nat) : State :=
  let d := if s.bit Reg.STORE_CFG 2 && c.op == nvmeRead && s.driveUp (1 - c.drive) then 1 - c.drive else c.drive
  if c.reissued && s.driveUp d then s.nvmeSubmit { c with retry := true, drive := d }
  else
    let s := s.raise Ev.STORE_IO_ERROR [c.drive, c.op, c.lba % 2 ^ 32, status]
    s.nvmeLost c status

/-- Take a command out of those in flight. -/
def State.nvmeTake (s : State) (d cid : Nat) : Option (NvmeCmd × State) :=
  (s.store.inflight.find? fun c => c.drive == d && c.cid == cid).map fun c =>
    (c, { s with store := { s.store with inflight := s.store.inflight.filter fun x => !(x.drive == d && x.cid == cid) } })

/-- Commands in flight on a drive that is disabled end without a completion. -/
def State.dropDrive (s : State) (d : Nat) : State :=
  let cs := s.store.inflight.filter fun c => c.drive == d
  let s := { s with store := { s.store with inflight := s.store.inflight.filter fun c => c.drive != d } }
  s.each cs fun s c =>
    if s.bit Reg.STORE_CFG 2 && c.op == nvmeRead && c.reissued then s.nvmeFails c 0xFFFF
    else s.nvmeFails { c with retry := true } 0xFFFF

/-- A command on a drive has failed: counted, four within 10 s disable the drive (R312). -/
def State.countFail (s : State) (d : Nat) : State :=
  let s := s.incFld (Reg.STORE_DRV_STAT d) 16 16 1
  let recent : List (Nat × Nat) := (s.store.fails.filter fun x => s.now < x.2 + ms 10000) ++ [(d, s.now)]
  let s := { s with store := { s.store with fails := recent } }
  let mine : Nat := (recent.filter fun x => x.1 == d).length
  let off : Bool := decide (4 ≤ mine) && s.fld (Reg.STORE_DRV_STAT d) 0 2 != 3
  if off then
    let s := { s with store := { s.store with fails := recent.filter fun x => x.1 != d } }
    (s.disableDrive d 1).dropDrive d
  else s

/-- A command completes with error status, or times out (R312). -/
def State.nvmeError (s : State) (c : NvmeCmd) (status : Nat) : State := (s.countFail c.drive).nvmeFails c status

/-- Identify Controller (CNS 0x01): Dataset Management is offered, ONCS bit 2 (PRESUMED from NVMe 2.0; log 177). -/
def controllerOk (data : List Byte) : Bool := leAt data 520 2 / 4 % 2 == 1

/-- Most LBAs of one command: 256, or MDTS, a power of two of 4 KiB pages, if smaller (Table 15-1; log 177). -/
def mdtsLbas (data : List Byte) : Nat := if leAt data 77 1 = 0 then 256 else min 256 (2 ^ min 8 (leAt data 77 1))

/-- Identify Namespace (CNS 0x00): LBA data size 4,096, no metadata, no protection information (Table 15-1; log 177). -/
def namespaceOk (data : List Byte) : Bool :=
  let f := 128 + 4 * (leAt data 26 1 % 16)
  leAt data f 2 == 0 && leAt data (f + 2) 1 == 12 && leAt data 29 1 % 8 == 0 && leAt data 0 8 != 0

/-- A command completes (R312 to R325). -/
def State.nvmeGood (s : State) (c : NvmeCmd) (data : List Byte) : State :=
  match c.why with
  | .identify =>
    -- the data of Identify say whether the drive offers all of Table 15-1
    if c.op == nvmeIdentify && !(if c.lba = 1 then controllerOk data else namespaceOk data) then s.disableDrive c.drive 3
    else
      let s := if c.op == nvmeIdentify && c.lba == 1 then
        { s with store := { s.store with maxLbas := s.store.maxLbas.setIfInBounds c.drive (mdtsLbas data) } } else s
      s.bringUpStep c.drive (c.off + 1)
  | .open_ =>
    let part := data.take (4096 * c.blocks)
    let add (r : OpenRun) : OpenRun := { r with parts := r.parts ++ [part] }
    ({ s with store := { s.store with run := s.store.run.map add } }).openRead
  | .record id => (s.hbmWrite c.addr (data.take (4096 * c.blocks)) 1).recordPart id true
  | .reread id =>
    let part := data.take (4096 * c.blocks)
    let s := if (s.store.rereads.find? fun r => r.id == id).any fun r => r.addr.isSome then s.hbmWrite c.addr part 1 else s
    s.rereadPart id c.off (some part)
  | .xfer =>
    let s := if c.op = nvmeRead then s.hbmWrite c.addr (data.take (if c.blocks = 0 then 512 else 4096 * c.blocks)) 3 else s
    { s with store := { s.store with xfer := s.store.xfer.map fun x => (x.1, x.2.1 - 1, x.2.2.1, x.2.2.2) } }

/-- NVME_COMPLETION (R312). -/
def execNvmeCompletion (t : Nat) (drive : Fin 2) (cid status : Nat) (data : List Byte) (s : State) : Res :=
  let s := s.advance t
  .next (match s.nvmeTake drive cid with
    | none => s
    | some (c, s) => if status = 0 then s.nvmeGood c data else s.nvmeError c status)

/-- NVME_TIMEOUT (R17, R312): 2 s have passed since submission and the completion does not arrive in this cycle. -/
def execNvmeTimeout (t : Nat) (drive : Fin 2) (cid : Nat) (s : State) : Res :=
  let s := s.advance t
  let arrives := s.sameCycle fun i => match i with
    | .nvmeCompletion _ d c _ _ => d == drive && c == cid
    | _ => false
  .next (match s.nvmeTake drive cid with
    | none => s
    | some (c, s') => if arrives || decide (s.now < c.submitted + ms 2000) then s else s'.nvmeError c 0xFFFF)

/-- NVME_CONTROLLER_FATAL (R312): CSTS.CFS = 1 disables the drive. -/
def execNvmeControllerFatal (t : Nat) (drive : Fin 2) (s : State) : Res :=
  let s := s.advance t
  .next (if s.fld (Reg.STORE_DRV_STAT drive) 0 2 = 0 ∨ s.fld (Reg.STORE_DRV_STAT drive) 0 2 = 3 then s
    else (s.disableDrive drive 2).dropDrive drive)

/-! ## Drive transfers (R325) -/

/-- The LBAs of a transfer touch the open skein's extent. -/
def State.touchesSkein (s : State) (drive lba n : Nat) : Bool :=
  s.store.skein.any fun k => (s.bit Reg.STORE_CFG 2 || k.drive == drive) && decide (lba < k.start + k.lbas ∧ k.start < lba + n)

/-- Why a transfer is refused; 0 when it runs. -/
def State.xferReason (s : State) (op drive lba n addr bytes : Nat) : Nat :=
  if !(s.modeCode == Mode.IDLE || s.modeCode == Mode.SERVICE) ∨ s.bit Reg.STORE_XFER_STAT 0 then 1
  else if (op = 2 ∨ op = 4) ∧ s.touchesSkein drive lba n then 9
  else if bytes ≠ 0 ∧ (s.usable < addr + bytes ∨ s.venueBase < addr + bytes) then 0xA
  else 0

/-- A transfer starts, on both drives for a mirrored write or deallocate, or is refused (R325). -/
def State.xferStart (s : State) (w : Word) : State :=
  let op := w.field 0 3
  let drive := w.field 3 1
  let lba := s.nat Reg.STORE_XFER_LBA + w.field 4 1 * 2 ^ 32
  let n := w.field 8 8 + 1
  let addr := s.fld Reg.STORE_XFER_HBM 0 23 * 4096
  let bytes := match op with
    | 1 => 4096 * n | 2 => 4096 * n | 5 => 512 | _ => 0
  let r := s.xferReason op drive lba n addr bytes
  if r ≠ 0 then (s.setFld Reg.STORE_XFER_STAT 1 3 3).raise Ev.STORE_REFUSED [op, r]
  else
    let both := (op == 2 || op == 4) && s.bit Reg.STORE_CFG 2
    let ds := if both then [0, 1] else [drive]
    let code := match op with
      | 1 => nvmeRead | 2 => nvmeWrite | 3 => nvmeFlush | 4 => nvmeDeallocate | _ => nvmeLog
    let s := if op ≤ 2 ∨ op = 5 then s.touchHbm else s
    -- a command moves at most what MDTS allows: a longer transfer takes several (Table 15-1)
    let most := if both then min (s.lbaLimit 0) (s.lbaLimit 1) else s.store.maxLbas[drive]?.getD 256
    let parts : List (Nat × Nat) := if op ≤ 2 then (List.range (ceilDiv n most)).map fun i => (i * most, min most (n - i * most))
      else [(0, if op = 4 then n else 0)]
    let cmds := ds.flatMap fun d => parts.map fun p => (d, p.1, p.2)
    let s := { s with store := { s.store with xfer := some (op, cmds.length, false, 0) } }
    let s := (s.setBit Reg.STORE_XFER_STAT 0 true).setFld Reg.STORE_XFER_STAT 1 3 0
    s.each cmds fun s (d, o, k) => s.nvmeSubmit
      { drive := d, cid := 0, op := code, lba := if op = 5 then 0 else lba + o, blocks := k, addr := addr + 4096 * o
        why := .xfer, submitted := 0 }

/-- A transfer's register write, with the operation that its row names. -/
def State.xferWrite (s : State) (req : Requester) (op : Nat) (w : Word) : State :=
  s.guarded req Reg.STORE_XFER_CMD 4 (w.put 0 3 op) State.xferStart

/-- STORE_XFER_READ (R325). -/
def execStoreXferRead (t : Nat) (req : Requester) (data : Word) (s : State) : Res := .next ((s.advance t).xferWrite req 1 data)
/-- STORE_XFER_WRITE (R325). -/
def execStoreXferWrite (t : Nat) (req : Requester) (data : Word) (s : State) : Res := .next ((s.advance t).xferWrite req 2 data)
/-- STORE_XFER_FLUSH (R325). -/
def execStoreXferFlush (t : Nat) (req : Requester) (data : Word) (s : State) : Res := .next ((s.advance t).xferWrite req 3 data)
/-- STORE_XFER_DEALLOCATE (R325). -/
def execStoreXferDeallocate (t : Nat) (req : Requester) (data : Word) (s : State) : Res := .next ((s.advance t).xferWrite req 4 data)
/-- STORE_XFER_SMART_LOG (R325). -/
def execStoreXferSmartLog (t : Nat) (req : Requester) (data : Word) (s : State) : Res := .next ((s.advance t).xferWrite req 5 data)

/-- STORE_XFER_DONE (R325): every command of the transfer has ended. -/
def execStoreXferDone (t : Nat) (s : State) : Res :=
  let s := s.advance t
  .next (match s.store.xfer with
    | some (op, 0, failed, status) =>
      let r := if failed then 2 else 1
      let s := { s with store := { s.store with xfer := none } }
      (s.setNat Reg.STORE_XFER_STAT (r * 2 + status * 2 ^ 16)).raise Ev.STORE_XFER_DONE [op, r, status]
    | _ => s)

end Sys2Proof.Machine
end

