-- ==== Sys2Proof/Machine/Yarn.lean ====
section
/-! DEFINITION.  Yarn streams (R326 to R329), and the end of a Hank job of the store and of
a yarn stream (R323, R327). -/

namespace Sys2Proof.Machine

/-! ## The end of an ingest job -/

/-- A skein decode is over: its buffer holds the stream, or the record is reread once, or the descriptor keeps its content (R319, R323, R324). -/
def State.skeinJobEnds (s : State) (j : HankJob) (r : JobEnd) : State :=
  let w := if j.dst = (s.bufferAt j.what 0).1 then 0 else 1
  let done (s : State) : State :=
    { s with store := { s.store with prep := s.store.prep.map fun p => { p with jobs := p.jobs.filter (· != (j.what, j.frame)) } } }
  match r.err with
  | none =>
    let s := done (s.setSkBuffer ((s.skBuffer j.what).put w (some j.frame)))
    match j.regen with
    | some b => s.regenPart b true
    | none => s
  | some x =>
    if !j.second then
      let at_ := (s.store.ring.find? fun q => q.frame == j.frame).map (·.addr)
      s.rereadRecord j.frame at_ none [{ j with second := true, payload := none }]
    else
      let s := done (s.setSkBuffer { s.skBuffer j.what with given := some j.frame })
      let s := match j.regen with
        | some b => s.regenPart b false
        | none => s
      s.raise Ev.STORE_DECODE_FAIL [2, j.what, x.1]

/-- A yarn decode is over (R327, R329): the fence is set, or STORE_DECODE_FAIL raised. -/
def State.yarnJobEnds (s : State) (j : HankJob) (r : JobEnd) : State :=
  match r.err with
  | some x => s.raise Ev.STORE_DECODE_FAIL [3, j.what, x.1]
  | none =>
    let s := s.incFld (Reg.STORE_YARN_STAT j.what) 0 16 1
    match j.fence with
    | some (n, v) => s.setFence n 4 v
    | none => s

/-! ## Yarn packets -/

/-- A datagram or update is discarded (R329): at most one event per stream per 10 ms, with the count of drops since the last. -/
def State.yarnDrop (s : State) (y reason id : Nat) : State :=
  let s := s.incFld (Reg.STORE_YARN_STAT y) 16 16 1
  let x := s.store.yarnDrop.find? fun x => x.1 == y
  let rest := s.store.yarnDrop.filter fun x => x.1 != y
  if limited (x.map fun (z : Nat × Nat × Nat) => z.2.1) (ms 10) s.now then
    { s with store := { s.store with yarnDrop := rest ++ (x.map fun (z : Nat × Nat × Nat) => (y, z.2.1, z.2.2 + 1)).toList } }
  else
    ({ s with store := { s.store with yarnDrop := rest ++ [(y, s.now, 0)] } }).raise Ev.STORE_YARN_DROP
      [y, reason, id, (x.map fun (z : Nat × Nat × Nat) => z.2.2).getD 0 + 1]

/-- Header of a yarn packet: MAGIC, VERSION, and a TYPE (R326, Table 15-3). -/
def yarnHeaderOk (p : List Byte) (type : Nat) : Bool :=
  32 ≤ p.length && leAt p 0 4 == 0x4E524159 && leAt p 4 1 == 1 && leAt p 5 1 == type
def yarnUpdate (p : List Byte) : Nat := leAt p 0x0A 2

/-- Stream `y` is enabled and cast-on has reached READY (R326). -/
def State.yarnEnabled (s : State) (y : Nat) : Bool := s.ready && s.bit Reg.PLY_LIVE y

/-- Bytes of the staging area in use: updates in assembly and those that wait for their decode. -/
def State.staged (s : State) : Nat :=
  let mine (j : HankJob) : Nat := if j.who = .yarn then j.len else 0
  (s.store.updates.map (·.total)).sum + (s.hank.waiting.map mine).sum +
    (s.hank.engines.map fun e => ((e.run.toList ++ e.queue).map mine).sum).sum

/-- A complete update is decoded into its destination (R327), or discarded for its range (R329). -/
def State.yarnComplete (s : State) (u : Update) (bs : List Byte) : State :=
  let dst := leAt bs 0 8
  let cap := leAt bs 8 4
  if s.usable < dst + cap ∨ s.venueBase < dst + cap then s.yarnDrop u.stream 4 u.id
  else
    s.internalJob { who := .yarn, dst := dst, cap := cap, len := u.total, what := u.stream, frame := u.id
                    tag := if u.skein = 0 then 3 else 1, payload := some (bs.drop 32)
                    fence := if leAt bs 0xD 1 % 2 = 1 then some (leAt bs 0xC 1 % 64, Word.ofNat (leAt bs 0x10 4)) else none }

/-- Where the staging area holds an update: a free place at which the whole update lies in the area (R327; log 178). -/
def State.stagingBase (s : State) (total : Nat) : Nat :=
  let a := s.area Reg.STORE_YSTAGE
  a.1 + Config.stagingPlace s.fresh % (a.2 - a.1 - total + 1)

/-- A data fragment of an update (R327, R329). -/
def State.yarnFragment (s : State) (y : Nat) (p : List Byte) : State :=
  let id := yarnUpdate p
  let off := leAt p 0x0C 4
  let total := leAt p 0x10 4
  let data := p.drop 32
  if !within 33 16777216 total ∨ total < off + data.length then s.yarnDrop y 6 id
  else
    let mine := s.store.updates.filter fun u => u.stream == y
    let s := if mine.any fun u => u.id == id then s
      else
        -- a fifth update: the oldest in assembly goes
        match mine with
        | [o, _, _, _] => ({ s with store := { s.store with updates := s.store.updates.erase o } }).yarnDrop y 3 o.id
        | _ => s
    let known := s.store.updates.find? fun u => u.stream == y && u.id == id
    if known.isNone && decide (s.fld Reg.STORE_YSTAGE 16 15 * 2 ^ 20 < s.staged + total) then s.yarnDrop y 5 id
    else
      let u := known.getD { stream := y, id := id, total := total, skein := leAt p 0x14 4, first := s.now, base := s.stagingBase total, parts := [] }
      let s := if known.isNone then s.useFresh else s
      if u.total < off + data.length then s.yarnDrop y 6 id
      else
        let u := { u with parts := u.parts ++ [(off, data)] }
        let s := s.hbmWrite (u.base + off) data (if u.skein = 0 then 3 else 1)
        let rest := s.store.updates.filter fun x => !(x.stream == y && x.id == id)
        match assembled u.parts u.total with
        | some bs => ({ s with store := { s.store with updates := rest } }).yarnComplete u bs
        | none =>
          let ups := if known.isSome then s.store.updates.map fun x => if x.stream = y ∧ x.id = id then u else x else rest ++ [u]
          { s with store := { s.store with updates := ups } }

/-- YARN_DATA_FRAGMENT (R326, R327, R329, R337): taken in IDLE, the delivering modes and SERVICE. -/
def execYarnDataFragment (t : Nat) (stream : Fin 16) (packet : List Byte) (s : State) : Res :=
  let s := s.advance t
  .next (if !s.yarnEnabled stream ∨ !fullMode s.modeCode ∨ s.hbmOffPeriod then s.yarnDrop stream 1 (yarnUpdate packet)
    else if !yarnHeaderOk packet 1 then s.yarnDrop stream 6 (yarnUpdate packet)
    else s.wakeHbm.yarnFragment stream packet)

/-- A yarn packet that takes effect only in LIVE (R328). -/
def State.yarnLive (s : State) (y : Nat) (p : List Byte) (type : Nat) (f : State → State) : State :=
  if !s.yarnEnabled y ∨ s.modeCode ≠ Mode.LIVE ∨ s.hbmOffPeriod then s.yarnDrop y 1 (yarnUpdate p)
  else if !yarnHeaderOk p type then s.yarnDrop y 6 (yarnUpdate p)
  else f s

/-- YARN_DESCRIPTOR (R328): sixteen words as pending values in arrival order, each as a register write. -/
def execYarnDescriptor (t : Nat) (stream : Fin 16) (packet : List Byte) (s : State) : Res :=
  let p := packet.drop 32
  .next ((s.advance t).yarnLive stream packet 2 fun s =>
    if p.length < 68 ∨ 63 < leAt p 0 1 then s.yarnDrop stream 6 (yarnUpdate packet)
    else s.each (List.range 16) fun s i => s.descWrite .yarn (leAt p 0 1) i (Word.ofNat (leAt p (4 + 4 * i) 4)))

/-- YARN_COMMIT (R328): writes SCAN_COMMIT.GO. -/
def execYarnCommit (t : Nat) (stream : Fin 16) (packet : List Byte) (s : State) : Res :=
  .next ((s.advance t).yarnLive stream packet 3 fun s =>
    match writeCause s .yarn Reg.SCAN_COMMIT 4 1 with
    | some c => s.refuse .yarn Reg.SCAN_COMMIT 1 c
    | none => s.commitGo)

/-- YARN_UPDATE_TIMEOUT (R17, R329): an update incomplete 100 ms after its first fragment is discarded. -/
def execYarnUpdateTimeout (t : Nat) (stream : Fin 16) (update : Nat) (s : State) : Res :=
  let s := s.advance t
  let arrives := s.sameCycle fun i => match i with
    | .yarnDataFragment _ y p => y == stream && yarnUpdate p == update
    | _ => false
  .next (match s.store.updates.find? fun u => u.stream == stream.val && u.id == update with
    | none => s
    | some u =>
      if arrives || decide (s.now < u.first + ms 100) then s
      else ({ s with store := { s.store with updates := s.store.updates.erase u } }).yarnDrop stream 2 update)

end Sys2Proof.Machine
end

