-- ==== Sys2Proof/Machine/Dport.lean ====
section
/-! DEFINITION.  The host's data ports and descriptor DMA (R330 to R337). -/

namespace Sys2Proof.Machine

/-! ## Data ports -/

/-- Pointer of a data port. -/
def State.dportPtr (s : State) (k : Nat) : Nat := (s.nat (Reg.DPORT_PTR_LO k)) / 4 * 4 + s.fld (Reg.DPORT_PTR_HI k) 0 3 * 2 ^ 32

def State.setPtr (s : State) (k a : Nat) : State :=
  (s.setNat (Reg.DPORT_PTR_LO k) (a % 2 ^ 32)).setNat (Reg.DPORT_PTR_HI k) (a / 2 ^ 32 % 8)

/-- Bytes that STEP names (Table 15-10). -/
def stepBytes (v : Nat) : Nat :=
  match v with
  | 1 => 4 | 2 => 8 | 3 => 16 | 4 => 64 | _ => 0

/-- The pointer after a TLP of `n` bytes (R331). -/
def State.stepPtr (s : State) (k n : Nat) : State :=
  let st := stepBytes (s.fld (Reg.DPORT_STEP k) 0 3)
  if st = 0 then s else s.setPtr k (s.dportPtr k + ceilDiv n st * st)

/-- What the port has prefetched goes (R332). -/
def State.dropPrefetch (s : State) (k : Nat) : State :=
  { s with dport := { s.dport with prefetch := s.dport.prefetch.filter fun x => x.1 != k } }

/-- `n` bytes from the pointer leave the usable range or reach into the venue area (R333). -/
def State.dportRange (s : State) (a n : Nat) : Bool := s.usable < a + n || s.venueBase < a + n

/-- DPORT_RANGE at most once per port per 1 ms (R333). -/
def State.raiseRange (s : State) (k a n : Nat) : State :=
  if limited (mapGet s.dport.range k) (ms 1) s.now then s
  else ({ s with dport := { s.dport with range := mapPut s.dport.range k s.now } }).raise Ev.DPORT_RANGE [k, a / 8, n]

/-- A TLP that meets no HBM is counted in the period (R337). -/
def State.countOff (s : State) : State :=
  { s with dport := { s.dport with period := s.dport.period.map fun x => (x.1, x.2 + 1) } }

/-- The host endpoint answers: PD52 is on and PERST is not in force. -/
def State.endpointOn (s : State) : Bool := s.domainOn 52 && !s.rst.perst

/-- Bytes that a write TLP enables, as runs of one byte: address and byte. -/
def enabledBytes (a first last : Nat) (data : List Byte) : List (Nat × Byte) :=
  let n := data.length
  let single := n ≤ 4
  (data.zipIdx.filter fun x =>
    if x.2 < 4 then first.testBit x.2 && (!single || first.testBit x.2) else if n ≤ x.2 + 4 then last.testBit (x.2 + 4 - n) else true).map
    fun x => (a + x.2, x.1)

/-- DPORT_WRITE_TLP (R331, R333, R337, R65): a write TLP of whole dwords stores its enabled bytes. -/
def execDportWriteTlp (t : Nat) (port : Fin 4) (offset first last : Nat) (data : List Byte) (s : State) : Res :=
  let s := s.advance t
  let k := port.val
  let a := s.dportPtr k
  .next (if !s.endpointOn then s
    else if !s.ready then s.earlyAccess 2 (k * 2 ^ 20 + offset)
    else if s.dport.period.isSome then s.countOff
    else
      let s := (s.dropPrefetch k).wakeHbm
      if s.dportRange a data.length then s.raiseRange k a data.length
      else
        let s := s.each (enabledBytes a first last data) fun s x => s.hbmWrite x.1 [x.2] 3
        s.touchHbm.stepPtr k data.length)

/-- Bytes that a read returns: from what the port prefetched where that reaches, which may be stale (R332), else from HBM. -/
def State.dportBytes (s : State) (k a n : Nat) : List Byte :=
  (List.range n).map fun i =>
    match s.dport.prefetch.find? fun x => x.1 == k && x.2.1 ≤ a + i && a + i < x.2.1 + x.2.2.length with
    | some (_, b, l) => l.getD (a + i - b) 0
    | none => s.byte (a + i)

/-- The port prefetches beyond its pointer, up to 4 KiB (R332). -/
def State.prefetch (s : State) (k : Nat) : State :=
  let n := Config.prefetchLength s.fresh % 4097
  let a := s.dportPtr k
  let n := if s.dportRange a n then 0 else n
  let s := (s.dropPrefetch k).useFresh
  { s with dport := { s.dport with prefetch := s.dport.prefetch ++ [(k, a, s.bytes a n)] } }

/-- All-ones. -/
def allOnes (n : Nat) : List Byte := List.replicate n 0xFF

/-- DPORT_READ_TLP (R331 to R333, R337, R65): `len` bytes, a whole number of dwords. -/
def execDportReadTlp (t : Nat) (port : Fin 4) (offset len : Nat) (s : State) : Res :=
  let s := s.advance t
  let k := port.val
  let n := ceilDiv len 4 * 4
  let a := s.dportPtr k
  .next (if !s.endpointOn then s
    else if !s.ready then (s.earlyAccess 2 (k * 2 ^ 20 + offset)).emit (.completion (allOnes n))
    else if s.dport.period.isSome then s.countOff.emit (.completion (allOnes n))
    else
      let s := s.wakeHbm
      if s.dportRange a n then (s.raiseRange k a n).emit (.completion (allOnes n))
      else if s.lostIn a n then (s.touchHbm.stepPtr k n).emit (.completion (allOnes n))
      else
        let bs := s.dportBytes k a n
        ((s.touchHbm.stepPtr k n).prefetch k).emit (.completion bs))

/-- Register of DPORT_PTR_WRITE: PTR_LO, PTR_HI, STEP. -/
def dportReg (k r : Nat) : Nat :=
  match r with
  | 0 => Reg.DPORT_PTR_LO k | 1 => Reg.DPORT_PTR_HI k | _ => Reg.DPORT_STEP k

/-- DPORT_PTR_WRITE (R332). -/
def execDportPtrWrite (t : Nat) (req : Requester) (port : Fin 4) (reg : Fin 3) (data : Word) (s : State) : Res :=
  .next ((s.advance t).guarded req (dportReg port reg) 4 data fun s w => (s.store' req (dportReg port reg) w).dropPrefetch port)

/-! ## Descriptor DMA -/

/-- DPORT_STAT.RUN. -/
def State.refreshRun (s : State) : State :=
  s.setFld Reg.DPORT_STAT 0 4 (ofBits ((List.range 4).filter fun c => s.bit (Reg.DPORT_DMA_CFG c) 0))

/-- Register of DPORT_DMA_START: CFG, HEAD. -/
def dmaReg (c r : Nat) : Nat := if r = 0 then Reg.DPORT_DMA_CFG c else Reg.DPORT_DMA_HEAD c

/-- DPORT_DMA_START (R335, R337): a write of CFG or HEAD; a channel with RUN = 1 and an entry starts it. -/
def execDportDmaStart (t : Nat) (req : Requester) (chan : Fin 4) (reg : Fin 2) (data : Word) (s : State) : Res :=
  .next ((s.advance t).guarded req (dmaReg chan reg) 4 data fun s w =>
    ((s.store' req (dmaReg chan reg) w).refreshRun.wakeHbm).dmaKick chan)

/-- A DMA entry (Table 15-6). -/
def parseDma (e : List Byte) : DmaEntry :=
  { host := leAt e 0 8, hbm := leAt e 8 8, length := leAt e 0x10 4, cap := leAt e 0x14 4
    ctl := Word.ofNat (leAt e 0x18 4), fenceVal := Word.ofNat (leAt e 0x1C 4) }

/-- The descriptor is invalid (STATUS 0x01). -/
def DmaEntry.bad (e : DmaEntry) : Bool :=
  e.length == 0 || 16777216 < e.length || 2 ^ 35 ≤ e.hbm || e.ctl.field 11 5 != 0 || e.ctl.field 24 7 != 0 || (e.ctl.bit 0 && e.ctl.bit 1)

/-- Destination or source bytes in HBM. -/
def DmaEntry.bytes (e : DmaEntry) : Nat := if e.ctl.bit 1 then e.cap else e.length

/-- What an entry that needs no decode does to memory, with its STATUS (R335): `error` 2 host completion, 0x20 fabric, else none. -/
def State.dmaRun (s : State) (e : DmaEntry) (source : List Byte) (error : Nat) : State × Nat :=
  if e.bad then (s, 1)
  else if error ≠ 0 then (s, error)
  else if s.dportRange e.hbm e.bytes then (s, 3)
  else if e.ctl.bit 0 then
    let s := s.touchHbm
    if s.lostIn e.hbm e.length then (s, 0x20) else (s.emit (.hostWrite e.host (s.bytes e.hbm e.length)), 0)
  else (s.hbmWrite e.hbm (source.take e.length) 3, 0)

/-- An entry whose data go through a decompressor (R13, R14, R335). -/
def State.dmaDecodes (s : State) (e : DmaEntry) (error : Nat) : Bool :=
  e.ctl.bit 1 && !e.bad && error == 0 && !s.dportRange e.hbm e.bytes

/-- The decode of an entry. -/
def dmaJob (c : Nat) (entry source : List Byte) : HankJob :=
  let e := parseDma entry
  { who := .dma, dst := e.hbm, cap := e.cap, len := e.length, hdr := e.ctl.bit 2, what := c, tag := 3
    payload := some (source.take e.length), entry := entry }

/-- A channel's decode that is queued or runs. -/
def State.dmaDecode (s : State) (c : Nat) : Option HankJob :=
  (s.hank.waiting ++ s.hank.engines.flatMap fun x => x.run.toList ++ x.queue).find? fun j => j.who == .dma && j.what == c

/-- A channel's decode is called off (R20, R48). -/
def State.dmaCallOff (s : State) (c : Nat) : State :=
  let keep (j : HankJob) : Bool := !(j.who == .dma && j.what == c)
  let drop (x : HankEngine) : HankEngine := { x with run := x.run.filter keep, queue := x.queue.filter keep }
  let s := { s with hank := { s.hank with waiting := s.hank.waiting.filter keep, engines := s.hank.engines.map drop } }
  let s := (s.each [0, 1, 2, 3] State.startEngine).refreshHank
  s.admitWaiting s.hank.waiting

/-- STATUS and DONE are written back to the entry. -/
def State.dmaWriteBack (s : State) (c tail : Nat) (e : DmaEntry) (status : Nat) : State :=
  let ring := s.nat (Reg.DPORT_DMA_RING_LO c) + s.nat (Reg.DPORT_DMA_RING_HI c) * 2 ^ 32
  s.emit (.hostWrite (ring + 32 * tail + 0x18) (leBytes 4 ((e.ctl.put 16 8 status).put 31 1 1).toNat))

/-- The channel stops at a failed entry (R336). -/
def State.dmaStop (s : State) (c tail : Nat) (e : DmaEntry) (status : Nat) : State :=
  let s := (s.setBit (Reg.DPORT_DMA_CFG c) 0 false).refreshRun
  -- what the destination touches in the usable range takes the path's tag and is marked lost
  let n := min e.bytes (s.usable - e.hbm)
  let s := if e.ctl.bit 0 then s else (s.tag e.hbm n 3).markLost (blocksOf e.hbm n)
  s.raise Ev.DPORT_DMA_ERROR [c, tail, status]

/-- The channel goes on after a good entry (R335). -/
def State.dmaNext (s : State) (c tail : Nat) (e : DmaEntry) : State :=
  let s := if e.ctl.bit 3 then s.setFence (e.ctl.field 4 6) c e.fenceVal else s
  let s := s.setFld (Reg.DPORT_DMA_TAIL c) 0 15 ((tail + 1) % 2 ^ s.fld (Reg.DPORT_DMA_CFG c) 4 4)
  let s := s.incFld (Reg.DPORT_DMA_STAT c) 16 16 1
  let s := if e.ctl.bit 10 then s.raise Ev.DPORT_DMA_DONE [c, tail, e.ctl.field 4 6] else s
  s.dmaKick c

/-- The entry in progress of a channel is over with a STATUS (R335, R336). -/
def State.dmaEnd (s : State) (c : Nat) (e : DmaEntry) (status : Nat) : State :=
  let tail := s.fld (Reg.DPORT_DMA_TAIL c) 0 15
  let s := (s.setBit (Reg.DPORT_DMA_STAT c) 0 false).setFld (Reg.DPORT_DMA_STAT c) 8 8 status
  let s := s.dmaWriteBack c tail e status
  if status = 0 then s.dmaNext c tail e else s.dmaStop c tail e status

/-- DPORT_DMA_ENTRY_DONE (R335, R336): the entry in progress, as read from the ring, with its host data.  With HANK = 1 the data go to
a decompressor, whose end completes the entry. -/
def execDportDmaEntryDone (t : Nat) (chan : Fin 4) (entry source : List Byte) (error : Nat) (s : State) : Res :=
  let s := s.advance t
  let c := chan.val
  .next (if !s.bit (Reg.DPORT_DMA_STAT c) 0 || (s.dmaDecode c).isSome then s
    else
      let e := parseDma entry
      if s.dmaDecodes e error then s.touchHbm.internalJob (dmaJob c entry source)
      else
        let r := s.dmaRun e source error
        r.1.dmaEnd c e r.2)

/-! ## The end of a Hank job -/

/-- The decode of a DMA entry is over (R287, R335). -/
def State.dmaJobEnds (s : State) (j : HankJob) (r : JobEnd) : State :=
  s.dmaEnd j.what (parseDma j.entry) (match r.err with
    | none => 0
    | some x => 0x10 + x.1)

/-- A job leaves its engine with a result, and its requester hears of it (R287). -/
def State.jobEnds (s : State) (e : Nat) (j : HankJob) (r : JobEnd) : State :=
  let s := s.finishJob e j r
  match j.who with
  | .host => s.hostJobEnds e j r
  | .skein => s.skeinJobEnds j r
  | .yarn => s.yarnJobEnds j r
  | .dma => s.dmaJobEnds j r

/-- HANK_JOB_COMPLETE (R280 to R290, R323, R327, R335): the job that an engine runs ends. -/
def execHankJobComplete (t : Nat) (engine : Fin 6) (s : State) : Res :=
  let s := s.advance t
  .next (match (s.engine engine).run with
    | none => s
    | some j => s.jobEnds engine j (s.runJob engine j))

/-- An uncorrectable fabric error ends the job of an engine (R20, Table 13-4). -/
def State.hankFabric (s : State) (e addr : Nat) : State :=
  match (s.engine e).run with
  | none => s
  | some j => s.useFresh.jobEnds e j (s.fabricJob e j addr)

end Sys2Proof.Machine
end

