-- ==== Sys2Proof/Machine/Net.lean ====
section
/-! DEFINITION.  Ethernet frames as the ports build and read them (R340, R342): addresses, tags, IP and UDP headers, the
checksum of RFC 1071 and its update of RFC 1624. -/

namespace Sys2Proof.Machine

/-! ## Bytes in network order -/

/-- The `n` bytes of `v`, most significant first. -/
def beBytes (n v : Nat) : List Byte := (leBytes n v).reverse

/-- Bytes of a list with those from `off` replaced. -/
def patch (bs : List Byte) (off : Nat) (new : List Byte) : List Byte := bs.take off ++ new ++ bs.drop (off + new.length)

/-- Sum of 16-bit words in network order; an odd last byte is padded with 0. -/
def wordSum : List Byte → Nat
  | [] => 0
  | [a] => a.toNat * 256
  | a :: b :: bs => a.toNat * 256 + b.toNat + wordSum bs

/-- One's complement folding of a sum to 16 bits. -/
def fold16 (n : Nat) : Nat := if n = 0 then 0 else (n - 1) % 65535 + 1

/-- Internet checksum (RFC 1071). -/
def checksum (bs : List Byte) : Nat := 65535 - fold16 (wordSum bs)

/-- Checksum `c` after the bytes `old` at an even offset were replaced by `new` (RFC 1624: HC' = ~(~HC + ~m + m')). -/
def checksumUpdate (c : Nat) (old new : List Byte) : Nat :=
  let words : Nat := (old.length + 1) / 2
  65535 - fold16 ((65535 - c) + (words * 65535 - wordSum old) + wordSum new)

/-! ## Addresses of a port -/

/-- MAC address of a port, octet 0 first. -/
def State.mac (s : State) (p : Nat) : List Byte := leBytes 4 (s.nat (Reg.NET_MAC_LO p)) ++ leBytes 2 (s.nat (Reg.NET_MAC_HI p))
/-- IPv4 address of a port. -/
def State.ip4 (s : State) (p : Nat) : List Byte := leBytes 4 (s.nat (Reg.NET_IPV4 p))
/-- IPv6 address of a port. -/
def State.ip6 (s : State) (p : Nat) : List Byte := (List.range 4).flatMap fun w => leBytes 4 (s.nat (Reg.NET_IPV6 p w))
/-- EUI-64 of a port's MAC address. -/
def State.eui64 (s : State) (p : Nat) : List Byte := (s.mac p).take 3 ++ [0xFF, 0xFE] ++ (s.mac p).drop 3
/-- Link-local address derived from the MAC address (RFC 4291: the universal bit inverted). -/
def State.linkLocal (s : State) (p : Nat) : List Byte :=
  let e := s.eui64 p
  [0xFE, 0x80, 0, 0, 0, 0, 0, 0] ++ ((e.take 1).map fun (b : Byte) => b ^^^ 2) ++ e.drop 1

/-- An address is all zero. -/
def zeroAddr (a : List Byte) : Bool := a.all (· == 0)
/-- IPv4-mapped IPv6 address. -/
def mapped4 (a : List Byte) : List Byte := List.replicate 10 0 ++ [0xFF, 0xFF] ++ a
/-- An address of 16 octets is IPv4-mapped. -/
def isMapped (a : List Byte) : Bool := a.take 12 == mapped4 []
/-- Multicast group `g` of NET_MCAST. -/
def State.group (s : State) (g : Nat) : List Byte := (List.range 4).flatMap fun w => leBytes 4 (s.nat (Reg.NET_MCAST g w))
/-- MAC address of a multicast group. -/
def groupMac (a : List Byte) : List Byte :=
  if isMapped a then [0x01, 0x00, 0x5E] ++ (((a.drop 13).take 1).map fun (b : Byte) => b &&& 0x7F) ++ a.drop 14
  else [0x33, 0x33] ++ a.drop 12
/-- Groups of NET_MCAST in use. -/
def State.groups (s : State) : List (List Byte) := ((List.range 16).map s.group).filter fun a => !zeroAddr a

/-! ## Reading a frame -/

/-- The 802.1Q tag of a frame: PCP and VID. -/
def frameTag (f : List Byte) : Option (Nat × Nat) :=
  if beAt f 12 2 = 0x8100 then some (beAt f 14 2 / 2 ^ 13, beAt f 14 2 % 2 ^ 12) else none
/-- Offset of the payload behind the EtherType. -/
def l3 (f : List Byte) : Nat := if (frameTag f).isSome then 18 else 14
/-- EtherType. -/
def etherType (f : List Byte) : Nat := beAt f (l3 f - 2) 2

/-- What a frame carries, as far as the ports use it. -/
inductive L3 where
  | arp
  /-- ICMP, IGMP, ICMPv6: protocol number, addresses, message -/
  | control (v6 : Bool) (proto : Nat) (src dst : List Byte) (msg : List Byte)
  | fragment
  /-- UDP: addresses of 16 octets, ports, offset of the UDP header -/
  | udp (v6 : Bool) (src dst : List Byte) (sport dport : Nat) (at_ : Nat)
  | other
  deriving DecidableEq, Repr

/-- Classify a frame (R342). -/
def classify (f : List Byte) : L3 :=
  let o := l3 f
  if etherType f = 0x0806 then .arp
  else if etherType f = 0x0800 then
    let h := beAt f o 1 % 16 * 4
    let src := mapped4 ((f.drop (o + 12)).take 4)
    let dst := mapped4 ((f.drop (o + 16)).take 4)
    let proto := beAt f (o + 9) 1
    if beAt f (o + 6) 2 % 2 ^ 14 ≠ 0 then .fragment
    else if proto = 17 then .udp false src dst (beAt f (o + h) 2) (beAt f (o + h + 2) 2) (o + h)
    else if proto = 1 ∨ proto = 2 then .control false proto src dst ((f.drop (o + h)).take (beAt f (o + 2) 2 - h))
    else .other
  else if etherType f = 0x86DD then
    let src := (f.drop (o + 8)).take 16
    let dst := (f.drop (o + 24)).take 16
    let nh := beAt f (o + 6) 1
    let hop := decide (nh = 0)
    let h := if hop then 40 + 8 * (beAt f (o + 41) 1 + 1) else 40
    let proto := if hop then beAt f (o + 40) 1 else nh
    if proto = 44 then .fragment
    else if proto = 17 then .udp true src dst (beAt f (o + h) 2) (beAt f (o + h + 2) 2) (o + h)
    else if proto = 58 then .control true 58 src dst ((f.drop (o + h)).take (beAt f (o + 4) 2 + 40 - h))
    else .other
  else .other

/-- Payload of a UDP datagram whose header lies at `o`. -/
def udpPayload (f : List Byte) (o : Nat) : List Byte := (f.drop (o + 8)).take (beAt f (o + 4) 2 - 8)

/-- A PTP message: UDP 319 or 320 (R345). -/
def isPtp (k : L3) : Bool :=
  match k with
  | .udp _ _ _ _ d _ => d == 319 || d == 320
  | _ => false

/-! ## Building a frame -/

/-- An Ethernet frame of a port for queue `q`, tagged when VID ≠ 0, without FCS and padded to 60 bytes (R340). -/
def State.ethFrame (s : State) (p q : Nat) (dst : List Byte) (type : Nat) (payload : List Byte) : List Byte :=
  let vid := s.fld (Reg.NET_PORT_CFG p) 16 12
  let tag := if vid = 0 then [] else beBytes 2 0x8100 ++ beBytes 2 (q * 2 ^ 13 + vid)
  let f := dst ++ s.mac p ++ tag ++ beBytes 2 type ++ payload
  f ++ List.replicate (60 - f.length) 0

/-- An IPv4 packet; `opts` are options in whole words. -/
def ip4Packet (proto ttl : Nat) (src dst opts msg : List Byte) : List Byte :=
  let h := 20 + opts.length
  let head (c : Nat) : List Byte := beBytes 1 (0x40 + h / 4) ++ beBytes 1 0 ++ beBytes 2 (h + msg.length) ++ beBytes 2 0 ++ beBytes 2 0x4000
    ++ beBytes 1 ttl ++ beBytes 1 proto ++ beBytes 2 c ++ src ++ dst ++ opts
  head (checksum (head 0)) ++ msg

/-- An IPv6 packet; `ext` is an extension header in front of the message, whose next-header byte names `proto`. -/
def ip6Packet (proto hop : Nat) (src dst ext msg : List Byte) : List Byte :=
  beBytes 4 0x60000000 ++ beBytes 2 (ext.length + msg.length) ++ beBytes 1 (if ext.isEmpty then proto else 0) ++ beBytes 1 hop ++ src ++ dst ++ ext ++ msg

/-- Pseudo-header of IPv6 checksums. -/
def pseudo6 (proto : Nat) (src dst : List Byte) (n : Nat) : List Byte := src ++ dst ++ beBytes 4 n ++ beBytes 4 proto

/-- An ICMPv6 message with its checksum at offset 2. -/
def icmp6 (src dst msg : List Byte) : List Byte := patch msg 2 (beBytes 2 (checksum (pseudo6 58 src dst msg.length ++ msg)))

/-- A UDP datagram from port `p`'s own address to a group or address of 16 octets, as an Ethernet frame; none when the port has
no address of that version. -/
def State.udpFrame (s : State) (p q : Nat) (dst : List Byte) (mac : List Byte) (sport dport : Nat) (body : List Byte) : List Byte :=
  let n := body.length + 8
  let head (c : Nat) : List Byte := beBytes 2 sport ++ beBytes 2 dport ++ beBytes 2 n ++ beBytes 2 c
  let nz (c : Nat) : Nat := if c = 0 then 65535 else c
  if isMapped dst then
    let a := dst.drop 12
    let ps := s.ip4 p ++ a ++ beBytes 2 17 ++ beBytes 2 n
    s.ethFrame p q mac 0x0800 (ip4Packet 17 1 (s.ip4 p) a [] (head (nz (checksum (ps ++ head 0 ++ body))) ++ body))
  else
    let src := if zeroAddr (s.ip6 p) then s.linkLocal p else s.ip6 p
    s.ethFrame p q mac 0x86DD (ip6Packet 17 1 src dst [] (head (nz (checksum (pseudo6 17 src dst n ++ head 0 ++ body))) ++ body))

end Sys2Proof.Machine
end

