-- ==== Sys2Proof/Machine/Egress.lean ====
section
/-! DEFINITION.  Egress queues (R370, R371), the credit-based shaper (R372 to R374), fair queuing (R375, R376) and the
transparent clock (R349), which corrects a message as its transmission starts. -/

namespace Sys2Proof.Machine

/-! ## The transparent clock -/

/-- Time base whose rate a domain's messages are corrected with (R349). -/
def State.domainBase (s : State) (d : Nat) : Option Nat :=
  if d = s.fld Reg.TIME_CFG 16 8 then some 0 else if d = s.fld Reg.TIME_CFG 24 8 then some 1 else none

/-- Residence time in 2^−16 ns: TB3 counts nominally between its settings, so a duration in 0.02 ns is a duration of TB3; scaled
with the rate ratio of the domain's time base. -/
def State.residence (s : State) (domain units : Nat) : Int :=
  let tb3 : Int := (units * 2 ^ 16 : Nat) / 50
  match s.domainBase domain with
  | some b => tb3 * (if b = 0 then s.time.tb0.line.addend else s.time.tb1.line.addend : Nat) / 0x14000000000
  | none => tb3

/-- A signed register of NET in 2^−16 ns. -/
def State.netAdj (s : State) (a : Nat) : Int := signed 32 (s.nat a)

/-- Add to the correctionField of the PTP message whose UDP header lies at `o`; the UDP checksum follows incrementally. -/
def addCorrection (f : List Byte) (o : Nat) (c : Int) : List Byte :=
  let old := (f.drop (o + 16)).take 8
  let new := beBytes 8 (unsigned 64 (signed 64 (beNat old) + c))
  let sum := beAt f (o + 6) 2
  let f := patch f (o + 16) new
  if sum = 0 then f else patch f (o + 6) (beBytes 2 (checksumUpdate sum old new))

/-- A forwarded event message leaves port `x` at `units` of 0.02 ns (R349): Sync, Delay_Req or Follow_Up. -/
def State.tcCorrect (s : State) (x units : Nat) (fr : QFrame) : List Byte × State :=
  match fr.tc, classify fr.bytes with
  | some (c, p), .udp _ _ _ _ _ o =>
    let m := fr.bytes.drop (o + 8)
    let kind := beAt m 0 1 % 16
    let two := (beAt m 6 1) / 2 % 2 == 1
    let key := (m.drop 20).take 10
    let seq := beAt m 30 2
    let stay := s.residence (beAt m 4 1) (units - 125 * c) + s.netAdj (Reg.NET_EGR_ADJ x) + s.netAdj (Reg.NET_ING_ADJ p)
    let asym := s.netAdj (Reg.NET_ASYM p)
    let count (s : State) : State := s.incFld (Reg.NET_TC_CNT x) 0 16 1
    if kind = 0 ∧ two then
      let e : TcEntry := { source := key, seq := seq, residence := stay + asym, at_ := s.now }
      let tc := s.net.tc ++ [e]
      (fr.bytes, { s with net := { s.net with tc := tc.drop (tc.length - 16) } })
    else if kind = 0 then (addCorrection fr.bytes o (stay + asym), count s)
    else if kind = 1 then (addCorrection fr.bytes o (stay - asym), count s)
    else if kind = 8 then
      match s.net.tc.find? fun e => e.source == key && e.seq == seq && s.now ≤ e.at_ + ms 1000 with
      | some e => (addCorrection fr.bytes o e.residence, count { s with net := { s.net with tc := s.net.tc.filter (· != e) } })
      | none => (fr.bytes, s.incFld (Reg.NET_TC_CNT x) 16 16 1)
    else (fr.bytes, s)
  | _, _ => (fr.bytes, s)

/-! ## Shaper -/

/-- PRESET of a queue in effect. -/
def State.shapePreset (s : State) (x q : Nat) : Nat := s.fld (Reg.TRAF_CLASS x q) 0 4
/-- The queue runs the shaper (R372). -/
def State.shaped (s : State) (x q : Nat) : Bool := s.shapePreset x q != 1 && q != 7
/-- SLOPE in Mb/s. -/
def State.slope (s : State) (x q : Nat) : Nat := s.fld (Reg.TRAF_CBS_SLOPE x q) 0 17
/-- BURST in 1/400,000 byte. -/
def State.burstUnits (s : State) (x q : Nat) : Int := (400000 * s.fld (Reg.TRAF_CBS_BURST x q) 0 20 : Nat)

/-- Instant of a control cycle in 0.02 ns. -/
def unitsOf (c : Nat) : Nat := 125 * c
/-- Time that `n` frame bytes without FCS take on the wire (R372), in 0.02 ns: 0.08 ns a byte. -/
def wireUnits (n : Nat) : Nat := 4 * (n + 4 + 20)

def State.egress (s : State) (x : Nat) : EgressPort := s.traf.ports.getD x {}
def State.setEgress (s : State) (x : Nat) (e : EgressPort) : State := { s with traf := { s.traf with ports := s.traf.ports.set x e } }
def EgressPort.queue (e : EgressPort) (q : Nat) : EgressQueue := e.queues.getD q {}
def EgressPort.setQueue (e : EgressPort) (q : Nat) (v : EgressQueue) : EgressPort := { e with queues := e.queues.set q v }

/-- Credit of a queue at an instant (R372): it falls while the queue transmits and rises otherwise, up to BURST. -/
def State.creditAt (s : State) (x q at_ : Nat) : Int :=
  let e := s.egress x
  let v := e.queue q
  let sl : Int := s.slope x q
  let busy : Nat := match e.sending with
    | some (k, _, fin) => if k = q then min fin at_ - v.at_ else 0
    | none => 0
  let c := v.credit + (sl - 100000) * busy
  min (s.burstUnits x q) (c + sl * ((at_ - v.at_) - busy : Nat))

/-- Bring a queue's credit to an instant. -/
def State.settle (s : State) (x q at_ : Nat) : State :=
  let e := s.egress x
  if at_ ≤ (e.queue q).at_ then s
  else s.setEgress x (e.setQueue q { e.queue q with credit := if s.shaped x q then s.creditAt x q at_ else (e.queue q).credit, at_ := at_ })

/-- Settle every queue of a port. -/
def State.settlePort (s : State) (x at_ : Nat) : State := s.each (List.range 8) fun s q => s.settle x q at_

/-- TRAF_CREDIT as read (R372): signed bytes toward zero; 0 for an unshaped queue. -/
def State.creditRead (s : State) (x q : Nat) : Word :=
  if s.shaped x q then Word.ofNat (unsigned 32 (Int.tdiv (s.creditAt x q (unitsOf s.now)) 400000)) else 0

/-- SLOPE and BURST of a preset (Table 17-3). -/
def presetSlope (p : Nat) : Option Nat :=
  match p with
  | 2 => some 1000 | 3 => some 2500 | 4 => some 5000 | 5 => some 10000 | 6 => some 25000 | 7 => some 40000 | 8 => some 50000
  | 9 => some 75000 | _ => none

/-- A queue may be served at an instant (R372). -/
def State.eligibleQueue (s : State) (x q at_ : Nat) : Bool :=
  !((s.egress x).queue q).frames.isEmpty && (!s.shaped x q || decide (0 ≤ s.creditAt x q at_))

/-! ## Scheduling -/

/-- Head frames of the streams of a queue: the first frame of each. -/
def heads (l : List QFrame) : List QFrame :=
  l.foldl (fun acc f => if acc.any fun (g : QFrame) => g.stream == f.stream then acc else acc ++ [f]) []

/-- The head frame with the smallest start tag, the lower stream number on a tie (R376). -/
def nextFrame (l : List QFrame) : Option QFrame :=
  (heads l).foldl (fun best f => match best with
    | none => some f
    | some g => if f.start < g.start ∨ (f.start = g.start ∧ f.stream < g.stream) then some f else some g) none

/-- The port starts the frame that is due at an instant, or stays idle (R370, R372, R376). -/
def State.serve (s : State) (x at_ : Nat) : State :=
  let e := s.egress x
  if e.sending.isSome then s
  else match ((List.range 8).reverse.find? fun q => s.eligibleQueue x q at_) with
    | none => s
    | some q =>
      let s := s.settlePort x at_
      let e := s.egress x
      let v := e.queue q
      match nextFrame v.frames with
      | none => s
      | some f =>
        let (bytes, s) := s.tcCorrect x at_ f
        let cyc := at_ / 125
        let v := { v with frames := v.frames.erase f, vtime := f.start, left := (if v.leftAt = cyc then v.left else []) ++ [f], leftAt := cyc }
        let s := s.setEgress x { (e.setQueue q v) with sending := some (q, at_, at_ + wireUnits f.bytes.length) }
        let s := if f.stream < 32 then s.incFld (Reg.TRAF_OUT_STAT x f.stream) 0 32 1 else s
        (s.incFld (Reg.NET_TX_CNT x) 0 32 1).emit (.eth x q bytes)

/-- Egress stream of a frame in a queue (R375). -/
def State.egressStream (s : State) (x q : Nat) (f : List Byte) : Nat :=
  let k := classify f
  let dst : List Byte := match k with
    | .udp _ _ d _ _ _ => d
    | .control _ _ _ d _ => d
    | _ => []
  let port : Nat := match k with
    | .udp _ _ _ _ d _ => d
    | _ => 0
  ((List.range 32).find? fun n =>
    let c := s.reg (Reg.TRAF_OUT_CFG x n)
    let a := (List.range 4).flatMap fun w => leBytes 4 (s.nat (Reg.TRAF_OUT_ADDR x n w))
    c.bit 0 && c.field 4 3 == q && (zeroAddr a || a == dst) && (c.field 16 16 == 0 || c.field 16 16 == port)).getD 32

/-- Weight of an egress stream. -/
def State.streamWeight (s : State) (x q k : Nat) : Nat :=
  max 1 (if k < 32 then s.fld (Reg.TRAF_OUT_CFG x k) 8 8 else s.fld (Reg.TRAF_CLASS x q) 24 8)

/-- Bytes that a queue holds, FCS included. -/
def EgressQueue.bytes (v : EgressQueue) : Nat := (v.frames.map fun f => f.bytes.length + 4).sum

/-- A frame goes to queue `q` of port `x`, or is dropped at the tail (R371); an idle port starts it. -/
def State.enqueue (s : State) (x q : Nat) (f : List Byte) (tc : Option (Nat × Nat)) : State :=
  let e := s.egress x
  let v := e.queue q
  if s.fld (Reg.TRAF_CLASS x q) 8 11 * 1024 < v.bytes + f.length + 4 then
    let recent := (v.drops.filter fun c => s.now < c + ms 1000) ++ [s.now]
    let quiet := limited v.dropAt (ms 1000) s.now
    let s := s.setEgress x (e.setQueue q { v with drops := recent, dropAt := if quiet then v.dropAt else some s.now })
    let s := s.incFld (Reg.TRAF_QDROP x q) 0 32 1
    if quiet then s else s.raise Ev.TRAF_QUEUE_DROP [x, q, recent.length]
  else
    let k := s.egressStream x q f
    let last := (v.frames.filter fun (g : QFrame) => g.stream == k).getLast?
    let start := (last.map fun (g : QFrame) => g.finish).getD v.vtime
    let fin := start + ((f.length + 24 : Nat) : Rat) / ((s.streamWeight x q k : Nat) : Rat)
    let new : QFrame := { bytes := f, stream := k, start := start, finish := fin, at_ := s.now, tc := tc }
    (s.setEgress x (e.setQueue q { v with frames := v.frames ++ [new] })).serve x (unitsOf s.now)

/-- Queue of control protocols (Table 17-2). -/
def State.ctrlQueue (s : State) : Nat := s.fld Reg.TRAF_LOCAL 0 3
/-- Queue of heartbeats. -/
def State.hbQueue (s : State) : Nat := s.fld Reg.TRAF_LOCAL 4 3

/-- Queue of a forwarded frame (Table 17-2). -/
def State.forwardQueue (s : State) (x : Nat) (f : List Byte) : Nat :=
  if isPtp (classify f) then 7
  else match frameTag f with
    | some (p, _) => min p 6
    | none => s.fld (Reg.TRAF_PORT_CFG x) 0 3

/-- TRAF_EGRESS_DONE (R370, R372): the frame in transmission ends, and the next starts at once if one is eligible. -/
def execTrafEgressDone (t : Nat) (port : Fin 2) (s : State) : Res :=
  let s := s.advance t
  .next (match (s.egress port).sending with
    | none => s
    | some (_, _, fin) =>
      -- the frame ends at an instant of this cycle
      if unitsOf (s.now + 1) ≤ fin then s
      else
        let s := s.settlePort port fin
        (s.setEgress port { s.egress port with sending := none }).serve port fin)

/-- Instant at which a queue's credit reached 0, not before the last frame ended. -/
def State.zeroCross (s : State) (x q : Nat) : Nat :=
  let v := (s.egress x).queue q
  if 0 ≤ v.credit ∨ s.slope x q = 0 then v.at_ else v.at_ + ceilDiv (-v.credit).toNat (s.slope x q)

/-- SHAPED_QUEUE_ELIGIBLE (R372): on an idle port the queue starts its frame at the instant its credit reached 0. -/
def execShapedQueueEligible (t : Nat) (port : Fin 2) (queue : Fin 8) (s : State) : Res :=
  let s := s.advance t
  .next (s.serve port (min (unitsOf (s.now + 1) - 1) (max (s.zeroCross port queue) ((s.egress port).queue queue).at_)))

/-- A change of a queue's settings keeps its credit, up to the new BURST (R373); `f` makes the change. -/
def State.reshape (s : State) (x q : Nat) (f : State → State) : State :=
  let s := f (s.settle x q (unitsOf s.now))
  let e := s.egress x
  let v := e.queue q
  s.setEgress x (e.setQueue q { v with credit := min (s.burstUnits x q) v.credit })

/-- The preset of a queue expands (R374). -/
def State.expandShape (s : State) (x q : Nat) : State :=
  match presetSlope (s.shapePreset x q) with
  | some m => (s.setFld (Reg.TRAF_CBS_SLOPE x q) 0 17 m).setFld (Reg.TRAF_CBS_BURST x q) 0 20 18432
  | none => s

/-! ## Histograms -/

/-- Bin of a value (R377): `u` is the unit as a power of two. -/
def histBin (u v : Nat) : Nat := if v = 0 then 0 else min 15 (1 + Nat.log2 (v / 2 ^ u + 1))

/-- TRAF_HIST_SAMPLE (R377): once per 1 ms. -/
def execTrafHistSample (t : Nat) (s : State) : Res :=
  let s := s.advance t
  .next (if limited s.traf.histAt (ms 1) s.now then s
    else ({ s with traf := { s.traf with histAt := some s.now } }).each [0, 1] fun s x => s.each (List.range 8) fun s q =>
    let v := (s.egress x).queue q
    -- a frame that enters or leaves in the sample cycle is counted after the sample
    let old := { v with frames := ((if v.leftAt = s.now then v.left else []) ++ v.frames).filter fun (f : QFrame) => f.at_ < s.now }
    let age : Nat := match old.frames with
      | f :: _ => (s.now - f.at_) * 5 / 2
      | [] => 0
    let d := histBin (s.fld (Reg.TRAF_PORT_CFG x) 8 4) old.bytes
    let a := histBin (s.fld (Reg.TRAF_PORT_CFG x) 16 4) age
    (s.incFld (Reg.TRAF_HIST x q 0 d) 0 32 1).incFld (Reg.TRAF_HIST x q 1 a) 0 32 1)

/-- TRAF_CTL_CLEAR_CNT (R378): every counter but SEQ. -/
def execTrafCtlClearCnt (t : Nat) (req : Requester) (s : State) : Res :=
  .next ((s.advance t).control req Reg.TRAF_CTL 1 fun s =>
    let s := s.each [0, 1] fun s x => s.each (List.range 8) fun s q => s.setReg (Reg.TRAF_QDROP x q) 0
    let s := s.each [0, 1] fun s x => s.each (List.range 32) fun s k => s.setReg (Reg.TRAF_OUT_STAT x k) 0
    s.each (List.range 256) fun s i =>
      (((s.setReg (Reg.TRAF_IN_CNT i 0) 0).setReg (Reg.TRAF_IN_CNT i 1) 0).setReg (Reg.TRAF_IN_CNT i 2) 0).setFld (Reg.TRAF_IN_CNT i 3) 16 16 0)

/-- TRAF_CTL_CLEAR_HIST (R378). -/
def execTrafCtlClearHist (t : Nat) (req : Requester) (s : State) : Res :=
  .next ((s.advance t).control req Reg.TRAF_CTL 2 fun s => s.resetRange (Reg.TRAF_HIST 0 0 0 0) (Reg.TRAF_HIST 2 0 0 0))

end Sys2Proof.Machine
end

