-- ==== Sys2Proof/Machine/Time.lean ====
section
/-! DEFINITION.  Network time (chapter 16): the PTP slaves and their time bases (R345 to R350), show time and its source
(R352 to R354), comparators and time outputs (R355 to R359), captures and the shared ball (R360, R361). -/

namespace Sys2Proof.Machine

/-! ## Time lines -/

/-- Nominal addend (R350). -/
def nominalAddend : Nat := 0x14000000000
/-- An addend within ±500 ppm of nominal (R350). -/
def limitAddend (a : Nat) : Nat := min (nominalAddend + 687194767) (max (nominalAddend - 687194767) a)
/-- The line carried on from cycle `c` with another addend. -/
def TimeLine.steer (l : TimeLine) (c addend : Nat) : TimeLine := { at_ := c, value := l.at c, addend := addend }
/-- The line moved by a time in 2^−16 ns. -/
def TimeLine.step (l : TimeLine) (c : Nat) (d : Int) : TimeLine :=
  { at_ := c, value := ((l.at c : Int) + d * 2 ^ 24).toNat, addend := l.addend }

/-! ## Show time (R352, R353) -/

/-- STATE of TB0 or TB1: 0 FREE, 1 ACQUIRING, 2 LOCKED, 3 HOLDOVER. -/
def State.tbState (s : State) (b : Nat) : Nat := s.fld Reg.TIME_STAT (2 * b) 2
/-- Source followed. -/
def State.tbSource (s : State) : Nat := s.fld Reg.TIME_STAT 4 3
/-- Slave of TB0 or TB1. -/
def State.slave (s : State) (b : Nat) : SlaveState := if b = 0 then s.time.tb0 else s.time.tb1
def State.setSlave (s : State) (b : Nat) (x : SlaveState) : State :=
  if b = 0 then { s with time := { s.time with tb0 := x } } else { s with time := { s.time with tb1 := x } }

/-- Limits of a slew in the units of `Slew`: SLEW ppm, and ACCEL × 0.1 ppm per ms. -/
def State.slewMax (s : State) : Nat := s.fld Reg.TIME_TB2_CFG 4 9 * 4000000
def State.slewAccel (s : State) : Nat := s.fld Reg.TIME_TB2_CFG 16 8

/-- TB2 follows a line: at once before the first latch instant, afterwards by slewing (R353). -/
def State.followLine (s : State) (l : TimeLine) : State :=
  let t := s.time
  if !s.frame.latched then { s with time := { t with tb2 := l, slew := {} } }
  else
    let now2 := t.showFine s.now
    let rate := (t.slew.eval (s.now - t.slew.start)).2 + ((t.tb2.addend : Int) - l.addend) * 3200000000000 / 2 ^ 40
    let off := fineToSlew ((now2 : Int) - l.at s.now)
    { s with time := { t with tb2 := l, slew := { start := s.now, off := off, rate := rate, slewMax := s.slewMax, accel := s.slewAccel } } }

/-- Addend that matches the 10 MHz input: TB3 is fast against it by FERR × 0.01 ppm. -/
def State.refAddend (s : State) : Nat :=
  if s.bit Reg.TIME_REF_STAT 0 then
    ((nominalAddend : Int) - (nominalAddend : Int) * signed 16 (s.fld Reg.TIME_REF_STAT 16 16) / 100000000).toNat
  else s.time.tb2.addend

/-- The line of a source; none where the source has none of its own. -/
def State.sourceLine (s : State) (src : Nat) : Option TimeLine :=
  match src with
  | 0 => some s.time.tb0.line
  | 1 => some s.time.tb1.line
  | 4 => s.time.chainLine
  | 5 => some s.time.tb3
  | _ => none

/-- The auto source of Table 16-4 while `cur` is followed: it does not revert, unless REVERT = 1 and TB0 has been LOCKED for 10 s. -/
def State.autoSource (s : State) (cur : Nat) : Nat :=
  let back := s.bit Reg.TIME_TB2_CFG 3 && s.time.tb0.lockedSince.any fun c => decide (c + ms 10000 ≤ s.now)
  if cur = 1 ∧ s.tbState 1 = 2 ∧ !(back && s.tbState 0 == 2) then 1
  else if s.tbState 0 = 2 then 0
  else if s.tbState 1 = 2 then 1
  else 6

/-- The chain's time cannot be followed: the member's loop is in holdover (R387). -/
def State.loopHoldover (s : State) : Bool := s.chain.chained && s.fld Reg.LANE_LOOP_STAT 0 3 == 3

/-- The source that TIME_TB2_CFG selects now (Table 16-4, R354, R387). -/
def State.wantedSource (s : State) : Nat :=
  match s.fld Reg.TIME_TB2_CFG 0 3 with
  | 2 => s.autoSource s.tbSource
  | 3 => if s.bit Reg.TIME_REF_STAT 0 && s.bit Reg.TIME_REF_STAT 1 then 3 else 6
  | 4 => if s.loopHoldover then s.autoSource s.tbSource else 4
  | k => k

/-- TB2 follows its source's line as it stands now. -/
def State.follow (s : State) : State :=
  match s.sourceLine s.tbSource with
  | some l => s.followLine l
  | none => s

/-- The source is chosen; a change raises TIME_TB2_SOURCE with the offset of TB2 from the new source. -/
def State.pickSource (s : State) : State :=
  let new := s.wantedSource
  let old := s.tbSource
  if new = old then s
  else
    let off : Int := match s.sourceLine new with
      | some l => roundDivInt ((s.time.showFine s.now : Int) - l.at s.now) (2 ^ 40)
      | none => 0
    let s := (s.setFld Reg.TIME_STAT 4 3 new).raise Ev.TIME_TB2_SOURCE [old, new, argInt off]
    if new = 3 then s.followLine { at_ := s.now, value := s.time.showFine s.now, addend := s.refAddend } else s.follow

/-! ## PTP slaves (R345 to R347) -/

/-- The slave runs on port `p`. -/
def State.slavePort (s : State) (b p : Nat) : Bool := s.bit Reg.TIME_CFG (4 + 2 * b + p)

/-- Control cycles of `n` intervals of 2^log seconds. -/
def logCycles (n : Nat) (log : Int) : Nat :=
  if 0 ≤ log then n * 400000000 * 2 ^ log.toNat else n * 400000000 / 2 ^ (-log).toNat

/-- Lexicographic order of lists. -/
def lexLess : List Nat → List Nat → Bool
  | [], _ => false
  | _, [] => false
  | a :: as, b :: bs => a < b || (a == b && lexLess as bs)

/-- A clockIdentity held with octet 0 least significant, as an ordered number. -/
def identityKey (n : Nat) : Nat := beNat (leBytes 8 n)

/-- Data set of a master is better than another's (IEEE 1588-2019, 9.3.4); port A on a tie. -/
def betterMaster (a b : Master) : Bool :=
  if a.ann.gmId = b.ann.gmId then
    lexLess [a.ann.stepsRemoved, beNat a.ann.source, a.port] [b.ann.stepsRemoved, beNat b.ann.source, b.port]
  else
    lexLess [a.ann.priority1, a.ann.clockClass, a.ann.accuracy, a.ann.variance, a.ann.priority2, identityKey a.ann.gmId]
      [b.ann.priority1, b.ann.clockClass, b.ann.accuracy, b.ann.variance, b.ann.priority2, identityKey b.ann.gmId]

/-- A foreign master is qualified: a second Announce within four intervals, fewer than 255 steps, on a port in use. -/
def State.qualified (s : State) (b : Nat) (m : Master) : Bool :=
  s.slavePort b m.port && m.ann.stepsRemoved < 255 && m.before.any fun c => decide (m.at_ ≤ c + logCycles 4 m.ann.logInterval)

/-- The best of the qualified masters. -/
def State.bestMaster (s : State) (b : Nat) : Option Master :=
  ((s.slave b).masters.filter (s.qualified b)).foldl (fun best m => match best with
    | none => some m
    | some x => if betterMaster m x then some m else some x) none

/-- Data of the selected master. -/
def SlaveState.master (x : SlaveState) : Option Master :=
  match x.sel with
  | none => none
  | some (src, p) => x.masters.find? fun m => m.port == p && m.ann.source == src

/-- A time base changes state: TIME_TB_STATE, and the source of show time is chosen anew (R347, R352). -/
def State.setTbState (s : State) (b new : Nat) : State :=
  let old := s.tbState b
  if old = new then s
  else
    let x := s.slave b
    let gm := (x.master.map fun (m : Master) => m.ann.gmId).getD 0
    let s := s.setSlave b { x with lockedSince := if new = 2 then some s.now else none, good := 0, bad := 0 }
    ((s.setFld Reg.TIME_STAT (2 * b) 2 new).raise Ev.TIME_TB_STATE [b, old, new, gm % 2 ^ 32]).pickSource

/-- The best master clock algorithm runs (R346): a newly selected master returns the time base to ACQUIRING; with none left a
LOCKED time base holds over and an ACQUIRING one is FREE. -/
def State.selectMaster (s : State) (b : Nat) : State :=
  let x := s.slave b
  let sel := (s.bestMaster b).map fun m => (m.ann.source, m.port)
  if sel = x.sel then s
  else
    let s := s.setSlave b { x with sel := sel, twoStep := none, delayReq := none, delayAt := none, mpd := [], good := 0, bad := 0, lastSync := s.now }
    match sel with
    | some _ => s.setTbState b 1
    | none => if s.tbState b = 1 then s.setTbState b 0 else if s.tbState b = 2 then s.setTbState b 3 else s

/-- A sorted list of numbers. -/
def sortInts (l : List Int) : List Int :=
  l.foldl (fun acc x => acc.takeWhile (fun y => decide (y ≤ x)) ++ [x] ++ acc.dropWhile fun y => decide (y ≤ x)) []

/-- The median; of an even number the mean of the middle two, rounded down. -/
def median (l : List Int) : Int :=
  let s := sortInts l
  let n := s.length
  if n = 0 then 0 else if n % 2 = 1 then s.getD (n / 2) 0 else (s.getD (n / 2 - 1) 0 + s.getD (n / 2) 0) / 2

/-- 1 µs in 2^−16 ns. -/
def oneMicro : Int := 65536000

/-- An offset from the master is known: step, or servo, and the lock state (R347). -/
def State.servo (s : State) (b : Nat) (offset : Int) : State :=
  let x := { s.slave b with offset := offset }
  let lock : Int := (s.fld Reg.TIME_SERVO_CFG 0 16 : Nat) * 65536
  let st := s.tbState b
  let off : Nat := offset.natAbs
  if (st = 1 ∨ st = 3) ∧ oneMicro < off then
    let s := s.setSlave b { x with line := x.line.step s.now (-offset), good := 0, bad := 0 }
    (s.setTbState b 1).follow
  else
    let add := limitAddend (Config.servoAddend b (s.fld Reg.TIME_SERVO_CFG 16 2) offset x.line.addend)
    let good := if off ≤ lock then x.good + 1 else 0
    let bad := if 4 * lock < off then x.bad + 1 else 0
    let s := s.setSlave b { x with line := x.line.steer s.now add, good := good, bad := bad }
    let s := if st = 2 then (if 4 ≤ bad then s.setTbState b 1 else s)
      else if 16 ≤ good then s.setTbState b 2
      else s.setTbState b 1
    if s.tbSource = b then s.follow else s

/-- A complete Sync: `origin` is its corrected time of departure (R346). -/
def State.takeSync (s : State) (b p : Nat) (stamp : Nat) (origin : Int) : State :=
  let d := (stamp : Int) - s.netAdj (Reg.NET_ING_ADJ p) - origin - s.netAdj (Reg.NET_ASYM p)
  let x := { s.slave b with syncDelta := d }
  (s.setSlave b x).servo b (d - median x.mpd)

/-- Slave that a message concerns: of its domain, from the selected master on its port. -/
def State.slaveOf (s : State) (p : Nat) (m : PtpMsg) : Option Nat :=
  (s.domainBase m.domain).filter fun b => (s.slave b).sel == some (m.source, p)

/-- PTP_SYNC (R346, R347). -/
def execPtpSync (t : Nat) (port : Fin 2) (msg : PtpMsg) (s : State) : Res :=
  let s := s.advance t
  .next (match s.slaveOf port msg with
    | none => s
    | some b =>
      let x := { s.slave b with lastSync := s.now, syncLog := msg.logInterval }
      if msg.twoStep then s.setSlave b { x with twoStep := some msg }
      else (s.setSlave b { x with twoStep := none }).takeSync b port msg.stamp ((msg.origin : Int) + msg.correction))

/-- PTP_FOLLOW_UP (R346): the precise origin time of a two-step Sync. -/
def execPtpFollowUp (t : Nat) (port : Fin 2) (msg : PtpMsg) (s : State) : Res :=
  let s := s.advance t
  .next (match s.slaveOf port msg with
    | none => s
    | some b => match (s.slave b).twoStep with
      | none => s
      | some y =>
        if y.seq ≠ msg.seq then s
        else (s.setSlave b { s.slave b with twoStep := none }).takeSync b port y.stamp ((msg.origin : Int) + y.correction + msg.correction))

/-- PTP_DELAY_RESP (R346): a path delay is measured; `stamp` is the egress stamp of the Delay_Req. -/
def execPtpDelayResp (t : Nat) (port : Fin 2) (msg : PtpMsg) (s : State) : Res :=
  let s := s.advance t
  .next (match s.slaveOf port msg with
    | none => s
    | some b =>
      let x := s.slave b
      match x.delayReq with
      | none => s
      | some (_, n) =>
        if n ≠ msg.seq then s
        else
          let back := (msg.origin : Int) - (msg.stamp + s.netAdj (Reg.NET_EGR_ADJ port)) - msg.correction
          let mpd := x.mpd ++ [(x.syncDelta + back) / 2]
          s.setSlave b { x with delayReq := none, delayLog := msg.logInterval, mpd := mpd.drop (mpd.length - 8) })

/-- PTP_ANNOUNCE (R346). -/
def execPtpAnnounce (t : Nat) (port : Fin 2) (msg : PtpAnnounce) (s : State) : Res :=
  let s := s.advance t
  .next (match s.domainBase msg.domain with
    | none => s
    | some b =>
      if !s.slavePort b port then s
      else
        let x := s.slave b
        let same (m : Master) : Bool := m.port == port.val && m.ann.source == msg.source
        let before := (x.masters.find? same).map fun (m : Master) => m.at_
        let new : Master := { port := port, ann := msg, at_ := s.now, before := before }
        let mine := x.sel == some (msg.source, port.val)
        let x := { x with masters := x.masters.filter (fun m => !same m) ++ [new] }
        let x := if mine then { x with lastAnnounce := s.now, announceLog := msg.logInterval } else x
        let s := (s.setSlave b x).selectMaster b
        let y := s.slave b
        if y.sel = some (msg.source, port.val) then s.setSlave b { y with lastAnnounce := s.now, announceLog := msg.logInterval } else s)

/-- A Delay_Req message of a slave: the header of IEEE 1588-2019 and a zero origin timestamp; the asymmetry of the port is taken off
its correctionField (clause 16.8). -/
def State.delayReqBytes (s : State) (b p seq : Nat) : List Byte :=
  beBytes 1 1 ++ beBytes 1 0x12 ++ beBytes 2 44 ++ beBytes 1 (if b = 0 then s.fld Reg.TIME_CFG 16 8 else s.fld Reg.TIME_CFG 24 8) ++ beBytes 3 0
    ++ beBytes 8 (unsigned 64 (-s.netAdj (Reg.NET_ASYM p))) ++ beBytes 4 0 ++ s.eui64 p ++ beBytes 2 1 ++ beBytes 2 seq ++ beBytes 1 1 ++ beBytes 1 0x7F
    ++ List.replicate 10 0

/-- PTP primary multicast address by transport. -/
def State.ptpGroup (s : State) : List Byte :=
  if s.bit Reg.TIME_CFG 8 then [0xFF, 0x0E, 0, 0, 0, 0, 0, 0, 0, 0, 0, 0, 0, 0, 0x01, 0x81] else mapped4 [224, 0, 1, 129]

/-- PTP_DELAY_REQ_DUE (R346, R348): the slave sends a Delay_Req on the port of its master, in queue 7. -/
def execPtpDelayReqDue (t : Nat) (tb : Fin 2) (s : State) : Res :=
  let s := s.advance t
  let x := s.slave tb
  .next (match x.sel with
    | none => s
    | some (_, p) =>
      if x.delayAt.any fun c => decide (s.now < c + logCycles 1 x.delayLog) then s
      else
        let n := (x.delaySeq + 1) % 2 ^ 16
        let s := s.setSlave tb { x with delaySeq := n, delayAt := some s.now, delayReq := some (flatFns (s.time.tbFine tb s.now), n) }
        s.enqueue p 7 (s.udpFrame p 7 s.ptpGroup (groupMac s.ptpGroup) 319 319 (s.delayReqBytes tb p n)) none)

/-- A PTP message of a time base's master arrives in this cycle (R17). -/
def State.syncNow (s : State) (b : Nat) : Bool :=
  s.sameCycle fun i => match i with
    | .ptpSync _ p m => s.slaveOf p m == some b
    | _ => false

def State.announceNow (s : State) (b : Nat) : Bool :=
  s.sameCycle fun i => match i with
    | .ptpAnnounce _ p m => s.domainBase m.domain == some b && (s.slave b).sel == some (m.source, p.val)
    | _ => false

/-- PTP_SYNC_TIMEOUT (R347): no Sync within three intervals puts a LOCKED time base in HOLDOVER. -/
def execPtpSyncTimeout (t : Nat) (tb : Fin 2) (s : State) : Res :=
  let s := s.advance t
  let x := s.slave tb
  .next (if s.tbState tb = 2 ∧ x.lastSync + logCycles 3 x.syncLog ≤ s.now ∧ !s.syncNow tb then s.setTbState tb 3 else s)

/-- PTP_ANNOUNCE_TIMEOUT (R347): the master is gone; three Announce intervals in both profiles. -/
def execPtpAnnounceTimeout (t : Nat) (tb : Fin 2) (s : State) : Res :=
  let s := s.advance t
  let x := s.slave tb
  .next (match x.sel with
    | none => s
    | some (src, p) =>
      if x.lastAnnounce + logCycles 3 x.announceLog ≤ s.now ∧ !s.announceNow tb then
        (s.setSlave tb { x with masters := x.masters.filter fun m => !(m.port == p && m.ann.source == src) }).selectMaster tb
      else s)

/-- TB2_REVERT_TIMEOUT (R352): TB0 has been LOCKED for 10 s without a break. -/
def execTb2RevertTimeout (t : Nat) (s : State) : Res := .next (s.advance t).pickSource

/-- TIME_CFG was written: both slaves return to ACQUIRING, one without a port stops (Table 16-9). -/
def State.timeConfigured (s : State) : State :=
  s.each [0, 1] fun s b =>
    if s.fld Reg.TIME_CFG (4 + 2 * b) 2 = 0 then
      (s.setSlave b { s.slave b with masters := [], sel := none, twoStep := none, delayReq := none, delayAt := none, mpd := [] }).setTbState b 0
    else
      let s := s.setSlave b { s.slave b with masters := [], sel := none, twoStep := none, delayReq := none, delayAt := none, mpd := [] }
      s.setTbState b 1

/-! ## References -/

/-- An edge on PPS_IN: TB2 takes it for the nearest whole second, with SRC = 0x3 (R354). -/
def State.ppsSteer (s : State) : State :=
  let s := { s with time := { s.time with lastPps := s.now, ppsPresent := true } }
  let s := (s.setBit Reg.TIME_REF_STAT 1 true).pickSource
  if s.tbSource = 3 then
    let sec := 1000000000 * 2 ^ 40
    let v := (s.time.showFine s.now + sec / 2) / sec * sec
    s.followLine { at_ := s.now, value := v, addend := s.refAddend }
  else s

/-- REF10M_INPUT_RETURN (R354): the 10 MHz input is present on its ball; its frequency against TB3 is measured. -/
def execRef10mInputReturn (t : Nat) (s : State) : Res :=
  let s := s.advance t
  .next (if s.fld Reg.TIME_STAT 8 2 ≠ 2 then s
    else
      let s := { s with time := { s.time with refPresent := true, refSince := s.now } }
      let s := (s.setBit Reg.TIME_REF_STAT 0 true).setFld Reg.TIME_REF_STAT 16 16 (Config.refError s.fresh % 2 ^ 16)
      s.useFresh.pickSource)

/-- TIME_REF_TIMEOUT (R354): input 0 is the 10 MHz input, 1 PPS_IN; an edge in the cycle of expiry counts (R17). -/
def execTimeRefTimeout (t : Nat) (input : Fin 2) (s : State) : Res :=
  let s := s.advance t
  let edge := s.sameCycle fun i => match i with
    | .ppsInEdge _ => input == 1
    | .ref10mInputReturn _ => input == 0
    | _ => false
  let due : Bool := if input = 1 then s.time.ppsPresent && decide (s.time.lastPps + us 1100000 ≤ s.now)
    else s.time.refPresent && decide (s.time.refSince + us 10 ≤ s.now)
  .next (if !due ∨ edge then s
    else
      let s := if input = 1 then { s with time := { s.time with ppsPresent := false } } else { s with time := { s.time with refPresent := false } }
      ((s.setBit Reg.TIME_REF_STAT (if input = 1 then 1 else 0) false).raise Ev.TIME_REF_LOSS [input.val + 1]).pickSource)

/-! ## TIME_CTL -/

/-- Addend of time base `b` (R350). -/
def State.tbAddend (s : State) (b : Nat) : Nat :=
  match b with
  | 0 => s.time.tb0.line.addend
  | 1 => s.time.tb1.line.addend
  | 2 => s.time.tb2.addend
  | _ => s.time.tb3.addend

/-- One time base in TIME_TB (Table 16-9). -/
def State.snapBase (s : State) (b : Nat) : State :=
  let fine := s.time.tbFine b s.now
  let ns := fine / 2 ^ 40
  let x := if b < 2 then s.slave b else {}
  let m := if b < 2 then x.master else none
  let add := s.tbAddend b
  let ofs : Int := if b < 2 then roundDivInt x.offset 65536
    else if b = 2 then roundDivInt (slewToFine (s.time.slew.eval (s.now - s.time.slew.start)).1) (2 ^ 40) else 0
  let ptp : Nat := match m with
    | some m => m.ann.clockClass % 256 + m.ann.utcOffset % 2 ^ 16 * 2 ^ 8 + m.port % 2 * 2 ^ 24
    | none => 0
  let gm := (m.map fun (m : Master) => m.ann.gmId).getD 0
  let w : List Nat := [fine / 2 ^ 24 % 2 ^ 16, ns % 1000000000, ns / 1000000000, ns / 1000000000 / 2 ^ 32 % 2 ^ 16, add, add / 2 ^ 32 % 2 ^ 16,
    unsigned 32 (clampInt (-2147483648) 2147483647 ofs), (if b < 2 then (max 0 (median x.mpd)).toNat / 2 ^ 8 else 0), ptp, gm, gm / 2 ^ 32]
  s.each w.zipIdx fun s v => s.setNat (Reg.TIME_TB b v.2) v.1

/-- TIME_CTL_SNAP (R350): all time bases in one cycle. -/
def execTimeCtlSnap (t : Nat) (req : Requester) (s : State) : Res :=
  .next ((s.advance t).control req Reg.TIME_CTL 1 fun s => s.each [0, 1, 2, 3] State.snapBase)

/-- The time that TIME_SET names, 2^−40 ns. -/
def State.setTime (s : State) : Nat :=
  ((s.nat Reg.TIME_SET_SEC_LO + s.fld Reg.TIME_SET_SEC_HI 0 16 * 2 ^ 32) * 1000000000 + s.fld Reg.TIME_SET_NS 0 30) * 2 ^ 40

/-- TIME_CTL_SET_TB3 (R350). -/
def execTimeCtlSetTb3 (t : Nat) (req : Requester) (s : State) : Res :=
  .next ((s.advance t).control req Reg.TIME_CTL 2 fun s =>
    let s := { s with time := { s.time with tb3 := TimeLine.nominal s.now s.setTime } }
    if s.tbSource = 5 then s.follow else s)

/-- TIME_CTL_SET_TB2 (R353): refused after the first latch. -/
def execTimeCtlSetTb2 (t : Nat) (req : Requester) (s : State) : Res :=
  .next ((s.advance t).control req Reg.TIME_CTL 4 fun s =>
    { s with time := { s.time with tb2 := { s.time.tb2 with at_ := s.now, value := s.setTime }, slew := {} } })

/-! ## Comparators (R355 to R358) -/

def State.cmp (s : State) (n : Nat) : CmpState := s.time.cmp.getD n {}
def State.setCmp (s : State) (n : Nat) (x : CmpState) : State := { s with time := { s.time with cmp := s.time.cmp.set n x } }

/-- Comparators that are allocated. -/
def State.cmpUsed (s : State) : List Nat := bitsOf 8 (s.fld Reg.TIME_CMP_ALLOC_STAT 16 8)

/-- A comparator is asked for; a host request of the same cycle is served before a pattern's (R355). -/
def State.allocCmp (s : State) (req : Requester) : State :=
  let ahead : Nat := if req = .host then 0
    else (s.pending.filter fun i => i.cycle == s.now && match i with
      | .timeCmpAllocReq _ r => r == .host
      | _ => false).length
  match ((List.range 8).filter fun n => !s.cmpUsed.contains n)[ahead]? with
  | some n => s.setNat Reg.TIME_CMP_ALLOC_STAT (1 + n * 2 ^ 8 + (ofBits s.cmpUsed + 2 ^ n) * 2 ^ 16)
  | none => (s.setFld Reg.TIME_CMP_ALLOC_STAT 0 2 2).raise Ev.TIME_CONFLICT [1, if req = .host then 1 else 2, Reg.TIME_CMP_ALLOC]

/-- TIME_CMP_ALLOC_REQ (R355). -/
def execTimeCmpAllocReq (t : Nat) (req : Requester) (s : State) : Res :=
  .next ((s.advance t).control req Reg.TIME_CMP_ALLOC 1 fun s => s.allocCmp req)

/-- A comparator is released with EN cleared. -/
def State.freeCmp (s : State) (n : Nat) : State :=
  (s.setBit (Reg.TIME_CMP n 0) 0 false).setBit Reg.TIME_CMP_ALLOC_STAT (16 + n) false

/-- TIME_CMP_ALLOC_FREE (R355). -/
def execTimeCmpAllocFree (t : Nat) (req : Requester) (num : Fin 8) (s : State) : Res :=
  .next ((s.advance t).control req Reg.TIME_CMP_ALLOC (Word.ofNat (2 + num.val * 2 ^ 8)) fun s => s.freeCmp num)

/-- Target as written, 2^−16 ns. -/
def State.cmpTarget (s : State) (n : Nat) : Nat :=
  (s.nat (Reg.TIME_CMP n 2) + s.nat (Reg.TIME_CMP n 3) * 2 ^ 32) * 2 ^ 16 + s.fld (Reg.TIME_CMP n 1) 0 16

/-- A comparator's time base at the second 800 MHz edge of this cycle, 2^−16 ns. -/
def State.cmpNow (s : State) (n : Nat) : Nat :=
  let b := s.fld (Reg.TIME_CMP n 0) 4 2
  flatFns (s.time.tbFine b s.now + s.tbAddend b)

/-- EN was written 1: the target is taken; in cadence mode targets before now are past (R356, R357). -/
def State.armCmp (s : State) (n : Nat) : State :=
  let tgt := if s.fld (Reg.TIME_CMP n 0) 1 2 = 2 then s.cmpNow n else s.cmpTarget n
  s.setCmp n { target := tgt, lastEvent := none, suppressed := 0 }

/-- The exact target in effect; none while cadence mode has no cadence (R357). -/
def State.cmpExact (s : State) (n : Nat) : Option Nat :=
  let x := s.cmp n
  if s.fld (Reg.TIME_CMP n 0) 1 2 = 2 then
    match s.frame.cadence with
    | none => none
    | some c =>
      let off := signed 32 (s.nat (Reg.TIME_CMP n 2))
      let from_ : Int := (x.target / 2 ^ 16 : Nat) - off + 1
      let e : Int := (c.instant (c.first from_.toNat) : Nat) + off
      some (e.toNat * 2 ^ 16)
  else some x.target

/-- The comparator is armed and its target is reached (R356). -/
def State.cmpDue (s : State) (n : Nat) : Bool :=
  s.bit (Reg.TIME_CMP n 0) 0 &&
    match s.cmpExact n with
    | none => false
    | some e => decide (0 ≤ signed 80 (s.cmpNow n + 2 ^ 80 - e % 2 ^ 80))

/-- Level of a time output. -/
def State.setTout (s : State) (o : Nat) (high : Bool) : State :=
  let v := s.pins.tout
  { s with pins := { s.pins with tout := if v.testBit o == high then v else v ^^^ (1 <<< o) } }

/-- A pulse whose end has come: the output goes low (R358). -/
def State.endPulse (s : State) (o : Nat) : State :=
  if s.time.pulses.any fun p => p.1 == o && decide (p.2 ≤ s.now) then
    ({ s with time := { s.time with pulses := s.time.pulses.filter fun p => p.1 != o } }).setTout o false
  else s

/-- ACTION of a firing on its output (R358). -/
def State.cmpAction (s : State) (n : Nat) : State :=
  let o := s.fld (Reg.TIME_CMP n 0) 8 3
  if 3 < o then s
  else
    let s := s.endPulse o
    match s.fld (Reg.TIME_CMP n 0) 12 2 with
    | 0 => s.setTout o true
    | 1 => s.setTout o false
    | 2 => s.setTout o (!s.pins.tout.testBit o)
    | _ =>
      let fin := s.now + nsCycles (s.fld (Reg.TIME_CMP n 6) 0 24)
      let s := { s with time := { s.time with pulses := s.time.pulses.filter (fun (p : Nat × Nat) => p.1 != o) ++ [(o, fin)] } }
      s.setTout o true

/-- The target after a firing at exact target `e` (R357): EN clears, or E advances by PERIOD past now. -/
def State.advanceCmp (s : State) (n e : Nat) : State :=
  let x := s.cmp n
  match s.fld (Reg.TIME_CMP n 0) 1 2 with
  | 0 => (s.setBit (Reg.TIME_CMP n 7) 16 false).setBit (Reg.TIME_CMP n 0) 0 false
  | 1 =>
    let p := s.nat (Reg.TIME_CMP n 5) * 2 ^ 16 + s.fld (Reg.TIME_CMP n 4) 0 16
    let late := (s.cmpNow n + 2 ^ 80 - (e + p) % 2 ^ 80) % 2 ^ 80
    let past := decide (0 ≤ signed 80 late)
    let k := if past then late / p + 2 else 1
    (s.setCmp n { x with target := (e + k * p) % 2 ^ 80 }).setBit (Reg.TIME_CMP n 7) 16 past
  | _ => (s.setCmp n { x with target := e }).setBit (Reg.TIME_CMP n 7) 16 false

/-- TIME_CMP_FIRED, at most once per comparator per 1 ms (R358). -/
def State.cmpEvent (s : State) (n e : Nat) : State :=
  let x := s.cmp n
  if !s.bit (Reg.TIME_CMP n 0) 14 then s
  else if limited x.lastEvent (ms 1) s.now then s.setCmp n { x with suppressed := x.suppressed + 1 }
  else (s.setCmp n { x with lastEvent := some s.now, suppressed := 0 }).raise Ev.TIME_CMP_FIRED [n, e / 2 ^ 16, x.suppressed]

/-- A comparator fires when it is due. -/
def State.fireCmp (s : State) (n : Nat) : State :=
  if !s.cmpDue n then s
  else match s.cmpExact n with
    | none => s
    | some e => (((s.cmpAction n).incFld (Reg.TIME_CMP n 7) 0 16 1).cmpEvent n e).advanceCmp n e

/-- TIME_CMP_FIRE (R356 to R358): firings of one cycle apply in ascending comparator number. -/
def execTimeCmpFire (t : Nat) (cmp : Fin 8) (s : State) : Res :=
  let s := s.advance t
  let lower := (List.range cmp).filter fun m => s.sameCycle fun i => match i with
    | .timeCmpFire _ k => k.val == m
    | _ => false
  .next (s.each (lower ++ [cmp.val]) State.fireCmp)

/-- TIME_PULSE_END (R358). -/
def execTimePulseEnd (t : Nat) (out : Fin 4) (s : State) : Res := .next ((s.advance t).endPulse out)

/-! ## PPS_OUT (R359) -/

/-- The network step of cast-on is over (R52). -/
def State.networkUp (s : State) : Bool := s.ready || decide (6 ≤ s.fld Reg.CLKRST_CASTON_STAT 0 4)

/-- A whole second of time base `b` begins at one of this cycle's two edges (R350). -/
def State.secondBegins (s : State) (b : Nat) : Bool :=
  let v := s.time.tbFine b s.now
  let second : Nat := 1000000000 * 2 ^ 40
  (v + s.tbAddend b) / second != (v - s.tbAddend b) / second

/-- PPS_OUT_SECOND: a whole second of the selected time base begins. -/
def execPpsOutSecond (t : Nat) (s : State) : Res :=
  let s := s.advance t
  .next (if s.bit Reg.TIME_PPS_CFG 2 && s.networkUp && s.domainOn 78 && s.secondBegins (s.fld Reg.TIME_PPS_CFG 0 2) then
      { s with pins := { s.pins with ppsOut := true }, time := { s.time with ppsAt := some s.now } }
    else s)

/-- PPS_OUT_WIDTH_END: WIDTH µs later the output returns low. -/
def execPpsOutWidthEnd (t : Nat) (s : State) : Res :=
  let s := s.advance t
  .next (if s.time.ppsAt.any fun c => decide (s.now < c + us (s.fld Reg.TIME_PPS_CFG 8 20)) then s
    else { s with pins := { s.pins with ppsOut := false }, time := { s.time with ppsAt := none } })

/-! ## Captures (R360) -/

def State.cap (s : State) (m : Nat) : CapState := s.time.caps.getD m {}
def State.setCap (s : State) (m : Nat) (x : CapState) : State :=
  ({ s with time := { s.time with caps := s.time.caps.set m x } }).setFld (Reg.TIME_CAP_STAT m) 0 5 x.queue.length

/-- The capture stamps edges of this direction; capture 1 needs the shared ball (R361). -/
def State.captures (s : State) (m : Nat) (falling : Bool) : Bool :=
  let c := s.reg (Reg.TIME_CAP_CFG m)
  c.bit 0 && (c.field 1 2 == 2 || c.field 1 2 == bitOf falling) && (m != 1 || s.fld Reg.TIME_STAT 8 2 == 1)

/-- An edge is stamped and queued, or dropped when 16 wait (R360). -/
def State.capture (s : State) (m : Nat) (falling : Bool) : State :=
  if !s.captures m falling then s
  else
    let x := s.cap m
    let v := flatFns (s.time.tbFine (s.fld (Reg.TIME_CAP_CFG m) 4 2) s.now)
    if 16 ≤ x.queue.length then
      let s := s.incFld (Reg.TIME_CAP_STAT m) 16 16 1
      if limited x.overflowAt (ms 1000) s.now then s.setCap m { x with overflowCount := x.overflowCount + 1 }
      else (s.setCap m { x with overflowAt := some s.now, overflowCount := 0 }).raise Ev.TIME_CAP_OVERFLOW [m, s.fld (Reg.TIME_CAP_STAT m) 16 16]
    else
      let s := s.setCap m { x with queue := x.queue ++ [⟨v, falling⟩] }
      if s.bit (Reg.TIME_CAP_CFG m) 6 then s.raise Ev.TIME_CAPTURE [m, v / 2 ^ 16, v / 2 ^ 48, bitOf falling] else s

/-- TIME_CAPTURE_EDGE (R360). -/
def execTimeCaptureEdge (t : Nat) (cap : Fin 3) (falling : Bool) (s : State) : Res := .next ((s.advance t).capture cap falling)

/-- PPS_IN_EDGE (R354, R360): a rising edge steers show time and is captured. -/
def execPpsInEdge (t : Nat) (s : State) : Res := .next (((s.advance t).capture 2 false).ppsSteer)

/-- The oldest stamp is taken into FNS, LO and HI; without one VALID reads 0 and LO and HI hold. -/
def State.takeStamp (s : State) (m : Nat) : State :=
  let x := s.cap m
  match x.queue with
  | [] => s.setBit (Reg.TIME_CAP_FNS m) 31 false
  | v :: rest =>
    let s := s.setCap m { x with queue := rest }
    let s := s.setNat (Reg.TIME_CAP_FNS m) (v.flat % 2 ^ 16 + bitOf v.falling * 2 ^ 16 + 2 ^ 31)
    (s.setNat (Reg.TIME_CAP_LO m) (v.flat / 2 ^ 16)).setNat (Reg.TIME_CAP_HI m) (v.flat / 2 ^ 48)

/-- A host read that Table 3-6 or R423 does not carry out returns 0xFFFFFFFF; else `f` takes its effect and the register is returned. -/
def State.hostRead (s : State) (a : Nat) (f : State → State) : State :=
  if !s.ready && !s.earlyReadable a then (s.earlyAccess 0 a).emit (.completion (leBytes 4 0xFFFFFFFF))
  else if (s.resetOver a).isSome || !s.blockAnswers a then s.emit (.completion (leBytes 4 0xFFFFFFFF))
  else
    let s := f s
    s.emit (.completion (leBytes 4 (s.nat a)))

/-- TIME_CAP_FNS_READ (R360). -/
def execTimeCapFnsRead (t : Nat) (cap : Fin 3) (s : State) : Res :=
  .next ((s.advance t).hostRead (Reg.TIME_CAP_FNS cap) fun s => s.takeStamp cap)

/-! ## The shared ball (R361, R434) -/

/-- Owner of TCAP1_REF10M after the claims of a commit: 0 none, 1 capture 1, 2 the 10 MHz input. -/
def ballOwner (was : Nat) (ref cap : Bool) : Nat :=
  if was = 2 ∧ ref then 2 else if was = 1 ∧ cap then 1 else if ref then 2 else if cap then 1 else 0

/-- Claims on the ball among the writes of a commit: a claim that loses does not apply and raises TIME_CONFLICT. -/
def State.ballClaims (s : State) (due : List PendWrite) : State × List PendWrite :=
  let want (a : Nat) : Bool := ((waitingWrite due a).getD (s.reg a)).bit 0
  let ref := want Reg.TIME_REF_CFG
  let cap := want (Reg.TIME_CAP_CFG 1)
  let own := ballOwner (s.fld Reg.TIME_STAT 8 2) ref cap
  let lost (a : Nat) : Bool := (a == Reg.TIME_REF_CFG && ref && own != 2) || (a == Reg.TIME_CAP_CFG 1 && cap && own != 1)
  let s := s.each due fun s p =>
    if lost p.addr then s.raise Ev.TIME_CONFLICT [3, if p.req = .pattern then 2 else 1, p.addr] else s
  let due := due.map fun p => if lost p.addr then { p with data := p.data.put 0 1 0 } else p
  let s := s.setFld Reg.TIME_STAT 8 2 own
  let s := if own = 2 then s else ({ s with time := { s.time with refPresent := false } }).setBit Reg.TIME_REF_STAT 0 false
  (s, due)

end Sys2Proof.Machine
end

