-- ==== Sys2Proof/Machine/Eth.lean ====
section
/-! DEFINITION.  Reception on the Ethernet ports: the checks of R340, the reduced service of R67, the protocols of
R342, stream identification, policing and duplicate elimination (R365 to R369), cue frames and venue fragments
(R343, R344), and the settled link state (R363). -/

namespace Sys2Proof.Machine

/-! ## Links and the Ethernet heartbeat path -/

/-- Port `x` is enabled and has power. -/
def State.netOn (s : State) (x : Nat) : Bool := s.bit (Reg.NET_PORT_CFG x) 0 && s.domainOn (50 + x)

/-- The Ethernet heartbeat path can carry nothing (R392). -/
def State.hbEthBarred (s : State) : Bool :=
  zeroAddr (s.group (s.fld Reg.CHAIN_HB_CFG 16 4)) ||
  ([0, 1].all fun x => !(s.bit Reg.CHAIN_HB_CFG (21 + x) && s.netOn x && s.bit (Reg.NET_PORT_STAT x) 0))

/-- A path has changed state (R393). -/
def State.setPath (s : State) (path : Nat) (up : Bool) : State :=
  if s.bit Reg.CHAIN_HB_STAT path = up then s
  else (s.setBit Reg.CHAIN_HB_STAT path up).raise Ev.CHAIN_PATH_ALARM [s.partnerId.getD 0, path + 1, if up then 2 else 1]

/-- A case of R392 that begins takes the Ethernet path down. -/
def State.checkEthPath (s : State) : State := if s.paired && s.hbEthBarred then s.setPath 1 false else s

/-- A lane of Ethernet port `x` changes the link level in this cycle (R17). -/
def State.linkMoves (s : State) (x : Nat) : Bool :=
  let lo := 0x110 + 4 * x
  if s.upCount lo 4 = 4 then s.sameCycle fun i => match i with
    | .laneLockLoss _ l => decide (lo ≤ l.val) && decide (l.val < lo + 4)
    | _ => false
  else (List.range 4).all fun k => s.laneUp (lo + k) || s.sameCycle fun i => match i with
    | .laneStageDone _ l _ _ => l.val == lo + k && s.laneStage (lo + k) == 7
    | _ => false

/-- NET_LINK_SETTLE (R363): a link level that has held for 10 ms raises NET_LINK_STATE. -/
def execNetLinkSettle (t : Nat) (port : Fin 2) (s : State) : Res :=
  let s := s.advance t
  let x := port.val
  .next (match s.net.change.find? fun (c : Nat × Nat × Bool) => c.1 == x with
    | none => s
    | some c =>
      if s.now < c.2.1 + ms 10 ∨ s.linkMoves x then s
      else
        let s := { s with net := { s.net with change := s.net.change.filter fun (d : Nat × Nat × Bool) => d.1 != x } }
        s.checkEthPath.raise Ev.NET_LINK_STATE [x, if s.bit (Reg.NET_PORT_STAT x) 0 then 1 else 2])

/-! ## Cue frames (R343, R344) -/

/-- A dropped cue frame (R343, R362): at most one event per port per 10 ms, with the count since the last. -/
def State.cueDrop (s : State) (x reason : Nat) : State :=
  let d := s.net.cueDrop.getD x (none, 0)
  let put (v : Option Nat × Nat) : State := { s with net := { s.net with cueDrop := s.net.cueDrop.set x v } }
  if limited d.1 (ms 10) s.now then put (d.1, d.2 + 1)
  else (put (some s.now, 0)).raise Ev.NET_CUE_DROP [x, reason, d.2 + 1]

/-- Header of Table 16-2: MAGIC and VERSION hold, and TYPE is defined. -/
def cueHeaderOk (p : List Byte) : Bool :=
  20 ≤ p.length && leAt p 0 4 == 0x54484345 && leAt p 4 1 == 1 && (leAt p 5 1 == 1 || leAt p 5 1 == 2)

/-- A fragment's bytes lie inside an object of a length that a signed object has. -/
def fragmentFits (off n total : Nat) : Bool := within 2120 65536 total && decide (off + n ≤ total)

/-- A venue fragment of TYPE 0x2 (R344). -/
def State.venuePart (s : State) (x : Nat) (p : List Byte) : State :=
  let id := leAt p 8 2
  let off := leAt p 0xC 4
  let data := p.drop 0x14
  let total : Nat := match s.net.assembly with
    | some a => if a.id = id then a.total else leAt p 0x10 4
    | none => leAt p 0x10 4
  if !fragmentFits off data.length total then s.cueDrop x 2
  else
    let moved : Bool := match s.net.assembly with
      | some a => a.id != id
      | none => false
    let s := if moved then s.cueDrop x 4 else s
    let a : Assembly := match s.net.assembly with
      | some a => if a.id = id then a else ⟨id, total, x, s.now, []⟩
      | none => ⟨id, total, x, s.now, []⟩
    let a := { a with parts := a.parts ++ [(off, data)] }
    match assembled a.parts a.total with
    | some o => ({ s with net := { s.net with assembly := none } }).venueArrives 1 o none
    | none => { s with net := { s.net with assembly := some a } }

/-- A cue frame reaches the cue sequencer (R343). -/
def State.cuePayload (s : State) (x : Nat) (p : List Byte) : State :=
  if !cueHeaderOk p then s.cueDrop x 1
  else if leAt p 5 1 = 1 then s.networkCue (leAt p 8 2)
  else s.venuePart x p

/-- A cue frame is consumed: at once, or, before READY, by the queue of R67. -/
def State.cueArrives (s : State) (x : Nat) (p : List Byte) : State :=
  if s.ready then s.cuePayload x p
  else if !s.networkUp then s
  else if s.caston.cueQueue.length < 16 then
    { s with caston := { s.caston with cueQueue := s.caston.cueQueue ++ [(x, p)] } }
  else s.incFld Reg.CLKRST_EARLY_CNT 16 16 1

/-- NETWORK_CUE_FRAME (R83, R343): without pattern section 0x07 no cue frame is accepted. -/
def execNetworkCueFrame (t : Nat) (port : Fin 2) (payload : List Byte) (s : State) : Res :=
  let s := s.advance t
  .next (if s.sec.pattern.cueNet.isNone then s else s.cueArrives port payload)

/-- VENUE_FRAGMENT (R344). -/
def execVenueFragment (t : Nat) (port : Fin 2) (payload : List Byte) (s : State) : Res :=
  let s := s.advance t
  .next (if s.sec.pattern.cueNet.isNone then s else s.cueArrives port payload)

/-- VENUE_ASSEMBLY_TIMEOUT (R344): fragments recognised in the cycle of expiry count as arrived (R17). -/
def execVenueAssemblyTimeout (t : Nat) (s : State) : Res :=
  let s := s.advance t
  .next (match s.net.assembly with
    | none => s
    | some a =>
      let late : List (Nat × List Byte) := s.pending.filterMap fun i => match i with
        | .venueFragment c _ p => if c = s.now ∧ cueHeaderOk p ∧ leAt p 5 1 = 2 ∧ leAt p 8 2 = a.id then some (leAt p 0xC 4, p.drop 0x14) else none
        | _ => none
      if s.now < a.first + ms 100 ∨ (assembled (a.parts ++ late) a.total).isSome then s
      else ({ s with net := { s.net with assembly := none } }).cueDrop a.port 3)

/-! ## Checks of R340 and the sorting of R341 -/

/-- A received frame is good: FCS, length with FCS from 64 to 9,216, and tag. -/
def State.frameOk (s : State) (x : Nat) (f : List Byte) (fcsOk : Bool) : Bool :=
  let vid := s.fld (Reg.NET_PORT_CFG x) 16 12
  fcsOk && within 60 9212 f.length && match frameTag f with
    | none => true
    | some (_, v) => vid != 0 && v == vid

/-- Destination MAC address. -/
def dstMac (f : List Byte) : List Byte := f.take 6
/-- Addressed to the port alone. -/
def State.ownMac (s : State) (x : Nat) (f : List Byte) : Bool := dstMac f == s.mac x
/-- A broadcast frame, or a multicast frame to a group of NET_MCAST. -/
def State.groupFrame (s : State) (f : List Byte) : Bool :=
  dstMac f == List.replicate 6 0xFF || s.groups.any fun g => groupMac g == dstMac f
/-- A multicast frame of a protocol of Table 16-1 whose groups the standards fix: PTP, Neighbor Discovery, IGMP, MLD. -/
def protocolGroup (f : List Byte) : Bool :=
  (f.headD 0).toNat % 2 == 1 && (isPtp (classify f) || match classify f with
    | .control false 2 _ _ _ => true
    | .control true 58 _ _ m => beAt m 0 1 == 135 || beAt m 0 1 == 130
    | _ => false)

/-! ## Stream identification (R366) -/

/-- A cue frame by pattern section 0x07 (R343). -/
def State.isCue (s : State) (x : Nat) (k : L3) : Bool :=
  match k, s.sec.pattern.cueNet with
  | .udp v6 _ dst _ d _, some c =>
    d == c.udpPort && (if zeroAddr c.addr then
        (if v6 then dst == s.ip6 x || dst == s.linkLocal x else dst == mapped4 (s.ip4 x))
      else dst == c.addr)
  | _, _ => false

/-- The binding of entries 0 to 17 (Table 17-1). -/
def State.boundEntry (s : State) (x n : Nat) (k : L3) (f : List Byte) : Bool :=
  match k with
  | .udp _ _ _ _ d o =>
    let p := udpPayload f o
    if n < 16 then
      let c := s.reg (Reg.STORE_YARN_CFG n)
      c.field 0 16 == d && d != 0 && 32 ≤ p.length && leAt p 6 2 == c.field 16 16
    else if n = 16 then s.isCue x k
    else s.paired && d == s.fld Reg.CHAIN_HB_CFG 0 16 && 20 ≤ p.length && s.partnerId == some (leAt p 5 1)
  | _ => false

/-- The consumer of a UDP datagram, by the entry bound to it. -/
def State.consumer (s : State) (x : Nat) (k : L3) (f : List Byte) : Option Nat :=
  (List.range 18).find? fun n => s.boundEntry x n k f

/-- The first enabled entry that matches (R365, R366). -/
def State.ingressEntry (s : State) (x : Nat) (k : L3) (f : List Byte) : Option Nat :=
  (List.range 256).find? fun n =>
    let c := s.reg (Reg.TRAF_IN_CFG n)
    c.bit 0 && (if n < 18 then s.boundEntry x n k f
      else match k with
        | .udp _ _ dst _ d _ =>
          let a := (List.range 4).flatMap fun w => leBytes 4 (s.nat (Reg.TRAF_IN_ADDR n w))
          c.field 16 16 != 0 && c.field 16 16 == d && (zeroAddr a || a == dst)
        | _ => false)

/-- Sequence number for duplicate elimination (Table 17-1). -/
def deSeq (n : Nat) (k : L3) (f : List Byte) : Nat :=
  match k with
  | .udp _ _ _ _ _ o => leAt (udpPayload f o) (if n < 16 then 8 else 6) 2
  | _ => 0

/-! ## Policers (R67, R367) -/

/-- Early policer of a port and kind (0 PTP, 1 cue): 10 Mb/s in 1/320 byte, burst 3,072 bytes. -/
def State.earlyPolice (s : State) (x kind n : Nat) : Bool × State :=
  let i := 2 * x + kind
  let b := s.caston.earlyTokens.getD i (983040, 0)
  let have_ := min 983040 (b.1 + (s.now - b.2))
  let put (v : Nat) : State := { s with caston := { s.caston with earlyTokens := s.caston.earlyTokens.set i (v, s.now) } }
  if 320 * n ≤ have_ then (true, put (have_ - 320 * n)) else (false, put have_)

/-- Tokens of a bucket now, in 1/3,200 byte. -/
def State.bucket (s : State) (n x : Nat) : Nat :=
  let cap : Nat := 3200 * s.fld (Reg.TRAF_POL_BURST n) 0 20
  match s.traf.buckets.find? fun (b : Nat × Nat × Nat) => b.1 == 2 * n + x with
  | none => cap
  | some b => min cap (b.2.1 + s.fld (Reg.TRAF_POL_RATE n) 0 17 * (s.now - b.2.2))

/-- Store the tokens of a bucket. -/
def State.setBucket (s : State) (n x v : Nat) : State :=
  { s with traf := { s.traf with buckets := s.traf.buckets.filter (fun (b : Nat × Nat × Nat) => b.1 != 2 * n + x) ++ [(2 * n + x, v, s.now)] } }

/-- Before RATE or BURST of an entry changes, its buckets take their present level. -/
def State.settleBucket (s : State) (n : Nat) : State := (s.setBucket n 0 (s.bucket n 0)).setBucket n 1 (s.bucket n 1)

/-- A frame that does not conform: counted, with TRAF_POLICED at most once per second (R367). -/
def State.policeDrop (s : State) (n x : Nat) : State :=
  let key := 2 * n + x
  let old : List Nat × Option Nat := match s.traf.policed.find? fun (p : Nat × List Nat × Option Nat) => p.1 == key with
    | some p => p.2
    | none => ([], none)
  let recent := old.1.filter (fun c => s.now < c + ms 1000) ++ [s.now]
  let quiet := limited old.2 (ms 1000) s.now
  let rest := s.traf.policed.filter fun (p : Nat × List Nat × Option Nat) => p.1 != key
  let s := { s with traf := { s.traf with policed := rest ++ [(key, recent, if quiet then old.2 else some s.now)] } }
  let s := s.incFld (Reg.TRAF_IN_CNT n 0) (16 * x) 16 1
  if quiet then s else s.raise Ev.TRAF_POLICED [n, x, recent.length]

/-- A frame of `len` bytes with FCS passes its policer, or is dropped (R367). -/
def State.police (s : State) (n x len : Nat) : Bool × State :=
  let b := s.bucket n x
  if 3200 * len ≤ b then (true, s.setBucket n x (b - 3200 * len)) else (false, s.policeDrop n x)

/-! ## Duplicate elimination (R368, R369) -/

def State.deWindow (s : State) (n : Nat) : DeWindow :=
  match s.traf.windows.find? fun (w : Nat × DeWindow) => w.1 == n with
  | some w => w.2
  | none => {}

def State.setWindow (s : State) (n : Nat) (w : DeWindow) : State :=
  { s with traf := { s.traf with windows := s.traf.windows.filter (fun (v : Nat × DeWindow) => v.1 != n) ++ [(n, w)] } }

/-- The window of an entry resets (R369). -/
def State.resetWindow (s : State) (n : Nat) : State := s.setWindow n { s.deWindow n with fresh := true, hist := 0 }
/-- Every window resets: at READY and at a block reset of either port. -/
def State.resetWindows (s : State) : State := s.each (List.range 18) State.resetWindow

/-- The outcome of Table R368 for a sequence number: whether the frame is accepted. -/
def State.eliminate (s : State) (n seq : Nat) : Bool × State :=
  let w := s.deWindow n
  let old := s.fld (Reg.TRAF_IN_CNT n 3) 0 16
  if w.fresh then
    let s := (s.setWindow n { w with fresh := false, hist := 1, last := s.now }).setFld (Reg.TRAF_IN_CNT n 3) 0 16 seq
    (true, (s.incFld (Reg.TRAF_IN_CNT n 2) 16 16 1).raise Ev.TRAF_DE_RESET [n, old, seq])
  else
    let d := signed 16 ((seq + 2 ^ 16 - old) % 2 ^ 16)
    if 1 ≤ d then
      let k := d.toNat
      let h := if 64 ≤ k then 1 else (w.hist * 2 ^ k + 1) % 2 ^ 64
      let s := (s.setWindow n { w with hist := h, last := s.now }).setFld (Reg.TRAF_IN_CNT n 3) 0 16 seq
      (true, s.incFld (Reg.TRAF_IN_CNT n 3) 16 16 (k - 1))
    else if -63 ≤ d then
      let k := (-d).toNat
      if w.hist.testBit k then (false, s.incFld (Reg.TRAF_IN_CNT n 1) 0 32 1)
      else (true, s.setWindow n { w with hist := w.hist + 2 ^ k, last := s.now })
    else
      let recent := w.rogues.filter (fun c => s.now < c + ms 1000) ++ [s.now]
      let quiet := limited w.rogueAt (ms 1000) s.now
      let s := s.setWindow n { w with rogues := recent, rogueAt := if quiet then w.rogueAt else some s.now }
      let s := s.incFld (Reg.TRAF_IN_CNT n 2) 0 16 1
      (false, if quiet then s else s.raise Ev.TRAF_DE_ROGUE [n, seq, old, recent.length])

/-- A good frame of entry `n` arrives on port `x` in this cycle and satisfies `p`. -/
def State.frameNow (s : State) (x n : Nat) (p : L3 → List Byte → Bool) : Bool :=
  s.sameCycle fun i => match i with
    | .ethFrameRx _ y f ok => y.val == x && s.frameOk x f ok && s.ingressEntry x (classify f) f == some n && p (classify f) f
    | _ => false

/-- TRAF_DE_TIMEOUT (R369): a frame recognised in the cycle of expiry counts as arrived. -/
def execTrafDeTimeout (t : Nat) (entry : Fin 256) (s : State) : Res :=
  let s := s.advance t
  let n := entry.val
  let w := s.deWindow n
  .next (if w.fresh ∨ s.now < w.last + ms (s.fld (Reg.TRAF_IN_CFG n) 8 8) ∨ s.frameNow 0 n (fun _ _ => true) ∨ s.frameNow 1 n (fun _ _ => true) then s
    else s.resetWindow n)

/-! ## Protocols that a port answers (Table 16-1) -/

/-- An echo may be answered: at most 100 per second per port. -/
def State.echoSlot (s : State) (x : Nat) : Option State :=
  let e := s.net.echo.getD x (0, 0)
  let put (v : Nat × Nat) : State := { s with net := { s.net with echo := s.net.echo.set x v } }
  if e.2 = 0 ∨ e.1 + ms 1000 ≤ s.now then some (put (s.now, 1))
  else if e.2 < 100 then some (put (e.1, e.2 + 1)) else none

/-- Send a frame of a control protocol. -/
def State.sendCtrl (s : State) (x : Nat) (dst : List Byte) (type : Nat) (payload : List Byte) : State :=
  s.enqueue x s.ctrlQueue (s.ethFrame x s.ctrlQueue dst type payload) none

/-- ARP requests are answered for NET_IPV4. -/
def State.answerArp (s : State) (x : Nat) (f : List Byte) : State :=
  let o := l3 f
  if beAt f (o + 6) 2 = 1 ∧ (f.drop (o + 24)).take 4 = s.ip4 x ∧ s.ip4 x ≠ [0, 0, 0, 0] then
    let peer := (f.drop (o + 8)).take 10
    s.sendCtrl x (peer.take 6) 0x0806 (beBytes 2 1 ++ beBytes 2 0x0800 ++ [6, 4] ++ beBytes 2 2 ++ s.mac x ++ s.ip4 x ++ peer)
  else s

/-- An IPv6 address of port `x`: the configured one, or the link-local one. -/
def State.myIp6 (s : State) (x : Nat) (a : List Byte) : Bool := (a == s.ip6 x && !zeroAddr a) || a == s.linkLocal x

/-- Membership reports for groups: record type 2 on a query, 4 at a join. -/
def State.report (s : State) (x type : Nat) (gs : List (List Byte)) : State :=
  let g4 := gs.filter isMapped
  let g6 := gs.filter fun g => !isMapped g
  let s := if g4.isEmpty then s else
    let m := [0x22, 0, 0, 0, 0, 0] ++ beBytes 2 g4.length ++ g4.flatMap fun g => [BitVec.ofNat 8 type, 0, 0, 0] ++ g.drop 12
    let m := patch m 2 (beBytes 2 (checksum m))
    s.sendCtrl x [0x01, 0, 0x5E, 0, 0, 0x16] 0x0800 (ip4Packet 2 1 (s.ip4 x) [224, 0, 0, 22] [0x94, 4, 0, 0] m)
  if g6.isEmpty then s else
    let dst : List Byte := [0xFF, 2, 0, 0, 0, 0, 0, 0, 0, 0, 0, 0, 0, 0, 0, 0x16]
    let m := [143, 0, 0, 0, 0, 0] ++ beBytes 2 g6.length ++ g6.flatMap fun g => [BitVec.ofNat 8 type, 0, 0, 0] ++ g
    s.sendCtrl x (groupMac dst) 0x86DD (ip6Packet 58 1 (s.linkLocal x) dst [58, 0, 5, 2, 0, 0, 1, 0] (icmp6 (s.linkLocal x) dst m))

/-- A group enters NET_MCAST: reports at the join on every port that is up (R342). -/
def State.joinGroup (s : State) (g : Nat) : State :=
  if zeroAddr (s.group g) then s
  else s.each [0, 1] fun s x => if s.netOn x && s.networkUp then s.report x 4 [s.group g] else s

/-- ICMP, IGMP, ICMPv6 (Table 16-1). -/
def State.answerControl (s : State) (x : Nat) (f : List Byte) (v6 : Bool) (proto : Nat) (src dst m : List Byte) : State :=
  let peer := (f.drop 6).take 6
  let kind := beAt m 0 1
  if !v6 then
    if proto = 2 then (if kind = 0x11 then s.report x 2 s.groups else s)
    else if kind = 8 ∧ dst = mapped4 (s.ip4 x) ∧ s.ip4 x ≠ [0, 0, 0, 0] then
      match s.echoSlot x with
      | none => s
      | some s =>
        let r := patch m 0 [0, 0, 0, 0]
        s.sendCtrl x peer 0x0800 (ip4Packet 1 64 (s.ip4 x) (src.drop 12) [] (patch r 2 (beBytes 2 (checksum r))))
    else s
  else if kind = 130 then s.report x 2 s.groups
  else if kind = 128 ∧ s.myIp6 x dst then
    match s.echoSlot x with
    | none => s
    | some s => s.sendCtrl x peer 0x86DD (ip6Packet 58 64 dst src [] (icmp6 dst src (patch m 0 [129, 0, 0, 0])))
  else if kind = 135 ∧ s.myIp6 x ((m.drop 8).take 16) then
    let target := (m.drop 8).take 16
    let solicited := !zeroAddr src
    let dest : List Byte := if solicited then src else [0xFF, 2, 0, 0, 0, 0, 0, 0, 0, 0, 0, 0, 0, 0, 0, 1]
    let na := [136, 0, 0, 0] ++ beBytes 4 (if solicited then 0x60000000 else 0x20000000) ++ target ++ [2, 1] ++ s.mac x
    s.sendCtrl x (if solicited then peer else groupMac dest) 0x86DD (ip6Packet 58 255 target dest [] (icmp6 target dest na))
  else s

/-! ## ETH_FRAME_RX -/

/-- Forward a frame out of the other port, with the ingress stamp the transparent clock corrects it by (R341, R349). -/
def State.forward (s : State) (x : Nat) (k : L3) (f : List Byte) : State :=
  let y := 1 - x
  if s.netOn y then s.enqueue y (s.forwardQueue y f) f (if isPtp k then some (s.now, x) else none) else s

/-- The UDP checksum holds, or is absent on IPv4 (R326). -/
def udpSumOk (k : L3) (f : List Byte) : Bool :=
  match k with
  | .udp v6 src dst _ _ o =>
    let n := beAt f (o + 4) 2
    let d := (f.drop o).take n
    beAt f (o + 6) 2 == 0 ||
      checksum ((if v6 then pseudo6 17 src dst n else src.drop 12 ++ dst.drop 12 ++ beBytes 2 17 ++ beBytes 2 n) ++ d) == 0
  | _ => true

/-- Reception before READY (R67). -/
def State.earlyFrame (s : State) (x : Nat) (k : L3) (f : List Byte) : State :=
  let kind : Option Nat := if isPtp k then some 0 else if s.isCue x k then some 1 else none
  match kind with
  | none => s.incFld Reg.CLKRST_EARLY_CNT 16 16 1
  | some q =>
    let (ok, s) := s.earlyPolice x q (f.length + 4)
    if !ok then s.incFld Reg.CLKRST_EARLY_CNT 16 16 1
    else
      let s := if s.bit Reg.NET_CFG 0 && !s.ownMac x f then s.forward x k f else s
      s.emit (.deliver x (if q = 1 then some 16 else none))

/-- Consumption of a frame that has passed its stream's checks. -/
def State.consume (s : State) (x : Nat) (k : L3) (f : List Byte) (who : Option Nat) : State :=
  match k with
  | .arp => s.answerArp x f
  | .control v6 proto src dst m => s.answerControl x f v6 proto src dst m
  | .udp .. => if who.any (fun n => n < 16) && !udpSumOk k f then s else s.emit (.deliver x who)
  | _ => s

/-- The five steps of R365. -/
def State.ingress (s : State) (x : Nat) (k : L3) (f : List Byte) (eat fwd : Bool) (who : Option Nat) : State :=
  match s.ingressEntry x k f with
  | none =>
    let s := if fwd then s.forward x k f else s
    if eat then s.consume x k f who else s
  | some n =>
    let (ok, s) := s.police n x (f.length + 4)
    if !ok then s
    else
      let s := if fwd then s.forward x k f else s
      if !eat then s
      else if !s.bit (Reg.TRAF_IN_CFG n) 1 then s.consume x k f who
      else
        let seq := deSeq n k f
        -- port A's copy of the same cycle, if its policer passes it, is taken, and port B's is the duplicate
        let twin := x == 1 && s.frameNow 0 n fun k' f' =>
          deSeq n k' f' == seq && (s.ownMac 0 f' || s.groupFrame f') && decide (3200 * (f'.length + 4) ≤ s.bucket n 0)
        if twin then s.incFld (Reg.TRAF_IN_CNT n 1) 0 32 1
        else
          let (new, s) := s.eliminate n seq
          if new then s.consume x k f who else s

/-- ETH_FRAME_RX (R340 to R342, R67, R365). -/
def State.receive (s : State) (x : Nat) (f : List Byte) (fcsOk : Bool) : State :=
  if !s.netOn x || !s.networkUp then s
  else if !s.frameOk x f fcsOk then s.incFld (Reg.NET_DROP_CNT x) 0 16 1
  else
    let s := s.incFld (Reg.NET_RX_CNT x) 0 32 1
    let k := classify f
    if !s.ready then s.earlyFrame x k f
    else
      let own := s.ownMac x f
      let mine := own || s.groupFrame f || protocolGroup f
      let fwd := s.bit Reg.NET_CFG 0 && !own
      let who := s.consumer x k f
      let used : Bool := match k with
        | .arp => true
        | .control _ _ _ _ _ => true
        | .udp .. => isPtp k || who.isSome
        | _ => false
      let eat := mine && used
      -- a frame that is neither used nor forwarded, or whose consumed copy the port has no use for
      let s := if (mine && !used) || (!mine && !fwd) then s.incFld (Reg.NET_DROP_CNT x) 16 16 1 else s
      if eat || fwd then s.ingress x k f eat fwd who else s

def execEthFrameRx (t : Nat) (port : Fin 2) (frame : List Byte) (fcsOk : Bool) (s : State) : Res :=
  .next ((s.advance t).receive port frame fcsOk)

end Sys2Proof.Machine
end

