-- ==== Sys2Proof/Machine/RegWrite.lean ====
section
/-! DEFINITION.  What a register write does beside placing its bits, for the registers without a command of their own: the
write that REGISTER_WRITE, a pattern's batch and a mirrored packet carry out (R6, R7, R388). -/

namespace Sys2Proof.Machine

/-- An IPv6 or IPv4-mapped group address. -/
def isGroup (a : List Byte) : Bool :=
  if isMapped a then beAt a 12 1 / 16 == 0xE else beAt a 0 1 == 0xFF

/-- NET_MCAST changed: a group that is joined is reported, and the heartbeat path may lose its group (R342, R392). -/
def State.mcastWritten (s : State) (g : Nat) (was : List Byte) : State :=
  let s := s.checkEthPath
  if was = s.group g ∨ !isGroup (s.group g) then s else s.joinGroup g

/-- RAY_VIEW_GRID with NU and NV as its preset gives them (Table 6-1). -/
def gridStored (w : Word) : Word :=
  match gridPreset (w.field 0 4) with
  | some n => (w.put 8 5 n).put 16 5 n
  | none => w

/-- SPK_TILE_DELAY: DELAY is taken with OVERRIDE = 1 alone. -/
def State.delayWritten (s : State) (a : Nat) (w : Word) : State :=
  s.setReg a (if w.bit 31 then w else w.put 0 16 (s.fld a 0 16))

/-- TIME_CMP word 0: a comparator is armed by EN = 1 (R356). -/
def State.cmpWritten (s : State) (n : Nat) : State := if s.bit (Reg.TIME_CMP n 0) 0 then s.armCmp n else s

/-- Effects of a write on registers of the low blocks and the panel. -/
def State.writeScene (s : State) (req : Requester) (a : Nat) (w : Word) : State :=
  let was := s.reg a
  if (descOf a).isSome then (s.store' req a w).refreshPending
  else if Reg.PLY_FENCE 0 ≤ a ∧ a < Reg.PLY_FENCE 64 then s.setFence ((a - Reg.PLY_FENCE 0) / 4) 5 w
  else if a = Reg.CLKRST_CAUSE then
    -- RAIL is cleared with SUPPLY (Table 3-8)
    let s := s.store' req a w
    if s.bit a 7 then s else s.setFld a 16 4 0
  else if a = Reg.RAY_VIEW_GRID then s.store' req a (gridStored w)
  else if a = Reg.RAY_COLOUR then (s.store' req a w).forwardCt (w.field 0 4)
  else if a = Reg.SCAN_TIMING ∨ a = Reg.SCAN_PHASE ∨ a = Reg.SCAN_ANCHOR_LO ∨ a = Reg.SCAN_ANCHOR_HI ∨ a = Reg.SCAN_SWATCH then
    (s.store' req a w).retarget
  else if a = Reg.EMIT_THM_EN then (s.store' req a w).thmEnableWritten (was.field 0 16)
  else if a = Reg.HBM_SCRUB_CFG then
    let s := s.store' req a w
    if (w.bit 8 && !was.bit 8) || w.field 0 8 != was.field 0 8 then s.rebaseScrub else s
  else if a = Reg.SPK_CFGW_CMD then if w.bit 0 then s.cfgwGo w else s.store' req a w
  else if a = Reg.LANE_LOOP_CFG then (s.store' req a w).loopConfig
  else if Reg.SPK_TILE_DELAY 0 ≤ a ∧ a < Reg.SPK_TILE_DELAY 128 then s.delayWritten a w
  else s.store' req a w

/-- Effects of a write on registers of the network, time and chain blocks. -/
def State.writeNet (s : State) (req : Requester) (a : Nat) (w : Word) : State :=
  let was := s.reg a
  if Reg.NET_MCAST 0 0 ≤ a ∧ a < Reg.NET_MCAST 16 0 then
    let g := (a - Reg.NET_MCAST 0 0) / 16
    let old := s.group g
    (s.store' req a w).mcastWritten g old
  else if Reg.STORE_YARN_CFG 0 ≤ a ∧ a < Reg.STORE_YARN_CFG 16 then
    let s := s.store' req a w
    if s.reg a = was then s else s.resetWindow ((a - Reg.STORE_YARN_CFG 0) / 8)
  else if a = Reg.CHAIN_HB_CFG then
    let s := (s.store' req a w).checkEthPath
    if s.fld a 0 16 = was.field 0 16 then s else s.resetWindow 17
  else if a = Reg.TIME_CFG then (s.store' req a w).timeConfigured
  else if a = Reg.TIME_TB2_CFG then (s.store' req a w).pickSource
  else if Reg.TIME_CMP 0 0 ≤ a ∧ a < Reg.TIME_CMP 8 0 then
    let s := s.store' req a w
    if a % 32 = 0 then s.cmpWritten ((a - Reg.TIME_CMP 0 0) / 32) else s
  else s.store' req a w

/-- A write of a register without a command of its own, once nothing refuses it. -/
def State.writeReg (s : State) (req : Requester) (a : Nat) (w : Word) : State :=
  if blockOf a = 14 ∨ 16 ≤ blockOf a then s.writeNet req a w else s.writeScene req a w

/-- The write with its guard. -/
def State.plainWrite (s : State) (req : Requester) (a size : Nat) (w : Word) : State :=
  s.guarded req a size w fun s w => s.writeReg req a w

end Sys2Proof.Machine
end

