-- ==== Sys2Proof/Machine/Chain.lean ====
section
/-! DEFINITION.  The chain (chapter 18): its ports (R383 to R385), handshake and time (R68, R386, R387), mirrored state (R388, R389),
heartbeats, fail-over and the roles of a pair (R392 to R399). -/

namespace Sys2Proof.Machine

/-! ## Loop moves (R218) -/

/-- All lanes of chain port `p` are locked by the end of this cycle (R17). -/
def State.relocks (s : State) (p : Nat) : Bool :=
  (List.range 4).all fun k =>
    let j := 0x100 + 4 * p + k
    (decide (4 ≤ s.laneStage j) && decide (s.laneStage j ≤ 8)) ||
    (s.laneStage j == 3 && s.sameCycle fun i => match i with
      | .laneStageDone _ l _ _ => l.val == j
      | _ => false)

/-- LOOP_MOVE_TIMEOUT (R218, R387): the loop moves to another port that is up, or enters holdover. -/
def execLoopMoveTimeout (t : Nat) (s : State) : Res :=
  let s := s.advance t
  .next (match s.lanes.loop.lostAt with
    | none => s
    | some c =>
      if s.now < c + us 10 ∨ s.relocks s.loopPort then s
      else
        let s := { s with lanes := { s.lanes with loop := { s.lanes.loop with lostAt := none } } }
        let b := s.fld Reg.LANE_LOOP_CFG 2 2
        let t := s.fld Reg.LANE_LOOP_CFG 0 2
        if s.loopPort ≠ b ∧ s.backupUp then s.setLoop 1 b
        else if s.loopPort ≠ t ∧ s.portLanesUp t then s.setLoop 1 t
        else (s.setLoop 3 s.loopPort).pickSource)

/-! ## Data blocks (R383 to R385) -/

/-- ACK up to the last block received. -/
def State.sendAck (s : State) (p : Nat) : State :=
  let x := s.chainPort p
  (s.setChainPort p { x with sinceAck := 0, ackAt := s.now }).sendControl p 0x41 ((x.rxSeq + 2 ^ 16 - 1) % 2 ^ 16 * 2 ^ 8)

/-- A whole packet has arrived on a port: forwarded, or kept for its own command; an undefined KIND is discarded and counted (R383, R385). -/
def State.packetArrives (s : State) (p : Nat) (k : Packet) : State :=
  if (kindClass k.kind).isNone then s.incFld (Reg.CHAIN_PORT_CNT p) 24 8 1
  else if k.all then s.each (s.floodPorts k.dest) fun s q => s.sendOn q k
  else if k.dest = s.chainId then s
  else match s.me with
    | some e => s.sendOn (routeToward e k.dest) k
    | none => s

/-- The words of a good data block join their packet; a class 0 packet may interrupt one of class 1 between segments. -/
def State.takeWords (s : State) (p : Nat) (ws : List Word) (sop : Bool) : State :=
  let x := s.chainPort p
  let one : Bool := if sop then kindClass ((ws.headD 0).field 4 4) == some 1 else x.rx0.isEmpty
  let have_ : List Word := if sop then ws else if one then (if x.rx1.isEmpty then [] else x.rx1 ++ ws) else x.rx0 ++ ws
  let need : Nat := 1 + (have_.headD 0).field 8 24
  let whole : Bool := !have_.isEmpty && decide (need ≤ have_.length)
  let rest : List Word := if whole then [] else have_
  let s := s.setChainPort p (if one then { x with rx1 := rest } else { x with rx0 := rest })
  if whole then s.packetArrives p ⟨have_.take need⟩ else s

/-- CHAIN_DATA_BLOCK (R384): a block of an uncorrectable codeword, with a parity error or out of order is NAKed once and discarded
until the named SEQ arrives. -/
def execChainDataBlock (t : Nat) (port : Fin 4) (block : List Byte) (s : State) : Res :=
  let s := s.advance t
  let p := port.val
  let x := s.chainPort p
  let b := parseDataBlock block
  .next (if !s.portUp p then s
    else if block.length ≠ 32 ∨ !b.2.2.2 ∨ b.2.2.1 ≠ x.rxSeq then
      (if x.naked then s else (s.setChainPort p { x with naked := true }).sendControl p 0x42 (x.rxSeq * 2 ^ 8))
    else
      let s := s.setChainPort p { x with rxSeq := (x.rxSeq + 1) % 2 ^ 16, naked := false, sinceAck := x.sinceAck + 1 }
      let s := s.takeWords p b.1 b.2.1
      if 128 ≤ x.sinceAck + 1 then s.sendAck p else s)

/-- CHAIN_ACK_DUE (R384): an ACK per 1 µs, which also makes up for one that was lost. -/
def execChainAckDue (t : Nat) (port : Fin 4) (s : State) : Res :=
  let s := s.advance t
  .next (if s.portUp port then s.sendAck port else s)

/-- CHAIN_ACK (R384): blocks up to SEQ leave the replay buffer, and waiting blocks take their place. -/
def execChainAck (t : Nat) (port : Fin 4) (seq : Nat) (s : State) : Res :=
  let s := s.advance t
  let x := s.chainPort port
  -- SEQ is one of the blocks outstanding
  let n := x.unacked.findIdx? fun (b : Nat × List Byte) => b.1 == seq % 2 ^ 16
  .next (match n with
    | none => s
    | some k =>
      (s.setChainPort port { x with unacked := x.unacked.drop (k + 1) }).drain port)

/-- CHAIN_NAK (R384): blocks from SEQ are sent again; the fourth NAK of one SEQ retrains the port. -/
def execChainNak (t : Nat) (port : Fin 4) (seq : Nat) (s : State) : Res :=
  let s := s.advance t
  let x := s.chainPort port
  let q := seq % 2 ^ 16
  let n : Nat := match x.nakSeq with
    | some (a, k) => if a = q then k + 1 else 1
    | none => 1
  .next (if !s.portUp port then s
    else
      let s := (s.setChainPort port { x with nakSeq := some (q, n) }).incFld (Reg.CHAIN_PORT_CNT port) 0 16 1
      if 4 ≤ n then (s.setChainPort port { x with nakSeq := none }).retrainPort port 1
      else s.each (x.unacked.dropWhile fun (b : Nat × List Byte) => b.1 != q) fun s b => s.sendGroup port false b.2)

/-- CHAIN_HELD_TIMEOUT (R385): packets held for 1 ms are discarded and counted. -/
def execChainHeldTimeout (t : Nat) (port : Fin 4) (s : State) : Res :=
  let s := s.advance t
  let x := s.chainPort port
  let old := x.held.filter fun (h : Nat × Packet) => h.1 + ms 1 ≤ s.now
  .next ((s.setChainPort port { x with held := x.held.filter fun (h : Nat × Packet) => s.now < h.1 + ms 1 }).incFld
    (Reg.CHAIN_PORT_CNT port) 24 8 old.length)

/-! ## Joining (R386, R398) -/

/-- The member is joined; a pair member whose Ethernet path can carry nothing says so (R392). -/
def State.enterChain (s : State) : State :=
  let s := s.setBit Reg.CHAIN_STAT 7 true
  if s.paired ∧ s.hbEthBarred then s.raise Ev.CHAIN_PATH_ALARM [s.partnerId.getD 0, 2, 1] else s

/-- A member whose handshake is complete is joined, unless its partner is delivering; a pair member waits for its partner's first
heartbeat until READY (R64, R386). -/
def State.decideJoin (s : State) : State :=
  if !s.chain.chained || s.joined || (s.chain.done.isEmpty && s.chain.absent.isEmpty) then s
  else if !s.paired then s.enterChain
  else match s.chain.partner with
    | some h => if isDelivering h.mode then s else s.enterChain
    | none => if s.ready then s.enterChain else s

/-- The mirrored state of a scope as a KIND 0x8 packet to a member: registers and waiting writes (R398). -/
def State.sendScope (s : State) (q scope : Nat) : State :=
  let regs := s.regs.filter fun (r : Nat × Word) => mirrorScope r.1 == scope
  let wait := s.rws.filter fun (p : PendWrite) => mirrorScope p.addr == scope
  s.sendTo q 8 ((regs.flatMap fun (r : Nat × Word) => [Word.ofNat r.1, r.2]) ++ wait.flatMap fun (p : PendWrite) => [Word.ofNat p.addr, p.data])

/-- The state that this member's roles owe a peer that has completed its handshake. -/
def State.sendMirrored (s : State) (q : Nat) : State :=
  let s := if s.isActing && s.ready then s.sendScope q 1 else s
  if s.isLead && s.ready && s.partnerId == some q then s.sendScope q 2 else s

/-! ## Handshake (R68, R386) -/

/-- A roster member has completed its handshake or is absent, as far as this one knows; the master opens and waits for nobody (R68). -/
def State.shook (s : State) (m : Nat) : Bool :=
  m == 0 || s.chain.done.contains m || s.chain.told.contains m || s.chain.absent.contains m ||
    (m == s.chainId && s.chain.done.any (· < m))

/-- Handshakes go in chain-ID order (R68): of this device and peer `q` the one of higher ID answers, once every other roster member of
lower ID than it is done or absent. -/
def State.inTurn (s : State) (q : Nat) : Bool :=
  s.members.all fun m => max s.chainId q ≤ m || m == q || s.shook m

/-- A request of a peer of lower ID shows that every member below this one is done, as the peer asks only in turn. -/
def State.hearTurn (s : State) (q : Nat) : State :=
  if q < s.chainId then { s with chain := { s.chain with told := s.members.filter fun m => m < s.chainId && m != q } } else s

/-- Send TRAIN on lane 0 of a port (Table 18-4). -/
def State.sendTrain (s : State) (p : Nat) (echo : Bool) (turn : Nat) : State := s.sendTrainOn p 0 echo turn

/-- An ECHO request on a port; the master's first one to a member starts its 500 ms. -/
def State.askEcho (s : State) (p q : Nat) : State :=
  let x := s.chainPort p
  let s := s.setChainPort p { x with echoOut := some s.now }
  let s := if s.chain.asked.any fun (a : Nat × Nat) => a.1 == q then s
    else { s with chain := { s.chain with asked := s.chain.asked ++ [(q, s.now)] } }
  s.sendTrain p true 0

/-- This member opens the handshake on a port: the master, or a member toward a higher ID. -/
def State.opens (s : State) (q : Nat) : Bool :=
  s.inTurn q && (if s.chainId = 0 then s.chain.handshake else s.chainId < q || s.ready)

/-- Requests go out on every port that waits at LINK and is in turn. -/
def State.pumpHandshake (s : State) : State :=
  s.each s.peerPorts fun s x =>
    if s.portState x.1 = 2 ∧ s.opens x.2 ∧ (s.chainPort x.1).echoOut = none then s.askEcho x.1 x.2 else s

/-- The delay of a port: the mean of its exchanges (R386). -/
def State.portDelay (s : State) (p : Nat) : Int := roundDivInt ((s.chainPort p).echoes.foldl (· + ·) 0) 16

/-- The handshake of a port is complete. -/
def State.finishHandshake (s : State) (p q : Nat) : State :=
  let s := s.setFld (Reg.CHAIN_PORT_DELAY p) 0 16 (clampInt 0 65535 (s.portDelay p)).toNat
  let s := s.setChainPort p { s.chainPort p with echoOut := none }
  let s := s.each (List.range 4) fun s k => s.finishUp (0x100 + 4 * p + k)
  let s := { s with chain := { s.chain with done := s.chain.done.filter (· != q) ++ [q], absent := s.chain.absent.filter (· != q) } }
  let x := s.chainPort p
  let s := s.setChainPort p { x with held := [] }
  let s := s.each x.held fun s h => s.sendOn p h.2
  (s.decideJoin.sendMirrored q).pumpHandshake

/-- One exchange is measured: round trip since the request less the peer's turnaround, halved, with ASYM, in 2^−2 ns. -/
def State.takeEcho' (s : State) (p q sent turn : Nat) : State :=
  let x := s.chainPort p
  let d := roundDivInt (((s.now - sent) * 40 : Nat) - (turn : Int)) 8 + signed 8 (s.fld (Reg.CHAIN_PORT_CFG p) 8 8)
  let s := s.setChainPort p { x with echoes := x.echoes ++ [d], echoOut := none }
  if 16 ≤ x.echoes.length + 1 then s.finishHandshake p q else s.askEcho p q

/-- R217: the sender on a port is itself loop-timed from this device. -/
def State.loopsBack (s : State) (q tport : Nat) (looping : Bool) : Bool :=
  looping && (s.member q).any fun e => peerFar e tport == some s.chainId

/-- What a TRAIN block says of loop timing (R217). -/
def State.trainLoop (s : State) (p q tport : Nat) (looping : Bool) : State :=
  if !s.loops then s
  else
    let bad := s.loopsBack q tport looping
    let s := if p = s.fld Reg.LANE_LOOP_CFG 2 2 ∧ p ≠ s.fld Reg.LANE_LOOP_CFG 0 2 then
        { s with lanes := { s.lanes with loop := { s.lanes.loop with refused := bad } } }
      else s
    if p ≠ s.fld Reg.LANE_LOOP_CFG 0 2 then s
    else if bad then (if s.loopState = 4 then s else (s.setLoop 4 p).raise Ev.LANE_LOOP_FAIL [p, 1])
    else if s.loopState = 4 then s.setLoop 1 p else s

/-- CHAIN_TRAIN_BLOCK (R68, R217, R223, R386). -/
def State.takeTrain (s : State) (p : Nat) (b : List Byte) : State :=
  let q := blockField b 10 3
  let lane := 0x100 + 4 * p + blockField b 8 2
  let x := s.chainPort p
  let want := (s.me.bind fun e => peerFar e p)
  let s := s.setChainPort p { x with peerFom := blockField b 16 8, peerLoop := blockField b 15 1 == 1, peerTport := blockField b 13 2 }
  let s := s.setLane lane { s.lane lane with peerFom := some (blockField b 16 8) }
  let s := (s.setFld (Reg.CHAIN_PORT_STAT p) 2 3 q).setBit (Reg.CHAIN_PORT_STAT p) 5 (want == some q)
  if s.portState p = 2 ∧ want ≠ some q then
    (s.each (List.range 4) fun s k => s.failAttempt (0x100 + 4 * p + k)).raise Ev.CHAIN_PORT_DOWN [p, 4]
  else
    let s := s.trainLoop p q (blockField b 13 2) (blockField b 15 1 == 1)
    let s := if want = some q ∧ blockField b 24 1 = 1 then s.hearTurn q else s
    if s.portState p < 2 ∨ !s.inTurn q then s
    else
      let asks := blockField b 24 1 == 1
      let s := if asks then (s.sendTrain p false (Config.echoTurnaround s.fresh).toNat).useFresh else s
      if s.portState p ≠ 2 then s
      else match (s.chainPort p).echoOut with
        | some c => if asks then s else s.takeEcho' p q c (blockField b 32 24)
        | none => s.askEcho p q

/-- CHAIN_TRAIN_BLOCK (R68, R386). -/
def execChainTrainBlock (t : Nat) (port : Fin 4) (block : List Byte) (s : State) : Res :=
  let s := s.advance t
  .next (if ctlOk block ∧ blockField block 0 8 = 0x40 ∧ s.chain.chained then s.takeTrain port block else s)

/-- A port that waits at LINK asks peer `q` (again): no request is out and it is this member's turn, or the last one
went out 10 ms ago. -/
def State.asksAgain (s : State) (p q : Nat) : Bool :=
  s.portState p == 2 && (match (s.chainPort p).echoOut with
    | some sent => decide (sent + ms 10 ≤ s.now)
    | none => s.opens q)

/-- HANDSHAKE_REPEAT (R68): a port that still waits asks again, every 10 ms. -/
def execHandshakeRepeat (t : Nat) (port : Fin 4) (s : State) : Res :=
  let s := s.advance t
  .next (match s.peerPorts.find? fun (x : Nat × Nat) => x.1 == port.val with
    | some x => if s.asksAgain port x.2 then s.askEcho port x.2 else s
    | none => s)

/-- A TRAIN block of this cycle answers a request to peer `q`. -/
def State.answersNow (s : State) (q : Nat) : Bool :=
  s.sameCycle fun i => match i with
    | .chainTrainBlock _ p b => ctlOk b && blockField b 0 8 == 0x40 && blockField b 10 3 == q && s.peerPorts.contains (p.val, q)
    | _ => false

/-- HANDSHAKE_ABSENT_TIMEOUT (R17, R68): a member that was asked has not answered within 500 ms of the first request. -/
def execHandshakeAbsentTimeout (t : Nat) (member : Fin 8) (s : State) : Res :=
  let s := s.advance t
  let q := member.val
  let due := s.chain.asked.any fun (a : Nat × Nat) => a.1 == q && decide (a.2 + ms 500 ≤ s.now)
  let answered := s.peerPorts.any fun (x : Nat × Nat) => x.2 == q && !(s.chainPort x.1).echoes.isEmpty
  .next (if !due ∨ answered ∨ s.answersNow q ∨ s.chain.done.contains q ∨ s.chain.absent.contains q then s
    else ({ s with chain := { s.chain with absent := s.chain.absent ++ [q] } }).decideJoin.pumpHandshake)

/-! ## Time (R387) -/

/-- CHAIN_TIME_DUE (R387): once per 1 ms. -/
def execChainTimeDue (t : Nat) (port : Fin 4) (s : State) : Res :=
  let s := s.advance t
  let x := s.chainPort port
  .next (if !s.portUp port ∨ limited x.timeAt (ms 1) s.now then s
    else (s.setChainPort port { x with timeAt := some s.now }).sendControl port 0x44 (stamp80 s.showNs * 2 ^ 24))

/-- The line of the chain's time: the value received, and the rate since the block before it. -/
def State.chainLineNow (s : State) (value : Nat) : TimeLine :=
  match s.time.chainLine with
  | some l => if l.at_ < s.now ∧ l.value < value then
      { at_ := s.now, value := value, addend := limitAddend ((value - l.value) / (2 * (s.now - l.at_))) }
    else { at_ := s.now, value := value, addend := nominalAddend }
  | none => { at_ := s.now, value := value, addend := nominalAddend }

/-- CHAIN_TIME_BLOCK (R387): TIME of the port that the loop follows, with D added. -/
def execChainTimeBlock (t : Nat) (port : Fin 4) (block : List Byte) (s : State) : Res :=
  let s := s.advance t
  .next (if !ctlOk block ∨ blockField block 0 8 ≠ 0x44 ∨ !s.portUp port ∨ !s.loops ∨ s.loopPort ≠ port.val then s
    else
      let ns := blockField block 56 48 * 1000000000 + blockField block 24 32
      let line := s.chainLineNow (ns * 2 ^ 40 + s.fld (Reg.CHAIN_PORT_DELAY port) 0 16 * 2 ^ 38)
      let s := { s with time := { s.time with chainLine := some line } }
      if s.tbSource = 4 then s.followLine line else s)

/-! ## Roles -/

/-- Own CHAIN_STAT bits; a change of lead passes the zones (R397). -/
def State.setRole (s : State) (lead acting : Bool) : State :=
  let s := ((s.setBit Reg.CHAIN_STAT 6 lead).setBit Reg.CHAIN_STAT 5 acting).refreshOwn
  let p := s.partnerId.getD 0
  { s with chain := { s.chain with lead := if lead then s.chainId else p
                                   acting := if acting then s.chainId else if s.chain.acting = s.chainId then p else s.chain.acting } }

/-- Epoch of a new lead (R394, R399). -/
def State.nextEpoch (s : State) : Nat := (max (s.fld Reg.SPK_EPOCH 0 16) ((s.chain.partner.map (·.epoch)).getD 0) + 1) % 2 ^ 16
def State.setEpoch (s : State) (e : Nat) : State := s.setFld Reg.SPK_EPOCH 0 16 e

/-- The partner's last heartbeat says that it is acting master, pair lead, joined. -/
def State.partnerFlag (s : State) (i : Nat) : Bool := s.chain.partner.any fun h => h.flags.testBit i

/-- CHAIN_LEAD_CHANGE. -/
def State.leadChange (s : State) (old new epoch cause : Nat) : State :=
  s.raise Ev.CHAIN_LEAD_CHANGE [old, new, epoch, cause, s.chain.acting]

/-- This member becomes pair lead, and acting master when the partner was. -/
def State.takeLead (s : State) (acting : Bool) (cause : Nat) : State :=
  let e := s.nextEpoch
  let old := if s.isLead then s.chainId else s.partnerId.getD 0
  ((s.setRole true (s.isActing || acting)).setEpoch e).leadChange old s.chainId e cause

/-- This member gives up the lead, and acting master with it (R399). -/
def State.giveLead (s : State) (cause : Nat) : State :=
  let e := s.nextEpoch
  (s.setRole false false).leadChange s.chainId (s.partnerId.getD 0) e cause

/-- HANDBACK at its latch (R399). -/
def State.leadAtLatch (s : State) : State :=
  match s.chain.leadMove with
  | none => s
  | some k =>
    let s := { s with chain := { s.chain with leadMove := none } }
    if s.isLead then s.giveLead k else s

/-- CHAIN_CTL_JOIN (R398). -/
def execChainCtlJoin (t : Nat) (req : Requester) (s : State) : Res :=
  .next ((s.advance t).control req Reg.CHAIN_CTL 1 fun s =>
    if s.joined then s else { s with chain := { s.chain with joinAllowed := true } })

/-- CHAIN_CTL_HANDBACK (R399): at the next latch, or at once while no cadence runs. -/
def execChainCtlHandback (t : Nat) (req : Requester) (s : State) : Res :=
  .next ((s.advance t).control req Reg.CHAIN_CTL 2 fun s =>
    if !s.partnerFlag 2 then s.raise Ev.CHAIN_CTL_REFUSED [1, 1]
    else if !s.isLead then s
    else
      let s := { s with chain := { s.chain with leadMove := some 2 } }
      if s.cadenceRuns then s else s.leadAtLatch)

/-- CHAIN_CTL_TAKE (R399). -/
def execChainCtlTake (t : Nat) (req : Requester) (s : State) : Res :=
  .next ((s.advance t).control req Reg.CHAIN_CTL 4 fun s =>
    if s.isLead then s.raise Ev.CHAIN_CTL_REFUSED [2, 2]
    else if !s.paired then s
    else (s.setBit Reg.CHAIN_STAT 9 false).takeLead (s.partnerFlag 0) 3)

/-- CHAIN_CTL_YIELD (R399). -/
def execChainCtlYield (t : Nat) (req : Requester) (s : State) : Res :=
  .next ((s.advance t).control req Reg.CHAIN_CTL 8 fun s =>
    if !s.partnerFlag 2 then s.raise Ev.CHAIN_CTL_REFUSED [3, 1]
    else if s.isLead then s.giveLead 4 else s)

/-- CHAIN_CTL_CLEAR (Table 18-9). -/
def execChainCtlClear (t : Nat) (req : Requester) (s : State) : Res :=
  .next ((s.advance t).control req Reg.CHAIN_CTL 16 fun s => s.each (List.range 4) fun s p => s.setReg (Reg.CHAIN_PORT_CNT p) 0)

/-! ## Heartbeats (R392, R393) -/

/-- The frame latched last. -/
def State.lastLatched (s : State) : Nat := ((s.frame.next.orElse fun _ => s.frame.cur).map (·.count)).getD 0

/-- The body of Table 18-6. -/
def State.hbBody (s : State) : List Byte :=
  let flags := bitOf s.isActing + 2 * bitOf s.isLead + 4 * bitOf s.joined + 8 * bitOf (s.bit Reg.CHAIN_STAT 8)
    + 16 * bitOf s.storeReady + 32 * bitOf (s.bit Reg.CHAIN_STAT 9)
  let b := leBytes 4 0x54484842 ++ leBytes 1 1 ++ leBytes 1 s.chainId ++ leBytes 2 s.chain.hbSeq ++ leBytes 1 s.modeCode ++ leBytes 1 flags
    ++ leBytes 2 (s.fld Reg.SPK_EPOCH 0 16) ++ leBytes 2 s.lastLatched ++ leBytes 2 0
  b ++ leBytes 4 (crc32c b)

/-- A valid heartbeat body. -/
def parseHb (b : List Byte) : Option Heartbeat :=
  if 20 ≤ b.length ∧ leAt b 0 4 = 0x54484842 ∧ leAt b 4 1 = 1 ∧ leAt b 16 4 = crc32c (b.take 16) then
    some { sender := leAt b 5 1, seq := leAt b 6 2, mode := leAt b 8 1, flags := leAt b 9 1, epoch := leAt b 0xA 2, frame := leAt b 0xC 2 }
  else none

/-- The heartbeat in an HB block of a peer on port `p`. -/
def State.hbOfBlock (s : State) (p : Nat) (b : List Byte) : Option Heartbeat :=
  if ctlOk b ∧ blockField b 0 8 = 0x43 then
    (parseHb ((b.drop 2).take 20)).filter fun h => s.peerPorts.contains (p, h.sender)
  else none

/-- The partner's heartbeat in a datagram on port `x`, on a path that is in use. -/
def State.hbOfDatagram (s : State) (x : Nat) (b : List Byte) : Option Heartbeat :=
  if s.bit Reg.CHAIN_HB_CFG 20 && s.bit Reg.CHAIN_HB_CFG (21 + x) && !s.hbEthBarred then
    (parseHb b).filter fun h => s.partnerId == some h.sender
  else none

/-- HEARTBEAT_DUE (R392): once per t_HB, 0.99 ms at the least (Table 18-7). -/
def execHeartbeatDue (t : Nat) (s : State) : Res :=
  let s := s.advance t
  .next (if !s.chain.chained ∨ limited s.chain.hbAt (us 990) s.now then s
    else
      let s := s.checkEthPath
      let b := s.hbBody
      let s := { s with chain := { s.chain with hbAt := some s.now, hbSeq := (s.chain.hbSeq + 1) % 2 ^ 16 } }
      let s := s.each ((List.range 4).filter s.portUp) fun s p => s.sendControl p 0x43 (leNat b * 2 ^ 16)
      if s.paired && s.bit Reg.CHAIN_HB_CFG 20 && !s.hbEthBarred then
        let g := s.group (s.fld Reg.CHAIN_HB_CFG 16 4)
        let port := s.fld Reg.CHAIN_HB_CFG 0 16
        s.each ([0, 1].filter fun x => s.bit Reg.CHAIN_HB_CFG (21 + x) && s.netOn x && s.bit (Reg.NET_PORT_STAT x) 0) fun s x =>
          s.enqueue x s.hbQueue (s.udpFrame x s.hbQueue g (groupMac g) port port b) none
      else s)

/-- The shares of IREF change (R397): the codes in effect take their new targets while emission is steady. -/
def State.setFull (s : State) (full : Bool) : State :=
  if s.bit Reg.CHAIN_STAT 10 = full then s
  else
    let s := s.setBit Reg.CHAIN_STAT 10 full
    let s := if s.fld Reg.EMIT_STAT 0 3 = 3 then s.setCodes s.targets else s
    s.raise Ev.CHAIN_IREF_FULL [if full then 1 else 2, s.lastLatched % 2 ^ 16]

/-- Roles after a heartbeat of the partner (R395, R396, R399); `acted`: it was acting master by the heartbeat before. -/
def State.settleRoles (s : State) (h : Heartbeat) (acted : Bool) : State :=
  let they := h.flags.testBit 1
  let p := h.sender
  let mine := s.fld Reg.SPK_EPOCH 0 16
  if s.isLead && they then
    if mine < h.epoch ∨ (mine = h.epoch ∧ p < s.chainId) then
      ((s.setRole false (s.isActing && !h.flags.testBit 0)).setEpoch h.epoch).leadChange s.chainId p h.epoch 5
    else s
  else if they then
    let s := s.setEpoch h.epoch
    { s with chain := { s.chain with lead := p, acting := if h.flags.testBit 0 then p else s.chain.acting } }
  else if s.isLead then s
  else if s.bit Reg.CHAIN_STAT 9 then (s.setBit Reg.CHAIN_STAT 9 false).setRole true s.chain.wasActing
  else if s.joined && h.flags.testBit 2 then s.takeLead (acted && !h.flags.testBit 0) 2
  else s

/-- The partner has joined and sources its share again: no frame is named for its join, and its locks are there (R397). -/
def State.shareAgain (s : State) (h : Heartbeat) : State :=
  let c := s.chain
  let again : Bool := h.flags.testBit 2 && c.joinFrame.isNone && c.noPartnerLock.isNone
  if again then s.setFull false else s

/-- What a heartbeat of the partner says of it. -/
def State.noteBeat (s : State) (h : Heartbeat) : State :=
  let ns := s.showNs
  let s := { s with chain := { s.chain with partner := some h, hbNs := ns } }
  (s.setFld Reg.CHAIN_HB_STAT 16 16 h.seq).setBit Reg.CHAIN_STAT 8 false

/-- A heartbeat of the partner is recognised on either path. -/
def State.partnerBeat (s : State) (h : Heartbeat) : State :=
  let acted := s.partnerFlag 0
  let s := (s.noteBeat h).settleRoles h acted
  let s := if s.ready then s else s.decideJoin
  s.shareAgain h

/-- A heartbeat on the chain. -/
def State.chainBeat (s : State) (h : Heartbeat) : State :=
  let s := s.setReg (Reg.CHAIN_MEMBER h.sender) (Word.ofNat (1 + h.mode % 16 * 2 + h.flags % 64 * 2 ^ 5 + h.epoch * 2 ^ 16))
  let s := { s with chain := { s.chain with peers := s.chain.peers.filter (fun (x : Nat × Nat) => x.1 != h.sender) ++ [(h.sender, s.now)]
                                            lostPeers := s.chain.lostPeers.filter (· != h.sender) } }
  if s.partnerId = some h.sender then
    (({ s with chain := { s.chain with hbChain := some s.now } }).partnerBeat h).setPath 0 true
  else s

/-- CHAIN_HB_BLOCK (R393). -/
def execChainHbBlock (t : Nat) (port : Fin 4) (block : List Byte) (s : State) : Res :=
  let s := s.advance t
  .next (match s.hbOfBlock port block with
    | some h => s.chainBeat h
    | none => s)

/-- HEARTBEAT_DATAGRAM (R393). -/
def execHeartbeatDatagram (t : Nat) (port : Fin 2) (payload : List Byte) (s : State) : Res :=
  let s := s.advance t
  .next (match s.hbOfDatagram port payload with
    | some h => (({ s with chain := { s.chain with hbEth := some s.now } }).partnerBeat h).setPath 1 true
    | none => s)

/-- A heartbeat of member `q` is recognised in this cycle: on the chain, or by datagram (R17). -/
def State.beatNow (s : State) (q : Nat) (chain : Bool) : Bool :=
  s.sameCycle fun i => match i with
    | .chainHbBlock _ p b => chain && (s.hbOfBlock p b).any fun h => h.sender == q
    | .heartbeatDatagram _ x b => !chain && (s.hbOfDatagram x b).any fun h => h.sender == q
    | _ => false

/-- A peer's chain heartbeat is lost. -/
def State.dropPeer (s : State) (x : Nat × Nat) : State :=
  if s.now < x.2 + ms 3 ∨ s.chain.lostPeers.contains x.1 ∨ s.beatNow x.1 true then s
  else
    let s := (s.setBit (Reg.CHAIN_MEMBER x.1) 0 false)
    let s := { s with chain := { s.chain with lostPeers := s.chain.lostPeers ++ [x.1] } }
    if s.partnerId = some x.1 then s.setPath 0 false
    else s.raise Ev.CHAIN_MEMBER_LOST [x.1, ((s.peerPorts.find? fun (y : Nat × Nat) => y.2 == x.1).map (·.1)).getD 0]

/-- HB_PATH_TIMEOUT (R393): 0 the chain, with every peer's heartbeat; 1 Ethernet. -/
def execHbPathTimeout (t : Nat) (path : Fin 2) (s : State) : Res :=
  let s := s.advance t
  .next (if path = 0 then s.each s.chain.peers State.dropPeer
    else match s.chain.hbEth with
      | none => s
      | some c => if s.now < c + ms 3 ∨ s.beatNow (s.partnerId.getD 8) false then s else s.setPath 1 false)

/-! ## Fail-over (R394, R395, R397) -/

/-- Cycle of the partner's last heartbeat on either path. -/
def State.lastBeat (s : State) : Option Nat :=
  match s.chain.hbChain, s.chain.hbEth with
  | some a, some b => some (max a b)
  | a, none => a
  | none, b => b

/-- The partner is declared failed (R394). -/
def State.partnerFails (s : State) : State :=
  let p := s.partnerId.getD 0
  let was := s.isLead
  let old := if was then s.chainId else p
  let e := s.nextEpoch
  let s := { s with chain := { s.chain with wasLead := was, wait := none } }
  let s := (s.setRole true (s.isActing || s.chain.acting == p)).setEpoch e
  let s := s.setBit Reg.CHAIN_STAT 8 true
  (s.raise Ev.CHAIN_PARTNER_FAILED [p, s.chain.hbNs % 2 ^ 32, e]).leadChange old s.chainId e 1

/-- PARTNER_FAIL_TIMEOUT (R393, R394). -/
def execPartnerFailTimeout (t : Nat) (s : State) : Res :=
  let s := s.advance t
  let q := s.partnerId.getD 8
  .next (match s.lastBeat with
    | none => s
    | some c =>
      if !s.paired ∨ s.bit Reg.CHAIN_STAT 8 ∨ s.now < c + ms 3 ∨ s.beatNow q true ∨ s.beatNow q false then s
      else s.partnerFails)

/-- YIELD_CHECK (R395): one check per failure, t_YIELD after the partner's last heartbeat. -/
def execYieldCheck (t : Nat) (s : State) : Res :=
  let s := s.advance t
  let n := (s.tiles.filter s.enumerated).length
  let k := s.partnerLocks.1
  let due : Bool := match s.lastBeat with
    | none => false
    | some c => decide (c + ms 6 ≤ s.now)
  .next (if !(s.paired && s.bit Reg.CHAIN_STAT 8 && s.chain.wasLead && due && !s.bit Reg.CHAIN_STAT 9) then s
    else if n < 2 * k then
      let s := { s with chain := { s.chain with wasActing := s.isActing, wasLead := false } }
      let s := (s.setRole false false).setBit Reg.CHAIN_STAT 9 true
      s.raise Ev.CHAIN_YIELDED [k, s.fld Reg.SPK_EPOCH 0 16]
    else { s with chain := { s.chain with wasLead := false } })

/-- IREF_TAKEUP_TIMEOUT (R395, R397): more than half of the tiles have reported no lock on the partner's port for t_TAKEUP. -/
def execIrefTakeupTimeout (t : Nat) (s : State) : Res :=
  let s := s.advance t
  .next (match s.chain.noPartnerLock with
    | none => s
    | some c =>
      if !s.paired ∨ s.now < c + us 100 then s
      else
        let s := if s.bit Reg.CHAIN_STAT 9 then (s.setBit Reg.CHAIN_STAT 9 false).setRole true s.chain.wasActing else s
        if s.bit Reg.CHAIN_CFG 2 then s.setFull true else s)

/-! ## Packets from other members -/

/-- Words of a packet's bytes. -/
def packetOf (bs : List Byte) : Packet := ⟨(chunks 4 bs).map fun c => Word.ofNat (leNat c)⟩

/-- The packet has the KIND and is for this member: by DEST, or to all and not of its own making. -/
def State.takes (s : State) (k : Packet) (kind : Nat) : Bool :=
  s.chain.chained && k.kind == kind && (if k.all then k.dest != s.chainId else k.dest == s.chainId)

/-- CHAIN_REGISTER_WRITE (R388): a mirrored write, applied as a local one. -/
def execChainRegisterWrite (t : Nat) (port : Fin 4) (packet : List Byte) (s : State) : Res :=
  let s := s.advance t
  let k := packetOf packet
  let _ := port
  .next (if s.takes k 1 then s.plainWrite .chain (k.body.getD 0 0).toNat 4 (k.body.getD 1 0) else s)

/-- Which of acting master and pair lead have sent their mirrored state, once a packet with registers of these scopes has come; an empty
packet counts for the one that is still missing. -/
def joinStep (had : Bool × Bool) (scopes : List Nat) : Bool × Bool :=
  if scopes.isEmpty then (if had.1 then (true, true) else (true, had.2))
  else (had.1 || scopes.contains 1, had.2 || scopes.contains 2)

/-- CHAIN_JOIN_STATE (R398): the mirrored state, applied as writes. -/
def execChainJoinState (t : Nat) (port : Fin 4) (packet : List Byte) (s : State) : Res :=
  let s := s.advance t
  let k := packetOf packet
  let _ := port
  .next (if s.takes k 8 then
      let s := s.each (chunks 2 k.body) fun s w => s.plainWrite .chain (w.getD 0 0).toNat 4 (w.getD 1 0)
      { s with chain := { s.chain with joinState := joinStep s.chain.joinState ((chunks 2 k.body).map fun w => mirrorScope (w.getD 0 0).toNat) } }
    else s)

/-- CHAIN_COMMIT (R389): GO with the named TARGET, or late, at the next boundary. -/
def execChainCommit (t : Nat) (port : Fin 4) (packet : List Byte) (s : State) : Res :=
  let s := s.advance t
  let k := packetOf packet
  let f := (k.body.getD 0 0).toNat
  let _ := port
  .next (if !s.takes k 2 then s
    else
      -- late when the next boundary is past the one named
      let next := (s.closing.map fun x => s.goCount x.1 x.2).getD f
      let late := s.frame.latched && !fenceReached f next
      let tgt := if late then next else f
      let s := { s with frame := { s.frame with go := some (s.now, some tgt) } }
      let s := ((s.setBit Reg.SCAN_COMMIT 0 true).setBit Reg.SCAN_COMMIT 1 false).setFld Reg.SCAN_COMMIT 16 16 tgt
      if late then s.raise Ev.CHAIN_COMMIT_LATE [f, tgt] else s)

/-- CHAIN_MODE_COMMAND (R389): the acting master's command, at the boundary it names. -/
def execChainModeCommand (t : Nat) (port : Fin 4) (packet : List Byte) (s : State) : Res :=
  let s := s.advance t
  let k := packetOf packet
  let w := k.body.getD 0 0
  let f := (k.body.getD 1 0).toNat
  let _ := port
  .next (if !s.takes k 3 then s
    else if s.busy then s.refuseMode (w.field 0 8) 2 0 (w.field 8 8) (w.field 16 8) 2
    else match s.modeCheck (w.field 0 8) true with
      | some (r, p) => s.refuseMode (w.field 0 8) r p (w.field 8 8) (w.field 16 8) 2
      | none => s.startMode (w.field 0 8) false (w.field 8 8) (w.field 16 8) (some f))

/-- CHAIN_SIGNED_OBJECT (R91). -/
def execChainSignedObject (t : Nat) (port : Fin 4) (packet : List Byte) (s : State) : Res :=
  let s := s.advance t
  let k := packetOf packet
  let bs := (k.body.drop 2).flatMap fun w => leBytes 4 w.toNat
  let _ := port
  .next (if s.takes k 7 then s.venueArrives 3 (bs.take (k.body.getD 1 0).toNat) (some (k.body.getD 0 0).toNat) else s)

/-- A distributed record goes into the ring where the open skein's sequence expects it (R388). -/
def State.chainRecord (s : State) (frame : Nat) (bs : List Byte) : State :=
  match s.store.skein, s.store.seq with
  | some k, some q =>
    let good := (k.entries[frame]?).any fun e => e.crc == crc32c bs && e.length == bs.length
    let ring := s.area Reg.STORE_RING
    match (if good && s.frameAtPos k q q.next == some frame then parseRecord bs frame else none),
      firstFit ring.2 (recordBytes bs.length) (ring.1 + k.indexMib * 2 ^ 20) s.ringUsed with
    | some ps, some a =>
      let s := s.hbmWrite a bs 1
      let r : RingRecord := { gen := q.gen, pos := q.next, frame := frame, addr := a, length := bs.length, plies := ps }
      ({ s with store := { s.store with ring := s.store.ring ++ [r], seq := some { q with next := q.next + 1 } } }).refreshLead
    | _, _ => s
  | _, _ => s

/-- CHAIN_SKEIN_RECORD (R388). -/
def execChainSkeinRecord (t : Nat) (port : Fin 4) (packet : List Byte) (s : State) : Res :=
  let s := s.advance t
  let k := packetOf packet
  let bs := ((k.body.drop 2).flatMap fun w => leBytes 4 w.toNat).take (k.body.getD 1 0).toNat
  let _ := port
  .next (if s.takes k 4 && !s.readsRecords then s.chainRecord (k.body.getD 0 0).toNat bs else s)

end Sys2Proof.Machine
end

