-- ==== Sys2Proof/Machine/Health.lean ====
section
/-! DEFINITION.  The health unit (chapter 19): sensors and their limits (R402 to R409), the core voltage (R410, R450),
calibration (R411 to R415), ageing and the margin re-plan (R416 to R418). -/

namespace Sys2Proof.Machine

/-! ## Sensors -/

/-- Degrees in signed 8.8. -/
def deg (n : Nat) : Int := (256 * n : Nat)

/-- A temperature inside the range of Table 19-3. -/
def tempOk (v : Int) : Bool := decide (-(deg 40) ≤ v) && decide (v ≤ deg 150)

/-- Orthogonal neighbours on the 4 × 8 grid (R404). -/
def neighbours (n : Nat) : List Nat :=
  (if 8 ≤ n then [n - 8] else []) ++ (if n < 24 then [n + 8] else []) ++ (if 1 ≤ n % 8 then [n - 1] else []) ++ (if n % 8 < 7 then [n + 1] else [])

/-- Insert into an ascending list. -/
def insertInt (v : Int) : List Int → List Int
  | [] => [v]
  | x :: xs => if v ≤ x then v :: x :: xs else x :: insertInt v xs
def sortInt (l : List Int) : List Int := l.foldr insertInt []

/-- Twice the median: of an even count, the sum of the two in the middle. -/
def median2 (l : List Int) : Int :=
  let m := sortInt l
  let n := m.length
  if n % 2 = 1 then 2 * m.getD (n / 2) 0 else m.getD (n / 2 - 1) 0 + m.getD (n / 2) 0

def State.sensor (s : State) (n : Nat) : DieSensor := s.health.sensors.getD n {}
def State.setSensor (s : State) (n : Nat) (x : DieSensor) : State :=
  { s with health := { s.health with sensors := s.health.sensors.set n x } }

/-- The filtered value of a die sensor, once three conversions exist (R403). -/
def State.filtered (s : State) (n : Nat) : Option Int :=
  match (s.sensor n).conv with
  | [a, b, c] => some ((sortInt [a, b, c]).getD 1 0)
  | _ => none

/-- A sensor is marked suspect. -/
def State.suspect (s : State) (n : Nat) : Bool := s.bit (Reg.HLTH_DIE_TEMP n) 16

/-- A conversion of a sensor; outside the range it is discarded (R403, R419). -/
def State.convert (s : State) (n : Nat) (v : Int) : State :=
  let x := s.sensor n
  let s := if tempOk v then s.setSensor n { x with conv := (v :: x.conv).take 3 } else s
  match s.filtered n with
  | some f => (s.setTemp (Reg.HLTH_DIE_TEMP n) 0 f).setBit (Reg.HLTH_DIE_TEMP n) 17 true
  | none => s

/-- One sensor's neighbour check in a round (R404); `marked` are the suspects at the round's start. -/
def State.checkSensor (s : State) (marked : List Nat) (n : Nat) : State :=
  let x := s.sensor n
  let near := ((neighbours n).filter fun k => !marked.contains k).filterMap s.filtered
  match (if near.length < 2 then none else s.filtered n) with
  | none => s.setSensor n { x with far := 0, near := 0 }
  | some f =>
    let m := median2 near
    let d2 : Nat := (2 * f - m).natAbs
    let x := { x with far := if 4096 < d2 then x.far + 1 else 0, near := if d2 ≤ 3072 then x.near + 1 else 0 }
    let args (k : Nat) : List Nat := [n, argInt f, argInt (roundDivInt m 2), k]
    if s.suspect n then
      if 1000 ≤ x.near then
        ((s.setSensor n { x with far := 0 }).setBit (Reg.HLTH_DIE_TEMP n) 16 false).raise Ev.HLTH_SENSOR_SUSPECT (args 2)
      else s.setSensor n x
    else
      let x := if 1000 ≤ x.near then { x with fifth := false } else x
      if x.far < 3 then s.setSensor n x
      else if ((List.range 32).filter s.suspect).length < 4 then
        ((s.setSensor n { x with near := 0, fifth := false }).setBit (Reg.HLTH_DIE_TEMP n) 16 true).raise Ev.HLTH_SENSOR_SUSPECT (args 1)
      else if x.fifth then s.setSensor n x
      else (s.setSensor n { x with fifth := true }).raise Ev.HLTH_SENSOR_SUSPECT (args 1)

/-- The greatest of a list. -/
def maxInt (l : List Int) : Option Int :=
  l.foldl (fun (m : Option Int) v => match m with
    | none => some v
    | some a => some (max a v)) none

/-- T_die (R402). -/
def State.tDie (s : State) : Option Int := maxInt ((List.range 32).filterMap fun n => if s.suspect n then none else s.filtered n)
/-- Readings of the stack sensors whose last read succeeded. -/
def State.stackTemps (s : State) : List Int :=
  [0, 1].filterMap fun h => if s.bit (Reg.HLTH_HBM_TEMP h) 16 then some (s.health.stackTemp.getD h 0) else none
/-- T_hot (R402); none until a die sensor has a filtered value (R403). -/
def State.hotNow (s : State) : Option Int :=
  match s.tDie with
  | none => none
  | some d => maxInt (d :: s.stackTemps)

/-! ## Core voltage (R410, R417) -/

/-- V_req for a factory voltage. -/
def State.vReq (s : State) (fac : Nat) : Nat := fac + 5 * ceilDiv (s.fld Reg.HLTH_AGE 0 20 * s.sec.otp.sens) 5000000
def State.vReq5 (s : State) : Nat := s.vReq s.sec.otp.vfac5
def State.vReq6 (s : State) : Nat := s.vReq s.sec.otp.vfac6
/-- A target within 650 to 850 mV (R410). -/
def avsLimit (v : Nat) : Nat := min 850 (max 650 v)

/-- Aim the voltage at the divider that is wanted or in effect: the higher of the two until the boundary. -/
def State.aimVolts (s : State) : State :=
  let fixed := s.bit Reg.HLTH_MARGIN 24
  let slow := s.bit Reg.GLB_CLK_STAT 1 && (s.health.want != 0 || fixed)
  (s.setFld Reg.HLTH_AVS 0 10 (avsLimit (if slow then s.vReq6 else s.vReq5))).setFld Reg.HLTH_AVS 16 10 s.vReq6

/-- M and its percentage from the present degradation (R417); for ÷6 while the ray clock is fixed there (R418). -/
def State.refreshMargin (s : State) : State :=
  let fixed := s.bit Reg.HLTH_MARGIN 24
  let v : Nat := if fixed then s.vReq6 else s.vReq5
  let fac : Nat := if fixed then s.sec.otp.vfac6 else s.sec.otp.vfac5
  let m : Int := 850 - (v : Int)
  let pct : Nat := if m ≤ 0 then 0 else min 100 (100 * m.toNat / (850 - fac))
  ((s.setFld Reg.HLTH_MARGIN 0 16 (unsigned 16 m)).setFld Reg.HLTH_MARGIN 16 8 pct).aimVolts

/-- The voltage of ÷5 is confirmed. -/
def State.volts5 (s : State) : Bool := avsLimit s.vReq5 ≤ s.health.volts

/-- AVS_STEP (R410): one step of 5 mV toward the target; the first command goes out at the calibration step (R450). -/
def execAvsStep (t : Nat) (s : State) : Res :=
  let s := s.advance t
  let h := s.health
  let v := h.volts
  let goal := s.fld Reg.HLTH_AVS 0 10
  let next := if v < goal then min goal (v + 5) else max goal (v - 5)
  .next (if !s.calReached ∨ h.sent.isSome ∨ next = v ∨ goal = 0 ∨ limited h.avsAt (us 100) s.now then s
    else ({ s with health := { h with sent := some next, tries := 0, avsAt := some s.now } }).emit (.avs next))

/-- AVS_RESPONSE (R450): a target is confirmed, or its command is sent again, at most twice. -/
def execAvsResponse (t : Nat) (good : Bool) (s : State) : Res :=
  let s := s.advance t
  let h := s.health
  .next (match h.sent with
    | none => s
    | some v =>
      if good then { s with health := { h with sent := none, volts := v } }
      else if h.tries < 2 then ({ s with health := { h with tries := h.tries + 1 } }).emit (.avs v)
      else { s with health := { h with sent := none } })

/-! ## Throttling (R406 to R409) -/

/-- Thresholds of HLTH_THERM_CFG in signed 8.8. -/
def State.warnAt (s : State) : Int := deg (s.fld Reg.HLTH_THERM_CFG 0 8)
def State.throttleAt (s : State) : Int := deg (s.fld Reg.HLTH_THERM_CFG 8 8)

/-- The step that the limits ask for becomes `new`; between steps 1 and 2 it is in effect at once (R407). -/
def State.setStep (s : State) (new cause : Nat) : State :=
  let h := s.health
  let old := h.want
  if new = old then s
  else
    let divider : Bool := (old == 0) != (new == 0)
    let s := { s with health := { h with want := new, cause := cause, stepAt := if new = 1 then s.now else h.stepAt
                                         decided := if divider then s.now else h.decided } }
    let step := s.fld Reg.HLTH_STAT 0 2
    let s := if !divider ∧ step ≠ 0 then
        (s.setFld Reg.HLTH_STAT 0 2 new).raise Ev.HLTH_THROTTLE [step, new, cause, s.fld Reg.SCAN_STAT 16 16]
      else s
    let s := if old = 2 then ((s.startEngine 4).startEngine 5).refreshHank else s
    s.aimVolts

/-- The step after the conditions as they stand (R407, R408). -/
def State.decideStep (s : State) (hot : Int) : State :=
  let h := s.health
  let thr := s.throttleAt
  let pre := s.bit Reg.HLTH_STAT 2
  let base : Nat := if !(h.tempOn || pre) then 0 else if h.want = 2 ∧ hot < thr then 1 else max h.want 1
  let late := h.want == 1 && decide (h.stepAt + ms 2000 ≤ s.now)
  let new : Nat := if base ≠ 0 ∧ (thr + deg 3 ≤ hot ∨ (late ∧ thr ≤ hot)) then 2 else base
  s.setStep new (if new < h.want then 3 else if thr ≤ hot then 1 else 2)

/-- The throttle by temperature and the pre-emptive one end after their second (R406, R408). -/
def State.releaseThrottle (s : State) (hot : Int) : State :=
  let cool := decide (hot < s.throttleAt - deg 5)
  let long (c : Option Nat) : Bool := c.any fun k => decide (k + ms 1000 ≤ s.now)
  let s := if s.health.tempOn && cool && long s.health.coolAt then { s with health := { s.health with tempOn := false } } else s
  let s := if s.bit Reg.HLTH_STAT 2 && cool && long s.health.calmAt then s.setBit Reg.HLTH_STAT 2 false else s
  s.decideStep hot

/-- The rate of rise of a round (R408). -/
def State.rateRound (s : State) (hot : Int) : State :=
  let h := s.health
  let past := s.now - ms 200
  let old := (h.history.filter fun (x : Nat × Int) => decide (x.1 + ms 200 ≤ s.now))
  let keep := (h.history.filter fun (x : Nat × Int) => decide (past < x.1)) ++ old.take 1
  let s := { s with health := { h with history := (s.now, hot) :: keep } }
  match old.head? with
  | none => s
  | some r =>
    let rate := (hot - r.2) * 5
    if deg (s.fld Reg.HLTH_THERM_CFG 16 8) < rate then
      let s := ({ s with health := { s.health with calmAt := none } }).setBit Reg.HLTH_STAT 2 true
      if limited s.health.riseEvent (ms 1000) s.now then s
      else ({ s with health := { s.health with riseEvent := some s.now } }).raise Ev.HLTH_RISE [argInt (rate * 10 / 256), argInt hot]
    else { s with health := { s.health with calmAt := some (s.health.calmAt.getD s.now) } }

/-- WARN and CRITICAL (R406, R33): the cause arises as a sensor reaches 110 °C and is active until every sensor is below 100 °C. -/
def State.warnRound (s : State) (die hot : Int) : State :=
  let w := s.warnAt
  let on := s.bit Reg.HLTH_STAT 3
  let s := if !on && decide (w ≤ hot) then (s.setBit Reg.HLTH_STAT 3 true).raise Ev.HLTH_WARN [argInt hot, 1]
    else if on && decide (hot < w - deg 2) then (s.setBit Reg.HLTH_STAT 3 false).raise Ev.HLTH_WARN [argInt hot, 2] else s
  let was := s.health.crit
  let s := { s with health := { s.health with crit := decide (deg 110 ≤ die) } }
  if !was && decide (deg 110 ≤ die) then s.enterSafe 1 none
  else if s.bit Reg.GLB_MODE_SAFE 16 && decide (die < deg 100) then s.causeEnds 1
  else s

/-- The limits at a round (R406 to R408). -/
def State.limits (s : State) (die hot : Int) : State :=
  let s := (s.warnRound die hot).rateRound hot
  let thr := s.throttleAt
  let cool := decide (hot < thr - deg 5)
  let s := { s with health := { s.health with tempOn := s.health.tempOn || decide (thr ≤ hot)
                                              coolAt := if cool then some (s.health.coolAt.getD s.now) else none } }
  let s := s.setBit Reg.HLTH_STAT 5 (!cool && !s.bit Reg.HLTH_STAT 4)
  s.releaseThrottle hot

/-- What follows from a round's readings. -/
def State.roundEnds (s : State) : State :=
  let hot := s.hotNow
  let s := { s with health := { s.health with tHot := hot } }
  match s.tDie, hot with
  | some d, some h => (s.setTemp Reg.HLTH_STAT 16 h).limits d h
  | _, _ => s.setFld Reg.HLTH_STAT 16 16 0

/-- The sequencer fails its self-check (R405). -/
def State.seqFail (s : State) (reason : Nat) : State :=
  let s := { s with health := { s.health with history := [], calmAt := none, refBad := 0 } }
  ((s.setBit Reg.HLTH_STAT 4 true).setBit Reg.HLTH_STAT 5 false).raise Ev.HLTH_SEQ_FAIL [reason]

/-- A sampling round: readings of the 32 die sensors, then the reference channel's deviation (R403 to R405). -/
def State.sensorRound (s : State) (r : List Int) : State :=
  let off := decide (deg 2 < ((r.getD 32 0).natAbs : Int))
  let bad := if off then s.health.refBad + 1 else 0
  let s := { s with health := { s.health with refBad := bad, lastRound := s.now } }
  if 2 ≤ bad then s.seqFail 1
  else
    let s := s.each (r.take 32).zipIdx fun s (x : Int × Nat) => s.convert x.2 x.1
    let marked := (List.range 32).filter s.suspect
    let s := s.each (List.range 32) fun s n => s.checkSensor marked n
    s.roundEnds

/-- The unit has power. -/
def State.healthOn (s : State) : Bool := s.domainOn 3

def execHlthSensorRound (t : Nat) (readings : List Int) (s : State) : Res :=
  let s := s.advance t
  .next (if !s.healthOn || s.bit Reg.HLTH_STAT 4 then s else s.sensorRound readings)

/-- A sensor round is recognised in this cycle (R17). -/
def State.roundNow (s : State) : Bool :=
  s.sameCycle fun i => match i with
    | .hlthSensorRound _ _ => true
    | .hlthOndemandRead _ _ => true
    | _ => false

/-- HLTH_ROUND_OVERDUE (R405). -/
def execHlthRoundOverdue (t : Nat) (s : State) : Res :=
  let s := s.advance t
  let n := if s.bit Reg.HLTH_STAT 5 then us 100 else ms 1
  .next (if !s.healthOn || s.bit Reg.HLTH_STAT 4 || s.roundNow || decide (s.now < s.health.lastRound + 2 * n) then s else s.seqFail 2)

/-- A read of stack sensor `h`: failed, or a reading, which is discarded outside the range (R403, R419). -/
def State.stackRead (s : State) (h : Nat) (v : Option Int) : State :=
  match v with
  | none =>
    let told := s.health.stackFail.getD h false
    let s := ({ s with health := { s.health with stackFail := s.health.stackFail.set h true } }).setBit (Reg.HLTH_HBM_TEMP h) 16 false
    if told then s else s.raise Ev.HLTH_HBM_SENSOR [h]
  | some c =>
    let s := { s with health := { s.health with stackFail := s.health.stackFail.set h false } }
    if tempOk c then
      (({ s with health := { s.health with stackTemp := s.health.stackTemp.set h c } }).setTemp (Reg.HLTH_HBM_TEMP h) 0 c).setBit
        (Reg.HLTH_HBM_TEMP h) 16 true
    else s

/-- Multiplier code of a stack temperature while `k` is in effect: a fall waits for 2 °C below the threshold (Table 12-3, R261). -/
def refreshCode (k : Nat) (c : Int) : Nat :=
  let up : Nat := if deg 95 ≤ c then 2 else if deg 85 ≤ c then 1 else 0
  let down : Nat := if c ≤ deg 83 then 0 else if c ≤ deg 93 then 1 else 2
  if k < up then up else min k down

/-- The refresh multiplier after a read (R261). -/
def State.refreshRate (s : State) : State :=
  let old := s.fld Reg.HBM_STAT 2 2
  if s.health.stackFail.any id then
    if old = 2 then s else (s.setFld Reg.HBM_STAT 2 2 2).raise Ev.HBM_REFRESH_RATE [2, 0x8000]
  else match maxInt s.stackTemps with
    | none => s
    | some c =>
      let k := refreshCode old c
      if k = old then s else (s.setFld Reg.HBM_STAT 2 2 k).raise Ev.HBM_REFRESH_RATE [k, argInt c]

/-- HBM_STACK_SENSOR_READ (R261, R403). -/
def execHbmStackSensorRead (t : Nat) (sensors : List (Option Int)) (s : State) : Res :=
  let s := s.advance t
  .next (if !s.healthOn || !s.domainOn 55 then s
    else (s.each (sensors.take 2).zipIdx fun s (x : Option Int × Nat) => s.stackRead x.2 x.1).refreshRate)

/-- HLTH_ONDEMAND_READ (R405): 32 die and 2 stack readings; the neighbour check is not applied. -/
def execHlthOndemandRead (t : Nat) (readings : List Int) (s : State) : Res :=
  let s := s.advance t
  .next (if !s.healthOn || !s.bit Reg.HLTH_STAT 4 then s
    else
      let s := s.each (readings.take 32).zipIdx fun s (x : Int × Nat) => s.convert x.2 x.1
      let s := s.each ((readings.drop 32).take 2).zipIdx fun s (x : Int × Nat) => s.stackRead x.2 (some x.1)
      (if s.domainOn 55 then s.refreshRate else s).roundEnds)

/-- THROTTLE_STEP2_TIMEOUT (R407). -/
def execThrottleStep2Timeout (t : Nat) (s : State) : Res :=
  let s := s.advance t
  .next (match s.health.tHot with
    | some h => if s.roundNow then s else s.decideStep h
    | none => s)

/-- THROTTLE_RELEASE_TIMEOUT (R406, R408). -/
def execThrottleReleaseTimeout (t : Nat) (s : State) : Res :=
  let s := s.advance t
  .next (match s.health.tHot with
    | some h => if s.roundNow then s else s.releaseThrottle h
    | none => s)

/-- The ray divider at a latch instant (R16, R409, R410): decisions before this cycle apply, a rise to ÷5 once its voltage is confirmed. -/
def State.latchClock (s : State) (frameNo : Nat) : State :=
  let h := s.health
  let fixed := s.bit Reg.HLTH_MARGIN 24
  let step := s.fld Reg.HLTH_STAT 0 2
  let slow := fixed || h.want != 0
  let due := decide (h.decided < s.now) && (slow || s.volts5)
  if !due then s
  else
    let s := s.setBit Reg.GLB_CLK_STAT 1 slow
    let s := if step = h.want then s
      else (s.setFld Reg.HLTH_STAT 0 2 h.want).raise Ev.HLTH_THROTTLE [step, h.want, h.cause, frameNo % 2 ^ 16]
    s.aimVolts

/-! ## HLTH_CTL -/

/-- HLTH_CTL_READ (R405): the sensors are read; what they read arrives as a sensor round or an on-demand read. -/
def execHlthCtlRead (t : Nat) (req : Requester) (s : State) : Res :=
  .next ((s.advance t).control req Reg.HLTH_CTL 1 fun s => s)

/-- HLTH_CTL_CLEAR_SUSPECT (R404). -/
def execHlthCtlClearSuspect (t : Nat) (req : Requester) (s : State) : Res :=
  .next ((s.advance t).control req Reg.HLTH_CTL 8 fun s =>
    s.each (List.range 32) fun s n =>
      (s.setSensor n { s.sensor n with far := 0, near := 0, fifth := false }).setBit (Reg.HLTH_DIE_TEMP n) 16 false)

/-- HLTH_CTL_RESTORE (R415). -/
def execHlthCtlRestore (t : Nat) (req : Requester) (s : State) : Res :=
  .next ((s.advance t).control req Reg.HLTH_CTL 2 fun s =>
    if s.modeCode = Mode.SERVICE then { s with health := { s.health with restore := some s.now } }
    else s.raise Ev.HLTH_CMD_REFUSED [Reg.HLTH_CTL, s.modeCode])

/-! ## Calibration (R411 to R414) -/

/-- Every item of Table 19-2. -/
def calItems : List Nat :=
  List.range 0x30 ++ [0x30, 0x31] ++ (List.range 32).map (· + 0x40) ++ (List.range 304).map (· + 0x100)

/-- Tolerance of an item: IREF in nA, ADC in ppm, band codes, sensors in 8.8 °C, lanes in µV. -/
def calTolerance (i : Nat) : Nat :=
  if i < 0x30 then 2000 else if i = 0x30 then 500 else if i = 0x31 then 1 else if i < 0x60 then 128 else 2000

/-- The pair of measurements that agrees, with its place; a timeout agrees with nothing (R412). -/
def calPair (tol : Nat) (got : List (Option Nat)) : Option (Nat × Nat) :=
  let near (a b : Option Nat) : Option (Nat × Nat) := match a, b with
    | some x, some y => if x ≤ y + tol ∧ y ≤ x + tol then some (x, y) else none
    | _, _ => none
  match got with
  | [a, b] => near a b
  | [a, b, c] => (near a c).orElse fun _ => near b c
  | _ => none

/-- TRIM of an IREF item whose full scale measures `r` nA: rnd((ideal / r − 1) / 0.000125), ideal = 16,383 × 2 mA / 16,384 (R411). -/
def irefTrim (r : Nat) : Option Int :=
  if r = 0 then none
  else
    let t := roundDivInt ((16383 * 2000000 * 8000 : Nat) - (16384 * r * 8000 : Nat)) (16384 * r : Nat)
    if -128 ≤ t ∧ t ≤ 127 then some t else none

/-- Trim that a result asks for; none outside the converter's range.  The trims of the other items are not given (R411). -/
def calTrim (i r now : Nat) : Option Nat :=
  if i < 0x30 then (irefTrim r).map (unsigned 8) else some (Config.trimValue i now % 2 ^ 16)

/-- HLTH_CAL_SUM. -/
def State.refreshCalSum (s : State) : State :=
  let n (r : Nat) : Nat := (calItems.filter fun i => s.fld (Reg.HLTH_CAL_STAT i) 0 2 == r).length
  s.setNat Reg.HLTH_CAL_SUM (n 1 + n 2 * 2 ^ 10 + n 3 * 2 ^ 20)

/-- An item is resolved with a result code. -/
def State.calResolve (s : State) (i result : Nat) (trim : Option Nat) : State :=
  let s := { s with health := { s.health with held := s.health.held.filter (· != i)
                                              cal := match s.health.cal with
                                                | some c => if c.items.length ≤ 1 then none else some { items := c.items.drop 1, since := s.now }
                                                | none => none } }
  let s := match trim with
    | some v => s.setNat (Reg.HLTH_CAL_POWERUP i) v
    | none => s
  let s := ((s.setFld (Reg.HLTH_CAL_STAT i) 0 2 result).applyCal i).refreshCalSum
  -- sampling of the thermistors begins in cast-on (R241)
  if i = 0x30 ∧ !s.ready ∧ s.adcOn then s.startThm s.thmEnabled else s

/-- CAL_FAIL. -/
def State.calFail (s : State) (i reason : Nat) (got : List (Option Nat)) : State :=
  (s.calResolve i 3 none).raise Ev.CAL_FAIL [i, reason, (got.getD 0 none).getD 0, (got.getD 1 none).getD 0, (got.getD 2 none).getD 0]

/-- A measurement of the item in progress is over (R412). -/
def State.calMeasured (s : State) (i : Nat) (v : Option Nat) : State :=
  match s.health.cal with
  | none => s
  | some c =>
    if c.items.head? ≠ some i then s
    else
      let got := c.got ++ [v]
      let s := { s with health := { s.health with cal := some { c with got := got, since := s.now } } }
      match calPair (calTolerance i) got with
      | some (a, b) =>
        match calTrim i (roundDiv (a + b) 2) s.now with
        | some t => s.calResolve i (got.length - 1) (some t)
        | none => s.calFail i 2 got
      | none => if got.length < 3 then s else s.calFail i 1 got

/-- CAL_MEASURE_DONE (R412). -/
def execCalMeasureDone (t item value : Nat) (s : State) : Res := .next ((s.advance t).calMeasured item (some value))

/-- CAL_MEASURE_TIMEOUT (R412): 1 ms after it began; a measurement that completes in the cycle of expiry is in time. -/
def execCalMeasureTimeout (t item : Nat) (s : State) : Res :=
  let s := s.advance t
  let done := s.sameCycle fun i => match i with
    | .calMeasureDone _ k _ => k == item
    | _ => false
  let due := s.health.cal.any fun c => decide (c.since + ms 1 ≤ s.now)
  .next (if done || !due then s else s.calMeasured item none)

/-- An item's value changes at a commit: that of a lane waits for its next retrain (R414). -/
def State.calLands (s : State) (i : Nat) : State := if i < 0x100 then s.applyCal i else s

/-- USER writes have landed at a commit: their items take effect, and a restore that waited applies (R414, R415). -/
def State.calCommit (s : State) (landed : List PendWrite) (frameNo : Nat) : State :=
  let users := landed.filterMap fun p =>
    if Reg.HLTH_CAL_USER 0 ≤ p.addr ∧ p.addr < Reg.HLTH_CAL_USER 0x230 ∧ p.addr % 16 = 8 then some ((p.addr - Reg.HLTH_CAL_USER 0) / 16) else none
  match s.health.restore with
  | some c =>
    if c < s.now then
      let s := { s with health := { s.health with restore := none, held := calItems } }
      let s := s.each calItems fun s i => (s.setBit (Reg.HLTH_CAL_USER i) 31 false).calLands i
      s.raise Ev.HLTH_CAL_RESTORED [frameNo % 2 ^ 16]
    else s.each users State.calLands
  | none => s.each users State.calLands

/-! ## Ageing (R416 to R418) -/

/-- D_k in ppm of a pair of frequencies. -/
def roDrift (p : Nat × Nat) : Nat :=
  if p.1 = 0 then 0 else min (2 ^ 20 - 1) (roundDiv ((p.1 - p.2) * 1000000) p.1)

/-- The eight largest of a list. -/
def topEight (l : List Nat) : List Nat := ((sortInt (l.map fun (n : Nat) => (n : Int))).reverse.take 8).map Int.toNat

/-- Every pair is measured: HLTH_RO and D (R416). -/
def State.measurePairs (s : State) (pairs : List (Nat × Nat)) : State :=
  let d := (pairs.take 64).map roDrift
  let s := s.each d.zipIdx fun s (x : Nat × Nat) => s.setNat (Reg.HLTH_RO x.2) x.1
  (s.setFld Reg.HLTH_AGE 0 20 (roundDiv (topEight d).sum 8)).refreshMargin

/-- An hour in control cycles. -/
def hourCycles : Nat := ms 3600000

/-- AGEING_MEASURE (R416): the measurement of each hour with its logs. -/
def execAgeingMeasure (t : Nat) (pairs : List (Nat × Nat)) (s : State) : Res :=
  let s := s.advance t
  .next (if !s.healthOn || limited s.health.ageAt hourCycles s.now then s
    else
      let s : State := { s with health := { s.health with ageAt := some s.now } }
      let s := (s.measurePairs pairs).incFld Reg.HLTH_AGE 20 12 1
      let s := s.healthLog 0 ((List.range 304).map fun l => s.fld (Reg.LANE_FOM l) 8 8)
      s.healthLog 2 ((List.range 48).map fun i =>
        unsigned 8 (signed 8 (s.fld (Reg.HLTH_CAL_POWERUP i) 0 8) - signed 8 (s.fld (Reg.HLTH_CAL_FACTORY i) 0 8))))

/-- Lanes that a re-plan retrains: panel forward lanes with the preset search, and the lanes of disabled chain ports (R418). -/
def State.replanLanes (s : State) : List Nat :=
  ((List.range 128).filter fun l => s.fld (Reg.LANE_CFG l) 0 4 == 8) ++
  ((List.range 4).filter fun p => !s.bit (Reg.CHAIN_PORT_CFG p) 0).flatMap fun p => (List.range 4).map fun k => 0x100 + 4 * p + k

/-- HLTH_CTL_REPLAN (R418): in SERVICE entered from IDLE; the lanes retrain and PD55 to PD62 go off and on. -/
def execHlthCtlReplan (t : Nat) (req : Requester) (s : State) : Res :=
  .next ((s.advance t).control req Reg.HLTH_CTL 4 fun s =>
    if s.modeCode ≠ Mode.SERVICE ∨ s.mode.serviceSafe ∨ s.bit Reg.HLTH_STAT 6 then s.raise Ev.HLTH_CMD_REFUSED [Reg.HLTH_CTL, s.modeCode]
    else
      let s := s.setBit Reg.HLTH_STAT 6 true
      let s := s.each s.replanLanes State.retrainNow
      let ds := (List.range 8).map (· + 55)
      let s := s.hbmOff false
      (s.each ds.reverse State.dropDomain).askDomains ds)

/-- HLTH_REPLAN_DONE (R418): the pairs as measured; the ray clock is fixed at ÷6 when ÷5 no longer fits the rail. -/
def execHlthReplanDone (t : Nat) (pairs : List (Nat × Nat)) (s : State) : Res :=
  let s := s.advance t
  .next (if !s.bit Reg.HLTH_STAT 6 then s
    else
      let s := s.measurePairs pairs
      let fix := decide (850 < s.vReq5)
      let was := s.bit Reg.HLTH_MARGIN 24
      let s := { s with health := { s.health with decided := if fix = was then s.health.decided else s.now } }
      let s := ((s.setBit Reg.HLTH_MARGIN 24 fix).setBit Reg.HLTH_STAT 6 false).refreshMargin
      s.raise Ev.HLTH_REPLAN_DONE [argInt (signed 16 (s.fld Reg.HLTH_MARGIN 0 16)), s.fld Reg.HLTH_MARGIN 16 8, bitOf fix])

end Sys2Proof.Machine
end

