-- ==== Sys2Proof/Machine/Apply.lean ====
section
/-! DEFINITION.  What a boundary that applies a commit places in the registers (R23, R116, R171): waiting writes in order,
claims on shared balls (R434, R444), preset expansion and the expert writes on top of it, warp sources, shapers and
policers, and the changes that start a retime (R259). -/

namespace Sys2Proof.Machine

/-! ## Shared balls -/

/-- Ball index of GPIO[n], n from 12 to 15: BE21 to BE24 (R439, Table 21-4). -/
def gpioBall (n : Nat) : Nat := 2708 + (n - 12)

/-- Claims on GPIO[15:12] (R434, R444): releases first, then the trace port before GPIO outputs. -/
def State.gpioClaims (s : State) (due : List PendWrite) : State × List PendWrite :=
  let oe := ((waitingWrite due Reg.GLB_GPIO_OE).getD (s.reg Reg.GLB_GPIO_OE)).field 0 16
  let en := ((waitingWrite due Reg.GLB_TRACE_CFG).getD (s.reg Reg.GLB_TRACE_CFG)).bit 0
  let traceWas := s.bit Reg.GLB_PIN_STAT 16
  let kept := (bitsOf 16 (s.fld Reg.GLB_PIN_STAT 0 16)).filter fun n => oe.testBit n
  let blocked := kept.filter fun n => 12 ≤ n
  let trace := en && (traceWas || blocked.isEmpty)
  let refused := if trace then (bitsOf 16 oe).filter fun n => 12 ≤ n else []
  let own := (bitsOf 16 oe).filter fun n => !refused.contains n
  let s := if en && !trace then s.each blocked fun s n => s.raise Ev.PIN_CONFLICT [gpioBall n, 1, 2] else s
  let s := s.each refused fun s n => s.raise Ev.PIN_CONFLICT [gpioBall n, 2, 1]
  let s := s.setNat Reg.GLB_PIN_STAT (ofBits own + bitOf trace * 2 ^ 16)
  -- a port that is claimed starts afresh; one that is released cuts its packet off
  let s := if trace = traceWas then s
    else
      let s := { s with trace := { s.trace with queue := [], dropped := 0 } }
      if trace then s.setReg Reg.GLB_TRACE_STAT 0 else s
  let due := due.map fun p =>
    if p.addr = Reg.GLB_GPIO_OE then { p with data := Word.ofNat (ofBits own) }
    else if p.addr = Reg.GLB_TRACE_CFG ∧ !trace then { p with data := p.data.put 0 1 0 }
    else p
  (s, due)

/-! ## Tables that a preset governs -/

/-- A waiting write is an expert one (R22). -/
def expertWrite (p : PendWrite) : Bool := (findReg p.addr).any fun d => d.access == .rwx

/-- An address lies in a table: first element and the one past the last. -/
def inTable (lo hi a : Nat) : Bool := decide (lo ≤ a ∧ a < hi)

/-- Port and queue of a TRAF_CBS register of `base`; none for another address. -/
def cbsOf (base : Nat → Nat → Nat) (a : Nat) : Option (Nat × Nat) :=
  ([0, 1].flatMap fun x => (List.range 8).map fun q => (x, q)).find? fun xq => base xq.1 xq.2 == a

/-- An expert write lands: a preset that governs its table reads CUSTOM from then on (R23, R374). -/
def State.landExpert (s : State) (p : PendWrite) : State :=
  if inTable (Reg.RAY_XFER 0 0) (Reg.RAY_XFER 3 0) p.addr then (s.land p).setFld Reg.RAY_COLOUR 4 3 0
  else if inTable (Reg.RAY_ZONE_MTX 0 0) (Reg.RAY_ZONE_MTX 16 0) p.addr then (s.land p).setFld Reg.RAY_COLOUR 0 4 0
  else match cbsOf Reg.TRAF_CBS_SLOPE p.addr, cbsOf Reg.TRAF_CBS_BURST p.addr with
    | some (x, q), _ => (s.reshape x q fun s => s.land p).setFld (Reg.TRAF_CLASS x q) 0 4 0
    | none, some (x, q) => (s.reshape x q fun s => s.land p).setFld (Reg.TRAF_CLASS x q) 0 4 0
    | none, none =>
      if inTable (Reg.TRAF_IN_ADDR 0 0) (Reg.TRAF_IN_ADDR 256 0) p.addr then
        -- RATE and BURST of a policer: its buckets are brought up to now first (R367)
        (s.settleBucket ((p.addr - Reg.TRAF_IN_ADDR 0 0) / 32)).land p
      else s.land p

/-- A write that is not an expert one lands; a shaper's PRESET changes within its queue's accounting (R373). -/
def State.landBasic (s : State) (p : PendWrite) : State :=
  match cbsOf Reg.TRAF_CLASS p.addr with
  | some (x, q) => s.reshape x q fun s => s.land p
  | none => s.land p

/-- Zones whose matrix is due for an enumeration before this cycle (R140). -/
def State.zonesDue (s : State) : List Nat := (s.frame.zoneDue.filter fun x => decide (x.2 < s.now)).map (·.1)

/-- Presets expand where the applied value differs from the value that the field read just before (R23, R139, R140, R374). -/
def State.expandPresets (s old : State) : State :=
  let zones := s.zonesDue
  let s := { s with frame := { s.frame with zoneDue := s.frame.zoneDue.filter fun x => decide (s.now ≤ x.2) } }
  let ct := s.ctPreset
  let s := if ct = 0 then s
    else if ct ≠ old.ctPreset then s.expandCt ct
    else s.each zones fun s z => (s.regenZone ct z).zoneDefaulted ct z
  let s := if s.xferPreset ≠ 0 ∧ s.xferPreset ≠ old.xferPreset then s.expandXfer s.xferPreset else s
  s.each ([0, 1].flatMap fun x => (List.range 8).map fun q => (x, q)) fun s xq =>
    if s.shapePreset xq.1 xq.2 = old.shapePreset xq.1 xq.2 then s else s.reshape xq.1 xq.2 fun s => s.expandShape xq.1 xq.2

/-! ## Warp sources (R123) -/

/-- RAY_WARP_STAT: the sets selected before this cycle, then expert writes that land on a table. -/
def State.warpSources (s : State) (landed : List PendWrite) : State :=
  let sel := s.frame.warpSel.filter fun x => decide (x.2.2 < s.now)
  let s := { s with frame := { s.frame with warpSel := s.frame.warpSel.filter fun x => decide (s.now ≤ x.2.2) } }
  let s := s.each sel fun s x => s.setFld (Reg.RAY_WARP_STAT x.1) 0 4 (x.2.1 * 5)
  landed.foldl (fun s p =>
    if p.req = .store then s
    else if inTable (Reg.RAY_WARP_GRID 0 0) (Reg.RAY_WARP_GRID 128 0) p.addr then
      s.setFld (Reg.RAY_WARP_STAT ((p.addr - Reg.RAY_WARP_GRID 0 0) / 0x800)) 0 2 3
    else if inTable (Reg.RAY_VIEW_DIR 0 0) (Reg.RAY_VIEW_DIR 128 0) p.addr then
      s.setFld (Reg.RAY_WARP_STAT ((p.addr - Reg.RAY_VIEW_DIR 0 0) / 0x400)) 2 2 3
    else s) s

/-! ## The commit -/

/-- Windows of entries whose DE_EN changed reset (R369).  The keys of the entries that have one, 0 to 17, lie in registers that
apply at once and in the pattern; ADDR and UDP_PORT of these entries are ignored. -/
def State.windowsChanged (s old : State) : State :=
  s.each (List.range 18) fun s n => if s.bit (Reg.TRAF_IN_CFG n) 1 = old.bit (Reg.TRAF_IN_CFG n) 1 then s else s.resetWindow n

/-- Groups whose region or scale changed are flattened anew. -/
def State.groupsChanged (s old : State) : State :=
  let g := ((List.range 15).map (· + 1)).filter fun g =>
    s.groupBase g != old.groupBase g || s.groupSize g != old.groupSize g || s.groupScale g != old.groupScale g
  let f := s.frame
  { s with frame := { f with flat := f.flat.filter fun x => !g.contains x
                             flatNoFit := f.flatNoFit.filter fun x => !g.contains x
                             flattening := f.flattening.filter fun x => !g.contains x } }

/-- A change of the operating point, or an expert write to the timing set in effect, starts a retime (R259). -/
def State.retimeDue (s : State) (landed : List PendWrite) : Bool :=
  let t := s.fld Reg.HBM_STAT 0 1
  s.bit Reg.HBM_OPP 0 != s.bit Reg.HBM_STAT 0 ||
    landed.any fun p => inTable (Reg.HBM_TSET t 0) (Reg.HBM_TSET (t + 1) 0) p.addr

/-- Every waiting value recognised before the latch cycle applies, but for the descriptors, which R116 takes next (R7, R23, R171). -/
def State.applyCommit (s : State) (frameNo : Nat) : State :=
  let old := s
  let due := s.dueWrites.filter fun p => (descOf p.addr).isNone
  let s := { s with rws := s.rws.filter fun p => !(p.stamp < s.now && (descOf p.addr).isNone) }
  let (s, due) := s.ballClaims due
  let (s, due) := s.gpioClaims due
  let basic := due.filter fun p => !expertWrite p
  let expert := due.filter expertWrite
  let s := s.each basic State.landBasic
  let s := s.expandPresets old
  let s := s.each expert State.landExpert
  let s := s.warpSources due
  let s := (s.windowsChanged old).groupsChanged old
  let s := s.calCommit due frameNo
  let s := if s.retimeDue due then s.startRetime else s
  (s.flipDescs frameNo).refreshPending

end Sys2Proof.Machine
end

