-- ==== Sys2Proof/Machine/Course.lean ====
section
/-! DEFINITION.  Delivery of a frame, course by course: ray order (R174, R175), synthesis of spans (R118 to R144, R471), ply
fetches and eligibility (R472), the two checks (R156 to R161), the tile cache (R149), HOLD_RUN (R177) and the blocks of a
course (R176, R190 to R192). -/

namespace Sys2Proof.Machine

/-! ## Ray order -/

/-- A tile is sent in purl order (R175). -/
def State.purl (s : State) (k : Nat) (r : RosterTile) : Bool :=
  match s.fld (Reg.SCAN_TILE_CFG k) 0 2 with
  | 0 => false
  | 1 => true
  | _ => r.rot == 2

/-- Tile-local place of native hogel `x` of native course `row` (R174). -/
def hogelAt (r : RosterTile) (row x : Nat) : Nat × Nat :=
  let n := tileCourses r
  let p := turnIndex r.rot r.mirror n.2 n.1 (row * n.2 + x)
  (p % r.tw, p / r.tw)

/-- Native view rows that this device sends (Table 9-6). -/
def State.sentRows (s : State) (r : RosterTile) : List Nat :=
  if s.fld Reg.SPK_CFG 0 2 = 2 then
    let half := ceilDiv r.nv 2
    if s.bit Reg.SPK_CFG 2 then (List.range (r.nv - half)).map (· + half) else List.range half
  else List.range r.nv

/-- Views of a hogel in native send order, in panel orientation (R174). -/
def State.sentViewList (s : State) (r : RosterTile) : List (Nat × Nat) :=
  let ow := if r.rot % 2 = 1 then r.nv else r.nu
  (s.sentRows r).flatMap fun b => (List.range r.nu).map fun a =>
    let p := turnIndex r.rot r.mirror r.nu r.nv (b * r.nu + a)
    (p % ow, p / ow)

/-- The form is sent with one stitch per hogel (R176). -/
def Form.isFlat (f : Form) : Bool := f != .full
/-- The ray engine synthesises the form (R152). -/
def Form.synth (f : Form) : Bool := f == .full || f == .flat

/-- Stitches per hogel of a tile in a form. -/
def State.perHogel (s : State) (r : RosterTile) (f : Form) : Nat := if f.isFlat then 1 else s.sentViews r

/-- A ray of a span: tile-local hogel and view. -/
structure RayAt where
  lx : Nat
  ly : Nat
  iu : Nat
  iv : Nat
  deriving DecidableEq, Repr

/-- Rays of span `j` of course `i` in send order (R146, R174, R175). -/
def State.spanRays (s : State) (k : Nat) (r : RosterTile) (f : Form) (i j : Nat) : List RayAt :=
  let n := tileCourses r
  let purl := s.purl k r
  let row := if purl then n.1 - 1 - i else i
  let views := if f.isFlat then [(0, 0)] else (if purl then (s.sentViewList r).reverse else s.sentViewList r)
  (List.range (min 16 (n.2 - 16 * j))).flatMap fun h =>
    let x := 16 * j + h
    let p := hogelAt r row (if purl then n.2 - 1 - x else x)
    views.map fun v => ⟨p.1, p.2, v.1, v.2⟩

/-! ## Texels -/

/-- Bytes of a flat tile as stored, from its first block to the end of the region (R288). -/
def State.flatSource (s : State) (base size across i j : Nat) : Nat × List Byte :=
  let off := leNat (s.bytes (base + 4 * (j * across + i)) 4)
  (base + off, s.bytes (base + off) (size - off))

/-- Texel (i, j) of a flat ply (R129, R288). -/
def State.flatAt (s : State) (p : PlyRef) (size i j : Nat) : Texel :=
  let across := (flatTiles p.desc).1
  let src := (s.flatSource p.desc.base size across (i / 256) (j / 256)).2
  let bytes := (hankDecode src false 524288 (some 524288)).bytes
  flatTexel (fun a => bytes.getD a 0) (8 * (j % 256 * 256 + i % 256))

/-- Number that the model gives a cache line: ply, then eight texels of a row. -/
def lineOf (ply w i j : Nat) : Nat := ply * 2 ^ 32 + j * ceilDiv w 8 + i / 8
/-- Ply of a cache line. -/
def plyOfLine (line : Nat) : Nat := line / 2 ^ 32

/-- Texels of a ply as a course reads them: those of a failed fetch are transparent (R161). -/
def State.texAt (s : State) (link course : Nat) (p : PlyRef) (i j : Nat) : Texel :=
  if s.frame.failed.contains (link, course, p.id) || s.frame.badLines.contains (lineOf p.id p.desc.w i j) then Texel.zero
  else if p.flat then s.flatAt p (s.groupSize (p.id - 0x100)) i j
  else decodeTexel s.byte p.desc s.refWhite i j

/-! ## Latched state of a tile -/

def State.linkFrame (s : State) (link : Nat) : Option LinkFrame := s.frame.links.find? fun l => l.link == link
def State.setLink (s : State) (l : LinkFrame) : State :=
  { s with frame := { s.frame with links := s.frame.links.map fun x => if x.link = l.link then l else x } }

/-- Cycle in which the synthesis of a course started. -/
def State.startOf (s : State) (link course : Nat) : Option Nat :=
  (s.frame.started.find? fun x => x.1 == link && x.2.1 == course).map (·.2.2)

/-- A ply is left out of a course (R157, R158): switched off or shed before the cycle in which the course's synthesis started, or
its fetch for that course was cancelled. -/
def State.plyOff (s : State) (link course ply : Nat) : Bool :=
  s.frame.cancelled.contains (link, course, ply) ||
  s.frame.off.any fun x => x.1 == ply && (match s.startOf link course with
    | some c => decide (x.2 < c)
    | none => true)

/-- Greatest right edge of the roster's tiles (R471). -/
def State.panelWidth (s : State) : Nat := s.roster.foldl (fun m r => max m (r.x0 + r.tw)) 0

/-- Backdrop of a SWATCH frame (R471). -/
def State.backdropOf (s : State) (k : Nat) : Nat → Nat → Nat → Nat → Nat × Nat × Nat :=
  let w := s.reg Reg.SCAN_SWATCH
  fun hx hy iu iv => swatchColour (w.field 16 16)
    (swatchIndex (w.field 0 4) (w.field 4 4) (w.field 8 4) (w.field 12 4) s.panelWidth k hx hy iu iv s.grid.1 s.grid.2)

/-- What the rays of a course depend on (R143). -/
def State.rayEnv (s : State) (f : FrameInfo) (k : Nat) (r : RosterTile) (link course : Nat) : RayEnv :=
  { nu := s.grid.1, nv := s.grid.2, sat := s.fld Reg.RAY_ALPHA_SAT 0 16, refWhite := s.refWhite
    dither := s.bit Reg.RAY_COLOUR 8, frame := f.count
    warp := { node := fun n => warpPair (s.reg (Reg.RAY_WARP_GRID k n)), dir := fun m => warpPair (s.reg (Reg.RAY_VIEW_DIR k m)) }
    mtx := fun e => signed 16 (s.nat (Reg.RAY_ZONE_MTX r.zone e))
    xfer := fun q i => s.fld (Reg.RAY_XFER q (i / 2)) (16 * (i % 2)) 16
    plies := s.frame.order.filter fun p => !s.plyOff link course p.id
    tex := s.texAt link course
    backdrop := if f.mode = Mode.SWATCH then some (s.backdropOf k) else none
    flatForm := f.form.isFlat }

/-- Warped view and view region of a ray. -/
def RayEnv.view (e : RayEnv) (r : RosterTile) (a : RayAt) : (Int × Int) × Nat :=
  let cu := if e.flatForm then e.nu / 2 else a.iu
  let cv := if e.flatForm then e.nv / 2 else a.iv
  (if e.flatForm then (0, 0) else warped e.warp r.tw r.th a.lx a.ly e.nu e.nv a.iu a.iv, viewRegion e.nu e.nv cu cv)

/-- Stored coordinates at which a ray would sample a ply; none where it does not visit it (R133). -/
def RayEnv.visit (e : RayEnv) (r : RosterTile) (a : RayAt) (p : PlyRef) : Option (Int × Int) :=
  let v := e.view r a
  let ab := samplePos p.desc (r.x0 + a.lx : Nat) (r.y0 + a.ly : Nat) v.1.1 v.1.2 p.venue
  if p.desc.viewMask.testBit v.2 && touches p.desc ab.1 ab.2 then some ab else none

/-- Plies that a ray may visit, the backdrop counted (R133, R471). -/
def RayEnv.visitable (e : RayEnv) (r : RosterTile) (a : RayAt) : Nat :=
  (e.plies.filter fun p => (e.visit r a p).isSome).length + bitOf e.backdrop.isSome

/-- Synthesis of a ray on a tile. -/
def RayEnv.ray (e : RayEnv) (r : RosterTile) (a : RayAt) : RayResult :=
  synthRay e r.tw r.th (r.x0 + a.lx : Nat) (r.y0 + a.ly : Nat) a.lx a.ly a.iu a.iv

/-! ## Held spans (R177) -/

/-- A ply's extent, widened by 49 hogel pitches, meets the rectangle from (x0, y0) to (x1, y1). -/
def meets (p : PlyRef) (x0 y0 x1 y1 : Nat) : Bool :=
  let e := p.desc.extent
  decide (e.1 - 49 ≤ (x1 : Rat) ∧ (x0 : Rat) ≤ e.2.1 + 49 ∧ e.2.2.1 - 49 ≤ (y1 : Rat) ∧ (y0 : Rat) ≤ e.2.2.2 + 49)

/-- Panel rectangle of a span's hogels: left, top, right, bottom edges. -/
def State.spanRect (s : State) (k : Nat) (r : RosterTile) (i j : Nat) : Nat × Nat × Nat × Nat :=
  match s.spanRays k r .flat i j with
  | [] => (0, 0, 0, 0)
  | a :: as => (a :: as).foldl (fun b x => (min b.1 (r.x0 + x.lx), min b.2.1 (r.y0 + x.ly), max b.2.2.1 (r.x0 + x.lx + 1), max b.2.2.2 (r.y0 + x.ly + 1)))
      (r.x0 + a.lx, r.y0 + a.ly, 0, 0)

/-- The tile reported the frame before complete with no carry-over, a frame of this cycle counted (Table 8-2). -/
def State.reported (s : State) (k link : Nat) : Bool :=
  let n := s.frame.lastFrame % 2 ^ 16
  (decide ((s.tileState k).lastComplete = some n) && s.fld (Reg.SCAN_TILE_STAT k) 16 8 == 0) ||
  s.bcNow link fun b => leAt b 0x08 2 == n && leAt b 0x0A 2 == 0

/-- Conditions 1 to 5 of R177 for a span now. -/
def State.holdNow (s : State) (f : FrameInfo) (k : Nat) (r : RosterTile) (link i j : Nat) : Bool :=
  f.form.synth && s.bit Reg.SCAN_CFG 0 && !s.bit Reg.RAY_COLOUR 8 && s.frame.sameState && s.frame.off.isEmpty &&
  !s.frame.heldLinks.contains link && s.reported k link &&
  (let q := s.spanRect k r i j
   let near (l : List PlyRef) : List PlyRef := l.filter fun p => meets p q.1 q.2.1 q.2.2.1 q.2.2.2
   near s.frame.order == near s.frame.lastOrder)

/-- A span is held: as its COURSE block was sent, or as things stand before that. -/
def State.spanHeld (s : State) (f : FrameInfo) (l : LinkFrame) (i j : Nat) : Bool :=
  if i < l.opened then l.holds.contains j
  else match s.tile l.tile with
    | some r => s.holdNow f l.tile r l.link i j
    | none => false

/-! ## Fetches, eligibility and dispatch (R472) -/

/-- The frame that the ray engine works on: latched and not yet in delivery, or in delivery. -/
def State.rayFrame (s : State) : Option FrameInfo := if s.frame.boundary then s.frame.next else s.frame.cur

/-- Rays of a course. -/
def State.courseRays (s : State) (k : Nat) (r : RosterTile) (f : Form) (i n : Nat) : List RayAt :=
  (List.range n).flatMap fun j => s.spanRays k r f i j

/-- Plies that the spans of a course need, front first. -/
def State.coursePlies (s : State) (f : FrameInfo) (l : LinkFrame) (i : Nat) : List PlyRef :=
  match s.tile l.tile with
  | none => []
  | some r =>
    let e := s.rayEnv f l.tile r l.link i
    let rays := s.courseRays l.tile r f.form i l.spans
    e.plies.filter fun p => rays.any fun a => (e.visit r a p).isSome

/-- Ply fetches in the order of their service (R162): the venue ply's first, then those of the course whose fetch check is earliest. -/
def insertFetch (x : Fetch) : List Fetch → List Fetch
  | [] => [x]
  | y :: ys =>
    let before := (x.venue && !y.venue) || (x.venue == y.venue && (x.course < y.course || (x.course == y.course && x.link < y.link)))
    if before then x :: y :: ys else y :: insertFetch x ys

/-- Issue the fetches of a course: those of flat plies go to the decompressors (R14, R162, R472). -/
def State.issueCourse (s : State) (f : FrameInfo) (l : LinkFrame) (i : Nat) : State :=
  if l.courses ≤ i || s.frame.issued.contains (l.link, i) || !f.form.synth then s
  else
    let ps := s.coursePlies f l i
    let ps := ps.filter (fun p => p.venue) ++ ps.filter fun p => !p.venue
    let fetches : List Fetch := ps.map fun p => { link := l.link, course := i, ply := p.id, venue := p.venue }
    let s := { s with frame := { s.frame with issued := s.frame.issued ++ [(l.link, i)], fetches := fetches.foldl (fun l x => insertFetch x l) s.frame.fetches } }
    (s.each (ps.filter fun p => p.flat) fun s p => s.queueFlat { link := l.link, course := i, ply := p.id }).touchHbm

/-- Some fetch of a course is incomplete. -/
def State.fetching (s : State) (link i : Nat) : Bool := s.frame.fetches.any fun x => x.link == link && x.course == i

/-- `a` became eligible before `b`: earlier cycle, then link, then course. -/
def sooner (a b : Nat × Nat × Nat) : Bool :=
  a.1 < b.1 || (a.1 == b.1 && (a.2.1 < b.2.1 || (a.2.1 == b.2.1 && a.2.2 < b.2.2)))

/-- Insert into the order of eligibility. -/
def insertSooner (x : Nat × Nat × Nat) : List (Nat × Nat × Nat) → List (Nat × Nat × Nat)
  | [] => [x]
  | y :: ys => if sooner x y then x :: y :: ys else y :: insertSooner x ys

/-- Courses whose fetches are complete become eligible (R472). -/
def State.refreshEligible (s : State) : State :=
  s.each s.frame.issued fun s x =>
    let ready : Bool := match s.linkFrame x.1 with
      | some l => !l.held && (decide (x.2 < 2) || decide (x.2 < l.opened + 2))
      | none => false
    if !ready || s.fetching x.1 x.2 || s.frame.eligible.any (fun (y : Nat × Nat × Nat) => y.2.1 == x.1 && y.2.2 == x.2) then s
    else { s with frame := { s.frame with eligible := insertSooner (s.now, x.1, x.2) s.frame.eligible } }

/-- Spans of eligible courses that no cluster has taken, in the order of dispatch. -/
def State.untaken (s : State) (f : FrameInfo) : List (Nat × Nat × Nat) :=
  s.frame.eligible.flatMap fun x =>
    match s.linkFrame x.2.1 with
    | none => []
    | some l =>
      ((List.range l.spans).filter fun j =>
        !s.frame.taken.contains (x.2.1, x.2.2, j) && !s.spanHeld f l x.2.2 j).map fun j => (x.2.1, x.2.2, j)

/-- What clusters took in this very cycle is dealt out again, so that courses that become eligible in one cycle are taken in ascending
link number whichever of its commands made them so (R472). -/
def State.undeal (s : State) : State :=
  if s.frame.dealt.1 ≠ s.now then s
  else
    let mine := s.frame.dealt.2.filter fun x => s.frame.taken.contains x && !s.frame.spansDone.contains x &&
      !s.frame.spanWait.any fun (w : Nat × Nat × Nat × List Nat) => (w.1, w.2.1, w.2.2.1) == x
    let taken := s.frame.taken.filter fun x => !mine.contains x
    let back (x : Nat × Nat × Nat) : Bool := x.2.2 == s.now && !taken.any fun y => y.1 == x.1 && y.2.1 == x.2.1
    { s with frame := { s.frame with taken := taken, started := s.frame.started.filter fun x => !back x, dealt := (s.now, []) } }

/-- Clusters that are free take spans (R146, R472). -/
def State.dispatch (s : State) : State :=
  let s := s.undeal
  match s.rayFrame with
  | none => s
  | some f =>
    let new := (s.untaken f).take (24 + s.frame.spansDone.length - s.frame.taken.length)
    let s := { s with frame := { s.frame with taken := s.frame.taken ++ new, dealt := (s.now, new) } }
    s.each new fun s x =>
      if (s.startOf x.1 x.2.1).isSome then s
      else { s with frame := { s.frame with started := s.frame.started ++ [(x.1, x.2.1, s.now)] } }

/-- Eligibility and dispatch after a change. -/
def State.runEngine (s : State) : State := s.refreshEligible.dispatch

/-- Synthesis of a course has started: a span of it was taken, or every span of it is held. -/
def State.courseStarted (s : State) (f : FrameInfo) (l : LinkFrame) (i : Nat) : Bool :=
  (s.startOf l.link i).isSome || (List.range l.spans).all fun j => s.spanHeld f l i j

/-! ## Plies taken off during delivery (R157 to R161) -/

/-- RAY_OFF_LO, RAY_OFF_HI and LATE describe the frame in delivery (R163). -/
def State.showOff (s : State) : State :=
  if s.frame.boundary then s
  else
    let ids := s.frame.off.map (·.1)
    let ns := (s.frame.order.filter fun p => ids.contains p.id).flatMap (·.members)
    (s.setPair Reg.RAY_OFF_LO Reg.RAY_OFF_HI ns).setBit Reg.RAY_STAT 3 (!ids.isEmpty)

/-- A ply leaves every course that has not started: its outstanding fetches are cancelled (R157). -/
def State.takeOff (s : State) (ply : Nat) : State :=
  let gone := s.frame.fetches.filter fun x => x.ply == ply
  let f := s.frame
  let s := { s with frame := { f with off := f.off ++ [(ply, s.now)], fetches := f.fetches.filter fun (x : Fetch) => x.ply != ply
                                      cancelled := f.cancelled ++ gone.map fun (x : Fetch) => (x.link, x.course, x.ply) } }
  let s := s.each gone fun s x => s.endFlat { link := x.link, course := x.course, ply := x.ply }
  s.showOff

/-- The partner of a pair hears of it (R391): ply, reason and link, frame number. -/
def State.tellOff (s : State) (ply reason link frame : Nat) : State :=
  if s.paired && s.joined then s.sendPartner 6 [Word.ofNat ply, Word.ofNat (reason + link % 256 * 2 ^ 8), Word.ofNat frame] else s

/-- A ply is switched off (R157, R161), unless it is off already. -/
def State.switchOff (s : State) (f : FrameInfo) (ply reason link course : Nat) : State :=
  if s.frame.off.any fun x => x.1 == ply then s
  else ((s.takeOff ply).raise Ev.RAY_PLY_OFF [ply, reason, link, course, f.count % 2 ^ 16]).tellOff ply 1 link f.count

/-- One ply is shed for a failed compute check on course `course` (R158, R159): at most one in a cycle. -/
def State.runShed (s : State) (f : FrameInfo) (link course : Nat) : State :=
  if !s.bit Reg.RAY_BUDGET_CFG 17 || s.frame.shedAt == some s.now then s
  else match shedNext (s.frame.order.filter fun p => !s.frame.off.any fun x => x.1 == p.id) with
    | none => s
    | some p =>
      let s := { s with frame := { s.frame with shedAt := some s.now } }
      ((s.takeOff p.id).raise Ev.RAY_SHED (pack6 p.id p.desc.shed 2 link course (f.count % 2 ^ 16))).tellOff p.id 2 link f.count

/-- A ply fetch fails (R161): the ply is switched off; the venue ply reads as transparent in that course. -/
def State.fetchFailed (s : State) (link course ply reason : Nat) : State :=
  match s.rayFrame with
  | none => s
  | some f =>
    let one : Nat × Nat × Nat := (link, course, ply)
    let s := if ply = venueId then
        { s with frame := { s.frame with failed := s.frame.failed ++ [one]
                                         fetches := s.frame.fetches.filter fun x => !(x.link == link && x.course == course && x.ply == ply) } }
      else s.switchOff f ply reason link course
    s.runEngine

/-! ## Fetches that complete -/

/-- Flat tiles that a course's rays touch. -/
def State.flatTilesOf (s : State) (f : FrameInfo) (l : LinkFrame) (i : Nat) (p : PlyRef) : List (Nat × Nat) :=
  match s.tile l.tile with
  | none => []
  | some r =>
    let e := s.rayEnv f l.tile r l.link i
    let pf := p.desc.prefilter
    let lim (n : Nat) (x : Int) : Nat := (clampInt 0 ((n : Int) - 1) x).toNat
    let ts := (s.courseRays l.tile r f.form i l.spans).flatMap fun a => match e.visit r a p with
      | none => []
      | some ab =>
        let i0 := (filterCoord pf.1 ab.1 - 128) / 256
        let j0 := (filterCoord pf.2 ab.2 - 128) / 256
        let kx : Int := if pf.1 then 2 else 1
        let ky : Int := if pf.2 then 2 else 1
        [(lim p.desc.w (kx * i0), lim p.desc.h (ky * j0)), (lim p.desc.w (kx * i0 + 2 * kx - 1), lim p.desc.h (ky * j0 + 2 * ky - 1)),
         (lim p.desc.w (kx * i0 + 2 * kx - 1), lim p.desc.h (ky * j0)), (lim p.desc.w (kx * i0), lim p.desc.h (ky * j0 + 2 * ky - 1))]
    (ts.map fun x => (x.1 / 256, x.2 / 256)).eraseDups

/-- Texels of a ply that a course's rays sample (R130, R132). -/
def State.texelsOf (s : State) (f : FrameInfo) (l : LinkFrame) (i : Nat) (p : PlyRef) : List (Nat × Nat) :=
  match s.tile l.tile with
  | none => []
  | some r =>
    let e := s.rayEnv f l.tile r l.link i
    ((s.courseRays l.tile r f.form i l.spans).flatMap fun a => match e.visit r a p with
      | none => []
      | some ab => sampledTexels p.desc ab.1 ab.2).eraseDups

/-- HBM ranges that a ply fetch of a course reads: address, length. -/
def State.fetchReads (s : State) (f : FrameInfo) (l : LinkFrame) (i : Nat) (p : PlyRef) : List (Nat × Nat) :=
  if p.flat then
    let size := s.groupSize (p.id - 0x100)
    let across := (flatTiles p.desc).1
    (s.flatTilesOf f l i p).flatMap fun t =>
      let src := s.flatSource p.desc.base size across t.1 t.2
      [(p.desc.base + 4 * (t.2 * across + t.1), 4), (src.1, max 4 (hankDecode src.2 false 524288 (some 524288)).used)]
  else (s.texelsOf f l i p).flatMap fun x => texelReads p.desc x.1 x.2

/-- The fetch of a ply for a course reads a line that is marked lost, or an address in a range (R161, R267). -/
def State.fetchHits (s : State) (f : FrameInfo) (x : Fetch) (hit : Nat → Nat → Bool) : Bool :=
  match s.frame.order.find? (fun p => p.id == x.ply), s.linkFrame x.link with
  | some p, some l => (s.fetchReads f l x.course p).any fun r => hit r.1 r.2
  | _, _ => false

/-- The first flat tile among some that does not decode: its error, the address of the failed block, and the coded bytes from the
tile's first block on (R286, R287). -/
def State.flatError (s : State) (p : PlyRef) (ts : List (Nat × Nat)) : Option (Nat × Nat × Nat × Nat) :=
  let size := s.groupSize (p.id - 0x100)
  ts.findSome? fun t =>
    let src := s.flatSource p.desc.base size (flatTiles p.desc).1 t.1 t.2
    match (hankDecode src.2 false 524288 (some 524288)).err with
    | some (code, pos, raw) => some (code, src.1 + pos, src.1, pos + max 1 (min raw (src.2.length - pos)))
    | none => none

/-- A fetch completes; a flat tile that does not decode fails it instead (R287). -/
def State.fetchDone (s : State) (link course ply : Nat) : State :=
  match s.rayFrame, s.frame.fetches.find? (fun x => x.link == link && x.course == course && x.ply == ply) with
  | some f, some x =>
    let flat : FlatFetch := { link := link, course := course, ply := ply }
    let engine := s.flatServer flat
    let bad : Option (Nat × Nat × Nat × Nat) := match s.frame.order.find? (fun p => p.id == ply), s.linkFrame link with
      | some p, some l => if p.flat then s.flatError p (s.flatTilesOf f l course p) else none
      | _, _ => none
    -- a fetch that reaches a lost line fails (R161, R267)
    if s.fetchHits f x s.lostIn then s.fetchFailed link course ply 3
    else match bad with
    | some (code, at_, first, n) =>
      let s := s.markLost (blocksOf first n)
      let s := s.raise Ev.HANK_DECODE_ERROR [engine, code, 1, at_ / 8, first / 65536]
      s.fetchFailed link course ply 3
    | none => ((({ s with frame := { s.frame with fetches := s.frame.fetches.erase x } }).endFlat flat).touchHbm).runEngine
  | _, _ => s

/-- PLY_FETCH_DONE (R472): the fetch is complete, which may make its course eligible. -/
def execPlyFetchDone (t : Nat) (link : Fin 128) (course ply : Nat) (s : State) : Res :=
  .next ((s.advance t).fetchDone link course ply)

/-- An outstanding fetch fails (R161): for an uncorrectable error (reason 2) or a lost line (reason 3). -/
def State.fetchFails (s : State) (link course ply reason : Nat) : State :=
  if s.frame.fetches.any fun x => x.link == link && x.course == course && x.ply == ply then
    s.fetchFailed link course ply (if reason = 2 then 2 else 3)
  else s

/-- PLY_FETCH_FAIL (R161). -/
def execPlyFetchFail (t : Nat) (link : Fin 128) (course ply reason : Nat) (s : State) : Res :=
  .next ((s.advance t).fetchFails link course ply reason)

/-! ## Blocks of a course -/

/-- A data block of the open course: eight stitches (R187). -/
def State.sendData (s : State) (l : LinkFrame) (course : Nat) (ws : List Word) : State × LinkFrame :=
  (if s.laneUp l.link && s.streaming then
      (s.putSlot l.link false (ws.flatMap fun w => leBytes 4 w.toNat)).emit (.stitches l.link course ws)
    else s,
   { l with payload := l.payload ++ ws.flatMap (fun w => leBytes 4 w.toNat), blocks := l.blocks + 1 })

/-- Whole blocks go out as they fill. -/
def State.sendFull (s : State) (l : LinkFrame) (course : Nat) : Nat → State × LinkFrame
  | 0 => (s, l)
  | n + 1 =>
    if l.buf.length < 8 then (s, l)
    else
      let r := s.sendData { l with buf := l.buf.drop 8 } course (l.buf.take 8)
      r.1.sendFull r.2 course n

/-- Stitches join the open course. -/
def State.sendStitches (s : State) (l : LinkFrame) (course : Nat) (ws : List Word) : State × LinkFrame :=
  s.sendFull { l with buf := l.buf ++ ws, pos := l.pos + ws.length } course (l.buf.length + ws.length)

/-- A block that is not full goes out padded, before a HOLD_RUN or COURSE_END (R191). -/
def State.padBlock (s : State) (f : FrameInfo) (l : LinkFrame) (course : Nat) : State × LinkFrame :=
  if l.buf = [] then (s, l)
  else s.sendData { l with buf := [] } course
    (l.buf ++ (List.range (8 - l.buf.length)).map fun i => Config.padStitch f.count (l.pos + i))

/-- HOLD_RUN over the next `n` positions (R190, R191). -/
def State.sendHold (s : State) (f : FrameInfo) (l : LinkFrame) (course n : Nat) : State × LinkFrame :=
  let r := s.padBlock f l course
  let b := holdRunBlock r.2.pos n
  (r.1.sendStream l.link b, { r.2 with pos := r.2.pos + n, payload := r.2.payload ++ b, blocks := r.2.blocks + 1 })

/-- Native index of course `i` in send order. -/
def State.nativeCourse (s : State) (l : LinkFrame) (i : Nat) : Nat :=
  match s.tile l.tile with
  | some r => if s.purl l.tile r then l.courses - 1 - i else i
  | none => i

/-- COURSE opens a course (R190, Table 9-3). -/
def State.sendCourse (s : State) (f : FrameInfo) (l : LinkFrame) (i : Nat) : State × LinkFrame :=
  match s.tile l.tile with
  | none => (s, l)
  | some r =>
    let w := (tileCourses r).2
    let half := s.fld Reg.SPK_CFG 0 2 == 2 && s.bit Reg.SPK_CFG 2
    (s.sendPanel l.link (courseBlock l.tile f.count (s.nativeCourse l i) (w * s.perHogel r f.form) w (s.purl l.tile r) f.form.isFlat half),
     { l with opened := i + 1, open_ := true, sent := 0, holds := [], pos := 0, buf := [], payload := [], blocks := 0 })

/-- COURSE_END closes the open course (R192). -/
def State.endCourse (s : State) (f : FrameInfo) (l : LinkFrame) : State × LinkFrame :=
  let i := l.opened - 1
  let r := s.padBlock f l i
  let l := r.2
  (r.1.sendStream l.link (courseEndBlock l.tile f.count (s.nativeCourse l i) (crc32c l.payload) l.blocks),
   { l with open_ := false, complete := decide (l.opened = l.courses), buf := [], payload := [] })

/-- Positions of span `j` of a course. -/
def State.spanSize (s : State) (f : FrameInfo) (l : LinkFrame) (j : Nat) : Nat :=
  match s.tile l.tile with
  | some r => min 16 ((tileCourses r).2 - 16 * j) * s.perHogel r f.form
  | none => 0

/-- Held spans from `j` on, without a gap. -/
def heldRun (holds : List Nat) (spans : Nat) : Nat → Nat → Nat
  | 0, _ => 0
  | n + 1, j => if j < spans ∧ holds.contains j then 1 + heldRun holds spans n (j + 1) else 0

/-- The formatter sends the spans of the open course that are ready, in order, and closes it behind the last (R160, R177). -/
def State.flushCourse (s : State) (f : FrameInfo) (l : LinkFrame) : Nat → State × LinkFrame
  | 0 => (s, l)
  | n + 1 =>
    let i := l.opened - 1
    if !l.open_ then (s, l)
    else if l.spans ≤ l.sent then s.endCourse f l
    else
      let k := heldRun l.holds l.spans l.spans l.sent
      if k ≠ 0 then
        let size := ((List.range k).map fun d => s.spanSize f l (l.sent + d)).sum
        let r := s.sendHold f l i size
        r.1.flushCourse f { r.2 with sent := l.sent + k } n
      else match s.frame.spanOut.find? fun x => x.link == l.link && x.course == i && x.span == l.sent with
        | none => (s, l)
        | some x =>
          let r := s.sendStitches l i x.stitches
          ({ r.1 with frame := { r.1.frame with spanOut := r.1.frame.spanOut.erase x } }).flushCourse f { r.2 with sent := l.sent + 1 } n

/-- The formatter's wait for the next span of a link has ended: the IDLE that it sent lies between none and the whole wait (R160). -/
def State.endStall (s : State) (l : LinkFrame) : State × LinkFrame :=
  match l.waitAt with
  | none => (s, l)
  | some c =>
    let n := Config.stallPart s.fresh % (s.now - c + 1)
    (({ s with frame := { s.frame with stall := s.frame.stall + n } }).useFresh, { l with waitAt := none })

/-- The link waits for a span from now on, when a course is open on it. -/
def State.startStall (s : State) (l : LinkFrame) : LinkFrame :=
  if l.open_ then { l with waitAt := some (l.waitAt.getD s.now) } else { l with waitAt := none }

/-- A quiet withdrawal ends as soon as no course is open (R32). -/
def State.checkWithdrawn (s : State) : State :=
  if s.mode.cur.any fun tr => tr.stage == .withdraw then s.withdrawn else s

/-- Flush the open course of a link. -/
def State.flushLink (s : State) (f : FrameInfo) (link : Nat) : State :=
  match s.linkFrame link with
  | none => s
  | some l =>
    let r := s.flushCourse f l (l.spans + 2)
    let e := if r.2.sent = l.sent ∧ r.2.open_ = l.open_ then r else r.1.endStall r.2
    (e.1.setLink (e.1.startStall e.2)).checkWithdrawn

/-! ## Spans -/

/-- A span is finished: its stitches wait for the formatter, and the totals of the frame take it in (Table 7-5). -/
def State.finishSpan (s : State) (link course span : Nat) : State :=
  match s.rayFrame, s.linkFrame link with
  | some f, some l =>
    match s.tile l.tile with
    | none => s
    | some r =>
      let e := s.rayEnv f l.tile r link course
      let rays := s.spanRays l.tile r f.form course span
      let out := rays.map fun a => (e.ray r a, e.visitable r a)
      let one : Nat × Nat × Nat := (link, course, span)
      let x : SpanOut := { link := link, course := course, span := span, stitches := out.map fun o => o.1.stitch }
      let fs := s.frame
      let s := { s with frame := { fs with spansDone := fs.spansDone ++ [one], spanOut := fs.spanOut ++ [x]
                                           rayCount := fs.rayCount + rays.length
                                           passes := fs.passes + (out.map fun (o : RayResult × Nat) => passesOf o.1.visited).sum
                                           term := fs.term + (out.filter fun (o : RayResult × Nat) => decide (o.1.visited < o.2)).length } }
      let s := s.dispatch
      if s.frame.boundary then s else s.flushLink f link
  | _, _ => s

/-- A parity error on a cache line (R149): the line is refetched; at the third in a frame its ply's fetch has failed. -/
def State.lineError (s : State) (link course line : Nat) : State :=
  let n := (mapGet s.frame.parity line).getD 0 + 1
  let s := { s with frame := { s.frame with parity := mapPut s.frame.parity line n } }
  if n < 3 then
    { s with frame := { s.frame with refetch := s.frame.refetch ++ [line], refetched := satTo 0xFFFFFFFF (s.frame.refetched + 1) } }
  else
    let s := { s with frame := { s.frame with badLines := s.frame.badLines ++ [line] } }
    if plyOfLine line = venueId then s
    else match s.rayFrame with
      | some f => (s.switchOff f (plyOfLine line) 2 link course).runEngine
      | none => s

/-- A span comes to its end: with parity errors it waits for the lines that are refetched (R149). -/
def State.spanEnds (s : State) (link course span : Nat) (lines : List Nat) : State :=
  let one : Nat × Nat × Nat := (link, course, span)
  if !s.frame.taken.contains one || s.frame.spansDone.contains one || s.frame.spanWait.any (fun (w : Nat × Nat × Nat × List Nat) => (w.1, w.2.1, w.2.2.1) == one) then s
  else
    let s := s.each lines fun s n => s.lineError link course n
    let wait := lines.filter fun n => s.frame.refetch.contains n
    if wait.isEmpty then s.finishSpan link course span
    else { s with frame := { s.frame with spanWait := s.frame.spanWait ++ [(link, course, span, wait)] } }

/-- SPAN_DONE (R472): a cluster is through with a span; `parityLines` are the cache lines that failed parity in it. -/
def execSpanDone (t : Nat) (link : Fin 128) (course span : Nat) (parityLines : List Nat) (s : State) : Res :=
  .next ((s.advance t).spanEnds link course span parityLines)

/-! ## Opening a course -/

/-- A cache line arrives (R149): spans that waited for it alone are finished. -/
def State.lineArrives (s : State) (line : Nat) : State :=
  if !s.frame.refetch.contains line then s
  else
    let wait := s.frame.spanWait.map fun (w : Nat × Nat × Nat × List Nat) => (w.1, w.2.1, w.2.2.1, w.2.2.2.filter fun n => n != line)
    let s := { s with frame := { s.frame with refetch := s.frame.refetch.filter fun n => n != line
                                              spanWait := wait.filter fun (w : Nat × Nat × Nat × List Nat) => !w.2.2.2.isEmpty } }
    s.each (wait.filter fun (w : Nat × Nat × Nat × List Nat) => w.2.2.2.isEmpty) fun s w => s.finishSpan w.1 w.2.1 w.2.2.1

/-- CACHE_REFETCH_DONE (R149). -/
def execCacheRefetchDone (t line : Nat) (s : State) : Res := .next ((s.advance t).lineArrives line)

/-- The state with the fetches, spans and cache lines that come in this very cycle taken in (R17, R156): their own commands, which
follow in the queue, then find nothing left to do. -/
def State.inTime (s : State) : State :=
  (s.pending.filter fun i => i.cycle == s.now).foldl (fun s i => match i with
    | .plyFetchDone _ l c p => s.fetchDone l c p
    | .plyFetchFail _ l c p r => s.fetchFails l c p r
    | .spanDone _ l c j ps => s.spanEnds l c j ps
    | .cacheRefetchDone _ n => s.lineArrives n
    | _ => s) s

/-- A fetch that a check of this cycle cancelled was incomplete all the same for the other checks of the cycle (R159). -/
def State.cancelledNow (s : State) (link i : Nat) : List Nat :=
  (s.frame.cancelled.filter fun x => x.1 == link && x.2.1 == i && s.frame.off.any fun o => o.1 == x.2.2 && o.2 == s.now).map (·.2.2)

/-- Plies with an incomplete fetch of a course, the venue ply left out (R156). -/
def State.latePlies (s : State) (link i : Nat) : List Nat :=
  ((s.frame.fetches.filter fun x => x.link == link && x.course == i && !x.venue).map (·.ply) ++ s.cancelledNow link i).eraseDups

/-- The compute check of course `i` is made and fails (R156). -/
def State.computeLate (s : State) (f : FrameInfo) (l : LinkFrame) (i : Nat) : Bool :=
  decide (i < l.courses) && !s.fetching l.link i && (s.cancelledNow l.link i).isEmpty && !s.courseStarted f l i

/-- A course that opens in this cycle on a lower link fails its compute check as well: that one is named (R159, R164). -/
def State.lowerFails (s : State) (f : FrameInfo) (link : Nat) : Bool :=
  s.pending.any fun i => i.cycle == s.now && (match i with
    | .courseOpen _ l c => decide (l.val < link) && (match s.linkFrame l with
        | some x => x.opened == c && s.computeLate f x (c + 1)
        | none => false)
    | _ => false)

/-- The checks made as course `i` opens (R156 to R159). -/
def State.openChecks (s : State) (f : FrameInfo) (l : LinkFrame) (i : Nat) : State :=
  let late := if i + 2 < l.courses then s.latePlies l.link (i + 2) else []
  let slow := s.computeLate f l (i + 1)
  let s := if late.isEmpty then s else { s with frame := { s.frame with lateFetch := s.frame.lateFetch + 1 } }
  let s := s.each late fun s n => s.switchOff f n 1 l.link (i + 2)
  if slow then
    let s := { s with frame := { s.frame with lateCompute := s.frame.lateCompute + 1 } }
    if s.lowerFails f l.link then s else s.runShed f l.link (i + 1)
  else s

/-- Dark stitches of a course that is not synthesised (R33, R176): type 10. -/
def State.darkCourse (s : State) (f : FrameInfo) (l : LinkFrame) : State × LinkFrame :=
  let n := ((List.range l.spans).map fun j => s.spanSize f l j).sum
  let r := s.sendStitches l (l.opened - 1) (List.replicate n (Word.ofNat (2 ^ 31)))
  r.1.endCourse f r.2

/-- A course is not synthesised any more: its spans leave the engine. -/
def State.dropCourse (s : State) (p : Nat → Nat → Bool) : State :=
  let f := s.frame
  { s with frame := { f with eligible := f.eligible.filter fun (x : Nat × Nat × Nat) => !p x.2.1 x.2.2
                             taken := f.taken.filter fun (x : Nat × Nat × Nat) => !p x.1 x.2.1
                             spansDone := f.spansDone.filter fun (x : Nat × Nat × Nat) => !p x.1 x.2.1
                             spanWait := f.spanWait.filter fun (x : Nat × Nat × Nat × List Nat) => !p x.1 x.2.1
                             spanOut := f.spanOut.filter fun x => !p x.link x.course } }

/-- The formatter opens course `i` of a link. -/
def State.openCourse (s : State) (f : FrameInfo) (l : LinkFrame) (i : Nat) : State :=
  if !f.form.synth ∨ s.frame.darkRest then
    let r := s.sendCourse f l i
    let r := r.1.darkCourse f r.2
    ((r.1.setLink r.2).dropCourse fun a b => a == l.link && b == i).dispatch
  else
    let s := s.openChecks f l i
    let holds := (List.range l.spans).filter fun j => s.spanHeld f l i j
    let r := s.sendCourse f l i
    let s := r.1.setLink { r.2 with holds := holds }
    -- a held span is not synthesised (R177)
    let gone (x : Nat × Nat × Nat) : Bool := x.1 == l.link && x.2.1 == i && holds.contains x.2.2
    let fs := s.frame
    let s := { s with frame := { fs with taken := fs.taken.filter fun x => !gone x, spansDone := fs.spansDone.filter fun x => !gone x
                                         spanOut := fs.spanOut.filter fun x => !gone (x.link, x.course, x.span) } }
    let s := match s.linkFrame l.link with
      | some l => s.issueCourse f l (i + 3)
      | none => s
    s.runEngine.flushLink f l.link

/-- Course `course` of a link opens now: in the delivery window, the next in send order, none in a quiet withdrawal (R32, R172). -/
def State.courseDue (s : State) (link course : Nat) : Option (FrameInfo × LinkFrame) :=
  match s.frame.cur, s.linkFrame link with
  | some f, some l =>
    if s.frame.boundary ∨ l.held ∨ l.open_ ∨ l.opened ≠ course ∨ l.courses ≤ course ∨ (s.mode.cur.any fun tr => tr.stage == .withdraw) then none
    else some (f, l)
  | _, _ => none

/-- COURSE_OPEN (R32, R156, R172, R472): the course opens, with what comes in its very cycle taken in first. -/
def execCourseOpen (t : Nat) (link : Fin 128) (course : Nat) (s : State) : Res :=
  let s := s.advance t
  .next (if (s.courseDue link course).isNone then s
    else
      let s := s.inTime
      match s.courseDue link course with
      | some (f, l) => s.openCourse f l course
      | none => s)

/-! ## t_CUT (R160) -/

/-- A course not opened goes as COURSE, one HOLD_RUN over all its rays, and COURSE_END. -/
def State.holdCourse (s : State) (f : FrameInfo) (l : LinkFrame) (i : Nat) : State × LinkFrame :=
  let r := s.sendCourse f l i
  let n := ((List.range l.spans).map fun j => s.spanSize f l j).sum
  let r := r.1.sendHold f r.2 i n
  r.1.endCourse f r.2

/-- Hold every course from `i` on. -/
def State.holdRest (s : State) (f : FrameInfo) (l : LinkFrame) : Nat → State × LinkFrame
  | 0 => (s, l)
  | n + 1 =>
    if l.courses ≤ l.opened then (s, l)
    else
      let r := s.holdCourse f l l.opened
      r.1.holdRest f r.2 n

/-- Close the open course over its remaining rays. -/
def State.cutCourse (s : State) (f : FrameInfo) (l : LinkFrame) : State × LinkFrame :=
  if l.open_ then
    let n := ((List.range l.spans).map fun j => s.spanSize f l j).sum
    let r := if l.pos < n then s.sendHold f l (l.opened - 1) (n - l.pos) else (s, l)
    r.1.endCourse f r.2
  else (s, l)

/-- T_CUT_EXPIRY (R160): 20 µs before the window closes an unfinished link holds what is left. -/
def execTCutExpiry (t : Nat) (link : Fin 128) (s : State) : Res :=
  let s := s.advance t
  .next (match s.frame.cur, s.linkFrame link with
    | some f, some l =>
      if s.frame.boundary ∨ l.complete ∨ l.held ∨ s.now + us 20 < s.frame.openedAt + us f.window then s
      else
        let first := if l.open_ then l.opened - 1 else l.opened
        let n := l.courses - first
        let withdrawing := s.mode.cur.any fun tr => tr.stage == .withdraw
        let r := s.endStall l
        let r := r.1.cutCourse f r.2
        let r := r.1.holdRest f r.2 (if withdrawing then 0 else l.courses)
        let s := (r.1.setLink { r.2 with held := true }).dropCourse fun a _ => a == l.link
        let gone := s.frame.fetches.filter fun x => x.link == l.link
        let s := { s with frame := { s.frame with fetches := s.frame.fetches.filter fun x => x.link != l.link
                                                  heldCourses := s.frame.heldCourses + n } }
        let s := s.each gone fun s x => s.endFlat { link := x.link, course := x.course, ply := x.ply }
        (s.dispatch.raise Ev.RAY_COURSE_HELD [l.link, first, n, f.count % 2 ^ 16]).checkWithdrawn
    | _, _ => s)

/-! ## The links of a frame -/

/-- Links of a frame, by ascending link number (R208). -/
def State.framesOfLinks (s : State) : List LinkFrame :=
  (List.range 128).filterMap fun link => (s.tileOfLane link).bind fun k => (s.tile k).map fun r =>
    ({ link := link, tile := k, courses := (tileCourses r).1, spans := ceilDiv (tileCourses r).2 16 } : LinkFrame)

/-- The ray engine starts on a frame that was latched: courses 0, 1 and 2 of every link (R472). -/
def State.beginFrame (s : State) (f : FrameInfo) : State :=
  let s := s.dropFlats
  let held := (s.frame.links.filter fun l => l.held).map (·.link)
  let links := s.framesOfLinks
  let s := { s with frame := { s.frame with
      links := links, heldLinks := held, fetches := [], issued := [], eligible := [], started := [], taken := [], spansDone := [], spanOut := []
      spanWait := [], refetch := [], parity := [], badLines := [], off := [], cancelled := [], failed := [], shedAt := none
      rayCount := 0, passes := 0, term := 0, lateFetch := 0, lateCompute := 0, heldCourses := 0, refetched := 0, stall := 0, dealt := (0, []), darkRest := false } }
  let s := s.each links fun s l => (List.range 3).foldl (fun s i => s.issueCourse f l i) s
  s.runEngine

end Sys2Proof.Machine
end

