-- ==== Sys2Proof/Machine/Twin.lean ====
section
/-! DEFINITION.  The exchange of a twin pair at a latch (R390), the plies that one member takes off and the other follows
(R391), and joining a pair that delivers (R398). -/

namespace Sys2Proof.Machine

/-! ## Latched state (R143) -/

/-- Tables of the ray engine that a frame depends on (R143). -/
def latchedTable (a : Nat) : Bool :=
  inTable (Reg.RAY_WARP_GRID 0 0) (Reg.RAY_WARP_GRID 128 0) a || inTable (Reg.RAY_VIEW_DIR 0 0) (Reg.RAY_VIEW_DIR 128 0) a ||
  inTable (Reg.RAY_ZONE_MTX 0 0) (Reg.RAY_ZONE_MTX 16 0) a || inTable (Reg.RAY_XFER 0 0) (Reg.RAY_XFER 3 0) a

/-- The state of R143 beside the descriptors, in a frame of mode `m`. -/
def State.latchedState (s : State) (m : Nat) : List (Nat × Word) :=
  [(Reg.RAY_VIEW_GRID, s.reg Reg.RAY_VIEW_GRID), (Reg.RAY_ALPHA_SAT, s.reg Reg.RAY_ALPHA_SAT),
   (Reg.RAY_COLOUR, Word.ofNat (bitOf (s.bit Reg.RAY_COLOUR 8) * 2 ^ 8))] ++
  (if m = Mode.SWATCH then [(Reg.SCAN_SWATCH, s.reg Reg.SCAN_SWATCH)] else []) ++
  s.regs.filter fun (r : Nat × Word) => latchedTable r.1

/-- Words of a descriptor as latched. -/
def State.descWords (s : State) (n : Nat) : List Word := (List.range 16).map fun i => s.reg (descAddr n i)

/-- CRC-32C of the latched state, which digest 2 carries (R390): the chapters leave the order of its words open. -/
def State.stateCrc (s : State) (m : Nat) : Nat :=
  let d := (List.range 64).flatMap fun n => (s.descWords n).flatMap fun w => leBytes 4 w.toNat
  crc32c (d ++ (s.latchedState m).flatMap fun (r : Nat × Word) => leBytes 4 r.1 ++ leBytes 4 r.2.toNat)

/-! ## Digests (R390) -/

/-- Six words of bitmaps and bands after the frame's number. -/
def Digest.words (d : Digest) : List Word :=
  let two (v : Nat) : List Word := [Word.ofNat v, Word.ofNat (v / 2 ^ 32)]
  let bands : Nat := (d.bands.zipIdx.map fun (x : Nat × Nat) => x.1 % 8 * 16 ^ x.2).sum
  [1, Word.ofNat d.frame] ++ two d.applied ++ two d.skipped ++ two d.rejected ++ two d.shed ++ two bands

/-- A digest 1 from the words of a packet; no bands where the words hold none. -/
def parseDigest (ws : List Word) : Digest :=
  let at_ (i : Nat) : Nat := (ws.getD i 0).toNat
  let two (i : Nat) : Nat := at_ i + at_ (i + 1) * 2 ^ 32
  { frame := at_ 1, applied := two 2, skipped := two 4, rejected := two 6, shed := two 8
    bands := (List.range 16).map fun z => two 10 / 16 ^ z % 8 }

/-- Digest 1 of the latch just made; `old` is the state before the commit, and `go` says that one was applied. -/
def State.digestOf (s old : State) (go : Bool) (frame : Nat) : Digest :=
  let due := if go then flipsOf old.dueWrites else []
  let applied := if go then s.frame.flippedNow else []
  let skipped := (flipsOf s.dueWrites).filter fun n => due.contains n
  let off := (List.range 64).filter fun n => (old.desc n).active && !(s.desc n).active && !applied.contains n
  let rejected := (due.filter fun n => !applied.contains n && !skipped.contains n) ++ off
  { frame := frame % 2 ^ 32, applied := ofBits applied, skipped := ofBits skipped, rejected := ofBits rejected.eraseDups
    shed := s.nat Reg.RAY_SHED_LO + s.nat Reg.RAY_SHED_HI * 2 ^ 32, bands := s.emit_.nextBands }

/-- A member that waits to join exchanges digests once it has the mirrored state and leave to join (R398). -/
def State.mayJoin (s : State) : Bool :=
  s.paired && !s.joined && s.chain.joinState.1 && s.chain.joinState.2 && (s.chain.joinAllowed || s.bit Reg.CHAIN_CFG 3)

/-- The partner's digests are awaited: both are joined and neither was declared failed (R390, R394). -/
def State.awaits (s : State) : Bool :=
  s.paired && !s.bit Reg.CHAIN_STAT 8 && ((s.joined && s.partnerFlag 2) || s.mayJoin)

/-- The digest of a latch goes to the partner, and what a reverted flip needs is kept. -/
def State.startExchange (s old : State) (go : Bool) (frame : Nat) : State :=
  let d := s.digestOf old go frame
  let undo := (bitsOf 64 d.applied).map fun n =>
    ((n, old.descWords n, old.dueWrites.filter fun p => descOf p.addr == some n) : Nat × List Word × List PendWrite)
  let s := { s with chain := { s.chain with own := some d, got1 := false, got2 := false, undo := undo, ownCrc := 0
                                            wait := if s.awaits then some (frame, s.now + us 20) else none } }
  if s.paired && !s.bit Reg.CHAIN_STAT 8 && (s.joined || s.mayJoin) then s.sendPartner 5 d.words else s

/-- A flip is taken back: the descriptor's words as they were, and its writes pending again where none of the same word waits. -/
def State.undoFlip (s : State) (n : Nat) (keep : Bool) : State :=
  match s.chain.undo.find? fun (u : Nat × List Word × List PendWrite) => u.1 == n with
  | none => s
  | some u =>
    let s := s.each u.2.1.zipIdx fun s (x : Word × Nat) => s.setReg (descAddr n x.2) x.1
    let back := if keep then u.2.2.filter fun p => !(s.rws.any fun (q : PendWrite) => q.addr == p.addr) else []
    { s with rws := back ++ s.rws }

/-- The groups at a boundary, then the Needle status that follows from them. -/
def State.latchGroups (s : State) (frameNo : Nat) : State :=
  let order := s.activeOrder
  let env := s.checkEnv
  (s.each ((List.range 15).map (· + 1)) fun s g => s.latchGroup order env frameNo g).refreshNeedle

/-- A ply is shed: every descriptor behind it is marked. -/
def shedBy (bits : Nat) (p : PlyRef) : Bool := !p.members.isEmpty && p.members.all fun n => bits.testBit n

/-- The frame latched last is worked on anew with another order; links held in the frame before stay known. -/
def State.restartFrame (s : State) (g : FrameInfo) (order : List PlyRef) : State :=
  let held := s.frame.heldLinks
  let s := ({ s with frame := { s.frame with order := order } }).beginFrame g
  { s with frame := { s.frame with heldLinks := held } }

/-- Reconciliation with the partner's digest 1 (R390). -/
def State.reconcile (s : State) (d p : Digest) (g : FrameInfo) : State :=
  let fr := g.count % 2 ^ 16
  let bad := bitsOf 64 p.rejected
  let held := (bitsOf 64 d.applied).filter fun n => p.skipped.testBit n
  let drop := bad.filter fun n => d.applied.testBit n || d.skipped.testBit n
  let off := bad.filter fun n => !(d.applied.testBit n || d.skipped.testBit n || d.rejected.testBit n) && (s.desc n).active
  let s := s.each held fun s n => (s.undoFlip n true).raise Ev.CHAIN_FLIP_HELD [n, 1, fr]
  let s := s.each drop fun s n => ((s.undoFlip n false).dropFlips [n]).raise Ev.CHAIN_FLIP_HELD [n, 2, fr]
  let s := s.each off fun s n => (s.setBit (Reg.PLY_DESC_CTRL n) 11 false).raise Ev.CHAIN_FLIP_HELD [n, 2, fr]
  let changed := held ++ drop ++ off
  let s := if s.isLead then s else { s with emit_ := { s.emit_ with nextBands := p.bands } }
  let shed := d.shed ||| p.shed
  if changed.isEmpty && shed == d.shed then s
  else
    let s := ({ s with frame := { s.frame with flippedNow := changed } }).refreshPending
    let s := if changed.isEmpty then s else s.latchGroups g.count
    let s := { s with frame := { s.frame with flippedNow := (bitsOf 64 d.applied).filter fun n => !changed.contains n } }
    let s := s.setPair Reg.RAY_SHED_LO Reg.RAY_SHED_HI (bitsOf 64 shed)
    let order := (s.frameOrder g.mode).filter fun q => !shedBy shed q
    (s.showPlies order g.count).restartFrame g order

/-- Digest 2 goes out once digest 1 is settled. -/
def State.sendDigest2 (s : State) (g : FrameInfo) : State :=
  let crc := s.stateCrc g.mode
  let s := { s with chain := { s.chain with got1 := true, ownCrc := crc } }
  s.sendPartner 5 [2, Word.ofNat g.count, Word.ofNat crc]

/-- Two latches matched: the pair lead names the frame of the join, two latches ahead (R398). -/
def State.nameJoin (s : State) : State :=
  if s.isLead && s.joined && !s.partnerFlag 2 && s.chain.joinFrame.isNone && decide (2 ≤ s.chain.matched) then
    let n := s.lastLatched + 2
    let s := { s with chain := { s.chain with joinFrame := some n, matched := 0 } }
    s.sendPartner 9 [Word.ofNat n]
  else s

/-- Digest 1 of the partner for the frame latched last. -/
def State.takeDigest1 (s : State) (p : Digest) : State :=
  match s.chain.own, s.frame.next with
  | some d, some g =>
    if p.frame ≠ d.frame ∨ s.chain.got1 then s else (s.reconcile d p g).sendDigest2 g
  | _, _ => s

/-- Digest 2 of the partner for the frame latched last. -/
def State.takeDigest2 (s : State) (frame crc : Nat) : State :=
  match s.chain.own with
  | none => s
  | some d =>
    if frame ≠ d.frame ∨ s.chain.got2 ∨ !s.chain.got1 then s
    else
      let same : Bool := crc == s.chain.ownCrc
      let s := { s with chain := { s.chain with got2 := true, wait := none, matched := if same then s.chain.matched + 1 else 0 } }
      let s := if same then s else s.raise Ev.CHAIN_STATE_DIVERGED [frame % 2 ^ 16, s.chain.ownCrc, crc]
      s.nameJoin

/-- CHAIN_LATCH_DIGEST (R390): a packet of KIND 0x5, digest 1 or 2. -/
def execChainLatchDigest (t : Nat) (port : Fin 4) (packet : List Byte) (s : State) : Res :=
  let s := s.advance t
  let k := packetOf packet
  let _ := port
  .next (if !s.takes k 5 ∨ !s.frame.boundary then s
    else if k.body.getD 0 0 = 1 then s.takeDigest1 (parseDigest k.body)
    else s.takeDigest2 (k.body.getD 1 0).toNat (k.body.getD 2 0).toNat)

/-- A digest of the partner arrives in this cycle: 1 or 2 (R17). -/
def State.digestNow (s : State) (n : Nat) : Bool :=
  s.sameCycle fun i => match i with
    | .chainLatchDigest _ _ b => s.takes (packetOf b) 5 && ((packetOf b).body.getD 0 0).toNat == n
    | _ => false

/-- DIGEST_TIMEOUT (R390): 20 µs after the latch a digest that has not come is replaced by the member's own result. -/
def execDigestTimeout (t : Nat) (s : State) : Res :=
  let s := s.advance t
  .next (match s.chain.wait, s.frame.next with
    | some (frame, end_), some g =>
      if s.now < end_ then s
      else
        let late1 : Bool := !s.chain.got1 && !s.digestNow 1
        let late2 : Bool := !s.chain.got2 && !s.digestNow 2
        let s := { s with chain := { s.chain with wait := none } }
        let s := if late1 then (s.sendDigest2 g).raise Ev.CHAIN_XCHG_LATE [frame % 2 ^ 16, 1] else s
        if late2 then
          ({ s with chain := { s.chain with got2 := true, matched := 0 } }).raise Ev.CHAIN_XCHG_LATE [frame % 2 ^ 16, 2]
        else s
    | _, _ => s)

/-! ## Plies off (R391) -/

/-- CHAIN_PLY_OFF (R391): the partner took a ply off; courses that have not started leave it out from this cycle on. -/
def execChainPlyOff (t : Nat) (port : Fin 4) (packet : List Byte) (s : State) : Res :=
  let s := s.advance t
  let k := packetOf packet
  let ply := (k.body.getD 0 0).toNat
  let w := k.body.getD 1 0
  let frame := (k.body.getD 2 0).toNat
  let _ := port
  .next (match s.rayFrame with
    | none => s
    | some f =>
      if !s.takes k 6 ∨ f.count % 2 ^ 32 ≠ frame ∨ (s.frame.off.any fun (x : Nat × Nat) => x.1 == ply) then s
      else ((s.takeOff ply).runEngine).raise Ev.CHAIN_OFF_ADOPTED [ply, w.field 0 8, w.field 8 8, frame % 2 ^ 16])

/-! ## Joining (R398) -/

/-- CHAIN_JOIN_FRAME (R398): the pair lead names the frame from which this member sends. -/
def execChainJoinFrame (t : Nat) (port : Fin 4) (packet : List Byte) (s : State) : Res :=
  let s := s.advance t
  let k := packetOf packet
  let _ := port
  .next (if !s.takes k 9 ∨ s.joined then s
    else { s with chain := { s.chain with joinFrame := some (k.body.getD 0 0).toNat } })

/-- At the latch of the frame named, the member is joined. -/
def State.joinAtLatch (s : State) (frame : Nat) : State :=
  match s.chain.joinFrame with
  | none => s
  | some n =>
    if s.joined ∨ !fenceReached frame n then s
    else
      let s := ({ s with chain := { s.chain with quiet := false } }).enterChain
      s.raise Ev.CHAIN_JOINED [s.chainId, s.fld Reg.CHAIN_STAT 3 2, frame % 2 ^ 16]

/-- At the flip of the frame named, the shares of R397 resume. -/
def State.joinAtFlip (s : State) (frame : Nat) : State :=
  match s.chain.joinFrame with
  | none => s
  | some n =>
    if !fenceReached frame n then s else ({ s with chain := { s.chain with joinFrame := none } }).setFull false

end Sys2Proof.Machine
end

