-- ==== Sys2Proof/Machine/Frame.lean ====
section
/-! DEFINITION.  The frame boundary (R168, R170): the latch instant at the close of a window, in the order commit, venue,
mode, cadence, descriptors and groups, projection and emission settings; the blocks that every link sends; and the flip. -/

namespace Sys2Proof.Machine

/-! ## What a latch applies -/

/-- The pending GO selects this boundary (R171, R389). -/
def State.commitDue (s : State) (count : Nat) : Bool :=
  match s.frame.go with
  | none => false
  | some (c, none) => decide (c + tGuard ≤ s.now)
  | some (_, some n) => fenceReached count n

/-- A transition selects this boundary (R29, R31, R389). -/
def State.modeDue (s : State) (tr : Transition) (count : Nat) : Bool :=
  tr.selects s.now count &&
  -- a command that left IDLE waits for the exit from self-refresh (R36)
  !(tr.stage == .latch && s.resting)

/-- Totals of the frame whose window closes (Table 7-5). -/
def State.closePerf (s : State) (f : FrameInfo) : State :=
  let t := s.frame
  let put (s : State) (a v : Nat) : State := (s.setNat a v).setNat (a + 4) (v / 2 ^ 32)
  let s := put s Reg.RAY_PERF_RAYS_LO t.rayCount
  let s := put s Reg.RAY_PERF_PASSES_LO t.passes
  let s := put s Reg.RAY_PERF_TERM_LO t.term
  let s := put s Reg.RAY_PERF_FETCH_LO (Config.fetchBytes f.count)
  let s := s.setNat Reg.RAY_PERF_STALL (satTo 0xFFFFFFFF t.stall)
  let s := s.setNat Reg.RAY_PERF_LATE (satTo 255 t.lateFetch + satTo 255 t.lateCompute * 2 ^ 8 + satTo 255 t.heldCourses * 2 ^ 16)
  s.setNat Reg.RAY_PERF_CACHE t.refetched

/-- The commit of boundary `count`, if one is due (R171, R173); the frame that it latches is `frameNo`. -/
def State.latchCommit (s : State) (count frameNo : Nat) : State × Bool :=
  let s := { s with frame := { s.frame with flippedPrev := s.frame.flippedNow } }
  if s.commitDue count then
    let s := s.applyCommit frameNo
    let s := { s with frame := { s.frame with go := none } }
    (((s.setBit Reg.SCAN_COMMIT 0 false).setBit Reg.SCAN_COMMIT 1 false).setFld Reg.SCAN_COMMIT 16 16 frameNo, true)
  else ({ s with frame := { s.frame with flippedNow := [] } }, false)

/-- A transition that takes effect here: its preconditions are checked again, and it completes or is refused (R29); on the way
to BIND-OFF the frame latched is black (R31). -/
def State.latchMode (s : State) (count : Nat) : State × Bool :=
  match s.mode.cur with
  | none => (s, false)
  | some tr =>
    if !s.modeDue tr count then (s, false)
    else if tr.stage = .bindLatch then
      (s.enterBindOff.setStage' .bindFlip, true)
    else
      let p := s.precondition tr.frm tr.target
      if p = 0 then (s.finishMode tr, false)
      else
        let s := ({ s with mode := { s.mode with cur := none } }).setTarget s.modeCode false
        (s.refuseMode tr.target 3 p tr.seq tr.source 2 tr.cue, false)

/-! ## The frame that is latched -/

/-- The frame latched behind `f` (R166 to R169): its count, flip and window. -/
def State.placeFrame (s : State) (f : FrameInfo) (form : Form) (go : Bool) : State × FrameInfo :=
  let w := s.windowOf form
  let m := s.modeCode
  match (if go then s.newCadence else none), s.frame.cadence with
  | some d, some c =>
    let p := placeOn d f w
    let g : FrameInfo := { count := p.1.count p.2, flip := p.1.instant p.2, window := w, form := form, mode := m }
    let s := { s with frame := { s.frame with cadence := some p.1 } }
    (s.raise Ev.SCAN_CADENCE_CHANGED [c.rate, d.rate, g.count % 2 ^ 16, g.flip], g)
  | _, some c => let g := s.frameBehind c f form m; (s.reportClamp f g w, g)
  | _, none => (s, { count := f.count + 1, flip := f.flip, window := w, form := form, mode := m })

/-- What the next frame compares with (R177). -/
def State.noteLatched (s : State) (f g : FrameInfo) (order : List PlyRef) : State :=
  let now := s.latchedState g.mode
  let t := s.frame
  let same : Bool := now == t.lastState && g.form == t.lastForm && t.off.isEmpty
  { s with frame := { t with sameState := same, lastState := now, lastForm := g.form, lastFrame := f.count
                             lastOrder := t.order, order := order } }

/-- Condition 5 of R177 for the frame latched, tile by tile (Table 8-6). -/
def State.holdBlocked (s : State) : State :=
  s.each s.tiles fun s k =>
    let x : Bool := !((s.tileState k).lastComplete == some (s.frame.lastFrame % 2 ^ 16)) || s.fld (Reg.SCAN_TILE_STAT k) 16 8 != 0
    s.setBit (Reg.SCAN_TILE_STAT k) 24 x

/-! ## Probes (R244 to R246) -/

/-- D of R244, from LEN of R236, is below 1,000 ns for the settings latched. -/
def shortWindow (e : EmitSet) : Bool :=
  let p := ratePeriod e.rate
  e.asked * p.1 * 1000000000 < 1000 * e.mult * 4096 * p.2

/-- The controller probes in this boundary (R244). -/
def State.probes (s : State) : Bool :=
  let m := s.modeCode
  s.configs && !s.silent && (isDelivering m || m == Mode.IDLE || m == Mode.SERVICE) &&
  (match s.fld Reg.EMIT_PROBE_CFG 0 2 with
    | 0 => shortWindow s.emit_.latched
    | 1 => true
    | _ => false)

/-- The first show time from `l` on, in ns, at which a PROBE can be received so that the 50 µs behind it, before the flip at `flip`, hold no
emission window of the front frame, which flipped at `f0` with the settings `e` (R246). -/
def probeInstant (e : EmitSet) (f0 l flip : Nat) : Option Nat :=
  if e.len = 0 then (if l + 50000 ≤ flip then some l else none)
  else
    let t : Rat := ((periodNs e.rate).1 : Rat) / ((periodNs e.rate).2 * e.mult : Nat)
    let phase : Rat := (e.phase : Rat) / 65536 * t
    let len : Rat := (e.len : Rat) / 4096 * t
    (List.range (((flip - f0 : Nat) : Rat) / t).floor.toNat.succ.succ).findSome? fun (j : Nat) =>
      -- from the end of the window of period j − 1 to the start of that of period j
      let a : Rat := (f0 : Rat) + ((j : Rat) - 1) * t + phase + len
      let b : Rat := (f0 : Rat) + (j : Rat) * t + phase
      let from_ : Nat := max l a.ceil.toNat
      if ((from_ + 50000 : Nat) : Rat) ≤ b ∧ from_ + 50000 ≤ flip then some from_ else none

/-- Delay in use of a tile, whole ns, rounded up (R196). -/
def State.tileDelay (s : State) (k : Nat) : Nat := ceilDiv (s.fld (Reg.SPK_TILE_DELAY k) 0 16) 4

/-- Hogels of a tile's segment `seg`: first and count; none where the segment is empty (R245). -/
def State.segment (s : State) (seg k : Nat) : Option (Nat × Nat) :=
  match s.tile k with
  | none => none
  | some r =>
    let n := r.tw * r.th
    let g := ceilDiv n 256
    if n ≤ seg * g then none else some (seg * g, min g (n - seg * g))

/-- PROBE to one tile, which leaves at cycle `c` (R245). -/
def State.probeTile (s : State) (seg c k : Nat) : State :=
  match s.segment seg k with
  | none => s
  | some (first, count) =>
    let id := s.emit_.probeId % 255 + 1
    let s := { s with emit_ := { s.emit_ with probeId := id } }
    let s := s.setTile k { s.tileState k with probe := some (id, seg, c) }
    let s := s.setFld Reg.EMIT_PROBE_STAT 8 8 id
    s.sendPanelAt (s.laneOfTile k) c (probeBlock k id first count)

/-- The segment counter advances; when a cycle is complete, its results show once no PROBE of it is outstanding. -/
def State.nextSegment (s : State) (seg : Nat) : State :=
  let s := s.setFld Reg.EMIT_PROBE_STAT 0 8 ((seg + 1) % 256)
  if seg = 255 then
    (s.incFld Reg.EMIT_PROBE_STAT 16 16 1).each s.tiles fun s k =>
      if (s.tileState k).probe.isSome then s.setTile k { s.tileState k with probeLast := true } else s.showProbes k
  else s

/-- Tiles that get a PROBE of segment `seg`: enumerated, with a lane that carries it (R245). -/
def State.probed (s : State) (seg : Nat) : List Nat :=
  s.tiles.filter fun k => s.enumerated k && s.laneUp (s.laneOfTile k) && (s.segment seg k).isSome

/-- Probing in a boundary; `front` are the settings on display. Each PROBE leaves so that it is received in a gap; where some tile has none
left, none is sent (R244 to R246). -/
def State.probePanel (s : State) (front : EmitSet) (f g : FrameInfo) : State :=
  let seg := s.fld Reg.EMIT_PROBE_STAT 0 8
  let at_ (k : Nat) : Option Nat := probeInstant front (s.showNs - 1000 * f.window) (s.showNs + s.tileDelay k) f.flip
  if !s.probes then s
  else if (s.probed seg).all fun k => (at_ k).isSome then
    let leaves := (s.probed seg).map fun k => (k, s.now + nsCycles ((at_ k).getD 0 - s.tileDelay k - s.showNs))
    (s.each leaves fun s x => s.probeTile seg x.2 x.1).nextSegment seg
  else s.raise Ev.EMIT_PROBE_DEFERRED [seg, g.count % 2 ^ 16]

/-! ## Blocks of a boundary (R170) -/

/-- FLIP and EMIT for the frame whose window has closed, at the period of the cadence that it was latched on. -/
def State.sendBoundary (s : State) (f : FrameInfo) (rate : Nat) : State :=
  let e := s.emit_.flipping
  let p := periodNs rate
  let flip := flipBlock f.count f.flip
  let emit := emitBlock f.count e.mult e.phase e.len (roundDiv (64 * p.1) p.2)
  let s := s.each s.rosterLanes fun s l => s.sendPanel l flip
  s.each s.rosterLanes fun s l => s.sendPanel l emit

/-- The latch marker of the trace port (R446). -/
def State.markLatch (s : State) (go : Bool) : State :=
  if s.bit Reg.GLB_TRACE_CFG 1 then s.traceSend (.latch (s.nat Reg.SCAN_FRAME) s.showNs s.modeCode go) else s

/-! ## FRAME_LATCH -/

/-- The state at a latch instant, before anything is latched. -/
def State.openBoundary (s : State) (f : FrameInfo) : State :=
  let s := s.closePerf f
  let s := { s with frame := { s.frame with boundary := true, latched := true, latchAt := s.now } }
  (s.setBit Reg.SCAN_STAT 0 true).leadAtLatch.landGrid

/-- Plies, groups and the projection of the frame latched (R113, R116, R152 to R155). -/
def State.latchPlies (s : State) (f g : FrameInfo) : State :=
  let s := s.latchGroups g.count
  let r := s.project (s.frameOrder g.mode) g.mode g.form g.window g.count
  (r.1.showPlies r.2 g.count).noteLatched f g r.2

/-- What the latch of the frame behind `f` gives before its plies. -/
structure LatchHead where
  st : State
  /-- the frame latched -/
  next : FrameInfo
  /-- a commit applied, and the frame is the black one of R31 -/
  go : Bool
  black : Bool
  deriving DecidableEq, Repr

/-- Commit, venue, mode and cadence at boundary `count`, in that order; `frameNo` is the frame that their events name. -/
def State.latchHead (s : State) (f : FrameInfo) (count frameNo : Nat) : LatchHead :=
  let c := s.latchCommit (s.goCount s.now f) frameNo
  let m := (c.1.venueBoundary count frameNo).latchMode count
  let form : Form := if m.2 || m.1.frame.darkRest then .black else m.1.formOf m.1.modeCode
  let p := m.1.placeFrame f form c.2
  ⟨p.1, p.2, c.2, m.2⟩

/-- The frame latched carries its own number: a commit that changes the cadence may number it anew (R167). -/
def State.latchHeadOf (s : State) (f : FrameInfo) (count : Nat) : LatchHead :=
  let h := s.latchHead f count count
  if h.next.count = count then h else s.latchHead f count h.next.count

/-- The latch of the frame behind `f`, as one sequence. -/
def State.latchFrame (s : State) (f : FrameInfo) : State :=
  let old := s
  let rate := (s.frame.cadence.map (·.rate)).getD 0
  let front := s.emit_.flipping
  let s := s.openBoundary f
  let h := s.latchHeadOf f (s.countAfter f)
  let g := h.next
  let s := h.st.latchClock g.count
  let s := if h.black then { s with mode := { s.mode with darkCount := some g.count } } else s
  let s := s.latchPlies f g
  let newRate := (s.frame.cadence.map (·.rate)).getD 0
  let s := (s.latchEmit newRate g.count (g.form == .dark || g.form == .black)).latchBands
  let s := s.setBit Reg.EMIT_STAT 3 s.probes
  let s := s.storeLatch (g.mode == Mode.SHOW) g.count
  let s := { s with frame := { s.frame with next := some g } }
  let s := s.sendBoundary f rate
  let s := (s.joinAtLatch g.count).startExchange old h.go g.count
  let s := (s.pumpConfigs).probePanel front f g
  (((s.holdBlocked).beginFrame g).retarget).markLatch h.go

/-- The latch that is due: the delivery window has run its length (R168). -/
def State.latchNow (s : State) : State :=
  match s.frame.cur with
  | some f => if s.commitCadence ∧ !s.frame.boundary ∧ s.frame.openedAt + us f.window ≤ s.now then s.latchFrame f else s
  | none => s

/-! ## FRAME_FLIP -/

/-- The window of `g` opens at the flip of `f`. -/
def State.openWindow (s : State) (f g : FrameInfo) : State :=
  let t := s.frame
  let s := { s with frame := { t with cur := some g, next := none, boundary := false, openedAt := s.now
                                      links := if t.links.isEmpty then s.framesOfLinks else t.links } }
  let s := ((s.setBit Reg.SCAN_STAT 0 false).showFrame g).noteSent g.count
  let bnd := (g.flip - f.flip - 1000 * g.window) / 1000
  let s := s.setNat Reg.SCAN_WIN_STAT (g.window % 2 ^ 16 + bnd % 2 ^ 16 * 2 ^ 16)
  s.showOff.storeFlip

/-- FRAME_FLIP (R168): the frame whose window has closed flips; the next window opens, or after the black frame the
bind-off sequence starts (R250). -/
def execFrameFlip (t : Nat) (s : State) : Res :=
  let s := s.advance t
  .next (match s.frame.cur, s.frame.next with
    | some f, some g =>
      if !s.commitCadence ∨ !s.frame.boundary ∨ s.showNs < f.flip then s
      else
        let s := (s.flipEmit f.count).joinAtFlip f.count
        if s.mode.darkCount = some f.count then s.startBindRun
        else s.openWindow f g
    | _, _ => s)

/-! ## HBM_RETIME_DONE -/

/-- HBM_RETIME_DONE (R259): the retime is over; the point and the divider are those asked for (R16). -/
def execHbmRetimeDone (t : Nat) (s : State) : Res :=
  let s := s.advance t
  .next (if s.hbm.retime then s.endRetime else s)

end Sys2Proof.Machine
end

