-- ==== Sys2Proof/Machine/Strip.lean ====
section
/-! DEFINITION.  The STRIP cadence (R252, R253): its windows, the frame that carries the buffer, and the dark flat frame that
closes the band on the way out. -/

namespace Sys2Proof.Machine

/-- Hogel `h` of the band in the buffer: red, green and blue bits (R251). -/
def State.stripHogel (s : State) (h : Nat) : Nat := s.fld (Reg.EMIT_STRIP_BUF (h / 8)) (4 * (h % 8)) 3

/-- The stitch of a hogel: LEVEL for a bit of 1, type 00 (R252). -/
def stripStitch (level bits : Nat) : Word :=
  Word.ofNat (bits % 2 * level + bits / 2 % 2 * level * 2 ^ 10 + bits / 4 % 2 * level * 2 ^ 20)

/-- Links of the band, each with the first of its hogels in the buffer (R251). -/
def State.bandLinks (s : State) : List (LinkFrame × Nat) :=
  (s.bandTiles.foldl (fun (acc : List (LinkFrame × Nat) × Nat) k =>
    match s.tile k with
    | none => acc
    | some r =>
      let n := tileCourses r
      let l : LinkFrame := { link := s.laneOfTile k, tile := k, courses := n.1, spans := ceilDiv n.2 16 }
      (acc.1 ++ [(l, acc.2)], acc.2 + n.1 * n.2)) ([], 0)).1

/-- Stitches of course `i` in send order, from the buffer or dark. -/
def State.stripCourse (s : State) (l : LinkFrame) (first i : Nat) (dark : Bool) : List Word :=
  match s.tile l.tile with
  | none => []
  | some r =>
    let w := (tileCourses r).2
    let row := s.nativeCourse l i
    let level := s.fld Reg.EMIT_STRIP_CFG 16 10
    (List.range w).map fun x =>
      let y := if s.purl l.tile r then w - 1 - x else x
      if dark then Word.ofNat (2 ^ 31) else stripStitch level (s.stripHogel (first + row * w + y))

/-- The courses of one link of the band, one after another. -/
def State.stripLink (s : State) (g : FrameInfo) (first : Nat) (dark : Bool) : Nat → LinkFrame → State
  | 0, _ => s
  | n + 1, l =>
    let i := l.opened
    let r := s.sendCourse g l i
    let r := r.1.sendStitches r.2 i (s.stripCourse l first i dark)
    let r := r.1.endCourse g r.2
    r.1.stripLink g first dark n r.2

/-- Emission window of a strip frame: R236 with the strip's BRIGHT, MAXLEN = 4,096, PHASE = 0 (R252). -/
def State.stripLen (s : State) : Nat := emitLen (s.fld Reg.EMIT_STRIP_CFG 0 16) 4096

/-- A strip frame goes out in the window that opens: courses, FLIP and EMIT on the band's lanes. -/
def State.sendStrip (s : State) (g : FrameInfo) (dark : Bool) : State :=
  let len := if dark then 0 else s.stripLen
  let p := periodNs stripCadence.rate
  let ls := s.bandLinks
  let s := s.each ls fun s x => s.stripLink g x.2 dark x.1.courses x.1
  let s := s.noteSent g.count
  let s := s.each ls fun s x => s.sendPanel x.1.link (flipBlock g.count g.flip)
  let s := s.each ls fun s x => s.sendPanel x.1.link (emitBlock g.count 32 0 len (roundDiv (64 * p.1) p.2))
  { s with emit_ := { s.emit_ with stripPend := some (s.now, dark, len) } }

/-- The band is dark: the ramp-down follows, or on the way to IDLE the full power-up sequence (R31, R253). -/
def State.stripLeaves (s : State) : State :=
  let s := { s with emit_ := { s.emit_ with stripDark := false } }
  if s.movingTo Mode.IDLE then
    (({ s with mode := { s.mode with bandOnly := false } }).stopCadence.setSeq 0).startPowerUp
  else s.startBindRun

/-- The frame sent in the window that ends flips: BUSY clears (R252). -/
def State.stripFlips (s : State) : State :=
  match s.emit_.stripPend with
  | none => s
  | some (_, dark, len) =>
    let s := { s with emit_ := { s.emit_ with stripPend := none, stripFlip := some s.now } }
    let s := (s.setFld Reg.EMIT_STAT 16 13 len).setBit Reg.EMIT_STRIP_STAT 0 false
    if dark then s.stripLeaves
    else
      let s := s.incFld Reg.EMIT_STRIP_STAT 16 16 1
      if s.fld Reg.EMIT_STAT 0 3 = 3 then s.setCodes s.targets else s

/-- The buffer goes out in the window that opens: GO is pending, the ramp is complete, and the last strip flip is 1 s ago (R252). -/
def State.stripDue (s : State) : Bool :=
  s.bit Reg.EMIT_STRIP_STAT 0 && s.bit Reg.EMIT_STRIP_STAT 1 &&
  (match s.emit_.stripFlip with
    | some c => decide (c + ms 1000 ≤ s.now)
    | none => true)

/-- The next window of the cadence opens (R168, R252). -/
def State.stripOpens (s : State) (c : Cadence) (f : FrameInfo) : State :=
  let n := s.countAfter f
  let w := s.autoWindow (s.bandTiles.filterMap s.tile) .flat
  let g : FrameInfo := { count := n, flip := c.instant n, window := w, form := .flat, mode := Mode.STRIP }
  let s := { s with frame := { s.frame with cur := some g, next := none, boundary := false, openedAt := s.now } }
  let s := (s.setBit Reg.SCAN_STAT 0 false).showFrame g
  let s := s.setNat Reg.SCAN_WIN_STAT (w % 2 ^ 16 + (g.flip - f.flip - 1000 * w) / 1000 % 2 ^ 16 * 2 ^ 16)
  if s.emit_.stripDark then s.sendStrip g true else if s.stripDue then s.sendStrip g false else s

/-- STRIP_WINDOW_OPEN (R252): an instant of the STRIP cadence; the frame in the window that ends flips, and the next window opens. -/
def execStripWindowOpen (t : Nat) (s : State) : Res :=
  let s := s.advance t
  .next (match s.frame.cadence, s.frame.cur with
    | some c, some f =>
      if s.commitCadence ∨ s.showNs < f.flip then s
      else
        let s := s.stripFlips
        if s.cadenceRuns then s.stripOpens c f else s
    | _, _ => s)

end Sys2Proof.Machine
end

