-- ==== Sys2Proof/Machine/Evt.lean ====
section
/-! DEFINITION.  The event ring and the early queue (R66, R429, R430), MSI-X moderation and masking (R432), the trace port
(R446) and GPIO inputs (R445). -/

namespace Sys2Proof.Machine

/-! ## The ring -/

/-- The last entry of the early queue, when events were lost from it (R66). -/
def State.earlyOverflow (s : State) : List Event :=
  if s.evt.earlyLost = 0 then [] else [⟨s.now, Ev.EARLY_QUEUE_OVERFLOW, [s.evt.earlyLost], s.showNs⟩]

/-- EN rises: pointers, phase and LOST start afresh, and the early queue is written (R66, R430). -/
def State.enableRing (s : State) : State :=
  let q := s.evt.early ++ s.earlyOverflow
  let s := { s with evt := { s.evt with early := [], earlyLost := 0, lostFirst := none, lostCount := 0 } }
  let s := (s.setNat Reg.EVT_HEAD (2 ^ 31)).setNat Reg.EVT_TAIL 0
  let s := s.setNat Reg.EVT_STAT 1
  s.each q State.toRing

/-- EN falls: later events enter the early queue. -/
def State.disableRing (s : State) : State := (s.setBit Reg.EVT_RING_CFG 0 false).setBit Reg.EVT_STAT 0 false

/-- A write of EVT_RING_CFG. -/
def State.ringConfig (s : State) (req : Requester) (w : Word) : State :=
  let was := s.bit Reg.EVT_STAT 0
  let s := s.store' req Reg.EVT_RING_CFG w
  if w.bit 0 then (if was then s else s.enableRing) else s.disableRing

/-- EVT_RING_ENABLE (R430): a write of EVT_RING_CFG. -/
def execEvtRingEnable (t : Nat) (req : Requester) (data : Word) (s : State) : Res :=
  .next ((s.advance t).guarded req Reg.EVT_RING_CFG 4 data fun s w => s.ringConfig req w)

/-- EVT_TAIL_WRITE (R429, R430): slots are free again, and a pending overflow record may follow. -/
def execEvtTailWrite (t : Nat) (req : Requester) (data : Word) (s : State) : Res :=
  .next ((s.advance t).guarded req Reg.EVT_TAIL 4 data fun s w =>
    let s := s.store' req Reg.EVT_TAIL w
    if s.bit Reg.EVT_STAT 0 then s.flushLost else s)

/-- EVT_RING_WRITE_ERROR (R430): EN clears, and EVT_RING_ERROR enters the early queue. -/
def execEvtRingWriteError (t slot reason : Nat) (s : State) : Res :=
  let s := s.advance t
  .next (if s.bit Reg.EVT_STAT 0 then s.disableRing.raise Ev.EVT_RING_ERROR [slot, reason] else s)

/-! ## MSI-X (R432) -/

/-- A vector that has a message to send: at once when its interval is over, else it waits. -/
def State.vecSend (s : State) (v : Nat) : State :=
  if s.vecFree v then s.msixSend v
  else { s with evt := { s.evt with vecWaiting := s.evt.vecWaiting.filter (· != v) ++ [v] } }

/-- MSIX_INTERVAL_END (R432): the message that waited goes out; a vector masked meanwhile keeps its PBA bit. -/
def execMsixIntervalEnd (t : Nat) (vector : Fin 32) (s : State) : Res :=
  let s := s.advance t
  let v := vector.val
  .next (if !s.evt.vecWaiting.contains v ∨ !s.vecFree v then s
    else if s.evt.vecMask.testBit v then
      { s with evt := { s.evt with pba := s.evt.pba ||| 2 ^ v, vecWaiting := s.evt.vecWaiting.filter (· != v) } }
    else s.msixSend v)

/-- MSIX_VECTOR_UNMASK (R432). -/
def execMsixVectorUnmask (t : Nat) (vector : Fin 32) (s : State) : Res :=
  let s := s.advance t
  let v := vector.val
  let s := { s with evt := { s.evt with vecMask := s.evt.vecMask &&& (2 ^ 32 - 1 - 2 ^ v) } }
  .next (if s.evt.pba.testBit v then
      ({ s with evt := { s.evt with pba := s.evt.pba &&& (2 ^ 32 - 1 - 2 ^ v) } }).vecSend v
    else s)

/-! ## The trace port (R446) -/

/-- Bytes of an event's body, or of a marker's, padded to 32. -/
def TracePacket.body (p : TracePacket) : List Byte :=
  match p with
  | .event e => e.bytes false
  | .latch frame at_ mode commit =>
    leBytes 4 frame ++ leBytes 8 at_ ++ leBytes 1 mode ++ leBytes 1 (bitOf commit) ++ List.replicate 18 0
  | .loss n => leBytes 4 n ++ List.replicate 28 0

/-- TYPE of Table 21-11. -/
def TracePacket.type (p : TracePacket) : Nat :=
  match p with
  | .event _ => 1
  | .latch _ _ _ _ => 2
  | .loss _ => 3

/-- The 38 bytes of a packet (Table 21-11). -/
def TracePacket.bytes (p : TracePacket) (pseq : Nat) : List Byte :=
  let b := leBytes 1 0xA5 ++ leBytes 1 p.type ++ leBytes 2 pseq ++ p.body
  b ++ leBytes 2 (crc16 b)

/-- A loss marker enters the queue once two slots are free. -/
def State.traceLoss (s : State) : State :=
  if s.trace.dropped ≠ 0 ∧ s.trace.queue.length + 2 ≤ 64 then
    { s with trace := { s.trace with queue := s.trace.queue ++ [.loss s.trace.dropped], dropped := 0 } }
  else s

/-- Beats of a packet: three bits each from bit 0 of byte 0 upward, TRACE_D[0] the lowest, the last padded with ones. -/
def traceBeats (bs : List Byte) : List Nat :=
  let v := leNat bs + 2 ^ (8 * bs.length) * 7
  (List.range (ceilDiv (8 * bs.length) 3)).map fun k => v / 2 ^ (3 * k) % 8

/-- Control cycles of `n` beats of 5 ns. -/
def beatCycles (n : Nat) : Nat := 2 * n

/-- TRACE_PACKET_SENT (R446): the 102 beats of the packet at the head have left, and at least four idle beats follow. -/
def execTracePacketSent (t : Nat) (s : State) : Res :=
  let s := s.advance t
  .next (match s.trace.queue with
    | [] => s
    | p :: rest =>
      if s.now < s.trace.headAt + beatCycles 102 then s
      else
        let s := s.emit (.trace (traceBeats (p.bytes s.trace.pseq)))
        ({ s with trace := { s.trace with queue := rest, pseq := (s.trace.pseq + 1) % 2 ^ 16, headAt := s.now + beatCycles 4 } }).traceLoss)

/-! ## GPIO -/

/-- GPIO_INPUT_CHANGE (R445): a ball's level after its deglitch. -/
def execGpioInputChange (t : Nat) (ball : Fin 16) (level : Bool) (s : State) : Res :=
  .next ((s.advance t).setBit Reg.GLB_GPIO_IN ball level)

end Sys2Proof.Machine
end

