-- ==== Sys2Proof/Machine/Rows.lean ====
section
/-! DEFINITION.  The commands that a register write of the upper blocks spells, and what the rest of a cycle brings to a
block that a reset is asked for (R50). -/

namespace Sys2Proof.Machine

/-- The state that a meaning answers. -/
def Res.state (r : Res) (s : State) : State :=
  match r with
  | .next n => n
  | _ => s

/-- A meaning applied in the present cycle when its bit is set. -/
def State.bitRow (s : State) (b : Bool) (f : State → Res) : State := if b then (f s).state s else s

/-- Commands of the upper blocks that a write of register `a` with word `w` spells; none for a register without one. -/
def State.rowHigh (s : State) (req : Requester) (a : Nat) (w : Word) : Option State :=
  let t := s.now
  if a = Reg.HBM_CTL then
    let s := s.bitRow (w.bit 0) (execHbmCtlClearLost t req)
    let s := s.bitRow (w.bit 1) (execHbmCtlMemtest t req)
    some (s.bitRow (w.bit 2) (execHbmCtlClearCnt t req))
  else if a = Reg.HANK_JOB_SUBMIT then some (s.bitRow (w.bit 0) (execHankJobSubmit t req))
  else if a = Reg.NEEDLE_SUBMIT then some (s.bitRow (w.bit 0) (execNeedleSubmit t req))
  else if a = Reg.STORE_CTL then
    let s := s.bitRow (w.bit 0) (execStoreCtlOpen t req)
    let s := s.bitRow (w.bit 1) (execStoreCtlPlay t req)
    some (s.bitRow (w.bit 2) (execStoreCtlClose t req))
  else if a = Reg.STORE_XFER_CMD then some (s.xferWrite req (w.field 0 3) w)
  else if a = Reg.TIME_CTL then
    let s := s.bitRow (w.bit 0) (execTimeCtlSnap t req)
    let s := s.bitRow (w.bit 1) (execTimeCtlSetTb3 t req)
    some (s.bitRow (w.bit 2) (execTimeCtlSetTb2 t req))
  else if a = Reg.TIME_CMP_ALLOC then
    let s := s.bitRow (w.bit 0) (execTimeCmpAllocReq t req)
    some (s.bitRow (w.bit 1) (execTimeCmpAllocFree t req ⟨w.field 8 3 % 8, Nat.mod_lt _ (by decide)⟩))
  else if Reg.DPORT_PTR_LO 0 ≤ a ∧ a < Reg.DPORT_PTR_LO 4 ∧ a % 16 < 12 then
    some ((execDportPtrWrite t req ⟨(a - Reg.DPORT_PTR_LO 0) / 16 % 4, Nat.mod_lt _ (by decide)⟩
      ⟨a % 16 / 4 % 3, Nat.mod_lt _ (by decide)⟩ w s).state s)
  else if Reg.DPORT_DMA_RING_LO 0 ≤ a ∧ a < Reg.DPORT_DMA_RING_LO 4 ∧ 8 ≤ a % 32 ∧ a % 32 < 16 then
    some ((execDportDmaStart t req ⟨(a - Reg.DPORT_DMA_RING_LO 0) / 32 % 4, Nat.mod_lt _ (by decide)⟩
      ⟨(a % 32 - 8) / 4 % 2, Nat.mod_lt _ (by decide)⟩ w s).state s)
  else if a = Reg.TRAF_CTL then
    let s := s.bitRow (w.bit 0) (execTrafCtlClearCnt t req)
    some (s.bitRow (w.bit 1) (execTrafCtlClearHist t req))
  else if a = Reg.CHAIN_CTL then
    let s := s.bitRow (w.bit 0) (execChainCtlJoin t req)
    let s := s.bitRow (w.bit 1) (execChainCtlHandback t req)
    let s := s.bitRow (w.bit 2) (execChainCtlTake t req)
    let s := s.bitRow (w.bit 3) (execChainCtlYield t req)
    some (s.bitRow (w.bit 4) (execChainCtlClear t req))
  else if a = Reg.HLTH_CTL then
    let s := s.bitRow (w.bit 0) (execHlthCtlRead t req)
    let s := s.bitRow (w.bit 1) (execHlthCtlRestore t req)
    let s := s.bitRow (w.bit 2) (execHlthCtlReplan t req)
    some (s.bitRow (w.bit 3) (execHlthCtlClearSuspect t req))
  else if a = Reg.EVT_RING_CFG then some ((execEvtRingEnable t req w s).state s)
  else if a = Reg.EVT_TAIL then some ((execEvtTailWrite t req w s).state s)
  else none

/-- A write of a register of the upper blocks, or a plain one: what can bring a block work or enable it (R50). -/
def State.workWrite (s : State) (req : Requester) (a size : Nat) (w : Word) : State :=
  if size = 4 ∧ a % 4 = 0 then
    match writeCause s req a size w with
    | some _ => s
    | none => (s.rowHigh req a w).getD (s.plainWrite req a size w)
  else s

/-- One command of the cycle that can bring work to a block that Table 3-2 names. -/
def State.workOf (s : State) (i : Instr) : State :=
  match i with
  | .registerWrite t req a z w => (s.advance t).workWrite req a z w
  | .hankJobSubmit t req => (execHankJobSubmit t req s).state s
  | .hankJobComplete t e => (execHankJobComplete t e s).state s
  | .needleSubmit t req => (execNeedleSubmit t req s).state s
  | .dportDmaStart t req c r w => (execDportDmaStart t req c r w s).state s
  | .dportDmaEntryDone t c e d x => (execDportDmaEntryDone t c e d x s).state s
  | .nvmeCompletion t d c x b => (execNvmeCompletion t d c x b s).state s
  | .storeCtlOpen t req => (execStoreCtlOpen t req s).state s
  | .storeCtlPlay t req => (execStoreCtlPlay t req s).state s
  | .storeXferRead t req w => (execStoreXferRead t req w s).state s
  | .storeXferWrite t req w => (execStoreXferWrite t req w s).state s
  | .storeXferFlush t req w => (execStoreXferFlush t req w s).state s
  | .storeXferDeallocate t req w => (execStoreXferDeallocate t req w s).state s
  | .storeXferSmartLog t req w => (execStoreXferSmartLog t req w s).state s
  | .yarnDataFragment t y p => (execYarnDataFragment t y p s).state s
  | .chainRegisterWrite t p k => (execChainRegisterWrite t p k s).state s
  | .courseOpen t l c => (execCourseOpen t l c s).state s
  | .frameFlip t => (execFrameFlip t s).state s
  | .frameLatch t => (s.advance t).latchNow
  | _ => s

/-- The state once the commands of this cycle that can bring work to a block have been carried out. -/
def State.workInTime (s : State) : State :=
  (s.pending.filter fun i => i.cycle == s.now).foldl State.workOf s

end Sys2Proof.Machine
end

