-- ==== Sys2Proof/Machine/Reset.lean ====
section
/-! DEFINITION.  Resets (R44 to R55), block reset (R49 to R51), the option loader (R56 to R60), the steps of cast-on
(R61 to R64) and the wake from DEEP (R41). -/

namespace Sys2Proof.Machine

/-! ## A whole-device reset -/

/-- Bit of CLKRST_CAUSE of a source; the watchdog of MC1 is one above that of MC0 (Table 3-8). -/
def ResetSource.bit (r : ResetSource) : Nat :=
  match r with
  | .por => 0 | .pin => 1 | .wdog => 3 | .soft => 5 | .therm => 6 | .supply => 7

/-- The source is held off by a flash or OTP pulse (Table 3-1). -/
def ResetSource.heldOff (r : ResetSource) : Bool := r != .por && r != .supply

/-- An OTP burn that a reset meets: one that is not held off leaves the slot unusable or the counter higher, never a weaker state
(R76), while a held-off one finishes the pulse in progress and goes no further (R54); how far it got beyond that is free. -/
def State.cutBurn (s : State) (held : Bool) : State :=
  match s.sec.run, s.rst.flashPulse with
  | some r, some _ =>
    let got := Config.burnCut s.fresh
    let o := s.sec.otp
    let b := objBody r.stage
    let cls := leAt b 1 1
    let n := leAt b 2 1
    let slot (f : KeySlot → KeySlot) : Otp :=
      let upd (l : List KeySlot) : List KeySlot := l.zipIdx.map fun x => if x.2 = n then f x.1 else x.1
      if cls = 0 then { o with vendor := upd o.vendor } else { o with cust := upd o.cust }
    let whole (k : KeySlot) : KeySlot :=
      { k with ecdsaHash := (b.drop 4).take 48, lmsHash := (b.drop 0x34).take 32, burnt := true, sealBit := true }
    -- a finished pulse has burnt at least one bit
    let up (lo hi : Nat) : Nat := if held && decide (lo < hi) then lo + 1 + got % (hi - lo) else lo + got % (hi - lo + 1)
    let otp : Otp :=
      match r.started, r.op with
      | true, 5 => if s.recordReason r.stage 5 ≠ 0 then o
        else slot fun k => if held && got % 2 == 1 then whole k else { k with burnt := held || got % 2 == 1 }
      | true, 6 => if s.recordReason r.stage 6 = 0 then slot fun k => { k with revoked := k.revoked || held || decide (got % 2 = 1) } else o
      | true, 8 => { o with fwSvnMin := up o.fwSvnMin ((s.sec.fw.map fun i => i.svn).getD 0) }
      | true, 9 => { o with patSvnMin := up o.patSvnMin ((s.sec.pat.map fun i => i.svn).getD 0) }
      | _, _ => o
    ({ s with sec := { s.sec with otp := otp } }).useFresh
  | _, _ => s

/-- A journal entry whose writes a reset meets: on each flash it is whole or not valid, as left free (R54, R87). -/
def State.cutEntry (s : State) (k v : Nat) : State :=
  let got := Config.journalCut s.fresh
  (s.journalEnd k v (got % 2 == 1) (got / 2 % 2 == 1)).useFresh

/-- The journal entries in progress. -/
def State.cutJournals (s : State) : State :=
  let s := match s.sec.leaf with
    | some (l, none) => s.cutEntry 0 (l + 1)
    | _ => s
  let s := match s.sec.venueJournal with
    | v :: _ => s.cutEntry 1 v
    | [] => s
  match s.sec.run with
  | some r => if r.started && r.op == 7 then s.cutEntry 2 s.confirmValue else s
  | none => s

/-- The sector that an erase was at when a reset met it, which is free among those of its range (R55). -/
def suspended (e : EraseState) (fresh : Nat) : List (Nat × Nat) :=
  let n := ceilDiv e.len 4096
  if n = 0 then [] else [(e.flash, e.sector + 4096 * (Config.suspendedSector fresh % n))]

/-- The flash and OTP interface as the reset finds it: a pulse goes on and an erase is suspended when the source is held off
(R54, R55), and both are cut otherwise. -/
def State.flashAtReset (s : State) (src : ResetSource) : ResetState :=
  let r := s.rst
  let marks := match r.erase with
    | some e => suspended e s.fresh ++ r.undefinedSectors.filter fun x => !(suspended e s.fresh).contains x
    | none => r.undefinedSectors
  let hold := src.heldOff && (r.flashPulse.isSome || r.erase.isSome)
  { perst := r.perst, undefinedSectors := marks, active := [src]
    flashPulse := if src.heldOff then r.flashPulse else none
    erase := if src.heldOff then r.erase.map fun e => { e with suspendAt := some s.now } else none
    flashInReset := !hold }

/-- Everything returns to its reset state but CLKRST_CAUSE and CLKRST_RESET_CNT, OTP and journals, and the flash interface that is
held off (R46, R47, R52, R53). -/
def State.deviceReset (s : State) (src : ResetSource) : State :=
  let s := (s.cutBurn src.heldOff).cutJournals
  let n : State :=
    { now := s.now, part := s.part, pending := s.pending, outbox := s.outbox, fresh := s.fresh + 1
      pins := { chainId := s.pins.chainId, testMode := s.pins.testMode }
      rst := s.flashAtReset src
      sec := { otp := s.sec.otp, journalA := s.sec.journalA, journalB := s.sec.journalB }
      hbm := { epoch := s.hbm.epoch + 1 } }
  let n := if s.part = .c16 then n.stackReset else n
  let n := ((n.setNat Reg.CLKRST_CAUSE (s.nat Reg.CLKRST_CAUSE)).setNat Reg.CLKRST_RESET_CNT (s.nat Reg.CLKRST_RESET_CNT)).setNat
    Reg.GLB_MODE_STAT 0
  match n.rst.erase with
  | some e => n.emit (.flash e.flash 0x75 0 0)
  | none => n

/-- CLKRST_CAUSE takes a source; POR clears it and CLKRST_RESET_CNT (R45). -/
def State.noteCause (s : State) (src : ResetSource) (bit : Nat) : State :=
  if src = .por then (s.setNat Reg.CLKRST_CAUSE 1).setNat Reg.CLKRST_RESET_CNT 0 else s.setBit Reg.CLKRST_CAUSE bit true

/-- A source of a whole-device reset is recognised (R44 to R46): it imposes the reset, or joins the one in force.  DEDUCED: a source that
joins adds nothing to CLKRST_RESET_CNT, as R45 counts whole-device resets and the one in force lasts on (log entry 153). -/
def State.imposeReset (s : State) (src : ResetSource) (bit : Nat) : State :=
  if s.rst.active.isEmpty then
    let s := (s.deviceReset src).noteCause src bit
    if src = .por then s else s.incFld Reg.CLKRST_RESET_CNT 0 16 1
  else
    let cut := !src.heldOff && (s.rst.flashPulse.isSome || s.rst.erase.isSome)
    let r := s.rst
    let r := { r with active := if r.active.contains src then r.active else r.active ++ [src] }
    let r := if cut then { r with flashPulse := none, erase := none, flashInReset := true } else r
    ({ s with rst := r }).noteCause src bit

/-- A watchdog or software reset, with its internal pulse of 100 µs.  DESIGN CHOICE: both share the one pulse generator, so that a later
recognition moves the end for both (log entry 152). -/
def State.pulseReset (s : State) (src : ResetSource) (bit : Nat) : State :=
  let s := s.imposeReset src bit
  { s with rst := { s.rst with pulseEnd := some (s.now + us 100) } }

/-- Domains that are on in CAST-ON without a step that asks for them (Table 2-5). -/
def castDomains : List Nat := [1, 2, 3, 52, 78]

/-- The straps as sampled when the last source ends (R60, R442). -/
def State.sampleStraps (s : State) : State := s.setNat Reg.CLKRST_STRAP (s.pins.chainId % 8 * 17)

/-- Cast-on starts (R61). -/
def State.startCaston (s : State) : State :=
  let s := (s.setFld Reg.GLB_MODE_STAT 0 4 Mode.CAST_ON).setTarget Mode.CAST_ON false
  ({ s with rst := { s.rst with endedAt := s.now }, power := { s.power with queue := castDomains } }).refreshSeq

/-- A source ends; with the last one the straps are sampled and cast-on starts, unless TEST_MODE holds the device (R45, R60, R442). -/
def State.endReset (s : State) (srcs : List ResetSource) : State :=
  let rest := s.rst.active.filter fun x => !srcs.contains x
  if s.rst.active.isEmpty then s
  else
    let s := { s with rst := { s.rst with active := rest } }
    if !rest.isEmpty then s
    else if s.pins.testMode then ({ s with rst := { s.rst with held := true, endedAt := s.now } }).sampleStraps
    else s.sampleStraps.startCaston

/-! ## Meanings of the reset sources -/

/-- POR (R44). -/
def execPor (t : Nat) (s : State) : Res := .next ((s.advance t).imposeReset .por 0)

/-- POWER_GOOD (R44, R61): POR ends. -/
def execPowerGood (t : Nat) (s : State) : Res := .next ((s.advance t).endReset [.por])

/-- RST_N_RECOGNISED (R45, R46). -/
def execRstNRecognised (t : Nat) (s : State) : Res := .next ((s.advance t).imposeReset .pin 1)

/-- RST_N_RELEASED (R45, R60). -/
def execRstNReleased (t : Nat) (s : State) : Res := .next ((s.advance t).endReset [.pin])

/-- WATCHDOG_EXPIRY (R44) of MC0 or MC1. -/
def execWatchdogExpiry (t : Nat) (core : Fin 2) (s : State) : Res := .next ((s.advance t).pulseReset .wdog (3 + core.val))

/-- Key of CLKRST_SW_RESET. -/
def softKey : Word := 0x43415354

/-- SOFTWARE_RESET (R44, Table 3-8): any other value has no effect. -/
def execSoftwareReset (t : Nat) (req : Requester) (data : Word) (s : State) : Res :=
  .next ((s.advance t).guarded req Reg.CLKRST_SW_RESET 4 data fun s w => if w = softKey then s.pulseReset .soft 5 else s)

/-- RESET_PULSE_END (R44). -/
def execResetPulseEnd (t : Nat) (s : State) : Res :=
  let s := s.advance t
  .next (match s.rst.pulseEnd with
    | none => s
    | some c => if s.now < c then s
      else ({ s with rst := { s.rst with pulseEnd := none } }).endReset [.wdog, .soft])

/-- THERMAL_TRIP (R443): THERM_TRIP_N is driven low. -/
def execThermalTrip (t : Nat) (s : State) : Res :=
  let s := (s.advance t).imposeReset .therm 6
  .next { s with pins := { s.pins with thermTrip := true } }

/-- THERMAL_TRIP_CLEAR (R44, R443). -/
def execThermalTripClear (t : Nat) (s : State) : Res :=
  let s := s.advance t
  .next (({ s with pins := { s.pins with thermTrip := false } }).endReset [.therm])

/-- SUPPLY_FAULT (R44): CLKRST_CAUSE.RAIL names the rail. -/
def execSupplyFault (t rail : Nat) (s : State) : Res :=
  .next (((s.advance t).imposeReset .supply 7).setFld Reg.CLKRST_CAUSE 16 4 rail)

/-- SUPPLY_RECOVERED (R44). -/
def execSupplyRecovered (t : Nat) (s : State) : Res := .next ((s.advance t).endReset [.supply])

/-! ## The flash and OTP interface in a reset (R54, R55) -/

/-- A reset is in force, or cast-on has not reached the option loader. -/
def State.beforeLoader (s : State) : Bool := s.modeCode == Mode.RESET || (s.modeCode == Mode.CAST_ON && !s.bit Reg.GLB_CLK_STAT 0)

/-- The held-off interface enters reset. -/
def State.flashReset (s : State) : State :=
  { s with rst := { s.rst with flashPulse := none, erase := none, flashInReset := s.beforeLoader } }

/-- FLASH_PULSE_END (R54): the pulse that a reset caught has finished. -/
def execFlashPulseEnd (t : Nat) (s : State) : Res :=
  let s := s.advance t
  .next (if !s.pulses ∧ s.rst.flashPulse.isSome then s.flashReset else s)

/-- An erase is being suspended since some cycle. -/
def State.suspending (s : State) : Option Nat := s.rst.erase.bind (·.suspendAt)

/-- ERASE_SUSPEND_POLL (R55). -/
def execEraseSuspendPoll (t : Nat) (suspended : Bool) (s : State) : Res :=
  let s := s.advance t
  .next (match s.suspending with
    | none => s
    | some c => if suspended ∧ s.now ≤ c + us 50 then s.flashReset else s)

/-- ERASE_SUSPEND_TIMEOUT (R17, R55): 50 µs have passed, and no status read of this cycle shows suspension. -/
def execEraseSuspendTimeout (t : Nat) (s : State) : Res :=
  let s := s.advance t
  let seen := s.sameCycle fun i => match i with
    | .eraseSuspendPoll _ x => x
    | _ => false
  .next (match s.suspending with
    | none => s
    | some c => if s.now < c + us 50 ∨ seen then s else s.flashReset.setBit Reg.CLKRST_CAUSE 8 true)

/-! ## The host endpoint (R48) -/

/-- The region that a channel was writing keeps the host's tag and is lost (R48). -/
def State.dmaCut (s : State) (entry : List Byte) : State :=
  let e := parseDma entry
  if e.bad ∨ e.ctl.bit 0 ∨ s.usable < e.hbm + e.bytes then s else (s.tag e.hbm e.bytes 3).markLost (blocksOf e.hbm e.bytes)

/-- PCIE_PERST_ASSERTED (R48): `entries` are the ring entries in progress, by channel, as the
endpoint had read them; a decode under way brings its own. -/
def execPciePerstAsserted (t : Nat) (entries : List (Nat × List Byte)) (s : State) : Res :=
  let s := s.advance t
  let s := s.each [0, 1, 2, 3] fun s c =>
    match s.bit (Reg.DPORT_DMA_STAT c) 0, s.dmaDecode c, mapGet entries c with
    | true, some j, _ => (s.dmaCut j.entry).dmaCallOff c
    | true, none, some e => s.dmaCut e
    | _, _, _ => s
  let s := (s.resetRange (Reg.DPORT_PTR_LO 0) (Reg.DPORT_PTR_LO 4)).resetRange (Reg.DPORT_DMA_RING_LO 0) (Reg.DPORT_DMA_RING_LO 4)
  let s := { s with rst := { s.rst with perst := true }
                    dport := { s.dport with prefetch := [] }
                    evt := { s.evt with vecMask := 0xFFFFFFFF, pba := 0, vecWaiting := [] }
                    caston := { s.caston with pcieSpeed := 0, pcieWidth := 0 } }
  .next (s.refreshRun.lockExpert.setBit Reg.CLKRST_CAUSE 2 true)

/-- A wake from DEEP starts the whole cast-on toward WAKE_TARGET (R41). -/
def State.wake (s : State) : State :=
  let s := ((s.setNat Reg.CLKRST_CASTON_STAT 0).setNat Reg.CLKRST_OPT_STAT 0).setBit Reg.GLB_CLK_STAT 0 false
  let c : CastonState := { wakeTarget := some (s.fld Reg.PWR_DEEP_CFG 0 4), bootPos := s.caston.bootPos }
  ({ s with caston := c }).startCaston

/-- WAKE_N_ASSERTED (R41). -/
def execWakeNAsserted (t : Nat) (s : State) : Res :=
  let s := s.advance t
  .next (if s.modeCode = Mode.DEEP ∧ s.bit Reg.PWR_DEEP_CFG 8 then s.wake else s)

/-- PCIE_PERST_RELEASED (R41, R48). -/
def execPciePerstReleased (t : Nat) (s : State) : Res :=
  let s := s.advance t
  let s := { s with rst := { s.rst with perst := false } }
  .next (if s.modeCode = Mode.DEEP ∧ s.bit Reg.PWR_DEEP_CFG 9 then s.wake else s)

/-- Width that PCIE_CFG sets (Table 3-4). -/
def Options.pcieLanes (o : Options) : Nat := 16 / 2 ^ (o.pcieCfg / 8 % 4)
/-- Speed that the endpoint trains to: the cap of PCIE_CFG, or Gen1 before READY (R48). -/
def State.speedCap (s : State) : Nat := if s.ready then s.caston.opts.pcieCfg % 8 else 1

/-- ENDPOINT_RESET (R48): the link is up after PERST. -/
def execEndpointReset (t speed width : Nat) (s : State) : Res :=
  let s := s.advance t
  let v := min speed s.speedCap
  let w := min width s.caston.opts.pcieLanes
  .next (if !s.endpointOn ∨ s.caston.pcieSpeed ≠ 0 ∨ !(s.halted || 3 ≤ s.fld Reg.CLKRST_CASTON_STAT 0 4) then s
    else ({ s with caston := { s.caston with pcieSpeed := v, pcieWidth := w } }).raise Ev.ENDPOINT_RESET [v, w])

/-! ## Block reset (R49 to R51) -/

/-- A port is enabled, or a write that enables it was accepted in this cycle and waits (R50). -/
def State.enabledNow (s : State) (a i : Nat) : Bool :=
  s.bit a i || s.atMode.any fun p => p.addr == a && p.data.bit i && p.stamp == s.now

/-- The block of a code meets its idle condition in a state (Table 3-2). -/
def State.codeIdle (s : State) (code : Nat) : Bool :=
  if code ≤ 6 then
    let e := s.hank.engines.getD (code - 1) {}
    e.run.isNone && e.queue.isEmpty && !(s.hank.flat.any fun x => x.1 == code - 1)
  else if code = 7 then s.needle.queue.isEmpty && s.needle.runs.isEmpty
  else if code = 8 then s.frame.flattening.isEmpty
  else if code ≤ 0x0A then
    let d := code - 9
    !(s.store.inflight.any fun c => c.drive == d) && !s.enabledNow Reg.STORE_CFG d
  else if code ≤ 0x0C then !s.enabledNow (Reg.NET_PORT_CFG (code - 0x0B)) 0
  else if code ≤ 0x10 then !s.enabledNow (Reg.CHAIN_PORT_CFG (code - 0x0D)) 0
  else
    let c := code - 0x11
    !s.bit (Reg.DPORT_DMA_CFG c) 0 && !s.bit (Reg.DPORT_DMA_STAT c) 0

/-- The block of a code is idle in the cycle of the write: now, and after what the rest of the cycle brings it (R49, R50). -/
def State.blockIdle (s : State) (code : Nat) : Bool := s.codeIdle code && s.workInTime.codeIdle code

/-- Registers of a block return to their reset values, and its waiting writes go. -/
def State.resetCode (s : State) (code : Nat) : State :=
  { s with regs := s.regs.filter fun x => !resetCovers code x.1
           rws := s.rws.filter fun x => !resetCovers code x.addr
           atMode := s.atMode.filter fun x => !resetCovers code x.addr }

/-- Logic of a block returns to its reset state (R49). -/
def State.resetLogic (s : State) (code : Nat) : State :=
  if code ≤ 6 then { s with hank := { s.hank with engines := s.hank.engines.set (code - 1) {} } }
  else if code = 7 then ({ s with needle := {} }).resetBlock 13
  else if code = 8 then s
  else if code ≤ 0x0A then
    let d := code - 9
    { s with store := { s.store with fails := s.store.fails.filter (fun x => x.1 != d)
                                     barred := s.store.barred.map fun x => if x.1 = d then (d, true) else x } }
  else if code ≤ 0x0C then
    let x := code - 0x0B
    let s := { s with traf := { s.traf with ports := s.traf.ports.set x {} }
                      net := { s.net with echo := s.net.echo.set x (0, 0), cueDrop := s.net.cueDrop.set x (none, 0) } }
    let o := s.sec.otp
    let m := if x = 0 then o.macA else o.macB
    (((s.setNat (Reg.NET_MAC_LO x) m).setNat (Reg.NET_MAC_HI x) (m / 2 ^ 32 % 2 ^ 16)).refreshLanes.resetShaper x).resetWindows
  else if code ≤ 0x10 then ({ s with chain := { s.chain with ports := s.chain.ports.set (code - 0x0D) {} } }).refreshLanes
  else s.refreshRun

/-- CLKRST_BLOCK_STAT (Table 3-8). -/
def State.showBlock (s : State) (code : Nat) (refused : Bool) : State :=
  s.setNat Reg.CLKRST_BLOCK_STAT (code + bitOf (!s.rst.blocks.isEmpty) * 2 ^ 6 + bitOf refused * 2 ^ 7)

/-- A write of a block code (R49): refused with BLOCK_BUSY, or the block resets. -/
def State.blockReset (s : State) (code : Nat) : State :=
  if s.blockIdle code then
    let s := { s with rst := { s.rst with blocks := s.rst.blocks.filter (fun (b : Nat × Nat) => b.1 != code) ++ [(code, s.now)] } }
    ((s.resetCode code).resetLogic code).showBlock code false
  else (s.showBlock code true).raise Ev.BLOCK_BUSY [code, 1, Reg.CLKRST_BLOCK_RESET]

/-- BLOCK_RESET (R49, R50). -/
def execBlockReset (t : Nat) (req : Requester) (data : Word) (s : State) : Res :=
  .next ((s.advance t).guarded req Reg.CLKRST_BLOCK_RESET 4 data fun s w => s.blockReset (w.field 0 6))

/-- BLOCK_RESET_DONE (R51). -/
def execBlockResetDone (t code : Nat) (s : State) : Res :=
  let s := s.advance t
  let s := { s with rst := { s.rst with blocks := s.rst.blocks.filter fun b => b.1 != code } }
  .next (s.setBit Reg.CLKRST_BLOCK_STAT 6 (!s.rst.blocks.isEmpty))

end Sys2Proof.Machine
end

