-- ==== Sys2Proof/Machine/Caston.lean ====
section
/-! DEFINITION.  Cast-on (R56 to R64): the option loader, the firmware, pattern, HBM, calibration and panel steps, and READY. -/

namespace Sys2Proof.Machine

/-- One record of the boot log (Table 3-8). -/
def State.bootLog (s : State) (step result : Nat) : State :=
  let time := (s.now - s.rst.endedAt) / 400
  let p := s.caston.bootPos
  let s := s.each (List.range 4) fun s i => s.setNat (Reg.CLKRST_BOOTLOG (4 * (p % 256) + i)) (Config.bootWord step result time i)
  { s with caston := { s.caston with bootPos := (p + 1) % 256 } }

/-- STEP of CLKRST_CASTON_STAT. -/
def State.castStep (s : State) : Nat := s.fld Reg.CLKRST_CASTON_STAT 0 4
/-- Cast-on is at a step. -/
def State.atStep (s : State) (n : Nat) : Bool := s.modeCode == Mode.CAST_ON && s.castStep == n && !s.ready && !s.halted
/-- Cast-on moves to a step. -/
def State.toStep (s : State) (n : Nat) : State := s.setFld Reg.CLKRST_CASTON_STAT 0 4 n

/-! ## The option loader (R56 to R60) -/

/-- The reset sequence 0x66, 0x99 to a flash. -/
def State.flashWake (s : State) (f : Nat) : State := (s.emit (.flash f 0x66 0 0)).emit (.flash f 0x99 0 0)

/-- An attempt starts: 0 to 2 on flash A, 3 to 5 on flash B (R56). -/
def State.startAttempt (s : State) (n : Nat) : State :=
  ({ s with caston := { s.caston with attempt := some n, attemptStart := s.now, flashReady := false } }).flashWake (n / 3)

/-- ROOT_PLL_LOCK (R56, R61).  DESIGN CHOICE: a pulse or an erase suspend that still holds the flash interface off does not hold the
option loader (log entry 154). -/
def execRootPllLock (t : Nat) (s : State) : Res :=
  let s := s.advance t
  .next (if s.atStep 0 ∧ !s.bit Reg.GLB_CLK_STAT 0 then
      let s := ({ s with rst := { s.rst with flashInReset := false } }).setBit Reg.GLB_CLK_STAT 0 true
      ((s.bootLog 0 1).toStep 1).startAttempt 0
    else s)

/-- The fields of an option block (Table 3-4). -/
def parseOptions (b : List Byte) : Options :=
  { target := leAt b 8 1, chainOvr := leAt b 9 1, pcieCfg := leAt b 0xA 2, subsysVid := leAt b 0xC 2, subsysId := leAt b 0xE 2
    fwA := leAt b 0x10 4, fwB := leAt b 0x14 4, patA := leAt b 0x18 4, patB := leAt b 0x1C 4
    trimSel := leAt b 0x20 4, flashCfg := leAt b 0x24 4 }

/-- An image pointer is valid (R57). -/
def pointerOk (p : Nat) : Bool := p % 4096 == 0 && p / 2 ^ 27 % 16 == 0

/-- Every field value is one that Table 3-4 does not mark invalid; an alternate OTP row must be programmed. -/
def Options.ok (o : Options) (rows : List (Nat × Nat)) : Bool :=
  [Mode.STRIP, Mode.IDLE, Mode.SHOW, Mode.SERVICE].contains o.target &&
  within 1 5 (o.pcieCfg % 8) && o.pcieCfg / 8 % 4 != 3 &&
  [o.fwA, o.fwB, o.patA, o.patB].all pointerOk &&
  ((List.range 5).all fun i => o.trimSel / 4 ^ i % 4 == 0 || rows.contains (i, o.trimSel / 4 ^ i % 4)) &&
  4 ≤ o.flashCfg % 16

/-- First failing check of R58 on a block that was read; 0 when it is valid. -/
def optionError (b : List Byte) (rows : List (Nat × Nat)) : Nat :=
  if leAt b 0 4 ≠ 0x54484F50 then 2
  else if leAt b 4 2 ≠ 1 then 3
  else if leAt b 6 2 ≠ 0x100 then 4
  else if crc32 (b.take 0xFC) ≠ leAt b 0xFC 4 then 5
  else if !(parseOptions b).ok rows then 6
  else 0

/-- The chain ID in effect (Table 3-8). -/
def State.applyChainId (s : State) (ovr : Nat) : State :=
  if ovr.testBit 7 then (s.setFld Reg.CLKRST_STRAP 4 3 ovr).setBit Reg.CLKRST_STRAP 7 true
  else (s.setFld Reg.CLKRST_STRAP 4 3 (s.fld Reg.CLKRST_STRAP 0 3)).setBit Reg.CLKRST_STRAP 7 false

/-- A whole set of options applies (R59, R60); any source but flash A raises OPTION_FALLBACK. -/
def State.applyOptions (s : State) (o : Options) (source : Nat) : State :=
  let s := { s with caston := { s.caston with opts := o, attempt := none } }
  let s := ((s.setFld Reg.CLKRST_OPT_STAT 0 2 source).applyChainId o.chainOvr).loadFactory
  let s := (s.bootLog 1 source).toStep 2
  if source = 1 then s
  else s.raise Ev.OPTION_FALLBACK [source, s.fld Reg.CLKRST_OPT_STAT 2 2, s.fld Reg.CLKRST_OPT_STAT 4 2, s.fld Reg.CLKRST_OPT_STAT 8 4]

/-- Attempt `n` fails with an error of R58: the next one starts, or the OTP copy applies (R59). -/
def State.attemptFails (s : State) (n err : Nat) : State :=
  let s := (s.incFld Reg.CLKRST_OPT_STAT (if n < 3 then 2 else 4) 2 1).setFld Reg.CLKRST_OPT_STAT 8 4 err
  if n < 5 then s.startAttempt (n + 1)
  else (s.applyOptions s.sec.otp.optionCopy 3).enterSafe 3 none

/-- OPTION_STATUS_POLL (R56): the status reads start 40 µs after the reset sequence. -/
def execOptionStatusPoll (t : Nat) (busy : Bool) (s : State) : Res :=
  let s := s.advance t
  .next (match s.caston.attempt with
    | none => s
    | some n =>
      if !s.atStep 1 ∨ s.caston.flashReady ∨ s.now < s.caston.attemptStart + us 40 then s
      else if !busy then
        ({ s with caston := { s.caston with flashReady := true } }).emit (.flash (n / 3) 0x03 0 256)
      else if s.now < s.caston.attemptStart + us 340 then s
      else s.attemptFails n 1)

/-- OPTION_BLOCK_READ_DONE (R57, R58, R60). -/
def execOptionBlockReadDone (t : Nat) (block : List Byte) (s : State) : Res :=
  let s := s.advance t
  .next (match s.caston.attempt with
    | none => s
    | some n =>
      if !s.atStep 1 ∨ !s.caston.flashReady then s
      else
        let e := optionError block s.sec.otp.trimRows
        if e = 0 then s.applyOptions (parseOptions block) (if n < 3 then 1 else 2) else s.attemptFails n e)

/-! ## The firmware step (R62, R78, R79) -/

/-- Highest GENERATION that the boot journals confirm. -/
def State.confirmed (s : State) : Nat := ((s.journalValues 2).filter fun v => 2 ^ 31 ≤ v).foldl (fun m v => max m (v % 2 ^ 31)) 0

/-- Attempt entries for a GENERATION; both flashes carry each. -/
def State.attempts (s : State) (g : Nat) : Nat := max ((s.sec.journalA.boot.values 2).count g) ((s.sec.journalB.boot.values 2).count g)

/-- An image's GENERATION is above every confirmed one (R79). -/
def State.isTrial (s : State) (o : List Byte) : Bool := s.confirmed < leAt o 0x10 4

/-- Reason that rejects a firmware image; a trial image that was tried twice is skipped (R78, R79). -/
def State.fwChoice (s : State) (o : List Byte) (ptr : Nat) : Nat :=
  let r := s.fwReason o ptr
  if r ≠ 0 then r else if s.isTrial o && 2 ≤ s.attempts (leAt o 0x10 4) then 0x0B else 0

/-- The image selected of two (R78): the higher GENERATION of those that pass, A on a tie; true for B. -/
def pickImage (ra rb ga gb : Nat) : Option Bool :=
  if ra = 0 ∧ (rb ≠ 0 ∨ gb ≤ ga) then some false else if rb = 0 then some true else none

/-- IMAGE_REJECTED of an image that fails. -/
def State.imageRejected (s : State) (magic ptr reason : Nat) : State :=
  if reason = 0 then s else s.raise Ev.IMAGE_REJECTED [magic, ptr, reason]

/-- OTP_TORN for each torn row (R76). -/
def State.raiseTorn (s : State) : State :=
  let s := s.each s.sec.otp.vendor.zipIdx fun s (x : KeySlot × Nat) => if slotState x.1 = 3 then s.raise Ev.OTP_TORN [Config.otpRow 0 x.2] else s
  s.each s.sec.otp.cust.zipIdx fun s (x : KeySlot × Nat) => if slotState x.1 = 3 then s.raise Ev.OTP_TORN [Config.otpRow 1 x.2] else s

/-- The link of the host endpoint comes up at Gen1, unless PERST is in force (R61). -/
def State.linkUp (s : State) : State :=
  if s.rst.perst then s else { s with caston := { s.caston with pcieSpeed := 1, pcieWidth := s.caston.opts.pcieLanes } }

/-- A firmware image starts; a trial image after its attempt entry is written (R79). -/
def State.startFirmware (s : State) (o : List Byte) (ptr : Nat) (isB : Bool) (other : Nat) : State :=
  let g := leAt o 0x10 4
  let trial := s.isTrial o
  let rst := s.rst
  let s := if trial then { (s.journalStart 2 g).journalEnd 2 g true true with rst := rst } else s
  let s := { s with sec := { s.sec with fw := some (imageInfo o ptr) } }
  let s := ((s.setBit Reg.SEC_STAT 0 isB).setBit Reg.SEC_STAT 3 trial).setFld Reg.SEC_STAT 4 6 (leAt o 0xC 4)
  let s := if g < other then s.raise Ev.FW_FALLBACK [bitOf isB, g] else s
  ((s.bootLog 2 1).linkUp).toStep 3

/-- No firmware image verifies: cast-on halts with the reduced service (R62).  DESIGN CHOICE: the pointer that failed last is FW_B_PTR,
as the images are checked in the order A, B (log entry 155). -/
def State.haltCaston (s : State) : State :=
  let s := ((s.setBit Reg.CLKRST_CASTON_STAT 4 true).bootLog 2 0).linkUp
  s.raise Ev.CASTON_HALT [2, s.caston.opts.fwB]

/-- CASTON_FW_STEP (R55, R62, R78, R79, R87): the images as read at FW_A_PTR and FW_B_PTR. -/
def execCastonFwStep (t : Nat) (imageA imageB : List Byte) (s : State) : Res :=
  let s := s.advance t
  let o := s.caston.opts
  let ra := s.fwChoice imageA o.fwA
  let rb := s.fwChoice imageB o.fwB
  .next (if !s.atStep 2 then s
    else
      let s := ((s.flashWake 0).flashWake 1).raiseTorn
      let s := if leaves - s.nextLeaf < 65536 then s.raise Ev.ATTEST_LOW [leaves - s.nextLeaf] else s
      let s := (s.imageRejected magicFw o.fwA ra).imageRejected magicFw o.fwB rb
      let ga := leAt imageA 0x10 4
      let gb := leAt imageB 0x10 4
      match pickImage ra rb ga gb with
      | some false => s.startFirmware imageA o.fwA false gb
      | some true => s.startFirmware imageB o.fwB true ga
      | none => s.haltCaston)

/-! ## The pattern step (R63, R81) -/

/-- Cast-on reaches the calibration and network step: its domains, and the items whose blocks are on (R61, R411). -/
def State.enterCal (s : State) : State :=
  let s := (s.toStep 5).askDomains (([48, 49, 50, 51] ++ (List.range 6).map (· + 71)).filter (s.wanted s.castTarget))
  s.calibrate ([0x30, 0x31] ++ (List.range 32).map (· + 0x40))

/-- A pattern is loaded (R81): roster, roles, grid and the last accepted VSEQ (R89, R120, R380, R381). -/
def State.loadPattern (s : State) (i : PatternImage) (ptr : Nat) (isB : Bool) : State :=
  let info := imageInfo i.object ptr
  let p := patternOf i
  let v := max s.sec.lastVseq p.venueFloor
  let s := { s with sec := { s.sec with pat := some info, pattern := p, lastVseq := v }, cue := {} }
  let s := ((s.setBit Reg.SEC_STAT 1 isB).setBit Reg.SEC_STAT 2 true).setFld Reg.SEC_STAT 10 6 info.svn
  let s := (s.setFld Reg.SEC_STAT 16 2 info.slot).setNat Reg.SEC_VENUE_SEQ v
  (s.chainRoles.loadRoster.loadGrid).bootLog 3 1

/-- No pattern verifies: cause 0x04 is recorded (R63). -/
def State.noPattern (s : State) : State :=
  let s := { s with sec := { s.sec with pat := none, pattern := {} }, cue := {} }
  ((s.chainRoles.loadRoster.bootLog 3 0).enterSafe 4 none)

/-- CASTON_PATTERN_STEP (R63, R81): the images as read at PAT_A_PTR and PAT_B_PTR. -/
def execCastonPatternStep (t : Nat) (imageA imageB : PatternImage) (s : State) : Res :=
  let s := s.advance t
  let o := s.caston.opts
  let ra := s.patReason imageA o.patA
  let rb := s.patReason imageB o.patB
  .next (if !s.atStep 3 then s
    else
      let s := (s.imageRejected magicPat o.patA ra).imageRejected magicPat o.patB rb
      let s := match pickImage ra rb (leAt imageA.object 0x10 4) (leAt imageB.object 0x10 4) with
        | some false => s.loadPattern imageA o.patA false
        | some true => s.loadPattern imageB o.patB true
        | none => s.noPattern
      if s.castTarget = Mode.STRIP then s.enterCal
      else (s.toStep 4).askDomains ((List.range 8).map (· + 55) ++ [69, 70]))

/-! ## The HBM, calibration and panel steps (R61, R470) -/

/-- The stack is tested and trained, and the rebuilding of content starts (R47, R258, R270, R470). -/
def State.castHbm (s : State) (x : HbmTraining) : State :=
  let s := { s with hbm := { s.hbm with wasOff := false, stateS := false } }
  let ws := (List.range 8).map fun i => trainedAs (i % 4) (x.timing.getD i 0)
  let s := (s.backSlots x.failed).setTraining ws
  (s.healthLog 1 (ws.map BitVec.toNat)).markTagged

/-- CASTON_HBM_STEP (R470). -/
def execCastonHbmStep (t : Nat) (training : HbmTraining) (s : State) : Res :=
  let s := s.advance t
  .next (if !s.atStep 4 ∨ !s.powerIdle then s
    else
      -- a domain that missed power good leaves the stack off; cast-on then ends in SAFE (R37)
      let on := (List.range 8).all fun i => s.domainOn (55 + i)
      let s := if on then (s.castHbm training).endHbmOff else s
      (s.bootLog 4 (bitOf on)).enterCal)

/-- The analogue items are calibrated: the thermistor ADC, the root PLL, the die sensors. -/
def State.calDone (s : State) : Bool := !(s.health.cal.any fun c => c.items.any fun i => decide (i < 0x60))

/-- CASTON_CAL_STEP (R61, R68, R241, R411, R450): calibration is done; the chain handshake and the core voltage start. -/
def execCastonCalStep (t : Nat) (s : State) : Res :=
  let s := s.advance t
  .next (if !s.atStep 5 ∨ !s.powerIdle ∨ !s.calDone then s
    else
      let s := (s.bootLog 5 1).toStep 6
      let s := { s with chain := { s.chain with handshake := true } }
      let s := s.pumpHandshake.refreshMargin
      s.askDomains (((List.range 20).map (· + 28)).filter (s.wanted s.castTarget)))

/-- Every tile whose lane is powered is enumerated, or the t_PANEL maximum of 2.3 s is reached (R63). -/
def State.panelDone (s : State) : Bool :=
  decide ((s.enumLanes s.sequenceLanes).length = s.sequenceLanes.length) || decide (s.rst.endedAt + ms 2300 ≤ s.now)

/-- CASTON_PANEL_STEP_END (R63, R140, R249): t0 of the power-up sequence. -/
def execCastonPanelStepEnd (t : Nat) (s : State) : Res :=
  let s := s.advance t
  .next (if !s.atStep 6 ∨ !s.powerIdle ∨ !s.panelDone then s
    else
      let s := (s.bootLog 6 (bitOf s.panelReady)).toStep 7
      let ct := s.ctPreset
      let s := if ct = 0 then s else { s with frame := { s.frame with zoneDue := [] } }.expandCt ct
      ({ s with emit_ := { s.emit_ with noDischarge := false } }).startSequence)

/-! ## READY -/

/-- The cadence of the mode that cast-on enters (R253, R473). -/
def State.castCadence (s : State) (m : Nat) : State :=
  if fullMode m then s.startCadence m
  else if m = Mode.STRIP then s.startCadence Mode.STRIP
  else s

/-- Cast-on ends in its target, or in IDLE when the target's preconditions are unmet (R63). -/
def State.enterTarget (s : State) (target source : Nat) : State :=
  let p := s.precondition Mode.CAST_ON target
  let m := if p = 0 then target else Mode.IDLE
  let s := if p = 0 then s else s.refuseMode target 3 p 0 4 2
  let tr : Transition := { target := m, seq := 0, source := source, local_ := true, frm := Mode.CAST_ON, accepted := s.now, frame := none
                           stage := .timed }
  ((s.finishMode tr).castCadence m).switchDomains m

/-- TRIGGER 0x4 cues fire at READY, and the first entry's delay of TRIGGER 0x1 runs from it (R83). -/
def State.armCues (s : State) : State :=
  let s := { s with cue := { s.cue with armed := [(0, s.now)] } }
  let due := ((List.range s.sec.pattern.cues.length).filter fun i => (s.cueAt i).any fun c => c.trigger == 4)
  s.each due fun s i => s.fireCue i 2

/-- Cue frames held since Ethernet came up act in arrival order (R67). -/
def State.heldCues (s : State) : State :=
  let q := s.caston.cueQueue
  ({ s with caston := { s.caston with cueQueue := [] } }).each q fun s x => s.cuePayload x.1 x.2

/-- Mode that cast-on reports: SAFE when a cause was recorded, else the one entered. -/
def State.castMode (s : State) : Nat := if s.movingTo Mode.SAFE then Mode.SAFE else s.modeCode

/-- Events of READY (R47, R70). -/
def State.readyEvents (s : State) (wake : Bool) : State :=
  let s := s.raise Ev.RESET_RECORD [s.nat Reg.CLKRST_CAUSE, s.nat Reg.CLKRST_RESET_CNT]
  let s := s.raise Ev.CASTON_DONE [s.castMode, s.castTarget, s.nat Reg.CLKRST_CASTON_TIME]
  if wake then s else s.raise Ev.HBM_REWRITE_REQ [0, s.usable / 65536]

/-- READY = 1 with STEP, TIME and the retrained PCIe link (R61). -/
def State.setReady (s : State) : State :=
  let s := ((s.bootLog 7 1).toStep 8).setBit Reg.CLKRST_CASTON_STAT 5 true
  let s := s.setNat Reg.CLKRST_CASTON_TIME ((s.now - s.rst.endedAt) / 400 % 2 ^ 32)
  -- the root ports that are requested on leave their reset state (R52)
  let s := s.each ((([53, 54].filter s.domainOn).flatMap domainLanes).filter s.laneUsed) State.startLane
  let s := s.showPerst
  if s.caston.pcieSpeed = 0 then s else { s with caston := { s.caston with pcieSpeed := s.speedCap } }

/-- Cast-on completes (R33, R61, R63, R67). -/
def State.completeCaston (s : State) : State :=
  let wake := s.caston.wakeTarget.isSome
  let s := s.setReady.decideJoin
  let s := match s.caston.causes.head? with
    | some c => s.startSafe c none
    | none => s.enterTarget s.castTarget (if wake then 3 else 4)
  let s := if s.domainOn 55 then s else s.beginHbmOff
  (((s.readyEvents wake).resetWindows.pumpHandshake).heldCues).armCues

/-- CASTON_READY (R61, R63): the power-up sequence is over and the domains of the target are on. -/
def execCastonReady (t : Nat) (s : State) : Res :=
  let s := s.advance t
  .next (if !s.atStep 7 ∨ !s.powerIdle ∨ s.fld Reg.EMIT_STAT 0 3 ≠ 3 then s
    else if s.caston.causes = [] ∧ s.missing s.castTarget ≠ [] then s.askDomains (s.missing s.castTarget)
    else s.completeCaston)

end Sys2Proof.Machine
end

