-- ==== Sys2Proof/Machine/Fabric.lean ====
section
/-! DEFINITION.  Register writes from any requester (R9, R388, R425), the expert lock (R22), the reduced service (R65), and the
fabric with its errors (R19 to R21). -/

namespace Sys2Proof.Machine

/-! ## Writes -/

/-- GLB_EXPERT.UNLOCK (R22). -/
def expertKey : Word := 0x4B4E4954

/-- GLB_EXPERT_WRITE (R22): the key unlocks the expert pages, any other value locks them. -/
def execGlbExpertWrite (t : Nat) (req : Requester) (data : Word) (s : State) : Res :=
  .next ((s.advance t).guarded req Reg.GLB_EXPERT 4 data fun s w => s.setBit Reg.GLB_EXPERT_STAT 0 (decide (w = expertKey)))

/-- FABRIC_CTL_CLEAR (R20): both counters of GLB_FABRIC_CNT are cleared when CLEAR = 1. -/
def execFabricCtlClear (t : Nat) (req : Requester) (data : Word) (s : State) : Res :=
  .next ((s.advance t).guarded req Reg.GLB_FABRIC_CTL 4 data fun s w => if w.bit 0 then s.setReg Reg.GLB_FABRIC_CNT 0 else s)

/-- Commands of the low blocks and the panel that a write of register `a` with word `w` spells; none for a register without one. -/
def State.rowLow (s : State) (req : Requester) (a : Nat) (w : Word) : Option State :=
  let t := s.now
  if a = Reg.GLB_EXPERT then some ((execGlbExpertWrite t req w s).state s)
  else if a = Reg.GLB_FABRIC_CTL then some ((execFabricCtlClear t req w s).state s)
  else if a = Reg.GLB_MODE_CMD then some (s.modeWrite (w.field 0 4) (w.bit 4) (w.field 8 8))
  else if a = Reg.CLKRST_SW_RESET then some ((execSoftwareReset t req w s).state s)
  else if a = Reg.CLKRST_BLOCK_RESET then some ((execBlockReset t req w s).state s)
  else if a = Reg.SEC_CMD then some (s.secCommand req (w.field 0 8))
  else if a = Reg.SEC_VENUE_CMD then some (s.bitRow (w.bit 0) (execVenueSubmit t req))
  else if a = Reg.SEC_CUE_GO then some ((execSecCueGo t req (w.field 0 16) s).state s)
  else if a = Reg.SCAN_COMMIT then some (s.bitRow (w.bit 0) (execScanCommitGo t req))
  else if a = Reg.SPK_CTL then
    let s := s.bitRow (w.bit 8) (execSpkCtlReenum t req (w.field 0 7))
    let s := s.bitRow (w.bit 9) (execSpkCtlEcho t req (w.field 0 7))
    some (s.bitRow (w.bit 10) (execSpkCtlClear t req))
  else if a = Reg.SPK_CFGW_CMD then some (s.bitRow (w.bit 0) (execSpkCfgwGo t req))
  else if a = Reg.LANE_CTL then
    let s := s.bitRow (w.bit 9) (execLaneCtlRetrain t req (w.field 0 9))
    let s := s.bitRow (w.bit 10) (execLaneCtlClear t req (w.field 0 9))
    some (s.bitRow (w.bit 11) (execLaneCtlClearAll t req))
  else if a = Reg.EMIT_STRIP_CTL then some (s.bitRow (w.bit 0) (execEmitStripGo t req))
  else if Reg.EMIT_STRIP_BUF 0 ≤ a ∧ a < Reg.EMIT_STRIP_BUF 65536 then
    some ((execEmitStripBufWrite t req ((a - Reg.EMIT_STRIP_BUF 0) / 4) w s).state s)
  else if Reg.LANE_CFG 0 ≤ a ∧ a < Reg.LANE_CFG 304 then
    let l : Fin 304 := ⟨(a - Reg.LANE_CFG 0) / 32 % 304, Nat.mod_lt _ (by decide)⟩
    if a = Reg.LANE_TEST l then some ((execLaneTestWrite t req l w s).state s)
    else if a = Reg.LANE_INJ l then some ((execLaneInjWrite t req l w s).state s)
    else none
  else match descOf a with
    | none => none
    | some n =>
      some ((execPlyDescWrite t req ⟨n % 64, Nat.mod_lt _ (by decide)⟩ ⟨a / 4 % 16, Nat.mod_lt _ (by decide)⟩ w s).state s)

/-- A write of a whole word by any requester: refused with its first cause (R424), or carried out as the commands that the word
spells, or as a plain write. -/
def State.writeAny (s : State) (req : Requester) (a size : Nat) (w : Word) : State :=
  if size = 4 ∧ a % 4 = 0 then
    match writeCause s req a size w with
    | some c => s.refuse req a w c
    | none => match s.rowLow req a w with
      | some r => r
      | none => match s.rowHigh req a w with
        | some r => r
        | none => s.plainWrite req a size w
  else s.plainWrite req a size w

/-- REGISTER_WRITE (R6 to R9, R51, R423 to R425). -/
def execRegisterWrite (t : Nat) (req : Requester) (addr size : Nat) (data : Word) (s : State) : Res :=
  .next ((s.advance t).writeAny req addr size data)

/-! ## The reduced service (R65) -/

/-- A host access that Table 3-6 refuses before READY. -/
def State.refusedEarly (s : State) (bar offset : Nat) (write : Bool) : Bool :=
  s.endpointOn && !s.ready &&
    (bar == 2 || (bar == 0 && !(s.earlyReadable offset && (!write || blockOf offset == 1 || blockOf offset == 4))))

/-- EARLY_HOST_ACCESS (R65): refused, a read with all ones; counted, and reported at most once in 1 ms. -/
def execEarlyHostAccess (t bar offset : Nat) (write : Bool) (s : State) : Res :=
  let s := s.advance t
  .next (if s.refusedEarly bar offset write then
      let s := s.earlyAccess bar offset
      if write then s else s.emit (.completion (List.replicate 4 0xFF))
    else s)

/-! ## Fabric errors (R19 to R21) -/

/-- A DMA channel stops at the descriptor whose transfer failed (R20, R336). -/
def State.fabricDma (s : State) (c : Nat) (entry : List Byte) : State :=
  if !s.bit (Reg.DPORT_DMA_STAT c) 0 then s
  else (s.dmaCallOff c).dmaEnd c (parseDma entry) 0x20

/-- What carries an uncorrectable error out for its class (Table 1-4).  `victim` names the fetch by its place in the list of
those outstanding (class 1), the DMA channel (4), the Hank engine, or 6 and more the Needle run plus 6 (5), or the NVMe read as
drive × 2^16 + command identifier (6). -/
def State.fabricOutcome (s : State) (cls addr victim stripes : Nat) (entry : List Byte) : State :=
  match cls with
  | 1 => match s.frame.fetches[victim]? with
    | some x => s.fetchFailed x.link x.course x.ply 2
    | none => s
  | 2 => s.emit (.completion (List.replicate 4 0xFF))
  | 4 => s.fabricDma (victim % 4) entry
  | 5 => if victim < 6 then s.hankFabric victim addr
    else match s.needleRun (victim - 6) with
      | some r => s.needleFail r.slot r.cmd addr stripes
      | none => s
  | 6 => match s.nvmeTake (victim / 65536 % 2) (victim % 65536) with
    | some (c, s) => s.nvmeFails c 0xFFFF
    | none => s
  | 7 => s.markLost [addr / 65536]
  | _ => s

/-! ## HBM parity errors (R263 to R265) -/

/-- The request that read a failing burst ends with the outcome of its class (R265, Table 1-4): ply fetches that read it, with reason
0x2 (R161), Hank jobs and Needle commands whose source holds it.  What a completion reads later finds the block lost. -/
def State.endReads (s : State) (a : Nat) : State :=
  let b := a / 32 * 32
  let hit (r n : Nat) : Bool := decide (r < b + 32 ∧ b < r + n)
  let s := match s.rayFrame with
    | some f => s.each (s.frame.fetches.filter fun x => s.fetchHits f x hit) fun s x => s.fetchFails x.link x.course x.ply 2
    | none => s
  let s := s.each (List.range 6) fun s e => match (s.engine e).run with
    | some j => if j.payload.isNone && hit j.src j.len then s.hankFabric e a else s
    | none => s
  s.each s.needle.runs fun s r =>
    if r.cmd.readExtent.any fun x => hit x.1 x.2 then (s.needleFail r.slot r.cmd a (Config.stripesWritten s.fresh)).useFresh else s

/-- HBM_READ_PARITY_ERROR (R263, R265): a burst fails; `attempt` counts its failures, the third is uncorrectable. -/
def execHbmReadParityError (t : Nat) (pc : Fin 16) (addr attempt : Nat) (s : State) : Res :=
  let s := s.advance t
  .next (if attempt < 3 then s.incFld (Reg.HBM_PC_STAT pc) 16 8 1 else (s.hbmUncorr pc addr 1).endReads addr)

/-- HBM_ALERT (R264, R265): the channel's commands are reissued; four alerts within 1 ms are uncorrectable. -/
def execHbmAlert (t : Nat) (pc : Fin 16) (addr : Nat) (s : State) : Res :=
  let s := s.advance t
  let ch := pc.val / 2
  let s := (s.incFld (Reg.HBM_PC_STAT pc) 28 4 1).reissue ch
  let s := { s with hbm := { s.hbm with alerts := s.hbm.alerts ++ [(s.now, pc.val)] } }
  let recent := s.alertsOf ch
  .next (if recent.length < 4 then s
    else
      let even := (recent.filter fun x => x.2 == 2 * ch).length
      let p := if recent.length - even ≤ even then 2 * ch else 2 * ch + 1
      (({ s with hbm := { s.hbm with alerts := s.hbm.alerts.filter fun x => x.2 / 2 != ch } }).hbmUncorr p addr 2).endReads addr)

/-- An uncorrectable error is counted toward FABRIC_CRITICAL (R21). -/
def State.fabricCritical (s : State) : State :=
  let l := (s.fabric.uncorr.filter fun (x : Nat) => s.now < x + ms 1000) ++ [s.now]
  if 16 ≤ l.length then
    let s := ({ s with fabric := { s.fabric with uncorr := [], criticalEnd := some (s.now + ms 1000) } }).raise Ev.FABRIC_CRITICAL [l.length]
    s.enterSafe 2 none
  else { s with fabric := { s.fabric with uncorr := l } }

/-- A replay of a transfer takes at most 40 fabric cycles (R19): one whose last failure lies longer ago has gone through. -/
def replayCycles : Nat := nsCycles 34

/-- The failures of transfers that are still under replay: those that have gone through are dropped, and a hop holds its last 32
transfers (R19). -/
def State.replaying (s : State) (hop : Nat) : List (Nat × Nat × Nat × Nat) :=
  let open_ := s.fabric.fails.filter fun x => decide (s.now ≤ x.2.2.2 + replayCycles)
  let own := open_.filter fun x => x.1 == hop
  (open_.filter fun x => x.1 != hop) ++ own.drop (own.length - 31)

/-- Failures so far of a transfer that its hop still replays. -/
def State.failuresOf (s : State) (hop transfer : Nat) : Nat :=
  (((s.replaying hop).find? fun x => x.1 == hop && x.2.1 == transfer).map fun x => x.2.2.1).getD 0

/-- FABRIC_PARITY_ERROR (R19 to R21): the third failure of one transfer is uncorrectable, an earlier one is replayed. -/
def execFabricParityError (t hop cls transfer addr victim stripes : Nat) (entry : List Byte) (s : State) : Res :=
  let s := s.advance t
  let mine (x : Nat × Nat × Nat × Nat) : Bool := x.1 == hop && x.2.1 == transfer
  let open_ := s.replaying hop
  let n := s.failuresOf hop transfer + 1
  let rest := open_.filter fun x => !mine x
  .next (if n < 3 then
      ({ s with fabric := { s.fabric with fails := rest ++ [(hop, transfer, n, s.now)] } }).incFld Reg.GLB_FABRIC_CNT 0 16 1
    else
      let s := ({ s with fabric := { s.fabric with fails := rest } }).incFld Reg.GLB_FABRIC_CNT 16 16 1
      let s := s.setNat Reg.GLB_FABRIC_LAST (hop % 256 + cls % 16 * 256)
      let s := s.raise Ev.FABRIC_UNCORR [hop, cls, if cls = 2 ∨ cls = 3 then addr else addr / 8]
      (s.fabricOutcome cls addr victim stripes entry).fabricCritical)

/-- FABRIC_CRITICAL_CAUSE_EXPIRY (R21, Table 2-4): 1 s after the last raise the cause is active no more. -/
def execFabricCriticalCauseExpiry (t : Nat) (s : State) : Res :=
  let s := s.advance t
  .next (match s.fabric.criticalEnd with
    | some e => if e ≤ s.now then ({ s with fabric := { s.fabric with criticalEnd := none } }).causeEnds 2 else s
    | none => s)

end Sys2Proof.Machine
end

