-- ==== Sys2Proof/Machine/Cue.lean ====
section
/-! DEFINITION.  What a fired cue does: its mode command, skein, register batch or venue selection (R82, R83, R88, R318, R388). -/

namespace Sys2Proof.Machine

/-- The cue whose action is due, taken from those that have fired; none when no fired cue has the number and the action. -/
def State.takeFired (s : State) (num action : Nat) : Option (FiredCue × Cue × State) :=
  let hit (f : FiredCue) : Bool := (s.cueAt f.index).any fun c => c.num == num && c.action == action
  match s.cue.fired.find? hit with
  | none => none
  | some f => match s.cueAt f.index with
    | none => none
    | some c => some (f, c, { s with cue := { s.cue with fired := s.cue.fired.erase f } })

/-- A member that is not acting master skips the cue (R388). -/
def State.skips (s : State) : Bool := s.chain.chained && !s.isActing

/-- ACTION 0x0 (R27, R82, R83, R388): ARG0 is the target, ARG1 LOCAL; the sequence number is the cue's. -/
def State.cueMode (s : State) (f : FiredCue) (c : Cue) : State :=
  let loc : Bool := c.arg1 % 2 == 1
  if s.skips && !loc then s
  else ({ s with cue := { s.cue with running := s.cue.running ++ [f.index] } }).modeCommand (c.arg0 % 16) loc (c.num % 256) f.source (some f.index)

/-- ACTION 0x1 (R318, R388). -/
def State.cueSkein (s : State) (f : FiredCue) (c : Cue) : State :=
  if s.skips then s
  else
    let idx := c.arg1 % 2048
    let was := s.store.skein.map fun k => k.index
    let s := (s.setFld Reg.STORE_PLAY 0 11 idx).setNat Reg.STORE_PLAY_FRAME c.arg0
    if was = some idx then s.playFrom c.arg0 (some f.index)
    else if was.isNone then s.openSkein idx (some c.arg0) (some f.index)
    else if s.modeCode = Mode.SHOW then s.storeRefuse 1 9 (some f.index)
    else s.closeSkein.openSkein idx (some c.arg0) (some f.index)

/-- ACTION 0x2 (R82, R83, R388, R425): the pairs of batch ARG0, in order. -/
def State.cueBatch (s : State) (f : FiredCue) (c : Cue) : State :=
  if s.skips then s
  else (s.each (s.sec.pattern.batches.getD c.arg0 []) fun (s : State) (p : Nat × Word) => s.writeAny .pattern p.1 4 p.2).completeCue f.index

/-- ACTION 0x3 (R82, R88, R108): slot ARG0 of the pattern, or 0xFF to clear. -/
def State.cueVenue (s : State) (f : FiredCue) (c : Cue) : State :=
  let op := if c.arg0 = 0xFF then 3 else 1
  let r : Nat := if op = 3 ∨ (s.sec.pattern.venueSlots[c.arg0]?).any (fun v => venueDescOk v.desc v.buffer.length) then 0 else 0x0B
  if r ≠ 0 then (s.raise Ev.VENUE_REJECTED [2, r, 0]).completeCue f.index
  else
    let x := s.venueContent op c.arg0 []
    let v : VenueReady := { source := 2, op := op, slot := x.1, vseq := 0, desc := x.2.1, buffer := x.2.2
                            ready := s.now, frame := none, cue := some f.index }
    if s.modeCode = Mode.SAFE then s.applyVenue v (s.nat Reg.SCAN_FRAME)
    else { s with sec := { s.sec with venueReady := s.sec.venueReady ++ [v] } }

/-- The action of a fired cue, which leaves the list of those due. -/
def State.cueAct (s : State) (f : FiredCue) : State :=
  match s.cueAt f.index with
  | none => s
  | some c =>
    let s := { s with cue := { s.cue with fired := s.cue.fired.erase f } }
    match c.action with
    | 0 => s.cueMode f c
    | 1 => s.cueSkein f c
    | 2 => s.cueBatch f c
    | _ => s.cueVenue f c

/-- A time or a delay that comes due in this cycle and waits in the queue fires its cue before any cue of the cycle acts (R83). -/
def State.fireWaiting (s : State) : State :=
  (s.pending.filter fun i => i.cycle == s.now).foldl (fun s i => match i with
    | .cueTimeDue t c => (execCueTimeDue t c s).state s
    | .cueDelayDue t c => (execCueDelayDue t c s).state s
    | _ => s) s

/-- Fired cues that act before `f`: those of its cycle with a lower CUE (R83). -/
def State.before (s : State) (f : FiredCue) : List FiredCue := (s.cue.fired.takeWhile (· != f)).filter fun x => x.cycle == f.cycle

/-- The command that carries out the action of cue `num`: cues of its cycle that come before it act first. -/
def State.cueDue (s : State) (num action : Nat) (act : State → FiredCue → Cue → State) : State :=
  let s := s.fireWaiting
  match s.takeFired num action with
  | none => s
  | some (f, _, _) =>
    let s := s.each (s.before f) State.cueAct
    match s.takeFired num action with
    | none => s
    | some (f, c, s) => act s f c

/-- CUE_MODE_COMMAND (R27, R82, R83, R388). -/
def execCueModeCommand (t cue : Nat) (s : State) : Res := .next ((s.advance t).cueDue cue 0 State.cueMode)

/-- CUE_PLAY_SKEIN (R318, R388). -/
def execCuePlaySkein (t cue : Nat) (s : State) : Res := .next ((s.advance t).cueDue cue 1 State.cueSkein)

/-- CUE_REGISTER_BATCH (R82, R83, R388, R425). -/
def execCueRegisterBatch (t cue : Nat) (s : State) : Res := .next ((s.advance t).cueDue cue 2 State.cueBatch)

/-- CUE_VENUE_SELECT (R82, R88, R108). -/
def execCueVenueSelect (t cue : Nat) (s : State) : Res := .next ((s.advance t).cueDue cue 3 State.cueVenue)

end Sys2Proof.Machine
end

