-- ==== Sys2Proof/Machine/Latch.lean ====
section
/-! DEFINITION.  The frame latch, with the fence updates that reach the device in its very cycle (R17, R111, R112). -/

namespace Sys2Proof.Machine

/-- One command of the cycle that can update a fence. -/
def State.fenceOf (s : State) (i : Instr) : State :=
  match i with
  | .registerWrite t req a z w => (execRegisterWrite t req a z w s).state s
  | .plyFenceWrite t n w => (execPlyFenceWrite t n w s).state s
  | .dportDmaEntryDone t c e d x => (execDportDmaEntryDone t c e d x s).state s
  | .hankJobComplete t e => (execHankJobComplete t e s).state s
  | .cueRegisterBatch t c => (execCueRegisterBatch t c s).state s
  | .chainRegisterWrite t p k => (execChainRegisterWrite t p k s).state s
  | .chainDataBlock t p b => (execChainDataBlock t p b s).state s
  | .yarnDataFragment t y p => (execYarnDataFragment t y p s).state s
  | _ => s

/-- The fences take the values that updates of this cycle give them: an awaited fence that is reached in the latch cycle counts as
reached (R17, R112). -/
def State.fencesInTime (s : State) : State :=
  let n := (s.pending.filter fun i => i.cycle == s.now).foldl State.fenceOf s
  let s := s.each (List.range 64) fun s k => s.setReg (Reg.PLY_FENCE k) (n.reg (Reg.PLY_FENCE k))
  { s with frame := { s.frame with fenceLast := n.frame.fenceLast } }

/-- FRAME_LATCH (R168): the delivery window closes. -/
def execFrameLatch (t : Nat) (s : State) : Res := .next (s.advance t).fencesInTime.latchNow

end Sys2Proof.Machine
end

