-- ==== Sys2Proof/Machine/Dispatch.lean ====
section
/-! DEFINITION.  The meaning of each command: one arm per constructor, one call per arm. -/

namespace Sys2Proof.Machine

def exec (i : Instr) (s : State) : Host.Outcome State Fault Refusal :=
  match i with
  | .glbExpertWrite t req data => Sys2Proof.Machine.execGlbExpertWrite t req data s
  | .fabricCtlClear t req data => Sys2Proof.Machine.execFabricCtlClear t req data s
  | .fabricParityError t hop cls transfer addr victim stripes entry => Sys2Proof.Machine.execFabricParityError t hop cls transfer addr victim stripes entry s
  | .fabricCriticalCauseExpiry t => Sys2Proof.Machine.execFabricCriticalCauseExpiry t s
  | .registerWrite t req addr size data => Sys2Proof.Machine.execRegisterWrite t req addr size data s
  | .earlyHostAccess t bar offset write => Sys2Proof.Machine.execEarlyHostAccess t bar offset write s
  | .modeCmdReset t seq => Sys2Proof.Machine.execModeCmdReset t seq s
  | .modeCmdCastOn t seq => Sys2Proof.Machine.execModeCmdCastOn t seq s
  | .modeCmdDeep t loc seq => Sys2Proof.Machine.execModeCmdDeep t loc seq s
  | .modeCmdStrip t loc seq => Sys2Proof.Machine.execModeCmdStrip t loc seq s
  | .modeCmdIdle t loc seq => Sys2Proof.Machine.execModeCmdIdle t loc seq s
  | .modeCmdPreview t loc seq => Sys2Proof.Machine.execModeCmdPreview t loc seq s
  | .modeCmdShow t loc seq => Sys2Proof.Machine.execModeCmdShow t loc seq s
  | .modeCmdLive t loc seq => Sys2Proof.Machine.execModeCmdLive t loc seq s
  | .modeCmdSwatch t loc seq => Sys2Proof.Machine.execModeCmdSwatch t loc seq s
  | .modeCmdService t loc seq => Sys2Proof.Machine.execModeCmdService t loc seq s
  | .modeCmdBindOff t loc seq => Sys2Proof.Machine.execModeCmdBindOff t loc seq s
  | .modeCmdSafe t loc seq => Sys2Proof.Machine.execModeCmdSafe t loc seq s
  | .modeTransitionDone t => Sys2Proof.Machine.execModeTransitionDone t s
  | .hbmAutoSelfRefresh t => Sys2Proof.Machine.execHbmAutoSelfRefresh t s
  | .hbmSrExitDone t => Sys2Proof.Machine.execHbmSrExitDone t s
  | .domainSwitchOnStart t => Sys2Proof.Machine.execDomainSwitchOnStart t s
  | .domainPowerGood t domain => Sys2Proof.Machine.execDomainPowerGood t domain s
  | .domainPowerGoodTimeout t domain => Sys2Proof.Machine.execDomainPowerGoodTimeout t domain s
  | .wakeNAsserted t => Sys2Proof.Machine.execWakeNAsserted t s
  | .por t => Sys2Proof.Machine.execPor t s
  | .powerGood t => Sys2Proof.Machine.execPowerGood t s
  | .rstNRecognised t => Sys2Proof.Machine.execRstNRecognised t s
  | .rstNReleased t => Sys2Proof.Machine.execRstNReleased t s
  | .pciePerstAsserted t entries => Sys2Proof.Machine.execPciePerstAsserted t entries s
  | .pciePerstReleased t => Sys2Proof.Machine.execPciePerstReleased t s
  | .endpointReset t speed width => Sys2Proof.Machine.execEndpointReset t speed width s
  | .watchdogExpiry t core => Sys2Proof.Machine.execWatchdogExpiry t core s
  | .softwareReset t req data => Sys2Proof.Machine.execSoftwareReset t req data s
  | .resetPulseEnd t => Sys2Proof.Machine.execResetPulseEnd t s
  | .thermalTrip t => Sys2Proof.Machine.execThermalTrip t s
  | .thermalTripClear t => Sys2Proof.Machine.execThermalTripClear t s
  | .supplyFault t rail => Sys2Proof.Machine.execSupplyFault t rail s
  | .supplyRecovered t => Sys2Proof.Machine.execSupplyRecovered t s
  | .blockReset t req data => Sys2Proof.Machine.execBlockReset t req data s
  | .blockResetDone t code => Sys2Proof.Machine.execBlockResetDone t code s
  | .flashPulseEnd t => Sys2Proof.Machine.execFlashPulseEnd t s
  | .eraseSuspendPoll t suspended => Sys2Proof.Machine.execEraseSuspendPoll t suspended s
  | .eraseSuspendTimeout t => Sys2Proof.Machine.execEraseSuspendTimeout t s
  | .rootPllLock t => Sys2Proof.Machine.execRootPllLock t s
  | .optionStatusPoll t busy => Sys2Proof.Machine.execOptionStatusPoll t busy s
  | .optionBlockReadDone t block => Sys2Proof.Machine.execOptionBlockReadDone t block s
  | .castonFwStep t imageA imageB => Sys2Proof.Machine.execCastonFwStep t imageA imageB s
  | .castonPatternStep t imageA imageB => Sys2Proof.Machine.execCastonPatternStep t imageA imageB s
  | .castonHbmStep t training => Sys2Proof.Machine.execCastonHbmStep t training s
  | .castonCalStep t => Sys2Proof.Machine.execCastonCalStep t s
  | .castonPanelStepEnd t => Sys2Proof.Machine.execCastonPanelStepEnd t s
  | .castonReady t => Sys2Proof.Machine.execCastonReady t s
  | .handshakeAbsentTimeout t member => Sys2Proof.Machine.execHandshakeAbsentTimeout t member s
  | .handshakeRepeat t port => Sys2Proof.Machine.execHandshakeRepeat t port s
  | .secCmdAttest t req => Sys2Proof.Machine.execSecCmdAttest t req s
  | .secCmdFlashErase t req => Sys2Proof.Machine.execSecCmdFlashErase t req s
  | .secCmdFlashProgram t req => Sys2Proof.Machine.execSecCmdFlashProgram t req s
  | .secCmdVerifyImage t req => Sys2Proof.Machine.execSecCmdVerifyImage t req s
  | .secCmdEnrollKey t req => Sys2Proof.Machine.execSecCmdEnrollKey t req s
  | .secCmdRevokeKey t req => Sys2Proof.Machine.execSecCmdRevokeKey t req s
  | .secCmdConfirmFw t req => Sys2Proof.Machine.execSecCmdConfirmFw t req s
  | .secCmdAdvanceFwSvn t req => Sys2Proof.Machine.execSecCmdAdvanceFwSvn t req s
  | .secCmdAdvancePatSvn t req => Sys2Proof.Machine.execSecCmdAdvancePatSvn t req s
  | .secCmdComplete t ok image => Sys2Proof.Machine.execSecCmdComplete t ok image s
  | .leafJournalWriteDone t okA okB => Sys2Proof.Machine.execLeafJournalWriteDone t okA okB s
  | .venueSubmit t req => Sys2Proof.Machine.execVenueSubmit t req s
  | .venueVerifyDone t => Sys2Proof.Machine.execVenueVerifyDone t s
  | .venueJournalWriteDone t okA okB => Sys2Proof.Machine.execVenueJournalWriteDone t okA okB s
  | .cueTimeDue t cue => Sys2Proof.Machine.execCueTimeDue t cue s
  | .cueDelayDue t cue => Sys2Proof.Machine.execCueDelayDue t cue s
  | .secCueGo t req cue => Sys2Proof.Machine.execSecCueGo t req cue s
  | .cueModeCommand t cue => Sys2Proof.Machine.execCueModeCommand t cue s
  | .cuePlaySkein t cue => Sys2Proof.Machine.execCuePlaySkein t cue s
  | .cueRegisterBatch t cue => Sys2Proof.Machine.execCueRegisterBatch t cue s
  | .cueVenueSelect t cue => Sys2Proof.Machine.execCueVenueSelect t cue s
  | .plyDescWrite t req ply word data => Sys2Proof.Machine.execPlyDescWrite t req ply word data s
  | .plyFenceWrite t fence data => Sys2Proof.Machine.execPlyFenceWrite t fence data s
  | .scanCommitGo t req => Sys2Proof.Machine.execScanCommitGo t req s
  | .frameLatch t => Sys2Proof.Machine.execFrameLatch t s
  | .hbmRetimeDone t => Sys2Proof.Machine.execHbmRetimeDone t s
  | .frameFlip t => Sys2Proof.Machine.execFrameFlip t s
  | .plyFetchDone t link course ply => Sys2Proof.Machine.execPlyFetchDone t link course ply s
  | .plyFetchFail t link course ply reason => Sys2Proof.Machine.execPlyFetchFail t link course ply reason s
  | .courseOpen t link course => Sys2Proof.Machine.execCourseOpen t link course s
  | .spanDone t link course span parityLines => Sys2Proof.Machine.execSpanDone t link course span parityLines s
  | .cacheRefetchDone t line => Sys2Proof.Machine.execCacheRefetchDone t line s
  | .tCutExpiry t link => Sys2Proof.Machine.execTCutExpiry t link s
  | .reflattenDone t group => Sys2Proof.Machine.execReflattenDone t group s
  | .timeBlockDue t lane => Sys2Proof.Machine.execTimeBlockDue t lane s
  | .tileDelayEcho t tile => Sys2Proof.Machine.execTileDelayEcho t tile s
  | .backchannelFrame t lane frame => Sys2Proof.Machine.execBackchannelFrame t lane frame s
  | .tileBcTimeout t tile => Sys2Proof.Machine.execTileBcTimeout t tile s
  | .tileNoLockTimeout t tile => Sys2Proof.Machine.execTileNoLockTimeout t tile s
  | .tileBlankedTimeout t tile => Sys2Proof.Machine.execTileBlankedTimeout t tile s
  | .configTimeout t tile => Sys2Proof.Machine.execConfigTimeout t tile s
  | .tileEnumeration t tile => Sys2Proof.Machine.execTileEnumeration t tile s
  | .enumBcWaitTimeout t tile => Sys2Proof.Machine.execEnumBcWaitTimeout t tile s
  | .spkCtlReenum t req tile => Sys2Proof.Machine.execSpkCtlReenum t req tile s
  | .spkCtlEcho t req tile => Sys2Proof.Machine.execSpkCtlEcho t req tile s
  | .spkCtlClear t req => Sys2Proof.Machine.execSpkCtlClear t req s
  | .spkCfgwGo t req => Sys2Proof.Machine.execSpkCfgwGo t req s
  | .laneStageDone t lane inverted seen => Sys2Proof.Machine.execLaneStageDone t lane inverted seen s
  | .laneStageTimeout t lane => Sys2Proof.Machine.execLaneStageTimeout t lane s
  | .laneRetryTimer t lane => Sys2Proof.Machine.execLaneRetryTimer t lane s
  | .laneLockLoss t lane => Sys2Proof.Machine.execLaneLockLoss t lane s
  | .ptxPolarityTimeout t lane => Sys2Proof.Machine.execPtxPolarityTimeout t lane s
  | .presetTryTimeout t lane => Sys2Proof.Machine.execPresetTryTimeout t lane s
  | .laneCtlRetrain t req lane => Sys2Proof.Machine.execLaneCtlRetrain t req lane s
  | .laneCtlClear t req lane => Sys2Proof.Machine.execLaneCtlClear t req lane s
  | .laneCtlClearAll t req => Sys2Proof.Machine.execLaneCtlClearAll t req s
  | .laneFomUpdate t lane h w => Sys2Proof.Machine.execLaneFomUpdate t lane h w s
  | .bgcalGrant t lane slicer => Sys2Proof.Machine.execBgcalGrant t lane slicer s
  | .bgcalGrantLapse t lane slicer => Sys2Proof.Machine.execBgcalGrantLapse t lane slicer s
  | .laneTestWrite t req lane data => Sys2Proof.Machine.execLaneTestWrite t req lane data s
  | .laneInjWrite t req lane data => Sys2Proof.Machine.execLaneInjWrite t req lane data s
  | .loopTportLockLoss t => Sys2Proof.Machine.execLoopTportLockLoss t s
  | .loopMoveTimeout t => Sys2Proof.Machine.execLoopMoveTimeout t s
  | .loopLocked t => Sys2Proof.Machine.execLoopLocked t s
  | .laneLatencySlip t port lane words => Sys2Proof.Machine.execLaneLatencySlip t port lane words s
  | .irefComplianceSample t output millivolts => Sys2Proof.Machine.execIrefComplianceSample t output millivolts s
  | .thmSample t input ohms => Sys2Proof.Machine.execThmSample t input ohms s
  | .thmStaleTimeout t input => Sys2Proof.Machine.execThmStaleTimeout t input s
  | .probeTimeout t tile => Sys2Proof.Machine.execProbeTimeout t tile s
  | .powerupT0 t => Sys2Proof.Machine.execPowerupT0 t s
  | .powerupDischargeEnd t => Sys2Proof.Machine.execPowerupDischargeEnd t s
  | .irefRampUpStep t => Sys2Proof.Machine.execIrefRampUpStep t s
  | .irefRampDownStep t => Sys2Proof.Machine.execIrefRampDownStep t s
  | .bindoffDischarge t => Sys2Proof.Machine.execBindoffDischarge t s
  | .bindoffIdle t => Sys2Proof.Machine.execBindoffIdle t s
  | .emitStripGo t req => Sys2Proof.Machine.execEmitStripGo t req s
  | .emitStripBufWrite t req index data => Sys2Proof.Machine.execEmitStripBufWrite t req index data s
  | .stripWindowOpen t => Sys2Proof.Machine.execStripWindowOpen t s
  | .hbmRefreshTick t pc => Sys2Proof.Machine.execHbmRefreshTick t pc s
  | .hbmReadParityError t pc addr attempt => Sys2Proof.Machine.execHbmReadParityError t pc addr attempt s
  | .hbmAlert t pc addr => Sys2Proof.Machine.execHbmAlert t pc addr s
  | .migrationPageDone t => Sys2Proof.Machine.execMigrationPageDone t s
  | .hbmCtlClearLost t req => Sys2Proof.Machine.execHbmCtlClearLost t req s
  | .hbmCtlMemtest t req => Sys2Proof.Machine.execHbmCtlMemtest t req s
  | .hbmCtlClearCnt t req => Sys2Proof.Machine.execHbmCtlClearCnt t req s
  | .memtestDone t => Sys2Proof.Machine.execMemtestDone t s
  | .scrubRead t result => Sys2Proof.Machine.execScrubRead t result s
  | .scrubDeferralTimeout t => Sys2Proof.Machine.execScrubDeferralTimeout t s
  | .hankJobSubmit t req => Sys2Proof.Machine.execHankJobSubmit t req s
  | .hankJobComplete t engine => Sys2Proof.Machine.execHankJobComplete t engine s
  | .needleSubmit t req => Sys2Proof.Machine.execNeedleSubmit t req s
  | .needleCmdIssue t => Sys2Proof.Machine.execNeedleCmdIssue t s
  | .needleFrogStop t run stripes => Sys2Proof.Machine.execNeedleFrogStop t run stripes s
  | .needleCmdComplete t run fail stripes => Sys2Proof.Machine.execNeedleCmdComplete t run fail stripes s
  | .storeCtlOpen t req => Sys2Proof.Machine.execStoreCtlOpen t req s
  | .storeOpenDone t => Sys2Proof.Machine.execStoreOpenDone t s
  | .storeCtlPlay t req => Sys2Proof.Machine.execStoreCtlPlay t req s
  | .storeCtlClose t req => Sys2Proof.Machine.execStoreCtlClose t req s
  | .storeReady t => Sys2Proof.Machine.execStoreReady t s
  | .storePrepDone t => Sys2Proof.Machine.execStorePrepDone t s
  | .storePrepDeadline t => Sys2Proof.Machine.execStorePrepDeadline t s
  | .nvmeCompletion t drive cid status data => Sys2Proof.Machine.execNvmeCompletion t drive cid status data s
  | .nvmeTimeout t drive cid => Sys2Proof.Machine.execNvmeTimeout t drive cid s
  | .nvmeControllerFatal t drive => Sys2Proof.Machine.execNvmeControllerFatal t drive s
  | .storeXferRead t req data => Sys2Proof.Machine.execStoreXferRead t req data s
  | .storeXferWrite t req data => Sys2Proof.Machine.execStoreXferWrite t req data s
  | .storeXferFlush t req data => Sys2Proof.Machine.execStoreXferFlush t req data s
  | .storeXferDeallocate t req data => Sys2Proof.Machine.execStoreXferDeallocate t req data s
  | .storeXferSmartLog t req data => Sys2Proof.Machine.execStoreXferSmartLog t req data s
  | .storeXferDone t => Sys2Proof.Machine.execStoreXferDone t s
  | .yarnDataFragment t stream packet => Sys2Proof.Machine.execYarnDataFragment t stream packet s
  | .yarnDescriptor t stream packet => Sys2Proof.Machine.execYarnDescriptor t stream packet s
  | .yarnCommit t stream packet => Sys2Proof.Machine.execYarnCommit t stream packet s
  | .yarnUpdateTimeout t stream update => Sys2Proof.Machine.execYarnUpdateTimeout t stream update s
  | .dportWriteTlp t port offset first last data => Sys2Proof.Machine.execDportWriteTlp t port offset first last data s
  | .dportReadTlp t port offset len => Sys2Proof.Machine.execDportReadTlp t port offset len s
  | .dportPtrWrite t req port reg data => Sys2Proof.Machine.execDportPtrWrite t req port reg data s
  | .dportDmaStart t req chan reg data => Sys2Proof.Machine.execDportDmaStart t req chan reg data s
  | .dportDmaEntryDone t chan entry source error => Sys2Proof.Machine.execDportDmaEntryDone t chan entry source error s
  | .ethFrameRx t port frame fcsOk => Sys2Proof.Machine.execEthFrameRx t port frame fcsOk s
  | .networkCueFrame t port payload => Sys2Proof.Machine.execNetworkCueFrame t port payload s
  | .venueFragment t port payload => Sys2Proof.Machine.execVenueFragment t port payload s
  | .venueAssemblyTimeout t => Sys2Proof.Machine.execVenueAssemblyTimeout t s
  | .ptpSync t port msg => Sys2Proof.Machine.execPtpSync t port msg s
  | .ptpFollowUp t port msg => Sys2Proof.Machine.execPtpFollowUp t port msg s
  | .ptpDelayResp t port msg => Sys2Proof.Machine.execPtpDelayResp t port msg s
  | .ptpAnnounce t port msg => Sys2Proof.Machine.execPtpAnnounce t port msg s
  | .ptpDelayReqDue t tb => Sys2Proof.Machine.execPtpDelayReqDue t tb s
  | .ptpSyncTimeout t tb => Sys2Proof.Machine.execPtpSyncTimeout t tb s
  | .ptpAnnounceTimeout t tb => Sys2Proof.Machine.execPtpAnnounceTimeout t tb s
  | .tb2RevertTimeout t => Sys2Proof.Machine.execTb2RevertTimeout t s
  | .ppsInEdge t => Sys2Proof.Machine.execPpsInEdge t s
  | .timeRefTimeout t input => Sys2Proof.Machine.execTimeRefTimeout t input s
  | .netLinkSettle t port => Sys2Proof.Machine.execNetLinkSettle t port s
  | .timeCmpAllocReq t req => Sys2Proof.Machine.execTimeCmpAllocReq t req s
  | .timeCmpAllocFree t req num => Sys2Proof.Machine.execTimeCmpAllocFree t req num s
  | .timeCmpFire t cmp => Sys2Proof.Machine.execTimeCmpFire t cmp s
  | .timePulseEnd t out => Sys2Proof.Machine.execTimePulseEnd t out s
  | .ppsOutSecond t => Sys2Proof.Machine.execPpsOutSecond t s
  | .ppsOutWidthEnd t => Sys2Proof.Machine.execPpsOutWidthEnd t s
  | .timeCaptureEdge t cap falling => Sys2Proof.Machine.execTimeCaptureEdge t cap falling s
  | .timeCapFnsRead t cap => Sys2Proof.Machine.execTimeCapFnsRead t cap s
  | .timeCtlSnap t req => Sys2Proof.Machine.execTimeCtlSnap t req s
  | .timeCtlSetTb3 t req => Sys2Proof.Machine.execTimeCtlSetTb3 t req s
  | .timeCtlSetTb2 t req => Sys2Proof.Machine.execTimeCtlSetTb2 t req s
  | .trafDeTimeout t entry => Sys2Proof.Machine.execTrafDeTimeout t entry s
  | .trafEgressDone t port => Sys2Proof.Machine.execTrafEgressDone t port s
  | .trafHistSample t => Sys2Proof.Machine.execTrafHistSample t s
  | .trafCtlClearCnt t req => Sys2Proof.Machine.execTrafCtlClearCnt t req s
  | .trafCtlClearHist t req => Sys2Proof.Machine.execTrafCtlClearHist t req s
  | .chainDataBlock t port block => Sys2Proof.Machine.execChainDataBlock t port block s
  | .chainAck t port seq => Sys2Proof.Machine.execChainAck t port seq s
  | .chainNak t port seq => Sys2Proof.Machine.execChainNak t port seq s
  | .chainAckDue t port => Sys2Proof.Machine.execChainAckDue t port s
  | .chainTrainBlock t port block => Sys2Proof.Machine.execChainTrainBlock t port block s
  | .chainTimeBlock t port block => Sys2Proof.Machine.execChainTimeBlock t port block s
  | .chainTimeDue t port => Sys2Proof.Machine.execChainTimeDue t port s
  | .chainHeldTimeout t port => Sys2Proof.Machine.execChainHeldTimeout t port s
  | .chainRegisterWrite t port packet => Sys2Proof.Machine.execChainRegisterWrite t port packet s
  | .chainCommit t port packet => Sys2Proof.Machine.execChainCommit t port packet s
  | .chainModeCommand t port packet => Sys2Proof.Machine.execChainModeCommand t port packet s
  | .chainLatchDigest t port packet => Sys2Proof.Machine.execChainLatchDigest t port packet s
  | .chainPlyOff t port packet => Sys2Proof.Machine.execChainPlyOff t port packet s
  | .chainJoinFrame t port packet => Sys2Proof.Machine.execChainJoinFrame t port packet s
  | .chainSkeinRecord t port packet => Sys2Proof.Machine.execChainSkeinRecord t port packet s
  | .chainSignedObject t port packet => Sys2Proof.Machine.execChainSignedObject t port packet s
  | .chainJoinState t port packet => Sys2Proof.Machine.execChainJoinState t port packet s
  | .digestTimeout t => Sys2Proof.Machine.execDigestTimeout t s
  | .heartbeatDue t => Sys2Proof.Machine.execHeartbeatDue t s
  | .chainHbBlock t port block => Sys2Proof.Machine.execChainHbBlock t port block s
  | .heartbeatDatagram t port payload => Sys2Proof.Machine.execHeartbeatDatagram t port payload s
  | .hbPathTimeout t path => Sys2Proof.Machine.execHbPathTimeout t path s
  | .partnerFailTimeout t => Sys2Proof.Machine.execPartnerFailTimeout t s
  | .yieldCheck t => Sys2Proof.Machine.execYieldCheck t s
  | .irefTakeupTimeout t => Sys2Proof.Machine.execIrefTakeupTimeout t s
  | .chainCtlJoin t req => Sys2Proof.Machine.execChainCtlJoin t req s
  | .chainCtlHandback t req => Sys2Proof.Machine.execChainCtlHandback t req s
  | .chainCtlTake t req => Sys2Proof.Machine.execChainCtlTake t req s
  | .chainCtlYield t req => Sys2Proof.Machine.execChainCtlYield t req s
  | .chainCtlClear t req => Sys2Proof.Machine.execChainCtlClear t req s
  | .hlthSensorRound t readings => Sys2Proof.Machine.execHlthSensorRound t readings s
  | .hbmStackSensorRead t sensors => Sys2Proof.Machine.execHbmStackSensorRead t sensors s
  | .hlthRoundOverdue t => Sys2Proof.Machine.execHlthRoundOverdue t s
  | .hlthOndemandRead t readings => Sys2Proof.Machine.execHlthOndemandRead t readings s
  | .throttleStep2Timeout t => Sys2Proof.Machine.execThrottleStep2Timeout t s
  | .throttleReleaseTimeout t => Sys2Proof.Machine.execThrottleReleaseTimeout t s
  | .avsStep t => Sys2Proof.Machine.execAvsStep t s
  | .avsResponse t good => Sys2Proof.Machine.execAvsResponse t good s
  | .calMeasureDone t item value => Sys2Proof.Machine.execCalMeasureDone t item value s
  | .calMeasureTimeout t item => Sys2Proof.Machine.execCalMeasureTimeout t item s
  | .ageingMeasure t pairs => Sys2Proof.Machine.execAgeingMeasure t pairs s
  | .hlthCtlRead t req => Sys2Proof.Machine.execHlthCtlRead t req s
  | .hlthCtlRestore t req => Sys2Proof.Machine.execHlthCtlRestore t req s
  | .hlthCtlReplan t req => Sys2Proof.Machine.execHlthCtlReplan t req s
  | .hlthReplanDone t pairs => Sys2Proof.Machine.execHlthReplanDone t pairs s
  | .hlthCtlClearSuspect t req => Sys2Proof.Machine.execHlthCtlClearSuspect t req s
  | .evtRingEnable t req data => Sys2Proof.Machine.execEvtRingEnable t req data s
  | .evtTailWrite t req data => Sys2Proof.Machine.execEvtTailWrite t req data s
  | .evtRingWriteError t slot reason => Sys2Proof.Machine.execEvtRingWriteError t slot reason s
  | .msixIntervalEnd t vector => Sys2Proof.Machine.execMsixIntervalEnd t vector s
  | .ref10mInputReturn t => Sys2Proof.Machine.execRef10mInputReturn t s
  | .prbsCheckerLock t lane => Sys2Proof.Machine.execPrbsCheckerLock t lane s
  | .prbsCheckerLockLoss t lane => Sys2Proof.Machine.execPrbsCheckerLockLoss t lane s
  | .gpioInputChange t ball level => Sys2Proof.Machine.execGpioInputChange t ball level s
  | .msixVectorUnmask t vector => Sys2Proof.Machine.execMsixVectorUnmask t vector s
  | .shapedQueueEligible t port queue => Sys2Proof.Machine.execShapedQueueEligible t port queue s
  | .tracePacketSent t => Sys2Proof.Machine.execTracePacketSent t s
  | .stripRefreshPeriodStart t => Sys2Proof.Machine.execStripRefreshPeriodStart t s

end Sys2Proof.Machine
end

