-- ==== Sys2Proof/Machine/Step.lean ====
section
/-! DEFINITION.  One step of the block: the command at the front of the queue runs on the state with the rest of the
queue; with no command waiting the control clock moves on by one cycle, so that the events of the cycle that ends are
delivered (R428).  The table gives no row a bit, so a word spells no command. -/

namespace Sys2Proof.Machine

/-- One step. -/
def step (s : State) : Host.Outcome State Fault Refusal :=
  match s.pending with
  | [] => .next (s.advance (s.now + 1))
  | c :: rest => exec c { s with pending := rest }

/-- The state with the command that a word spells in front of its queue; no word spells one. -/
def State.withFetchWord (s : State) (nbits w : Nat) : State :=
  match Sys2Proof.decodeTableWord nbits w with
  | some c => { s with pending := c :: s.pending }
  | none => s

end Sys2Proof.Machine
end

