-- ==== Sys2Proof/Safety.lean ====
section
/-! DEFINITION.  What counts as a safe state and a safe run, in the terms that the statements use. -/

namespace Sys2Proof.Machine

/-- The register list in its one form: addresses strictly rising, and no register listed at its reset value. -/
def regsCanonical (m : List (Nat × Word)) : Bool := keysRising m && m.all fun x => x.2 != resetWord x.1

/-- Registers, HBM content, lost blocks and source tags are each in their one form, so that equal contents are equal data. -/
def State.canonical (s : State) : Bool :=
  regsCanonical s.regs && Memory.wf s.hbm.mem && keysRising s.hbm.lost && keysRising s.hbm.tags

/-- A command was carried out: neither a fault nor a refusal. -/
def Answers (r : Res) : Prop := ∃ n : State, r = .next n

/-- A write of a whole word that nothing refuses (R9, R424). -/
abbrev State.accepts (s : State) (req : Requester) (a : Nat) (w : Word) : Prop := writeCause s req a 4 w = none

/-- The device runs alone: no write of it is forwarded to another member (R388). -/
abbrev State.alone (s : State) : Prop := s.chain.chained = false

/-- Every register outside `l` reads as before. -/
def SameRegs (s n : State) (l : List Nat) : Prop := ∀ a : Nat, a ∉ l → n.reg a = s.reg a

/-- The events that `n` has raised in its cycle beyond those of `s`. -/
def RaisedBy (s n : State) (l : List (Nat × List Nat)) : Prop :=
  n.raised.map (fun e => (e.code, e.args)) = s.raised.map (fun e => (e.code, e.args)) ++ l

/-- The registers that show which zones this device drives (R234). -/
def zoneRegs : List Nat := Reg.EMIT_OWN :: (List.range 48).map Reg.EMIT_IREF_STAT

/-- After a change of roles this device drives every zone or none, and of the IREF status only OWNED follows (R234, R397). -/
def ZonesPass (s n : State) (own : Bool) : Prop :=
  n.nat Reg.EMIT_OWN = (if own then 0xFFFF else 0) ∧
  ∀ k : Nat, k < 48 → n.bit (Reg.EMIT_IREF_STAT k) 24 = n.irefOwned k ∧
    n.fld (Reg.EMIT_IREF_STAT k) 0 24 = s.fld (Reg.EMIT_IREF_STAT k) 0 24 ∧
    n.fld (Reg.EMIT_IREF_STAT k) 25 7 = s.fld (Reg.EMIT_IREF_STAT k) 25 7

/-- The word that a mode command writes to GLB_MODE_CMD. -/
def modeWord (tgt : Nat) (loc : Bool) (seq : Nat) : Word := Word.ofNat (tgt + 16 * bitOf loc + 256 * seq)

/-- A GLB_MODE_CMD write that nothing refuses reaches a device that takes commands: no transition is in progress and SAFE was
not entered in this cycle (R26, R27). -/
abbrev takesCommand (u : State) (tgt : Nat) (loc : Bool) (seq : Nat) : Prop :=
  u.accepts .host Reg.GLB_MODE_CMD (modeWord tgt loc seq) ∧ u.mode.safeStart ≠ some u.now ∧ u.busy = false

/-- The transition that an accepted command of the host starts. -/
def hostTransition (u : State) (tgt : Nat) (loc : Bool) (seq : Nat) (g : Stage) : Transition :=
  { target := tgt, seq := seq % 256, source := 0, local_ := loc, frm := u.modeCode, accepted := u.now, frame := none, stage := g }

/-- It is the turn of fired cue `f`, entry `c`, for an action: no cue of its cycle acts before it; `v` is the state without it among the
fired ones (R83). -/
abbrev takesTurn (u : State) (num action : Nat) (f : FiredCue) (c : Cue) (v : State) : Prop :=
  u.fireWaiting.takeFired num action = some (f, c, v) ∧ u.fireWaiting.before f = []

end Sys2Proof.Machine
end

