-- ==== Sys2Proof/WellFormed.lean ====
section
/-! DEFINITION.  Which commands can reach the device: operands inside the ranges that the pins, buses and packets carry.  No
meaning depends on it; a command outside it stands for no event of the hardware. -/

namespace Sys2Proof

/-- `v` lies between `lo` and `hi`. -/
def Instr.within (lo hi v : Nat) : Bool := lo ≤ v && v ≤ hi

open Instr (within)

/-- The operands of a command are in range. -/
def Instr.wf (i : Instr) : Bool :=
  match i with
  | .glbExpertWrite _ _ _ => true
  | .fabricCtlClear _ _ _ => true
  | .fabricParityError _ hop cls _ addr _ _ _ => hop ≤ 0x30 && within 1 8 cls && addr < 2 ^ 35
  | .fabricCriticalCauseExpiry _ => true
  | .registerWrite _ _ addr size _ => addr < 2 ^ 26 && [1, 2, 4, 8].contains size
  | .earlyHostAccess _ bar offset _ => (bar == 0 && offset < 2 ^ 26) || (bar == 2 && offset < 2 ^ 22) || bar == 4
  | .modeCmdReset _ seq => seq < 256
  | .modeCmdCastOn _ seq => seq < 256
  | .modeCmdDeep _ _ seq => seq < 256
  | .modeCmdStrip _ _ seq => seq < 256
  | .modeCmdIdle _ _ seq => seq < 256
  | .modeCmdPreview _ _ seq => seq < 256
  | .modeCmdShow _ _ seq => seq < 256
  | .modeCmdLive _ _ seq => seq < 256
  | .modeCmdSwatch _ _ seq => seq < 256
  | .modeCmdService _ _ seq => seq < 256
  | .modeCmdBindOff _ _ seq => seq < 256
  | .modeCmdSafe _ _ seq => seq < 256
  | .modeTransitionDone _ => true
  | .hbmAutoSelfRefresh _ => true
  | .hbmSrExitDone _ => true
  | .domainSwitchOnStart _ => true
  | .domainPowerGood _ _ => true
  | .domainPowerGoodTimeout _ _ => true
  | .wakeNAsserted _ => true
  | .por _ => true
  | .powerGood _ => true
  | .rstNRecognised _ => true
  | .rstNReleased _ => true
  | .pciePerstAsserted _ _ => true
  | .pciePerstReleased _ => true
  | .endpointReset _ speed width => within 1 5 speed && [1, 2, 4, 8, 16].contains width
  | .watchdogExpiry _ _ => true
  | .softwareReset _ _ _ => true
  | .resetPulseEnd _ => true
  | .thermalTrip _ => true
  | .thermalTripClear _ => true
  | .supplyFault _ rail => rail < 16
  | .supplyRecovered _ => true
  | .blockReset _ _ _ => true
  | .blockResetDone _ code => code < 256
  | .flashPulseEnd _ => true
  | .eraseSuspendPoll _ _ => true
  | .eraseSuspendTimeout _ => true
  | .rootPllLock _ => true
  | .optionStatusPoll _ _ => true
  | .optionBlockReadDone _ _ => true
  | .castonFwStep _ _ _ => true
  | .castonPatternStep _ _ _ => true
  | .castonHbmStep _ _ => true
  | .castonCalStep _ => true
  | .castonPanelStepEnd _ => true
  | .castonReady _ => true
  | .handshakeAbsentTimeout _ _ => true
  | .handshakeRepeat _ _ => true
  | .secCmdAttest _ _ => true
  | .secCmdFlashErase _ _ => true
  | .secCmdFlashProgram _ _ => true
  | .secCmdVerifyImage _ _ => true
  | .secCmdEnrollKey _ _ => true
  | .secCmdRevokeKey _ _ => true
  | .secCmdConfirmFw _ _ => true
  | .secCmdAdvanceFwSvn _ _ => true
  | .secCmdAdvancePatSvn _ _ => true
  | .secCmdComplete _ _ _ => true
  | .leafJournalWriteDone _ _ _ => true
  | .venueSubmit _ _ => true
  | .venueVerifyDone _ => true
  | .venueJournalWriteDone _ _ _ => true
  | .cueTimeDue _ cue => within 1 65535 cue
  | .cueDelayDue _ cue => within 1 65535 cue
  | .secCueGo _ _ cue => cue < 65536
  | .cueModeCommand _ cue => within 1 65535 cue
  | .cuePlaySkein _ cue => within 1 65535 cue
  | .cueRegisterBatch _ cue => within 1 65535 cue
  | .cueVenueSelect _ cue => within 1 65535 cue
  | .plyDescWrite _ _ _ _ _ => true
  | .plyFenceWrite _ _ _ => true
  | .scanCommitGo _ _ => true
  | .frameLatch _ => true
  | .hbmRetimeDone _ => true
  | .frameFlip _ => true
  | .plyFetchDone _ _ _ ply => ply ≤ 64
  | .plyFetchFail _ _ _ ply reason => ply ≤ 64 && within 2 3 reason
  | .courseOpen _ _ course => course < 65536
  | .spanDone _ _ course _ _ => course < 65536
  | .cacheRefetchDone _ _ => true
  | .tCutExpiry _ _ => true
  | .reflattenDone _ _ => true
  | .timeBlockDue _ _ => true
  | .tileDelayEcho _ _ => true
  | .backchannelFrame _ _ _ => true
  | .tileBcTimeout _ _ => true
  | .tileNoLockTimeout _ _ => true
  | .tileBlankedTimeout _ _ => true
  | .configTimeout _ _ => true
  | .tileEnumeration _ _ => true
  | .enumBcWaitTimeout _ _ => true
  | .spkCtlReenum _ _ tile => tile < 128
  | .spkCtlEcho _ _ tile => tile < 128
  | .spkCtlClear _ _ => true
  | .spkCfgwGo _ _ => true
  | .laneStageDone _ _ _ _ => true
  | .laneStageTimeout _ _ => true
  | .laneRetryTimer _ _ => true
  | .laneLockLoss _ _ => true
  | .ptxPolarityTimeout _ _ => true
  | .presetTryTimeout _ _ => true
  | .laneCtlRetrain _ _ lane => lane < 304
  | .laneCtlClear _ _ lane => lane < 304
  | .laneCtlClearAll _ _ => true
  | .laneFomUpdate _ _ _ _ => true
  | .bgcalGrant _ _ _ => true
  | .bgcalGrantLapse _ _ _ => true
  | .laneTestWrite _ _ _ _ => true
  | .laneInjWrite _ _ _ _ => true
  | .loopTportLockLoss _ => true
  | .loopMoveTimeout _ => true
  | .loopLocked _ => true
  | .laneLatencySlip _ _ _ _ => true
  | .irefComplianceSample _ _ _ => true
  | .thmSample _ _ _ => true
  | .thmStaleTimeout _ _ => true
  | .probeTimeout _ _ => true
  | .powerupT0 _ => true
  | .powerupDischargeEnd _ => true
  | .irefRampUpStep _ => true
  | .irefRampDownStep _ => true
  | .bindoffDischarge _ => true
  | .bindoffIdle _ => true
  | .emitStripGo _ _ => true
  | .emitStripBufWrite _ _ index _ => index < 65536
  | .stripWindowOpen _ => true
  | .hbmRefreshTick _ _ => true
  | .hbmReadParityError _ _ addr _ => addr < 2 ^ 35
  | .hbmAlert _ _ addr => addr < 2 ^ 35
  | .migrationPageDone _ => true
  | .hbmCtlClearLost _ _ => true
  | .hbmCtlMemtest _ _ => true
  | .hbmCtlClearCnt _ _ => true
  | .memtestDone _ => true
  | .scrubRead _ result => result < 3
  | .scrubDeferralTimeout _ => true
  | .hankJobSubmit _ _ => true
  | .hankJobComplete _ _ => true
  | .needleSubmit _ _ => true
  | .needleCmdIssue _ => true
  | .needleFrogStop _ _ _ => true
  | .needleCmdComplete _ _ _ _ => true
  | .storeCtlOpen _ _ => true
  | .storeOpenDone _ => true
  | .storeCtlPlay _ _ => true
  | .storeCtlClose _ _ => true
  | .storeReady _ => true
  | .storePrepDone _ => true
  | .storePrepDeadline _ => true
  | .nvmeCompletion _ _ cid status _ => cid < 65536 && status < 65536
  | .nvmeTimeout _ _ cid => cid < 65536
  | .nvmeControllerFatal _ _ => true
  | .storeXferRead _ _ _ => true
  | .storeXferWrite _ _ _ => true
  | .storeXferFlush _ _ _ => true
  | .storeXferDeallocate _ _ _ => true
  | .storeXferSmartLog _ _ _ => true
  | .storeXferDone _ => true
  | .yarnDataFragment _ _ _ => true
  | .yarnDescriptor _ _ _ => true
  | .yarnCommit _ _ _ => true
  | .yarnUpdateTimeout _ _ _ => true
  | .dportWriteTlp _ _ offset first last data => offset < 2 ^ 20 && first < 16 && last < 16 && data.length % 4 == 0
  | .dportReadTlp _ _ offset _ => offset < 2 ^ 20
  | .dportPtrWrite _ _ _ _ _ => true
  | .dportDmaStart _ _ _ _ _ => true
  | .dportDmaEntryDone _ _ _ _ _ => true
  | .ethFrameRx _ _ frame _ => frame.length < 65536
  | .networkCueFrame _ _ _ => true
  | .venueFragment _ _ _ => true
  | .venueAssemblyTimeout _ => true
  | .ptpSync _ _ _ => true
  | .ptpFollowUp _ _ _ => true
  | .ptpDelayResp _ _ _ => true
  | .ptpAnnounce _ _ _ => true
  | .ptpDelayReqDue _ _ => true
  | .ptpSyncTimeout _ _ => true
  | .ptpAnnounceTimeout _ _ => true
  | .tb2RevertTimeout _ => true
  | .ppsInEdge _ => true
  | .timeRefTimeout _ _ => true
  | .netLinkSettle _ _ => true
  | .timeCmpAllocReq _ _ => true
  | .timeCmpAllocFree _ _ _ => true
  | .timeCmpFire _ _ => true
  | .timePulseEnd _ _ => true
  | .ppsOutSecond _ => true
  | .ppsOutWidthEnd _ => true
  | .timeCaptureEdge _ _ _ => true
  | .timeCapFnsRead _ _ => true
  | .timeCtlSnap _ _ => true
  | .timeCtlSetTb3 _ _ => true
  | .timeCtlSetTb2 _ _ => true
  | .trafDeTimeout _ _ => true
  | .trafEgressDone _ _ => true
  | .trafHistSample _ => true
  | .trafCtlClearCnt _ _ => true
  | .trafCtlClearHist _ _ => true
  | .chainDataBlock _ _ block => block.length == 32
  | .chainAck _ _ seq => seq < 65536
  | .chainNak _ _ seq => seq < 65536
  | .chainAckDue _ _ => true
  | .chainTrainBlock _ _ block => block.length == 32
  | .chainTimeBlock _ _ block => block.length == 32
  | .chainTimeDue _ _ => true
  | .chainHeldTimeout _ _ => true
  | .chainRegisterWrite _ _ packet => packet.length % 4 == 0
  | .chainCommit _ _ packet => packet.length % 4 == 0
  | .chainModeCommand _ _ packet => packet.length % 4 == 0
  | .chainLatchDigest _ _ packet => packet.length % 4 == 0
  | .chainPlyOff _ _ packet => packet.length % 4 == 0
  | .chainJoinFrame _ _ packet => packet.length % 4 == 0
  | .chainSkeinRecord _ _ packet => packet.length % 4 == 0
  | .chainSignedObject _ _ packet => packet.length % 4 == 0
  | .chainJoinState _ _ packet => packet.length % 4 == 0
  | .digestTimeout _ => true
  | .heartbeatDue _ => true
  | .chainHbBlock _ _ block => block.length == 32
  | .heartbeatDatagram _ _ _ => true
  | .hbPathTimeout _ _ => true
  | .partnerFailTimeout _ => true
  | .yieldCheck _ => true
  | .irefTakeupTimeout _ => true
  | .chainCtlJoin _ _ => true
  | .chainCtlHandback _ _ => true
  | .chainCtlTake _ _ => true
  | .chainCtlYield _ _ => true
  | .chainCtlClear _ _ => true
  | .hlthSensorRound _ readings => readings.length == 33
  | .hbmStackSensorRead _ sensors => sensors.length == 2
  | .hlthRoundOverdue _ => true
  | .hlthOndemandRead _ readings => readings.length == 34
  | .throttleStep2Timeout _ => true
  | .throttleReleaseTimeout _ => true
  | .avsStep _ => true
  | .avsResponse _ _ => true
  | .calMeasureDone _ _ _ => true
  | .calMeasureTimeout _ _ => true
  | .ageingMeasure _ _ => true
  | .hlthCtlRead _ _ => true
  | .hlthCtlRestore _ _ => true
  | .hlthCtlReplan _ _ => true
  | .hlthReplanDone _ _ => true
  | .hlthCtlClearSuspect _ _ => true
  | .evtRingEnable _ _ _ => true
  | .evtTailWrite _ _ _ => true
  | .evtRingWriteError _ slot _ => slot < 2 ^ 16
  | .msixIntervalEnd _ _ => true
  | .ref10mInputReturn _ => true
  | .prbsCheckerLock _ _ => true
  | .prbsCheckerLockLoss _ _ => true
  | .gpioInputChange _ _ _ => true
  | .msixVectorUnmask _ _ => true
  | .shapedQueueEligible _ _ _ => true
  | .tracePacketSent _ => true
  | .stripRefreshPeriodStart _ => true

end Sys2Proof
end

