-- ==== Sys2Proof/Certificates/Slice0/Obligations.lean ====
section
/-! DEFINITION.  The statements for the provers.  In each, `u` is the state in which the command finds the device: `s` with the
clock at the command's cycle and the events of earlier cycles delivered. -/

open Sys2Proof Sys2Proof.Machine

/-! ## The block and its queue -/

/-- A step carries out the command at the front of the queue on the state with the queue's rest; with no command waiting one cycle
of the control clock passes (log entry 1). -/
def Obligations.StepRunsTheFrontCommand : Prop :=
  (∀ (s : State) (c : Instr) (rest : List Instr), s.pending = c :: rest → step s = exec c { s with pending := rest }) ∧
  (∀ s : State, s.pending = [] → step s = .next (s.advance (s.now + 1)))

/-- Every command completes, in every state and with every operand: `exec` answers a next state for it, whose clock stands at the
command's cycle or where it was if that is later, and whose queue is as it was. What each command does is said command by
command in the statements below. No step ends in a fault or a refusal: every command has an outcome in every state. Over every
step the clock does not go back, and the queue loses its front command and nothing else. -/
def Obligations.EveryStepAnswersAndTakesOneCommand : Prop :=
  (∀ (i : Instr) (s : State), ∃ n : State, exec i s = .next n ∧ n.now = max s.now i.cycle ∧ n.pending = s.pending) ∧
  (∀ s : State, Answers (step s)) ∧
  (∀ s n : State, step s = .next n → s.now ≤ n.now ∧ n.pending = s.pending.tail)

/-- Registers, HBM content, lost blocks and source tags stay in their one form over every step, from any state that has it. -/
def Obligations.StepKeepsTheCanonicalForm : Prop :=
  ∀ s n : State, s.canonical = true → step s = .next n → n.canonical = true

/-- The state after reset has the canonical form. -/
def Obligations.ResetIsCanonical : Prop := State.reset.canonical = true

/-! ## Register writes, expert pages, the reduced service, the fabric -/

/-- An accepted write of GLB_EXPERT unlocks the expert pages with the key 0x4B4E_4954 and locks them with any other value; nothing
else changes (R22). -/
def Obligations.ExpertKeyUnlocksThePages : Prop :=
  ∀ (t : Nat) (req : Requester) (w : Word) (s u : State), s.advance t = u → u.accepts req Reg.GLB_EXPERT w →
    exec (.glbExpertWrite t req w) s = .next (u.setBit Reg.GLB_EXPERT_STAT 0 (decide (w = 0x4B4E4954)))

/-- An accepted write of a formatter register that applies at a commit waits, replacing an earlier write of the same register; an
accepted write of a Hank register that applies at once changes the bits that the register has, and no other register; a write of
an RO register of the Hank block or the formatter is accepted and changes nothing (R6, R7, R110). -/
def Obligations.AcceptedWritesWaitOrApply : Prop :=
  (∀ (t : Nat) (req : Requester) (a : Nat) (w : Word) (s u : State), s.advance t = u → u.alone →
    blockOf a = 7 → (findReg a).any (fun d => d.access == .rws && d.applies == .atCommit) = true → u.accepts req a w →
    exec (.registerWrite t req a 4 w) s = .next { u with rws := putWrite u.rws ⟨a, w &&& writeMask a, u.now, req⟩ }) ∧
  (∀ (t : Nat) (req : Requester) (a : Nat) (w : Word) (s u : State), s.advance t = u →
    blockOf a = 12 → a ≠ Reg.HANK_JOB_SUBMIT → (findReg a).any (fun d => d.access == .rw && d.applies == .atOnce) = true → u.accepts req a w →
    exec (.registerWrite t req a 4 w) s = .next (u.setReg a ((u.reg a &&& ~~~writeMask a) ||| (w &&& writeMask a)))) ∧
  (∀ (t : Nat) (req : Requester) (a : Nat) (w : Word) (s u : State), s.advance t = u → u.alone →
    (blockOf a = 7 ∨ blockOf a = 12) → (findReg a).any (fun d => d.access == .ro) = true → u.accepts req a w →
    exec (.registerWrite t req a 4 w) s = .next u)

/-- A write of any size that a cause of Table 20-2 refuses does what its first cause says, which is to raise at most one event, and
leaves every register but the count of early accesses as it was (R9, R424). A write with a reserved or out-of-range encoding is
refused as a whole: every register keeps its value and WRITE_REFUSED names the register's address (R9). -/
def Obligations.RefusedWritesChangeNoRegister : Prop :=
  (∀ (t : Nat) (req : Requester) (a size : Nat) (w : Word) (c : Cause) (s u : State), s.advance t = u →
      writeCause u req a size w = some c →
      ∃ n : State, exec (.registerWrite t req a size w) s = .next n ∧ n = u.refuse req a w c ∧ SameRegs u n [Reg.CLKRST_EARLY_CNT] ∧
        n.rws = u.rws ∧ n.atMode = u.atMode ∧ n.hbm = u.hbm ∧ n.lanes = u.lanes ∧ n.raised.length ≤ u.raised.length + 1) ∧
  (∀ (t : Nat) (req : Requester) (a : Nat) (w : Word) (s u : State), s.advance t = u → a % 4 = 0 →
      writeCause u req a 4 w = some .encoding →
      exec (.registerWrite t req a 4 w) s = .next (u.raise Ev.WRITE_REFUSED [a, 1, req.code, w.toNat]))

/-- Before READY a data-port access is refused and counted, and reported unless an EARLY_ACCESS was raised within the last
millisecond; a refused read returns all ones (R65). -/
def Obligations.EarlyDataPortAccessIsCounted : Prop :=
  ∀ (t off : Nat) (wr : Bool) (s u : State), s.advance t = u → u.endpointOn = true → u.ready = false →
    ∃ n : State, exec (.earlyHostAccess t 2 off wr) s = .next n ∧
      n.fld Reg.CLKRST_EARLY_CNT 0 16 = min 65535 (u.fld Reg.CLKRST_EARLY_CNT 0 16 + 1) ∧
      SameRegs u n [Reg.CLKRST_EARLY_CNT] ∧
      (limited u.caston.earlyAt (ms 1) u.now = true → n.raised = u.raised) ∧
      (limited u.caston.earlyAt (ms 1) u.now = false →
        n.raised = (u.raise Ev.EARLY_ACCESS [2, off, u.caston.earlySuppressed]).raised ∧ n.caston.earlyAt = some u.now) ∧
      n.outbox = if wr then u.outbox else u.outbox ++ [.completion [0xFF, 0xFF, 0xFF, 0xFF]]

/-- The first and the second parity error of a transfer that its hop still replays are counted in REPLAYS and remembered; the third
raises FABRIC_UNCORR, is recorded in GLB_FABRIC_LAST and counted in UNCORR, here for a register write (class 0x3), which is then
not applied, and a register read (class 0x2), which returns all ones; CLEAR clears both counts; the cause FABRIC_CRITICAL ends
at the cycle that its last raise set (R19 to R21, Table 1-4). -/
def Obligations.FabricErrorsAreReplayedThenReported : Prop :=
  (∀ (t hop cls tr addr v st k : Nat) (e : List Byte) (s u : State), s.advance t = u → u.failuresOf hop tr = k → k < 2 →
    ∃ n : State, exec (.fabricParityError t hop cls tr addr v st e) s = .next n ∧ n.failuresOf hop tr = k + 1 ∧
      n.fld Reg.GLB_FABRIC_CNT 0 16 = min 65535 (u.fld Reg.GLB_FABRIC_CNT 0 16 + 1) ∧
      n.fld Reg.GLB_FABRIC_CNT 16 16 = u.fld Reg.GLB_FABRIC_CNT 16 16 ∧
      SameRegs u n [Reg.GLB_FABRIC_CNT] ∧ n.raised = u.raised ∧ n.outbox = u.outbox ∧ n.hbm = u.hbm) ∧
  (∀ (t hop cls tr addr v st : Nat) (e : List Byte) (s u : State), s.advance t = u → cls = 2 ∨ cls = 3 →
    u.failuresOf hop tr = 2 → u.fabric.uncorr.length < 15 →
    ∃ n : State, exec (.fabricParityError t hop cls tr addr v st e) s = .next n ∧ n.failuresOf hop tr = 0 ∧
      n.fld Reg.GLB_FABRIC_CNT 16 16 = min 65535 (u.fld Reg.GLB_FABRIC_CNT 16 16 + 1) ∧
      n.fld Reg.GLB_FABRIC_CNT 0 16 = u.fld Reg.GLB_FABRIC_CNT 0 16 ∧
      n.fld Reg.GLB_FABRIC_LAST 0 8 = hop % 256 ∧ n.fld Reg.GLB_FABRIC_LAST 8 4 = cls ∧
      SameRegs u n [Reg.GLB_FABRIC_CNT, Reg.GLB_FABRIC_LAST] ∧
      n.raised = (u.raise Ev.FABRIC_UNCORR [hop, cls, addr]).raised ∧
      n.outbox = if cls = 2 then u.outbox ++ [.completion [0xFF, 0xFF, 0xFF, 0xFF]] else u.outbox) ∧
  (∀ (t : Nat) (req : Requester) (w : Word) (s u : State), s.advance t = u → u.accepts req Reg.GLB_FABRIC_CTL w → w.bit 0 = true →
    exec (.fabricCtlClear t req w) s = .next (u.setReg Reg.GLB_FABRIC_CNT 0)) ∧
  (∀ (t e : Nat) (s u : State), s.advance t = u → u.fabric.criticalEnd = some e → e ≤ u.now →
    ∃ n : State, exec (.fabricCriticalCauseExpiry t) s = .next n ∧ n.bit Reg.GLB_MODE_SAFE 17 = false ∧
      SameRegs u n [Reg.GLB_MODE_SAFE] ∧ n.raised = u.raised)

/-! ## Modes -/

/-- RESET and CAST-ON as targets are refused as ILLEGAL, reason 0x1, in every mode (R30, Table 2-8). A SAFE command in a delivering
mode with a running cadence and no transition in progress records the cause HOST, locks the expert pages, shows SAFE as the
target with BUSY, and darkens the frame; SERVICE from IDLE is accepted with its domains switched at once (R22, R33, Table 2-4). -/
def Obligations.ModeCommandsRefusedOrAtOnce : Prop :=
  (∀ (t seq : Nat) (s u : State), s.advance t = u → takesCommand u Mode.RESET true seq →
    exec (.modeCmdReset t seq) s =
      .next ((u.raise Ev.MODE_REFUSED [Mode.RESET, 1, 0, seq % 256, 0]).setLast (seq % 256) 2 0)) ∧
  (∀ (t seq : Nat) (s u : State), s.advance t = u → takesCommand u Mode.CAST_ON true seq →
    exec (.modeCmdCastOn t seq) s =
      .next ((u.raise Ev.MODE_REFUSED [Mode.CAST_ON, 1, 0, seq % 256, 0]).setLast (seq % 256) 2 0)) ∧
  (∀ (t seq : Nat) (loc : Bool) (s u : State), s.advance t = u → u.alone → isDelivering u.modeCode = true → u.cadenceRuns = true →
    u.mode.cur = none → takesCommand u Mode.SAFE loc seq →
    ∃ n : State, exec (.modeCmdSafe t loc seq) s = .next n ∧ n.busy = true ∧ n.fld Reg.GLB_MODE_STAT 4 4 = Mode.SAFE ∧
      n.modeCode = u.modeCode ∧ n.fld Reg.GLB_MODE_SAFE 0 8 = 6 ∧ n.bit Reg.GLB_MODE_SAFE 29 = true ∧
      n.bit Reg.GLB_EXPERT_STAT 0 = false ∧ SameRegs u n [Reg.GLB_MODE_STAT, Reg.GLB_MODE_SAFE, Reg.GLB_EXPERT_STAT] ∧
      n.hbm = u.hbm) ∧
  (∀ (t seq : Nat) (loc : Bool) (s u v : State), s.advance t = u → u.alone → u.modeCode = Mode.IDLE →
    takesCommand u Mode.SERVICE loc seq →
    (({ u with mode := { u.mode with cur := some (hostTransition u Mode.SERVICE loc seq .latch) } }).setTarget
      Mode.SERVICE true).retarget.wakeHbm = v →
    exec (.modeCmdService t loc seq) s = .next (({ v with mode := { v.mode with serviceSafe := false } }).towards Mode.SERVICE))

/-- From a delivering mode, a command to another delivering mode or to IDLE whose preconditions hold is accepted: TARGET and BUSY
are set, TARGET of a pending GO follows the boundary, the mode stays until then, and nothing else changes (R29, R42, R171). From
a delivering mode, an accepted command to DEEP, STRIP or BIND-OFF passes through BIND-OFF: it waits for the boundary that
latches the black frame (R31). -/
def Obligations.CommandsFromADeliveringMode : Prop :=
  (∀ (t seq tgt : Nat) (loc : Bool) (i : Instr) (s u : State), s.advance t = u →
      (i, tgt) ∈ [(Instr.modeCmdIdle t loc seq, Mode.IDLE), (.modeCmdPreview t loc seq, Mode.PREVIEW), (.modeCmdShow t loc seq, Mode.SHOW),
        (.modeCmdLive t loc seq, Mode.LIVE), (.modeCmdSwatch t loc seq, Mode.SWATCH)] →
      u.alone → isDelivering u.modeCode = true → tgt ≠ u.modeCode → u.precondition u.modeCode tgt = 0 →
      takesCommand u tgt loc seq →
      exec i s = .next ((({ u with mode := { u.mode with cur := some (hostTransition u tgt loc seq .latch) } }).setTarget tgt true).retarget)) ∧
  (∀ (t seq tgt : Nat) (loc : Bool) (i : Instr) (s u : State), s.advance t = u →
      (i, tgt) ∈ [(Instr.modeCmdDeep t loc seq, Mode.DEEP), (.modeCmdStrip t loc seq, Mode.STRIP), (.modeCmdBindOff t loc seq, Mode.BIND_OFF)] →
      u.alone → isDelivering u.modeCode = true → u.precondition u.modeCode tgt = 0 → takesCommand u tgt loc seq →
      exec i s = .next ((({ u with mode := { u.mode with cur := some (hostTransition u tgt loc seq .bindLatch) } }).setTarget tgt true).retarget))

/-- A timed transition whose domains are switched is over with MODE_TRANSITION_DONE: the mode is the target, BUSY is clear,
LAST_RESULT reports completion and MODE_ENTERED names target, origin, sequence number and source (R28, R30). -/
def Obligations.TransitionsCompleteInTheirTarget : Prop :=
  ∀ (t : Nat) (tr : Transition) (s u : State), s.advance t = u → u.mode.cur = some tr → u.transitionReady tr = true →
    tr.target ∈ [Mode.DEEP, Mode.STRIP, Mode.BIND_OFF, Mode.IDLE, Mode.SERVICE, Mode.SAFE] →
    ∃ n : State, exec (.modeTransitionDone t) s = .next n ∧ n.modeCode = tr.target ∧ n.busy = false ∧ n.mode.cur = none ∧
      n.fld Reg.GLB_MODE_STAT 24 4 = 1 ∧
      ∃ e : Event, e ∈ n.raised ∧ e.code = Ev.MODE_ENTERED ∧ e.args = [tr.target, tr.frm, tr.seq, tr.source].map (· % 2 ^ 32)

/-! ## Power domains and resets -/

/-- After IDLE_TIME in IDLE without an access the stack enters self-refresh, and a started exit ends it; content and events stay
(R35, R36). Domains switch on one after another: a start 25 µs or more after the last one sets the 200 µs limit for power good;
power good in time turns the domain on (for domains that hold no block and no lane nothing else changes); a missed power good is
DOMAIN_FAIL, FAIL_DOMAIN and SAFE cause 0x5 (R37, Table 2-4). -/
def Obligations.DomainsAndSelfRefresh : Prop :=
  (∀ (t : Nat) (s u : State), s.advance t = u → u.bit Reg.PWR_HBM_POLICY 0 = true → u.modeCode = Mode.IDLE → u.busy = false →
    u.selfRefresh = false → u.power.hbmIdleSince + ms (u.fld Reg.PWR_HBM_POLICY 16 16) ≤ u.now →
    ∃ n : State, exec (.hbmAutoSelfRefresh t) s = .next n ∧ n.selfRefresh = true ∧ n.bit Reg.HBM_STAT 1 = true ∧
      SameRegs u n [Reg.GLB_MODE_STAT, Reg.HBM_STAT] ∧ n.hbm.mem = u.hbm.mem ∧ n.raised = u.raised ∧ n.modeCode = u.modeCode) ∧
  (∀ (t : Nat) (s u : State), s.advance t = u → u.power.srExit = true → u.selfRefresh = true → u.domainOn 55 = true →
    u.hbm.retimeLater = false → u.dport.period = none →
    ∃ n : State, exec (.hbmSrExitDone t) s = .next n ∧ n.selfRefresh = false ∧ n.bit Reg.HBM_STAT 1 = false ∧
      n.power.srExit = false ∧ SameRegs u n [Reg.GLB_MODE_STAT, Reg.HBM_STAT] ∧ n.hbm.mem = u.hbm.mem ∧ n.raised = u.raised ∧
      n.modeCode = u.modeCode) ∧
  (∀ (t d : Nat) (ds : List Nat) (s u : State), s.advance t = u → u.power.queue = d :: ds →
    limited u.power.lastStart (us 25) u.now = false →
    ∃ n : State, exec (.domainSwitchOnStart t) s = .next n ∧ n.power.queue = ds ∧ n.power.lastStart = some u.now ∧
      n.power.rising = u.power.rising ++ [(d, u.now + us 200)] ∧ n.bit Reg.PWR_SEQ_STAT 0 = true ∧ SameRegs u n [Reg.PWR_SEQ_STAT] ∧
      n.raised = u.raised) ∧
  (∀ (t due : Nat) (d : Fin 80) (s u : State), s.advance t = u →
    (u.power.rising.find? fun r => r.1 == d.val) = some (d.val, due) → u.now ≤ due →
    ∃ n : State, exec (.domainPowerGood t d) s = .next n ∧ n.domainOn d = true ∧
      n.power.rising = (u.power.rising.filter fun r => r.1 != d.val) ∧
      (d.val ∈ [1, 69, 70, 79] →
        SameRegs u n [Reg.PWR_SEQ_STAT, Reg.PWR_DOMAIN_STAT0, Reg.PWR_DOMAIN_STAT0 + 8] ∧ n.raised = u.raised)) ∧
  (∀ (t due : Nat) (d : Fin 80) (s u : State), s.advance t = u →
    (u.power.rising.find? fun r => r.1 == d.val) = some (d.val, due) → due ≤ u.now → u.modeCode = Mode.CAST_ON →
    (u.sameCycle fun i => match i with
      | .domainPowerGood _ k => k == d
      | _ => false) = false →
    ∃ n : State, exec (.domainPowerGoodTimeout t d) s = .next n ∧ n.fld Reg.PWR_SEQ_STAT 8 7 = d.val ∧
      n.bit Reg.GLB_MODE_SAFE 20 = true ∧ n.bit Reg.GLB_MODE_SAFE 28 = true ∧ 5 ∈ n.caston.causes ∧
      n.raised = (u.raise Ev.DOMAIN_FAIL [d, Mode.CAST_ON, u.fld Reg.GLB_MODE_STAT 4 4]).raised ∧
      SameRegs u n [Reg.PWR_SEQ_STAT, Reg.GLB_MODE_SAFE])

/-- A source of a whole-device reset that finds none in force puts the device in RESET with every register at its reset value but
CLKRST_CAUSE and CLKRST_RESET_CNT: mode RESET, HBM content and queued events gone, the stack's size as the part has it, OTP and
journals kept where no burn or entry is in progress; each source sets its bit of CLKRST_CAUSE, POR clears the others, and all
but POR count (R44 to R47, Table 3-8). When the only source in force ends, the straps are sampled and CAST-ON starts, as the
mode and as the target; a reset pulse ends 100 µs after its start (R44, R45, R60, R61). With another source in force, a source
that ends leaves the device in RESET; the thermal trip's output goes high (R45, R443). -/
def Obligations.ResetSourcesAndCastOn : Prop :=
  (∀ (t rail : Nat) (core : Fin 2) (req : Requester) (i : Instr) (bit : Nat) (s u : State), s.advance t = u → u.rst.active = [] →
      (i, bit) ∈ [(Instr.por t, 0), (.rstNRecognised t, 1), (.watchdogExpiry t core, 3 + core.val), (.softwareReset t req 0x43415354, 5),
        (.thermalTrip t, 6), (.supplyFault t rail, 7)] →
      (bit = 5 → u.accepts req Reg.CLKRST_SW_RESET 0x43415354) →
      ∃ n : State, exec i s = .next n ∧ n.modeCode = Mode.RESET ∧ n.bit Reg.CLKRST_CAUSE bit = true ∧
        n.fld Reg.CLKRST_RESET_CNT 0 16 = (if bit = 0 then 0 else min 65535 (u.fld Reg.CLKRST_RESET_CNT 0 16 + 1)) ∧
        (bit = 0 → n.nat Reg.CLKRST_CAUSE = 1) ∧ n.rst.active.length = 1 ∧
        (∀ a : Nat, a ∉ [Reg.CLKRST_CAUSE, Reg.CLKRST_RESET_CNT, Reg.GLB_MODE_STAT] →
          (u.part ≠ .c16 ∨ a ∉ [Reg.HBM_ORG, Reg.HBM_USABLE, Reg.PLY_VENUE_AREA_LO, Reg.PLY_VENUE_AREA_HI]) → n.reg a = resetWord a) ∧
        n.fld Reg.HBM_ORG 16 10 = n.pagesPerPc ∧ n.slots = 15 ∧ n.rowsUse = n.pagesPerPc ∧
        n.hbm.mem = [] ∧ n.raised = [] ∧ n.rws = [] ∧ n.atMode = [] ∧ n.evt = State.reset.evt ∧
        (u.sec.run = none → u.sec.leaf = none → u.sec.venueJournal = [] →
          n.sec.journalA = u.sec.journalA ∧ n.sec.journalB = u.sec.journalB ∧ n.sec.otp = u.sec.otp) ∧ n.pending = u.pending ∧
        ((bit = 3 ∨ bit = 4 ∨ bit = 5) → n.rst.pulseEnd = some (u.now + us 100)) ∧ (bit = 6 → n.pins.thermTrip = true) ∧
        (bit = 7 → n.fld Reg.CLKRST_CAUSE 16 4 = rail % 16)) ∧
  (∀ (t : Nat) (i : Instr) (src : ResetSource) (s u : State), s.advance t = u →
      (i, src) ∈ [(Instr.powerGood t, ResetSource.por), (.rstNReleased t, .pin), (.resetPulseEnd t, .wdog), (.resetPulseEnd t, .soft),
        (.thermalTripClear t, .therm), (.supplyRecovered t, .supply)] →
      u.rst.active = [src] → u.pins.testMode = false → (src = .wdog ∨ src = .soft → (u.rst.pulseEnd.any fun c => decide (c ≤ u.now)) = true) →
      ∃ n : State, exec i s = .next n ∧ n.modeCode = Mode.CAST_ON ∧ n.fld Reg.GLB_MODE_STAT 4 4 = Mode.CAST_ON ∧ n.busy = false ∧
        n.rst.active = [] ∧ n.rst.endedAt = u.now ∧ n.power.queue = [1, 2, 3, 52, 78] ∧
        n.fld Reg.CLKRST_STRAP 0 3 = u.pins.chainId % 8 ∧ n.fld Reg.CLKRST_STRAP 4 3 = u.pins.chainId % 8 ∧
        (src = .therm → n.pins.thermTrip = false) ∧ n.raised = u.raised ∧
        SameRegs u n [Reg.GLB_MODE_STAT, Reg.CLKRST_STRAP, Reg.PWR_SEQ_STAT]) ∧
  (∀ (t : Nat) (i : Instr) (src other : ResetSource) (s u : State), s.advance t = u →
      (i, src) ∈ [(Instr.powerGood t, ResetSource.por), (.rstNReleased t, .pin), (.thermalTripClear t, .therm), (.supplyRecovered t, .supply)] →
      other ∈ u.rst.active → other ≠ src →
      exec i s = .next { u with rst := { u.rst with active := u.rst.active.filter (· != src) },
                                pins := { u.pins with thermTrip := u.pins.thermTrip && src != .therm } })

/-! ## PERST, wake, block reset, the flash interface, cast-on -/

/-- In DEEP, WAKE_N or the release of PERST starts CAST-ON toward WAKE_TARGET when its enable is set (R41); PERST sets its cause
bit, locks the expert pages, masks the MSI-X vectors, returns the data-port and DMA registers to their reset values and loses no
content where no channel runs, and the link that comes up after READY reports the speed and width it settles at (R48). A block
reset of an idle block starts and shows its code with BUSY; of a block that is not idle it is refused with BLOCK_BUSY and
REFUSED and changes nothing else; its end clears BUSY when no other one runs (R49 to R51, Table 3-8). -/
def Obligations.PerstWakeAndBlockResets : Prop :=
  (∀ (t k : Nat) (i : Instr) (s u : State), s.advance t = u → (i, k) ∈ [(Instr.wakeNAsserted t, 8), (.pciePerstReleased t, 9)] →
    u.modeCode = Mode.DEEP → u.bit Reg.PWR_DEEP_CFG k = true →
    ∃ n : State, exec i s = .next n ∧ n.modeCode = Mode.CAST_ON ∧ n.caston.wakeTarget = some (u.fld Reg.PWR_DEEP_CFG 0 4) ∧
      n.nat Reg.CLKRST_CASTON_STAT = 0 ∧ n.nat Reg.CLKRST_OPT_STAT = 0 ∧ n.bit Reg.GLB_CLK_STAT 0 = false ∧
      n.rst.endedAt = u.now ∧ n.power.queue = [1, 2, 3, 52, 78] ∧ n.raised = u.raised ∧ n.hbm.mem = u.hbm.mem ∧
      SameRegs u n [Reg.GLB_MODE_STAT, Reg.CLKRST_CASTON_STAT, Reg.CLKRST_OPT_STAT, Reg.GLB_CLK_STAT, Reg.PWR_SEQ_STAT]) ∧
  (∀ (t : Nat) (s u : State), s.advance t = u → u.modeCode ≠ Mode.DEEP →
    exec (.pciePerstReleased t) s = .next { u with rst := { u.rst with perst := false } }) ∧
  (∀ (t : Nat) (l : List (Nat × List Byte)) (s u : State), s.advance t = u →
    ∃ n : State, exec (.pciePerstAsserted t l) s = .next n ∧ n.rst.perst = true ∧ n.bit Reg.CLKRST_CAUSE 2 = true ∧
      n.bit Reg.GLB_EXPERT_STAT 0 = false ∧ n.evt.vecMask = 0xFFFFFFFF ∧ n.evt.pba = 0 ∧ n.dport.prefetch = [] ∧
      (∀ a : Nat, Reg.DPORT_PTR_LO 0 ≤ a → a < Reg.DPORT_PTR_LO 4 → n.reg a = resetWord a) ∧
      (∀ a : Nat, Reg.DPORT_DMA_RING_LO 0 ≤ a → a < Reg.DPORT_DMA_RING_LO 4 → n.reg a = resetWord a) ∧
      n.modeCode = u.modeCode ∧
      ((∀ c : Nat, c < 4 → u.bit (Reg.DPORT_DMA_STAT c) 0 = false) → n.hbm = u.hbm ∧ n.raised = u.raised)) ∧
  (∀ (t v w : Nat) (s u : State), s.advance t = u → u.endpointOn = true → u.caston.pcieSpeed = 0 → u.ready = true → u.halted = false →
    3 ≤ u.fld Reg.CLKRST_CASTON_STAT 0 4 →
    ∃ n : State, exec (.endpointReset t v w) s = .next n ∧ n.caston.pcieSpeed = min v (u.caston.opts.pcieCfg % 8) ∧
      n.caston.pcieWidth = min w u.caston.opts.pcieLanes ∧
      RaisedBy u n [(Ev.ENDPOINT_RESET, [n.caston.pcieSpeed % 2 ^ 32, n.caston.pcieWidth % 2 ^ 32])] ∧ SameRegs u n []) ∧
  (∀ (t : Nat) (req : Requester) (w : Word) (s u : State), s.advance t = u → u.accepts req Reg.CLKRST_BLOCK_RESET w →
    u.blockIdle (w.field 0 6) = true →
    ∃ n : State, exec (.blockReset t req w) s = .next n ∧ (w.field 0 6, u.now) ∈ n.rst.blocks ∧
      n.fld Reg.CLKRST_BLOCK_STAT 0 6 = w.field 0 6 ∧ n.bit Reg.CLKRST_BLOCK_STAT 6 = true ∧ n.bit Reg.CLKRST_BLOCK_STAT 7 = false ∧
      n.raised = u.raised) ∧
  (∀ (t : Nat) (req : Requester) (w : Word) (s u : State), s.advance t = u → u.accepts req Reg.CLKRST_BLOCK_RESET w →
    u.blockIdle (w.field 0 6) = false →
    ∃ n : State, exec (.blockReset t req w) s = .next n ∧ n.fld Reg.CLKRST_BLOCK_STAT 0 6 = w.field 0 6 ∧
      n.bit Reg.CLKRST_BLOCK_STAT 7 = true ∧ n.rst = u.rst ∧ SameRegs u n [Reg.CLKRST_BLOCK_STAT] ∧
      n.raised = (u.raise Ev.BLOCK_BUSY [w.field 0 6, 1, Reg.CLKRST_BLOCK_RESET]).raised) ∧
  (∀ (t code at_ : Nat) (s u : State), s.advance t = u → u.rst.blocks = [(code, at_)] →
    ∃ n : State, exec (.blockResetDone t code) s = .next n ∧ n.rst.blocks = [] ∧ n.bit Reg.CLKRST_BLOCK_STAT 6 = false ∧
      SameRegs u n [Reg.CLKRST_BLOCK_STAT] ∧ n.raised = u.raised)

/-- A pulse or an erase that a reset caught goes on: when the pulse ends, or the erase reads suspended within 50 µs, the flash
interface enters reset; after 50 µs without suspension it does so as well and CLKRST_CAUSE bit 8 is set (R54, R55). The root
PLL's lock starts the option loader with the reset sequence to flash A; a status read that shows the flash ready starts the read
of its block; an attempt that fails before the last one is counted, with its error, and the next attempt starts, on flash B from
the fourth; a valid block ends the loader with its options applied, and with OPTION_FALLBACK where it came from flash B; the
last failing attempt applies the OTP copy and records SAFE cause 0x3 (R56 to R60). -/
def Obligations.FlashAndOptionLoader : Prop :=
  (∀ (t c : Nat) (s u : State), s.advance t = u → u.pulses = false → u.rst.flashPulse = some c →
    exec (.flashPulseEnd t) s =
      .next { u with rst := { u.rst with flashPulse := none, erase := none, flashInReset := u.beforeLoader } }) ∧
  (∀ (t c : Nat) (e : EraseState) (s u : State), s.advance t = u → u.rst.erase = some e → e.suspendAt = some c → u.now ≤ c + us 50 →
    exec (.eraseSuspendPoll t true) s =
      .next { u with rst := { u.rst with flashPulse := none, erase := none, flashInReset := u.beforeLoader } } ∧
    exec (.eraseSuspendPoll t false) s = .next u) ∧
  (∀ (t c : Nat) (e : EraseState) (s u : State), s.advance t = u → u.rst.erase = some e → e.suspendAt = some c → c + us 50 ≤ u.now →
    (u.sameCycle fun i => match i with
      | .eraseSuspendPoll _ x => x
      | _ => false) = false →
    ∃ n : State, exec (.eraseSuspendTimeout t) s = .next n ∧ n.rst.erase = none ∧ n.bit Reg.CLKRST_CAUSE 8 = true ∧
      n.rst.flashInReset = u.beforeLoader ∧ SameRegs u n [Reg.CLKRST_CAUSE] ∧ n.raised = u.raised) ∧
  (∀ (t : Nat) (s u : State), s.advance t = u → u.atStep 0 = true → u.bit Reg.GLB_CLK_STAT 0 = false →
    ∃ n : State, exec (.rootPllLock t) s = .next n ∧ n.bit Reg.GLB_CLK_STAT 0 = true ∧ n.castStep = 1 ∧ n.caston.attempt = some 0 ∧
      n.caston.attemptStart = u.now ∧ n.outbox = u.outbox ++ [.flash 0 0x66 0 0, .flash 0 0x99 0 0] ∧ n.rst.flashInReset = false) ∧
  (∀ (t k : Nat) (s u : State), s.advance t = u → u.caston.attempt = some k → u.atStep 1 = true → u.caston.flashReady = false →
    u.caston.attemptStart + us 40 ≤ u.now →
    exec (.optionStatusPoll t false) s =
      .next { u with caston := { u.caston with flashReady := true }, outbox := u.outbox ++ [.flash (k / 3) 0x03 0 256] }) ∧
  (∀ (t k : Nat) (s u : State), s.advance t = u → u.caston.attempt = some k → k < 5 → u.atStep 1 = true → u.caston.flashReady = false →
    u.caston.attemptStart + us 340 ≤ u.now →
    ∃ n : State, exec (.optionStatusPoll t true) s = .next n ∧ n.caston.attempt = some (k + 1) ∧ n.caston.attemptStart = u.now ∧
      n.fld Reg.CLKRST_OPT_STAT 8 4 = 1 ∧ n.outbox = u.outbox ++ [.flash ((k + 1) / 3) 0x66 0 0, .flash ((k + 1) / 3) 0x99 0 0] ∧
      n.fld Reg.CLKRST_OPT_STAT (if k < 3 then 2 else 4) 2 = min 3 (u.fld Reg.CLKRST_OPT_STAT (if k < 3 then 2 else 4) 2 + 1) ∧
      SameRegs u n [Reg.CLKRST_OPT_STAT]) ∧
  (∀ (t k e : Nat) (b : List Byte) (s u : State), s.advance t = u → u.caston.attempt = some k → k < 5 → u.atStep 1 = true →
    u.caston.flashReady = true → optionError b u.sec.otp.trimRows = e → e ≠ 0 →
    ∃ n : State, exec (.optionBlockReadDone t b) s = .next n ∧ n.caston.attempt = some (k + 1) ∧
      n.fld Reg.CLKRST_OPT_STAT 8 4 = e % 16 ∧ SameRegs u n [Reg.CLKRST_OPT_STAT]) ∧
  (∀ (t k : Nat) (b : List Byte) (s u : State), s.advance t = u → u.caston.attempt = some k → k < 6 → u.atStep 1 = true →
    u.caston.flashReady = true → optionError b u.sec.otp.trimRows = 0 →
    ∃ n : State, exec (.optionBlockReadDone t b) s = .next n ∧ n.caston.opts = parseOptions b ∧ n.caston.attempt = none ∧
      n.castStep = 2 ∧ n.fld Reg.CLKRST_OPT_STAT 0 2 = (if k < 3 then 1 else 2) ∧ (k < 3 → n.raised = u.raised) ∧
      (3 ≤ k → n.raised = (u.raise Ev.OPTION_FALLBACK [2, u.fld Reg.CLKRST_OPT_STAT 2 2, u.fld Reg.CLKRST_OPT_STAT 4 2,
        u.fld Reg.CLKRST_OPT_STAT 8 4]).raised)) ∧
  (∀ (t e : Nat) (b : List Byte) (s u : State), s.advance t = u → u.caston.attempt = some 5 → u.atStep 1 = true →
    u.caston.flashReady = true → optionError b u.sec.otp.trimRows = e → e ≠ 0 →
    ∃ n : State, exec (.optionBlockReadDone t b) s = .next n ∧ n.caston.opts = u.sec.otp.optionCopy ∧ n.caston.attempt = none ∧
      n.castStep = 2 ∧ n.fld Reg.CLKRST_OPT_STAT 0 2 = 3 ∧ 3 ∈ n.caston.causes ∧ n.bit Reg.GLB_MODE_SAFE 26 = true)

/-- The firmware step halts cast-on when neither image passes and goes on to the pattern step with the one that passes, of two the
one of the higher GENERATION and A on a tie; the pattern step goes on whatever it finds, with SAFE cause 0x4 when no pattern
verifies; the HBM, calibration and panel steps end each in the next (R61 to R63, R470). Once the power-up sequence is over and
the target's domains are on, or a SAFE cause was recorded, READY completes cast-on with CASTON_DONE; a domain of the target that
is still off is asked for first (R61, R63). -/
def Obligations.CastOnRunsToReady : Prop :=
  (∀ (t : Nat) (a b : List Byte) (s u : State), s.advance t = u → u.atStep 2 = true →
    ∃ n : State, exec (.castonFwStep t a b) s = .next n ∧
      (u.fwChoice a u.caston.opts.fwA ≠ 0 → u.fwChoice b u.caston.opts.fwB ≠ 0 → n.halted = true ∧ n.castStep = 2) ∧
      (u.fwChoice a u.caston.opts.fwA = 0 → u.fwChoice b u.caston.opts.fwB ≠ 0 →
        n.castStep = 3 ∧ n.bit Reg.SEC_STAT 0 = false ∧ n.sec.fw = some (imageInfo a u.caston.opts.fwA)) ∧
      (u.fwChoice a u.caston.opts.fwA ≠ 0 → u.fwChoice b u.caston.opts.fwB = 0 →
        n.castStep = 3 ∧ n.bit Reg.SEC_STAT 0 = true ∧ n.sec.fw = some (imageInfo b u.caston.opts.fwB)) ∧
      (u.fwChoice a u.caston.opts.fwA = 0 → u.fwChoice b u.caston.opts.fwB = 0 →
        n.castStep = 3 ∧ n.bit Reg.SEC_STAT 0 = decide (leAt a 0x10 4 < leAt b 0x10 4))) ∧
  (∀ (t : Nat) (a b : PatternImage) (s u : State), s.advance t = u → u.atStep 3 = true →
    ∃ n : State, exec (.castonPatternStep t a b) s = .next n ∧ n.castStep = (if u.castTarget = Mode.STRIP then 5 else 4) ∧
      (u.patReason a u.caston.opts.patA ≠ 0 → u.patReason b u.caston.opts.patB ≠ 0 →
        n.sec.pat = none ∧ n.bit Reg.GLB_MODE_SAFE 27 = true ∧ 4 ∈ n.caston.causes)) ∧
  (∀ (t : Nat) (x : HbmTraining) (s u : State), s.advance t = u → u.atStep 4 = true → u.powerIdle = true →
    ∃ n : State, exec (.castonHbmStep t x) s = .next n ∧ n.castStep = 5) ∧
  (∀ (t : Nat) (s u : State), s.advance t = u → u.atStep 5 = true → u.powerIdle = true → u.calDone = true →
    ∃ n : State, exec (.castonCalStep t) s = .next n ∧ n.castStep = 6 ∧ n.chain.handshake = true) ∧
  (∀ (t : Nat) (s u : State), s.advance t = u → u.atStep 6 = true → u.powerIdle = true → u.panelDone = true →
    ∃ n : State, exec (.castonPanelStepEnd t) s = .next n ∧ n.castStep = 7) ∧
  (∀ (t : Nat) (s u : State), s.advance t = u → u.atStep 7 = true → u.powerIdle = true → u.fld Reg.EMIT_STAT 0 3 = 3 →
    (u.caston.causes ≠ [] ∨ u.missing u.castTarget = []) →
    ∃ n : State, exec (.castonReady t) s = .next n ∧ n = u.completeCaston ∧ n.ready = true ∧ n.castStep = 8 ∧
      ∃ e : Event, e ∈ n.raised ∧ e.code = Ev.CASTON_DONE) ∧
  (∀ s : State, s.setReady.ready = true ∧ s.setReady.castStep = 8 ∧
    s.setReady.nat Reg.CLKRST_CASTON_TIME = (s.now - s.rst.endedAt) / 400 % 2 ^ 32) ∧
  (∀ (t : Nat) (s u : State), s.advance t = u → u.atStep 7 = true → u.powerIdle = true → u.fld Reg.EMIT_STAT 0 3 = 3 →
    u.caston.causes = [] → u.missing u.castTarget ≠ [] →
    exec (.castonReady t) s = .next (u.askDomains (u.missing u.castTarget)))

/-! ## Security, the venue path, cues -/

/-- A security command that no reason of Table 4-3 refuses is accepted: SEC_CMD_STAT shows the operation, RUNNING and no result, and
what it captures is kept until it ends. With no venue command to serve first it starts: FLASH_ERASE and FLASH_PROGRAM go out to
the flash, ATTEST takes its leaf, and every page program or burn holds resets off; behind a venue command it waits, and nothing
goes out (R54, R74, R87, R90, R92, R94). A security command that a reason refuses raises SEC_REFUSED with it and shows it in
SEC_CMD_STAT; while another one runs, SEC_CMD_STAT stays (R74). A running command ends with its result in SEC_CMD_STAT and
SEC_CMD_DONE: an erase or a program with what the flash reports, a confirmation with the trial flag cleared and the generation
in both journals, an SVN advance with its counter burnt to the SVN of the image in use; an attestation goes on once its leaf is
journalled in at least one flash, and is refused when in neither (R79, R80, R87, R92, R94). -/
def Obligations.SecurityCommands : Prop :=
  (∀ (t op : Nat) (i : Instr) (req : Requester) (s u : State), s.advance t = u →
      (i, op) ∈ [(Instr.secCmdAttest t req, 1), (.secCmdFlashErase t req, 2), (.secCmdFlashProgram t req, 3), (.secCmdVerifyImage t req, 4),
        (.secCmdEnrollKey t req, 5), (.secCmdRevokeKey t req, 6), (.secCmdConfirmFw t req, 7), (.secCmdAdvanceFwSvn t req, 8),
        (.secCmdAdvancePatSvn t req, 9)] →
      u.accepts req Reg.SEC_CMD (Word.ofNat op) → u.secReason op = 0 →
      ∃ (n : State) (r : SecRun), exec i s = .next n ∧ n.sec.run = some r ∧ r.op = op ∧ r.flashAddr = u.reg Reg.SEC_FLASH_ADDR ∧
        r.len = u.fld Reg.SEC_LEN 0 27 ∧ r.started = u.sec.venueJob.isNone ∧ n.fld Reg.SEC_CMD_STAT 0 8 = op ∧
        n.bit Reg.SEC_CMD_STAT 8 = true ∧ n.fld Reg.SEC_CMD_STAT 12 4 = 0 ∧ n.fld Reg.SEC_CMD_STAT 16 8 = 0 ∧ n.raised = u.raised ∧
        n.hbm = u.hbm ∧ ((op ≠ 1 ∨ r.started = false) → SameRegs u n [Reg.SEC_CMD_STAT]) ∧
        (r.started = false → n.outbox = u.outbox ∧ n.rst = u.rst ∧ n.sec.leaf = u.sec.leaf ∧ n.sec.otp = u.sec.otp) ∧
        (r.started = true →
          (op = 1 → n.sec.leaf = some (u.fld Reg.SEC_LEAF_STAT 0 20, none)) ∧
          (op = 2 → n.outbox = u.outbox ++ [.flash ((u.reg Reg.SEC_FLASH_ADDR).field 31 1) 0x21
            ((u.reg Reg.SEC_FLASH_ADDR).field 0 27) (u.fld Reg.SEC_LEN 0 27)]) ∧
          (op = 3 → n.outbox = u.outbox ++ [.flash ((u.reg Reg.SEC_FLASH_ADDR).field 31 1) 0x12
            ((u.reg Reg.SEC_FLASH_ADDR).field 0 27) (u.fld Reg.SEC_LEN 0 27), .flashData r.stage]) ∧
          (op ∈ [1, 3, 5, 6, 7, 8, 9] → n.rst.flashPulse = some u.now))) ∧
  (∀ (t op : Nat) (i : Instr) (req : Requester) (s u : State), s.advance t = u →
      (i, op) ∈ [(Instr.secCmdAttest t req, 1), (.secCmdFlashErase t req, 2), (.secCmdFlashProgram t req, 3), (.secCmdVerifyImage t req, 4),
        (.secCmdEnrollKey t req, 5), (.secCmdRevokeKey t req, 6), (.secCmdConfirmFw t req, 7), (.secCmdAdvanceFwSvn t req, 8),
        (.secCmdAdvancePatSvn t req, 9)] →
      u.accepts req Reg.SEC_CMD (Word.ofNat op) → u.secReason op ≠ 0 →
      (u.bit Reg.SEC_CMD_STAT 8 = true → exec i s = .next (u.raise Ev.SEC_REFUSED [op, 0x21])) ∧
      (u.bit Reg.SEC_CMD_STAT 8 = false →
        exec i s = .next ((u.setNat Reg.SEC_CMD_STAT (op + 2 * 2 ^ 12 + u.secReason op * 2 ^ 16)).raise
          Ev.SEC_REFUSED [op, u.secReason op]))) ∧
  (∀ (t : Nat) (ok : Bool) (img : PatternImage) (r : SecRun) (s u : State), s.advance t = u → u.sec.run = some r → r.started = true →
    r.op = 2 ∨ r.op = 3 →
    ∃ n : State, exec (.secCmdComplete t ok img) s = .next n ∧ n.sec.run = none ∧
      (u.sec.leaf = none → u.sec.venueJournal = [] → n.rst.flashPulse = none) ∧ (r.op = 2 → n.rst.erase = none) ∧
      n.nat Reg.SEC_CMD_STAT = r.op + (if ok then 1 else 3) * 2 ^ 12 ∧ SameRegs u n [Reg.SEC_CMD_STAT] ∧ n.sec.otp = u.sec.otp ∧
      RaisedBy u n [(Ev.SEC_CMD_DONE, [r.op, if ok then 1 else 3, 0])]) ∧
  (∀ (t : Nat) (img : PatternImage) (r : SecRun) (f : ImageInfo) (s u : State), s.advance t = u → u.sec.run = some r → r.started = true →
    r.op = 7 → u.sec.fw = some f →
    ∃ n : State, exec (.secCmdComplete t true img) s = .next n ∧ n.sec.run = none ∧ n.bit Reg.SEC_STAT 3 = false ∧
      n.sec.journalA = u.sec.journalA.put 2 (f.generation + 2 ^ 31) true ∧
      n.sec.journalB = u.sec.journalB.put 2 (f.generation + 2 ^ 31) true ∧ n.sec.otp = u.sec.otp ∧
      SameRegs u n [Reg.SEC_CMD_STAT, Reg.SEC_STAT] ∧ RaisedBy u n [(Ev.SEC_CMD_DONE, [7, 1, 0])]) ∧
  (∀ (t : Nat) (img : PatternImage) (r : SecRun) (f : ImageInfo) (s u : State), s.advance t = u → u.sec.run = some r → r.started = true →
    r.op = 8 → u.sec.fw = some f →
    ∃ n : State, exec (.secCmdComplete t true img) s = .next n ∧ n.sec.run = none ∧ n.sec.otp.fwSvnMin = f.svn ∧
      n.sec.otp.patSvnMin = u.sec.otp.patSvnMin ∧ n.sec.otp.cust = u.sec.otp.cust ∧ n.sec.otp.leafMarks = u.sec.otp.leafMarks ∧
      RaisedBy u n [(Ev.SEC_CMD_DONE, [8, 1, 0])]) ∧
  (∀ (t l : Nat) (a b : Bool) (s u : State), s.advance t = u → u.sec.leaf = some (l, none) → (a || b) = true → leaves - l ≠ 65536 →
    ∃ n : State, exec (.leafJournalWriteDone t a b) s = .next n ∧ n.sec.leaf = some (l, some true) ∧
      n.sec.journalA = u.sec.journalA.put 0 (l + 1) a ∧ n.sec.journalB = u.sec.journalB.put 0 (l + 1) b ∧
      n.fld Reg.SEC_LEAF_STAT 0 20 = (l + 1) % leaves ∧ SameRegs u n [Reg.SEC_LEAF_STAT] ∧ n.raised = u.raised) ∧
  (∀ (t l : Nat) (s u : State), s.advance t = u → u.sec.leaf = some (l, none) →
    ∃ n : State, exec (.leafJournalWriteDone t false false) s = .next n ∧ n.sec.leaf = none ∧ n.sec.run = none ∧
      n.nat Reg.SEC_CMD_STAT = 1 + 2 * 2 ^ 12 + 0x25 * 2 ^ 16 ∧ n.sec.otp = u.sec.otp ∧ SameRegs u n [Reg.SEC_CMD_STAT] ∧
      RaisedBy u n [(Ev.SEC_REFUSED, [1, 0x25])])

/-- A venue submission in a mode that takes it waits in the channel for its verification, and the channel is busy; verification ends
with the first failing check of R73 reported, with a repeat of the last accepted object accepted without effect, or with the
number recorded for the journals and the change waiting for its boundary, or at once in effect in SAFE, and a security command
that waited starts; a number that neither journal took is reported (R73, R74, R88 to R90). -/
def Obligations.VenueCommandsAreVerified : Prop :=
  (∀ (t : Nat) (req : Requester) (s u : State), s.advance t = u → u.accepts req Reg.SEC_VENUE_CMD 1 → venueMode u.modeCode = true →
    u.bit Reg.SEC_VENUE_STAT 0 = false →
    ∃ (n : State) (j : VenueJob), exec (.venueSubmit t req) s = .next n ∧ n.sec.venueJob = some j ∧ j.source = 0 ∧ j.frame = none ∧
      j.object = u.stage (Reg.SEC_VENUE_STAGE 0) (min (0x800 + u.nat (Reg.SEC_VENUE_STAGE 2)) 65536) ∧
      n.nat Reg.SEC_VENUE_STAT = 1 ∧ SameRegs u n [Reg.SEC_VENUE_STAT] ∧ n.raised = u.raised) ∧
  (∀ (t : Nat) (j : VenueJob) (s u : State), s.advance t = u → u.sec.venueJob = some j → u.sec.run.any (·.started) = false →
    ∃ n : State, exec (.venueVerifyDone t) s = .next n ∧ n.sec.venueJob = none ∧
      n.sec.run = u.sec.run.map (fun r => { r with started := true }) ∧
      (u.objReason j.object magicVenue 1 false ≠ 0 →
        n.nat Reg.SEC_VENUE_STAT = 3 * 2 ^ 4 + u.objReason j.object magicVenue 1 false * 2 ^ 8 ∧ n.sec.venueReady = u.sec.venueReady ∧
        n.sec.lastVseq = u.sec.lastVseq ∧
        RaisedBy u n [(Ev.VENUE_REJECTED, [j.source, u.objReason j.object magicVenue 1 false, leAt j.object 0xC 4].map (· % 2 ^ 32))]) ∧
      (u.objReason j.object magicVenue 1 false = 0 → leAt j.object 0xC 4 = u.sec.lastVseq → objHash j.object = u.sec.lastHash →
        n.nat Reg.SEC_VENUE_STAT = 2 ^ 4 ∧ n.sec.venueReady = u.sec.venueReady ∧ n.raised = u.raised) ∧
      (u.objReason j.object magicVenue 1 false = 0 → objHash j.object ≠ u.sec.lastHash → u.venueReason j.object = 0 → u.alone →
        u.modeCode ≠ Mode.SAFE → n.sec.lastVseq = leAt j.object 0xC 4 ∧ n.sec.venueJournal = u.sec.venueJournal ++ [leAt j.object 0xC 4] ∧
        n.sec.venueReady.length = u.sec.venueReady.length + 1) ∧
      (u.objReason j.object magicVenue 1 false = 0 → objHash j.object ≠ u.sec.lastHash → u.venueReason j.object = 0 → u.alone →
        u.modeCode = Mode.SAFE → n.sec.lastVseq = leAt j.object 0xC 4 ∧ n.sec.venueReady = u.sec.venueReady ∧
        n.sec.venueSlot = (u.venueContent (leAt (objBody j.object) 0 1) (leAt (objBody j.object) 1 1) (objBody j.object)).1)) ∧
  (∀ (t v : Nat) (rest : List Nat) (a b : Bool) (s u : State), s.advance t = u → u.sec.venueJournal = v :: rest →
    ∃ n : State, exec (.venueJournalWriteDone t a b) s = .next n ∧ n.sec.venueJournal = rest ∧
      n.sec.journalA = u.sec.journalA.put 1 v a ∧ n.sec.journalB = u.sec.journalB.put 1 v b ∧ SameRegs u n [] ∧
      RaisedBy u n (if a || b then [] else [(Ev.VENUE_JOURNAL_FAIL, [v % 2 ^ 32])]))

/-- A cue whose time has come, whose delay has passed or that SEC_CUE_GO names is due in this cycle, with source 2; SEC_CUE_GO for a
number that no TRIGGER 0x3 entry has is CUE_IGNORED (R82, R83). A fired cue whose turn it is has its action: the mode command
with the cue's number as its sequence number, the play-out of its skein from its frame, which is opened first where none is, the
register pairs of its batch in order with the entry complete, or, outside SAFE, a venue change that waits for its boundary; it
leaves the list of fired ones, and cues of its cycle with a lower number act before it (R82, R83, R88, R318). -/
def Obligations.CuesFireAndAct : Prop :=
  (∀ (t num k : Nat) (c : Cue) (s u : State), s.advance t = u → u.cueIndex num 0 = some k → u.cueAt k = some c → u.ready = true →
    u.cue.spent.contains k = false → c.time ≤ u.showNs →
    ∃ n : State, exec (.cueTimeDue t num) s = .next n ∧ n.cue.spent = k :: u.cue.spent ∧
      n.cue.fired = u.insertFired ⟨k, 2, u.now⟩ u.cue.fired ∧ SameRegs u n [Reg.SEC_CUE_STAT] ∧ n.raised = u.raised) ∧
  (∀ (t num k at_ : Nat) (c : Cue) (s u : State), s.advance t = u → u.cueIndex num 1 = some k → u.cueAt k = some c →
    (u.cue.armed.find? fun x => x.1 == k) = some (k, at_) → at_ + nsCycles c.time ≤ u.now →
    ∃ n : State, exec (.cueDelayDue t num) s = .next n ∧ n.cue.armed = u.cue.armed.erase (k, at_) ∧
      n.cue.fired = u.insertFired ⟨k, 2, u.now⟩ u.cue.fired ∧ SameRegs u n [Reg.SEC_CUE_STAT] ∧ n.raised = u.raised) ∧
  (∀ (t num k : Nat) (req : Requester) (s u : State), s.advance t = u → u.accepts req Reg.SEC_CUE_GO (Word.ofNat (num % 2 ^ 16)) →
    u.cueIndex (num % 2 ^ 16) 3 = some k →
    ∃ n : State, exec (.secCueGo t req num) s = .next n ∧ n.cue.fired = u.insertFired ⟨k, 2, u.now⟩ u.cue.fired ∧
      SameRegs u n [Reg.SEC_CUE_STAT] ∧ n.raised = u.raised) ∧
  (∀ (t num : Nat) (req : Requester) (s u : State), s.advance t = u → u.accepts req Reg.SEC_CUE_GO (Word.ofNat (num % 2 ^ 16)) →
    u.cueIndex (num % 2 ^ 16) 3 = none → exec (.secCueGo t req num) s = .next (u.raise Ev.CUE_IGNORED [num % 2 ^ 16, 0])) ∧
  (∀ (t num : Nat) (f : FiredCue) (c : Cue) (s u v : State), s.advance t = u → takesTurn u num 0 f c v → v.alone →
    exec (.cueModeCommand t num) s = .next (({ v with cue := { v.cue with running := v.cue.running ++ [f.index] } }).modeCommand
      (c.arg0 % 16) (c.arg1 % 2 == 1) (c.num % 256) f.source (some f.index))) ∧
  (∀ (t num : Nat) (f : FiredCue) (c : Cue) (s u v w : State), s.advance t = u → takesTurn u num 1 f c v → v.alone →
    (v.setFld Reg.STORE_PLAY 0 11 (c.arg1 % 2048)).setNat Reg.STORE_PLAY_FRAME c.arg0 = w →
    (v.store.skein = none → exec (.cuePlaySkein t num) s = .next (w.openSkein (c.arg1 % 2048) (some c.arg0) (some f.index))) ∧
    (∀ k : Skein, v.store.skein = some k → k.index = c.arg1 % 2048 →
      exec (.cuePlaySkein t num) s = .next (w.playFrom c.arg0 (some f.index)))) ∧
  (∀ (t num : Nat) (f : FiredCue) (c : Cue) (s u v : State), s.advance t = u → takesTurn u num 2 f c v → v.alone →
    exec (.cueRegisterBatch t num) s =
      .next ((v.each (v.sec.pattern.batches.getD c.arg0 []) fun x p => x.writeAny .pattern p.1 4 p.2).completeCue f.index)) ∧
  (∀ (t num : Nat) (f : FiredCue) (c : Cue) (s u v : State), s.advance t = u → takesTurn u num 3 f c v → v.modeCode ≠ Mode.SAFE →
    c.arg0 = 0xFF →
    exec (.cueVenueSelect t num) s = .next { v with sec := { v.sec with venueReady := v.sec.venueReady ++
      [{ source := 2, op := 3, slot := 0xFF, vseq := 0, desc := [], buffer := [], ready := u.now, frame := none, cue := some f.index }] } }) ∧
  (∀ (t num : Nat) (f : FiredCue) (c : Cue) (q : VenueSlot) (s u v : State), s.advance t = u → takesTurn u num 3 f c v →
    v.modeCode ≠ Mode.SAFE → c.arg0 ≠ 0xFF → v.sec.pattern.venueSlots[c.arg0]? = some q → venueDescOk q.desc q.buffer.length = true →
    exec (.cueVenueSelect t num) s = .next { v with sec := { v.sec with venueReady := v.sec.venueReady ++
      [{ source := 2, op := 1, slot := c.arg0, vseq := 0, desc := q.desc, buffer := q.buffer, ready := u.now, frame := none,
         cue := some f.index }] } }) ∧
  (∀ (num a : Nat) (f : FiredCue) (c : Cue) (u v : State), takesTurn u num a f c v →
    f ∈ u.fireWaiting.cue.fired ∧ u.cueAt f.index = some c ∧ c.num = num ∧ c.action = a ∧
      v = { u.fireWaiting with cue := { u.fireWaiting.cue with fired := u.fireWaiting.cue.fired.erase f } }) ∧
  (∀ (t num : Nat) (f f' x : FiredCue) (c c' : Cue) (s u v v' : State), s.advance t = u →
    u.fireWaiting.takeFired num 2 = some (f, c, v) → u.fireWaiting.before f = [x] →
    (u.fireWaiting.cueAct x).takeFired num 2 = some (f', c', v') → exec (.cueRegisterBatch t num) s = .next (v'.cueBatch f' c'))

/-! ## Plies, commits and frames -/

/-- A descriptor word written to a device that runs alone waits for a commit and marks its descriptor PENDING, and every latched
word stays; a fence takes the value written, whatever other sources wrote in the cycle (R110, R111). Of the updates of one fence
in one cycle the one of highest rank stands: the register write above the yarn update above the DMA channels in order (R111). -/
def Obligations.DescriptorAndFenceWrites : Prop :=
  (∀ (t : Nat) (req : Requester) (k : Fin 64) (i : Fin 16) (w : Word) (s u : State), s.advance t = u → u.alone →
    (findReg (descAddr k i)).any (fun d => d.access == .rws && d.applies == .atCommit) = true →
    u.accepts req (descAddr k i) w →
    ∃ n : State, exec (.plyDescWrite t req k i w) s = .next n ∧
      n.rws = putWrite u.rws ⟨descAddr k i, w &&& writeMask (descAddr k i), u.now, req⟩ ∧
      n.bit (Reg.PLY_DESC_STAT k) 0 = true ∧
      (∀ j l : Nat, j < 64 → l < 16 → n.reg (descAddr j l) = u.reg (descAddr j l)) ∧ n.raised = u.raised ∧ n.hbm = u.hbm) ∧
  (∀ (t : Nat) (k : Fin 64) (w : Word) (s u : State), s.advance t = u → (u.frame.fenceLast.all fun x => decide (x.2.2 ≤ 5)) = true →
    u.accepts .host (Reg.PLY_FENCE k) w →
    ∃ n : State, exec (.plyFenceWrite t k w) s = .next n ∧ n.reg (Reg.PLY_FENCE k) = w ∧ SameRegs u n [Reg.PLY_FENCE k] ∧
      n.raised = u.raised ∧ n.rws = u.rws) ∧
  (∀ (k p q : Nat) (v w : Word) (u : State), p < q → (u.frame.fenceLast.any fun x => x.1 == k && x.2.1 == u.now) = false →
      ((u.setFence k p v).setFence k q w).reg (Reg.PLY_FENCE k) = w ∧ ((u.setFence k q w).setFence k p v).reg (Reg.PLY_FENCE k) = w)

/-- GO while a cadence runs takes the next boundary when its latch lies at least t_GUARD = 20 µs ahead, and the one behind it
otherwise, with DEFERRED, the count and the event; TARGET shows the frame number that its boundary latches. One in the very
cycle of a latch counts as deferred; without a cadence GO waits with TARGET 0; while one is pending another has no effect (R171
to R173, R473, Table 8-2). A boundary that no GO selects applies no waiting write and changes no register; one that a GO selects
ends the GO (R7, R171). -/
def Obligations.CommitsSelectAndApply : Prop :=
  (∀ (t l : Nat) (f : FrameInfo) (req : Requester) (s u : State), s.advance t = u → u.alone → u.accepts req Reg.SCAN_COMMIT 1 →
    u.frame.go = none → u.commitCadence = true → u.closing = some (l, f) → u.now + 8000 ≤ l → u.inLatchCycle = false →
    ∃ n : State, exec (.scanCommitGo t req) s = .next n ∧ n.frame.go = some (u.now, none) ∧ n.bit Reg.SCAN_COMMIT 0 = true ∧
      n.bit Reg.SCAN_COMMIT 1 = false ∧ n.fld Reg.SCAN_COMMIT 16 16 = u.goCount l f % 65536 ∧ SameRegs u n [Reg.SCAN_COMMIT] ∧
      n.raised = u.raised ∧ n.rws = u.rws) ∧
  (∀ (t l l' e : Nat) (f f' : FrameInfo) (req : Requester) (s u : State), s.advance t = u → u.alone → u.accepts req Reg.SCAN_COMMIT 1 →
    u.frame.go = none → u.commitCadence = true → u.closing = some (l, f) →
    (l < u.now + 8000 ∧ (l', f') = u.behind l f ∧ e = l - u.now) ∨ (u.now + 8000 ≤ l ∧ u.inLatchCycle = true ∧ (l', f') = (l, f) ∧ e = 0) →
    ∃ n : State, exec (.scanCommitGo t req) s = .next n ∧ n.frame.go = some (u.now, none) ∧ n.bit Reg.SCAN_COMMIT 0 = true ∧
      n.bit Reg.SCAN_COMMIT 1 = true ∧ n.fld Reg.SCAN_COMMIT 16 16 = u.goCount l' f' % 65536 ∧
      n.fld Reg.SCAN_COUNT 0 16 = min 65535 (u.fld Reg.SCAN_COUNT 0 16 + 1) ∧ SameRegs u n [Reg.SCAN_COMMIT, Reg.SCAN_COUNT] ∧
      RaisedBy u n [(Ev.SCAN_COMMIT_DEFERRED, [e, u.goCount l' f' % 65536].map (· % 2 ^ 32))]) ∧
  (∀ (t : Nat) (req : Requester) (s u : State), s.advance t = u → u.accepts req Reg.SCAN_COMMIT 1 →
    u.frame.go = none → u.commitCadence = false →
    ∃ n : State, exec (.scanCommitGo t req) s = .next n ∧ n.frame.go = some (u.now, none) ∧ n.bit Reg.SCAN_COMMIT 0 = true ∧
      n.bit Reg.SCAN_COMMIT 1 = false ∧ n.fld Reg.SCAN_COMMIT 16 16 = 0 ∧ SameRegs u n [Reg.SCAN_COMMIT] ∧ n.raised = u.raised) ∧
  (∀ (t : Nat) (req : Requester) (s u : State), s.advance t = u → u.accepts req Reg.SCAN_COMMIT 1 → u.frame.go ≠ none →
    exec (.scanCommitGo t req) s = .next u) ∧
  (∀ (c k : Nat) (u : State), u.commitDue c = false →
    (u.latchCommit c k).2 = false ∧ (u.latchCommit c k).1.rws = u.rws ∧ (u.latchCommit c k).1.regs = u.regs) ∧
  (∀ (c k : Nat) (u : State), u.commitDue c = true →
    (u.latchCommit c k).2 = true ∧ (u.latchCommit c k).1.frame.go = none ∧ (u.latchCommit c k).1.bit Reg.SCAN_COMMIT 0 = false ∧
      (u.latchCommit c k).1.bit Reg.SCAN_COMMIT 1 = false ∧ (u.latchCommit c k).1.fld Reg.SCAN_COMMIT 16 16 = k % 65536)

/-- When the window of the frame in delivery has run its length its boundary latches the next frame, with the fences as the cycle
leaves them; the flip of the frame opens the next window, or starts the bind-off behind the black frame; a retime ends with the
point and the divider that were asked for and the stack out of self-refresh; an instant of the STRIP cadence opens its next
window (R16, R17, R112, R168, R250, R252, R259). -/
def Obligations.FramesLatchAndFlip : Prop :=
  (∀ (t : Nat) (f : FrameInfo) (s u : State), (s.advance t).fencesInTime = u → u.frame.cur = some f → u.commitCadence = true →
    u.frame.boundary = false → u.frame.openedAt + us f.window ≤ u.now → exec (.frameLatch t) s = .next (u.latchFrame f)) ∧
  (∀ (t : Nat) (f g : FrameInfo) (s u : State), s.advance t = u → u.frame.cur = some f → u.frame.next = some g →
    u.commitCadence = true → u.frame.boundary = true → f.flip ≤ u.showNs →
    exec (.frameFlip t) s = .next (if ((u.flipEmit f.count).joinAtFlip f.count).mode.darkCount = some f.count
      then ((u.flipEmit f.count).joinAtFlip f.count).startBindRun
      else ((u.flipEmit f.count).joinAtFlip f.count).openWindow f g)) ∧
  (∀ (f g : FrameInfo) (u : State), (u.openWindow f g).frame.cur = some g ∧ (u.openWindow f g).frame.next = none ∧
    (u.openWindow f g).frame.boundary = false ∧ (u.openWindow f g).frame.openedAt = u.now) ∧
  (∀ (t : Nat) (s u : State), s.advance t = u → u.hbm.retime = true →
    ∃ n : State, exec (.hbmRetimeDone t) s = .next n ∧ n.hbm.retime = false ∧ n.bit Reg.HBM_STAT 0 = u.bit Reg.HBM_OPP 0 ∧
      n.bit Reg.GLB_CLK_STAT 2 = u.bit Reg.HBM_OPP 0 ∧ n.selfRefresh = false ∧ n.bit Reg.HBM_STAT 1 = false ∧
      SameRegs u n [Reg.HBM_STAT, Reg.GLB_CLK_STAT, Reg.GLB_MODE_STAT] ∧ n.modeCode = u.modeCode ∧ n.hbm.mem = u.hbm.mem ∧
      n.raised = u.raised) ∧
  (∀ (t : Nat) (c : Cadence) (f : FrameInfo) (s u : State), s.advance t = u → u.frame.cadence = some c → u.frame.cur = some f →
    u.commitCadence = false → f.flip ≤ u.showNs → u.stripFlips.cadenceRuns = true →
    exec (.stripWindowOpen t) s = .next (u.stripFlips.stripOpens c f))

/-- The status of the plies shows the frame latched: its number, the active descriptors, the members of flat plies and the venue
ply, and nothing else changes; the venue ply, unless cleared, stands in front in SWATCH and in the delivering modes; a group
whose member had a flip applied at this latch or the one before is not flattened (R107, R113, R115, Table 5-8). -/
def Obligations.LatchShowsThePlies : Prop :=
  (∀ (order : List PlyRef) (k : Nat) (u n : State), u.showPlies order k = n →
    n.fld Reg.PLY_STAT 0 6 = ((List.range 64).filter fun j => (u.desc j).active).length % 64 ∧ n.fld Reg.PLY_STAT 16 16 = k % 65536 ∧
      n.bit Reg.PLY_VENUE_STAT 0 = order.any (·.venue) ∧
      (∀ j : Nat, j < 64 → n.bit (Reg.PLY_DESC_STAT j) 1 = (u.desc j).active ∧
        n.bit (Reg.PLY_DESC_STAT j) 2 = (order.any fun p => p.flat && p.members.contains j)) ∧
      SameRegs u n ([Reg.PLY_STAT, Reg.PLY_VENUE_STAT] ++ (List.range 64).map Reg.PLY_DESC_STAT) ∧
      n.fld Reg.PLY_STAT 8 7 = u.fld Reg.PLY_STAT 8 7 ∧ n.hbm = u.hbm ∧ n.raised = u.raised) ∧
  (∀ (m : Nat) (u : State), m = Mode.SWATCH ∨ isDelivering m = true →
    (u.frameOrder m).head?.any (·.venue) = decide (u.sec.venueSlot ≠ 0xFF)) ∧
  (∀ (m : Nat) (u : State), m ≠ Mode.SWATCH → isDelivering m = false → u.frameOrder m = []) ∧
  (∀ (order : List (Nat × Desc)) (e : CheckEnv) (g : Nat) (u : State),
    ((groupMembers order g).any fun x => u.frame.flippedPrev.contains x.1) = true → u.groupCode order e g ≠ 0) ∧
  (∀ (order : List (Nat × Desc)) (e : CheckEnv) (fr g : Nat) (u : State), 1 ≤ g → g ≤ 15 →
    ((groupMembers order g).any fun x => u.frame.flippedNow.contains x.1) = true →
    (u.latchGroup order e fr g).fld (Reg.PLY_GROUP_STAT (g - 1)) 0 2 ≠ 3)

/-! ## The ray engine and the courses -/

/-- A fetch that touches no lost block, and of a flat ply finds no tile that does not decode, completes and lets the engine go on;
one that reads a lost block fails with reason 0x3; a fetch that fails switches its ply off with RAY_PLY_OFF, and the venue ply's
leaves that one course without it (R157, R161, R267, R287, R472). In an open window the next course of a link opens in its turn,
with what comes in its cycle taken in; a span that the engine took is finished, or waits for the line that failed parity; a
refetched line is no longer awaited; 20 µs before the close an unfinished link holds the rest and RAY_COURSE_HELD says from
which course; the composer ends a group's flattening, which throttle step 2 suspends (R113, R149, R156, R160, R172, R309, R407,
R472). -/
def Obligations.FetchesAndCourses : Prop :=
  (∀ (t c ply : Nat) (l : Fin 128) (f : FrameInfo) (x : Fetch) (p : PlyRef) (s u : State), s.advance t = u → u.rayFrame = some f →
    (u.frame.fetches.find? fun y => y.link == l.val && y.course == c && y.ply == ply) = some x →
    (u.frame.order.find? fun y => y.id == ply) = some p → u.fetchHits f x u.lostIn = false →
    (p.flat = true → ∀ k : LinkFrame, u.linkFrame l = some k → u.flatError p (u.flatTilesOf f k c p) = none) →
    exec (.plyFetchDone t l c ply) s = .next ((({ u with frame := { u.frame with fetches := u.frame.fetches.erase x } }).endFlat
      { link := l, course := c, ply := ply }).touchHbm.runEngine)) ∧
  (∀ (t c ply : Nat) (l : Fin 128) (f : FrameInfo) (x : Fetch) (s u : State), s.advance t = u → u.rayFrame = some f →
    (u.frame.fetches.find? fun y => y.link == l.val && y.course == c && y.ply == ply) = some x → u.fetchHits f x u.lostIn = true →
    ply ≠ venueId → exec (.plyFetchDone t l c ply) s = .next (u.switchOff f ply 3 l c).runEngine) ∧
  (∀ (t c r : Nat) (l : Fin 128) (f : FrameInfo) (s u : State), s.advance t = u → u.rayFrame = some f →
    (u.frame.fetches.any fun x => x.link == l.val && x.course == c && x.ply == venueId) = true →
    ∃ n : State, exec (.plyFetchFail t l c venueId r) s = .next n ∧ n = ({ u with frame := { u.frame with
      failed := u.frame.failed ++ [(l.val, c, venueId)]
      fetches := u.frame.fetches.filter fun x => !(x.link == l.val && x.course == c && x.ply == venueId) } }).runEngine) ∧
  (∀ (t c ply : Nat) (l : Fin 128) (f : FrameInfo) (s u : State), s.advance t = u → u.rayFrame = some f →
    (u.frame.fetches.any fun x => x.link == l.val && x.course == c && x.ply == ply) = true → ply ≠ venueId →
    exec (.plyFetchFail t l c ply 2) s = .next (u.switchOff f ply 2 l c).runEngine ∧
    exec (.plyFetchFail t l c ply 3) s = .next (u.switchOff f ply 3 l c).runEngine) ∧
  (∀ (ply r l c : Nat) (f : FrameInfo) (u : State), (u.frame.off.any fun x => x.1 == ply) = false →
    (u.switchOff f ply r l c).frame.off = u.frame.off ++ [(ply, u.now)] ∧
    ∃ e : Event, e ∈ (u.switchOff f ply r l c).raised ∧ e.code = Ev.RAY_PLY_OFF ∧
      e.args = [ply, r, l, c, f.count % 2 ^ 16].map (· % 2 ^ 32)) ∧
  (∀ (ply r l c : Nat) (f : FrameInfo) (u : State), (u.frame.off.any fun x => x.1 == ply) = true → u.switchOff f ply r l c = u) ∧
  (∀ (t c : Nat) (l : Fin 128) (f : FrameInfo) (x : LinkFrame) (s u v : State), s.advance t = u → (u.courseDue l c).isSome = true →
    u.inTime = v → v.courseDue l c = some (f, x) → exec (.courseOpen t l c) s = .next (v.openCourse f x c)) ∧
  (∀ (c : Nat) (l : Fin 128) (f : FrameInfo) (x : LinkFrame) (u : State), u.frame.cur = some f → u.linkFrame l = some x →
    u.frame.boundary = false → x.held = false → x.open_ = false → x.opened = c → c < x.courses →
    (u.mode.cur.any fun tr => tr.stage == .withdraw) = false → u.courseDue l c = some (f, x)) ∧
  (∀ (t c j : Nat) (l : Fin 128) (s u : State), s.advance t = u → u.frame.taken.contains (l.val, c, j) = true →
    u.frame.spansDone.contains (l.val, c, j) = false →
    (u.frame.spanWait.any fun w => (w.1, w.2.1, w.2.2.1) == (l.val, c, j)) = false →
    exec (.spanDone t l c j []) s = .next (u.finishSpan l c j)) ∧
  (∀ (t c j line : Nat) (l : Fin 128) (s u : State), s.advance t = u → u.frame.taken.contains (l.val, c, j) = true →
    u.frame.spansDone.contains (l.val, c, j) = false →
    (u.frame.spanWait.any fun w => (w.1, w.2.1, w.2.2.1) == (l.val, c, j)) = false → mapGet u.frame.parity line = none →
    ∃ n : State, exec (.spanDone t l c j [line]) s = .next n ∧ n.frame.refetch = u.frame.refetch ++ [line] ∧
      n.frame.spanWait = u.frame.spanWait ++ [(l.val, c, j, [line])] ∧ n.frame.spansDone = u.frame.spansDone ∧ SameRegs u n [] ∧
      n.raised = u.raised) ∧
  (∀ (t line : Nat) (s u : State), s.advance t = u → u.frame.refetch.contains line = true → u.frame.spanWait = [] →
    exec (.cacheRefetchDone t line) s =
      .next { u with frame := { u.frame with refetch := u.frame.refetch.filter fun n => n != line, spanWait := [] } }) ∧
  (∀ (t : Nat) (l : Fin 128) (f : FrameInfo) (x : LinkFrame) (s u : State), s.advance t = u → u.frame.cur = some f →
    u.linkFrame l = some x → u.frame.boundary = false → x.complete = false → x.held = false → x.link = l.val → u.mode.cur = none →
    u.frame.openedAt + us f.window ≤ u.now + us 20 →
    ∃ (n : State) (e : Event), exec (.tCutExpiry t l) s = .next n ∧ n.raised.getLast? = some e ∧ e.code = Ev.RAY_COURSE_HELD ∧
      e.args = [l.val, if x.open_ then x.opened - 1 else x.opened, x.courses - (if x.open_ then x.opened - 1 else x.opened),
        f.count % 2 ^ 16].map (· % 2 ^ 32)) ∧
  (∀ (t : Nat) (g : Fin 16) (m : List (Nat × Desc)) (s u : State), s.advance t = u → u.composing = some g.val → u.step2 = false →
    groupMembers u.activeOrder g = m → u.flatReadsLost m (flatDesc m (u.groupScale g) (u.groupBase g)) = false →
    ∃ n : State, exec (.reflattenDone t g) s = .next n ∧ g.val ∉ n.frame.flattening ∧ g.val ∉ n.frame.flatLost ∧
      (g.val ∈ n.frame.flat ∨ g.val ∈ n.frame.flatNoFit) ∧ n.raised = u.raised) ∧
  (∀ (t : Nat) (g : Fin 16) (s u : State), s.advance t = u → u.step2 = true → exec (.reflattenDone t g) s = .next u)

/-! ## The panel link -/

/-- A TIME block goes out on the lane of a tile 1 ms or more after the last one; a frame that fails its check is counted and has no
other effect, a frame of the lane's tile is taken, and a return lane that is off or under test carries none; an echo starts for
an enumerated tile once per second, or on request (R64, R69, R195, R196, R202, R203, R228). -/
def Obligations.PanelLinkBlocksAndFrames : Prop :=
  (∀ (t k : Nat) (l : Fin 128) (s u : State), s.advance t = u → u.tileOfLane l = some k → u.laneUp l = true → u.chain.quiet = false →
    limited (u.lane l).timeAt (ms 1) u.now = false →
    ∃ n : State, exec (.timeBlockDue t l) s = .next n ∧ n.outbox = u.outbox ++ [.block l (timeBlock false (u.timeFor k))] ∧
      (n.lane l).timeAt = some u.now ∧ SameRegs u n [] ∧ n.raised = u.raised ∧ n.spk = u.spk) ∧
  (∀ (t : Nat) (l : Fin 128) (f : List Byte) (s u : State), s.advance t = u → u.laneStage (l + 0x80) ≠ 0 →
    u.laneStage (l + 0x80) ≠ 0xA → bcValid f = false →
    ∃ n : State, exec (.backchannelFrame t l f) s = .next n ∧
      n.fld (Reg.SPK_LANE_ERR l) 0 16 = min 65535 (u.fld (Reg.SPK_LANE_ERR l) 0 16 + 1) ∧ SameRegs u n [Reg.SPK_LANE_ERR l] ∧
      n.spk = u.spk ∧ n.raised = u.raised) ∧
  (∀ (t k : Nat) (l : Fin 128) (f : List Byte) (s u : State), s.advance t = u → u.laneStage (l + 0x80) ≠ 0 →
    u.laneStage (l + 0x80) ≠ 0xA → bcValid f = true → u.tileOfLane l = some k → (u.enumerated k = false ∨ leAt f 2 2 = k) →
    exec (.backchannelFrame t l f) s = .next (u.takeFrame l k f)) ∧
  (∀ (k : Nat) (f : List Byte) (u : State), ((u.showBc k f).tileState k).lastBc = some u.now ∧
    (k < 128 → (u.showBc k f).bit (Reg.SPK_TILE_STAT k) 1 = true)) ∧
  (∀ (t : Nat) (l : Fin 128) (f : List Byte) (s u : State), s.advance t = u → u.laneStage (l + 0x80) = 0 ∨ u.laneStage (l + 0x80) = 0xA →
    exec (.backchannelFrame t l f) s = .next u) ∧
  (∀ (t : Nat) (k : Fin 128) (s u : State), s.advance t = u → u.enumerated k = true → limited (u.tileState k).echoAt (ms 1000) u.now = false →
    exec (.tileDelayEcho t k) s = .next (u.startEcho k)) ∧
  (∀ (t k : Nat) (req : Requester) (s u : State), s.advance t = u → u.accepts req Reg.SPK_CTL (Word.ofNat (k % 128 + 2 ^ 9)) →
    exec (.spkCtlEcho t req k) s = .next (u.startEcho (k % 128)))

/-- Each timer of a tile that runs out in a cycle that brings no frame has its outcome once: the back-channel's loss after 100 µs,
no lock and blanking after 1 ms, a CONFIG access resent after 50 µs and failed with 0x5 after its third try, and a first frame
missed for 20 ms (R199, R203, R208, R211). An enumeration, started by the roster or by SPK_CTL, takes the tile out until its
steps are over and waits for its first frame; CLEAR zeroes every tile's FEC and every lane's error count; GO of an expert access
to a tile that the roster has queues it, and one to another tile ends as timed out (R199, R208, Table 9-10). -/
def Obligations.PanelLinkCommandsAndTimers : Prop :=
  (∀ (t c : Nat) (k : Fin 128) (s u : State), s.advance t = u → u.bit (Reg.SPK_TILE_STAT k) 1 = true →
    (u.tileState k).lastBc = some c → c + us 100 ≤ u.now → u.enumerated k = true →
    (u.bcNow (u.laneOfTile k) fun f => !u.enumerated k || leAt f 0x02 2 == k) = false →
    ∃ n : State, exec (.tileBcTimeout t k) s = .next n ∧ n.fld (Reg.SPK_TILE_STAT k) 0 2 = 0 ∧
      RaisedBy u n [(Ev.SPK_TILE_LOST, [k.val, u.laneOfTile k, 1].map (· % 2 ^ 32))]) ∧
  (∀ (t c : Nat) (k : Fin 128) (s u : State), s.advance t = u → (u.tileState k).noLock = some c → c + ms 1 ≤ u.now →
    (u.bcNow (u.laneOfTile k) u.bcLock) = false → u.enumerated k = true → (u.tileState k).noLockRaised = false → u.laneUp (u.laneOfTile k) = true →
    exec (.tileNoLockTimeout t k) s = .next (((u.setTile k { u.tileState k with noLockRaised := true, noLock := none }).raise
      Ev.SPK_TILE_LOST [k, u.laneOfTile k, 2]).retrain (u.laneOfTile k))) ∧
  (∀ (t c : Nat) (k : Fin 128) (s u : State), s.advance t = u → (u.tileState k).blanked = some c → c + ms 1 ≤ u.now →
    (u.bcNow (u.laneOfTile k) fun f => !(leAt f 0x06 2).testBit 3) = false → u.enumerated k = true → u.silent = false →
    u.laneUp (u.laneOfTile k) = true → (u.tileState k).blankedRaised = false → u.delivering = true →
    exec (.tileBlankedTimeout t k) s =
      .next ((u.setTile k { u.tileState k with blankedRaised := true }).raise Ev.SPK_TILE_LOST [k, u.laneOfTile k, 3])) ∧
  (∀ (t : Nat) (k : Fin 128) (q : CfgReq) (s u : State), s.advance t = u → mapGet u.spk.out (u.laneOfTile k) = some q →
    q.sent + us 50 ≤ u.now → (u.bcNow (u.laneOfTile k) fun f => (u.cfgReported (u.laneOfTile k) f).isSome) = false →
    (3 ≤ q.tries → exec (.configTimeout t k) s = .next (u.endCfg (u.laneOfTile k) q 5 0)) ∧
    (q.tries < 3 → exec (.configTimeout t k) s = .next (({ u with spk := { u.spk with
      out := mapErase u.spk.out (u.laneOfTile k), queued := q :: u.spk.queued } }).pumpLane (u.laneOfTile k)))) ∧
  (∀ (t : Nat) (k : Fin 128) (s u : State), s.advance t = u → (u.tileState k).enumStep = some .wait →
    (u.tileState k).enumAt + ms 20 ≤ u.now → (u.bcNow (u.laneOfTile k) fun _ => true) = false →
    ∃ n : State, exec (.enumBcWaitTimeout t k) s = .next n ∧ n.bit (Reg.SPK_TILE_STAT k) 4 = true ∧ (n.tileState k).enumStep = none ∧
      SameRegs u n [Reg.SPK_TILE_STAT k] ∧ RaisedBy u n [(Ev.SPK_TILE_MISMATCH, [k.val, u.laneOfTile k, 4, 0].map (· % 2 ^ 32))]) ∧
  (∀ (t k : Nat) (req : Requester) (i : Instr) (s u : State), s.advance t = u → k < 128 →
    (i = .spkCtlReenum t req k ∧ u.accepts req Reg.SPK_CTL (Word.ofNat (k % 128 + 2 ^ 8)) ∨
      k < u.roster.length ∧ ∃ f : Fin 128, f.val = k ∧ i = .tileEnumeration t f) →
    ∃ n : State, exec i s = .next n ∧ (n.tileState k).enumStep = some .wait ∧ (n.tileState k).enumAt = u.now ∧
      n.enumerated k = false ∧ n.raised = u.raised ∧ n.hbm = u.hbm) ∧
  (∀ (t : Nat) (req : Requester) (s u : State), s.advance t = u → u.accepts req Reg.SPK_CTL (Word.ofNat (2 ^ 10)) →
    ∃ n : State, exec (.spkCtlClear t req) s = .next n ∧
      (∀ k : Nat, k < 128 → n.nat (Reg.SPK_TILE_FEC k) = 0 ∧ n.nat (Reg.SPK_LANE_ERR k) = 0) ∧
      SameRegs u n ((List.range 128).flatMap fun k => [Reg.SPK_TILE_FEC k, Reg.SPK_LANE_ERR k]) ∧ n.raised = u.raised) ∧
  (∀ (t : Nat) (req : Requester) (s u : State), s.advance t = u → u.accepts req Reg.SPK_CFGW_CMD 1 → u.alone → u.configs = true →
    u.fld Reg.SPK_CFGW_ADDR 0 7 < u.roster.length → u.cadenceRuns = true →
    ∃ (n : State) (q : CfgReq), exec (.spkCfgwGo t req) s = .next n ∧ n.nat Reg.SPK_CFGW_STAT = 1 ∧
      n.spk.queued = u.spk.queued ++ [q] ∧ q.tile = u.fld Reg.SPK_CFGW_ADDR 0 7 ∧ q.read = u.bit Reg.SPK_CFGW_ADDR 8 ∧
      q.addr = u.fld Reg.SPK_CFGW_ADDR 16 16 ∧ q.why = .expert ∧ SameRegs u n [Reg.SPK_CFGW_CMD, Reg.SPK_CFGW_STAT] ∧
      n.raised = u.raised) ∧
  (∀ (t : Nat) (req : Requester) (s u : State), s.advance t = u → u.accepts req Reg.SPK_CFGW_CMD 1 → u.alone → u.configs = true →
    u.roster.length ≤ u.fld Reg.SPK_CFGW_ADDR 0 7 →
    ∃ n : State, exec (.spkCfgwGo t req) s = .next n ∧ n.nat Reg.SPK_CFGW_STAT = 0x50 ∧ n.spk = u.spk ∧
      SameRegs u n [Reg.SPK_CFGW_CMD, Reg.SPK_CFGW_STAT] ∧
      n.raised = (u.raise Ev.SPK_CONFIG_FAIL [u.fld Reg.SPK_CFGW_ADDR 0 7, u.fld Reg.SPK_CFGW_ADDR 16 16, 5, u.fld Reg.SPK_EPOCH 0 16]).raised)

/-! ## Lanes, loop timing -/

/-- Training goes from CAL to DETECT, or on to POLARITY on a panel forward lane whose return lane is up, from DETECT to LOCK, or at
once to LINK on the lanes of PCIe and NVMe, from EQUALISE without a preset search to LINK, and from LINK to UP on every lane but
those of a chain port, whose handshake decides (R220, R223, Table 10-3). A stage that is not complete by its limit of Table 10-3
fails the attempt: the third failure is FAILED with one LANE_TRAIN_FAIL, an earlier one retrains; a FAILED lane tries again
every 100 ms; an UP lane that loses lock, or that LANE_CTL names, retrains (R220, R224). -/
def Obligations.LanesTrainAndRetrain : Prop :=
  (∀ (t k : Nat) (l : Fin 304) (v : Bool) (s u : State), s.advance t = u → u.laneStage l = 1 → laneGroup l ≠ 0 →
    ∃ n : State, exec (.laneStageDone t l v k) s = .next n ∧ n.laneStage l = 2 ∧ (n.lane l).calDone = true ∧ n.raised = u.raised) ∧
  (∀ (t k : Nat) (l : Fin 304) (v : Bool) (s u : State), s.advance t = u → u.laneStage l = 1 → laneGroup l = 0 →
    u.laneUp (l + 0x80) = false → exec (.laneStageDone t l v k) s = .next (u.setLane l { u.lane l with calDone := true })) ∧
  (∀ (t k : Nat) (l : Fin 304) (v : Bool) (s u : State), s.advance t = u → u.laneStage l = 2 →
    ∃ n : State, exec (.laneStageDone t l v k) s = .next n ∧ n.laneStage l = (if 4 ≤ laneGroup l then 7 else 3) ∧
      ∀ m : Nat, m < 304 → m ≠ l.val → n.laneStage m = u.laneStage m) ∧
  (∀ (t k : Nat) (l : Fin 304) (v : Bool) (s u : State), s.advance t = u → u.laneStage l = 6 → (u.lane l).tryPreset = none →
    ∃ n : State, exec (.laneStageDone t l v k) s = .next n ∧ n.laneStage l = 7 ∧
      n.fld (Reg.LANE_FOM l) 16 8 = u.fld (Reg.LANE_FOM l) 0 8) ∧
  (∀ (t k : Nat) (l : Fin 304) (v : Bool) (s u : State), s.advance t = u → u.laneStage l = 7 → laneGroup l ≠ 2 →
    ∃ n : State, exec (.laneStageDone t l v k) s = .next n ∧ n.laneStage l = 8 ∧ n.laneUp l = true) ∧
  (∀ (t k : Nat) (l : Fin 304) (v : Bool) (s u : State), s.advance t = u → laneGroup l = 2 → u.laneStage l = 7 →
    exec (.laneStageDone t l v k) s = .next u) ∧
  (∀ (t : Nat) (l : Fin 304) (s u : State), s.advance t = u → laneGroup l ≤ 3 → 1 ≤ u.laneStage l → u.laneStage l ≤ 7 →
    (u.laneStage l = 1 → (u.lane l).calDone = false) → u.stageDoneNow l = false →
    (u.lane l).stageAt + ms (stageLimit (laneGroup l) (u.laneStage l)) ≤ u.now →
    exec (.laneStageTimeout t l) s = .next (u.failAttempt l)) ∧
  (∀ (t : Nat) (l : Fin 304) (s u : State), s.advance t = u → u.now < (u.lane l).stageAt + ms (stageLimit (laneGroup l) (u.laneStage l)) →
    exec (.laneStageTimeout t l) s = .next u) ∧
  (∀ (l : Fin 304) (u n : State), u.failAttempt l = n → u.fld (Reg.LANE_STATE l) 12 4 = 2 → (u.lane l).failRaised = false → u.loops = false →
    n.laneStage l = 9 ∧ n.fld (Reg.LANE_STATE l) 12 4 = 3 ∧ (n.lane l).retryAt = u.now ∧
      RaisedBy u n [(Ev.LANE_TRAIN_FAIL, [l.val, u.laneStage l, 3].map (· % 2 ^ 32))]) ∧
  (∀ (l : Fin 304) (u : State), u.fld (Reg.LANE_STATE l) 12 4 < 2 → laneGroup l ≠ 2 ∨ u.laneStage l ≠ 7 →
    u.failAttempt l = (u.incFld (Reg.LANE_STATE l) 12 4 1).retrain l) ∧
  (∀ (t : Nat) (l : Fin 304) (s u : State), s.advance t = u → laneGroup l ≤ 2 → u.laneStage l = 9 → (u.lane l).retryAt + ms 100 ≤ u.now →
    ∃ n : State, exec (.laneRetryTimer t l) s = .next n ∧ n = (u.setLane l { u.lane l with retryAt := u.now }).retrain l ∧
      (laneGroup l ≠ 0 → n.laneStage l = 2)) ∧
  (∀ (t : Nat) (l : Fin 304) (s u : State), s.advance t = u → laneGroup l ≠ 2 → u.laneUp l = true →
    exec (.laneLockLoss t l) s = .next (u.retrain l)) ∧
  (∀ (t : Nat) (l : Fin 304) (s u : State), s.advance t = u → laneGroup l = 2 → u.laneUp l = true → u.portLanesUp (lanePort l) = true →
    exec (.laneLockLoss t l) s =
      .next (((u.retrain l).breakPort (lanePort l)).raise Ev.CHAIN_PORT_DOWN [lanePort l, 3])) ∧
  (∀ (t : Nat) (l : Fin 304) (req : Requester) (s u : State), s.advance t = u →
    u.accepts req Reg.LANE_CTL (Word.ofNat (l % 512 + 2 ^ 9)) → u.laneStage l ≠ 0 → u.laneStage l ≠ 0xA →
    exec (.laneCtlRetrain t req l) s =
      .next (if laneGroup l = 2 ∧ u.portLanesUp (lanePort l) = true then (u.retrain l).breakPort (lanePort l) else u.retrain l))

/-- The panel transmitter is inverted once when no lock is reported for 5 ms, and the attempt fails the second time; each preset try
ends after 2 ms, takes the partner's FOM or the tile's corrected codewords as its sum and starts the next; the best of the eight
is kept, and the attempt fails where no try brought any (R221, R223). CLEAR zeroes a lane's PRBS error count, which goes on from
there, and starts its minimum FOM afresh, CLEAR_ALL every lane's; once per second the FOM of a receiver is the area of its eye
against the reference of its group, of a panel forward lane what its tile's corrected codewords give, with the least of them
kept, and LANE_FOM_LOW says that an UP lane falls below its group's least (R225, R226, R228, R231). -/
def Obligations.LaneTriesAndCounters : Prop :=
  (∀ (t : Nat) (l : Fin 128) (s u : State), s.advance t = u → u.laneStage l = 4 → (u.lane l).polAt + ms 5 ≤ u.now →
    u.stageDoneNow l = false → (u.lane l).polTried = false →
    ∃ n : State, exec (.ptxPolarityTimeout t l) s = .next n ∧ n.bit (Reg.LANE_STATE l) 4 = !u.bit (Reg.LANE_STATE l) 4 ∧
      (n.lane l).polTried = true ∧ (n.lane l).polAt = u.now ∧ n.laneStage l = 4 ∧ SameRegs u n [Reg.LANE_STATE l] ∧ n.raised = u.raised) ∧
  (∀ (t : Nat) (l : Fin 128) (s u : State), s.advance t = u → u.laneStage l = 4 → (u.lane l).polAt + ms 5 ≤ u.now →
    u.stageDoneNow l = false → (u.lane l).polTried = true → exec (.ptxPolarityTimeout t l) s = .next (u.failAttempt l)) ∧
  (∀ (t p : Nat) (l : Fin 304) (s u : State), s.advance t = u → (u.lane l).tryPreset = some p → p < 7 → laneGroup l ≠ 0 →
    (u.lane l).tryAt + ms 2 ≤ u.now →
    ∃ n : State, exec (.presetTryTimeout t l) s = .next n ∧ (n.lane l).tryPreset = some (p + 1) ∧ (n.lane l).tryAt = u.now ∧
      (n.lane l).sums = (u.lane l).sums ++ [(u.lane l).peerFom] ∧ (n.lane l).peerFom = none ∧ n.fld (Reg.LANE_STATE l) 8 4 = p + 1 ∧
      SameRegs u n [Reg.LANE_STATE l] ∧ n.raised = u.raised) ∧
  (∀ (t p k : Nat) (l : Fin 304) (s u : State), s.advance t = u → (u.lane l).tryPreset = some p → p < 7 → laneGroup l = 0 →
    u.tileOfLane l = some k → (u.lane l).tryAt + ms 2 ≤ u.now →
    ∃ n : State, exec (.presetTryTimeout t l) s = .next n ∧ (n.lane l).tryPreset = some (p + 1) ∧
      (n.lane l).sums = (u.lane l).sums ++ [if (u.tileState k).tryLock = some true then some (u.tileState k).tryCorr else none] ∧
      (n.tileState k).tryCorr = 0 ∧ (n.tileState k).tryLock = none ∧ n.fld (Reg.LANE_STATE l) 8 4 = p + 1 ∧
      SameRegs u n [Reg.LANE_STATE l] ∧ n.raised = u.raised) ∧
  (∀ (t : Nat) (l : Fin 304) (s u v : State), s.advance t = u → (u.lane l).tryPreset = some 7 → laneGroup l ≠ 0 →
    (u.lane l).tryAt + ms 2 ≤ u.now →
    u.setLane l { u.lane l with sums := (u.lane l).sums ++ [(u.lane l).peerFom], tryPreset := none } = v →
    (∀ b : Nat, bestPreset false ((u.lane l).sums ++ [(u.lane l).peerFom]) = some b →
      exec (.presetTryTimeout t l) s = .next ((v.setFld (Reg.LANE_STATE l) 8 4 b).enterLink l)) ∧
    (bestPreset false ((u.lane l).sums ++ [(u.lane l).peerFom]) = none → exec (.presetTryTimeout t l) s = .next (v.failAttempt l))) ∧
  (∀ (t l : Nat) (req : Requester) (s u : State), s.advance t = u → l < 304 → u.accepts req Reg.LANE_CTL (Word.ofNat (l % 512 + 2 ^ 10)) →
    ∃ n : State, exec (.laneCtlClear t req l) s = .next n ∧ n.nat (Reg.LANE_PRBS_ERR l) = 0 ∧ n.fld (Reg.LANE_FOM l) 8 8 = 0 ∧
      (n.lane l).minFresh = true ∧ (n.lane l).countAt = (u.lane l).countAt.map (fun _ => u.now) ∧
      SameRegs u n [Reg.LANE_PRBS_ERR l, Reg.LANE_FOM l] ∧ n.raised = u.raised) ∧
  (∀ (t : Nat) (req : Requester) (s u : State), s.advance t = u → u.accepts req Reg.LANE_CTL (Word.ofNat (2 ^ 11)) →
    ∃ n : State, exec (.laneCtlClearAll t req) s = .next n ∧
      (∀ l : Nat, l < 304 → n.nat (Reg.LANE_PRBS_ERR l) = 0 ∧ n.fld (Reg.LANE_FOM l) 8 8 = 0) ∧
      SameRegs u n ((List.range 304).flatMap fun l => [Reg.LANE_PRBS_ERR l, Reg.LANE_FOM l]) ∧ n.raised = u.raised) ∧
  (∀ (t h w f : Nat) (l : Fin 304) (s u : State), s.advance t = u → limited (u.lane l).fomAt (ms 1000) u.now = false →
    (laneGroup l ≠ 0 ∧ f = min 255 (256 * h * min w 64 / eyeRef (laneGroup l)) ∨
      laneGroup l = 0 ∧ ∃ k : Nat, u.tileOfLane l = some k ∧ f = corrFom (u.tileState k).fomCorr) →
    ∃ n : State, exec (.laneFomUpdate t l h w) s = .next n ∧ n.fld (Reg.LANE_FOM l) 0 8 = f ∧
      n.fld (Reg.LANE_FOM l) 8 8 = (if (u.lane l).minFresh then f else min f (u.fld (Reg.LANE_FOM l) 8 8)) ∧
      (laneGroup l ≠ 0 → n.fld (Reg.LANE_EYE l) 0 8 = min 255 h ∧ n.fld (Reg.LANE_EYE l) 8 8 = min w 64) ∧
      (n.lane l).fomAt = some u.now ∧ SameRegs u n [Reg.LANE_FOM l, Reg.LANE_EYE l] ∧
      RaisedBy u n (if u.laneUp l ∧ f < u.fld (Reg.LANE_GRP_CFG (laneGroup l)) 0 8 ∧ limited (u.lane l).fomLowAt (ms 10000) u.now = false
        then [(Ev.LANE_FOM_LOW, [l.val, f, u.fld (Reg.LANE_GRP_CFG (laneGroup l)) 0 8].map (· % 2 ^ 32))] else []))

/-- A grant of background calibration is noted for its slicer, one at a time, at most once per 100 ms and never for a panel forward
lane, and its lapse 1 ms later takes it back; GEN or CHK puts a lane that is on under test with its transmitter off, and
clearing both retrains it; error injection runs for COUNT of the codewords that EVERY counts, or without end, from the codeword
behind the one being sent; the checker locks after 64 bits, counts from then on, and keeps its count when it loses lock (R227 to
R230). The loop is locked once it has followed a port for 10 ms; a loss of lock on that port starts the 10 µs after which the
loop moves to the backup port when that one is up, else to TPORT when that is up, else into holdover; a latency slip of more
than 8 words retrains the whole port (R216, R218, R219, R385). -/
def Obligations.LaneTestsAndLoop : Prop :=
  (∀ (t k : Nat) (l : Fin 304) (s u : State), s.advance t = u → laneGroup l ≠ 0 → u.bit (Reg.LANE_GRP_CFG (laneGroup l)) 8 = true →
    u.domainOn (laneDomain l) = true → ((u.lane l).granted.any fun g => decide (u.now ≤ g.2.1 + ms 1)) = false →
    limited (mapGet (u.lane l).slicers k) (ms 100) u.now = false →
    exec (.bgcalGrant t l k) s = .next (u.setLane l { u.lane l with slicers := mapPut (u.lane l).slicers k u.now,
                                                                    granted := some (k, u.now, mapGet (u.lane l).slicers k) })) ∧
  (∀ (t k at_ : Nat) (before : Option Nat) (l : Fin 304) (s u : State), s.advance t = u → (u.lane l).granted = some (k, at_, before) →
    u.now = at_ + ms 1 → u.laneUp l = true →
    ∃ n : State, exec (.bgcalGrantLapse t l k) s = .next n ∧ (n.lane l).granted = none ∧
      (keysRising (u.lane l).slicers = true → mapGet (n.lane l).slicers k = before) ∧ SameRegs u n [] ∧ n.raised = u.raised) ∧
  (∀ (t : Nat) (l : Fin 304) (req : Requester) (w : Word) (s u : State), s.advance t = u → u.accepts req (Reg.LANE_TEST l) w →
    (w.bit 2 || w.bit 3) = true → u.domainOn (laneDomain l) = true →
    ∃ n : State, exec (.laneTestWrite t req l w) s = .next n ∧ n.laneStage l = 0xA ∧ n.fld (Reg.LANE_TEST l) 0 6 = w.field 0 6 ∧
      (n.lane l).first = none) ∧
  (∀ (t : Nat) (l : Fin 304) (req : Requester) (w : Word) (s u : State), s.advance t = u → u.accepts req (Reg.LANE_TEST l) w →
    (w.bit 2 || w.bit 3) = false → u.laneStage l = 0xA → laneGroup l ≠ 0 →
    ∃ n : State, exec (.laneTestWrite t req l w) s = .next n ∧ n.laneStage l = 2) ∧
  (∀ (t : Nat) (l : Fin 304) (req : Requester) (w : Word) (s u : State), s.advance t = u → u.accepts req (Reg.LANE_INJ l) w →
    ∃ n : State, exec (.laneInjWrite t req l w) s = .next n ∧ n.reg (Reg.LANE_INJ l) = w ∧ SameRegs u n [Reg.LANE_INJ l] ∧
      (u.slotNow l = none → (n.lane l).inject = (u.lane l).inject) ∧
      (∀ m : Nat, u.slotNow l = some m → (n.lane l).inject =
        ((u.lane l).inject.map fun r => if r.until_.isNone then { r with until_ := some ((m + 19) / 20) } else r) ++
          injectionFrom w ((m + 19) / 20)) ∧ n.raised = u.raised) ∧
  (∀ (w : Word) (k j : Nat), w.field 0 5 ≠ 0 → ((injectionFrom w k).map (·.symbolsIn j)) =
    [if k ≤ j ∧ (j + 1 - k) % w.field 16 16 = 0 ∧ (w.field 5 11 = 0 ∨ (j + 1 - k) / w.field 16 16 ≤ w.field 5 11) then w.field 0 5 else 0]) ∧
  (∀ (t : Nat) (l : Fin 304) (s u : State), s.advance t = u →
    (u.bit (Reg.LANE_TEST l) 3 = true → u.bit (Reg.LANE_TEST l) 8 = false → u.lockPossible l = true →
      ∃ n : State, exec (.prbsCheckerLock t l) s = .next n ∧ n.bit (Reg.LANE_TEST l) 8 = true ∧ (n.lane l).countAt = some (u.now + 1) ∧
        SameRegs u n [Reg.LANE_TEST l] ∧ n.raised = u.raised) ∧
    (u.bit (Reg.LANE_TEST l) 8 = true →
      ∃ n : State, exec (.prbsCheckerLockLoss t l) s = .next n ∧ n.bit (Reg.LANE_TEST l) 8 = false ∧
        n.nat (Reg.LANE_PRBS_ERR l) = u.prbsErrors l ∧ (n.lane l).countAt = none ∧ (n.lane l).chkAt = some u.now ∧
        SameRegs u n [Reg.LANE_TEST l, Reg.LANE_PRBS_ERR l] ∧ n.raised = u.raised)) ∧
  (∀ (t : Nat) (s u : State), s.advance t = u → u.loopState = 1 ∨ u.loopState = 2 →
    exec (.loopTportLockLoss t) s = .next { u with lanes := { u.lanes with loop := { u.lanes.loop with lostAt := some u.now } } }) ∧
  (∀ (t : Nat) (s u : State), s.advance t = u → u.loopState = 1 → u.lanes.loop.lostAt = none → u.lanes.loop.since + ms 10 ≤ u.now →
    ∃ n : State, exec (.loopLocked t) s = .next n ∧ n.loopState = 2 ∧ n.loopPort = u.loopPort ∧ SameRegs u n [Reg.LANE_LOOP_STAT] ∧
      RaisedBy u n [(Ev.LANE_LOOP_STATE, [1, 2, u.loopPort])]) ∧
  (∀ (t c : Nat) (s u : State), s.advance t = u → u.lanes.loop.lostAt = some c → c + us 10 ≤ u.now → u.relocks u.loopPort = false →
    ∃ n : State, exec (.loopMoveTimeout t) s = .next n ∧ n.lanes.loop.lostAt = none ∧
      (u.loopPort ≠ u.fld Reg.LANE_LOOP_CFG 2 2 → u.backupUp = true →
        n.loopState = 1 ∧ n.loopPort = u.fld Reg.LANE_LOOP_CFG 2 2 ∧ SameRegs u n [Reg.LANE_LOOP_STAT]) ∧
      (u.loopPort = u.fld Reg.LANE_LOOP_CFG 2 2 ∨ u.backupUp = false → u.loopPort ≠ u.fld Reg.LANE_LOOP_CFG 0 2 →
        u.portLanesUp (u.fld Reg.LANE_LOOP_CFG 0 2) = true →
        n.loopState = 1 ∧ n.loopPort = u.fld Reg.LANE_LOOP_CFG 0 2 ∧ SameRegs u n [Reg.LANE_LOOP_STAT]) ∧
      (u.loopPort = u.fld Reg.LANE_LOOP_CFG 2 2 ∨ u.backupUp = false →
        u.loopPort = u.fld Reg.LANE_LOOP_CFG 0 2 ∨ u.portLanesUp (u.fld Reg.LANE_LOOP_CFG 0 2) = false →
        n.loopState = 3 ∧ n.loopPort = u.loopPort)) ∧
  (∀ (t : Nat) (p l : Fin 4) (k : Int) (s u : State), s.advance t = u →
    (k < -8 ∨ 8 < k → exec (.laneLatencySlip t p l k) s =
      .next ((u.raise Ev.LANE_LATENCY_SLIP [p, 0x100 + 4 * p + l, argInt k]).retrainPort p 2)) ∧
    (-8 ≤ k ∧ k ≤ 8 → exec (.laneLatencySlip t p l k) s = .next u))

/-! ## Emission: sequences, samples, the strip -/

/-- The power-up sequence starts with DISCHARGE (SEQ = 1) once the lanes are UP or 850 ms have passed, 50 ms later goes on with the
ramp from 0 toward the targets (SEQ = 2), whose step k of 5,000 comes k × 10 µs after its start and sets each output to rnd(C ×
k / 5000), and is steady (SEQ = 3) behind the last step (R249). Step k of 2,000 of the bind-off ramp comes k × 10 µs after its
start and sets each output to rnd(C × (2000 − k) / 2000); 20 ms after that start the codes are 0 and DISCHARGE goes out (SEQ =
5), and 70 ms after it the lanes go to electrical idle and the bind-off is over (R250). -/
def Obligations.EmissionRampsUpAndDown : Prop :=
  (∀ (t : Nat) (s u : State), s.advance t = u → u.sequenceWaits = true → u.powerIdle = true → u.t0Due = true → u.silent = false →
    u.emit_.noDischarge = false →
    ∃ n : State, exec (.powerupT0 t) s = .next n ∧ n.fld Reg.EMIT_STAT 0 3 = 1 ∧ SameRegs u n [Reg.EMIT_STAT] ∧ n.raised = u.raised) ∧
  (∀ (t : Nat) (s u : State), s.advance t = u → u.fld Reg.EMIT_STAT 0 3 = 1 → u.emit_.seqAt + ms 50 ≤ u.now →
    ∃ n : State, exec (.powerupDischargeEnd t) s = .next n ∧ n.fld Reg.EMIT_STAT 0 3 = 2 ∧ n.emit_.up = some ⟨u.targets, 0, u.now⟩ ∧
      SameRegs u n [Reg.EMIT_STAT] ∧ n.raised = u.raised) ∧
  (∀ (t : Nat) (r : Ramp) (s u : State), s.advance t = u → u.emit_.up = some r → r.step + 1 < 5000 →
    r.at_ + us (10 * (r.step + 1)) ≤ u.now →
    ∃ n : State, exec (.irefRampUpStep t) s = .next n ∧ n.emit_.up = some { r with step := r.step + 1 } ∧
      (∀ k : Nat, k < 48 → n.fld (Reg.EMIT_IREF_STAT k) 0 14 = roundDiv (r.codes.getD k 0 * (r.step + 1)) 5000 % 2 ^ 14) ∧
      SameRegs u n ((List.range 48).map Reg.EMIT_IREF_STAT) ∧ n.raised = u.raised) ∧
  (∀ (t : Nat) (r : Ramp) (s u : State), s.advance t = u → u.emit_.up = some r → r.step + 1 = 5000 → u.modeCode = Mode.IDLE →
    r.at_ + ms 50 ≤ u.now →
    ∃ n : State, exec (.irefRampUpStep t) s = .next n ∧ n.emit_.up = none ∧ n.fld Reg.EMIT_STAT 0 3 = 3 ∧
      ∀ k : Nat, k < 48 → n.fld (Reg.EMIT_IREF_STAT k) 0 14 = roundDiv (r.codes.getD k 0 * 5000) 5000 % 2 ^ 14) ∧
  (∀ (t : Nat) (r : Ramp) (s u : State), s.advance t = u → u.emit_.down = some r → r.step < 2000 →
    r.at_ + us (10 * (r.step + 1)) ≤ u.now →
    ∃ n : State, exec (.irefRampDownStep t) s = .next n ∧ n.emit_.down = some { r with step := r.step + 1 } ∧
      (∀ k : Nat, k < 48 →
        n.fld (Reg.EMIT_IREF_STAT k) 0 14 = roundDiv (r.codes.getD k 0 * (2000 - (r.step + 1))) 2000 % 2 ^ 14) ∧
      SameRegs u n ((List.range 48).map Reg.EMIT_IREF_STAT) ∧ n.raised = u.raised) ∧
  (∀ (t : Nat) (r : Ramp) (s u : State), s.advance t = u → u.emit_.down = some r → r.at_ + ms 20 ≤ u.now →
    ∃ n : State, exec (.bindoffDischarge t) s = .next n ∧ n.fld Reg.EMIT_STAT 0 3 = 5 ∧ n.emit_.down = none ∧
      (∀ k : Nat, k < 48 → n.fld (Reg.EMIT_IREF_STAT k) 0 14 = 0) ∧
      SameRegs u n (Reg.EMIT_STAT :: (List.range 48).map Reg.EMIT_IREF_STAT) ∧ n.raised = u.raised) ∧
  (∀ (t : Nat) (s u : State), s.advance t = u → u.fld Reg.EMIT_STAT 0 3 = 5 → u.emit_.seqAt + ms 70 ≤ u.now →
    exec (.bindoffIdle t) s = .next (u.idleLanes u.bindLanes).bindDone)

/-- A compliance sample within 0.3 V to 3.0 V clears an output's flag, and the third in a row outside sets it with
EMIT_IREF_COMPLIANCE; a conversion of an input is taken, and three of them show their median; 100 ms without one make the input
STALE and not valid; a probe result that is 100 µs late is counted and reported (R235, R242, R247). GO sets BUSY of the strip, a
word of its buffer is stored, and in STRIP the start of a refresh period moves every zone to its recorded band (R240, R252). -/
def Obligations.SamplesProbesAndStrip : Prop :=
  (∀ (t v : Nat) (k : Fin 48) (s u : State), s.advance t = u → u.irefOwned k = true → u.fld (Reg.EMIT_IREF_STAT k) 0 14 ≠ 0 →
    300 ≤ v → v ≤ 3000 →
    ∃ n : State, exec (.irefComplianceSample t k v) s = .next n ∧ n.bit (Reg.EMIT_IREF_STAT k) 25 = false ∧
      mapGet n.emit_.comp k = some 0 ∧ SameRegs u n [Reg.EMIT_IREF_STAT k] ∧ n.raised = u.raised) ∧
  (∀ (t v : Nat) (k : Fin 48) (s u : State), s.advance t = u → u.irefOwned k = true → u.fld (Reg.EMIT_IREF_STAT k) 0 14 ≠ 0 →
    v < 300 ∨ 3000 < v → mapGet u.emit_.comp k = some 2 → u.bit (Reg.EMIT_IREF_STAT k) 25 = false →
    ∃ n : State, exec (.irefComplianceSample t k v) s = .next n ∧ n.bit (Reg.EMIT_IREF_STAT k) 25 = true ∧
      SameRegs u n [Reg.EMIT_IREF_STAT k] ∧
      RaisedBy u n [(Ev.EMIT_IREF_COMPLIANCE, [k.val, v, u.fld (Reg.EMIT_IREF_STAT k) 0 14].map (· % 2 ^ 32))]) ∧
  (∀ (t r : Nat) (k : Fin 16) (s u : State), s.advance t = u → u.bit Reg.EMIT_THM_EN k = true → (u.thm k).since.isSome = true →
    exec (.thmSample t k r) s = .next (u.thmConvert k r)) ∧
  (∀ (r : Nat) (k : Fin 16) (a b : Nat × Int) (m : Int) (u : State), (u.thm k).samples = [a, b] → -10240 ≤ m → m ≤ 32000 →
    median3 (fun p q : Int => decide (p ≤ q)) a.2 b.2 (thmTemp r (1000 * u.fld Reg.EMIT_THM_CFG 16 8) (u.fld Reg.EMIT_THM_CFG 0 16)) = m →
    (u.thmConvert k r).fld (Reg.EMIT_THM k) 0 16 = unsigned 16 m) ∧
  (∀ (t c : Nat) (k : Fin 16) (s u : State), s.advance t = u → (u.thm k).since = some c → c + ms 100 ≤ u.now →
    (u.sameCycle fun i => match i with | .thmSample _ j _ => j == k | _ => false) = false →
    (u.thm k).samples.length = 3 → (u.thm k).faulted = false →
    ∃ (n : State) (e : Event), exec (.thmStaleTimeout t k) s = .next n ∧ n.bit (Reg.EMIT_THM k) 16 = false ∧
      n.bit (Reg.EMIT_THM k) 20 = true ∧ n.raised = u.raised ++ [e] ∧ e.code = Ev.EMIT_THM_FAULT ∧ e.args.take 2 = [k.val, 4]) ∧
  (∀ (t id seg c : Nat) (k : Fin 128) (s u : State), s.advance t = u → (u.tileState k).probe = some (id, seg, c) →
    c + us 100 ≤ u.now → u.probeNow k id = false →
    exec (.probeTimeout t k) s = .next (((u.setTile k { u.tileState k with
      probe := none, probeTimeouts := min 255 ((u.tileState k).probeTimeouts + 1) }).raise Ev.EMIT_PROBE_TIMEOUT [k, id, seg]).probeEnds k)) ∧
  (∀ (t : Nat) (req : Requester) (s u : State), s.advance t = u → u.accepts req Reg.EMIT_STRIP_CTL 1 →
    exec (.emitStripGo t req) s = .next (u.setBit Reg.EMIT_STRIP_STAT 0 true)) ∧
  (∀ (t i : Nat) (req : Requester) (w : Word) (s u : State), s.advance t = u → u.accepts req (Reg.EMIT_STRIP_BUF (i % 65536)) w →
    exec (.emitStripBufWrite t req i w) s =
      .next (u.setReg (Reg.EMIT_STRIP_BUF (i % 65536)) (w &&& writeMask (Reg.EMIT_STRIP_BUF (i % 65536))))) ∧
  (∀ (t : Nat) (s u v : State), s.advance t = u → u.modeCode = Mode.STRIP → u.emitSequence = false →
    (u.each (List.range 16) fun w z => w.applyBand z (w.zone z).band (w.zone z).moveTemp (w.nat Reg.SCAN_FRAME)) = v →
    exec (.stripRefreshPeriodStart t) s = .next (if u.fld Reg.EMIT_STAT 0 3 = 3 then v.setCodes v.targets else v)) ∧
  (∀ (z k f : Nat) (x : Int) (u : State), z < 16 → k < 8 → (u.applyBand z k x f).band z = k ∧
    (u.band z ≠ k → (u.applyBand z k x f).raised.getLast?.map (·.code) = some Ev.EMIT_BAND_CHANGE))

/-! ## The HBM stack -/

/-- A byte written is read back, and every other byte reads as before; the blocks that a write touches take its source tag, and no
other block changes its tag (R13, R257, R266). -/
def Obligations.HbmReadsWhatWasWritten : Prop :=
  (∀ (a k tg : Nat) (bs : List Byte) (u : State), k < bs.length → (u.hbmWrite a bs tg).byte (a + k) = bs.getD k 0) ∧
  (∀ (a b tg : Nat) (bs : List Byte) (u : State), b < a ∨ a + bs.length ≤ b → (u.hbmWrite a bs tg).byte b = u.byte b) ∧
  (∀ (a b tg : Nat) (bs : List Byte) (u : State),
    ((u.hbmWrite a bs tg).tagOf b = if b ∈ blocksOf a bs.length then tg else u.tagOf b)) ∧
  (∀ (a tg : Nat) (bs : List Byte) (u : State), SameRegs u (u.hbmWrite a bs tg) [] ∧ (u.hbmWrite a bs tg).raised = u.raised)

/-- CLEAR_LOST takes the mark from the blocks of its range but for those marked in its own cycle, and from no other block, and
HBM_LOST_STAT counts what is left (R269). -/
def Obligations.ClearLostClearsItsRange : Prop :=
  ∀ (t : Nat) (req : Requester) (s u : State), s.advance t = u → u.accepts req Reg.HBM_CTL 1 →
    ∃ n : State, exec (.hbmCtlClearLost t req) s = .next n ∧ SameRegs u n [Reg.HBM_LOST_STAT] ∧
      n.fld Reg.HBM_LOST_STAT 0 19 = n.hbm.lost.length % 2 ^ 19 ∧ n.hbm.mem = u.hbm.mem ∧ n.hbm.tags = u.hbm.tags ∧ n.raised = u.raised ∧
      ∀ b : Nat,
        (u.fld Reg.HBM_LOST_CLR_BLK 0 19 ≤ b ∧ b < u.fld Reg.HBM_LOST_CLR_BLK 0 19 + u.fld Reg.HBM_LOST_CLR_CNT 0 19 →
          (∀ x ∈ u.hbm.lost, x.1 = b → x.2 ≠ u.now) → n.marked b = false) ∧
        (mapGet u.hbm.lost b = some u.now → n.marked b = true) ∧
        (b < u.fld Reg.HBM_LOST_CLR_BLK 0 19 ∨ u.fld Reg.HBM_LOST_CLR_BLK 0 19 + u.fld Reg.HBM_LOST_CLR_CNT 0 19 ≤ b →
          n.marked b = u.marked b)

/-- MEMTEST starts in SERVICE alone, and at its end no byte of the content is defined any more; CLEAR_CNT zeroes the read-parity and
alert counts of every pseudo-channel (R278, Table 12-7). -/
def Obligations.HbmControlCommands : Prop :=
  (∀ (t : Nat) (req : Requester) (s u : State), s.advance t = u → u.accepts req Reg.HBM_CTL 2 →
    (u.modeCode = Mode.SERVICE → exec (.hbmCtlMemtest t req) s = .next (u.setBit Reg.HBM_STAT 7 true)) ∧
    (u.modeCode ≠ Mode.SERVICE →
      exec (.hbmCtlMemtest t req) s = .next (u.raise Ev.HBM_CMD_REFUSED [Reg.HBM_CTL, u.modeCode]))) ∧
  (∀ (t : Nat) (s u : State), s.advance t = u → u.bit Reg.HBM_STAT 7 = true → u.hbm.tags = [] →
    ∃ n : State, exec (.memtestDone t) s = .next n ∧ n.bit Reg.HBM_STAT 7 = false ∧ n.hbm.mem = [] ∧ n.hbm.epoch = u.hbm.epoch + 1 ∧
      SameRegs u n [Reg.HBM_STAT, Reg.HBM_LOST_STAT]) ∧
  (∀ (t : Nat) (req : Requester) (s u : State), s.advance t = u → u.accepts req Reg.HBM_CTL 4 →
    ∃ n : State, exec (.hbmCtlClearCnt t req) s = .next n ∧ (∀ p : Nat, p < 16 → n.fld (Reg.HBM_PC_STAT p) 16 16 = 0 ∧
      n.fld (Reg.HBM_PC_STAT p) 0 16 = u.fld (Reg.HBM_PC_STAT p) 0 16) ∧
      SameRegs u n ((List.range 16).map Reg.HBM_PC_STAT) ∧ n.hbm = u.hbm ∧ n.raised = u.raised)

/-- Refresh yields to outstanding requests for at most 8 intervals; a read's first two parity errors and fewer than four alerts of a
channel within 1 ms are counted, and what goes beyond them is an uncorrectable error of its address, which ends the requests
that read it; an alert's reissued commands count as replays, a free number of them (R261, R263 to R265). -/
def Obligations.RefreshAndErrorsOfAChannel : Prop :=
  (∀ (t : Nat) (p : Fin 16) (s u : State), s.advance t = u → u.selfRefresh = false →
    (u.hbmBusy = true → u.hbm.postponed.getD p 0 < 8 →
      exec (.hbmRefreshTick t p) s =
        .next { u with hbm := { u.hbm with postponed := u.hbm.postponed.set p (u.hbm.postponed.getD p 0 + 1) } }) ∧
    (u.hbmBusy = false ∨ 8 ≤ u.hbm.postponed.getD p 0 →
      exec (.hbmRefreshTick t p) s = .next { u with hbm := { u.hbm with postponed := u.hbm.postponed.set p 0 } })) ∧
  (∀ (t a k : Nat) (p : Fin 16) (s u : State), s.advance t = u →
    (k < 3 → exec (.hbmReadParityError t p a k) s = .next (u.incFld (Reg.HBM_PC_STAT p) 16 8 1)) ∧
    (3 ≤ k → exec (.hbmReadParityError t p a k) s = .next ((u.hbmUncorr p a 1).endReads a))) ∧
  (∀ (t a : Nat) (p : Fin 16) (s u : State), s.advance t = u → u.hbm.alerts = [] →
    ∃ n : State, exec (.hbmAlert t p a) s = .next n ∧
      n.fld (Reg.HBM_PC_STAT p) 28 4 = min 15 (u.fld (Reg.HBM_PC_STAT p) 28 4 + 1) ∧
      (∀ q : Nat, q / 2 = p.val / 2 → q < 16 → n.fld (Reg.HBM_PC_STAT q) 16 8 =
        min 255 (u.fld (Reg.HBM_PC_STAT q) 16 8 + Config.reissued u.fresh q)) ∧ n.hbm.alerts = [(u.now, p.val)] ∧
      SameRegs u n [Reg.HBM_PC_STAT (2 * (p.val / 2)), Reg.HBM_PC_STAT (2 * (p.val / 2) + 1)] ∧ n.raised = u.raised) ∧
  (∀ (t a : Nat) (p : Fin 16) (s u v : State), s.advance t = u → (u.alertsOf (p.val / 2)).length = 3 →
    (u.alertsOf (p.val / 2)).all (fun x => x.2 == p.val) = true →
    (let w := (u.incFld (Reg.HBM_PC_STAT p) 28 4 1).reissue (p.val / 2)
     { w with hbm := { w.hbm with alerts := w.hbm.alerts.filter fun x => x.2 / 2 != p.val / 2 } }) = v →
    exec (.hbmAlert t p a) s = .next ((v.hbmUncorr p a 2).endReads a))

/-- A migration goes on page by page, and behind its last page the pseudo-channel is retired with HBM_RETIRE_DONE; scrub reads move
on line by line, a grant that brings the scrub back on its schedule ends the guaranteed slots, and 100 ms of deferral start
them, with their event at most every 10 s (R272, R277). -/
def Obligations.MigrationAndScrub : Prop :=
  (∀ (t : Nat) (m : Migration) (s u : State), s.advance t = u → u.hbm.migr = some m → m.donor = false →
    m.page + 1 ≠ u.pagesPerPc →
    ∃ n : State, exec (.migrationPageDone t) s = .next n ∧ n.hbm.migr = some { m with page := m.page + 1 } ∧
      n.fld Reg.HBM_MIGR_STAT 16 10 = (m.page + 1) % 1024 ∧ SameRegs u n [Reg.HBM_MIGR_STAT] ∧ n.hbm.mem = u.hbm.mem ∧
      n.raised = u.raised) ∧
  (∀ (t : Nat) (m : Migration) (s u : State), s.advance t = u → u.hbm.migr = some m → m.donor = true → m.page + 1 = u.rowsUse →
    u.hbm.waiting = [] →
    ∃ (n : State) (e : Event), exec (.migrationPageDone t) s = .next n ∧ n.hbm.migr = none ∧
      n.fld (Reg.HBM_PC_STAT m.from_) 0 2 = 3 ∧ n.raised = u.raised ++ [e] ∧ e.code = Ev.HBM_RETIRE_DONE ∧
      n.bit Reg.HBM_MIGR_STAT 9 = false) ∧
  (∀ (t : Nat) (s u v : State), s.advance t = u → u.bit Reg.HBM_SCRUB_CFG 8 = true → u.selfRefresh = false → u.domainOn 55 = true →
    u.slots ≠ 0 → u.hbm.scrubLine + 1 < 65536 →
    { u with hbm := { u.hbm with scrubWait := some u.now, scrubLine := u.hbm.scrubLine + 1 } } = v →
    exec (.scrubRead t 0) s = .next (if (v.now : Int) < v.scrubDueAt then v.setBit Reg.HBM_SCRUB_STAT 16 false else v)) ∧
  (∀ (t c : Nat) (s u : State), s.advance t = u → u.selfRefresh = false → u.domainOn 55 = true → u.deferral = some c → ms 100 ≤ c →
    (u.sameCycle fun i => match i with | .scrubRead _ _ => true | _ => false) = false →
    limited u.hbm.scrubForced (ms 10000) u.now = false →
    ∃ n : State, exec (.scrubDeferralTimeout t) s = .next n ∧ n.bit Reg.HBM_SCRUB_STAT 16 = true ∧
      n.hbm.scrubForced = some u.now ∧ SameRegs u n [Reg.HBM_SCRUB_STAT] ∧
      RaisedBy u n [(Ev.HBM_SCRUB_FORCED, [u.fld Reg.HBM_SCRUB_STAT 0 10, u.hbm.scrubSlot % 2 ^ 32])])

/-! ## The decompression engines and the blitter -/

/-- A host job that R290 and R291 admit is queued on the engine that takes it, with the stack woken; one that they refuse gets its
status and HANK_JOB_REFUSED; the job that an engine runs ends with what running it on the memory of that cycle gives (R280,
R287, R290, R291). A host job of no bytes, or beyond the usable range, is refused with status 0x4 whatever engine it names
(R290). -/
def Obligations.HankJobsQueueAndEnd : Prop :=
  (∀ (t e : Nat) (req : Requester) (s u : State), s.advance t = u → u.accepts req Reg.HANK_JOB_SUBMIT 1 →
    u.admitJob u.hostJob (u.fld Reg.HANK_JOB_CTL 1 3) = .ok e →
    exec (.hankJobSubmit t req) s = .next (u.wakeHbm.touchHbm.queueJob e u.hostJob)) ∧
  (∀ (t st : Nat) (req : Requester) (s u : State), s.advance t = u → u.accepts req Reg.HANK_JOB_SUBMIT 1 →
    u.admitJob u.hostJob (u.fld Reg.HANK_JOB_CTL 1 3) = .error st →
    ∃ n : State, exec (.hankJobSubmit t req) s = .next n ∧ n.nat Reg.HANK_JOB_RESULT = st + u.hostJob.seq * 2 ^ 16 ∧
      n.nat Reg.HANK_JOB_OUT = 0 ∧ SameRegs u n [Reg.HANK_JOB_RESULT, Reg.HANK_JOB_OUT] ∧ n.hank = u.hank ∧
      RaisedBy u n [(Ev.HANK_JOB_REFUSED, [u.hostJob.seq, st])]) ∧
  (∀ (t : Nat) (e : Fin 6) (j : HankJob) (s u : State), s.advance t = u → (u.engine e).run = some j →
    exec (.hankJobComplete t e) s = .next (u.jobEnds e j (u.runJob e j))) ∧
  (∀ (e : Nat) (j : HankJob) (r : JobEnd) (u : State), j.seq < 65536 → r.err = none →
    ∃ v : State, u.hostJobEnds e j r = v ∧ v.nat Reg.HANK_JOB_RESULT = 1 + j.seq * 2 ^ 16 ∧
      v.nat Reg.HANK_JOB_OUT = r.bytes.length % 2 ^ 32 ∧
      RaisedBy u v [(Ev.HANK_JOB_DONE, [j.seq, 1, 0, r.bytes.length, e].map (· % 2 ^ 32))]) ∧
  (∀ (j : HankJob) (e : Nat) (u : State), j.len = 0 ∨ u.usable < j.src + j.len ∨ u.usable < j.dst + j.cap → u.admitJob j e = .error 4)

/-- A blit command that passes its checks joins the queue as captured, and one that fails a check is rejected with its reason; the
head of the queue issues to the lowest free slot when nothing in flight conflicts with it (R293, R301 to R303). A command in
flight ends in one of three ways: complete with every row written, frogged with the stripes that were complete, or failed at an
address; each leaves the scoreboard with its result and, where it asks or fails, its event (R302, R304, R306). -/
def Obligations.BlitCommandsQueueIssueAndEnd : Prop :=
  (∀ (t : Nat) (req : Requester) (s u : State), s.advance t = u → u.accepts req Reg.NEEDLE_SUBMIT 1 →
    u.captured.check (decide (64 ≤ u.needle.queue.length) && !u.headLeaves) u.usable u.venueBase = 0 →
    ∃ n : State, exec (.needleSubmit t req) s = .next n ∧ n.needle.queue = u.needle.queue ++ [u.captured] ∧
      n.needle.runs.map (fun r => (r.slot, r.cmd)) = u.needle.runs.map (fun r => (r.slot, r.cmd)) ∧ n.hbm = u.hbm ∧
      n.raised = u.raised ∧ SameRegs u n [Reg.NEEDLE_STAT]) ∧
  (∀ (t r : Nat) (req : Requester) (s u : State), s.advance t = u → u.accepts req Reg.NEEDLE_SUBMIT 1 →
    u.captured.check (decide (64 ≤ u.needle.queue.length) && !u.headLeaves) u.usable u.venueBase = r → r ≠ 0 →
    exec (.needleSubmit t req) s = .next ((u.setNat Reg.NEEDLE_RESULT (4 + r * 2 ^ 4 + u.captured.seq * 2 ^ 16)).raise
      Ev.NEEDLE_REJECTED [u.captured.seq, r, Reg.NEEDLE_SUBMIT])) ∧
  (∀ (t k : Nat) (c : NeedleCmd) (s u : State), s.advance t = u → u.needle.queue = [c] → c.frog = false → u.freeSlot = some k →
    (u.holding.any fun r => conflicts c r.cmd) = false →
    ∃ n : State, exec (.needleCmdIssue t) s = .next n ∧ n.needle.queue = [] ∧
      n.needle.runs = u.needle.runs ++ [{ slot := k, cmd := c }] ∧ SameRegs u n [Reg.NEEDLE_STAT] ∧ n.hbm = u.hbm ∧
      n.raised = u.raised) ∧
  (∀ (t k : Nat) (c : NeedleCmd) (s u : State), s.advance t = u → u.needle.queue = [c] → c.frog = false → u.freeSlot = some k →
    (u.holding.any fun r => conflicts c r.cmd) = true →
    ∃ n : State, exec (.needleCmdIssue t) s = .next n ∧ n.needle = { u.needle with issueAt := some u.now } ∧ n.raised = u.raised) ∧
  (∀ (t k : Nat) (r : NeedleRun) (s u : State), s.advance t = u → u.needleRun k = some r → u.lostSource r.cmd = none → r.frogBy = none →
    exec (.needleCmdComplete t k none 0) s = .next (u.needleDone k r.cmd)) ∧
  (∀ (t k a n : Nat) (r : NeedleRun) (s u : State), s.advance t = u → u.needleRun k = some r →
    exec (.needleCmdComplete t k (some a) n) s = .next (u.needleFail k r.cmd a n)) ∧
  (∀ (t k n f : Nat) (r : NeedleRun) (s u : State), s.advance t = u → u.needleRun k = some r → r.frogBy = some f →
    exec (.needleFrogStop t k n) s = .next (u.frogEnd k r.cmd f n)) ∧
  (∀ (k : Nat) (c : NeedleCmd) (u : State), c.seq < 65536 → (u.needleDone k c).nat Reg.NEEDLE_RESULT = 1 + c.seq * 2 ^ 16 ∧
    (u.needle.queue = [] → ((u.needleDone k c).needle.runs.all fun r => r.slot != k) = true) ∧
    (c.notify = false → (u.needleDone k c).raised = u.raised) ∧
    (c.notify = true → ∃ e : Event, (u.needleDone k c).raised = u.raised ++ [e] ∧ e.code = Ev.NEEDLE_CMD_DONE)) ∧
  (∀ (k f n : Nat) (c : NeedleCmd) (u : State), c.seq < 65536 → (u.frogEnd k c f n).nat Reg.NEEDLE_RESULT = 2 + c.seq * 2 ^ 16 ∧
    ∃ e : Event, (u.frogEnd k c f n).raised = u.raised ++ [e] ∧ e.code = Ev.NEEDLE_FROGGED ∧
      e.args = [c.seq, f, min n (ceilDiv c.dh 64)].map (· % 2 ^ 32))

/-! ## The store -/

/-- OPEN with a drive that is up starts the reads of the skein's structures; PLAY of a frame of the open skein fills the ring from
it; CLOSE outside SHOW closes the skein; each is refused with STORE_REFUSED otherwise (R315, R317, R318). The structures are
judged once all reads are in: the first failing check of R315 refuses the open; READY is set when the ring holds what R316 asks
for; preparation ends with the descriptors placed and a commit, and its deadline, 30 µs before the latch, gives the frame up
with STORE_FRAME_LATE (R315 to R319). -/
def Obligations.StorePlayback : Prop :=
  (∀ (t : Nat) (req : Requester) (s u : State), s.advance t = u → u.accepts req Reg.STORE_CTL 1 → fullMode u.modeCode = true →
    u.ready = true → u.store.skein = none → u.store.run = none → u.volumeUp (u.fld Reg.STORE_PLAY 0 11) = true →
    ∃ (n : State) (r : OpenRun), exec (.storeCtlOpen t req) s = .next n ∧ n.store.run = some r ∧
      r.skein = u.fld Reg.STORE_PLAY 0 11 ∧ r.parts = [] ∧ n.fld Reg.STORE_STAT 0 2 = 1 ∧ n.raised = u.raised ∧
      SameRegs u n [Reg.STORE_STAT]) ∧
  (∀ (t : Nat) (req : Requester) (k : Skein) (s u : State), s.advance t = u → u.accepts req Reg.STORE_CTL 2 →
    u.store.skein = some k → exec (.storeCtlPlay t req) s = .next (u.playFrom (u.nat Reg.STORE_PLAY_FRAME) none) ∧
    (k.frames ≤ u.nat Reg.STORE_PLAY_FRAME → exec (.storeCtlPlay t req) s = .next (u.raise Ev.STORE_REFUSED [1, 4]))) ∧
  (∀ (t : Nat) (req : Requester) (s u : State), s.advance t = u → u.accepts req Reg.STORE_CTL 4 →
    (u.modeCode = Mode.SHOW → exec (.storeCtlClose t req) s = .next (u.raise Ev.STORE_REFUSED [2, 9])) ∧
    (u.modeCode ≠ Mode.SHOW → ∃ n : State, exec (.storeCtlClose t req) s = .next n ∧ n.store.skein = none ∧ n.store.seq = none ∧
      n.store.ring = [] ∧ n.store.buffers = [] ∧ n.fld Reg.STORE_STAT 0 2 = 0 ∧ n.bit Reg.STORE_STAT 2 = false ∧
      n.bit Reg.STORE_STAT 3 = false ∧ SameRegs u n [Reg.STORE_STAT, Reg.HBM_LOST_STAT] ∧ n.hbm.mem = u.hbm.mem ∧
      n.raised = u.raised)) ∧
  (∀ (t : Nat) (r : OpenRun) (s u : State), s.advance t = u → u.store.run = some r → r.next 256 = none →
    (u.store.inflight.any fun c => c.why == .open_) = false → u.openReason r ≠ 0 → r.cue = none →
    ∃ n : State, exec (.storeOpenDone t) s = .next n ∧ n.store.run = none ∧ n.store.skein = u.store.skein ∧
      n.fld Reg.STORE_STAT 0 2 = 0 ∧ SameRegs u n [Reg.STORE_STAT] ∧
      RaisedBy u n [(Ev.STORE_REFUSED, [0, u.openReason r % 2 ^ 32])]) ∧
  (∀ (t : Nat) (k : Skein) (q : Sequence) (s u : State), s.advance t = u → u.store.skein = some k → u.store.seq = some q →
    ((u.readyPositions k q).all fun p => u.store.ring.any fun r => r.gen == q.gen && r.pos == p) = true → u.cue.skein = none →
    exec (.storeReady t) s = .next (u.setBit Reg.STORE_STAT 2 true)) ∧
  (∀ (t : Nat) (p : Prep) (r : RingRecord) (s u : State), s.advance t = u → u.store.prep = some p → p.missing = false →
    p.late = false → p.done = false → p.jobs = [] →
    (u.store.ring.find? fun x => x.gen == p.gen && x.pos == p.pos) = some r → r.plies = [] → u.prepTooLate = false → u.alone →
    exec (.storePrepDone t) s = .next ({ u with store := { u.store with prep := some { p with done := true } } }).commitGo) ∧
  (∀ (t l k : Nat) (p : Prep) (s u : State), s.advance t = u → u.store.prep = some p → u.nextLatch = some (l, k) →
    p.missing = false → p.late = false → p.done = false → u.prepArrives p = false → l ≤ u.now + us 30 →
    ∃ n : State, exec (.storePrepDeadline t) s = .next n ∧ n.store.prep = some { p with late := true } ∧
      n.fld Reg.STORE_AHEAD 16 16 = min 65535 (u.fld Reg.STORE_AHEAD 16 16 + 1) ∧ SameRegs u n [Reg.STORE_AHEAD] ∧
      RaisedBy u n [(Ev.STORE_FRAME_LATE, [p.frame, k % 2 ^ 16, 1].map (· % 2 ^ 32))])

/-- A command that completes with status 0 has its effect, one with an error status or without completion for 2 s has failed, and a
controller that reports a fatal status is disabled with its commands in flight ended (R312). A drive transfer that R325 admits
sets BUSY and sends its commands, of at most 256 LBAs or what the drive takes at once if that is less, to one drive, or to each
for a mirrored write or deallocate; when all of them have ended the result shows with STORE_XFER_DONE (R313, R325). -/
def Obligations.StoreDrives : Prop :=
  (∀ (t cid : Nat) (d : Fin 2) (bs : List Byte) (c : NvmeCmd) (s u v : State), s.advance t = u → u.nvmeTake d cid = some (c, v) →
    exec (.nvmeCompletion t d cid 0 bs) s = .next (v.nvmeGood c bs)) ∧
  (∀ (t cid st : Nat) (d : Fin 2) (bs : List Byte) (c : NvmeCmd) (s u v : State), s.advance t = u → u.nvmeTake d cid = some (c, v) →
    st ≠ 0 → exec (.nvmeCompletion t d cid st bs) s = .next (v.nvmeError c st)) ∧
  (∀ (t cid : Nat) (d : Fin 2) (c : NvmeCmd) (s u v : State), s.advance t = u → u.nvmeTake d cid = some (c, v) →
    (u.sameCycle fun i => match i with | .nvmeCompletion _ e k _ _ => e == d && k == cid | _ => false) = false →
    c.submitted + ms 2000 ≤ u.now → exec (.nvmeTimeout t d cid) s = .next (v.nvmeError c 0xFFFF)) ∧
  (∀ (t : Nat) (d : Fin 2) (s u : State), s.advance t = u → u.fld (Reg.STORE_DRV_STAT d) 0 2 = 2 →
    exec (.nvmeControllerFatal t d) s = .next ((u.disableDrive d 2).dropDrive d)) ∧
  (∀ (d cid : Nat) (c : NvmeCmd) (u v : State), u.nvmeTake d cid = some (c, v) →
    c ∈ u.store.inflight ∧ c.drive = d ∧ c.cid = cid ∧ v.regs = u.regs ∧ v.hbm = u.hbm ∧ v.raised = u.raised ∧
      (v.store.inflight.any fun x => x.drive == d && x.cid == cid) = false) ∧
  (∀ (t op bytes m k : Nat) (i : Instr) (req : Requester) (w x : Word) (s u : State), s.advance t = u →
    (i, op) ∈ [(Instr.storeXferRead t req w, 1), (.storeXferWrite t req w, 2), (.storeXferFlush t req w, 3),
      (.storeXferDeallocate t req w, 4), (.storeXferSmartLog t req w, 5)] →
    u.accepts req Reg.STORE_XFER_CMD (w.put 0 3 op) → x = w.put 0 3 op &&& writeMask Reg.STORE_XFER_CMD →
    bytes = (if op ≤ 2 then 4096 * (x.field 8 8 + 1) else if op = 5 then 512 else 0) →
    u.xferReason op (x.field 3 1) (u.nat Reg.STORE_XFER_LBA + x.field 4 1 * 2 ^ 32) (x.field 8 8 + 1)
      (u.fld Reg.STORE_XFER_HBM 0 23 * 4096) bytes = 0 →
    m = (if op = 2 ∧ u.bit Reg.STORE_CFG 2 = true then min (u.lbaLimit 0) (u.lbaLimit 1) else u.store.maxLbas[x.field 3 1]?.getD 256) →
    k = (if (op = 2 ∨ op = 4) ∧ u.bit Reg.STORE_CFG 2 = true then 2 else 1) * (if op ≤ 2 then ceilDiv (x.field 8 8 + 1) m else 1) →
    ∃ n : State, exec i s = .next n ∧ n.bit Reg.STORE_XFER_STAT 0 = true ∧ n.fld Reg.STORE_XFER_STAT 1 3 = 0 ∧
      n.store.xfer = some (op, k, false, 0) ∧ n.store.inflight.length = u.store.inflight.length + k ∧
      SameRegs u n [Reg.STORE_XFER_STAT] ∧ n.raised = u.raised ∧ n.hbm = u.hbm) ∧
  (∀ (t op st : Nat) (b : Bool) (s u : State), s.advance t = u → u.store.xfer = some (op, 0, b, st) → st < 65536 →
    ∃ n : State, exec (.storeXferDone t) s = .next n ∧ n.store.xfer = none ∧
      n.nat Reg.STORE_XFER_STAT = (if b then 2 else 1) * 2 + st * 2 ^ 16 ∧ SameRegs u n [Reg.STORE_XFER_STAT] ∧
      RaisedBy u n [(Ev.STORE_XFER_DONE, [op % 2 ^ 32, if b then 2 else 1, st])])

/-! ## The Ethernet ports and their queues -/

/-- A frame that fails a check is discarded and counted; behind READY a datagram for the port itself reaches its consumer, one over
its stream's rate is dropped and counted; 10 ms after a link level changed NET_LINK_STATE reports it (R340, R341, R363, R365,
R367). With pattern section 0x07 and behind READY a cue frame asks for its cue, a venue fragment joins its assembly, and 100 ms
after the first fragment an assembly that is not whole is dropped; a cue that the pattern does not know is ignored with
CUE_IGNORED (R343, R344). -/
def Obligations.EthernetReception : Prop :=
  (∀ (t : Nat) (x : Fin 2) (f : List Byte) (ok : Bool) (s u : State), s.advance t = u → u.netOn x = true → u.networkUp = true →
    u.frameOk x f ok = false → exec (.ethFrameRx t x f ok) s = .next (u.incFld (Reg.NET_DROP_CNT x) 0 16 1)) ∧
  (∀ (t j : Nat) (x : Fin 2) (f : List Byte) (ok : Bool) (s u v : State), s.advance t = u → u.netOn x = true → u.networkUp = true →
    u.frameOk x f ok = true → u.incFld (Reg.NET_RX_CNT x) 0 32 1 = v → v.ready = true → v.ownMac x f = true →
    v.consumer x (classify f) f = some j → v.ingressEntry x (classify f) f = none → udpSumOk (classify f) f = true →
    exec (.ethFrameRx t x f ok) s = .next (v.emit (.deliver x (some j)))) ∧
  (∀ (t j n : Nat) (x : Fin 2) (f : List Byte) (ok : Bool) (s u v : State), s.advance t = u → u.netOn x = true → u.networkUp = true →
    u.frameOk x f ok = true → u.incFld (Reg.NET_RX_CNT x) 0 32 1 = v → v.ready = true → v.ownMac x f = true →
    v.consumer x (classify f) f = some j → v.ingressEntry x (classify f) f = some n → v.bucket n x < 3200 * (f.length + 4) →
    exec (.ethFrameRx t x f ok) s = .next (v.policeDrop n x)) ∧
  (∀ (t : Nat) (x : Fin 2) (c : Nat × Nat × Bool) (s u : State), s.advance t = u → u.paired = false →
    (u.net.change.find? fun d => d.1 == x.val) = some c → c.2.1 + ms 10 ≤ u.now → u.linkMoves x = false →
    ∃ n : State, exec (.netLinkSettle t x) s = .next n ∧ n.hbm = u.hbm ∧ SameRegs u n [] ∧ (n.net.change.any fun d => d.1 == x.val) = false ∧
      RaisedBy u n [(Ev.NET_LINK_STATE, [x.val, if u.bit (Reg.NET_PORT_STAT x) 0 then 1 else 2])]) ∧
  (∀ (t : Nat) (x : Fin 2) (p : List Byte) (s u : State), s.advance t = u → u.sec.pattern.cueNet.isSome = true → u.ready = true →
    cueHeaderOk p = true → leAt p 5 1 = 1 → exec (.networkCueFrame t x p) s = .next (u.networkCue (leAt p 8 2))) ∧
  (∀ (n : Nat) (u : State), u.cueIndex n 2 = none → u.networkCue n = u.raise Ev.CUE_IGNORED [n, 1]) ∧
  (∀ (t : Nat) (x : Fin 2) (p : List Byte) (s u : State), s.advance t = u → u.sec.pattern.cueNet.isSome = true → u.ready = true →
    cueHeaderOk p = false → u.net.cueDrop.getD x (none, 0) = (none, 0) →
    ∃ n : State, exec (.networkCueFrame t x p) s = .next n ∧ n.hbm = u.hbm ∧ SameRegs u n [] ∧ n.cue = u.cue ∧ n.net.assembly = u.net.assembly ∧
      RaisedBy u n [(Ev.NET_CUE_DROP, [x.val, 1, 1])]) ∧
  (∀ (t : Nat) (x : Fin 2) (p : List Byte) (s u : State), s.advance t = u → u.sec.pattern.cueNet.isSome = true → u.ready = true →
    cueHeaderOk p = true → leAt p 5 1 = 2 → u.net.assembly = none →
    fragmentFits (leAt p 0xC 4) (p.drop 0x14).length (leAt p 0x10 4) = true →
    assembled [(leAt p 0xC 4, p.drop 0x14)] (leAt p 0x10 4) = none →
    exec (.venueFragment t x p) s = .next { u with
      net := { u.net with assembly := some ⟨leAt p 8 2, leAt p 0x10 4, x, u.now, [(leAt p 0xC 4, p.drop 0x14)]⟩ } }) ∧
  (∀ (t : Nat) (a : Assembly) (s u : State), s.advance t = u → u.net.assembly = some a → a.first + ms 100 ≤ u.now →
    (u.sameCycle fun i => match i with | .venueFragment _ _ p => leAt p 8 2 == a.id | _ => false) = false →
    assembled a.parts a.total = none →
    exec (.venueAssemblyTimeout t) s = .next (({ u with net := { u.net with assembly := none } }).cueDrop a.port 3))

/-- Of the queues that may be served the one of the highest number sends its next frame; a port with nothing to send falls idle, and
a queue whose credit reaches 0 in this cycle competes in it (R370, R372, R376). A sample counts an empty queue in the lowest bin
of both its histograms; CLEAR_HIST returns every bin to its reset value and nothing else changes; CLEAR_CNT zeroes every counter
but SEQ; a stream without a frame for its time resets its window, and a sample is taken once in 1 ms (R369, R377, R378). -/
def Obligations.TrafficQueuesAndCounters : Prop :=
  (∀ (x c q : Nat) (fr : QFrame) (u : State), (u.egress x).sending = none →
    ((List.range 8).reverse.find? fun k => u.eligibleQueue x k c) = some q → nextFrame ((u.egress x).queue q).frames = some fr →
    ((u.serve x c).egress x).sending = some (q, c, c + wireUnits fr.bytes.length)) ∧
  (∀ (x c : Nat) (u : State), (u.egress x).sending = none → ((List.range 8).any fun k => u.eligibleQueue x k c) = false → u.serve x c = u) ∧
  (∀ (t q c fin : Nat) (x : Fin 2) (s u : State), s.advance t = u → (u.egress x).sending = some (q, c, fin) → fin < unitsOf (u.now + 1) →
    ((List.range 8).all fun k => ((u.egress x).queue k).frames.isEmpty) = true → u.traf.ports.length = 2 →
    ∃ n : State, exec (.trafEgressDone t x) s = .next n ∧ (n.egress x).sending = none ∧ n.outbox = u.outbox ∧ n.hbm = u.hbm ∧ SameRegs u n [] ∧
      n.raised = u.raised) ∧
  (∀ (t : Nat) (x : Fin 2) (q : Fin 8) (s u : State), s.advance t = u → ((u.egress x).queue q).credit = 0 →
    ((u.egress x).queue q).at_ = unitsOf u.now →
    exec (.shapedQueueEligible t x q) s = .next (u.serve x (unitsOf u.now))) ∧
  (∀ (t x q : Nat) (s u : State), s.advance t = u → x < 2 → q < 8 → ((u.egress x).queue q).frames = [] →
    (((u.egress x).queue q).leftAt = u.now → ((u.egress x).queue q).left = []) → limited u.traf.histAt (ms 1) u.now = false →
    ∃ n : State, exec (.trafHistSample t) s = .next n ∧
      (∀ k : Nat, k < 2 → n.fld (Reg.TRAF_HIST x q k 0) 0 32 = min (2 ^ 32 - 1) (u.fld (Reg.TRAF_HIST x q k 0) 0 32 + 1)) ∧
      n.hbm = u.hbm ∧ n.raised = u.raised ∧ n.traf = { u.traf with histAt := some u.now }) ∧
  (∀ (t : Nat) (req : Requester) (s u : State), s.advance t = u → u.accepts req Reg.TRAF_CTL 2 →
    ∃ n : State, exec (.trafCtlClearHist t req) s = .next n ∧
      (∀ a : Nat, n.reg a = if Reg.TRAF_HIST 0 0 0 0 ≤ a ∧ a < Reg.TRAF_HIST 2 0 0 0 then resetWord a else u.reg a) ∧
      n.hbm = u.hbm ∧ n.raised = u.raised) ∧
  (∀ (t : Nat) (req : Requester) (s u : State), s.advance t = u → u.accepts req Reg.TRAF_CTL 1 →
    ∃ n : State, exec (.trafCtlClearCnt t req) s = .next n ∧
      (∀ x q : Nat, x < 2 → q < 8 → n.nat (Reg.TRAF_QDROP x q) = 0) ∧
      (∀ x k : Nat, x < 2 → k < 32 → n.nat (Reg.TRAF_OUT_STAT x k) = 0) ∧
      (∀ i : Nat, i < 256 → n.nat (Reg.TRAF_IN_CNT i 0) = 0 ∧ n.nat (Reg.TRAF_IN_CNT i 1) = 0 ∧ n.nat (Reg.TRAF_IN_CNT i 2) = 0 ∧
        n.fld (Reg.TRAF_IN_CNT i 3) 16 16 = 0 ∧ n.fld (Reg.TRAF_IN_CNT i 3) 0 16 = u.fld (Reg.TRAF_IN_CNT i 3) 0 16) ∧
      n.hbm = u.hbm ∧ n.raised = u.raised) ∧
  (∀ (t : Nat) (k : Fin 256) (s u : State), s.advance t = u → (u.deWindow k).fresh = false →
    u.frameNow 0 k (fun _ _ => true) = false → u.frameNow 1 k (fun _ _ => true) = false →
    (u.deWindow k).last + ms (u.fld (Reg.TRAF_IN_CFG k) 8 8) ≤ u.now →
    ∃ n : State, exec (.trafDeTimeout t k) s = .next n ∧ (n.deWindow k).fresh = true ∧ (n.deWindow k).hist = 0 ∧ n.hbm = u.hbm ∧ SameRegs u n [] ∧
      n.raised = u.raised)

/-! ## Yarn, the data ports and descriptor DMA -/

/-- The first fragment of an update starts its assembly and its data go to a place of the staging area, a descriptor packet in LIVE
writes its sixteen words, a commit packet in LIVE writes GO, and an update that is not whole 100 ms after its first fragment is
discarded; each discard is counted (R327 to R329). -/
def Obligations.YarnPackets : Prop :=
  (∀ (t : Nat) (y : Fin 16) (p : List Byte) (s u v : State), s.advance t = u → u.yarnEnabled y = true → fullMode u.modeCode = true →
    u.hbmOffPeriod = false → yarnHeaderOk p 1 = true → u.wakeHbm = v → v.store.updates = [] → within 33 16777216 (leAt p 0x10 4) = true →
    leAt p 0x0C 4 + (p.drop 32).length ≤ leAt p 0x10 4 → v.staged + leAt p 0x10 4 ≤ v.fld Reg.STORE_YSTAGE 16 15 * 2 ^ 20 →
    assembled [(leAt p 0x0C 4, p.drop 32)] (leAt p 0x10 4) = none →
    ∃ (n : State) (x : Update), exec (.yarnDataFragment t y p) s = .next n ∧ n.store.updates = [x] ∧ x.stream = y.val ∧ x.id = yarnUpdate p ∧
      x.total = leAt p 0x10 4 ∧ x.first = v.now ∧ x.parts = [(leAt p 0x0C 4, p.drop 32)] ∧ (v.area Reg.STORE_YSTAGE).1 ≤ x.base ∧
      x.base + x.total ≤ (v.area Reg.STORE_YSTAGE).2 ∧
      (∀ i : Nat, i < (p.drop 32).length → n.byte (x.base + leAt p 0x0C 4 + i) = (p.drop 32).getD i 0) ∧
      (∀ a : Nat, a < x.base + leAt p 0x0C 4 ∨ x.base + leAt p 0x0C 4 + (p.drop 32).length ≤ a → n.byte a = v.byte a) ∧
      SameRegs v n [] ∧ n.raised = v.raised) ∧
  (∀ (t : Nat) (y : Fin 16) (p : List Byte) (s u : State), s.advance t = u → u.yarnEnabled y = true → u.modeCode = Mode.LIVE →
    u.hbmOffPeriod = false → yarnHeaderOk p 2 = true → 100 ≤ p.length → leAt (p.drop 32) 0 1 ≤ 63 →
    exec (.yarnDescriptor t y p) s = .next (u.each (List.range 16) fun v i =>
      v.descWrite .yarn (leAt (p.drop 32) 0 1) i (Word.ofNat (leAt (p.drop 32) (4 + 4 * i) 4)))) ∧
  (∀ (t : Nat) (y : Fin 16) (p : List Byte) (s u : State), s.advance t = u → u.yarnEnabled y = true → u.modeCode = Mode.LIVE →
    u.hbmOffPeriod = false → yarnHeaderOk p 3 = true → u.accepts .yarn Reg.SCAN_COMMIT 1 →
    exec (.yarnCommit t y p) s = .next u.commitGo) ∧
  (∀ (t k : Nat) (y : Fin 16) (x : Update) (s u : State), s.advance t = u →
    (u.store.updates.find? fun z => z.stream == y.val && z.id == k) = some x → x.first + ms 100 ≤ u.now →
    (u.sameCycle fun i => match i with | .yarnDataFragment _ z p => z == y && yarnUpdate p == k | _ => false) = false →
    exec (.yarnUpdateTimeout t y k) s =
      .next (({ u with store := { u.store with updates := u.store.updates.erase x } }).yarnDrop y 2 k)) ∧
  (∀ (t : Nat) (y : Fin 16) (p : List Byte) (s u : State), s.advance t = u → u.modeCode ≠ Mode.LIVE →
    exec (.yarnDescriptor t y p) s = .next (u.yarnDrop y 1 (yarnUpdate p)) ∧
    exec (.yarnCommit t y p) s = .next (u.yarnDrop y 1 (yarnUpdate p))) ∧
  (∀ (y r k : Nat) (u : State),
    (u.yarnDrop y r k).fld (Reg.STORE_YARN_STAT y) 16 16 = min 65535 (u.fld (Reg.STORE_YARN_STAT y) 16 16 + 1) ∧
    SameRegs u (u.yarnDrop y r k) [Reg.STORE_YARN_STAT y] ∧ (u.yarnDrop y r k).store.updates = u.store.updates)

/-- A write TLP that enables every byte stores its data at the pointer and no other byte, and advances the pointer by whole steps; a
read TLP returns the bytes of HBM, or all ones beyond the usable range with DPORT_RANGE; a write of a pointer register drops
what the port prefetched (R331 to R333). A write of a channel's configuration or HEAD starts the entry at TAIL; an entry that
copies host data stores it in HBM, moves TAIL on and counts; an entry that fails stops its channel with DPORT_DMA_ERROR (R335,
R336). -/
def Obligations.DataPortsAndDma : Prop :=
  (∀ (t off k : Nat) (p : Fin 4) (data : List Byte) (s u v : State), s.advance t = u → u.endpointOn = true → u.ready = true →
    u.dport.period = none → (u.dropPrefetch p).wakeHbm = v → v.dportRange (u.dportPtr p) data.length = false → 4 < data.length →
    stepBytes (u.fld (Reg.DPORT_STEP p) 0 3) = k →
    ∃ n : State, exec (.dportWriteTlp t p off 15 15 data) s = .next n ∧
      (∀ i : Nat, i < data.length → n.byte (u.dportPtr p + i) = data.getD i 0) ∧
      (∀ a : Nat, a < u.dportPtr p ∨ u.dportPtr p + data.length ≤ a → n.byte a = u.byte a) ∧
      (k = 0 → SameRegs u n []) ∧
      (k ≠ 0 → n.dportPtr p = (u.dportPtr p + ceilDiv data.length k * k) % 2 ^ 35 ∧
        SameRegs u n [Reg.DPORT_PTR_LO p, Reg.DPORT_PTR_HI p]) ∧ n.raised = u.raised) ∧
  (∀ (t off len : Nat) (p : Fin 4) (s u : State), s.advance t = u → u.endpointOn = true → u.ready = true → u.dport.period = none →
    u.wakeHbm.dportRange (u.dportPtr p) (ceilDiv len 4 * 4) = false → u.lostIn (u.dportPtr p) (ceilDiv len 4 * 4) = false →
    (u.dport.prefetch.any fun x => x.1 == p.val) = false →
    ∃ n : State, exec (.dportReadTlp t p off len) s = .next n ∧
      n.outbox = u.outbox ++ [.completion (u.bytes (u.dportPtr p) (ceilDiv len 4 * 4))] ∧
      SameRegs u n [Reg.DPORT_PTR_LO p, Reg.DPORT_PTR_HI p] ∧ n.hbm = u.hbm ∧ n.raised = u.raised) ∧
  (∀ (t off len : Nat) (p : Fin 4) (s u : State), s.advance t = u → u.endpointOn = true → u.ready = true → u.dport.period = none →
    u.wakeHbm.dportRange (u.dportPtr p) (ceilDiv len 4 * 4) = true → mapGet u.dport.range p.val = none →
    ∃ n : State, exec (.dportReadTlp t p off len) s = .next n ∧ n.outbox = u.outbox ++ [.completion (allOnes (ceilDiv len 4 * 4))] ∧
      SameRegs u n [] ∧ n.hbm = u.hbm ∧
      RaisedBy u n [(Ev.DPORT_RANGE, [p.val, u.dportPtr p / 8, ceilDiv len 4 * 4].map (· % 2 ^ 32))]) ∧
  (∀ (t : Nat) (req : Requester) (p : Fin 4) (r : Fin 3) (w : Word) (s u : State), s.advance t = u → u.accepts req (dportReg p r) w →
    ∃ n : State, exec (.dportPtrWrite t req p r w) s = .next n ∧ (n.dport.prefetch.any fun x => x.1 == p.val) = false ∧
      n.reg (dportReg p r) = ((u.reg (dportReg p r) &&& ~~~writeMask (dportReg p r)) ||| (w &&& writeMask (dportReg p r))) ∧
      SameRegs u n [dportReg p r] ∧ n.raised = u.raised ∧ n.hbm = u.hbm) ∧
  (∀ (t : Nat) (req : Requester) (c : Fin 4) (r : Fin 2) (w : Word) (s u : State), s.advance t = u → u.accepts req (dmaReg c r) w →
    exec (.dportDmaStart t req c r w) s =
      .next ((u.store' req (dmaReg c r) (w &&& writeMask (dmaReg c r))).refreshRun.wakeHbm.dmaKick c)) ∧
  (∀ (c : Nat) (u : State), u.bit (Reg.DPORT_DMA_CFG c) 0 = true → u.bit (Reg.DPORT_DMA_STAT c) 0 = false → u.dport.period = none →
    u.fld (Reg.DPORT_DMA_TAIL c) 0 15 ≠ u.fld (Reg.DPORT_DMA_HEAD c) 0 15 → u.dmaKick c = u.setBit (Reg.DPORT_DMA_STAT c) 0 true) ∧
  (∀ (t : Nat) (c : Fin 4) (e : List Byte) (d : List Byte) (s u : State), s.advance t = u → u.bit (Reg.DPORT_DMA_STAT c) 0 = true →
    (u.dmaDecode c).isSome = false → (parseDma e).bad = false → (parseDma e).ctl.field 0 4 = 0 → (parseDma e).ctl.bit 10 = false → d.length = (parseDma e).length →
    u.dportRange (parseDma e).hbm (parseDma e).length = false →
    ∃ n : State, exec (.dportDmaEntryDone t c e d 0) s = .next n ∧
      (∀ i : Nat, i < d.length → n.byte ((parseDma e).hbm + i) = d.getD i 0) ∧
      (∀ a : Nat, a < (parseDma e).hbm ∨ (parseDma e).hbm + d.length ≤ a → n.byte a = u.byte a) ∧
      n.fld (Reg.DPORT_DMA_TAIL c) 0 15 =
        (u.fld (Reg.DPORT_DMA_TAIL c) 0 15 + 1) % 2 ^ u.fld (Reg.DPORT_DMA_CFG c) 4 4 % 2 ^ 15 ∧
      n.fld (Reg.DPORT_DMA_STAT c) 16 16 = min 65535 (u.fld (Reg.DPORT_DMA_STAT c) 16 16 + 1) ∧
      n.fld (Reg.DPORT_DMA_STAT c) 8 8 = 0 ∧ SameRegs u n [Reg.DPORT_DMA_TAIL c, Reg.DPORT_DMA_STAT c] ∧ n.raised = u.raised) ∧
  (∀ (t : Nat) (c : Fin 4) (e d : List Byte) (s u : State), s.advance t = u → u.bit (Reg.DPORT_DMA_STAT c) 0 = true →
    (u.dmaDecode c).isSome = false → (parseDma e).bad = true → (parseDma e).ctl.bit 0 = true →
    ∃ n : State, exec (.dportDmaEntryDone t c e d 0) s = .next n ∧ n.bit (Reg.DPORT_DMA_CFG c) 0 = false ∧
      n.fld (Reg.DPORT_DMA_STAT c) 8 8 = 1 ∧ n.bit (Reg.DPORT_DMA_STAT c) 0 = false ∧ n.hbm = u.hbm ∧
      SameRegs u n [Reg.DPORT_DMA_CFG c, Reg.DPORT_DMA_STAT c, Reg.DPORT_STAT] ∧
      RaisedBy u n [(Ev.DPORT_DMA_ERROR, [c.val, u.fld (Reg.DPORT_DMA_TAIL c) 0 15, 1])])

/-! ## Network time -/

/-- A Sync of the selected master is measured at once, or, being of two steps, with its Follow_Up; a path delay is measured with the
response to the slave's own request; an Announce is recorded; a time base that acquires and is more than 1 µs off steps onto its
master (R346, R347). A slave sends its Delay_Req with the next number, one interval after the last at the earliest; a LOCKED
time base without a Sync for three intervals holds over with TIME_TB_STATE; a master without an Announce for three intervals is
forgotten (R346, R347). -/
def Obligations.PtpSlaves : Prop :=
  (∀ (t b : Nat) (x : Fin 2) (m : PtpMsg) (s u : State), s.advance t = u → u.slaveOf x m = some b → m.twoStep = true →
    exec (.ptpSync t x m) s =
      .next (u.setSlave b { u.slave b with lastSync := u.now, syncLog := m.logInterval, twoStep := some m })) ∧
  (∀ (t b : Nat) (x : Fin 2) (m : PtpMsg) (s u : State), s.advance t = u → u.slaveOf x m = some b → m.twoStep = false →
    exec (.ptpSync t x m) s =
      .next ((u.setSlave b { u.slave b with lastSync := u.now, syncLog := m.logInterval, twoStep := none }).takeSync b x m.stamp
        ((m.origin : Int) + m.correction))) ∧
  (∀ (t b : Nat) (x : Fin 2) (m y : PtpMsg) (s u : State), s.advance t = u → u.slaveOf x m = some b → (u.slave b).twoStep = some y →
    y.seq = m.seq → exec (.ptpFollowUp t x m) s =
      .next ((u.setSlave b { u.slave b with twoStep := none }).takeSync b x y.stamp ((m.origin : Int) + y.correction + m.correction))) ∧
  (∀ (t b c : Nat) (x : Fin 2) (m : PtpMsg) (s u : State), s.advance t = u → u.slaveOf x m = some b →
    (u.slave b).delayReq = some (c, m.seq) → (u.slave b).mpd = [] →
    ∃ n : State, exec (.ptpDelayResp t x m) s = .next n ∧ (n.slave b).delayReq = none ∧ (n.slave b).delayLog = m.logInterval ∧
      (n.slave b).mpd = [((u.slave b).syncDelta + ((m.origin : Int) - (m.stamp + u.netAdj (Reg.NET_EGR_ADJ x)) - m.correction)) / 2] ∧
      n.hbm = u.hbm ∧ SameRegs u n [] ∧ n.raised = u.raised) ∧
  (∀ (t b : Nat) (x : Fin 2) (a : PtpAnnounce) (s u : State), s.advance t = u → u.domainBase a.domain = some b → u.slavePort b x = true →
    ∃ (n : State) (k : Master), exec (.ptpAnnounce t x a) s = .next n ∧ k ∈ (n.slave b).masters ∧ k.port = x.val ∧ k.ann = a ∧
      k.at_ = u.now) ∧
  (∀ (b : Nat) (o : Int) (u : State), u.tbState b = 1 → oneMicro < o.natAbs →
    ((u.servo b o).slave b).line = (u.slave b).line.step u.now (-o) ∧ (u.servo b o).tbState b = 1) ∧
  (∀ (t p : Nat) (src : List Byte) (b : Fin 2) (s u : State), s.advance t = u → (u.slave b).sel = some (src, p) →
    ((u.slave b).delayAt.all fun c => decide (c + logCycles 1 (u.slave b).delayLog ≤ u.now)) = true →
    ∃ n : State, exec (.ptpDelayReqDue t b) s = .next n ∧ (n.slave b).delayAt = some u.now ∧ (n.slave b).delaySeq = ((u.slave b).delaySeq + 1) % 2 ^ 16 ∧
      (n.slave b).delayReq = some (flatFns (u.time.tbFine b u.now), ((u.slave b).delaySeq + 1) % 2 ^ 16) ∧
      (n.slave b).sel = some (src, p)) ∧
  (∀ (t : Nat) (b : Fin 2) (s u : State), s.advance t = u → u.tbState b = 2 → u.syncNow b = false →
    (u.slave b).lastSync + logCycles 3 (u.slave b).syncLog ≤ u.now →
    ∃ (n : State) (e : Event), exec (.ptpSyncTimeout t b) s = .next n ∧ n.tbState b = 3 ∧ (n.slave b).lockedSince = none ∧ e ∈ n.raised ∧
      e.code = Ev.TIME_TB_STATE ∧ e.args.take 3 = [b.val, 2, 3] ∧ n.hbm = u.hbm ∧ SameRegs u n [Reg.TIME_STAT]) ∧
  (∀ (t p : Nat) (src : List Byte) (b : Fin 2) (s u : State), s.advance t = u → (u.slave b).sel = some (src, p) → u.announceNow b = false →
    (u.slave b).lastAnnounce + logCycles 3 (u.slave b).announceLog ≤ u.now →
    ∃ n : State, exec (.ptpAnnounceTimeout t b) s = .next n ∧
      (∀ m ∈ (n.slave b).masters, ¬(m.port = p ∧ m.ann.source = src)) ∧ n.hbm = u.hbm ∧ SameRegs u n [Reg.TIME_STAT])

/-- An edge on PPS_IN and the return of the 10 MHz input make their input present; 1.1 s without an edge, and the loss of the 10 MHz
input 10 µs or more after its return, end it with TIME_REF_LOSS; with REVERT and TB0 LOCKED for 10 s the source of show time
goes back to TB0 (R352, R354). SNAP takes all four time bases in one cycle; SET_TB3 and, before the first latch, SET_TB2 set the
time that TIME_SET names; PPS_OUT goes high at a second and low after its width (R350, R353, R359). -/
def Obligations.ShowTimeAndReferences : Prop :=
  (∀ (t : Nat) (s u : State), s.advance t = u →
    ∃ n : State, exec (.ppsInEdge t) s = .next n ∧ n.time.lastPps = u.now ∧ n.time.ppsPresent = true ∧ n.bit Reg.TIME_REF_STAT 1 = true ∧
      n.hbm = u.hbm ∧ SameRegs u n [Reg.TIME_REF_STAT, Reg.TIME_STAT, Reg.TIME_CAP_STAT 2]) ∧
  (∀ (t : Nat) (s u : State), s.advance t = u → u.fld Reg.TIME_STAT 8 2 = 2 →
    ∃ n : State, exec (.ref10mInputReturn t) s = .next n ∧ n.time.refPresent = true ∧ n.bit Reg.TIME_REF_STAT 0 = true ∧
      n.hbm = u.hbm ∧ SameRegs u n [Reg.TIME_REF_STAT, Reg.TIME_STAT]) ∧
  (∀ (t : Nat) (s u : State), s.advance t = u → u.time.ppsPresent = true →
    (u.sameCycle fun i => match i with | .ppsInEdge _ => true | _ => false) = false → u.time.lastPps + us 1100000 ≤ u.now →
    exec (.timeRefTimeout t 1) s = .next ((({ u with time := { u.time with ppsPresent := false } }).setBit Reg.TIME_REF_STAT 1 false).raise
      Ev.TIME_REF_LOSS [2]).pickSource) ∧
  (∀ (t : Nat) (s u : State), s.advance t = u → u.time.refPresent = true → u.time.refSince + us 10 ≤ u.now →
    (u.sameCycle fun i => match i with | .ref10mInputReturn _ => true | _ => false) = false →
    exec (.timeRefTimeout t 0) s = .next ((({ u with time := { u.time with refPresent := false } }).setBit Reg.TIME_REF_STAT 0 false).raise
      Ev.TIME_REF_LOSS [1]).pickSource) ∧
  (∀ (t c : Nat) (s u : State), s.advance t = u → u.fld Reg.TIME_TB2_CFG 0 3 = 2 → u.bit Reg.TIME_TB2_CFG 3 = true → u.tbSource = 1 →
    u.tbState 0 = 2 → u.time.tb0.lockedSince = some c → c + ms 10000 ≤ u.now →
    ∃ (n : State) (e : Event), exec (.tb2RevertTimeout t) s = .next n ∧ n.tbSource = 0 ∧ n.raised = u.raised ++ [e] ∧
      e.code = Ev.TIME_TB2_SOURCE ∧ e.args.take 2 = [1, 0] ∧ n.hbm = u.hbm ∧ SameRegs u n [Reg.TIME_STAT]) ∧
  (∀ u : State, u.wantedSource = u.tbSource → u.pickSource = u) ∧
  (∀ (t : Nat) (req : Requester) (s u : State), s.advance t = u → u.accepts req Reg.TIME_CTL 1 →
    ∃ n : State, exec (.timeCtlSnap t req) s = .next n ∧ (∀ b : Nat, b < 4 →
      n.nat (Reg.TIME_TB b 1) = u.time.tbFine b u.now / 2 ^ 40 % 1000000000 ∧
      n.nat (Reg.TIME_TB b 2) = u.time.tbFine b u.now / 2 ^ 40 / 1000000000 % 2 ^ 32 ∧
      n.nat (Reg.TIME_TB b 3) = u.time.tbFine b u.now / 2 ^ 40 / 1000000000 / 2 ^ 32 % 2 ^ 16) ∧
      n.time = u.time ∧ n.hbm = u.hbm ∧ n.raised = u.raised) ∧
  (∀ (t : Nat) (req : Requester) (s u : State), s.advance t = u → u.accepts req Reg.TIME_CTL 2 → u.tbSource ≠ 5 →
    exec (.timeCtlSetTb3 t req) s = .next { u with time := { u.time with tb3 := TimeLine.nominal u.now u.setTime } }) ∧
  (∀ (t : Nat) (req : Requester) (s u : State), s.advance t = u → u.accepts req Reg.TIME_CTL 4 →
    exec (.timeCtlSetTb2 t req) s = .next { u with
      time := { u.time with tb2 := { u.time.tb2 with at_ := u.now, value := u.setTime }, slew := {} } }) ∧
  (∀ (t : Nat) (s u : State), s.advance t = u → u.bit Reg.TIME_PPS_CFG 2 = true → u.networkUp = true → u.domainOn 78 = true →
    u.secondBegins (u.fld Reg.TIME_PPS_CFG 0 2) = true →
    exec (.ppsOutSecond t) s = .next { u with pins := { u.pins with ppsOut := true }, time := { u.time with ppsAt := some u.now } }) ∧
  (∀ (t : Nat) (s u : State), s.advance t = u → u.networkUp = false → exec (.ppsOutSecond t) s = .next u) ∧
  (∀ (t : Nat) (s u : State), s.advance t = u →
    (u.time.ppsAt.all fun c => decide (c + us (u.fld Reg.TIME_PPS_CFG 8 20) ≤ u.now)) = true →
    exec (.ppsOutWidthEnd t) s = .next { u with pins := { u.pins with ppsOut := false }, time := { u.time with ppsAt := none } })

/-- The host is given the free comparator of lowest number, and none when all eight are in use; a release clears EN; a one-shot
comparator that is due fires once, counts, and clears EN; ACTION 0 drives its output high, and the end of a pulse drives it low
(R355 to R358). An edge that its input captures is stamped with the input's time base and queued behind the others; a read of
FNS takes the oldest stamp and returns it (R360). -/
def Obligations.ComparatorsAndCaptures : Prop :=
  (∀ (t k : Nat) (s u : State), s.advance t = u → u.accepts .host Reg.TIME_CMP_ALLOC 1 → k < 8 → k ∉ u.cmpUsed →
    (∀ j : Nat, j < k → j ∈ u.cmpUsed) →
    exec (.timeCmpAllocReq t .host) s =
      .next (u.setNat Reg.TIME_CMP_ALLOC_STAT (1 + k * 2 ^ 8 + (ofBits u.cmpUsed + 2 ^ k) * 2 ^ 16))) ∧
  (∀ (t : Nat) (s u : State), s.advance t = u → u.accepts .host Reg.TIME_CMP_ALLOC 1 → (∀ j : Nat, j < 8 → j ∈ u.cmpUsed) →
    ∃ n : State, exec (.timeCmpAllocReq t .host) s = .next n ∧ n.fld Reg.TIME_CMP_ALLOC_STAT 0 2 = 2 ∧
      n.hbm = u.hbm ∧ SameRegs u n [Reg.TIME_CMP_ALLOC_STAT] ∧ RaisedBy u n [(Ev.TIME_CONFLICT, [1, 1, Reg.TIME_CMP_ALLOC])]) ∧
  (∀ (t : Nat) (req : Requester) (k : Fin 8) (s u : State), s.advance t = u →
    u.accepts req Reg.TIME_CMP_ALLOC (Word.ofNat (2 + k.val * 2 ^ 8)) →
    ∃ n : State, exec (.timeCmpAllocFree t req k) s = .next n ∧ n.bit (Reg.TIME_CMP k 0) 0 = false ∧
      n.bit Reg.TIME_CMP_ALLOC_STAT (16 + k) = false ∧ n.hbm = u.hbm ∧ SameRegs u n [Reg.TIME_CMP k 0, Reg.TIME_CMP_ALLOC_STAT] ∧
      n.raised = u.raised) ∧
  (∀ (t e : Nat) (k : Fin 8) (s u : State), s.advance t = u → (u.sameCycle fun i => match i with | .timeCmpFire _ j => decide (j.val < k.val) | _ => false) = false →
    u.cmpDue k = true → u.cmpExact k = some e →
    u.fld (Reg.TIME_CMP k 0) 1 2 = 0 → u.bit (Reg.TIME_CMP k 0) 14 = false →
    ∃ n : State, exec (.timeCmpFire t k) s = .next n ∧
      n.fld (Reg.TIME_CMP k 7) 0 16 = min 65535 (u.fld (Reg.TIME_CMP k 7) 0 16 + 1) ∧ n.bit (Reg.TIME_CMP k 0) 0 = false ∧
      n.hbm = u.hbm ∧ SameRegs u n [Reg.TIME_CMP k 0, Reg.TIME_CMP k 7] ∧ n.raised = u.raised ∧
      (u.fld (Reg.TIME_CMP k 0) 8 3 ≤ 3 → u.fld (Reg.TIME_CMP k 0) 12 2 = 0 →
        n.pins.tout.testBit (u.fld (Reg.TIME_CMP k 0) 8 3) = true)) ∧
  (∀ (t : Nat) (k : Fin 8) (s u : State), s.advance t = u → (u.sameCycle fun i => match i with | .timeCmpFire _ j => decide (j.val < k.val) | _ => false) = false →
    u.cmpDue k = false → exec (.timeCmpFire t k) s = .next u) ∧
  (∀ (t : Nat) (o : Fin 4) (s u : State), s.advance t = u → (u.time.pulses.any fun p => p.1 == o.val && decide (p.2 ≤ u.now)) = true →
    ∃ n : State, exec (.timePulseEnd t o) s = .next n ∧ n.pins.tout.testBit o = false ∧
      (n.time.pulses.any fun p => p.1 == o.val) = false ∧ n.hbm = u.hbm ∧ n.regs = u.regs ∧ n.raised = u.raised) ∧
  (∀ (t : Nat) (m : Fin 3) (dn : Bool) (s u : State), s.advance t = u → u.captures m dn = true → (u.cap m).queue.length < 16 →
    u.time.caps.length = 3 → u.bit (Reg.TIME_CAP_CFG m) 6 = false →
    ∃ n : State, exec (.timeCaptureEdge t m dn) s = .next n ∧
      (n.cap m).queue = (u.cap m).queue ++ [⟨flatFns (u.time.tbFine (u.fld (Reg.TIME_CAP_CFG m) 4 2) u.now), dn⟩] ∧
      n.fld (Reg.TIME_CAP_STAT m) 0 5 = (u.cap m).queue.length + 1 ∧ n.hbm = u.hbm ∧ SameRegs u n [Reg.TIME_CAP_STAT m] ∧ n.raised = u.raised) ∧
  (∀ (t : Nat) (m : Fin 3) (dn : Bool) (s u : State), s.advance t = u → u.captures m dn = false →
    exec (.timeCaptureEdge t m dn) s = .next u) ∧
  (∀ (t : Nat) (m : Fin 3) (v : Stamp) (rest : List Stamp) (s u : State), s.advance t = u → u.ready = true →
    u.resetOver (Reg.TIME_CAP_FNS m) = none → u.blockAnswers (Reg.TIME_CAP_FNS m) = true → (u.cap m).queue = v :: rest →
    u.time.caps.length = 3 →
    ∃ n : State, exec (.timeCapFnsRead t m) s = .next n ∧ (n.cap m).queue = rest ∧
      n.nat (Reg.TIME_CAP_FNS m) = v.flat % 2 ^ 16 + bitOf v.falling * 2 ^ 16 + 2 ^ 31 ∧
      n.nat (Reg.TIME_CAP_LO m) = v.flat / 2 ^ 16 % 2 ^ 32 ∧ n.nat (Reg.TIME_CAP_HI m) = v.flat / 2 ^ 48 % 2 ^ 32 ∧
      n.outbox = u.outbox ++ [.completion (leBytes 4 (n.nat (Reg.TIME_CAP_FNS m)))] ∧
      n.hbm = u.hbm ∧ SameRegs u n [Reg.TIME_CAP_STAT m, Reg.TIME_CAP_FNS m, Reg.TIME_CAP_LO m, Reg.TIME_CAP_HI m] ∧ n.raised = u.raised)

/-! ## The chain -/

/-- A block in order is taken and the next SEQ expected, one out of order or damaged is NAKed once; an ACK goes out on a port that
is up; an ACK frees the blocks up to its SEQ, and blocks that wait take their place; a NAK sends again from its SEQ; a packet
held for 1 ms is discarded and counted (R383 to R385). A TRAIN block is taken by a chained device; a port that waits and is in
turn asks, and again after 10 ms; 500 ms after the first request a member that has not answered is absent; TIME goes out on a
port that is up, once in 1 ms, and the TIME of the port that the loop follows carries the sender's time plus the port's delay
(R68, R386, R387). -/
def Obligations.ChainBlocksAndHandshake : Prop :=
  (∀ (t : Nat) (p : Fin 4) (b : List Byte) (s u v : State), s.advance t = u → u.portUp p = true → b.length = 32 →
    (parseDataBlock b).2.2.2 = true → (parseDataBlock b).2.2.1 = (u.chainPort p).rxSeq → (u.chainPort p).sinceAck < 127 →
    u.setChainPort p { u.chainPort p with
      rxSeq := ((u.chainPort p).rxSeq + 1) % 2 ^ 16, naked := false, sinceAck := (u.chainPort p).sinceAck + 1 } = v →
    exec (.chainDataBlock t p b) s = .next (v.takeWords p (parseDataBlock b).1 (parseDataBlock b).2.1)) ∧
  (∀ (t : Nat) (p : Fin 4) (b : List Byte) (s u : State), s.advance t = u → u.portUp p = true →
    b.length ≠ 32 ∨ (parseDataBlock b).2.2.2 = false ∨ (parseDataBlock b).2.2.1 ≠ (u.chainPort p).rxSeq →
    ((u.chainPort p).naked = true → exec (.chainDataBlock t p b) s = .next u) ∧
    ((u.chainPort p).naked = false → exec (.chainDataBlock t p b) s =
      .next ((u.setChainPort p { u.chainPort p with naked := true }).sendControl p 0x42 ((u.chainPort p).rxSeq * 2 ^ 8)))) ∧
  (∀ (t : Nat) (p : Fin 4) (s u : State), s.advance t = u → u.portUp p = true →
    u.chain.ports.length = 4 →
    ∃ n : State, exec (.chainAckDue t p) s = .next n ∧ (n.chainPort p).sinceAck = 0 ∧ (n.chainPort p).ackAt = u.now ∧
      n.outbox = u.outbox ++ [.chain p (ctlBlock 0x41 (((u.chainPort p).rxSeq + 2 ^ 16 - 1) % 2 ^ 16 * 2 ^ 8))] ∧ n.hbm = u.hbm ∧ n.regs = u.regs) ∧
  (∀ (t k : Nat) (p : Fin 4) (a b : List (Nat × List Byte)) (d : List Byte) (s u : State), s.advance t = u → k < 2 ^ 16 →
    (u.chainPort p).unacked = a ++ (k, d) :: b → (a.all fun x => x.1 != k) = true →
    exec (.chainAck t p k) s = .next ((u.setChainPort p { u.chainPort p with unacked := b }).drain p)) ∧
  (∀ (p : Nat) (u : State), (u.chainPort p).wait0 = [] → (u.chainPort p).wait1 = [] → u.drain p = u) ∧
  (∀ (t k : Nat) (p : Fin 4) (a b : List (Nat × List Byte)) (d : List Byte) (s u : State), s.advance t = u → k < 2 ^ 16 →
    u.portUp p = true → (u.chainPort p).nakSeq = none → (u.chainPort p).unacked = a ++ (k, d) :: b → (a.all fun x => x.1 != k) = true →
    ∃ n : State, exec (.chainNak t p k) s = .next n ∧ n.outbox = u.outbox ++ ((k, d) :: b).map (fun x => Out.chain p x.2) ∧
      n.fld (Reg.CHAIN_PORT_CNT p) 0 16 = min 65535 (u.fld (Reg.CHAIN_PORT_CNT p) 0 16 + 1) ∧ n.hbm = u.hbm ∧ SameRegs u n [Reg.CHAIN_PORT_CNT p] ∧
      n.raised = u.raised) ∧
  (∀ (t c : Nat) (p : Fin 4) (k : Packet) (s u : State), s.advance t = u → (u.chainPort p).held = [(c, k)] → c + ms 1 ≤ u.now →
    u.chain.ports.length = 4 →
    ∃ n : State, exec (.chainHeldTimeout t p) s = .next n ∧ (n.chainPort p).held = [] ∧
      n.fld (Reg.CHAIN_PORT_CNT p) 24 8 = min 255 (u.fld (Reg.CHAIN_PORT_CNT p) 24 8 + 1) ∧ n.hbm = u.hbm ∧ SameRegs u n [Reg.CHAIN_PORT_CNT p] ∧
      n.outbox = u.outbox ∧ n.raised = u.raised) ∧
  (∀ (t : Nat) (p : Fin 4) (b : List Byte) (s u : State), s.advance t = u → ctlOk b = true → blockField b 0 8 = 0x40 →
    u.chain.chained = true → exec (.chainTrainBlock t p b) s = .next (u.takeTrain p b)) ∧
  (∀ (t : Nat) (p : Fin 4) (b : List Byte) (s u : State), s.advance t = u → ctlOk b = false → exec (.chainTrainBlock t p b) s = .next u) ∧
  (∀ (t q : Nat) (p : Fin 4) (s u : State), s.advance t = u → (u.peerPorts.find? fun x => x.1 == p.val) = some (p.val, q) →
    u.asksAgain p q = true → exec (.handshakeRepeat t p) s = .next (u.askEcho p q)) ∧
  (∀ (t : Nat) (q : Fin 8) (s u : State), s.advance t = u →
    (u.chain.asked.any fun a => a.1 == q.val && decide (a.2 + ms 500 ≤ u.now)) = true →
    (u.peerPorts.any fun x => x.2 == q.val && !(u.chainPort x.1).echoes.isEmpty) = false → u.answersNow q = false →
    u.chain.done.contains q.val = false → u.chain.absent.contains q.val = false →
    exec (.handshakeAbsentTimeout t q) s =
      .next (({ u with chain := { u.chain with absent := u.chain.absent ++ [q.val] } }).decideJoin.pumpHandshake)) ∧
  (∀ (t : Nat) (p : Fin 4) (s u : State), s.advance t = u → u.portUp p = true →
    limited (u.chainPort p).timeAt (ms 1) u.now = false → u.chain.ports.length = 4 →
    ∃ n : State, exec (.chainTimeDue t p) s = .next n ∧ (n.chainPort p).timeAt = some u.now ∧
      n.outbox = u.outbox ++ [.chain p (ctlBlock 0x44 (stamp80 u.showNs * 2 ^ 24))] ∧ n.hbm = u.hbm ∧ n.regs = u.regs ∧ n.raised = u.raised) ∧
  (∀ (t : Nat) (p : Fin 4) (b : List Byte) (s u : State), s.advance t = u → ctlOk b = true → blockField b 0 8 = 0x44 →
    u.portUp p = true → u.loops = true → u.loopPort = p.val → u.tbSource ≠ 4 →
    ∃ (n : State) (l : TimeLine), exec (.chainTimeBlock t p b) s = .next n ∧ n.time.chainLine = some l ∧ l.at_ = u.now ∧
      l.value = (blockField b 56 48 * 1000000000 + blockField b 24 32) * 2 ^ 40 + u.fld (Reg.CHAIN_PORT_DELAY p) 0 16 * 2 ^ 38 ∧
      n.time.tb2 = u.time.tb2 ∧ n.hbm = u.hbm ∧ SameRegs u n [] ∧ n.raised = u.raised)

/-- A packet for this member has its effect: a mirrored write is carried out as a write of the chain, mirrored state as a write for
each pair, a commit names its frame, a mode command that a transition blocks is refused as BUSY, a signed object goes to the
verification, and the lead's join frame is noted; one for another member has none (R91, R388, R389, R398). The partner's digest
of the latched frame is reconciled or compared, and 20 µs after the latch one that has not come is replaced with
CHAIN_XCHG_LATE; a ply that the partner took off is taken off; a distributed record joins the ring where the sequence expects it
(R388, R390, R391). -/
def Obligations.ChainPacketsAndTwins : Prop :=
  (∀ (t : Nat) (p : Fin 4) (b : List Byte) (s u : State), s.advance t = u → u.takes (packetOf b) 1 = true →
    exec (.chainRegisterWrite t p b) s =
      .next (u.plainWrite .chain ((packetOf b).body.getD 0 0).toNat 4 ((packetOf b).body.getD 1 0))) ∧
  (∀ (t : Nat) (p : Fin 4) (b : List Byte) (a v : Word) (s u : State), s.advance t = u → u.takes (packetOf b) 8 = true →
    (packetOf b).body = [a, v] →
    ∃ n : State, exec (.chainJoinState t p b) s = .next n ∧ n.chain.joinState = joinStep u.chain.joinState [mirrorScope a.toNat] ∧ n.regs = (u.plainWrite .chain a.toNat 4 v).regs ∧
      n.rws = (u.plainWrite .chain a.toNat 4 v).rws) ∧
  (∀ (t : Nat) (p : Fin 4) (b : List Byte) (s u : State), s.advance t = u → u.takes (packetOf b) 2 = true →
    u.frame.latched = false ∨ fenceReached ((packetOf b).body.getD 0 0).toNat
      ((u.closing.map fun x => u.goCount x.1 x.2).getD ((packetOf b).body.getD 0 0).toNat) = true →
    ∃ n : State, exec (.chainCommit t p b) s = .next n ∧ n.frame.go = some (u.now, some ((packetOf b).body.getD 0 0).toNat) ∧
      n.bit Reg.SCAN_COMMIT 0 = true ∧ n.bit Reg.SCAN_COMMIT 1 = false ∧
      n.fld Reg.SCAN_COMMIT 16 16 = ((packetOf b).body.getD 0 0).toNat % 65536 ∧ n.hbm = u.hbm ∧ SameRegs u n [Reg.SCAN_COMMIT] ∧ n.raised = u.raised) ∧
  (∀ (t : Nat) (p : Fin 4) (b : List Byte) (s u : State), s.advance t = u → u.takes (packetOf b) 3 = true → u.busy = false →
    u.modeCheck (((packetOf b).body.getD 0 0).field 0 8) true = none →
    exec (.chainModeCommand t p b) s = .next (u.startMode (((packetOf b).body.getD 0 0).field 0 8) false
      (((packetOf b).body.getD 0 0).field 8 8) (((packetOf b).body.getD 0 0).field 16 8) (some ((packetOf b).body.getD 1 0).toNat))) ∧
  (∀ (t : Nat) (p : Fin 4) (b : List Byte) (s u : State), s.advance t = u → u.takes (packetOf b) 3 = true → u.busy = true →
    exec (.chainModeCommand t p b) s = .next (u.refuseMode (((packetOf b).body.getD 0 0).field 0 8) 2 0
      (((packetOf b).body.getD 0 0).field 8 8) (((packetOf b).body.getD 0 0).field 16 8) 2)) ∧
  (∀ (t : Nat) (p : Fin 4) (b : List Byte) (s u : State), s.advance t = u → u.takes (packetOf b) 7 = true →
    exec (.chainSignedObject t p b) s = .next (u.venueArrives 3
      ((((packetOf b).body.drop 2).flatMap fun w => leBytes 4 w.toNat).take ((packetOf b).body.getD 1 0).toNat)
      (some ((packetOf b).body.getD 0 0).toNat))) ∧
  (∀ (t : Nat) (p : Fin 4) (b : List Byte) (s u : State), s.advance t = u → u.takes (packetOf b) 9 = true → u.joined = false →
    exec (.chainJoinFrame t p b) s =
      .next { u with chain := { u.chain with joinFrame := some ((packetOf b).body.getD 0 0).toNat } }) ∧
  (∀ (t : Nat) (p : Fin 4) (b : List Byte) (s u : State), s.advance t = u → u.chain.chained = false →
    exec (.chainRegisterWrite t p b) s = .next u ∧ exec (.chainCommit t p b) s = .next u ∧ exec (.chainModeCommand t p b) s = .next u ∧
    exec (.chainSkeinRecord t p b) s = .next u ∧ exec (.chainPlyOff t p b) s = .next u) ∧
  (∀ (t : Nat) (p : Fin 4) (b : List Byte) (d : Digest) (g : FrameInfo) (s u : State), s.advance t = u → u.takes (packetOf b) 5 = true →
    u.frame.boundary = true → (packetOf b).body.getD 0 0 = 1 → u.chain.own = some d → u.frame.next = some g → u.chain.got1 = false →
    (parseDigest (packetOf b).body).frame = d.frame →
    exec (.chainLatchDigest t p b) s = .next ((u.reconcile d (parseDigest (packetOf b).body) g).sendDigest2 g)) ∧
  (∀ (d p : Digest) (g : FrameInfo) (u : State), u.isLead = true → p.rejected = 0 → p.skipped = 0 → p.shed = 0 →
    u.reconcile d p g = u) ∧
  (∀ (t fr c : Nat) (g : FrameInfo) (s u : State), s.advance t = u → u.chain.wait = some (fr, c) → u.frame.next = some g → c ≤ u.now →
    u.digestNow 2 = false → u.chain.got1 = true → u.chain.got2 = false →
    ∃ n : State, exec (.digestTimeout t) s = .next n ∧ n.chain.wait = none ∧ n.chain.got2 = true ∧ n.chain.matched = 0 ∧ n.hbm = u.hbm ∧ n.regs = u.regs ∧
      RaisedBy u n [(Ev.CHAIN_XCHG_LATE, [fr % 2 ^ 16, 2])]) ∧
  (∀ (t : Nat) (p : Fin 4) (b : List Byte) (f : FrameInfo) (s u : State), s.advance t = u → u.rayFrame = some f →
    u.takes (packetOf b) 6 = true → f.count % 2 ^ 32 = ((packetOf b).body.getD 2 0).toNat →
    (u.frame.off.any fun x => x.1 == ((packetOf b).body.getD 0 0).toNat) = false →
    exec (.chainPlyOff t p b) s = .next (((u.takeOff ((packetOf b).body.getD 0 0).toNat).runEngine).raise Ev.CHAIN_OFF_ADOPTED
      [((packetOf b).body.getD 0 0).toNat, ((packetOf b).body.getD 1 0).field 0 8, ((packetOf b).body.getD 1 0).field 8 8,
        ((packetOf b).body.getD 2 0).toNat % 2 ^ 16])) ∧
  (∀ (t : Nat) (p : Fin 4) (b : List Byte) (s u : State), s.advance t = u → u.takes (packetOf b) 4 = true → u.readsRecords = false →
    exec (.chainSkeinRecord t p b) s = .next (u.chainRecord ((packetOf b).body.getD 0 0).toNat
      ((((packetOf b).body.drop 2).flatMap fun w => leBytes 4 w.toNat).take ((packetOf b).body.getD 1 0).toNat)))

/-- A chained device sends its heartbeat with the next number; a heartbeat of a peer marks it present with what it says; 3 ms
without one on Ethernet take that path down with CHAIN_PATH_ALARM (R392, R393). 3 ms without a heartbeat of the partner on
either path declare it failed: this member leads under a new epoch. A lead that was declared so and sees fewer tiles locked than
the partner yields; without SHARE the zones pass with the lead; when the tiles report no lock on the partner the full share of
IREF is taken up (R394, R395, R397). -/
def Obligations.HeartbeatsAndFailover : Prop :=
  (∀ (t : Nat) (s u : State), s.advance t = u → u.chain.chained = true → u.paired = false →
    limited u.chain.hbAt (us 990) u.now = false →
    ∃ n : State, exec (.heartbeatDue t) s = .next n ∧ n.chain.hbAt = some u.now ∧ n.chain.hbSeq = (u.chain.hbSeq + 1) % 2 ^ 16 ∧
      n.outbox = u.outbox ++ (((List.range 4).filter u.portUp).map fun p => Out.chain p (ctlBlock 0x43 (leNat u.hbBody * 2 ^ 16))) ∧
      n.hbm = u.hbm ∧ n.regs = u.regs ∧ n.raised = u.raised) ∧
  (∀ (t : Nat) (p : Fin 4) (b : List Byte) (h : Heartbeat) (s u : State), s.advance t = u → u.hbOfBlock p b = some h →
    u.partnerId ≠ some h.sender →
    ∃ n : State, exec (.chainHbBlock t p b) s = .next n ∧
      n.reg (Reg.CHAIN_MEMBER h.sender) = Word.ofNat (1 + h.mode % 16 * 2 + h.flags % 64 * 2 ^ 5 + h.epoch * 2 ^ 16) ∧
      n.hbm = u.hbm ∧ SameRegs u n [Reg.CHAIN_MEMBER h.sender] ∧ (h.sender, u.now) ∈ n.chain.peers ∧ h.sender ∉ n.chain.lostPeers ∧
      n.raised = u.raised) ∧
  (∀ (t : Nat) (x : Fin 2) (b : List Byte) (h : Heartbeat) (s u : State), s.advance t = u → u.hbOfDatagram x b = some h →
    u.ready = true → u.joined = true →
    ∃ n : State, exec (.heartbeatDatagram t x b) s = .next n ∧ n.chain.hbEth = some u.now ∧ n.bit Reg.CHAIN_HB_STAT 1 = true ∧
      n.chain.partner = some h) ∧
  (∀ (t c : Nat) (s u : State), s.advance t = u → u.chain.hbEth = some c → c + ms 3 ≤ u.now →
    u.beatNow (u.partnerId.getD 8) false = false →
    u.bit Reg.CHAIN_HB_STAT 1 = true →
    exec (.hbPathTimeout t 1) s =
      .next ((u.setBit Reg.CHAIN_HB_STAT 1 false).raise Ev.CHAIN_PATH_ALARM [u.partnerId.getD 0, 2, 1])) ∧
  (∀ (t q c : Nat) (s u : State), s.advance t = u → u.chain.peers = [(q, c)] → c + ms 3 ≤ u.now → u.chain.lostPeers.contains q = false →
    u.beatNow q true = false → u.partnerId ≠ some q →
    ∃ (n : State) (e : Event), exec (.hbPathTimeout t 0) s = .next n ∧ n.bit (Reg.CHAIN_MEMBER q) 0 = false ∧
      n.chain.lostPeers = u.chain.lostPeers ++ [q] ∧ n.hbm = u.hbm ∧ SameRegs u n [Reg.CHAIN_MEMBER q] ∧ n.raised = u.raised ++ [e] ∧
      e.code = Ev.CHAIN_MEMBER_LOST ∧ e.args.head? = some (q % 2 ^ 32)) ∧
  (∀ (t c : Nat) (s u : State), s.advance t = u → u.paired = true → u.bit Reg.CHAIN_STAT 8 = false → u.lastBeat = some c →
    c + ms 3 ≤ u.now → u.beatNow (u.partnerId.getD 8) true = false → u.beatNow (u.partnerId.getD 8) false = false →
    ∃ n : State, exec (.partnerFailTimeout t) s = .next n ∧ n.bit Reg.CHAIN_STAT 8 = true ∧ n.bit Reg.CHAIN_STAT 6 = true ∧
      n.fld Reg.SPK_EPOCH 0 16 = u.nextEpoch ∧ n.chain.wasLead = u.isLead ∧ n.chain.wait = none ∧
      n.hbm = u.hbm ∧ SameRegs u n ([Reg.CHAIN_STAT, Reg.SPK_EPOCH] ++ zoneRegs) ∧ ZonesPass u n true ∧
      n.raised.map (·.code) = u.raised.map (·.code) ++ [Ev.CHAIN_PARTNER_FAILED, Ev.CHAIN_LEAD_CHANGE]) ∧
  (∀ (t c : Nat) (s u : State), s.advance t = u → u.paired = true → u.bit Reg.CHAIN_STAT 8 = true → u.chain.wasLead = true →
    u.lastBeat = some c → c + ms 6 ≤ u.now → u.bit Reg.CHAIN_STAT 9 = false → (u.tiles.filter u.enumerated).length < 2 * u.partnerLocks.1 →
    ∃ n : State, exec (.yieldCheck t) s = .next n ∧ n.bit Reg.CHAIN_STAT 9 = true ∧ n.bit Reg.CHAIN_STAT 6 = false ∧
      n.bit Reg.CHAIN_STAT 5 = false ∧ n.hbm = u.hbm ∧ SameRegs u n (Reg.CHAIN_STAT :: zoneRegs) ∧
      ZonesPass u n (u.bit Reg.CHAIN_CFG 2) ∧
      RaisedBy u n [(Ev.CHAIN_YIELDED, [u.partnerLocks.1 % 2 ^ 32, u.fld Reg.SPK_EPOCH 0 16])]) ∧
  (∀ (t c : Nat) (s u : State), s.advance t = u → u.chain.noPartnerLock = some c → u.paired = true → c + us 100 ≤ u.now →
    u.bit Reg.CHAIN_STAT 9 = false → u.bit Reg.CHAIN_CFG 2 = true → u.bit Reg.CHAIN_STAT 10 = false → u.fld Reg.EMIT_STAT 0 3 ≠ 3 →
    exec (.irefTakeupTimeout t) s = .next ((u.setBit Reg.CHAIN_STAT 10 true).raise Ev.CHAIN_IREF_FULL [1, u.lastLatched % 2 ^ 16]))

/-- JOIN gives leave to join; HANDBACK on a lead moves the lead at the next latch, TAKE moves it here and YIELD away at once, each
under the epoch that comes behind both members', and without SHARE the zones pass with it; HANDBACK or YIELD without a joined
partner, and TAKE on a lead, are refused with CHAIN_CTL_REFUSED; CLEAR zeroes the port counters (R398, R399). -/
def Obligations.ChainControlMovesTheLead : Prop :=
  (∀ (t : Nat) (req : Requester) (s u : State), s.advance t = u → u.accepts req Reg.CHAIN_CTL 1 → u.joined = false →
    exec (.chainCtlJoin t req) s = .next { u with chain := { u.chain with joinAllowed := true } }) ∧
  (∀ (t : Nat) (req : Requester) (s u : State), s.advance t = u → u.accepts req Reg.CHAIN_CTL 2 → u.partnerFlag 2 = true →
    u.isLead = true → u.cadenceRuns = true →
    exec (.chainCtlHandback t req) s = .next { u with chain := { u.chain with leadMove := some 2 } }) ∧
  (∀ (t : Nat) (req : Requester) (s u : State), s.advance t = u → u.accepts req Reg.CHAIN_CTL 4 → u.isLead = false → u.paired = true →
    ∃ n : State, exec (.chainCtlTake t req) s = .next n ∧ n.isLead = true ∧ n.isActing = (u.isActing || u.partnerFlag 0) ∧
      n.fld Reg.SPK_EPOCH 0 16 = u.nextEpoch ∧ n.hbm = u.hbm ∧ SameRegs u n ([Reg.CHAIN_STAT, Reg.SPK_EPOCH] ++ zoneRegs) ∧
      ZonesPass u n true ∧ n.raised.map (·.code) = u.raised.map (·.code) ++ [Ev.CHAIN_LEAD_CHANGE]) ∧
  (∀ (t : Nat) (req : Requester) (s u : State), s.advance t = u → u.accepts req Reg.CHAIN_CTL 8 → u.partnerFlag 2 = true →
    u.isLead = true →
    ∃ n : State, exec (.chainCtlYield t req) s = .next n ∧ n.isLead = false ∧ n.isActing = false ∧ n.hbm = u.hbm ∧ SameRegs u n (Reg.CHAIN_STAT :: zoneRegs) ∧
      ZonesPass u n (!u.paired || u.bit Reg.CHAIN_CFG 2) ∧
      n.raised.map (·.code) = u.raised.map (·.code) ++ [Ev.CHAIN_LEAD_CHANGE]) ∧
  (∀ (t : Nat) (req : Requester) (s u : State), s.advance t = u →
    (u.accepts req Reg.CHAIN_CTL 2 → u.partnerFlag 2 = false →
      exec (.chainCtlHandback t req) s = .next (u.raise Ev.CHAIN_CTL_REFUSED [1, 1])) ∧
    (u.accepts req Reg.CHAIN_CTL 8 → u.partnerFlag 2 = false →
      exec (.chainCtlYield t req) s = .next (u.raise Ev.CHAIN_CTL_REFUSED [3, 1])) ∧
    (u.accepts req Reg.CHAIN_CTL 4 → u.isLead = true → exec (.chainCtlTake t req) s = .next (u.raise Ev.CHAIN_CTL_REFUSED [2, 2]))) ∧
  (∀ u : State, u.nextEpoch = (max (u.fld Reg.SPK_EPOCH 0 16) ((u.chain.partner.map (·.epoch)).getD 0) + 1) % 2 ^ 16) ∧
  (∀ (t : Nat) (req : Requester) (s u : State), s.advance t = u → u.accepts req Reg.CHAIN_CTL 16 →
    ∃ n : State, exec (.chainCtlClear t req) s = .next n ∧ (∀ p : Nat, p < 4 → n.nat (Reg.CHAIN_PORT_CNT p) = 0) ∧
      n.hbm = u.hbm ∧ SameRegs u n ((List.range 4).map Reg.CHAIN_PORT_CNT) ∧ n.raised = u.raised)

/-! ## The health unit -/

/-- The first round behind power-up stores one conversion for each sensor and shows no T_hot yet; a third conversion shows the
median; a second round whose reference is off, and a round overdue by two intervals, fail the sequencer; an on-demand read then
stores its readings (R402 to R405). A sensor more than 8 °C off the median of its neighbours for a third round is marked suspect
while fewer than four are; the stack sensors set the refresh multiplier; a throttle that has lasted 2 s at its threshold goes to
step 2, and one that has been cool for a second is released, with the divider left to the next latch (R261, R404, R406, R407). -/
def Obligations.SensorRoundsAndLimits : Prop :=
  (∀ (t : Nat) (r : List Int) (s u : State), s.advance t = u → u.healthOn = true → u.bit Reg.HLTH_STAT 4 = false → r.length = 33 →
    ((r.take 32).all tempOk) = true → (r.getD 32 0).natAbs ≤ 512 → u.health.sensors = List.replicate 32 {} →
    ∃ n : State, exec (.hlthSensorRound t r) s = .next n ∧ n.health.sensors = (r.take 32).map (fun v => { conv := [v] }) ∧
      n.health.lastRound = u.now ∧ n.health.tHot = none ∧ n.fld Reg.HLTH_STAT 16 16 = 0 ∧ n.hbm = u.hbm ∧ SameRegs u n [Reg.HLTH_STAT] ∧
      n.raised = u.raised) ∧
  (∀ (k : Nat) (a b v m : Int) (u : State), k < 32 → u.health.sensors.length = 32 → (u.sensor k).conv = [a, b] → tempOk v = true →
    (sortInt [v, a, b]).getD 1 0 = m → -10240 ≤ m → m ≤ 32767 →
    (u.convert k v).fld (Reg.HLTH_DIE_TEMP k) 0 16 = unsigned 16 m ∧
    (u.convert k v).bit (Reg.HLTH_DIE_TEMP k) 17 = true) ∧
  (∀ (t : Nat) (r : List Int) (s u : State), s.advance t = u → u.healthOn = true → u.bit Reg.HLTH_STAT 4 = false →
    512 < (r.getD 32 0).natAbs → 1 ≤ u.health.refBad →
    ∃ n : State, exec (.hlthSensorRound t r) s = .next n ∧ n.bit Reg.HLTH_STAT 4 = true ∧ n.hbm = u.hbm ∧ SameRegs u n [Reg.HLTH_STAT] ∧
      n.health.sensors = u.health.sensors ∧ RaisedBy u n [(Ev.HLTH_SEQ_FAIL, [1])]) ∧
  (∀ (t : Nat) (s u : State), s.advance t = u → u.healthOn = true → u.bit Reg.HLTH_STAT 4 = false → u.roundNow = false →
    u.health.lastRound + 2 * (if u.bit Reg.HLTH_STAT 5 then us 100 else ms 1) ≤ u.now →
    ∃ n : State, exec (.hlthRoundOverdue t) s = .next n ∧ n.bit Reg.HLTH_STAT 4 = true ∧ n.bit Reg.HLTH_STAT 5 = false ∧
      n.hbm = u.hbm ∧ SameRegs u n [Reg.HLTH_STAT] ∧ RaisedBy u n [(Ev.HLTH_SEQ_FAIL, [2])]) ∧
  (∀ (t : Nat) (r : List Int) (a b : Int) (s u : State), s.advance t = u → u.healthOn = true → u.bit Reg.HLTH_STAT 4 = true →
    r.length = 32 → (r.all tempOk) = true → tempOk a = true → tempOk b = true → a ≤ 32767 → b ≤ 32767 → u.health.sensors = List.replicate 32 {} →
    u.domainOn 55 = false ∨ u.health.stackFail = [false, false] ∧ u.health.stackTemp.length = 2 ∧
      refreshCode (u.fld Reg.HBM_STAT 2 2) (max a b) = u.fld Reg.HBM_STAT 2 2 →
    ∃ n : State, exec (.hlthOndemandRead t (r ++ [a, b])) s = .next n ∧ n.health.sensors = r.map (fun v => { conv := [v] }) ∧
      n.fld (Reg.HLTH_HBM_TEMP 0) 0 16 = unsigned 16 a ∧ n.fld (Reg.HLTH_HBM_TEMP 1) 0 16 = unsigned 16 b ∧
      n.hbm = u.hbm ∧ SameRegs u n [Reg.HLTH_STAT, Reg.HLTH_HBM_TEMP 0, Reg.HLTH_HBM_TEMP 1] ∧ n.raised = u.raised) ∧
  (∀ (k : Nat) (f : Int) (u : State), k < 32 → u.health.sensors.length = 32 → u.filtered k = some f → u.suspect k = false →
    (u.sensor k).far = 2 → ((List.range 32).filter u.suspect).length < 4 → 2 ≤ ((neighbours k).filterMap u.filtered).length →
    (neighbours k).all (fun j => !u.suspect j) = true → 4096 < (2 * f - median2 ((neighbours k).filterMap u.filtered)).natAbs →
    ∃ n : State, u.checkSensor ((List.range 32).filter u.suspect) k = n ∧ n.suspect k = true ∧ n.hbm = u.hbm ∧ SameRegs u n [Reg.HLTH_DIE_TEMP k] ∧
      n.raised.map (·.code) = u.raised.map (·.code) ++ [Ev.HLTH_SENSOR_SUSPECT]) ∧
  (∀ (t : Nat) (a b : Int) (s u : State), s.advance t = u → u.healthOn = true → u.domainOn 55 = true → tempOk a = true →
    tempOk b = true → a ≤ 32767 → b ≤ 32767 → u.health.stackFail = [false, false] → u.health.stackTemp.length = 2 →
    ∃ n : State, exec (.hbmStackSensorRead t [some a, some b]) s = .next n ∧ n.fld (Reg.HLTH_HBM_TEMP 0) 0 16 = unsigned 16 a ∧
      n.fld (Reg.HLTH_HBM_TEMP 1) 0 16 = unsigned 16 b ∧ n.fld Reg.HBM_STAT 2 2 = refreshCode (u.fld Reg.HBM_STAT 2 2) (max a b) ∧
      SameRegs u n [Reg.HLTH_HBM_TEMP 0, Reg.HLTH_HBM_TEMP 1, Reg.HBM_STAT]) ∧
  (∀ (t : Nat) (h : Int) (s u : State), s.advance t = u → u.health.tHot = some h → u.roundNow = false → u.health.want = 1 →
    u.health.stepAt + ms 2000 ≤ u.now → u.health.tempOn = true → u.throttleAt ≤ h → u.fld Reg.HLTH_STAT 0 2 ≠ 0 →
    ∃ n : State, exec (.throttleStep2Timeout t) s = .next n ∧ n.health.want = 2 ∧ n.fld Reg.HLTH_STAT 0 2 = 2 ∧
      n.hbm = u.hbm ∧ SameRegs u n [Reg.HLTH_STAT, Reg.HLTH_AVS] ∧
      RaisedBy u n [(Ev.HLTH_THROTTLE, [u.fld Reg.HLTH_STAT 0 2, 2, 1, u.fld Reg.SCAN_STAT 16 16])]) ∧
  (∀ (t c : Nat) (h : Int) (s u : State), s.advance t = u → u.health.tHot = some h → u.roundNow = false → u.health.want = 1 →
    u.health.tempOn = true → u.health.coolAt = some c → c + ms 1000 ≤ u.now → h < u.throttleAt - deg 5 → u.bit Reg.HLTH_STAT 2 = false →
    ∃ n : State, exec (.throttleReleaseTimeout t) s = .next n ∧ n.health.want = 0 ∧ n.health.tempOn = false ∧ n.health.decided = u.now ∧
      n.hbm = u.hbm ∧ SameRegs u n [Reg.HLTH_AVS] ∧ n.raised = u.raised)

/-- The core voltage moves by one step of 5 mV toward its target, a confirmed command sets it and one that fails is sent again at
most twice; two measurements that agree resolve a calibration item, and a third that times out, 1 ms after it began, while the
first two do not agree fails it with CAL_FAIL (R410, R412, R450). -/
def Obligations.VoltageStepsAndCalibration : Prop :=
  (∀ (t : Nat) (s u : State), s.advance t = u → u.calReached = true → u.health.sent = none →
    u.health.volts + 5 ≤ u.fld Reg.HLTH_AVS 0 10 → limited u.health.avsAt (us 100) u.now = false →
    exec (.avsStep t) s = .next (({ u with
      health := { u.health with sent := some (u.health.volts + 5), tries := 0, avsAt := some u.now } }).emit (.avs (u.health.volts + 5)))) ∧
  (∀ (t v : Nat) (s u : State), s.advance t = u → u.health.sent = some v →
    exec (.avsResponse t true) s = .next { u with health := { u.health with sent := none, volts := v } } ∧
    (u.health.tries < 2 → exec (.avsResponse t false) s =
      .next (({ u with health := { u.health with tries := u.health.tries + 1 } }).emit (.avs v))) ∧
    (2 ≤ u.health.tries → exec (.avsResponse t false) s = .next { u with health := { u.health with sent := none } })) ∧
  (∀ (t i v c : Nat) (rest : List Nat) (s u : State), s.advance t = u → u.health.cal = some { items := i :: rest, since := c } →
    exec (.calMeasureDone t i v) s =
      .next { u with health := { u.health with cal := some { items := i :: rest, got := [some v], since := u.now } } }) ∧
  (∀ (t i a v c tr : Nat) (rest : List Nat) (s u : State), s.advance t = u → i < 0x230 →
    u.health.cal = some { items := i :: rest, got := [some a], since := c } → a ≤ v + calTolerance i → v ≤ a + calTolerance i →
    calTrim i (roundDiv (a + v) 2) u.now = some tr →
    ∃ n : State, exec (.calMeasureDone t i v) s = .next n ∧ n.fld (Reg.HLTH_CAL_STAT i) 0 2 = 1 ∧
      n.nat (Reg.HLTH_CAL_POWERUP i) = tr % 2 ^ 32 ∧ n.hbm = u.hbm ∧ n.raised = u.raised) ∧
  (∀ (t i a b c : Nat) (rest : List Nat) (s u : State), s.advance t = u → i < 0x230 → c + ms 1 ≤ u.now →
    (u.sameCycle fun x => match x with | .calMeasureDone _ k _ => k == i | _ => false) = false →
    u.health.cal = some { items := i :: rest, got := [some a, some b], since := c } → a + calTolerance i < b →
    ∃ n : State, exec (.calMeasureTimeout t i) s = .next n ∧ n.fld (Reg.HLTH_CAL_STAT i) 0 2 = 3 ∧
      n.nat (Reg.HLTH_CAL_POWERUP i) = u.nat (Reg.HLTH_CAL_POWERUP i) ∧
      RaisedBy u n [(Ev.CAL_FAIL, [i, 1, a % 2 ^ 32, b % 2 ^ 32, 0])])

/-- The hourly measurement stores the drift of each pair, counts the hour and writes its two log records; a re-plan runs in a
SERVICE entered from IDLE, and at its end fixes the ray clock when ÷5 no longer fits the rail; RESTORE waits for a commit,
CLEAR_SUSPECT clears every mark, and READ changes nothing by itself (R404, R405, R415 to R418). -/
def Obligations.AgeingAndHealthControls : Prop :=
  (∀ (t : Nat) (ps : List (Nat × Nat)) (s u : State), s.advance t = u → u.healthOn = true →
    limited u.health.ageAt hourCycles u.now = false →
    ∃ n : State, exec (.ageingMeasure t ps) s = .next n ∧
      (∀ k : Nat, k < min 64 ps.length → n.nat (Reg.HLTH_RO k) = roDrift (ps.getD k (0, 0))) ∧
      n.fld Reg.HLTH_AGE 20 12 = min 4095 (u.fld Reg.HLTH_AGE 20 12 + 1) ∧
      n.health.logPos = ((u.health.logPos + 1) % 1024 + 1) % 1024 ∧ n.hbm = u.hbm ∧ n.raised = u.raised) ∧
  (∀ (t : Nat) (req : Requester) (s u : State), s.advance t = u → u.accepts req Reg.HLTH_CTL 1 → exec (.hlthCtlRead t req) s = .next u) ∧
  (∀ (t : Nat) (req : Requester) (s u : State), s.advance t = u → u.accepts req Reg.HLTH_CTL 2 →
    (u.modeCode = Mode.SERVICE →
      exec (.hlthCtlRestore t req) s = .next { u with health := { u.health with restore := some u.now } }) ∧
    (u.modeCode ≠ Mode.SERVICE →
      exec (.hlthCtlRestore t req) s = .next (u.raise Ev.HLTH_CMD_REFUSED [Reg.HLTH_CTL, u.modeCode]))) ∧
  (∀ (t : Nat) (req : Requester) (s u : State), s.advance t = u → u.accepts req Reg.HLTH_CTL 8 → u.health.sensors.length = 32 →
    ∃ n : State, exec (.hlthCtlClearSuspect t req) s = .next n ∧ (∀ k : Nat, k < 32 → n.suspect k = false ∧ (n.sensor k).far = 0) ∧
      n.hbm = u.hbm ∧ SameRegs u n ((List.range 32).map Reg.HLTH_DIE_TEMP) ∧ n.raised = u.raised) ∧
  (∀ (t : Nat) (req : Requester) (s u v : State), s.advance t = u → u.accepts req Reg.HLTH_CTL 4 → u.modeCode = Mode.SERVICE →
    u.mode.serviceSafe = false → u.bit Reg.HLTH_STAT 6 = false → u.setBit Reg.HLTH_STAT 6 true = v →
    exec (.hlthCtlReplan t req) s = .next ((((v.each v.replanLanes State.retrainNow).hbmOff false).each
      ((List.range 8).map (· + 55)).reverse State.dropDomain).askDomains ((List.range 8).map (· + 55)))) ∧
  (∀ (t : Nat) (ps : List (Nat × Nat)) (s u : State), s.advance t = u → u.bit Reg.HLTH_STAT 6 = true →
    ∃ (n : State) (e : Event), exec (.hlthReplanDone t ps) s = .next n ∧ n.bit Reg.HLTH_STAT 6 = false ∧
      n.bit Reg.HLTH_MARGIN 24 = decide (850 < (u.measurePairs ps).vReq5) ∧ n.hbm = u.hbm ∧ n.raised = u.raised ++ [e] ∧
      e.code = Ev.HLTH_REPLAN_DONE)

/-! ## Events, messages, trace and GPIO -/

/-- Events of one cycle are delivered in ascending CODE, equal codes in the order of raising; a record goes to the slot HEAD names,
with the current phase, and HEAD moves on modulo N, the phase turning at the wrap; with fewer than two free slots an event is
lost and counted; with the ring off it enters the early queue (R66, R428 to R430). -/
def Obligations.EventsReachTheRingInOrder : Prop :=
  (∀ l : List Event, (sortEvents l).Pairwise (fun a b => a.code ≤ b.code) ∧ (sortEvents l).Perm l ∧
    ∀ c : Nat, ((sortEvents l).filter fun e => e.code == c) = l.filter fun e => e.code == c) ∧
  (∀ (e : Event) (u : State), u.bit (Reg.EVT_VEC (e.code / 256)) 7 = false →
    ∃ n : State, u.ringWrite e = n ∧ n.outbox = u.outbox ++ [.record (u.fld Reg.EVT_HEAD 0 17) (e.bytes (u.bit Reg.EVT_HEAD 31))] ∧
      n.fld Reg.EVT_HEAD 0 17 = (u.fld Reg.EVT_HEAD 0 17 + 1) % 2 ^ u.fld Reg.EVT_RING_CFG 8 5 % 2 ^ 17 ∧
      n.bit Reg.EVT_HEAD 31 = (u.bit Reg.EVT_HEAD 31 ^^ decide (u.fld Reg.EVT_HEAD 0 17 + 1 = 2 ^ u.fld Reg.EVT_RING_CFG 8 5)) ∧
      SameRegs u n [Reg.EVT_HEAD]) ∧
  (∀ (e : Event) (u : State), u.ringFree < 2 →
    ∃ n : State, u.toRing e = n ∧ n.outbox = u.outbox ∧ n.fld Reg.EVT_STAT 16 16 = min 65535 (u.fld Reg.EVT_STAT 16 16 + 1) ∧
      n.evt.lostFirst = some (u.evt.lostFirst.getD e.code) ∧ n.evt.lostCount = u.evt.lostCount + 1 ∧ n.hbm = u.hbm ∧ SameRegs u n [Reg.EVT_STAT]) ∧
  (∀ (e : Event) (u : State), u.evt.early.length < 63 →
    (u.toEarly e).evt.early = u.evt.early ++ [e] ∧ (u.toEarly e).bit Reg.EVT_STAT 1 = true ∧ SameRegs u (u.toEarly e) [Reg.EVT_STAT])

/-- EN = 1 while the ring is off sets HEAD and TAIL to 0, the phase to 1 and LOST to 0 and writes the early queue; EN = 0 and a
failed ring write turn it off; a TAIL write frees slots, and a loss is then reported first, by EVT_RING_OVERFLOW (R430). -/
def Obligations.TheRingStartsAndStops : Prop :=
  (∀ (t : Nat) (req : Requester) (w : Word) (s u : State), s.advance t = u → u.accepts req Reg.EVT_RING_CFG w → w.bit 0 = true →
    u.bit Reg.EVT_STAT 0 = false → u.evt.early = [] → u.evt.earlyLost = 0 →
    ∃ n : State, exec (.evtRingEnable t req w) s = .next n ∧ n.reg Reg.EVT_HEAD = 0x80000000 ∧ n.reg Reg.EVT_TAIL = 0 ∧
      n.reg Reg.EVT_STAT = 1 ∧ n.evt.lostFirst = none ∧ n.bit Reg.EVT_RING_CFG 0 = true ∧
      n.hbm = u.hbm ∧ SameRegs u n [Reg.EVT_RING_CFG, Reg.EVT_HEAD, Reg.EVT_TAIL, Reg.EVT_STAT] ∧ n.raised = u.raised ∧ n.outbox = u.outbox) ∧
  (∀ (q : List Event) (u : State), u.evt.early = q → u.evt.earlyLost = 0 →
    ∃ v : State, v.reg Reg.EVT_HEAD = 0x80000000 ∧ v.reg Reg.EVT_TAIL = 0 ∧ v.evt.early = [] ∧ u.enableRing = v.each q State.toRing) ∧
  (∀ (t : Nat) (req : Requester) (w : Word) (s u : State), s.advance t = u → u.accepts req Reg.EVT_RING_CFG w → w.bit 0 = false →
    ∃ n : State, exec (.evtRingEnable t req w) s = .next n ∧ n.bit Reg.EVT_STAT 0 = false ∧ n.bit Reg.EVT_RING_CFG 0 = false ∧
      n.hbm = u.hbm ∧ SameRegs u n [Reg.EVT_RING_CFG, Reg.EVT_STAT] ∧ n.raised = u.raised) ∧
  (∀ (t : Nat) (req : Requester) (w : Word) (s u v : State), s.advance t = u → u.accepts req Reg.EVT_TAIL w →
    u.setReg Reg.EVT_TAIL ((u.reg Reg.EVT_TAIL &&& ~~~writeMask Reg.EVT_TAIL) ||| (w &&& writeMask Reg.EVT_TAIL)) = v →
    (v.evt.lostFirst = none ∨ v.bit Reg.EVT_STAT 0 = false → exec (.evtTailWrite t req w) s = .next v) ∧
    (∀ c : Nat, v.evt.lostFirst = some c → v.bit Reg.EVT_STAT 0 = true → 2 ≤ v.ringFree → v.bit (Reg.EVT_VEC 3) 7 = false →
      v.traceOn = false →
      ∃ n : State, exec (.evtTailWrite t req w) s = .next n ∧ n.evt.lostFirst = none ∧ n.outbox = v.outbox ++ [.record (v.fld Reg.EVT_HEAD 0 17)
        (Event.bytes ⟨v.now, Ev.EVT_RING_OVERFLOW, [v.evt.lostCount, c], v.showNs⟩ (v.bit Reg.EVT_HEAD 31))])) ∧
  (∀ (t slot reason : Nat) (s u : State), s.advance t = u → u.bit Reg.EVT_STAT 0 = true →
    ∃ n : State, exec (.evtRingWriteError t slot reason) s = .next n ∧ n.bit Reg.EVT_STAT 0 = false ∧ n.bit Reg.EVT_RING_CFG 0 = false ∧
      n.hbm = u.hbm ∧ SameRegs u n [Reg.EVT_STAT, Reg.EVT_RING_CFG] ∧ RaisedBy u n [(Ev.EVT_RING_ERROR, [slot % 2 ^ 32, reason % 2 ^ 32])])

/-- A message that waited for its interval goes out when the interval ends, or becomes pending where the vector is masked; unmasking
a pending vector sends it; the trace port sends its queue in order, each packet as the 102 beats of its bytes; a GPIO input
shows its level (R432, R445, R446). -/
def Obligations.MessagesTraceAndGpio : Prop :=
  (∀ (t : Nat) (v : Fin 32) (s u : State), s.advance t = u → u.evt.vecWaiting.contains v.val = true → u.vecFree v = true →
    (u.evt.vecMask.testBit v = false → ∃ n : State, exec (.msixIntervalEnd t v) s = .next n ∧ n.outbox = u.outbox ++ [.msix v] ∧
      n.evt.vecWaiting.contains v.val = false ∧ mapGet n.evt.vecLast v.val = some u.now ∧ n.hbm = u.hbm ∧ n.regs = u.regs) ∧
    (u.evt.vecMask.testBit v = true → ∃ n : State, exec (.msixIntervalEnd t v) s = .next n ∧ n.outbox = u.outbox ∧
      n.evt.pba.testBit v = true ∧ n.evt.vecWaiting.contains v.val = false ∧ n.hbm = u.hbm ∧ n.regs = u.regs)) ∧
  (∀ (t : Nat) (v : Fin 32) (s u : State), s.advance t = u → u.evt.pba.testBit v = true → u.vecFree v = true →
    ∃ n : State, exec (.msixVectorUnmask t v) s = .next n ∧ n.outbox = u.outbox ++ [.msix v] ∧ n.evt.vecMask.testBit v = false ∧
      n.evt.pba.testBit v = false ∧ n.hbm = u.hbm ∧ n.regs = u.regs) ∧
  (∀ (t : Nat) (p : TracePacket) (rest : List TracePacket) (s u : State), s.advance t = u → u.trace.queue = p :: rest → u.trace.dropped = 0 →
    u.trace.headAt + beatCycles 102 ≤ u.now →
    exec (.tracePacketSent t) s = .next { u.emit (.trace (traceBeats (p.bytes u.trace.pseq))) with
      trace := { u.trace with queue := rest, pseq := (u.trace.pseq + 1) % 2 ^ 16, headAt := u.now + beatCycles 4 } }) ∧
  (∀ (t : Nat) (b : Fin 16) (h : Bool) (s u : State), s.advance t = u →
    ∃ n : State, exec (.gpioInputChange t b h) s = .next n ∧ n.bit Reg.GLB_GPIO_IN b = h ∧
      (∀ j : Nat, j < 32 → j ≠ b.val → n.bit Reg.GLB_GPIO_IN j = u.bit Reg.GLB_GPIO_IN j) ∧ n.hbm = u.hbm ∧ SameRegs u n [Reg.GLB_GPIO_IN] ∧
      n.raised = u.raised)

/-! ## Numbers -/

/-- A time is converted to control-clock cycles by rounding up: 2 s are 800,000,000 cycles and 3 ms are 1,200,000 (R18). -/
def Obligations.TimesRoundUpToCycles : Prop :=
  ms 2000 = 800000000 ∧ ms 3 = 1200000 ∧ (∀ n : Nat, us n = 400 * n ∧ ms n = 1000 * us n) ∧
  ∀ n : Nat, 2 * n ≤ 5 * nsCycles n ∧ 5 * nsCycles n < 2 * n + 5

/-- A signed format of b bits is two's complement: a field reads as a number from −2^(b−1) to 2^(b−1) − 1 in units of its last
place, every such number is held, and it comes back as written; an unsigned field reads from 0 to 2^b − 1 (R5). -/
def Obligations.FormatsHaveTheirRanges : Prop :=
  (∀ b v : Nat, 0 < b → v < 2 ^ b → -(2 ^ (b - 1) : Int) ≤ signed b v ∧ signed b v ≤ (2 ^ (b - 1) : Int) - 1 ∧ unsigned b (signed b v) = v) ∧
  (∀ (b : Nat) (i : Int), 0 < b → -(2 ^ (b - 1) : Int) ≤ i → i ≤ (2 ^ (b - 1) : Int) - 1 → signed b (unsigned b i) = i) ∧
  (∀ (a lo b : Nat) (u : State), u.fld a lo b ≤ 2 ^ b - 1)
end

