-- ==== Sys2Proof/Laws/Maps.lean ====
section
/-! SUPPORT.  Laws of the sorted maps: reading after a write, and that every operation keeps the keys strictly rising. -/

namespace Sys2Proof.Machine

variable {α : Type}

@[simp] theorem mapGet_nil (a : Nat) : mapGet ([] : List (Nat × α)) a = none := rfl

theorem mapGet_cons (k : Nat) (v : α) (m : List (Nat × α)) (a : Nat) :
    mapGet ((k, v) :: m) a = if k = a then some v else mapGet m a := rfl

/-- A write is read back, and every other key reads as before. -/
theorem mapGet_mapPut (m : List (Nat × α)) (a b : Nat) (v : α) :
    mapGet (mapPut m a v) b = if a = b then some v else mapGet m b := by
  induction m with
  | nil => simp [mapPut, mapGet]
  | cons x m ih =>
    obtain ⟨k, w⟩ := x
    simp only [mapPut]
    by_cases h1 : a < k
    · simp only [h1, if_true, mapGet]
    · by_cases h2 : a = k
      · subst h2
        simp only [h1, if_false, if_true, mapGet]
        split <;> rfl
      · simp only [h1, h2, if_false, mapGet, ih]
        by_cases hk : k = b
        · simp only [hk, if_true]
          have : a ≠ b := by omega
          simp [this]
        · simp [hk]

/-- An erased key is absent, and every other key reads as before. -/
theorem mapGet_mapErase (m : List (Nat × α)) (a b : Nat) :
    mapGet (mapErase m a) b = if a = b then none else mapGet m b := by
  induction m with
  | nil => simp [mapErase, mapGet]
  | cons x m ih =>
    obtain ⟨k, w⟩ := x
    simp only [mapErase]
    by_cases h : k = a
    · subst h
      simp only [if_true, ih, mapGet]
      split <;> rfl
    · simp only [h, if_false, mapGet, ih]
      by_cases hb : k = b
      · subst hb
        have : ¬ a = k := fun e => h e.symm
        simp [this]
      · simp [hb]

/-- Every key of the list is above `a`. -/
def Above (a : Nat) (m : List (Nat × α)) : Prop := ∀ x ∈ m, a < x.1

/-- The keys rise strictly when the first is below all others and the rest rises. -/
theorem keysRising_cons (k : Nat) (v : α) (m : List (Nat × α)) :
    keysRising ((k, v) :: m) = true ↔ Above k m ∧ keysRising m = true := by
  induction m generalizing k v with
  | nil => simp [keysRising, Above]
  | cons x m ih =>
    obtain ⟨k', v'⟩ := x
    have ih' := ih k' v'
    simp only [keysRising, Bool.and_eq_true, decide_eq_true_eq]
    constructor
    · rintro ⟨h, hr⟩
      refine ⟨?_, hr⟩
      intro y hy
      rcases List.mem_cons.mp hy with rfl | hy
      · exact h
      · exact Nat.lt_trans h ((ih'.mp hr).1 y hy)
    · rintro ⟨ha, hr⟩
      exact ⟨ha (k', v') (List.mem_cons_self ..), hr⟩

theorem mem_mapPut {m : List (Nat × α)} {a : Nat} {v : α} {y : Nat × α} (h : y ∈ mapPut m a v) : y = (a, v) ∨ y ∈ m := by
  induction m with
  | nil => simpa [mapPut] using h
  | cons x m ih =>
    obtain ⟨k, w⟩ := x
    simp only [mapPut] at h
    split at h
    · simpa using h
    · split at h
      · rcases List.mem_cons.mp h with h | h
        · exact .inl h
        · exact .inr (List.mem_cons_of_mem _ h)
      · rcases List.mem_cons.mp h with h | h
        · exact .inr (by simp [h])
        · rcases ih h with h | h
          · exact .inl h
          · exact .inr (List.mem_cons_of_mem _ h)

theorem mem_mapErase {m : List (Nat × α)} {a : Nat} {y : Nat × α} (h : y ∈ mapErase m a) : y ∈ m := by
  induction m with
  | nil => simp [mapErase] at h
  | cons x m ih =>
    obtain ⟨k, w⟩ := x
    simp only [mapErase] at h
    split at h
    · exact List.mem_cons_of_mem _ (ih h)
    · rcases List.mem_cons.mp h with h | h
      · simp [h]
      · exact List.mem_cons_of_mem _ (ih h)

/-- A write keeps the keys strictly rising. -/
theorem keysRising_mapPut (m : List (Nat × α)) (a : Nat) (v : α) (h : keysRising m = true) : keysRising (mapPut m a v) = true := by
  induction m with
  | nil => rfl
  | cons x m ih =>
    obtain ⟨k, w⟩ := x
    have hk := (keysRising_cons k w m).mp h
    simp only [mapPut]
    split
    · rename_i hlt
      refine (keysRising_cons ..).mpr ⟨?_, h⟩
      intro y hy
      rcases List.mem_cons.mp hy with rfl | hy
      · exact hlt
      · exact Nat.lt_trans hlt (hk.1 y hy)
    · split
      · rename_i _ he
        subst he
        exact (keysRising_cons ..).mpr hk
      · rename_i h1 h2
        refine (keysRising_cons ..).mpr ⟨?_, ih hk.2⟩
        intro y hy
        rcases mem_mapPut hy with rfl | hy
        · show k < a
          omega
        · exact hk.1 y hy

/-- An erasure keeps the keys strictly rising. -/
theorem keysRising_mapErase (m : List (Nat × α)) (a : Nat) (h : keysRising m = true) : keysRising (mapErase m a) = true := by
  induction m with
  | nil => rfl
  | cons x m ih =>
    obtain ⟨k, w⟩ := x
    have hk := (keysRising_cons k w m).mp h
    simp only [mapErase]
    split
    · exact ih hk.2
    · exact (keysRising_cons ..).mpr ⟨fun y hy => hk.1 y (mem_mapErase hy), ih hk.2⟩

/-- Leaving entries out keeps the keys strictly rising. -/
theorem keysRising_filter (m : List (Nat × α)) (p : Nat × α → Bool) (h : keysRising m = true) : keysRising (m.filter p) = true := by
  induction m with
  | nil => rfl
  | cons x m ih =>
    obtain ⟨k, w⟩ := x
    have hk := (keysRising_cons k w m).mp h
    by_cases hp : p (k, w) = true
    · rw [List.filter_cons_of_pos hp]
      exact (keysRising_cons ..).mpr ⟨fun y hy => hk.1 y (List.mem_filter.mp hy).1, ih hk.2⟩
    · rw [List.filter_cons_of_neg hp]
      exact ih hk.2

/-! ## Memory -/

/-- Storing bytes keeps memory in its canonical form. -/
theorem memWrite_wf (m : List Host.Cell) (a : Nat) (bs : List Byte) (h : Memory.wf m = true) : Memory.wf (memWrite m a bs) = true := by
  induction bs generalizing m a with
  | nil => exact h
  | cons b bs ih => exact ih _ _ (keysRising_mapPut m a b h)

/-- Bytes outside a stored range read as before. -/
theorem memWrite_outside (m : List Host.Cell) (a : Nat) (bs : List Byte) (c : Nat) (h : c < a ∨ a + bs.length ≤ c) :
    mapGet (memWrite m a bs) c = mapGet m c := by
  induction bs generalizing m a with
  | nil => rfl
  | cons b bs ih =>
    simp only [List.length_cons] at h
    rw [memWrite, ih _ _ (by omega), mapGet_mapPut]
    have : ¬ a = c := by omega
    simp [this]

/-- Stored bytes are read back. -/
theorem memWrite_inside (m : List Host.Cell) (a : Nat) (bs : List Byte) (i : Nat) (h : i < bs.length) :
    mapGet (memWrite m a bs) (a + i) = some bs[i] := by
  induction bs generalizing m a i with
  | nil => simp at h
  | cons b bs ih =>
    cases i with
    | zero =>
      rw [memWrite, memWrite_outside _ _ _ _ (by omega), mapGet_mapPut]
      simp
    | succ i =>
      have := ih (mapPut m a b) (a + 1) i (by simpa using h)
      rw [memWrite, show a + (i + 1) = a + 1 + i by omega, this]
      rfl

end Sys2Proof.Machine
end

