-- ==== Sys2Proof/Laws/Word.lean ====
section
/-! SUPPORT.  Laws of bit ranges: a field reads what was put there, and a put leaves the other bits alone. -/

namespace Sys2Proof

theorem Word.field_testBit (w : Word) (lo n i : Nat) : (w.field lo n).testBit i = (decide (i < n) && w.getLsbD (lo + i)) := by
  simp [Word.field, Nat.testBit_mod_two_pow, Nat.testBit_shiftRight, BitVec.getLsbD]

/-- Bits of a word after a put. -/
theorem Word.put_getLsbD (w : Word) (lo n v i : Nat) (h : i < 32) :
    (w.put lo n v).getLsbD i = if lo ≤ i ∧ i < lo + n then v.testBit (i - lo) else w.getLsbD i := by
  simp only [Word.put, BitVec.getLsbD_or, BitVec.getLsbD_and, BitVec.getLsbD_not, BitVec.getLsbD_ofNat, h, decide_true,
    Bool.true_and, Nat.testBit_shiftLeft, Nat.testBit_two_pow_sub_one, Nat.testBit_mod_two_pow]
  by_cases h1 : lo ≤ i
  · by_cases h2 : i < lo + n
    · have h3 : i - lo < n := by omega
      simp [h1, h2, h3]
    · have h3 : ¬ i - lo < n := by omega
      simp [h1, h2, h3]
  · simp [h1]

/-- A field reads what was put there. -/
theorem Word.field_put_self (w : Word) (lo n v : Nat) (h : lo + n ≤ 32) : (w.put lo n v).field lo n = v % 2 ^ n := by
  apply Nat.eq_of_testBit_eq
  intro i
  rw [Word.field_testBit, Nat.testBit_mod_two_pow]
  by_cases hi : i < n
  · rw [Word.put_getLsbD _ _ _ _ _ (by omega)]
    have h1 : lo ≤ lo + i ∧ lo + i < lo + n := by omega
    simp [h1, hi]
  · simp [hi]

/-- A field beside the one that was put reads as before. -/
theorem Word.field_put_ne (w : Word) (lo n v lo' n' : Nat) (h : lo' + n' ≤ lo ∨ lo + n ≤ lo') :
    (w.put lo n v).field lo' n' = w.field lo' n' := by
  apply Nat.eq_of_testBit_eq
  intro i
  rw [Word.field_testBit, Word.field_testBit]
  by_cases hi : i < n'
  · by_cases h32 : lo' + i < 32
    · rw [Word.put_getLsbD _ _ _ _ _ h32]
      have h1 : ¬ (lo ≤ lo' + i ∧ lo' + i < lo + n) := by omega
      simp [h1]
    · simp [BitVec.getLsbD_of_ge _ _ (Nat.le_of_not_lt h32)]
  · simp [hi]

/-- A bit as a field of width one. -/
theorem Word.bit_eq_field (w : Word) (i : Nat) : w.bit i = decide (w.field i 1 = 1) := by
  have h := Word.field_testBit w i 1 0
  have hlt : w.field i 1 < 2 := by
    have := Nat.mod_lt (w.toNat >>> i) (show 2 ^ 1 > 0 by decide)
    simpa [Word.field] using this
  have hb : (w.field i 1).testBit 0 = decide (w.field i 1 = 1) := by
    rcases Nat.lt_or_ge (w.field i 1) 1 with h0 | h1
    · have : w.field i 1 = 0 := by omega
      simp [this]
    · have : w.field i 1 = 1 := by omega
      simp [this]
  rw [← hb, h]
  simp [Word.bit]

theorem Word.bit_put_self (w : Word) (i : Nat) (b : Bool) (h : i < 32) : (w.put i 1 (bitOf b)).bit i = b := by
  rw [Word.bit, Word.put_getLsbD _ _ _ _ _ h]
  cases b <;> simp [bitOf]

theorem Word.bit_put_ne (w : Word) (lo n v i : Nat) (h : i < lo ∨ lo + n ≤ i) : (w.put lo n v).bit i = w.bit i := by
  by_cases h32 : i < 32
  · rw [Word.bit, Word.put_getLsbD _ _ _ _ _ h32]
    have h1 : ¬ (lo ≤ i ∧ i < lo + n) := by omega
    simp [h1, Word.bit]
  · simp [Word.bit, BitVec.getLsbD_of_ge _ _ (Nat.le_of_not_lt h32)]

@[simp] theorem Word.bit_zero (i : Nat) : Word.bit 0 i = false := by simp [Word.bit]

end Sys2Proof
end

