-- ==== Sys2Proof/Laws/State.lean ====
section
/-! SUPPORT.  One lemma per field of State for each primitive update, the laws of registers (a register reads what was set, and
every other register reads as before), and what the clock's advance does. -/

namespace Sys2Proof.Machine

/-! ## Fields that a primitive update leaves alone -/

/-! ### setReg -/

@[simp] theorem State.setReg_now (s : State) (a : Nat) (w : Word) : (s.setReg a w).now = s.now := rfl
@[simp] theorem State.setReg_part (s : State) (a : Nat) (w : Word) : (s.setReg a w).part = s.part := rfl
@[simp] theorem State.setReg_pending (s : State) (a : Nat) (w : Word) : (s.setReg a w).pending = s.pending := rfl
@[simp] theorem State.setReg_rws (s : State) (a : Nat) (w : Word) : (s.setReg a w).rws = s.rws := rfl
@[simp] theorem State.setReg_atMode (s : State) (a : Nat) (w : Word) : (s.setReg a w).atMode = s.atMode := rfl
@[simp] theorem State.setReg_raised (s : State) (a : Nat) (w : Word) : (s.setReg a w).raised = s.raised := rfl
@[simp] theorem State.setReg_outbox (s : State) (a : Nat) (w : Word) : (s.setReg a w).outbox = s.outbox := rfl
@[simp] theorem State.setReg_evt (s : State) (a : Nat) (w : Word) : (s.setReg a w).evt = s.evt := rfl
@[simp] theorem State.setReg_trace (s : State) (a : Nat) (w : Word) : (s.setReg a w).trace = s.trace := rfl
@[simp] theorem State.setReg_pins (s : State) (a : Nat) (w : Word) : (s.setReg a w).pins = s.pins := rfl
@[simp] theorem State.setReg_fabric (s : State) (a : Nat) (w : Word) : (s.setReg a w).fabric = s.fabric := rfl
@[simp] theorem State.setReg_mode (s : State) (a : Nat) (w : Word) : (s.setReg a w).mode = s.mode := rfl
@[simp] theorem State.setReg_power (s : State) (a : Nat) (w : Word) : (s.setReg a w).power = s.power := rfl
@[simp] theorem State.setReg_rst (s : State) (a : Nat) (w : Word) : (s.setReg a w).rst = s.rst := rfl
@[simp] theorem State.setReg_caston (s : State) (a : Nat) (w : Word) : (s.setReg a w).caston = s.caston := rfl
@[simp] theorem State.setReg_sec (s : State) (a : Nat) (w : Word) : (s.setReg a w).sec = s.sec := rfl
@[simp] theorem State.setReg_cue (s : State) (a : Nat) (w : Word) : (s.setReg a w).cue = s.cue := rfl
@[simp] theorem State.setReg_frame (s : State) (a : Nat) (w : Word) : (s.setReg a w).frame = s.frame := rfl
@[simp] theorem State.setReg_time (s : State) (a : Nat) (w : Word) : (s.setReg a w).time = s.time := rfl
@[simp] theorem State.setReg_net (s : State) (a : Nat) (w : Word) : (s.setReg a w).net = s.net := rfl
@[simp] theorem State.setReg_traf (s : State) (a : Nat) (w : Word) : (s.setReg a w).traf = s.traf := rfl
@[simp] theorem State.setReg_spk (s : State) (a : Nat) (w : Word) : (s.setReg a w).spk = s.spk := rfl
@[simp] theorem State.setReg_lanes (s : State) (a : Nat) (w : Word) : (s.setReg a w).lanes = s.lanes := rfl
@[simp] theorem State.setReg_hbm (s : State) (a : Nat) (w : Word) : (s.setReg a w).hbm = s.hbm := rfl
@[simp] theorem State.setReg_emit_ (s : State) (a : Nat) (w : Word) : (s.setReg a w).emit_ = s.emit_ := rfl
@[simp] theorem State.setReg_hank (s : State) (a : Nat) (w : Word) : (s.setReg a w).hank = s.hank := rfl
@[simp] theorem State.setReg_needle (s : State) (a : Nat) (w : Word) : (s.setReg a w).needle = s.needle := rfl
@[simp] theorem State.setReg_store (s : State) (a : Nat) (w : Word) : (s.setReg a w).store = s.store := rfl
@[simp] theorem State.setReg_dport (s : State) (a : Nat) (w : Word) : (s.setReg a w).dport = s.dport := rfl
@[simp] theorem State.setReg_chain (s : State) (a : Nat) (w : Word) : (s.setReg a w).chain = s.chain := rfl
@[simp] theorem State.setReg_health (s : State) (a : Nat) (w : Word) : (s.setReg a w).health = s.health := rfl
@[simp] theorem State.setReg_fresh (s : State) (a : Nat) (w : Word) : (s.setReg a w).fresh = s.fresh := rfl

/-! ### setFld -/

@[simp] theorem State.setFld_now (s : State) (a lo n v : Nat) : (s.setFld a lo n v).now = s.now := rfl
@[simp] theorem State.setFld_part (s : State) (a lo n v : Nat) : (s.setFld a lo n v).part = s.part := rfl
@[simp] theorem State.setFld_pending (s : State) (a lo n v : Nat) : (s.setFld a lo n v).pending = s.pending := rfl
@[simp] theorem State.setFld_rws (s : State) (a lo n v : Nat) : (s.setFld a lo n v).rws = s.rws := rfl
@[simp] theorem State.setFld_atMode (s : State) (a lo n v : Nat) : (s.setFld a lo n v).atMode = s.atMode := rfl
@[simp] theorem State.setFld_raised (s : State) (a lo n v : Nat) : (s.setFld a lo n v).raised = s.raised := rfl
@[simp] theorem State.setFld_outbox (s : State) (a lo n v : Nat) : (s.setFld a lo n v).outbox = s.outbox := rfl
@[simp] theorem State.setFld_evt (s : State) (a lo n v : Nat) : (s.setFld a lo n v).evt = s.evt := rfl
@[simp] theorem State.setFld_trace (s : State) (a lo n v : Nat) : (s.setFld a lo n v).trace = s.trace := rfl
@[simp] theorem State.setFld_pins (s : State) (a lo n v : Nat) : (s.setFld a lo n v).pins = s.pins := rfl
@[simp] theorem State.setFld_fabric (s : State) (a lo n v : Nat) : (s.setFld a lo n v).fabric = s.fabric := rfl
@[simp] theorem State.setFld_mode (s : State) (a lo n v : Nat) : (s.setFld a lo n v).mode = s.mode := rfl
@[simp] theorem State.setFld_power (s : State) (a lo n v : Nat) : (s.setFld a lo n v).power = s.power := rfl
@[simp] theorem State.setFld_rst (s : State) (a lo n v : Nat) : (s.setFld a lo n v).rst = s.rst := rfl
@[simp] theorem State.setFld_caston (s : State) (a lo n v : Nat) : (s.setFld a lo n v).caston = s.caston := rfl
@[simp] theorem State.setFld_sec (s : State) (a lo n v : Nat) : (s.setFld a lo n v).sec = s.sec := rfl
@[simp] theorem State.setFld_cue (s : State) (a lo n v : Nat) : (s.setFld a lo n v).cue = s.cue := rfl
@[simp] theorem State.setFld_frame (s : State) (a lo n v : Nat) : (s.setFld a lo n v).frame = s.frame := rfl
@[simp] theorem State.setFld_time (s : State) (a lo n v : Nat) : (s.setFld a lo n v).time = s.time := rfl
@[simp] theorem State.setFld_net (s : State) (a lo n v : Nat) : (s.setFld a lo n v).net = s.net := rfl
@[simp] theorem State.setFld_traf (s : State) (a lo n v : Nat) : (s.setFld a lo n v).traf = s.traf := rfl
@[simp] theorem State.setFld_spk (s : State) (a lo n v : Nat) : (s.setFld a lo n v).spk = s.spk := rfl
@[simp] theorem State.setFld_lanes (s : State) (a lo n v : Nat) : (s.setFld a lo n v).lanes = s.lanes := rfl
@[simp] theorem State.setFld_hbm (s : State) (a lo n v : Nat) : (s.setFld a lo n v).hbm = s.hbm := rfl
@[simp] theorem State.setFld_emit_ (s : State) (a lo n v : Nat) : (s.setFld a lo n v).emit_ = s.emit_ := rfl
@[simp] theorem State.setFld_hank (s : State) (a lo n v : Nat) : (s.setFld a lo n v).hank = s.hank := rfl
@[simp] theorem State.setFld_needle (s : State) (a lo n v : Nat) : (s.setFld a lo n v).needle = s.needle := rfl
@[simp] theorem State.setFld_store (s : State) (a lo n v : Nat) : (s.setFld a lo n v).store = s.store := rfl
@[simp] theorem State.setFld_dport (s : State) (a lo n v : Nat) : (s.setFld a lo n v).dport = s.dport := rfl
@[simp] theorem State.setFld_chain (s : State) (a lo n v : Nat) : (s.setFld a lo n v).chain = s.chain := rfl
@[simp] theorem State.setFld_health (s : State) (a lo n v : Nat) : (s.setFld a lo n v).health = s.health := rfl
@[simp] theorem State.setFld_fresh (s : State) (a lo n v : Nat) : (s.setFld a lo n v).fresh = s.fresh := rfl

/-! ### setBit -/

@[simp] theorem State.setBit_now (s : State) (a i : Nat) (b : Bool) : (s.setBit a i b).now = s.now := rfl
@[simp] theorem State.setBit_part (s : State) (a i : Nat) (b : Bool) : (s.setBit a i b).part = s.part := rfl
@[simp] theorem State.setBit_pending (s : State) (a i : Nat) (b : Bool) : (s.setBit a i b).pending = s.pending := rfl
@[simp] theorem State.setBit_rws (s : State) (a i : Nat) (b : Bool) : (s.setBit a i b).rws = s.rws := rfl
@[simp] theorem State.setBit_atMode (s : State) (a i : Nat) (b : Bool) : (s.setBit a i b).atMode = s.atMode := rfl
@[simp] theorem State.setBit_raised (s : State) (a i : Nat) (b : Bool) : (s.setBit a i b).raised = s.raised := rfl
@[simp] theorem State.setBit_outbox (s : State) (a i : Nat) (b : Bool) : (s.setBit a i b).outbox = s.outbox := rfl
@[simp] theorem State.setBit_evt (s : State) (a i : Nat) (b : Bool) : (s.setBit a i b).evt = s.evt := rfl
@[simp] theorem State.setBit_trace (s : State) (a i : Nat) (b : Bool) : (s.setBit a i b).trace = s.trace := rfl
@[simp] theorem State.setBit_pins (s : State) (a i : Nat) (b : Bool) : (s.setBit a i b).pins = s.pins := rfl
@[simp] theorem State.setBit_fabric (s : State) (a i : Nat) (b : Bool) : (s.setBit a i b).fabric = s.fabric := rfl
@[simp] theorem State.setBit_mode (s : State) (a i : Nat) (b : Bool) : (s.setBit a i b).mode = s.mode := rfl
@[simp] theorem State.setBit_power (s : State) (a i : Nat) (b : Bool) : (s.setBit a i b).power = s.power := rfl
@[simp] theorem State.setBit_rst (s : State) (a i : Nat) (b : Bool) : (s.setBit a i b).rst = s.rst := rfl
@[simp] theorem State.setBit_caston (s : State) (a i : Nat) (b : Bool) : (s.setBit a i b).caston = s.caston := rfl
@[simp] theorem State.setBit_sec (s : State) (a i : Nat) (b : Bool) : (s.setBit a i b).sec = s.sec := rfl
@[simp] theorem State.setBit_cue (s : State) (a i : Nat) (b : Bool) : (s.setBit a i b).cue = s.cue := rfl
@[simp] theorem State.setBit_frame (s : State) (a i : Nat) (b : Bool) : (s.setBit a i b).frame = s.frame := rfl
@[simp] theorem State.setBit_time (s : State) (a i : Nat) (b : Bool) : (s.setBit a i b).time = s.time := rfl
@[simp] theorem State.setBit_net (s : State) (a i : Nat) (b : Bool) : (s.setBit a i b).net = s.net := rfl
@[simp] theorem State.setBit_traf (s : State) (a i : Nat) (b : Bool) : (s.setBit a i b).traf = s.traf := rfl
@[simp] theorem State.setBit_spk (s : State) (a i : Nat) (b : Bool) : (s.setBit a i b).spk = s.spk := rfl
@[simp] theorem State.setBit_lanes (s : State) (a i : Nat) (b : Bool) : (s.setBit a i b).lanes = s.lanes := rfl
@[simp] theorem State.setBit_hbm (s : State) (a i : Nat) (b : Bool) : (s.setBit a i b).hbm = s.hbm := rfl
@[simp] theorem State.setBit_emit_ (s : State) (a i : Nat) (b : Bool) : (s.setBit a i b).emit_ = s.emit_ := rfl
@[simp] theorem State.setBit_hank (s : State) (a i : Nat) (b : Bool) : (s.setBit a i b).hank = s.hank := rfl
@[simp] theorem State.setBit_needle (s : State) (a i : Nat) (b : Bool) : (s.setBit a i b).needle = s.needle := rfl
@[simp] theorem State.setBit_store (s : State) (a i : Nat) (b : Bool) : (s.setBit a i b).store = s.store := rfl
@[simp] theorem State.setBit_dport (s : State) (a i : Nat) (b : Bool) : (s.setBit a i b).dport = s.dport := rfl
@[simp] theorem State.setBit_chain (s : State) (a i : Nat) (b : Bool) : (s.setBit a i b).chain = s.chain := rfl
@[simp] theorem State.setBit_health (s : State) (a i : Nat) (b : Bool) : (s.setBit a i b).health = s.health := rfl
@[simp] theorem State.setBit_fresh (s : State) (a i : Nat) (b : Bool) : (s.setBit a i b).fresh = s.fresh := rfl

/-! ### setNat -/

@[simp] theorem State.setNat_now (s : State) (a v : Nat) : (s.setNat a v).now = s.now := rfl
@[simp] theorem State.setNat_part (s : State) (a v : Nat) : (s.setNat a v).part = s.part := rfl
@[simp] theorem State.setNat_pending (s : State) (a v : Nat) : (s.setNat a v).pending = s.pending := rfl
@[simp] theorem State.setNat_rws (s : State) (a v : Nat) : (s.setNat a v).rws = s.rws := rfl
@[simp] theorem State.setNat_atMode (s : State) (a v : Nat) : (s.setNat a v).atMode = s.atMode := rfl
@[simp] theorem State.setNat_raised (s : State) (a v : Nat) : (s.setNat a v).raised = s.raised := rfl
@[simp] theorem State.setNat_outbox (s : State) (a v : Nat) : (s.setNat a v).outbox = s.outbox := rfl
@[simp] theorem State.setNat_evt (s : State) (a v : Nat) : (s.setNat a v).evt = s.evt := rfl
@[simp] theorem State.setNat_trace (s : State) (a v : Nat) : (s.setNat a v).trace = s.trace := rfl
@[simp] theorem State.setNat_pins (s : State) (a v : Nat) : (s.setNat a v).pins = s.pins := rfl
@[simp] theorem State.setNat_fabric (s : State) (a v : Nat) : (s.setNat a v).fabric = s.fabric := rfl
@[simp] theorem State.setNat_mode (s : State) (a v : Nat) : (s.setNat a v).mode = s.mode := rfl
@[simp] theorem State.setNat_power (s : State) (a v : Nat) : (s.setNat a v).power = s.power := rfl
@[simp] theorem State.setNat_rst (s : State) (a v : Nat) : (s.setNat a v).rst = s.rst := rfl
@[simp] theorem State.setNat_caston (s : State) (a v : Nat) : (s.setNat a v).caston = s.caston := rfl
@[simp] theorem State.setNat_sec (s : State) (a v : Nat) : (s.setNat a v).sec = s.sec := rfl
@[simp] theorem State.setNat_cue (s : State) (a v : Nat) : (s.setNat a v).cue = s.cue := rfl
@[simp] theorem State.setNat_frame (s : State) (a v : Nat) : (s.setNat a v).frame = s.frame := rfl
@[simp] theorem State.setNat_time (s : State) (a v : Nat) : (s.setNat a v).time = s.time := rfl
@[simp] theorem State.setNat_net (s : State) (a v : Nat) : (s.setNat a v).net = s.net := rfl
@[simp] theorem State.setNat_traf (s : State) (a v : Nat) : (s.setNat a v).traf = s.traf := rfl
@[simp] theorem State.setNat_spk (s : State) (a v : Nat) : (s.setNat a v).spk = s.spk := rfl
@[simp] theorem State.setNat_lanes (s : State) (a v : Nat) : (s.setNat a v).lanes = s.lanes := rfl
@[simp] theorem State.setNat_hbm (s : State) (a v : Nat) : (s.setNat a v).hbm = s.hbm := rfl
@[simp] theorem State.setNat_emit_ (s : State) (a v : Nat) : (s.setNat a v).emit_ = s.emit_ := rfl
@[simp] theorem State.setNat_hank (s : State) (a v : Nat) : (s.setNat a v).hank = s.hank := rfl
@[simp] theorem State.setNat_needle (s : State) (a v : Nat) : (s.setNat a v).needle = s.needle := rfl
@[simp] theorem State.setNat_store (s : State) (a v : Nat) : (s.setNat a v).store = s.store := rfl
@[simp] theorem State.setNat_dport (s : State) (a v : Nat) : (s.setNat a v).dport = s.dport := rfl
@[simp] theorem State.setNat_chain (s : State) (a v : Nat) : (s.setNat a v).chain = s.chain := rfl
@[simp] theorem State.setNat_health (s : State) (a v : Nat) : (s.setNat a v).health = s.health := rfl
@[simp] theorem State.setNat_fresh (s : State) (a v : Nat) : (s.setNat a v).fresh = s.fresh := rfl

/-! ### incFld -/

@[simp] theorem State.incFld_now (s : State) (a lo n k : Nat) : (s.incFld a lo n k).now = s.now := rfl
@[simp] theorem State.incFld_part (s : State) (a lo n k : Nat) : (s.incFld a lo n k).part = s.part := rfl
@[simp] theorem State.incFld_pending (s : State) (a lo n k : Nat) : (s.incFld a lo n k).pending = s.pending := rfl
@[simp] theorem State.incFld_rws (s : State) (a lo n k : Nat) : (s.incFld a lo n k).rws = s.rws := rfl
@[simp] theorem State.incFld_atMode (s : State) (a lo n k : Nat) : (s.incFld a lo n k).atMode = s.atMode := rfl
@[simp] theorem State.incFld_raised (s : State) (a lo n k : Nat) : (s.incFld a lo n k).raised = s.raised := rfl
@[simp] theorem State.incFld_outbox (s : State) (a lo n k : Nat) : (s.incFld a lo n k).outbox = s.outbox := rfl
@[simp] theorem State.incFld_evt (s : State) (a lo n k : Nat) : (s.incFld a lo n k).evt = s.evt := rfl
@[simp] theorem State.incFld_trace (s : State) (a lo n k : Nat) : (s.incFld a lo n k).trace = s.trace := rfl
@[simp] theorem State.incFld_pins (s : State) (a lo n k : Nat) : (s.incFld a lo n k).pins = s.pins := rfl
@[simp] theorem State.incFld_fabric (s : State) (a lo n k : Nat) : (s.incFld a lo n k).fabric = s.fabric := rfl
@[simp] theorem State.incFld_mode (s : State) (a lo n k : Nat) : (s.incFld a lo n k).mode = s.mode := rfl
@[simp] theorem State.incFld_power (s : State) (a lo n k : Nat) : (s.incFld a lo n k).power = s.power := rfl
@[simp] theorem State.incFld_rst (s : State) (a lo n k : Nat) : (s.incFld a lo n k).rst = s.rst := rfl
@[simp] theorem State.incFld_caston (s : State) (a lo n k : Nat) : (s.incFld a lo n k).caston = s.caston := rfl
@[simp] theorem State.incFld_sec (s : State) (a lo n k : Nat) : (s.incFld a lo n k).sec = s.sec := rfl
@[simp] theorem State.incFld_cue (s : State) (a lo n k : Nat) : (s.incFld a lo n k).cue = s.cue := rfl
@[simp] theorem State.incFld_frame (s : State) (a lo n k : Nat) : (s.incFld a lo n k).frame = s.frame := rfl
@[simp] theorem State.incFld_time (s : State) (a lo n k : Nat) : (s.incFld a lo n k).time = s.time := rfl
@[simp] theorem State.incFld_net (s : State) (a lo n k : Nat) : (s.incFld a lo n k).net = s.net := rfl
@[simp] theorem State.incFld_traf (s : State) (a lo n k : Nat) : (s.incFld a lo n k).traf = s.traf := rfl
@[simp] theorem State.incFld_spk (s : State) (a lo n k : Nat) : (s.incFld a lo n k).spk = s.spk := rfl
@[simp] theorem State.incFld_lanes (s : State) (a lo n k : Nat) : (s.incFld a lo n k).lanes = s.lanes := rfl
@[simp] theorem State.incFld_hbm (s : State) (a lo n k : Nat) : (s.incFld a lo n k).hbm = s.hbm := rfl
@[simp] theorem State.incFld_emit_ (s : State) (a lo n k : Nat) : (s.incFld a lo n k).emit_ = s.emit_ := rfl
@[simp] theorem State.incFld_hank (s : State) (a lo n k : Nat) : (s.incFld a lo n k).hank = s.hank := rfl
@[simp] theorem State.incFld_needle (s : State) (a lo n k : Nat) : (s.incFld a lo n k).needle = s.needle := rfl
@[simp] theorem State.incFld_store (s : State) (a lo n k : Nat) : (s.incFld a lo n k).store = s.store := rfl
@[simp] theorem State.incFld_dport (s : State) (a lo n k : Nat) : (s.incFld a lo n k).dport = s.dport := rfl
@[simp] theorem State.incFld_chain (s : State) (a lo n k : Nat) : (s.incFld a lo n k).chain = s.chain := rfl
@[simp] theorem State.incFld_health (s : State) (a lo n k : Nat) : (s.incFld a lo n k).health = s.health := rfl
@[simp] theorem State.incFld_fresh (s : State) (a lo n k : Nat) : (s.incFld a lo n k).fresh = s.fresh := rfl

/-! ### raise -/

@[simp] theorem State.raise_now (s : State) (c : Nat) (l : List Nat) : (s.raise c l).now = s.now := rfl
@[simp] theorem State.raise_part (s : State) (c : Nat) (l : List Nat) : (s.raise c l).part = s.part := rfl
@[simp] theorem State.raise_pending (s : State) (c : Nat) (l : List Nat) : (s.raise c l).pending = s.pending := rfl
@[simp] theorem State.raise_regs (s : State) (c : Nat) (l : List Nat) : (s.raise c l).regs = s.regs := rfl
@[simp] theorem State.raise_rws (s : State) (c : Nat) (l : List Nat) : (s.raise c l).rws = s.rws := rfl
@[simp] theorem State.raise_atMode (s : State) (c : Nat) (l : List Nat) : (s.raise c l).atMode = s.atMode := rfl
@[simp] theorem State.raise_outbox (s : State) (c : Nat) (l : List Nat) : (s.raise c l).outbox = s.outbox := rfl
@[simp] theorem State.raise_evt (s : State) (c : Nat) (l : List Nat) : (s.raise c l).evt = s.evt := rfl
@[simp] theorem State.raise_trace (s : State) (c : Nat) (l : List Nat) : (s.raise c l).trace = s.trace := rfl
@[simp] theorem State.raise_pins (s : State) (c : Nat) (l : List Nat) : (s.raise c l).pins = s.pins := rfl
@[simp] theorem State.raise_fabric (s : State) (c : Nat) (l : List Nat) : (s.raise c l).fabric = s.fabric := rfl
@[simp] theorem State.raise_mode (s : State) (c : Nat) (l : List Nat) : (s.raise c l).mode = s.mode := rfl
@[simp] theorem State.raise_power (s : State) (c : Nat) (l : List Nat) : (s.raise c l).power = s.power := rfl
@[simp] theorem State.raise_rst (s : State) (c : Nat) (l : List Nat) : (s.raise c l).rst = s.rst := rfl
@[simp] theorem State.raise_caston (s : State) (c : Nat) (l : List Nat) : (s.raise c l).caston = s.caston := rfl
@[simp] theorem State.raise_sec (s : State) (c : Nat) (l : List Nat) : (s.raise c l).sec = s.sec := rfl
@[simp] theorem State.raise_cue (s : State) (c : Nat) (l : List Nat) : (s.raise c l).cue = s.cue := rfl
@[simp] theorem State.raise_frame (s : State) (c : Nat) (l : List Nat) : (s.raise c l).frame = s.frame := rfl
@[simp] theorem State.raise_time (s : State) (c : Nat) (l : List Nat) : (s.raise c l).time = s.time := rfl
@[simp] theorem State.raise_net (s : State) (c : Nat) (l : List Nat) : (s.raise c l).net = s.net := rfl
@[simp] theorem State.raise_traf (s : State) (c : Nat) (l : List Nat) : (s.raise c l).traf = s.traf := rfl
@[simp] theorem State.raise_spk (s : State) (c : Nat) (l : List Nat) : (s.raise c l).spk = s.spk := rfl
@[simp] theorem State.raise_lanes (s : State) (c : Nat) (l : List Nat) : (s.raise c l).lanes = s.lanes := rfl
@[simp] theorem State.raise_hbm (s : State) (c : Nat) (l : List Nat) : (s.raise c l).hbm = s.hbm := rfl
@[simp] theorem State.raise_emit_ (s : State) (c : Nat) (l : List Nat) : (s.raise c l).emit_ = s.emit_ := rfl
@[simp] theorem State.raise_hank (s : State) (c : Nat) (l : List Nat) : (s.raise c l).hank = s.hank := rfl
@[simp] theorem State.raise_needle (s : State) (c : Nat) (l : List Nat) : (s.raise c l).needle = s.needle := rfl
@[simp] theorem State.raise_store (s : State) (c : Nat) (l : List Nat) : (s.raise c l).store = s.store := rfl
@[simp] theorem State.raise_dport (s : State) (c : Nat) (l : List Nat) : (s.raise c l).dport = s.dport := rfl
@[simp] theorem State.raise_chain (s : State) (c : Nat) (l : List Nat) : (s.raise c l).chain = s.chain := rfl
@[simp] theorem State.raise_health (s : State) (c : Nat) (l : List Nat) : (s.raise c l).health = s.health := rfl
@[simp] theorem State.raise_fresh (s : State) (c : Nat) (l : List Nat) : (s.raise c l).fresh = s.fresh := rfl

/-! ### emit -/

@[simp] theorem State.emit_now (s : State) (o : Out) : (s.emit o).now = s.now := rfl
@[simp] theorem State.emit_part (s : State) (o : Out) : (s.emit o).part = s.part := rfl
@[simp] theorem State.emit_pending (s : State) (o : Out) : (s.emit o).pending = s.pending := rfl
@[simp] theorem State.emit_regs (s : State) (o : Out) : (s.emit o).regs = s.regs := rfl
@[simp] theorem State.emit_rws (s : State) (o : Out) : (s.emit o).rws = s.rws := rfl
@[simp] theorem State.emit_atMode (s : State) (o : Out) : (s.emit o).atMode = s.atMode := rfl
@[simp] theorem State.emit_raised (s : State) (o : Out) : (s.emit o).raised = s.raised := rfl
@[simp] theorem State.emit_evt (s : State) (o : Out) : (s.emit o).evt = s.evt := rfl
@[simp] theorem State.emit_trace (s : State) (o : Out) : (s.emit o).trace = s.trace := rfl
@[simp] theorem State.emit_pins (s : State) (o : Out) : (s.emit o).pins = s.pins := rfl
@[simp] theorem State.emit_fabric (s : State) (o : Out) : (s.emit o).fabric = s.fabric := rfl
@[simp] theorem State.emit_mode (s : State) (o : Out) : (s.emit o).mode = s.mode := rfl
@[simp] theorem State.emit_power (s : State) (o : Out) : (s.emit o).power = s.power := rfl
@[simp] theorem State.emit_rst (s : State) (o : Out) : (s.emit o).rst = s.rst := rfl
@[simp] theorem State.emit_caston (s : State) (o : Out) : (s.emit o).caston = s.caston := rfl
@[simp] theorem State.emit_sec (s : State) (o : Out) : (s.emit o).sec = s.sec := rfl
@[simp] theorem State.emit_cue (s : State) (o : Out) : (s.emit o).cue = s.cue := rfl
@[simp] theorem State.emit_frame (s : State) (o : Out) : (s.emit o).frame = s.frame := rfl
@[simp] theorem State.emit_time (s : State) (o : Out) : (s.emit o).time = s.time := rfl
@[simp] theorem State.emit_net (s : State) (o : Out) : (s.emit o).net = s.net := rfl
@[simp] theorem State.emit_traf (s : State) (o : Out) : (s.emit o).traf = s.traf := rfl
@[simp] theorem State.emit_spk (s : State) (o : Out) : (s.emit o).spk = s.spk := rfl
@[simp] theorem State.emit_lanes (s : State) (o : Out) : (s.emit o).lanes = s.lanes := rfl
@[simp] theorem State.emit_hbm (s : State) (o : Out) : (s.emit o).hbm = s.hbm := rfl
@[simp] theorem State.emit_emit_ (s : State) (o : Out) : (s.emit o).emit_ = s.emit_ := rfl
@[simp] theorem State.emit_hank (s : State) (o : Out) : (s.emit o).hank = s.hank := rfl
@[simp] theorem State.emit_needle (s : State) (o : Out) : (s.emit o).needle = s.needle := rfl
@[simp] theorem State.emit_store (s : State) (o : Out) : (s.emit o).store = s.store := rfl
@[simp] theorem State.emit_dport (s : State) (o : Out) : (s.emit o).dport = s.dport := rfl
@[simp] theorem State.emit_chain (s : State) (o : Out) : (s.emit o).chain = s.chain := rfl
@[simp] theorem State.emit_health (s : State) (o : Out) : (s.emit o).health = s.health := rfl
@[simp] theorem State.emit_fresh (s : State) (o : Out) : (s.emit o).fresh = s.fresh := rfl

/-! ### useFresh -/

@[simp] theorem State.useFresh_now (s : State) : (s.useFresh).now = s.now := rfl
@[simp] theorem State.useFresh_part (s : State) : (s.useFresh).part = s.part := rfl
@[simp] theorem State.useFresh_pending (s : State) : (s.useFresh).pending = s.pending := rfl
@[simp] theorem State.useFresh_regs (s : State) : (s.useFresh).regs = s.regs := rfl
@[simp] theorem State.useFresh_rws (s : State) : (s.useFresh).rws = s.rws := rfl
@[simp] theorem State.useFresh_atMode (s : State) : (s.useFresh).atMode = s.atMode := rfl
@[simp] theorem State.useFresh_raised (s : State) : (s.useFresh).raised = s.raised := rfl
@[simp] theorem State.useFresh_outbox (s : State) : (s.useFresh).outbox = s.outbox := rfl
@[simp] theorem State.useFresh_evt (s : State) : (s.useFresh).evt = s.evt := rfl
@[simp] theorem State.useFresh_trace (s : State) : (s.useFresh).trace = s.trace := rfl
@[simp] theorem State.useFresh_pins (s : State) : (s.useFresh).pins = s.pins := rfl
@[simp] theorem State.useFresh_fabric (s : State) : (s.useFresh).fabric = s.fabric := rfl
@[simp] theorem State.useFresh_mode (s : State) : (s.useFresh).mode = s.mode := rfl
@[simp] theorem State.useFresh_power (s : State) : (s.useFresh).power = s.power := rfl
@[simp] theorem State.useFresh_rst (s : State) : (s.useFresh).rst = s.rst := rfl
@[simp] theorem State.useFresh_caston (s : State) : (s.useFresh).caston = s.caston := rfl
@[simp] theorem State.useFresh_sec (s : State) : (s.useFresh).sec = s.sec := rfl
@[simp] theorem State.useFresh_cue (s : State) : (s.useFresh).cue = s.cue := rfl
@[simp] theorem State.useFresh_frame (s : State) : (s.useFresh).frame = s.frame := rfl
@[simp] theorem State.useFresh_time (s : State) : (s.useFresh).time = s.time := rfl
@[simp] theorem State.useFresh_net (s : State) : (s.useFresh).net = s.net := rfl
@[simp] theorem State.useFresh_traf (s : State) : (s.useFresh).traf = s.traf := rfl
@[simp] theorem State.useFresh_spk (s : State) : (s.useFresh).spk = s.spk := rfl
@[simp] theorem State.useFresh_lanes (s : State) : (s.useFresh).lanes = s.lanes := rfl
@[simp] theorem State.useFresh_hbm (s : State) : (s.useFresh).hbm = s.hbm := rfl
@[simp] theorem State.useFresh_emit_ (s : State) : (s.useFresh).emit_ = s.emit_ := rfl
@[simp] theorem State.useFresh_hank (s : State) : (s.useFresh).hank = s.hank := rfl
@[simp] theorem State.useFresh_needle (s : State) : (s.useFresh).needle = s.needle := rfl
@[simp] theorem State.useFresh_store (s : State) : (s.useFresh).store = s.store := rfl
@[simp] theorem State.useFresh_dport (s : State) : (s.useFresh).dport = s.dport := rfl
@[simp] theorem State.useFresh_chain (s : State) : (s.useFresh).chain = s.chain := rfl
@[simp] theorem State.useFresh_health (s : State) : (s.useFresh).health = s.health := rfl

/-! ### wakeHbm -/

@[simp] theorem State.wakeHbm_now (s : State) : (s.wakeHbm).now = s.now := by unfold State.wakeHbm; split <;> rfl
@[simp] theorem State.wakeHbm_part (s : State) : (s.wakeHbm).part = s.part := by unfold State.wakeHbm; split <;> rfl
@[simp] theorem State.wakeHbm_pending (s : State) : (s.wakeHbm).pending = s.pending := by unfold State.wakeHbm; split <;> rfl
@[simp] theorem State.wakeHbm_regs (s : State) : (s.wakeHbm).regs = s.regs := by unfold State.wakeHbm; split <;> rfl
@[simp] theorem State.wakeHbm_rws (s : State) : (s.wakeHbm).rws = s.rws := by unfold State.wakeHbm; split <;> rfl
@[simp] theorem State.wakeHbm_atMode (s : State) : (s.wakeHbm).atMode = s.atMode := by unfold State.wakeHbm; split <;> rfl
@[simp] theorem State.wakeHbm_raised (s : State) : (s.wakeHbm).raised = s.raised := by unfold State.wakeHbm; split <;> rfl
@[simp] theorem State.wakeHbm_outbox (s : State) : (s.wakeHbm).outbox = s.outbox := by unfold State.wakeHbm; split <;> rfl
@[simp] theorem State.wakeHbm_evt (s : State) : (s.wakeHbm).evt = s.evt := by unfold State.wakeHbm; split <;> rfl
@[simp] theorem State.wakeHbm_trace (s : State) : (s.wakeHbm).trace = s.trace := by unfold State.wakeHbm; split <;> rfl
@[simp] theorem State.wakeHbm_pins (s : State) : (s.wakeHbm).pins = s.pins := by unfold State.wakeHbm; split <;> rfl
@[simp] theorem State.wakeHbm_fabric (s : State) : (s.wakeHbm).fabric = s.fabric := by unfold State.wakeHbm; split <;> rfl
@[simp] theorem State.wakeHbm_mode (s : State) : (s.wakeHbm).mode = s.mode := by unfold State.wakeHbm; split <;> rfl
@[simp] theorem State.wakeHbm_rst (s : State) : (s.wakeHbm).rst = s.rst := by unfold State.wakeHbm; split <;> rfl
@[simp] theorem State.wakeHbm_caston (s : State) : (s.wakeHbm).caston = s.caston := by unfold State.wakeHbm; split <;> rfl
@[simp] theorem State.wakeHbm_sec (s : State) : (s.wakeHbm).sec = s.sec := by unfold State.wakeHbm; split <;> rfl
@[simp] theorem State.wakeHbm_cue (s : State) : (s.wakeHbm).cue = s.cue := by unfold State.wakeHbm; split <;> rfl
@[simp] theorem State.wakeHbm_frame (s : State) : (s.wakeHbm).frame = s.frame := by unfold State.wakeHbm; split <;> rfl
@[simp] theorem State.wakeHbm_time (s : State) : (s.wakeHbm).time = s.time := by unfold State.wakeHbm; split <;> rfl
@[simp] theorem State.wakeHbm_net (s : State) : (s.wakeHbm).net = s.net := by unfold State.wakeHbm; split <;> rfl
@[simp] theorem State.wakeHbm_traf (s : State) : (s.wakeHbm).traf = s.traf := by unfold State.wakeHbm; split <;> rfl
@[simp] theorem State.wakeHbm_spk (s : State) : (s.wakeHbm).spk = s.spk := by unfold State.wakeHbm; split <;> rfl
@[simp] theorem State.wakeHbm_lanes (s : State) : (s.wakeHbm).lanes = s.lanes := by unfold State.wakeHbm; split <;> rfl
@[simp] theorem State.wakeHbm_hbm (s : State) : (s.wakeHbm).hbm = s.hbm := by unfold State.wakeHbm; split <;> rfl
@[simp] theorem State.wakeHbm_emit_ (s : State) : (s.wakeHbm).emit_ = s.emit_ := by unfold State.wakeHbm; split <;> rfl
@[simp] theorem State.wakeHbm_hank (s : State) : (s.wakeHbm).hank = s.hank := by unfold State.wakeHbm; split <;> rfl
@[simp] theorem State.wakeHbm_needle (s : State) : (s.wakeHbm).needle = s.needle := by unfold State.wakeHbm; split <;> rfl
@[simp] theorem State.wakeHbm_store (s : State) : (s.wakeHbm).store = s.store := by unfold State.wakeHbm; split <;> rfl
@[simp] theorem State.wakeHbm_dport (s : State) : (s.wakeHbm).dport = s.dport := by unfold State.wakeHbm; split <;> rfl
@[simp] theorem State.wakeHbm_chain (s : State) : (s.wakeHbm).chain = s.chain := by unfold State.wakeHbm; split <;> rfl
@[simp] theorem State.wakeHbm_health (s : State) : (s.wakeHbm).health = s.health := by unfold State.wakeHbm; split <;> rfl
@[simp] theorem State.wakeHbm_fresh (s : State) : (s.wakeHbm).fresh = s.fresh := by unfold State.wakeHbm; split <;> rfl

/-! ### touchHbm -/

@[simp] theorem State.touchHbm_now (s : State) : (s.touchHbm).now = s.now := State.wakeHbm_now s
@[simp] theorem State.touchHbm_part (s : State) : (s.touchHbm).part = s.part := State.wakeHbm_part s
@[simp] theorem State.touchHbm_pending (s : State) : (s.touchHbm).pending = s.pending := State.wakeHbm_pending s
@[simp] theorem State.touchHbm_regs (s : State) : (s.touchHbm).regs = s.regs := State.wakeHbm_regs s
@[simp] theorem State.touchHbm_rws (s : State) : (s.touchHbm).rws = s.rws := State.wakeHbm_rws s
@[simp] theorem State.touchHbm_atMode (s : State) : (s.touchHbm).atMode = s.atMode := State.wakeHbm_atMode s
@[simp] theorem State.touchHbm_raised (s : State) : (s.touchHbm).raised = s.raised := State.wakeHbm_raised s
@[simp] theorem State.touchHbm_outbox (s : State) : (s.touchHbm).outbox = s.outbox := State.wakeHbm_outbox s
@[simp] theorem State.touchHbm_evt (s : State) : (s.touchHbm).evt = s.evt := State.wakeHbm_evt s
@[simp] theorem State.touchHbm_trace (s : State) : (s.touchHbm).trace = s.trace := State.wakeHbm_trace s
@[simp] theorem State.touchHbm_pins (s : State) : (s.touchHbm).pins = s.pins := State.wakeHbm_pins s
@[simp] theorem State.touchHbm_fabric (s : State) : (s.touchHbm).fabric = s.fabric := State.wakeHbm_fabric s
@[simp] theorem State.touchHbm_mode (s : State) : (s.touchHbm).mode = s.mode := State.wakeHbm_mode s
@[simp] theorem State.touchHbm_rst (s : State) : (s.touchHbm).rst = s.rst := State.wakeHbm_rst s
@[simp] theorem State.touchHbm_caston (s : State) : (s.touchHbm).caston = s.caston := State.wakeHbm_caston s
@[simp] theorem State.touchHbm_sec (s : State) : (s.touchHbm).sec = s.sec := State.wakeHbm_sec s
@[simp] theorem State.touchHbm_cue (s : State) : (s.touchHbm).cue = s.cue := State.wakeHbm_cue s
@[simp] theorem State.touchHbm_frame (s : State) : (s.touchHbm).frame = s.frame := State.wakeHbm_frame s
@[simp] theorem State.touchHbm_time (s : State) : (s.touchHbm).time = s.time := State.wakeHbm_time s
@[simp] theorem State.touchHbm_net (s : State) : (s.touchHbm).net = s.net := State.wakeHbm_net s
@[simp] theorem State.touchHbm_traf (s : State) : (s.touchHbm).traf = s.traf := State.wakeHbm_traf s
@[simp] theorem State.touchHbm_spk (s : State) : (s.touchHbm).spk = s.spk := State.wakeHbm_spk s
@[simp] theorem State.touchHbm_lanes (s : State) : (s.touchHbm).lanes = s.lanes := State.wakeHbm_lanes s
@[simp] theorem State.touchHbm_hbm (s : State) : (s.touchHbm).hbm = s.hbm := State.wakeHbm_hbm s
@[simp] theorem State.touchHbm_emit_ (s : State) : (s.touchHbm).emit_ = s.emit_ := State.wakeHbm_emit_ s
@[simp] theorem State.touchHbm_hank (s : State) : (s.touchHbm).hank = s.hank := State.wakeHbm_hank s
@[simp] theorem State.touchHbm_needle (s : State) : (s.touchHbm).needle = s.needle := State.wakeHbm_needle s
@[simp] theorem State.touchHbm_store (s : State) : (s.touchHbm).store = s.store := State.wakeHbm_store s
@[simp] theorem State.touchHbm_dport (s : State) : (s.touchHbm).dport = s.dport := State.wakeHbm_dport s
@[simp] theorem State.touchHbm_chain (s : State) : (s.touchHbm).chain = s.chain := State.wakeHbm_chain s
@[simp] theorem State.touchHbm_health (s : State) : (s.touchHbm).health = s.health := State.wakeHbm_health s
@[simp] theorem State.touchHbm_fresh (s : State) : (s.touchHbm).fresh = s.fresh := State.wakeHbm_fresh s

/-! ### dropContent -/

@[simp] theorem State.dropContent_now (s : State) : (s.dropContent).now = s.now := rfl
@[simp] theorem State.dropContent_part (s : State) : (s.dropContent).part = s.part := rfl
@[simp] theorem State.dropContent_pending (s : State) : (s.dropContent).pending = s.pending := rfl
@[simp] theorem State.dropContent_regs (s : State) : (s.dropContent).regs = s.regs := rfl
@[simp] theorem State.dropContent_rws (s : State) : (s.dropContent).rws = s.rws := rfl
@[simp] theorem State.dropContent_atMode (s : State) : (s.dropContent).atMode = s.atMode := rfl
@[simp] theorem State.dropContent_raised (s : State) : (s.dropContent).raised = s.raised := rfl
@[simp] theorem State.dropContent_outbox (s : State) : (s.dropContent).outbox = s.outbox := rfl
@[simp] theorem State.dropContent_evt (s : State) : (s.dropContent).evt = s.evt := rfl
@[simp] theorem State.dropContent_trace (s : State) : (s.dropContent).trace = s.trace := rfl
@[simp] theorem State.dropContent_pins (s : State) : (s.dropContent).pins = s.pins := rfl
@[simp] theorem State.dropContent_fabric (s : State) : (s.dropContent).fabric = s.fabric := rfl
@[simp] theorem State.dropContent_mode (s : State) : (s.dropContent).mode = s.mode := rfl
@[simp] theorem State.dropContent_power (s : State) : (s.dropContent).power = s.power := rfl
@[simp] theorem State.dropContent_rst (s : State) : (s.dropContent).rst = s.rst := rfl
@[simp] theorem State.dropContent_caston (s : State) : (s.dropContent).caston = s.caston := rfl
@[simp] theorem State.dropContent_sec (s : State) : (s.dropContent).sec = s.sec := rfl
@[simp] theorem State.dropContent_cue (s : State) : (s.dropContent).cue = s.cue := rfl
@[simp] theorem State.dropContent_frame (s : State) : (s.dropContent).frame = s.frame := rfl
@[simp] theorem State.dropContent_time (s : State) : (s.dropContent).time = s.time := rfl
@[simp] theorem State.dropContent_net (s : State) : (s.dropContent).net = s.net := rfl
@[simp] theorem State.dropContent_traf (s : State) : (s.dropContent).traf = s.traf := rfl
@[simp] theorem State.dropContent_spk (s : State) : (s.dropContent).spk = s.spk := rfl
@[simp] theorem State.dropContent_lanes (s : State) : (s.dropContent).lanes = s.lanes := rfl
@[simp] theorem State.dropContent_emit_ (s : State) : (s.dropContent).emit_ = s.emit_ := rfl
@[simp] theorem State.dropContent_hank (s : State) : (s.dropContent).hank = s.hank := rfl
@[simp] theorem State.dropContent_needle (s : State) : (s.dropContent).needle = s.needle := rfl
@[simp] theorem State.dropContent_store (s : State) : (s.dropContent).store = s.store := rfl
@[simp] theorem State.dropContent_dport (s : State) : (s.dropContent).dport = s.dport := rfl
@[simp] theorem State.dropContent_chain (s : State) : (s.dropContent).chain = s.chain := rfl
@[simp] theorem State.dropContent_health (s : State) : (s.dropContent).health = s.health := rfl
@[simp] theorem State.dropContent_fresh (s : State) : (s.dropContent).fresh = s.fresh := rfl

/-! ## What the primitive updates change -/

theorem State.raise_raised (s : State) (c : Nat) (l : List Nat) :
    (s.raise c l).raised = s.raised ++ [⟨s.now, c, l.map (· % 2 ^ 32), s.showNs⟩] := rfl

theorem State.emit_outbox (s : State) (o : Out) : (s.emit o).outbox = s.outbox ++ [o] := rfl

/-- A register reads what was set, and every other one as before. -/
theorem State.reg_setReg (s : State) (a b : Nat) (w : Word) : (s.setReg a w).reg b = if a = b then w else s.reg b := by
  simp only [State.reg, State.setReg]
  split
  · rename_i h
    rw [mapGet_mapErase]
    split
    · rename_i e
      subst e
      simp [h]
    · rfl
  · rw [mapGet_mapPut]
    split <;> rfl

@[simp] theorem State.reg_setReg_self (s : State) (a : Nat) (w : Word) : (s.setReg a w).reg a = w := by simp [State.reg_setReg]

theorem State.reg_setReg_ne (s : State) (a b : Nat) (w : Word) (h : a ≠ b) : (s.setReg a w).reg b = s.reg b := by
  simp [State.reg_setReg, h]

theorem State.reg_congr {s n : State} (h : n.regs = s.regs) (a : Nat) : n.reg a = s.reg a := by simp [State.reg, h]

@[simp] theorem State.reg_raise (s : State) (c : Nat) (l : List Nat) (a : Nat) : (s.raise c l).reg a = s.reg a := rfl
@[simp] theorem State.reg_emit (s : State) (o : Out) (a : Nat) : (s.emit o).reg a = s.reg a := rfl
@[simp] theorem State.fld_raise (s : State) (c : Nat) (l : List Nat) (a lo n : Nat) : (s.raise c l).fld a lo n = s.fld a lo n := rfl
@[simp] theorem State.fld_emit (s : State) (o : Out) (a lo n : Nat) : (s.emit o).fld a lo n = s.fld a lo n := rfl
@[simp] theorem State.bit_raise (s : State) (c : Nat) (l : List Nat) (a i : Nat) : (s.raise c l).bit a i = s.bit a i := rfl
@[simp] theorem State.bit_emit (s : State) (o : Out) (a i : Nat) : (s.emit o).bit a i = s.bit a i := rfl

/-- A field reads what was set. -/
theorem State.fld_setFld_self (s : State) (a lo n v : Nat) (h : lo + n ≤ 32) : (s.setFld a lo n v).fld a lo n = v % 2 ^ n := by
  simp [State.fld, State.setFld, Word.field_put_self _ _ _ _ h]

/-- Another register reads as before a field is set. -/
theorem State.reg_setFld_ne (s : State) (a b lo n v : Nat) (h : a ≠ b) : (s.setFld a lo n v).reg b = s.reg b :=
  State.reg_setReg_ne s a b _ h

/-- Another field of the same register reads as before. -/
theorem State.fld_setFld_same (s : State) (a lo n v lo' n' : Nat) (h : lo' + n' ≤ lo ∨ lo + n ≤ lo') :
    (s.setFld a lo n v).fld a lo' n' = s.fld a lo' n' := by
  simp [State.fld, State.setFld, Word.field_put_ne _ _ _ _ _ _ h]

theorem State.fld_setFld_ne (s : State) (a b lo n v lo' n' : Nat) (h : a ≠ b) : (s.setFld a lo n v).fld b lo' n' = s.fld b lo' n' := by
  simp [State.fld, State.reg_setFld_ne s a b lo n v h]

theorem State.bit_setBit_self (s : State) (a i : Nat) (b : Bool) (h : i < 32) : (s.setBit a i b).bit a i = b := by
  simp [State.bit, State.setBit, State.setFld, Word.bit_put_self _ _ _ h]

theorem State.bit_setBit_same (s : State) (a i j : Nat) (b : Bool) (h : i ≠ j) : (s.setBit a i b).bit a j = s.bit a j := by
  simp [State.bit, State.setBit, State.setFld, Word.bit_put_ne _ _ _ _ _ (show j < i ∨ i + 1 ≤ j by omega)]

theorem State.bit_setBit_ne (s : State) (a c i j : Nat) (b : Bool) (h : a ≠ c) : (s.setBit a i b).bit c j = s.bit c j := by
  simp [State.bit, State.setBit, State.reg_setFld_ne s a c _ _ _ h]

/-! ## The canonical form -/

theorem regsCanonical_iff (m : List (Nat × Word)) : regsCanonical m = true ↔ keysRising m = true ∧ ∀ x ∈ m, x.2 ≠ resetWord x.1 := by
  simp [regsCanonical, List.all_eq_true]

/-- Setting a register keeps the register list in its one form. -/
theorem setReg_regsCanonical (s : State) (a : Nat) (w : Word) (h : regsCanonical s.regs = true) :
    regsCanonical (s.setReg a w).regs = true := by
  rw [regsCanonical_iff] at *
  simp only [State.setReg]
  split
  · exact ⟨keysRising_mapErase _ _ h.1, fun x hx => h.2 x (mem_mapErase hx)⟩
  · rename_i hw
    refine ⟨keysRising_mapPut _ _ _ h.1, fun x hx => ?_⟩
    rcases mem_mapPut hx with rfl | hx
    · exact hw
    · exact h.2 x hx

/-- Leaving registers out (they return to their reset values) keeps the list in its one form. -/
theorem filter_regsCanonical (m : List (Nat × Word)) (p : Nat × Word → Bool) (h : regsCanonical m = true) :
    regsCanonical (m.filter p) = true := by
  rw [regsCanonical_iff] at *
  exact ⟨keysRising_filter _ _ h.1, fun x hx => h.2 x (List.mem_filter.mp hx).1⟩

/-! ## The advance of the clock -/

/-- A command of the present or an earlier cycle leaves the clock where it is. -/
@[simp] theorem State.advance_now_self (s : State) : s.advance s.now = s := by simp [State.advance]

/-- The clock is at the command's cycle, or later. -/
theorem State.advance_now (s : State) (t : Nat) : (s.advance t).now = max s.now t := by
  simp only [State.advance]
  split
  · omega
  · show t = max s.now t
    omega

/-- The clock never goes back. -/
theorem State.advance_ge (s : State) (t : Nat) : s.now ≤ (s.advance t).now := by rw [State.advance_now]; omega

end Sys2Proof.Machine
end

