-- ==== Sys2Proof/Laws/Guard.lean ====
section
/-! SUPPORT.  What a guarded write and a control write do when nothing refuses them (R9, R424, R388), and how a register reads
after a record update. -/

namespace Sys2Proof.Machine

/-- A register as a register list gives it. -/
def regGet (m : List (Nat × Word)) (a : Nat) : Word := (mapGet m a).getD (resetWord a)

@[simp] theorem regGet_regs (s : State) (a : Nat) : regGet s.regs a = s.reg a := rfl

/-- A register depends on the register list alone. -/
@[simp] theorem State.reg_mk (now : Nat) (part : Part) (pending : List Instr) (regs : List (Nat × Word)) (rws : List PendWrite) (atMode : List
    PendWrite) (raised : List Event) (outbox : List Out) (evt : EvtState) (trace : TraceState) (pins : Pins) (fabric :
    FabricState) (mode : ModeState) (power : PowerState) (rst : ResetState) (caston : CastonState) (sec : SecState) (cue :
    CueState) (frame : FrameState) (time : TimeState) (net : NetState) (traf : TrafState) (spk : SpkState) (lanes :
    LanesState) (hbm : HbmState) (emit_ : EmitState) (hank : HankState) (needle : NeedleState) (store : StoreState) (dport :
    DportState) (chain : ChainState) (health : HealthState) (fresh : Nat) (a : Nat) :
    (State.mk now part pending regs rws atMode raised outbox evt trace pins fabric mode power rst caston sec cue frame time net traf spk lanes hbm emit_ hank needle store dport chain health fresh).reg a = regGet regs a := rfl

/-- A register after a field was set. -/
theorem State.reg_setFld (s : State) (a b lo n v : Nat) : (s.setFld a lo n v).reg b = if a = b then (s.reg a).put lo n v else s.reg b := by
  rw [State.setFld, State.reg_setReg]

/-- A register after a bit was set. -/
theorem State.reg_setBit (s : State) (a b i : Nat) (x : Bool) :
    (s.setBit a i x).reg b = if a = b then (s.reg a).put i 1 (bitOf x) else s.reg b := by
  rw [State.setBit, State.reg_setFld]

/-- A register after one was set from a number. -/
theorem State.reg_setNat (s : State) (a b v : Nat) : (s.setNat a v).reg b = if a = b then Word.ofNat v else s.reg b := by
  rw [State.setNat, State.reg_setReg]

/-- A guarded write that nothing refuses carries out its effect on the masked word and is then forwarded. -/
theorem State.guarded_ok {s : State} {req : Requester} {a : Nat} {w : Word} {f : State → Word → State} (h : s.accepts req a w) :
    s.guarded req a 4 w f = (f s (w &&& writeMask a)).mirror req a (w &&& writeMask a) := by
  simp only [State.guarded]; rw [show writeCause s req a 4 w = none from h]

/-- A register that is local to its member is not forwarded. -/
theorem State.mirror_local (s : State) (req : Requester) (a : Nat) (w : Word) (h : mirrorScope a = 0) : s.mirror req a w = s := by
  simp only [State.mirror, h]; split <;> rfl

/-- A device that runs alone forwards nothing. -/
theorem State.mirror_alone (s : State) (req : Requester) (a : Nat) (w : Word) (h : s.alone) : s.mirror req a w = s := by
  have h' : s.chain.chained = false := h
  simp [State.mirror, h']

/-- A control write that nothing refuses, of a register that is local to its member, has its effect and no other. -/
theorem State.control_ok {s : State} {req : Requester} {a : Nat} {w : Word} {f : State → State} (h : s.accepts req a w)
    (hm : mirrorScope a = 0) : s.control req a w f = f s := by
  rw [State.control, State.guarded_ok h, State.mirror_local _ _ _ _ hm]

/-- A guarded write that a cause refuses changes nothing but what the refusal reports. -/
theorem State.guarded_refused {s : State} {req : Requester} {a : Nat} {w : Word} {f : State → Word → State} {c : Cause}
    (h : writeCause s req a 4 w = some c) : s.guarded req a 4 w f = s.refuse req a w c := by
  simp only [State.guarded]; rw [h]

/-- Saturation is the smaller of the two. -/
theorem satTo_min (m x : Nat) : satTo m x = min m x := by unfold satTo; split <;> omega

end Sys2Proof.Machine
end

