-- ==== Sys2Proof/Tests/Slice0.lean ====
section
/-! SUPPORT.  Tests: an ill-formed term for each check of well-formedness, small checks of single steps against the manual,
and, for every statement with hypotheses, states and operands that meet the hypotheses of each of its clauses together. -/

namespace Sys2Proof.Tests
open Sys2Proof Sys2Proof.Machine

set_option Elab.async false

/-! ## Small states -/

/-- A device that is up in mode `m`: READY, every domain on, an hour after reset. -/
def stand (m : Nat) : State :=
  { ((((((State.reset.setNat Reg.GLB_MODE_STAT m).setNat Reg.CLKRST_CASTON_STAT 0x20).setNat Reg.PWR_DOMAIN_STAT0 0xFFFFFFFF).setNat
      (Reg.PWR_DOMAIN_STAT0 + 4) 0xFFFFFFFF).setNat (Reg.PWR_DOMAIN_STAT0 + 8) 0xFFFF).setNat Reg.HBM_STAT 0) with
    now := 1440000000000, power := {}, rst := {} }

/-- A frame of mode `m` and the cadence that it belongs to. -/
def frame (m : Nat) : FrameInfo := { count := 7, flip := 0, window := 10000, form := .full, mode := m }
def cadence : Cadence := { rate := 60, align := 0, phase := 0, anchor := 0, anchorCount := 0, anchorPos := 0 }

/-- A device that delivers frames in mode `m`, with its panel ready and a skein to show. -/
def showing (m : Nat) : State :=
  { ((stand m).setNat Reg.SPK_STAT 0x10000).setNat Reg.STORE_STAT 4 with frame := { cadence := some cadence, cur := some (frame m) } }

/-- A device in step `n` of cast-on, every domain on. -/
def casting (n : Nat) : State := (stand Mode.CAST_ON).setNat Reg.CLKRST_CASTON_STAT n

/-- An option block with its CRC. -/
def optionBlock : List Byte :=
  let b := leBytes 4 0x54484F50 ++ leBytes 2 1 ++ leBytes 2 0x100 ++ leBytes 2 4 ++ leBytes 2 5 ++ List.replicate 24 0 ++ leBytes 4 8 ++
    List.replicate 212 0
  b ++ leBytes 4 (crc32 b)

/-- Latch cycle and count of the boundary ahead. -/
def nextL (s : State) : Nat := (s.nextLatch.map (·.1)).getD 0
def nextK (s : State) : Nat := (s.nextLatch.map (·.2)).getD 0

/-- A device with a panel of two tiles on lanes 0 and 1. -/
def panel (s : State) : State :=
  { s with sec := { s.sec with pattern := { roster := [⟨0, 0, 1, 1, 0, false, 0, 0, 4, 4⟩, ⟨1, 0, 1, 1, 0, false, 1, 0, 4, 4⟩] } } }

/-- Lane `l` in stage `v`. -/
def laneAt (s : State) (l v : Nat) : State := s.setFld (Reg.LANE_STATE l) 0 4 v

/-- A back-channel frame of zeros with its CRC. -/
def bcFrame : List Byte :=
  let b : List Byte := 1 :: List.replicate 61 0
  b ++ leBytes 2 (crc16 b)

/-- A device with 32 MiB of HBM in use: eight rows in each of two slots. -/
def hbmUp (m : Nat) : State := ((stand m).setNat Reg.GLB_MODE_STAT m).setUsable 8 2

/-- A UDP datagram of 32 bytes to port 5000 of a device whose addresses are zero, and the device that takes it for yarn stream 0. -/
def yarnFrame : List Byte := State.reset.udpFrame 0 0 (mapped4 [0, 0, 0, 0]) [0, 0, 0, 0, 0, 0] 5000 5000 (List.replicate 32 0)
def listening : State := ((stand Mode.LIVE).setNat (Reg.STORE_YARN_CFG 0) 5000).setBit (Reg.NET_PORT_CFG 0) 0 true

/-- The header of a yarn packet or of a cue frame. -/
def yarnPacket (type : Nat) (body : List Byte) : List Byte :=
  leBytes 4 0x4E524159 ++ [1] ++ leBytes 1 type ++ List.replicate 10 0 ++ leBytes 4 100 ++ List.replicate 12 0 ++ body
def cueFrame (type : Nat) (rest : List Byte) : List Byte := leBytes 4 0x54484345 ++ [1] ++ leBytes 1 type ++ List.replicate 10 0 ++ rest

/-- A Sync of domain 127 from master [1]. -/
def sync (two : Bool) : PtpMsg := ⟨127, [1], 7, two, 0, 0, 0, -3⟩

/-- A member of a chain of two, with the word `st` in CHAIN_STAT and chain ID `id`; port 0 of each leads to the other. -/
def member (m id st : Nat) : State :=
  { ((stand m).setNat Reg.CHAIN_STAT st).setNat Reg.CLKRST_STRAP (16 * id) with
    sec := { pattern := { chain := [⟨0, 1, 1, 0xFF, [1, 0xFF, 0xFF, 0xFF], 0⟩, ⟨1, 1, 0, 0, [0, 0xFF, 0xFF, 0xFF], 0⟩] } }
    chain := { chained := true } }

/-- A packet of a chain for member 0, and a heartbeat body of member 1. -/
def chainPacket (kind : Nat) (body : List Word) : List Byte := (mkPacket 0 false kind body).words.flatMap fun w => leBytes 4 w.toNat
def beatOf1 : List Byte := (member Mode.IDLE 1 0).hbBody

/-! ## Ill-formed commands: one for each check that `Instr.wf` makes -/

theorem test_ill_formed_system :
    ([.fabricParityError 0 0x31 1 0 0 0 0 [], .fabricParityError 0 0 9 0 0 0 0 [], .fabricParityError 0 0 1 0 (2 ^ 35) 0 0 [],
      .registerWrite 0 .host (2 ^ 26) 4 0, .registerWrite 0 .host 0 3 0, .earlyHostAccess 0 0 (2 ^ 26) true,
      .earlyHostAccess 0 2 (2 ^ 22) true, .earlyHostAccess 0 1 0 true, .modeCmdReset 0 256, .modeCmdCastOn 0 256,
      .modeCmdDeep 0 true 256, .modeCmdStrip 0 true 256, .modeCmdIdle 0 true 256, .modeCmdPreview 0 true 256,
      .modeCmdShow 0 true 256, .modeCmdLive 0 true 256, .modeCmdSwatch 0 true 256, .modeCmdService 0 true 256,
      .modeCmdBindOff 0 true 256, .modeCmdSafe 0 true 256, .endpointReset 0 6 16, .endpointReset 0 5 3, .supplyFault 0 16,
      .blockResetDone 0 256] : List Instr).all (fun i => !i.wf) = true := by decide +kernel

theorem test_ill_formed_scene :
    ([.cueTimeDue 0 0, .cueDelayDue 0 65536, .secCueGo 0 .host 65536, .cueModeCommand 0 0, .cuePlaySkein 0 65536,
      .cueRegisterBatch 0 0, .cueVenueSelect 0 65536, .plyFetchDone 0 0 0 65, .plyFetchFail 0 0 0 65 2, .plyFetchFail 0 0 0 0 1,
      .courseOpen 0 0 65536, .spanDone 0 0 65536 0 [], .spkCtlReenum 0 .host 128, .spkCtlEcho 0 .host 128,
      .laneCtlRetrain 0 .host 304, .laneCtlClear 0 .host 304, .emitStripBufWrite 0 .host 65536 0, .hbmReadParityError 0 0 (2 ^ 35) 0,
      .hbmAlert 0 0 (2 ^ 35), .scrubRead 0 3] : List Instr).all (fun i => !i.wf) = true := by decide +kernel

theorem test_ill_formed_links :
    ([.nvmeCompletion 0 0 65536 0 [], .nvmeCompletion 0 0 0 65536 [], .nvmeTimeout 0 0 65536, .dportWriteTlp 0 0 (2 ^ 20) 0 0 [],
      .dportWriteTlp 0 0 0 16 0 [], .dportWriteTlp 0 0 0 0 16 [], .dportWriteTlp 0 0 0 0 0 [1], .dportReadTlp 0 0 (2 ^ 20) 0,
      .ethFrameRx 0 0 (List.replicate 65536 0) true, .chainDataBlock 0 0 [], .chainAck 0 0 65536, .chainNak 0 0 65536,
      .chainTrainBlock 0 0 [], .chainTimeBlock 0 0 [], .chainRegisterWrite 0 0 [1], .chainCommit 0 0 [1], .chainModeCommand 0 0 [1],
      .chainLatchDigest 0 0 [1], .chainPlyOff 0 0 [1], .chainJoinFrame 0 0 [1], .chainSkeinRecord 0 0 [1], .chainSignedObject 0 0 [1],
      .chainJoinState 0 0 [1], .chainHbBlock 0 0 [], .hlthSensorRound 0 [], .hbmStackSensorRead 0 [], .hlthOndemandRead 0 [],
      .evtRingWriteError 0 (2 ^ 16) 0] : List Instr).all (fun i => !i.wf) = true := by decide +kernel

/-! ## Small checks -/

/-- R46: reset has ended, cast-on is about to start, and no command waits. -/
theorem test_reset_is_in_cast_on : State.reset.modeCode = Mode.CAST_ON ∧ State.reset.pending = [] := by decide +kernel

/-- A command at the front runs and leaves the queue (the block's step). -/
theorem test_step_pops : (match step { stand Mode.IDLE with pending := [.glbExpertWrite 0 .host 5] } with
    | .next n => n.pending == [] && n.bit Reg.GLB_EXPERT_STAT 0 == false
    | _ => false) = true := by decide +kernel

/-- R22: the key of Table 1-5 unlocks. -/
theorem test_expert_key : (match exec (.glbExpertWrite 0 .host 0x4B4E4954) (stand Mode.IDLE) with
    | .next n => n.bit Reg.GLB_EXPERT_STAT 0
    | _ => false) = true := by decide +kernel

/-- R192: the check value of CRC-32C over "123456789". -/
theorem test_crc32c : crc32c ((List.range 9).map fun k => BitVec.ofNat 8 (0x31 + k)) = 0xE3069283 := by decide +kernel

/-- The check value of IEEE 802.3's CRC-32 over "123456789". -/
theorem test_crc32 : crc32 ((List.range 9).map fun k => BitVec.ofNat 8 (0x31 + k)) = 0xCBF43926 := by decide +kernel

/-- R18: 2 ms is 800,000 control cycles; 1 ns rounds up to one. -/
theorem test_times : ms 2 = 800000 ∧ nsCycles 1 = 1 ∧ nsCycles 5 = 2 := by decide +kernel

/-- RFC 1071's example: the words 0001 f203 f4f5 f6f7 sum to ddf2. -/
theorem test_checksum : checksum [0x00, 0x01, 0xF2, 0x03, 0xF4, 0xF5, 0xF6, 0xF7] = 0xFFFF - 0xDDF2 := by decide +kernel

/-- A byte written to HBM is read back, and the byte beside it still has no value of its own. -/
theorem test_hbm_write : (((stand Mode.IDLE).hbmWrite 7 [3] 1).byte 7 == 3 && ((stand Mode.IDLE).hbmWrite 7 [3] 1).hbm.mem.length == 1) = true := by
  decide +kernel


/-! ## Witnesses: hypotheses that are met -/

theorem witness_StepRunsTheFrontCommand :
    (∃ (s : State) (c : Instr) (rest : List Instr), s.pending = c :: rest) ∧
    (∃ (s : State), s.pending = []) :=
  ⟨⟨{ stand Mode.IDLE with pending := [.por 0] }, (.por 0), [], by decide +kernel⟩,
   ⟨(stand Mode.IDLE), by decide +kernel⟩⟩

theorem witness_EveryStepAnswersAndTakesOneCommand :
    ∃ (s n : State), step s = .next n :=
  ⟨(stand Mode.IDLE), ((stand Mode.IDLE).advance ((stand Mode.IDLE).now + 1)), rfl⟩

theorem witness_StepKeepsTheCanonicalForm :
    ∃ (s n : State), s.canonical = true ∧ step s = .next n :=
  ⟨(stand Mode.IDLE), ((stand Mode.IDLE).advance ((stand Mode.IDLE).now + 1)), by decide +kernel, rfl⟩

theorem witness_ExpertKeyUnlocksThePages :
    (∃ (t : Nat) (req : Requester) (w : Word) (s u : State), s.advance t = u ∧ u.accepts req Reg.GLB_EXPERT w) ∧
    (∃ (t : Nat) (req : Requester) (w : Word) (s u : State), s.advance t = u ∧ u.accepts req Reg.GLB_EXPERT w) :=
  ⟨⟨0, .host, 0x4B4E4954, (stand Mode.IDLE), _, rfl, by decide +kernel⟩,
   ⟨0, .host, 5, (stand Mode.IDLE), _, rfl, by decide +kernel⟩⟩

theorem witness_AcceptedWritesWaitOrApply :
    (∃ (t : Nat) (req : Requester) (a : Nat) (w : Word) (s u : State), s.advance t = u ∧ u.alone ∧ blockOf a = 7 ∧ ((findReg a).any (fun d =>
      d.access == .rws && d.applies == .atCommit) = true) ∧ u.accepts req a w) ∧
    (∃ (t : Nat) (req : Requester) (a : Nat) (w : Word) (s u : State), s.advance t = u ∧ blockOf a = 12 ∧ a ≠ Reg.HANK_JOB_SUBMIT ∧ ((findReg a).any
      (fun d => d.access == .rw && d.applies == .atOnce) = true) ∧ u.accepts req a w) ∧
    (∃ (t : Nat) (req : Requester) (a : Nat) (w : Word) (s u : State), s.advance t = u ∧ u.alone ∧ ((blockOf a = 7 ∨ blockOf a = 12)) ∧ ((findReg
      a).any (fun d => d.access == .ro) = true) ∧ u.accepts req a w) :=
  ⟨⟨0, .host, Reg.SCAN_TIMING, 0, (stand Mode.IDLE), _, rfl, by decide +kernel⟩,
   ⟨0, .host, Reg.HANK_JOB_LEN, 9, (stand Mode.IDLE), _, rfl, by decide +kernel⟩,
   ⟨0, .host, Reg.SCAN_STAT, 9, (stand Mode.IDLE), _, rfl, by decide +kernel⟩⟩

theorem witness_RefusedWritesChangeNoRegister :
    (∃ (t : Nat) (req : Requester) (a size : Nat) (w : Word) (c : Cause) (s u : State), s.advance t = u ∧ writeCause u req a size w = some c) ∧
    (∃ (t : Nat) (req : Requester) (a size : Nat) (w : Word) (c : Cause) (s u : State), s.advance t = u ∧ writeCause u req a size w = some c) ∧
    (∃ (t : Nat) (req : Requester) (a size : Nat) (w : Word) (c : Cause) (s u : State), s.advance t = u ∧ writeCause u req a size w = some c) ∧
    (∃ (t : Nat) (req : Requester) (a : Nat) (w : Word) (s u : State), s.advance t = u ∧ a % 4 = 0 ∧ writeCause u req a 4 w = some .encoding) :=
  ⟨⟨0, .host, Reg.SCAN_TIMING, 4, 0xFFFFFFFF, .encoding, (stand Mode.IDLE), _, rfl, by decide +kernel⟩,
   ⟨0, .host, Reg.SCAN_TIMING, 4, 0, .early, State.reset, _, rfl, by decide +kernel⟩,
   ⟨0, .host, Reg.HANK_JOB_LEN, 2, 0, (((writeCause (stand Mode.IDLE) .host (Reg.HANK_JOB_LEN) 2 (0)).getD .encoding)), (stand Mode.IDLE), _, rfl,
     by decide +kernel⟩,
   ⟨0, .host, Reg.SCAN_TIMING, 0xFFFFFFFF, (stand Mode.IDLE), _, rfl, by decide +kernel⟩⟩

theorem witness_EarlyDataPortAccessIsCounted :
    (∃ (t : Nat) (s u : State), s.advance t = u ∧ u.endpointOn = true ∧ u.ready = false) ∧
    (∃ (t : Nat) (s u : State), s.advance t = u ∧ u.endpointOn = true ∧ u.ready = false) :=
  ⟨⟨0, (State.reset.setDomain 52 true), _, rfl, by decide +kernel⟩,
   ⟨0, { State.reset.setDomain 52 true with caston := { earlyAt := some 0 } }, _, rfl, by decide +kernel⟩⟩

theorem witness_FabricErrorsAreReplayedThenReported :
    (∃ (t hop tr k : Nat) (s u : State), s.advance t = u ∧ u.failuresOf hop tr = k ∧ k < 2) ∧
    (∃ (t hop tr k : Nat) (s u : State), s.advance t = u ∧ u.failuresOf hop tr = k ∧ k < 2) ∧
    (∃ (t hop cls tr : Nat) (s u : State), s.advance t = u ∧ (cls = 2 ∨ cls = 3) ∧ u.failuresOf hop tr = 2 ∧ u.fabric.uncorr.length < 15) ∧
    (∃ (t hop cls tr : Nat) (s u : State), s.advance t = u ∧ (cls = 2 ∨ cls = 3) ∧ u.failuresOf hop tr = 2 ∧ u.fabric.uncorr.length < 15) ∧
    (∃ (t : Nat) (req : Requester) (w : Word) (s u : State), s.advance t = u ∧ u.accepts req Reg.GLB_FABRIC_CTL w ∧ w.bit 0 = true) ∧
    (∃ (t e : Nat) (s u : State), s.advance t = u ∧ u.fabric.criticalEnd = some e ∧ e ≤ u.now) :=
  ⟨⟨0, 3, 2, 0, (stand Mode.IDLE), _, rfl, by decide +kernel⟩,
   ⟨0, 3, 2, 1, { stand Mode.IDLE with fabric := { fails := [(3, 2, 1, (stand Mode.IDLE).now)] } }, _, rfl, by decide +kernel⟩,
   ⟨0, 3, 2, 2, { stand Mode.IDLE with fabric := { fails := [(3, 2, 2, (stand Mode.IDLE).now)] } }, _, rfl, by decide +kernel⟩,
   ⟨0, 3, 3, 2, { stand Mode.IDLE with fabric := { fails := [(3, 2, 2, (stand Mode.IDLE).now)] } }, _, rfl, by decide +kernel⟩,
   ⟨0, .host, 1, (stand Mode.IDLE), _, rfl, by decide +kernel⟩,
   ⟨0, 5, { (stand Mode.IDLE).setBit Reg.GLB_MODE_SAFE 17 true with fabric := { criticalEnd := some 5 } }, _, rfl, by decide +kernel⟩⟩

theorem witness_ModeCommandsRefusedOrAtOnce :
    (∃ (t seq : Nat) (s u : State), s.advance t = u ∧ takesCommand u Mode.RESET true seq) ∧
    (∃ (t seq : Nat) (s u : State), s.advance t = u ∧ takesCommand u Mode.CAST_ON true seq) ∧
    (∃ (t seq : Nat) (loc : Bool) (s u : State), s.advance t = u ∧ u.alone ∧ isDelivering u.modeCode = true ∧ u.cadenceRuns = true ∧ u.mode.cur =
      none ∧ takesCommand u Mode.SAFE loc seq) ∧
    (∃ (t seq : Nat) (loc : Bool) (s u v : State), s.advance t = u ∧ u.alone ∧ u.modeCode = Mode.IDLE ∧ takesCommand u Mode.SERVICE loc seq ∧
      (({ u with mode := { u.mode with cur := some (hostTransition u Mode.SERVICE loc seq .latch) } }).setTarget Mode.SERVICE true).retarget.wakeHbm
      = v) :=
  ⟨⟨0, 9, (stand Mode.IDLE), _, rfl, by decide +kernel⟩,
   ⟨0, 9, (stand Mode.IDLE), _, rfl, by decide +kernel⟩,
   ⟨0, 9, true, (showing Mode.SHOW), _, rfl, by decide +kernel⟩,
   ⟨0, 9, true, (stand Mode.IDLE), _, _, rfl, by decide +kernel, by decide +kernel, by decide +kernel, rfl⟩⟩

theorem witness_CommandsFromADeliveringMode :
    (∃ (t seq tgt : Nat) (loc : Bool) (i : Instr) (s u : State), s.advance t = u ∧ (i, tgt) ∈ [(Instr.modeCmdIdle t loc seq, Mode.IDLE),
      (.modeCmdPreview t loc seq, Mode.PREVIEW), (.modeCmdShow t loc seq, Mode.SHOW), (.modeCmdLive t loc seq, Mode.LIVE), (.modeCmdSwatch t loc seq,
      Mode.SWATCH)] ∧ u.alone ∧ isDelivering u.modeCode = true ∧ tgt ≠ u.modeCode ∧ u.precondition u.modeCode tgt = 0 ∧ takesCommand u tgt loc seq) ∧
    (∃ (t seq tgt : Nat) (loc : Bool) (i : Instr) (s u : State), s.advance t = u ∧ (i, tgt) ∈ [(Instr.modeCmdIdle t loc seq, Mode.IDLE),
      (.modeCmdPreview t loc seq, Mode.PREVIEW), (.modeCmdShow t loc seq, Mode.SHOW), (.modeCmdLive t loc seq, Mode.LIVE), (.modeCmdSwatch t loc seq,
      Mode.SWATCH)] ∧ u.alone ∧ isDelivering u.modeCode = true ∧ tgt ≠ u.modeCode ∧ u.precondition u.modeCode tgt = 0 ∧ takesCommand u tgt loc seq) ∧
    (∃ (t seq tgt : Nat) (loc : Bool) (i : Instr) (s u : State), s.advance t = u ∧ (i, tgt) ∈ [(Instr.modeCmdIdle t loc seq, Mode.IDLE),
      (.modeCmdPreview t loc seq, Mode.PREVIEW), (.modeCmdShow t loc seq, Mode.SHOW), (.modeCmdLive t loc seq, Mode.LIVE), (.modeCmdSwatch t loc seq,
      Mode.SWATCH)] ∧ u.alone ∧ isDelivering u.modeCode = true ∧ tgt ≠ u.modeCode ∧ u.precondition u.modeCode tgt = 0 ∧ takesCommand u tgt loc seq) ∧
    (∃ (t seq tgt : Nat) (loc : Bool) (i : Instr) (s u : State), s.advance t = u ∧ (i, tgt) ∈ [(Instr.modeCmdIdle t loc seq, Mode.IDLE),
      (.modeCmdPreview t loc seq, Mode.PREVIEW), (.modeCmdShow t loc seq, Mode.SHOW), (.modeCmdLive t loc seq, Mode.LIVE), (.modeCmdSwatch t loc seq,
      Mode.SWATCH)] ∧ u.alone ∧ isDelivering u.modeCode = true ∧ tgt ≠ u.modeCode ∧ u.precondition u.modeCode tgt = 0 ∧ takesCommand u tgt loc seq) ∧
    (∃ (t seq tgt : Nat) (loc : Bool) (i : Instr) (s u : State), s.advance t = u ∧ (i, tgt) ∈ [(Instr.modeCmdIdle t loc seq, Mode.IDLE),
      (.modeCmdPreview t loc seq, Mode.PREVIEW), (.modeCmdShow t loc seq, Mode.SHOW), (.modeCmdLive t loc seq, Mode.LIVE), (.modeCmdSwatch t loc seq,
      Mode.SWATCH)] ∧ u.alone ∧ isDelivering u.modeCode = true ∧ tgt ≠ u.modeCode ∧ u.precondition u.modeCode tgt = 0 ∧ takesCommand u tgt loc seq) ∧
    (∃ (t seq tgt : Nat) (loc : Bool) (i : Instr) (s u : State), s.advance t = u ∧ (i, tgt) ∈ [(Instr.modeCmdDeep t loc seq, Mode.DEEP),
      (.modeCmdStrip t loc seq, Mode.STRIP), (.modeCmdBindOff t loc seq, Mode.BIND_OFF)] ∧ u.alone ∧ isDelivering u.modeCode = true ∧ u.precondition
      u.modeCode tgt = 0 ∧ takesCommand u tgt loc seq) ∧
    (∃ (t seq tgt : Nat) (loc : Bool) (i : Instr) (s u : State), s.advance t = u ∧ (i, tgt) ∈ [(Instr.modeCmdDeep t loc seq, Mode.DEEP),
      (.modeCmdStrip t loc seq, Mode.STRIP), (.modeCmdBindOff t loc seq, Mode.BIND_OFF)] ∧ u.alone ∧ isDelivering u.modeCode = true ∧ u.precondition
      u.modeCode tgt = 0 ∧ takesCommand u tgt loc seq) ∧
    (∃ (t seq tgt : Nat) (loc : Bool) (i : Instr) (s u : State), s.advance t = u ∧ (i, tgt) ∈ [(Instr.modeCmdDeep t loc seq, Mode.DEEP),
      (.modeCmdStrip t loc seq, Mode.STRIP), (.modeCmdBindOff t loc seq, Mode.BIND_OFF)] ∧ u.alone ∧ isDelivering u.modeCode = true ∧ u.precondition
      u.modeCode tgt = 0 ∧ takesCommand u tgt loc seq) :=
  ⟨⟨0, 9, Mode.PREVIEW, true, (.modeCmdPreview 0 true 9), (showing Mode.SHOW), _, rfl, by decide +kernel⟩,
   ⟨0, 9, Mode.IDLE, true, (.modeCmdIdle 0 true 9), (showing Mode.PREVIEW), _, rfl, by decide +kernel⟩,
   ⟨0, 9, Mode.SHOW, true, (.modeCmdShow 0 true 9), (showing Mode.PREVIEW), _, rfl, by decide +kernel⟩,
   ⟨0, 9, Mode.LIVE, true, (.modeCmdLive 0 true 9), ((showing Mode.PREVIEW).setNat Reg.PLY_LIVE 1), _, rfl, by decide +kernel⟩,
   ⟨0, 9, Mode.SWATCH, true, (.modeCmdSwatch 0 true 9), (showing Mode.PREVIEW), _, rfl, by decide +kernel⟩,
   ⟨0, 9, Mode.BIND_OFF, true, (.modeCmdBindOff 0 true 9), (showing Mode.SHOW), _, rfl, by decide +kernel⟩,
   ⟨0, 9, Mode.DEEP, true, (.modeCmdDeep 0 true 9), ((showing Mode.SHOW).setNat Reg.PWR_DEEP_CFG 0x100), _, rfl, by decide +kernel⟩,
   ⟨0, 9, Mode.STRIP, true, (.modeCmdStrip 0 true 9), ((showing Mode.SHOW).setNat Reg.EMIT_STRIP_TILES 0x10), _, rfl, by decide +kernel⟩⟩

theorem witness_TransitionsCompleteInTheirTarget :
    (∃ (t : Nat) (tr : Transition) (s u : State), s.advance t = u ∧ u.mode.cur = some tr ∧ u.transitionReady tr = true ∧ tr.target ∈ [Mode.DEEP,
      Mode.STRIP, Mode.BIND_OFF, Mode.IDLE, Mode.SERVICE, Mode.SAFE]) ∧
    (∃ (t : Nat) (tr : Transition) (s u : State), s.advance t = u ∧ u.mode.cur = some tr ∧ u.transitionReady tr = true ∧ tr.target ∈ [Mode.DEEP,
      Mode.STRIP, Mode.BIND_OFF, Mode.IDLE, Mode.SERVICE, Mode.SAFE]) ∧
    (∃ (t : Nat) (tr : Transition) (s u : State), s.advance t = u ∧ u.mode.cur = some tr ∧ u.transitionReady tr = true ∧ tr.target ∈ [Mode.DEEP,
      Mode.STRIP, Mode.BIND_OFF, Mode.IDLE, Mode.SERVICE, Mode.SAFE]) :=
  ⟨⟨0, { target := Mode.DEEP, seq := 3, source := 0, local_ := true, frm := Mode.IDLE, accepted := 0, frame := none, stage := .timed },
    { (stand Mode.IDLE).setTarget Mode.DEEP true with mode := { cur := some (({ target := Mode.DEEP, seq := 3, source := 0, local_ := true, frm := Mode.IDLE, accepted := 0, frame := none, stage := .timed } : Transition)) } },
    _, rfl, by decide +kernel⟩,
   ⟨0, { target := Mode.BIND_OFF, seq := 3, source := 0, local_ := true, frm := Mode.IDLE, accepted := 0, frame := none, stage := .timed },
     { (stand Mode.IDLE).setTarget Mode.BIND_OFF true with mode := { cur := some (({ target := Mode.BIND_OFF, seq := 3, source := 0, local_ := true, frm := Mode.IDLE, accepted := 0, frame := none, stage := .timed } : Transition)) } },
     _, rfl, by decide +kernel⟩,
   ⟨0, { target := Mode.SAFE, seq := 3, source := 0, local_ := true, frm := Mode.IDLE, accepted := 0, frame := none, stage := .timed },
     { (stand Mode.IDLE).setTarget Mode.SAFE true with mode := { cur := some (({ target := Mode.SAFE, seq := 3, source := 0, local_ := true, frm := Mode.IDLE, accepted := 0, frame := none, stage := .timed } : Transition)) } },
     _, rfl, by decide +kernel⟩⟩

theorem witness_DomainsAndSelfRefresh :
    (∃ (t : Nat) (s u : State), s.advance t = u ∧ u.bit Reg.PWR_HBM_POLICY 0 = true ∧ u.modeCode = Mode.IDLE ∧ u.busy = false ∧ u.selfRefresh = false
      ∧ u.power.hbmIdleSince + ms (u.fld Reg.PWR_HBM_POLICY 16 16) ≤ u.now) ∧
    (∃ (t : Nat) (s u : State), s.advance t = u ∧ u.power.srExit = true ∧ u.selfRefresh = true ∧ u.domainOn 55 = true ∧ u.hbm.retimeLater = false ∧
      u.dport.period = none) ∧
    (∃ (t d : Nat) (ds : List Nat) (s u : State), s.advance t = u ∧ u.power.queue = d :: ds ∧ limited u.power.lastStart (us 25) u.now = false) ∧
    (∃ (t due : Nat) (d : Fin 80) (s u : State), s.advance t = u ∧ ((u.power.rising.find? fun r => r.1 == d.val) = some (d.val, due)) ∧ u.now ≤ due) ∧
    (∃ (t due : Nat) (d : Fin 80) (s u : State), s.advance t = u ∧ ((u.power.rising.find? fun r => r.1 == d.val) = some (d.val, due)) ∧ due ≤ u.now ∧
      u.modeCode = Mode.CAST_ON ∧ ((u.sameCycle fun i => match i with | .domainPowerGood _ k => k == d | _ => false) = false)) :=
  ⟨⟨0, ((stand Mode.IDLE).setNat Reg.PWR_HBM_POLICY 0x10001), _, rfl, by decide +kernel⟩,
   ⟨0, { (stand Mode.IDLE).setBit Reg.GLB_MODE_STAT 9 true with power := { srExit := true } }, _, rfl, by decide +kernel⟩,
   ⟨0, 40, [41], { stand Mode.IDLE with power := { queue := [40, 41] } }, _, rfl, by decide +kernel⟩,
   ⟨0, 1440000000009, 69, { (stand Mode.IDLE).setDomain 69 false with power := { rising := [(69, 1440000000009)] } }, _, rfl, by decide +kernel⟩,
   ⟨0, 5, 69, { (stand Mode.CAST_ON).setDomain 69 false with power := { rising := [(69, 5)] } }, _, rfl, by decide +kernel⟩⟩

theorem witness_ResetSourcesAndCastOn :
    (∃ (t rail : Nat) (core : Fin 2) (req : Requester) (i : Instr) (bit : Nat) (s u : State), s.advance t = u ∧ u.rst.active = [] ∧ (i, bit) ∈
      [(Instr.por t, 0), (.rstNRecognised t, 1), (.watchdogExpiry t core, 3 + core.val), (.softwareReset t req 0x43415354, 5), (.thermalTrip t, 6),
      (.supplyFault t rail, 7)] ∧ ((bit = 5 → u.accepts req Reg.CLKRST_SW_RESET 0x43415354))) ∧
    (∃ (t rail : Nat) (core : Fin 2) (req : Requester) (i : Instr) (bit : Nat) (s u : State), s.advance t = u ∧ u.rst.active = [] ∧ (i, bit) ∈
      [(Instr.por t, 0), (.rstNRecognised t, 1), (.watchdogExpiry t core, 3 + core.val), (.softwareReset t req 0x43415354, 5), (.thermalTrip t, 6),
      (.supplyFault t rail, 7)] ∧ ((bit = 5 → u.accepts req Reg.CLKRST_SW_RESET 0x43415354))) ∧
    (∃ (t rail : Nat) (core : Fin 2) (req : Requester) (i : Instr) (bit : Nat) (s u : State), s.advance t = u ∧ u.rst.active = [] ∧ (i, bit) ∈
      [(Instr.por t, 0), (.rstNRecognised t, 1), (.watchdogExpiry t core, 3 + core.val), (.softwareReset t req 0x43415354, 5), (.thermalTrip t, 6),
      (.supplyFault t rail, 7)] ∧ ((bit = 5 → u.accepts req Reg.CLKRST_SW_RESET 0x43415354))) ∧
    (∃ (t rail : Nat) (core : Fin 2) (req : Requester) (i : Instr) (bit : Nat) (s u : State), s.advance t = u ∧ u.rst.active = [] ∧ (i, bit) ∈
      [(Instr.por t, 0), (.rstNRecognised t, 1), (.watchdogExpiry t core, 3 + core.val), (.softwareReset t req 0x43415354, 5), (.thermalTrip t, 6),
      (.supplyFault t rail, 7)] ∧ ((bit = 5 → u.accepts req Reg.CLKRST_SW_RESET 0x43415354))) ∧
    (∃ (t rail : Nat) (core : Fin 2) (req : Requester) (i : Instr) (bit : Nat) (s u : State), s.advance t = u ∧ u.rst.active = [] ∧ (i, bit) ∈
      [(Instr.por t, 0), (.rstNRecognised t, 1), (.watchdogExpiry t core, 3 + core.val), (.softwareReset t req 0x43415354, 5), (.thermalTrip t, 6),
      (.supplyFault t rail, 7)] ∧ ((bit = 5 → u.accepts req Reg.CLKRST_SW_RESET 0x43415354))) ∧
    (∃ (t rail : Nat) (core : Fin 2) (req : Requester) (i : Instr) (bit : Nat) (s u : State), s.advance t = u ∧ u.rst.active = [] ∧ (i, bit) ∈
      [(Instr.por t, 0), (.rstNRecognised t, 1), (.watchdogExpiry t core, 3 + core.val), (.softwareReset t req 0x43415354, 5), (.thermalTrip t, 6),
      (.supplyFault t rail, 7)] ∧ ((bit = 5 → u.accepts req Reg.CLKRST_SW_RESET 0x43415354))) ∧
    (∃ (t : Nat) (i : Instr) (src : ResetSource) (s u : State), s.advance t = u ∧ (i, src) ∈ [(Instr.powerGood t, ResetSource.por), (.rstNReleased t,
      .pin), (.resetPulseEnd t, .wdog), (.resetPulseEnd t, .soft), (.thermalTripClear t, .therm), (.supplyRecovered t, .supply)] ∧ u.rst.active =
      [src] ∧ u.pins.testMode = false ∧ ((src = .wdog ∨ src = .soft → (u.rst.pulseEnd.any fun c => decide (c ≤ u.now)) = true))) ∧
    (∃ (t : Nat) (i : Instr) (src : ResetSource) (s u : State), s.advance t = u ∧ (i, src) ∈ [(Instr.powerGood t, ResetSource.por), (.rstNReleased t,
      .pin), (.resetPulseEnd t, .wdog), (.resetPulseEnd t, .soft), (.thermalTripClear t, .therm), (.supplyRecovered t, .supply)] ∧ u.rst.active =
      [src] ∧ u.pins.testMode = false ∧ ((src = .wdog ∨ src = .soft → (u.rst.pulseEnd.any fun c => decide (c ≤ u.now)) = true))) ∧
    (∃ (t : Nat) (i : Instr) (src : ResetSource) (s u : State), s.advance t = u ∧ (i, src) ∈ [(Instr.powerGood t, ResetSource.por), (.rstNReleased t,
      .pin), (.resetPulseEnd t, .wdog), (.resetPulseEnd t, .soft), (.thermalTripClear t, .therm), (.supplyRecovered t, .supply)] ∧ u.rst.active =
      [src] ∧ u.pins.testMode = false ∧ ((src = .wdog ∨ src = .soft → (u.rst.pulseEnd.any fun c => decide (c ≤ u.now)) = true))) ∧
    (∃ (t : Nat) (i : Instr) (src : ResetSource) (s u : State), s.advance t = u ∧ (i, src) ∈ [(Instr.powerGood t, ResetSource.por), (.rstNReleased t,
      .pin), (.resetPulseEnd t, .wdog), (.resetPulseEnd t, .soft), (.thermalTripClear t, .therm), (.supplyRecovered t, .supply)] ∧ u.rst.active =
      [src] ∧ u.pins.testMode = false ∧ ((src = .wdog ∨ src = .soft → (u.rst.pulseEnd.any fun c => decide (c ≤ u.now)) = true))) ∧
    (∃ (t : Nat) (i : Instr) (src : ResetSource) (s u : State), s.advance t = u ∧ (i, src) ∈ [(Instr.powerGood t, ResetSource.por), (.rstNReleased t,
      .pin), (.resetPulseEnd t, .wdog), (.resetPulseEnd t, .soft), (.thermalTripClear t, .therm), (.supplyRecovered t, .supply)] ∧ u.rst.active =
      [src] ∧ u.pins.testMode = false ∧ ((src = .wdog ∨ src = .soft → (u.rst.pulseEnd.any fun c => decide (c ≤ u.now)) = true))) ∧
    (∃ (t : Nat) (i : Instr) (src : ResetSource) (s u : State), s.advance t = u ∧ (i, src) ∈ [(Instr.powerGood t, ResetSource.por), (.rstNReleased t,
      .pin), (.resetPulseEnd t, .wdog), (.resetPulseEnd t, .soft), (.thermalTripClear t, .therm), (.supplyRecovered t, .supply)] ∧ u.rst.active =
      [src] ∧ u.pins.testMode = false ∧ ((src = .wdog ∨ src = .soft → (u.rst.pulseEnd.any fun c => decide (c ≤ u.now)) = true))) ∧
    (∃ (t : Nat) (i : Instr) (src other : ResetSource) (s u : State), s.advance t = u ∧ (i, src) ∈ [(Instr.powerGood t, ResetSource.por),
      (.rstNReleased t, .pin), (.thermalTripClear t, .therm), (.supplyRecovered t, .supply)] ∧ other ∈ u.rst.active ∧ other ≠ src) :=
  ⟨⟨0, 0, 0, .host, (.por 0), 0, (stand Mode.IDLE), _, rfl, by decide +kernel⟩,
   ⟨0, 0, 0, .host, (.rstNRecognised 0), 1, (stand Mode.IDLE), _, rfl, by decide +kernel⟩,
   ⟨0, 0, 0, .host, (.watchdogExpiry 0 0), 3, (stand Mode.IDLE), _, rfl, by decide +kernel⟩,
   ⟨0, 0, 0, .host, (.softwareReset 0 .host 0x43415354), 5, (stand Mode.IDLE), _, rfl, by decide +kernel⟩,
   ⟨0, 0, 0, .host, (.thermalTrip 0), 6, (stand Mode.IDLE), _, rfl, by decide +kernel⟩,
   ⟨0, 0, 0, .host, (.supplyFault 0 0), 7, (stand Mode.IDLE), _, rfl, by decide +kernel⟩,
   ⟨0, (.powerGood 0), .por, { State.reset with rst := { active := [.por] } }, _, rfl, by decide +kernel⟩,
   ⟨0, (.rstNReleased 0), .pin, { State.reset with rst := { active := [.pin] } }, _, rfl, by decide +kernel⟩,
   ⟨0, (.thermalTripClear 0), .therm, { State.reset with rst := { active := [.therm] } }, _, rfl, by decide +kernel⟩,
   ⟨0, (.supplyRecovered 0), .supply, { State.reset with rst := { active := [.supply] } }, _, rfl, by decide +kernel⟩,
   ⟨0, (.resetPulseEnd 0), .wdog, { State.reset with now := 9, rst := { active := [.wdog], pulseEnd := some 4 } }, _, rfl, by decide +kernel⟩,
   ⟨0, (.resetPulseEnd 0), .soft, { State.reset with now := 9, rst := { active := [.soft], pulseEnd := some 4 } }, _, rfl, by decide +kernel⟩,
   ⟨0, (.rstNReleased 0), .pin, .supply, { State.reset with rst := { active := [.pin, .supply] } }, _, rfl, by decide +kernel⟩⟩

theorem witness_PerstWakeAndBlockResets :
    (∃ (t k : Nat) (i : Instr) (s u : State), s.advance t = u ∧ (i, k) ∈ [(Instr.wakeNAsserted t, 8), (.pciePerstReleased t, 9)] ∧ u.modeCode =
      Mode.DEEP ∧ u.bit Reg.PWR_DEEP_CFG k = true) ∧
    (∃ (t k : Nat) (i : Instr) (s u : State), s.advance t = u ∧ (i, k) ∈ [(Instr.wakeNAsserted t, 8), (.pciePerstReleased t, 9)] ∧ u.modeCode =
      Mode.DEEP ∧ u.bit Reg.PWR_DEEP_CFG k = true) ∧
    (∃ (t : Nat) (s u : State), s.advance t = u ∧ u.modeCode ≠ Mode.DEEP) ∧
    (∃ (t : Nat) (s u : State), s.advance t = u) ∧
    (∃ (t : Nat) (s u : State), s.advance t = u) ∧
    (∃ (t : Nat) (s u : State), s.advance t = u ∧ u.endpointOn = true ∧ u.caston.pcieSpeed = 0 ∧ u.ready = true ∧ u.halted = false ∧ 3 ≤ u.fld
      Reg.CLKRST_CASTON_STAT 0 4) ∧
    (∃ (t : Nat) (req : Requester) (w : Word) (s u : State), s.advance t = u ∧ u.accepts req Reg.CLKRST_BLOCK_RESET w ∧ u.blockIdle (w.field 0 6) =
      true) ∧
    (∃ (t : Nat) (req : Requester) (w : Word) (s u : State), s.advance t = u ∧ u.accepts req Reg.CLKRST_BLOCK_RESET w ∧ u.blockIdle (w.field 0 6) =
      false) ∧
    (∃ (t code at_ : Nat) (s u : State), s.advance t = u ∧ u.rst.blocks = [(code, at_)]) :=
  ⟨⟨0, 8, (.wakeNAsserted 0), ((stand Mode.DEEP).setNat Reg.PWR_DEEP_CFG 0x306), _, rfl, by decide +kernel⟩,
   ⟨0, 9, (.pciePerstReleased 0), ((stand Mode.DEEP).setNat Reg.PWR_DEEP_CFG 0x306), _, rfl, by decide +kernel⟩,
   ⟨0, (stand Mode.IDLE), _, rfl, by decide +kernel⟩,
   ⟨0, (stand Mode.IDLE), _, rfl⟩,
   ⟨0, (stand Mode.IDLE), _, rfl⟩,
   ⟨0, ((stand Mode.IDLE).setNat Reg.CLKRST_CASTON_STAT 0x28), _, rfl, by decide +kernel⟩,
   ⟨0, .host, 6, (stand Mode.IDLE), _, rfl, by decide +kernel⟩,
   ⟨0, .host, 12, { stand Mode.IDLE with hank := { (stand Mode.IDLE).hank with waiting := [{ who := .host }] } }, _, rfl, by decide +kernel⟩,
   ⟨0, 6, 5, { stand Mode.IDLE with rst := { blocks := [(6, 5)] } }, _, rfl, by decide +kernel⟩⟩

set_option maxRecDepth 100000 in
theorem witness_FlashAndOptionLoader :
    (∃ (t c : Nat) (s u : State), s.advance t = u ∧ u.pulses = false ∧ u.rst.flashPulse = some c) ∧
    (∃ (t c : Nat) (e : EraseState) (s u : State), s.advance t = u ∧ u.rst.erase = some e ∧ e.suspendAt = some c ∧ u.now ≤ c + us 50) ∧
    (∃ (t c : Nat) (e : EraseState) (s u : State), s.advance t = u ∧ u.rst.erase = some e ∧ e.suspendAt = some c ∧ c + us 50 ≤ u.now ∧ ((u.sameCycle
      fun i => match i with | .eraseSuspendPoll _ x => x | _ => false) = false)) ∧
    (∃ (t : Nat) (s u : State), s.advance t = u ∧ u.atStep 0 = true ∧ u.bit Reg.GLB_CLK_STAT 0 = false) ∧
    (∃ (t k : Nat) (s u : State), s.advance t = u ∧ u.caston.attempt = some k ∧ u.atStep 1 = true ∧ u.caston.flashReady = false ∧
      u.caston.attemptStart + us 40 ≤ u.now) ∧
    (∃ (t k : Nat) (s u : State), s.advance t = u ∧ u.caston.attempt = some k ∧ k < 5 ∧ u.atStep 1 = true ∧ u.caston.flashReady = false ∧
      u.caston.attemptStart + us 340 ≤ u.now) ∧
    (∃ (t k e : Nat) (b : List Byte) (s u : State), s.advance t = u ∧ u.caston.attempt = some k ∧ k < 5 ∧ u.atStep 1 = true ∧ u.caston.flashReady =
      true ∧ optionError b u.sec.otp.trimRows = e ∧ e ≠ 0) ∧
    (∃ (t k : Nat) (b : List Byte) (s u : State), s.advance t = u ∧ u.caston.attempt = some k ∧ k < 6 ∧ u.atStep 1 = true ∧ u.caston.flashReady =
      true ∧ optionError b u.sec.otp.trimRows = 0) ∧
    (∃ (t k : Nat) (b : List Byte) (s u : State), s.advance t = u ∧ u.caston.attempt = some k ∧ k < 6 ∧ u.atStep 1 = true ∧ u.caston.flashReady =
      true ∧ optionError b u.sec.otp.trimRows = 0) ∧
    (∃ (t e : Nat) (b : List Byte) (s u : State), s.advance t = u ∧ u.caston.attempt = some 5 ∧ u.atStep 1 = true ∧ u.caston.flashReady = true ∧
      optionError b u.sec.otp.trimRows = e ∧ e ≠ 0) :=
  ⟨⟨0, 5, { stand Mode.IDLE with rst := { flashPulse := some 5 } }, _, rfl, by decide +kernel⟩,
   ⟨0, 5, { flash := 0, sector := 0, len := 4096, suspendAt := some 5 },
     { State.reset with now := 9, rst := { erase := some (({ flash := 0, sector := 0, len := 4096, suspendAt := some 5 } : EraseState)) } }, _, rfl,
     by decide +kernel⟩,
   ⟨0, 5, { flash := 0, sector := 0, len := 4096, suspendAt := some 5 },
     { State.reset with now := 90000, rst := { erase := some (({ flash := 0, sector := 0, len := 4096, suspendAt := some 5 } : EraseState)) } }, _,
     rfl, by decide +kernel⟩,
   ⟨0, (casting 0), _, rfl, by decide +kernel⟩,
   ⟨0, 0, { casting 1 with caston := { attempt := some 0 } }, _, rfl, by decide +kernel⟩,
   ⟨0, 0, { casting 1 with caston := { attempt := some 0 } }, _, rfl, by decide +kernel⟩,
   ⟨0, 4, 2, (List.replicate 256 0), { casting 1 with caston := { attempt := some 4, flashReady := true } }, _, rfl, by decide +kernel⟩,
   ⟨0, 1, optionBlock, { casting 1 with caston := { attempt := some 1, flashReady := true } }, _, rfl, by decide +kernel⟩,
   ⟨0, 4, optionBlock, { casting 1 with caston := { attempt := some 4, flashReady := true } }, _, rfl, by decide +kernel⟩,
   ⟨0, 2, (List.replicate 256 0), { casting 1 with caston := { attempt := some 5, flashReady := true } }, _, rfl, by decide +kernel⟩⟩

theorem witness_CastOnRunsToReady :
    (∃ (t : Nat) (s u : State), s.advance t = u ∧ u.atStep 2 = true) ∧
    (∃ (t : Nat) (s u : State), s.advance t = u ∧ u.atStep 3 = true) ∧
    (∃ (t : Nat) (s u : State), s.advance t = u ∧ u.atStep 4 = true ∧ u.powerIdle = true) ∧
    (∃ (t : Nat) (s u : State), s.advance t = u ∧ u.atStep 5 = true ∧ u.powerIdle = true ∧ u.calDone = true) ∧
    (∃ (t : Nat) (s u : State), s.advance t = u ∧ u.atStep 6 = true ∧ u.powerIdle = true ∧ u.panelDone = true) ∧
    (∃ (t : Nat) (s u : State), s.advance t = u ∧ u.atStep 7 = true ∧ u.powerIdle = true ∧ u.fld Reg.EMIT_STAT 0 3 = 3 ∧ ((u.caston.causes ≠ [] ∨
      u.missing u.castTarget = []))) ∧
    (∃ (t : Nat) (s u : State), s.advance t = u ∧ u.atStep 7 = true ∧ u.powerIdle = true ∧ u.fld Reg.EMIT_STAT 0 3 = 3 ∧ u.caston.causes = [] ∧
      u.missing u.castTarget ≠ []) :=
  ⟨⟨0, (casting 2), _, rfl, by decide +kernel⟩,
   ⟨0, (casting 3), _, rfl, by decide +kernel⟩,
   ⟨0, (casting 4), _, rfl, by decide +kernel⟩,
   ⟨0, (casting 5), _, rfl, by decide +kernel⟩,
   ⟨0, (casting 6), _, rfl, by decide +kernel⟩,
   ⟨0, ((casting 7).setNat Reg.EMIT_STAT 3), _, rfl, by decide +kernel⟩,
   ⟨0, { ((casting 7).setNat Reg.EMIT_STAT 3).setDomain 40 false with caston := { causes := [] } }, _, rfl, by decide +kernel⟩⟩

theorem witness_SecurityCommands :
    (∃ (t op : Nat) (i : Instr) (req : Requester) (s u : State), s.advance t = u ∧ (i, op) ∈ [(Instr.secCmdAttest t req, 1), (.secCmdFlashErase t
      req, 2), (.secCmdFlashProgram t req, 3), (.secCmdVerifyImage t req, 4), (.secCmdEnrollKey t req, 5), (.secCmdRevokeKey t req, 6),
      (.secCmdConfirmFw t req, 7), (.secCmdAdvanceFwSvn t req, 8), (.secCmdAdvancePatSvn t req, 9)] ∧ u.accepts req Reg.SEC_CMD (Word.ofNat op) ∧
      u.secReason op = 0) ∧
    (∃ (t op : Nat) (i : Instr) (req : Requester) (s u : State), s.advance t = u ∧ (i, op) ∈ [(Instr.secCmdAttest t req, 1), (.secCmdFlashErase t
      req, 2), (.secCmdFlashProgram t req, 3), (.secCmdVerifyImage t req, 4), (.secCmdEnrollKey t req, 5), (.secCmdRevokeKey t req, 6),
      (.secCmdConfirmFw t req, 7), (.secCmdAdvanceFwSvn t req, 8), (.secCmdAdvancePatSvn t req, 9)] ∧ u.accepts req Reg.SEC_CMD (Word.ofNat op) ∧
      u.secReason op ≠ 0) ∧
    (∃ (t op : Nat) (i : Instr) (req : Requester) (s u : State), s.advance t = u ∧ (i, op) ∈ [(Instr.secCmdAttest t req, 1), (.secCmdFlashErase t
      req, 2), (.secCmdFlashProgram t req, 3), (.secCmdVerifyImage t req, 4), (.secCmdEnrollKey t req, 5), (.secCmdRevokeKey t req, 6),
      (.secCmdConfirmFw t req, 7), (.secCmdAdvanceFwSvn t req, 8), (.secCmdAdvancePatSvn t req, 9)] ∧ u.accepts req Reg.SEC_CMD (Word.ofNat op) ∧
      u.secReason op ≠ 0) ∧
    (∃ (t op : Nat) (i : Instr) (req : Requester) (s u : State), s.advance t = u ∧ (i, op) ∈ [(Instr.secCmdAttest t req, 1), (.secCmdFlashErase t
      req, 2), (.secCmdFlashProgram t req, 3), (.secCmdVerifyImage t req, 4), (.secCmdEnrollKey t req, 5), (.secCmdRevokeKey t req, 6),
      (.secCmdConfirmFw t req, 7), (.secCmdAdvanceFwSvn t req, 8), (.secCmdAdvancePatSvn t req, 9)] ∧ u.accepts req Reg.SEC_CMD (Word.ofNat op) ∧
      u.secReason op ≠ 0) ∧
    (∃ (t op : Nat) (i : Instr) (req : Requester) (s u : State), s.advance t = u ∧ (i, op) ∈ [(Instr.secCmdAttest t req, 1), (.secCmdFlashErase t
      req, 2), (.secCmdFlashProgram t req, 3), (.secCmdVerifyImage t req, 4), (.secCmdEnrollKey t req, 5), (.secCmdRevokeKey t req, 6),
      (.secCmdConfirmFw t req, 7), (.secCmdAdvanceFwSvn t req, 8), (.secCmdAdvancePatSvn t req, 9)] ∧ u.accepts req Reg.SEC_CMD (Word.ofNat op) ∧
      u.secReason op ≠ 0) ∧
    (∃ (t op : Nat) (i : Instr) (req : Requester) (s u : State), s.advance t = u ∧ (i, op) ∈ [(Instr.secCmdAttest t req, 1), (.secCmdFlashErase t
      req, 2), (.secCmdFlashProgram t req, 3), (.secCmdVerifyImage t req, 4), (.secCmdEnrollKey t req, 5), (.secCmdRevokeKey t req, 6),
      (.secCmdConfirmFw t req, 7), (.secCmdAdvanceFwSvn t req, 8), (.secCmdAdvancePatSvn t req, 9)] ∧ u.accepts req Reg.SEC_CMD (Word.ofNat op) ∧
      u.secReason op ≠ 0) ∧
    (∃ (t op : Nat) (i : Instr) (req : Requester) (s u : State), s.advance t = u ∧ (i, op) ∈ [(Instr.secCmdAttest t req, 1), (.secCmdFlashErase t
      req, 2), (.secCmdFlashProgram t req, 3), (.secCmdVerifyImage t req, 4), (.secCmdEnrollKey t req, 5), (.secCmdRevokeKey t req, 6),
      (.secCmdConfirmFw t req, 7), (.secCmdAdvanceFwSvn t req, 8), (.secCmdAdvancePatSvn t req, 9)] ∧ u.accepts req Reg.SEC_CMD (Word.ofNat op) ∧
      u.secReason op ≠ 0) ∧
    (∃ (t op : Nat) (i : Instr) (req : Requester) (s u : State), s.advance t = u ∧ (i, op) ∈ [(Instr.secCmdAttest t req, 1), (.secCmdFlashErase t
      req, 2), (.secCmdFlashProgram t req, 3), (.secCmdVerifyImage t req, 4), (.secCmdEnrollKey t req, 5), (.secCmdRevokeKey t req, 6),
      (.secCmdConfirmFw t req, 7), (.secCmdAdvanceFwSvn t req, 8), (.secCmdAdvancePatSvn t req, 9)] ∧ u.accepts req Reg.SEC_CMD (Word.ofNat op) ∧
      u.secReason op ≠ 0) ∧
    (∃ (t op : Nat) (i : Instr) (req : Requester) (s u : State), s.advance t = u ∧ (i, op) ∈ [(Instr.secCmdAttest t req, 1), (.secCmdFlashErase t
      req, 2), (.secCmdFlashProgram t req, 3), (.secCmdVerifyImage t req, 4), (.secCmdEnrollKey t req, 5), (.secCmdRevokeKey t req, 6),
      (.secCmdConfirmFw t req, 7), (.secCmdAdvanceFwSvn t req, 8), (.secCmdAdvancePatSvn t req, 9)] ∧ u.accepts req Reg.SEC_CMD (Word.ofNat op) ∧
      u.secReason op ≠ 0) ∧
    (∃ (t op : Nat) (i : Instr) (req : Requester) (s u : State), s.advance t = u ∧ (i, op) ∈ [(Instr.secCmdAttest t req, 1), (.secCmdFlashErase t
      req, 2), (.secCmdFlashProgram t req, 3), (.secCmdVerifyImage t req, 4), (.secCmdEnrollKey t req, 5), (.secCmdRevokeKey t req, 6),
      (.secCmdConfirmFw t req, 7), (.secCmdAdvanceFwSvn t req, 8), (.secCmdAdvancePatSvn t req, 9)] ∧ u.accepts req Reg.SEC_CMD (Word.ofNat op) ∧
      u.secReason op ≠ 0) ∧
    (∃ (t op : Nat) (i : Instr) (req : Requester) (s u : State), s.advance t = u ∧ (i, op) ∈ [(Instr.secCmdAttest t req, 1), (.secCmdFlashErase t
      req, 2), (.secCmdFlashProgram t req, 3), (.secCmdVerifyImage t req, 4), (.secCmdEnrollKey t req, 5), (.secCmdRevokeKey t req, 6),
      (.secCmdConfirmFw t req, 7), (.secCmdAdvanceFwSvn t req, 8), (.secCmdAdvancePatSvn t req, 9)] ∧ u.accepts req Reg.SEC_CMD (Word.ofNat op) ∧
      u.secReason op ≠ 0) ∧
    (∃ (t op : Nat) (i : Instr) (req : Requester) (s u : State), s.advance t = u ∧ (i, op) ∈ [(Instr.secCmdAttest t req, 1), (.secCmdFlashErase t
      req, 2), (.secCmdFlashProgram t req, 3), (.secCmdVerifyImage t req, 4), (.secCmdEnrollKey t req, 5), (.secCmdRevokeKey t req, 6),
      (.secCmdConfirmFw t req, 7), (.secCmdAdvanceFwSvn t req, 8), (.secCmdAdvancePatSvn t req, 9)] ∧ u.accepts req Reg.SEC_CMD (Word.ofNat op) ∧
      u.secReason op ≠ 0) ∧
    (∃ (t op : Nat) (i : Instr) (req : Requester) (s u : State), s.advance t = u ∧ (i, op) ∈ [(Instr.secCmdAttest t req, 1), (.secCmdFlashErase t
      req, 2), (.secCmdFlashProgram t req, 3), (.secCmdVerifyImage t req, 4), (.secCmdEnrollKey t req, 5), (.secCmdRevokeKey t req, 6),
      (.secCmdConfirmFw t req, 7), (.secCmdAdvanceFwSvn t req, 8), (.secCmdAdvancePatSvn t req, 9)] ∧ u.accepts req Reg.SEC_CMD (Word.ofNat op) ∧
      u.secReason op ≠ 0) ∧
    (∃ (t op : Nat) (i : Instr) (req : Requester) (s u : State), s.advance t = u ∧ (i, op) ∈ [(Instr.secCmdAttest t req, 1), (.secCmdFlashErase t
      req, 2), (.secCmdFlashProgram t req, 3), (.secCmdVerifyImage t req, 4), (.secCmdEnrollKey t req, 5), (.secCmdRevokeKey t req, 6),
      (.secCmdConfirmFw t req, 7), (.secCmdAdvanceFwSvn t req, 8), (.secCmdAdvancePatSvn t req, 9)] ∧ u.accepts req Reg.SEC_CMD (Word.ofNat op) ∧
      u.secReason op ≠ 0) ∧
    (∃ (t op : Nat) (i : Instr) (req : Requester) (s u : State), s.advance t = u ∧ (i, op) ∈ [(Instr.secCmdAttest t req, 1), (.secCmdFlashErase t
      req, 2), (.secCmdFlashProgram t req, 3), (.secCmdVerifyImage t req, 4), (.secCmdEnrollKey t req, 5), (.secCmdRevokeKey t req, 6),
      (.secCmdConfirmFw t req, 7), (.secCmdAdvanceFwSvn t req, 8), (.secCmdAdvancePatSvn t req, 9)] ∧ u.accepts req Reg.SEC_CMD (Word.ofNat op) ∧
      u.secReason op ≠ 0) ∧
    (∃ (t op : Nat) (i : Instr) (req : Requester) (s u : State), s.advance t = u ∧ (i, op) ∈ [(Instr.secCmdAttest t req, 1), (.secCmdFlashErase t
      req, 2), (.secCmdFlashProgram t req, 3), (.secCmdVerifyImage t req, 4), (.secCmdEnrollKey t req, 5), (.secCmdRevokeKey t req, 6),
      (.secCmdConfirmFw t req, 7), (.secCmdAdvanceFwSvn t req, 8), (.secCmdAdvancePatSvn t req, 9)] ∧ u.accepts req Reg.SEC_CMD (Word.ofNat op) ∧
      u.secReason op ≠ 0) ∧
    (∃ (t op : Nat) (i : Instr) (req : Requester) (s u : State), s.advance t = u ∧ (i, op) ∈ [(Instr.secCmdAttest t req, 1), (.secCmdFlashErase t
      req, 2), (.secCmdFlashProgram t req, 3), (.secCmdVerifyImage t req, 4), (.secCmdEnrollKey t req, 5), (.secCmdRevokeKey t req, 6),
      (.secCmdConfirmFw t req, 7), (.secCmdAdvanceFwSvn t req, 8), (.secCmdAdvancePatSvn t req, 9)] ∧ u.accepts req Reg.SEC_CMD (Word.ofNat op) ∧
      u.secReason op ≠ 0) ∧
    (∃ (t : Nat) (r : SecRun) (s u : State), s.advance t = u ∧ u.sec.run = some r ∧ r.started = true ∧ (r.op = 2 ∨ r.op = 3)) ∧
    (∃ (t : Nat) (r : SecRun) (s u : State), s.advance t = u ∧ u.sec.run = some r ∧ r.started = true ∧ (r.op = 2 ∨ r.op = 3)) ∧
    (∃ (t : Nat) (r : SecRun) (s u : State), s.advance t = u ∧ u.sec.run = some r ∧ r.started = true ∧ (r.op = 2 ∨ r.op = 3)) ∧
    (∃ (t : Nat) (r : SecRun) (s u : State), s.advance t = u ∧ u.sec.run = some r ∧ r.started = true ∧ (r.op = 2 ∨ r.op = 3)) ∧
    (∃ (t : Nat) (r : SecRun) (f : ImageInfo) (s u : State), s.advance t = u ∧ u.sec.run = some r ∧ r.started = true ∧ r.op = 7 ∧ u.sec.fw = some f) ∧
    (∃ (t : Nat) (r : SecRun) (f : ImageInfo) (s u : State), s.advance t = u ∧ u.sec.run = some r ∧ r.started = true ∧ r.op = 8 ∧ u.sec.fw = some f) ∧
    (∃ (t l : Nat) (a b : Bool) (s u : State), s.advance t = u ∧ u.sec.leaf = some (l, none) ∧ (a || b) = true ∧ leaves - l ≠ 65536) ∧
    (∃ (t l : Nat) (s u : State), s.advance t = u ∧ u.sec.leaf = some (l, none)) :=
  ⟨⟨0, 1, (.secCmdAttest 0 .host), .host, (stand Mode.SERVICE), _, rfl, by decide +kernel⟩,
   ⟨0, 1, (.secCmdAttest 0 .host), .host, ((stand Mode.SERVICE).setBit Reg.SEC_CMD_STAT 8 true), _, rfl, by decide +kernel⟩,
   ⟨0, 2, (.secCmdFlashErase 0 .host), .host, ((stand Mode.SERVICE).setBit Reg.SEC_CMD_STAT 8 true), _, rfl, by decide +kernel⟩,
   ⟨0, 2, (.secCmdFlashErase 0 .host), .host, (stand Mode.PREVIEW), _, rfl, by decide +kernel⟩,
   ⟨0, 3, (.secCmdFlashProgram 0 .host), .host, ((stand Mode.SERVICE).setBit Reg.SEC_CMD_STAT 8 true), _, rfl, by decide +kernel⟩,
   ⟨0, 3, (.secCmdFlashProgram 0 .host), .host, (stand Mode.PREVIEW), _, rfl, by decide +kernel⟩,
   ⟨0, 4, (.secCmdVerifyImage 0 .host), .host, ((stand Mode.SERVICE).setBit Reg.SEC_CMD_STAT 8 true), _, rfl, by decide +kernel⟩,
   ⟨0, 4, (.secCmdVerifyImage 0 .host), .host, (stand Mode.PREVIEW), _, rfl, by decide +kernel⟩,
   ⟨0, 5, (.secCmdEnrollKey 0 .host), .host, ((stand Mode.SERVICE).setBit Reg.SEC_CMD_STAT 8 true), _, rfl, by decide +kernel⟩,
   ⟨0, 5, (.secCmdEnrollKey 0 .host), .host, (stand Mode.PREVIEW), _, rfl, by decide +kernel⟩,
   ⟨0, 6, (.secCmdRevokeKey 0 .host), .host, ((stand Mode.SERVICE).setBit Reg.SEC_CMD_STAT 8 true), _, rfl, by decide +kernel⟩,
   ⟨0, 6, (.secCmdRevokeKey 0 .host), .host, (stand Mode.PREVIEW), _, rfl, by decide +kernel⟩,
   ⟨0, 7, (.secCmdConfirmFw 0 .host), .host, ((stand Mode.SERVICE).setBit Reg.SEC_CMD_STAT 8 true), _, rfl, by decide +kernel⟩,
   ⟨0, 8, (.secCmdAdvanceFwSvn 0 .host), .host, ((stand Mode.SERVICE).setBit Reg.SEC_CMD_STAT 8 true), _, rfl, by decide +kernel⟩,
   ⟨0, 8, (.secCmdAdvanceFwSvn 0 .host), .host, (stand Mode.PREVIEW), _, rfl, by decide +kernel⟩,
   ⟨0, 9, (.secCmdAdvancePatSvn 0 .host), .host, ((stand Mode.SERVICE).setBit Reg.SEC_CMD_STAT 8 true), _, rfl, by decide +kernel⟩,
   ⟨0, 9, (.secCmdAdvancePatSvn 0 .host), .host, (stand Mode.PREVIEW), _, rfl, by decide +kernel⟩,
   ⟨0, { op := 2, flashAddr := 0, len := 0, stage := [], started := true },
     { stand Mode.SERVICE with sec := { run := some (({ op := 2, flashAddr := 0, len := 0, stage := [], started := true } : SecRun)) } }, _, rfl,
     by decide +kernel⟩,
   ⟨0, { op := 3, flashAddr := 0, len := 0, stage := [], started := true },
     { stand Mode.SERVICE with sec := { run := some (({ op := 3, flashAddr := 0, len := 0, stage := [], started := true } : SecRun)) } }, _, rfl,
     by decide +kernel⟩,
   ⟨0, { op := 2, flashAddr := 0, len := 0, stage := [], started := true },
     { stand Mode.SERVICE with sec := { run := some (({ op := 2, flashAddr := 0, len := 0, stage := [], started := true } : SecRun)) } }, _, rfl,
     by decide +kernel⟩,
   ⟨0, { op := 3, flashAddr := 0, len := 0, stage := [], started := true },
     { stand Mode.SERVICE with sec := { run := some (({ op := 3, flashAddr := 0, len := 0, stage := [], started := true } : SecRun)) } }, _, rfl,
     by decide +kernel⟩,
   ⟨0, { op := 7, flashAddr := 0, len := 0, stage := [], started := true }, ⟨0, 0, 3, 9, 0, []⟩,
     { stand Mode.SERVICE with sec := { run := some (({ op := 7, flashAddr := 0, len := 0, stage := [], started := true } : SecRun)), fw := some ((⟨0, 0, 3, 9, 0, []⟩ : ImageInfo)) } },
     _, rfl, by decide +kernel⟩,
   ⟨0, { op := 8, flashAddr := 0, len := 0, stage := [], started := true }, ⟨0, 0, 3, 9, 0, []⟩,
     { stand Mode.SERVICE with sec := { run := some (({ op := 8, flashAddr := 0, len := 0, stage := [], started := true } : SecRun)), fw := some ((⟨0, 0, 3, 9, 0, []⟩ : ImageInfo)) } },
     _, rfl, by decide +kernel⟩,
   ⟨0, 5, true, false, { stand Mode.SERVICE with sec := { leaf := some (5, none) } }, _, rfl, by decide +kernel⟩,
   ⟨0, 5, { stand Mode.SERVICE with sec := { leaf := some (5, none) } }, _, rfl, by decide +kernel⟩⟩

theorem witness_VenueCommandsAreVerified :
    (∃ (t : Nat) (req : Requester) (s u : State), s.advance t = u ∧ u.accepts req Reg.SEC_VENUE_CMD 1 ∧ venueMode u.modeCode = true ∧ u.bit
      Reg.SEC_VENUE_STAT 0 = false) ∧
    (∃ (t : Nat) (j : VenueJob) (s u : State), s.advance t = u ∧ u.sec.venueJob = some j ∧ u.sec.run.any (·.started) = false) ∧
    (∃ (t v : Nat) (rest : List Nat) (s u : State), s.advance t = u ∧ u.sec.venueJournal = v :: rest) ∧
    (∃ (t v : Nat) (rest : List Nat) (s u : State), s.advance t = u ∧ u.sec.venueJournal = v :: rest) ∧
    (∃ (t v : Nat) (rest : List Nat) (s u : State), s.advance t = u ∧ u.sec.venueJournal = v :: rest) :=
  ⟨⟨0, .host, (stand Mode.IDLE), _, rfl, by decide +kernel⟩,
   ⟨0, { source := 1, object := [], frame := none },
     { stand Mode.IDLE with sec := { venueJob := some (({ source := 1, object := [], frame := none } : VenueJob)) } }, _, rfl, by decide +kernel⟩,
   ⟨0, 3, [4], { stand Mode.IDLE with sec := { venueJournal := [3, 4] } }, _, rfl, by decide +kernel⟩,
   ⟨0, 3, [4], { stand Mode.IDLE with sec := { venueJournal := [3, 4] } }, _, rfl, by decide +kernel⟩,
   ⟨0, 3, [4], { stand Mode.IDLE with sec := { venueJournal := [3, 4] } }, _, rfl, by decide +kernel⟩⟩

theorem witness_CuesFireAndAct :
    (∃ (t num k : Nat) (c : Cue) (s u : State), s.advance t = u ∧ u.cueIndex num 0 = some k ∧ u.cueAt k = some c ∧ u.ready = true ∧
      u.cue.spent.contains k = false ∧ c.time ≤ u.showNs) ∧
    (∃ (t num k at_ : Nat) (c : Cue) (s u : State), s.advance t = u ∧ u.cueIndex num 1 = some k ∧ u.cueAt k = some c ∧ ((u.cue.armed.find? fun x =>
      x.1 == k) = some (k, at_)) ∧ at_ + nsCycles c.time ≤ u.now) ∧
    (∃ (t num k : Nat) (req : Requester) (s u : State), s.advance t = u ∧ u.accepts req Reg.SEC_CUE_GO (Word.ofNat (num % 2 ^ 16)) ∧ u.cueIndex (num
      % 2 ^ 16) 3 = some k) ∧
    (∃ (t num : Nat) (req : Requester) (s u : State), s.advance t = u ∧ u.accepts req Reg.SEC_CUE_GO (Word.ofNat (num % 2 ^ 16)) ∧ u.cueIndex (num %
      2 ^ 16) 3 = none) ∧
    (∃ (t num : Nat) (f : FiredCue) (c : Cue) (s u v : State), s.advance t = u ∧ takesTurn u num 0 f c v ∧ v.alone) ∧
    (∃ (t num : Nat) (f : FiredCue) (c : Cue) (s u v w : State), s.advance t = u ∧ takesTurn u num 1 f c v ∧ v.alone ∧ (v.setFld Reg.STORE_PLAY 0 11
      (c.arg1 % 2048)).setNat Reg.STORE_PLAY_FRAME c.arg0 = w) ∧
    (∃ (t num : Nat) (f : FiredCue) (c : Cue) (s u v w : State), s.advance t = u ∧ takesTurn u num 1 f c v ∧ v.alone ∧ (v.setFld Reg.STORE_PLAY 0 11
      (c.arg1 % 2048)).setNat Reg.STORE_PLAY_FRAME c.arg0 = w) ∧
    (∃ (t num : Nat) (f : FiredCue) (c : Cue) (s u v : State), s.advance t = u ∧ takesTurn u num 2 f c v ∧ v.alone) ∧
    (∃ (t num : Nat) (f : FiredCue) (c : Cue) (s u v : State), s.advance t = u ∧ takesTurn u num 3 f c v ∧ v.modeCode ≠ Mode.SAFE ∧ c.arg0 = 0xFF) ∧
    (∃ (t num : Nat) (f : FiredCue) (c : Cue) (q : VenueSlot) (s u v : State), s.advance t = u ∧ takesTurn u num 3 f c v ∧ v.modeCode ≠ Mode.SAFE ∧
      c.arg0 ≠ 0xFF ∧ v.sec.pattern.venueSlots[c.arg0]? = some q ∧ venueDescOk q.desc q.buffer.length = true) ∧
    (∃ (num a : Nat) (f : FiredCue) (c : Cue) (u v : State), takesTurn u num a f c v) ∧
    (∃ (t num : Nat) (f f' x : FiredCue) (c c' : Cue) (s u v v' : State), s.advance t = u ∧ u.fireWaiting.takeFired num 2 = some (f, c, v) ∧
      u.fireWaiting.before f = [x] ∧ (u.fireWaiting.cueAct x).takeFired num 2 = some (f', c', v')) :=
  ⟨⟨0, 4, 0, ⟨4, 0, 0, 0, 0, 0, 0⟩, { stand Mode.IDLE with sec := { pattern := { cues := [((⟨4, 0, 0, 0, 0, 0, 0⟩ : Cue))] } } }, _, rfl,
    by decide +kernel⟩,
   ⟨0, 4, 0, 5, ⟨4, 1, 0, 0, 0, 0, 0⟩,
     { stand Mode.IDLE with sec := { pattern := { cues := [((⟨4, 1, 0, 0, 0, 0, 0⟩ : Cue))] } }, cue := { armed := [(0, 5)] } }, _, rfl,
     by decide +kernel⟩,
   ⟨0, 4, 0, .host, { stand Mode.IDLE with sec := { pattern := { cues := [⟨4, 3, 0, 0, 0, 0, 0⟩] } } }, _, rfl, by decide +kernel⟩,
   ⟨0, 9, .host, (stand Mode.IDLE), _, rfl, by decide +kernel⟩,
   ⟨0, 4, ⟨0, 2, 3⟩, ⟨4, 0, 0, 0, 4, 0, 0⟩,
     { stand Mode.IDLE with sec := { pattern := { cues := [((⟨4, 0, 0, 0, 4, 0, 0⟩ : Cue))] } }, cue := { fired := [((⟨0, 2, 3⟩ : FiredCue))] } }, _,
     ((((({ stand Mode.IDLE with sec := { pattern := { cues := [((⟨4, 0, 0, 0, 4, 0, 0⟩ : Cue))] } }, cue := { fired := [((⟨0, 2, 3⟩ : FiredCue))] } }
     : State)).fireWaiting.takeFired 4 0).map (fun q_ => q_.2.2)).getD
     (({ stand Mode.IDLE with sec := { pattern := { cues := [((⟨4, 0, 0, 0, 4, 0, 0⟩ : Cue))] } }, cue := { fired := [((⟨0, 2, 3⟩ : FiredCue))] } } :
     State))), rfl, by decide +kernel⟩,
   ⟨0, 4, ⟨0, 2, 3⟩, ⟨4, 0, 1, 0, 5, 2, 0⟩,
     { stand Mode.SHOW with sec := { pattern := { cues := [((⟨4, 0, 1, 0, 5, 2, 0⟩ : Cue))] } }, cue := { fired := [((⟨0, 2, 3⟩ : FiredCue))] }, store := { skein := some ⟨2, 60, 100, 0, 10, 1, [], []⟩ } },
     _,
     ((((({ stand Mode.SHOW with sec := { pattern := { cues := [((⟨4, 0, 1, 0, 5, 2, 0⟩ : Cue))] } }, cue := { fired := [((⟨0, 2, 3⟩ : FiredCue))] }, store := { skein := some ⟨2, 60, 100, 0, 10, 1, [], []⟩ } }
     : State)).fireWaiting.takeFired 4 1).map (fun q_ => q_.2.2)).getD
     (({ stand Mode.SHOW with sec := { pattern := { cues := [((⟨4, 0, 1, 0, 5, 2, 0⟩ : Cue))] } }, cue := { fired := [((⟨0, 2, 3⟩ : FiredCue))] }, store := { skein := some ⟨2, 60, 100, 0, 10, 1, [], []⟩ } }
     : State))), _, rfl, by decide +kernel, by decide +kernel, rfl⟩,
   ⟨0, 4, ⟨0, 2, 3⟩, ⟨4, 0, 1, 0, 5, 2, 0⟩,
     { stand Mode.SHOW with sec := { pattern := { cues := [((⟨4, 0, 1, 0, 5, 2, 0⟩ : Cue))] } }, cue := { fired := [((⟨0, 2, 3⟩ : FiredCue))] } }, _,
     ((((({ stand Mode.SHOW with sec := { pattern := { cues := [((⟨4, 0, 1, 0, 5, 2, 0⟩ : Cue))] } }, cue := { fired := [((⟨0, 2, 3⟩ : FiredCue))] } }
     : State)).fireWaiting.takeFired 4 1).map (fun q_ => q_.2.2)).getD
     (({ stand Mode.SHOW with sec := { pattern := { cues := [((⟨4, 0, 1, 0, 5, 2, 0⟩ : Cue))] } }, cue := { fired := [((⟨0, 2, 3⟩ : FiredCue))] } } :
     State))), _, rfl, by decide +kernel, by decide +kernel, rfl⟩,
   ⟨0, 4, ⟨0, 2, 3⟩, ⟨4, 0, 2, 0, 0, 0, 0⟩,
     { stand Mode.IDLE with sec := { pattern := { cues := [((⟨4, 0, 2, 0, 0, 0, 0⟩ : Cue))], batches := [[(Reg.HANK_JOB_LEN, 5)]] } }, cue := { fired := [((⟨0, 2, 3⟩ : FiredCue))] } },
     _,
     ((((({ stand Mode.IDLE with sec := { pattern := { cues := [((⟨4, 0, 2, 0, 0, 0, 0⟩ : Cue))], batches := [[(Reg.HANK_JOB_LEN, 5)]] } }, cue := { fired := [((⟨0, 2, 3⟩ : FiredCue))] } }
     : State)).fireWaiting.takeFired 4 2).map (fun q_ => q_.2.2)).getD
     (({ stand Mode.IDLE with sec := { pattern := { cues := [((⟨4, 0, 2, 0, 0, 0, 0⟩ : Cue))], batches := [[(Reg.HANK_JOB_LEN, 5)]] } }, cue := { fired := [((⟨0, 2, 3⟩ : FiredCue))] } }
     : State))), rfl, by decide +kernel⟩,
   ⟨0, 4, ⟨0, 2, 3⟩, ⟨4, 0, 3, 0, 0xFF, 0, 0⟩,
     { stand Mode.IDLE with sec := { pattern := { cues := [((⟨4, 0, 3, 0, 0xFF, 0, 0⟩ : Cue))] } }, cue := { fired := [((⟨0, 2, 3⟩ : FiredCue))] } },
     _,
     ((((({ stand Mode.IDLE with sec := { pattern := { cues := [((⟨4, 0, 3, 0, 0xFF, 0, 0⟩ : Cue))] } }, cue := { fired := [((⟨0, 2, 3⟩ : FiredCue))] } }
     : State)).fireWaiting.takeFired 4 3).map (fun q_ => q_.2.2)).getD
     (({ stand Mode.IDLE with sec := { pattern := { cues := [((⟨4, 0, 3, 0, 0xFF, 0, 0⟩ : Cue))] } }, cue := { fired := [((⟨0, 2, 3⟩ : FiredCue))] } }
     : State))), rfl, by decide +kernel⟩,
   ⟨0, 4, ⟨0, 2, 3⟩, ⟨4, 0, 3, 0, 0, 0, 0⟩, ⟨[0, 0, 0, 0x40004, 256, 65536, 65536], List.replicate 1024 0⟩,
     { stand Mode.IDLE with sec := { pattern := { cues := [((⟨4, 0, 3, 0, 0, 0, 0⟩ : Cue))], venueSlots := [((⟨[0, 0, 0, 0x40004, 256, 65536, 65536], List.replicate 1024 0⟩ : VenueSlot))] } }, cue := { fired := [((⟨0, 2, 3⟩ : FiredCue))] } },
     _,
     ((((({ stand Mode.IDLE with sec := { pattern := { cues := [((⟨4, 0, 3, 0, 0, 0, 0⟩ : Cue))], venueSlots := [((⟨[0, 0, 0, 0x40004, 256, 65536, 65536], List.replicate 1024 0⟩ : VenueSlot))] } }, cue := { fired := [((⟨0, 2, 3⟩ : FiredCue))] } }
     : State)).fireWaiting.takeFired 4 3).map (fun q_ => q_.2.2)).getD
     (({ stand Mode.IDLE with sec := { pattern := { cues := [((⟨4, 0, 3, 0, 0, 0, 0⟩ : Cue))], venueSlots := [((⟨[0, 0, 0, 0x40004, 256, 65536, 65536], List.replicate 1024 0⟩ : VenueSlot))] } }, cue := { fired := [((⟨0, 2, 3⟩ : FiredCue))] } }
     : State))), rfl, by decide +kernel⟩,
   ⟨4, 0, ⟨0, 2, 3⟩, ⟨4, 0, 0, 0, 4, 0, 0⟩,
     { stand Mode.IDLE with sec := { pattern := { cues := [((⟨4, 0, 0, 0, 4, 0, 0⟩ : Cue))] } }, cue := { fired := [((⟨0, 2, 3⟩ : FiredCue))] } },
     ((((({ stand Mode.IDLE with sec := { pattern := { cues := [((⟨4, 0, 0, 0, 4, 0, 0⟩ : Cue))] } }, cue := { fired := [((⟨0, 2, 3⟩ : FiredCue))] } }
     : State)).fireWaiting.takeFired 4 0).map (fun q_ => q_.2.2)).getD
     (({ stand Mode.IDLE with sec := { pattern := { cues := [((⟨4, 0, 0, 0, 4, 0, 0⟩ : Cue))] } }, cue := { fired := [((⟨0, 2, 3⟩ : FiredCue))] } } :
     State))), by decide +kernel⟩,
   ⟨0, 4, ⟨1, 2, 3⟩, (((⟨1, 2, 3⟩ : FiredCue))), ⟨0, 2, 3⟩, ⟨4, 0, 2, 0, 0, 0, 0⟩, (((⟨4, 0, 2, 0, 0, 0, 0⟩ : Cue))),
     { stand Mode.IDLE with sec := { pattern := { cues := [⟨3, 0, 2, 0, 0, 0, 0⟩, ((⟨4, 0, 2, 0, 0, 0, 0⟩ : Cue))], batches := [[(Reg.HANK_JOB_LEN, 5)]] } }, cue := { fired := [((⟨0, 2, 3⟩ : FiredCue)), ((⟨1, 2, 3⟩ : FiredCue))] } },
     _, _,
     (((((({ stand Mode.IDLE with sec := { pattern := { cues := [⟨3, 0, 2, 0, 0, 0, 0⟩, ((⟨4, 0, 2, 0, 0, 0, 0⟩ : Cue))], batches := [[(Reg.HANK_JOB_LEN, 5)]] } }, cue := { fired := [((⟨0, 2, 3⟩ : FiredCue)), ((⟨1, 2, 3⟩ : FiredCue))] } }
     : State)).fireWaiting.cueAct ((⟨0, 2, 3⟩ : FiredCue))).takeFired 4 2).map (fun q_ => q_.2.2)).getD
     (({ stand Mode.IDLE with sec := { pattern := { cues := [⟨3, 0, 2, 0, 0, 0, 0⟩, ((⟨4, 0, 2, 0, 0, 0, 0⟩ : Cue))], batches := [[(Reg.HANK_JOB_LEN, 5)]] } }, cue := { fired := [((⟨0, 2, 3⟩ : FiredCue)), ((⟨1, 2, 3⟩ : FiredCue))] } }
     : State))), rfl, rfl, by decide +kernel⟩⟩

theorem witness_DescriptorAndFenceWrites :
    (∃ (t : Nat) (req : Requester) (k : Fin 64) (i : Fin 16) (w : Word) (s u : State), s.advance t = u ∧ u.alone ∧ ((findReg (descAddr k i)).any (fun
      d => d.access == .rws && d.applies == .atCommit) = true) ∧ u.accepts req (descAddr k i) w) ∧
    (∃ (t : Nat) (k : Fin 64) (w : Word) (s u : State), s.advance t = u ∧ ((u.frame.fenceLast.all fun x => decide (x.2.2 ≤ 5)) = true) ∧ u.accepts
      .host (Reg.PLY_FENCE k) w) ∧
    (∃ (k p q : Nat) (u : State), p < q ∧ ((u.frame.fenceLast.any fun x => x.1 == k && x.2.1 == u.now) = false)) :=
  ⟨⟨0, .host, 3, 2, 9, (stand Mode.IDLE), _, rfl, by decide +kernel⟩,
   ⟨0, 3, 9, (stand Mode.IDLE), _, rfl, by decide +kernel⟩,
   ⟨3, 1, 5, (stand Mode.IDLE), by decide +kernel⟩⟩

theorem witness_CommitsSelectAndApply :
    (∃ (t l : Nat) (f : FrameInfo) (req : Requester) (s u : State), s.advance t = u ∧ u.alone ∧ u.accepts req Reg.SCAN_COMMIT 1 ∧ u.frame.go = none ∧
      u.commitCadence = true ∧ u.closing = some (l, f) ∧ u.now + 8000 ≤ l ∧ u.inLatchCycle = false) ∧
    (∃ (t l l' e : Nat) (f f' : FrameInfo) (req : Requester) (s u : State), s.advance t = u ∧ u.alone ∧ u.accepts req Reg.SCAN_COMMIT 1 ∧ u.frame.go
      = none ∧ u.commitCadence = true ∧ u.closing = some (l, f) ∧ ((l < u.now + 8000 ∧ (l', f') = u.behind l f ∧ e = l - u.now) ∨ (u.now + 8000 ≤ l ∧
      u.inLatchCycle = true ∧ (l', f') = (l, f) ∧ e = 0))) ∧
    (∃ (t : Nat) (req : Requester) (s u : State), s.advance t = u ∧ u.accepts req Reg.SCAN_COMMIT 1 ∧ u.frame.go = none ∧ u.commitCadence = false) ∧
    (∃ (t : Nat) (req : Requester) (s u : State), s.advance t = u ∧ u.accepts req Reg.SCAN_COMMIT 1 ∧ u.frame.go ≠ none) ∧
    (∃ (c : Nat) (u : State), u.commitDue c = false) ∧
    (∃ (c : Nat) (u : State), u.commitDue c = true) :=
  ⟨⟨0, (nextL (({ showing Mode.SHOW with now := 5 } : State))), ((((({ showing Mode.SHOW with now := 5 } : State)).closing.map (·.2)).getD (frame
    0))), .host, { showing Mode.SHOW with now := 5 }, _, rfl, by decide +kernel⟩,
   ⟨0, (nextL (({ showing Mode.SHOW with frame := { (showing Mode.SHOW).frame with openedAt := (showing Mode.SHOW).now - 3999000 } } : State))),
     (((({ showing Mode.SHOW with frame := { (showing Mode.SHOW).frame with openedAt := (showing Mode.SHOW).now - 3999000 } } : State)).behind (nextL
     (({ showing Mode.SHOW with frame := { (showing Mode.SHOW).frame with openedAt := (showing Mode.SHOW).now - 3999000 } } : State)))
     ((((({ showing Mode.SHOW with frame := { (showing Mode.SHOW).frame with openedAt := (showing Mode.SHOW).now - 3999000 } } : State)).closing.map
     (·.2)).getD (frame 0)))).1), ((nextL
     (({ showing Mode.SHOW with frame := { (showing Mode.SHOW).frame with openedAt := (showing Mode.SHOW).now - 3999000 } } : State))) -
     (({ showing Mode.SHOW with frame := { (showing Mode.SHOW).frame with openedAt := (showing Mode.SHOW).now - 3999000 } } : State)).now),
     ((((({ showing Mode.SHOW with frame := { (showing Mode.SHOW).frame with openedAt := (showing Mode.SHOW).now - 3999000 } } : State)).closing.map
     (·.2)).getD (frame 0))),
     (((({ showing Mode.SHOW with frame := { (showing Mode.SHOW).frame with openedAt := (showing Mode.SHOW).now - 3999000 } } : State)).behind (nextL
     (({ showing Mode.SHOW with frame := { (showing Mode.SHOW).frame with openedAt := (showing Mode.SHOW).now - 3999000 } } : State)))
     ((((({ showing Mode.SHOW with frame := { (showing Mode.SHOW).frame with openedAt := (showing Mode.SHOW).now - 3999000 } } : State)).closing.map
     (·.2)).getD (frame 0)))).2), .host,
     { showing Mode.SHOW with frame := { (showing Mode.SHOW).frame with openedAt := (showing Mode.SHOW).now - 3999000 } }, _, rfl, by decide +kernel⟩,
   ⟨0, .host, (stand Mode.IDLE), _, rfl, by decide +kernel⟩,
   ⟨0, .host, { showing Mode.SHOW with frame := { (showing Mode.SHOW).frame with go := some (5, none) } }, _, rfl, by decide +kernel⟩,
   ⟨7, (showing Mode.SHOW), by decide +kernel⟩,
   ⟨7, { showing Mode.SHOW with frame := { (showing Mode.SHOW).frame with go := some (5, none) } }, by decide +kernel⟩⟩

theorem witness_FramesLatchAndFlip :
    (∃ (t : Nat) (f : FrameInfo) (s u : State), (s.advance t).fencesInTime = u ∧ u.frame.cur = some f ∧ u.commitCadence = true ∧ u.frame.boundary =
      false ∧ u.frame.openedAt + us f.window ≤ u.now) ∧
    (∃ (t : Nat) (f g : FrameInfo) (s u : State), s.advance t = u ∧ u.frame.cur = some f ∧ u.frame.next = some g ∧ u.commitCadence = true ∧
      u.frame.boundary = true ∧ f.flip ≤ u.showNs) ∧
    (∃ (t : Nat) (s u : State), s.advance t = u ∧ u.hbm.retime = true) ∧
    (∃ (t : Nat) (c : Cadence) (f : FrameInfo) (s u : State), s.advance t = u ∧ u.frame.cadence = some c ∧ u.frame.cur = some f ∧ u.commitCadence =
      false ∧ f.flip ≤ u.showNs ∧ u.stripFlips.cadenceRuns = true) :=
  ⟨⟨0, (frame Mode.SHOW), (showing Mode.SHOW), _, rfl, by decide +kernel⟩,
   ⟨0, (frame Mode.SHOW), { frame Mode.SHOW with count := 8, flip := 5 },
     { showing Mode.SHOW with frame := { (showing Mode.SHOW).frame with boundary := true, next := some (({ frame Mode.SHOW with count := 8, flip := 5 } : FrameInfo)) } },
     _, rfl, by decide +kernel⟩,
   ⟨0, { stand Mode.IDLE with hbm := { (stand Mode.IDLE).hbm with retime := true } }, _, rfl, by decide +kernel⟩,
   ⟨0, cadence, (frame Mode.STRIP), { stand Mode.STRIP with frame := { cadence := some cadence, cur := some (frame Mode.STRIP) } }, _, rfl,
     by decide +kernel⟩⟩

theorem witness_LatchShowsThePlies :
    (∃ (order : List PlyRef) (k : Nat) (u n : State), u.showPlies order k = n) ∧
    (∃ (m : Nat), (m = Mode.SWATCH ∨ isDelivering m = true)) ∧
    (∃ (m : Nat), (m = Mode.SWATCH ∨ isDelivering m = true)) ∧
    (∃ (m : Nat), m ≠ Mode.SWATCH ∧ isDelivering m = false) ∧
    (∃ (order : List (Nat × Desc)) (g : Nat) (u : State), (((groupMembers order g).any fun x => u.frame.flippedPrev.contains x.1) = true)) ∧
    (∃ (order : List (Nat × Desc)) (g : Nat) (u : State), 1 ≤ g ∧ g ≤ 15 ∧ (((groupMembers order g).any fun x => u.frame.flippedNow.contains x.1) =
      true)) :=
  ⟨⟨[{ id := 259, desc := Desc.ofWords fun _ => 0, flat := true, members := [3], venue := false },
    { id := 512, desc := Desc.ofWords fun _ => 0, flat := false, members := [], venue := true }], 9, ((showing Mode.SHOW).setBit (Reg.PLY_DESC_CTRL
    3) 11 true), _, rfl⟩,
   ⟨Mode.SWATCH, by decide +kernel⟩,
   ⟨Mode.SHOW, by decide +kernel⟩,
   ⟨Mode.IDLE, by decide +kernel⟩,
   ⟨[(3, { Desc.ofWords (fun _ => 0) with group := 2, w := 4, h := 4, scaleX := 65536, scaleY := 65536, active := true }), (4,
     { Desc.ofWords (fun _ => 0) with group := 2, w := 4, h := 4, scaleX := 65536, scaleY := 65536, active := true })], 2,
     { (showing Mode.SHOW).setNat (Reg.PLY_GROUP_SCALE 1) 65536 with frame := { (showing Mode.SHOW).frame with flippedPrev := [4], flat := [2] } },
     by decide +kernel⟩,
   ⟨[(3, { Desc.ofWords (fun _ => 0) with group := 2, w := 4, h := 4, scaleX := 65536, scaleY := 65536, active := true }), (4,
     { Desc.ofWords (fun _ => 0) with group := 2, w := 4, h := 4, scaleX := 65536, scaleY := 65536, active := true })], 2,
     { (showing Mode.SHOW).setNat (Reg.PLY_GROUP_SCALE 1) 65536 with frame := { (showing Mode.SHOW).frame with flippedNow := [4], flat := [2] } },
     by decide +kernel⟩⟩

theorem witness_FetchesAndCourses :
    (∃ (t c ply : Nat) (l : Fin 128) (f : FrameInfo) (x : Fetch) (p : PlyRef) (s u : State), s.advance t = u ∧ u.rayFrame = some f ∧
      ((u.frame.fetches.find? fun y => y.link == l.val && y.course == c && y.ply == ply) = some x) ∧ ((u.frame.order.find? fun y => y.id == ply) =
      some p) ∧ u.fetchHits f x u.lostIn = false ∧ ((p.flat = true → ∀ k : LinkFrame, u.linkFrame l = some k → u.flatError p (u.flatTilesOf f k c p)
      = none))) ∧
    (∃ (t c ply : Nat) (l : Fin 128) (f : FrameInfo) (x : Fetch) (s u : State), s.advance t = u ∧ u.rayFrame = some f ∧ ((u.frame.fetches.find? fun y
      => y.link == l.val && y.course == c && y.ply == ply) = some x) ∧ u.fetchHits f x u.lostIn = true ∧ ply ≠ venueId) ∧
    (∃ (t c : Nat) (l : Fin 128) (f : FrameInfo) (s u : State), s.advance t = u ∧ u.rayFrame = some f ∧ ((u.frame.fetches.any fun x => x.link ==
      l.val && x.course == c && x.ply == venueId) = true)) ∧
    (∃ (t c ply : Nat) (l : Fin 128) (f : FrameInfo) (s u : State), s.advance t = u ∧ u.rayFrame = some f ∧ ((u.frame.fetches.any fun x => x.link ==
      l.val && x.course == c && x.ply == ply) = true) ∧ ply ≠ venueId) ∧
    (∃ (ply : Nat) (u : State), ((u.frame.off.any fun x => x.1 == ply) = false)) ∧
    (∃ (ply : Nat) (u : State), ((u.frame.off.any fun x => x.1 == ply) = true)) ∧
    (∃ (t c : Nat) (l : Fin 128) (f : FrameInfo) (x : LinkFrame) (s u v : State), s.advance t = u ∧ (u.courseDue l c).isSome = true ∧ u.inTime = v ∧
      v.courseDue l c = some (f, x)) ∧
    (∃ (c : Nat) (l : Fin 128) (f : FrameInfo) (x : LinkFrame) (u : State), u.frame.cur = some f ∧ u.linkFrame l = some x ∧ u.frame.boundary = false
      ∧ x.held = false ∧ x.open_ = false ∧ x.opened = c ∧ c < x.courses ∧ ((u.mode.cur.any fun tr => tr.stage == .withdraw) = false)) ∧
    (∃ (t c j : Nat) (l : Fin 128) (s u : State), s.advance t = u ∧ u.frame.taken.contains (l.val, c, j) = true ∧ u.frame.spansDone.contains (l.val,
      c, j) = false ∧ ((u.frame.spanWait.any fun w => (w.1, w.2.1, w.2.2.1) == (l.val, c, j)) = false)) ∧
    (∃ (t c j line : Nat) (l : Fin 128) (s u : State), s.advance t = u ∧ u.frame.taken.contains (l.val, c, j) = true ∧ u.frame.spansDone.contains
      (l.val, c, j) = false ∧ ((u.frame.spanWait.any fun w => (w.1, w.2.1, w.2.2.1) == (l.val, c, j)) = false) ∧ mapGet u.frame.parity line = none) ∧
    (∃ (t line : Nat) (s u : State), s.advance t = u ∧ u.frame.refetch.contains line = true ∧ u.frame.spanWait = []) ∧
    (∃ (t : Nat) (l : Fin 128) (f : FrameInfo) (x : LinkFrame) (s u : State), s.advance t = u ∧ u.frame.cur = some f ∧ u.linkFrame l = some x ∧
      u.frame.boundary = false ∧ x.complete = false ∧ x.held = false ∧ x.link = l.val ∧ u.mode.cur = none ∧ u.frame.openedAt + us f.window ≤ u.now +
      us 20) ∧
    (∃ (t : Nat) (l : Fin 128) (f : FrameInfo) (x : LinkFrame) (s u : State), s.advance t = u ∧ u.frame.cur = some f ∧ u.linkFrame l = some x ∧
      u.frame.boundary = false ∧ x.complete = false ∧ x.held = false ∧ x.link = l.val ∧ u.mode.cur = none ∧ u.frame.openedAt + us f.window ≤ u.now +
      us 20) ∧
    (∃ (t : Nat) (g : Fin 16) (m : List (Nat × Desc)) (s u : State), s.advance t = u ∧ u.composing = some g.val ∧ u.step2 = false ∧ groupMembers
      u.activeOrder g = m ∧ u.flatReadsLost m (flatDesc m (u.groupScale g) (u.groupBase g)) = false) ∧
    (∃ (t : Nat) (s u : State), s.advance t = u ∧ u.step2 = true) :=
  ⟨⟨0, 2, 3, 1, (frame Mode.SHOW), ⟨1, 2, 3, false⟩, { id := 3, desc := Desc.ofWords fun _ => 0, flat := false, members := [3], venue := false },
    { showing Mode.SHOW with frame := { (showing Mode.SHOW).frame with fetches := [((⟨1, 2, 3, false⟩ : Fetch))], order := [(({ id := 3, desc := Desc.ofWords fun _ => 0, flat := false, members := [3], venue := false } : PlyRef))] } },
    _, rfl, by decide +kernel⟩,
   ⟨0, 0, 3, 1, (frame Mode.SHOW), ⟨1, 0, 3, false⟩,
     { panel (showing Mode.SHOW) with hbm := { (stand Mode.SHOW).hbm with lost := [(0, 2048)] }, frame := { (showing Mode.SHOW).frame with fetches := [((⟨1, 0, 3, false⟩ : Fetch))], links := [{ link := 1, tile := 1, courses := 4, spans := 2 }], order := [{ id := 3, desc := { Desc.ofWords (fun _ => 0) with w := 4096, h := 4096, pitch := 16384, scaleX := 65536, scaleY := 65536, active := true, viewMask := 0xFFFF }, flat := false, members := [3], venue := false }] } },
     _, rfl, by decide +kernel⟩,
   ⟨0, 2, 1, (frame Mode.SHOW), { showing Mode.SHOW with frame := { (showing Mode.SHOW).frame with fetches := [⟨1, 2, venueId, true⟩] } }, _, rfl,
     by decide +kernel⟩,
   ⟨0, 2, 3, 1, (frame Mode.SHOW), { showing Mode.SHOW with frame := { (showing Mode.SHOW).frame with fetches := [⟨1, 2, 3, false⟩] } }, _, rfl,
     by decide +kernel⟩,
   ⟨3, (showing Mode.SHOW), by decide +kernel⟩,
   ⟨3, { showing Mode.SHOW with frame := { (showing Mode.SHOW).frame with off := [(3, 5)] } }, by decide +kernel⟩,
   ⟨0, 0, 1, (frame Mode.SHOW), { link := 1, tile := 1, courses := 4, spans := 2 },
     { showing Mode.SHOW with frame := { (showing Mode.SHOW).frame with links := [(({ link := 1, tile := 1, courses := 4, spans := 2 } : LinkFrame))] } },
     _, _, rfl, by decide +kernel, rfl, by decide +kernel⟩,
   ⟨0, 1, (frame Mode.SHOW), { link := 1, tile := 1, courses := 4, spans := 2 },
     { showing Mode.SHOW with frame := { (showing Mode.SHOW).frame with links := [(({ link := 1, tile := 1, courses := 4, spans := 2 } : LinkFrame))] } },
     by decide +kernel⟩,
   ⟨0, 2, 1, 1, { showing Mode.SHOW with frame := { (showing Mode.SHOW).frame with taken := [(1, 2, 1)] } }, _, rfl, by decide +kernel⟩,
   ⟨0, 2, 1, 5, 1, { showing Mode.SHOW with frame := { (showing Mode.SHOW).frame with taken := [(1, 2, 1)] } }, _, rfl, by decide +kernel⟩,
   ⟨0, 5, { showing Mode.SHOW with frame := { (showing Mode.SHOW).frame with refetch := [5] } }, _, rfl, by decide +kernel⟩,
   ⟨0, 1, (frame Mode.SHOW), { link := 1, tile := 1, courses := 4, spans := 2, opened := 2, open_ := true },
     { showing Mode.SHOW with frame := { (showing Mode.SHOW).frame with links := [(({ link := 1, tile := 1, courses := 4, spans := 2, opened := 2, open_ := true } : LinkFrame))] } },
     _, rfl, by decide +kernel⟩,
   ⟨0, 1, (frame Mode.SHOW), { link := 1, tile := 1, courses := 4, spans := 2, opened := 2 },
     { showing Mode.SHOW with frame := { (showing Mode.SHOW).frame with links := [(({ link := 1, tile := 1, courses := 4, spans := 2, opened := 2 } : LinkFrame))] } },
     _, rfl, by decide +kernel⟩,
   ⟨0, 2, [], { showing Mode.SHOW with frame := { (showing Mode.SHOW).frame with flattening := [2] } }, _, rfl, by decide +kernel⟩,
   ⟨0, { (showing Mode.SHOW) with health := { want := 2 } }, _, rfl, by decide +kernel⟩⟩

theorem witness_PanelLinkBlocksAndFrames :
    (∃ (t k : Nat) (l : Fin 128) (s u : State), s.advance t = u ∧ u.tileOfLane l = some k ∧ u.laneUp l = true ∧ u.chain.quiet = false ∧ limited
      (u.lane l).timeAt (ms 1) u.now = false) ∧
    (∃ (t : Nat) (l : Fin 128) (f : List Byte) (s u : State), s.advance t = u ∧ u.laneStage (l + 0x80) ≠ 0 ∧ u.laneStage (l + 0x80) ≠ 0xA ∧ bcValid f
      = false) ∧
    (∃ (t k : Nat) (l : Fin 128) (f : List Byte) (s u : State), s.advance t = u ∧ u.laneStage (l + 0x80) ≠ 0 ∧ u.laneStage (l + 0x80) ≠ 0xA ∧ bcValid
      f = true ∧ u.tileOfLane l = some k ∧ ((u.enumerated k = false ∨ leAt f 2 2 = k))) ∧
    (∃ (t : Nat) (l : Fin 128) (s u : State), s.advance t = u ∧ (u.laneStage (l + 0x80) = 0 ∨ u.laneStage (l + 0x80) = 0xA)) ∧
    (∃ (t : Nat) (l : Fin 128) (s u : State), s.advance t = u ∧ (u.laneStage (l + 0x80) = 0 ∨ u.laneStage (l + 0x80) = 0xA)) ∧
    (∃ (t : Nat) (k : Fin 128) (s u : State), s.advance t = u ∧ u.enumerated k = true ∧ limited (u.tileState k).echoAt (ms 1000) u.now = false) ∧
    (∃ (t k : Nat) (req : Requester) (s u : State), s.advance t = u ∧ u.accepts req Reg.SPK_CTL (Word.ofNat (k % 128 + 2 ^ 9))) :=
  ⟨⟨0, 0, 0, (laneAt (panel (stand Mode.IDLE)) 0 8), _, rfl, by decide +kernel⟩,
   ⟨0, 0, [], (laneAt (panel (stand Mode.IDLE)) 0x80 8), _, rfl, by decide +kernel⟩,
   ⟨0, 0, 0, bcFrame, (laneAt (panel (stand Mode.IDLE)) 0x80 8), _, rfl, by decide +kernel⟩,
   ⟨0, 0, (panel (stand Mode.IDLE)), _, rfl, by decide +kernel⟩,
   ⟨0, 0, (laneAt (panel (stand Mode.IDLE)) 0x80 0xA), _, rfl, by decide +kernel⟩,
   ⟨0, 0, ((panel (stand Mode.IDLE)).setBit (Reg.SPK_TILE_STAT 0) 0 true), _, rfl, by decide +kernel⟩,
   ⟨0, 0, .host, (panel (stand Mode.IDLE)), _, rfl, by decide +kernel⟩⟩

theorem witness_PanelLinkCommandsAndTimers :
    (∃ (t c : Nat) (k : Fin 128) (s u : State), s.advance t = u ∧ u.bit (Reg.SPK_TILE_STAT k) 1 = true ∧ (u.tileState k).lastBc = some c ∧ c + us 100
      ≤ u.now ∧ u.enumerated k = true ∧ ((u.bcNow (u.laneOfTile k) fun f => !u.enumerated k || leAt f 0x02 2 == k) = false)) ∧
    (∃ (t c : Nat) (k : Fin 128) (s u : State), s.advance t = u ∧ (u.tileState k).noLock = some c ∧ c + ms 1 ≤ u.now ∧ (u.bcNow (u.laneOfTile k)
      u.bcLock) = false ∧ u.enumerated k = true ∧ (u.tileState k).noLockRaised = false ∧ u.laneUp (u.laneOfTile k) = true) ∧
    (∃ (t c : Nat) (k : Fin 128) (s u : State), s.advance t = u ∧ (u.tileState k).blanked = some c ∧ c + ms 1 ≤ u.now ∧ ((u.bcNow (u.laneOfTile k)
      fun f => !(leAt f 0x06 2).testBit 3) = false) ∧ u.enumerated k = true ∧ u.silent = false ∧ u.laneUp (u.laneOfTile k) = true ∧ (u.tileState
      k).blankedRaised = false ∧ u.delivering = true) ∧
    (∃ (t : Nat) (k : Fin 128) (q : CfgReq) (s u : State), s.advance t = u ∧ mapGet u.spk.out (u.laneOfTile k) = some q ∧ q.sent + us 50 ≤ u.now ∧
      ((u.bcNow (u.laneOfTile k) fun f => (u.cfgReported (u.laneOfTile k) f).isSome) = false)) ∧
    (∃ (t : Nat) (k : Fin 128) (q : CfgReq) (s u : State), s.advance t = u ∧ mapGet u.spk.out (u.laneOfTile k) = some q ∧ q.sent + us 50 ≤ u.now ∧
      ((u.bcNow (u.laneOfTile k) fun f => (u.cfgReported (u.laneOfTile k) f).isSome) = false)) ∧
    (∃ (t : Nat) (k : Fin 128) (s u : State), s.advance t = u ∧ (u.tileState k).enumStep = some .wait ∧ (u.tileState k).enumAt + ms 20 ≤ u.now ∧
      ((u.bcNow (u.laneOfTile k) fun _ => true) = false)) ∧
    (∃ (t k : Nat) (req : Requester) (i : Instr) (s u : State), s.advance t = u ∧ k < 128 ∧ ((i = .spkCtlReenum t req k ∧ u.accepts req Reg.SPK_CTL
      (Word.ofNat (k % 128 + 2 ^ 8)) ∨ k < u.roster.length ∧ ∃ f : Fin 128, f.val = k ∧ i = .tileEnumeration t f))) ∧
    (∃ (t k : Nat) (req : Requester) (i : Instr) (s u : State), s.advance t = u ∧ k < 128 ∧ ((i = .spkCtlReenum t req k ∧ u.accepts req Reg.SPK_CTL
      (Word.ofNat (k % 128 + 2 ^ 8)) ∨ k < u.roster.length ∧ ∃ f : Fin 128, f.val = k ∧ i = .tileEnumeration t f))) ∧
    (∃ (t : Nat) (req : Requester) (s u : State), s.advance t = u ∧ u.accepts req Reg.SPK_CTL (Word.ofNat (2 ^ 10))) ∧
    (∃ (t : Nat) (req : Requester) (s u : State), s.advance t = u ∧ u.accepts req Reg.SPK_CFGW_CMD 1 ∧ u.alone ∧ u.configs = true ∧ u.fld
      Reg.SPK_CFGW_ADDR 0 7 < u.roster.length ∧ u.cadenceRuns = true) ∧
    (∃ (t : Nat) (req : Requester) (s u : State), s.advance t = u ∧ u.accepts req Reg.SPK_CFGW_CMD 1 ∧ u.alone ∧ u.configs = true ∧ u.roster.length ≤
      u.fld Reg.SPK_CFGW_ADDR 0 7) :=
  ⟨⟨0, 0, 0, ((laneAt ((panel (stand Mode.IDLE)).setNat (Reg.SPK_TILE_STAT 0) 3) 0 8).setTile 0 { lastBc := some 0 }), _, rfl, by decide +kernel⟩,
   ⟨0, 0, 0, ((laneAt ((panel (stand Mode.IDLE)).setNat (Reg.SPK_TILE_STAT 0) 3) 0 8).setTile 0 { noLock := some 0 }), _, rfl, by decide +kernel⟩,
   ⟨0, 0, 0, ((laneAt ((panel (showing Mode.SHOW)).setNat (Reg.SPK_TILE_STAT 0) 3) 0 8).setTile 0 { blanked := some 0 }), _, rfl, by decide +kernel⟩,
   ⟨0, 0, ⟨0, 0, true, 4, 0, .expert, 3, 0, 0⟩,
     { panel (stand Mode.IDLE) with spk := { out := [(0, ((⟨0, 0, true, 4, 0, .expert, 3, 0, 0⟩ : CfgReq)))] } }, _, rfl, by decide +kernel⟩,
   ⟨0, 0, ⟨0, 0, true, 4, 0, .expert, 1, 0, 0⟩,
     { panel (stand Mode.IDLE) with spk := { out := [(0, ((⟨0, 0, true, 4, 0, .expert, 1, 0, 0⟩ : CfgReq)))] } }, _, rfl, by decide +kernel⟩,
   ⟨0, 0, ((panel (stand Mode.IDLE)).setTile 0 { enumStep := some .wait, enumAt := 0 }), _, rfl, by decide +kernel⟩,
   ⟨0, 0, .host, (.spkCtlReenum 0 .host 0), (panel (stand Mode.IDLE)), _, rfl, by decide +kernel⟩,
   ⟨0, 1, .host, (.tileEnumeration 0 1), (panel (stand Mode.IDLE)), _, rfl, by decide +kernel⟩,
   ⟨0, .host, (panel (stand Mode.IDLE)), _, rfl, by decide +kernel⟩,
   ⟨0, .host, ((panel (showing Mode.SHOW)).setBit Reg.GLB_EXPERT_STAT 0 true), _, rfl, by decide +kernel⟩,
   ⟨0, .host, (((showing Mode.SHOW).setBit Reg.GLB_EXPERT_STAT 0 true)), _, rfl, by decide +kernel⟩⟩

theorem witness_LanesTrainAndRetrain :
    (∃ (t : Nat) (l : Fin 304) (s u : State), s.advance t = u ∧ u.laneStage l = 1 ∧ laneGroup l ≠ 0) ∧
    (∃ (t : Nat) (l : Fin 304) (s u : State), s.advance t = u ∧ u.laneStage l = 1 ∧ laneGroup l ≠ 0) ∧
    (∃ (t : Nat) (l : Fin 304) (s u : State), s.advance t = u ∧ u.laneStage l = 1 ∧ laneGroup l = 0 ∧ u.laneUp (l + 0x80) = false) ∧
    (∃ (t : Nat) (l : Fin 304) (s u : State), s.advance t = u ∧ u.laneStage l = 2) ∧
    (∃ (t : Nat) (l : Fin 304) (s u : State), s.advance t = u ∧ u.laneStage l = 2) ∧
    (∃ (t : Nat) (l : Fin 304) (s u : State), s.advance t = u ∧ u.laneStage l = 2) ∧
    (∃ (t : Nat) (l : Fin 304) (s u : State), s.advance t = u ∧ u.laneStage l = 6 ∧ (u.lane l).tryPreset = none) ∧
    (∃ (t : Nat) (l : Fin 304) (s u : State), s.advance t = u ∧ u.laneStage l = 6 ∧ (u.lane l).tryPreset = none) ∧
    (∃ (t : Nat) (l : Fin 304) (s u : State), s.advance t = u ∧ u.laneStage l = 7 ∧ laneGroup l ≠ 2) ∧
    (∃ (t : Nat) (l : Fin 304) (s u : State), s.advance t = u ∧ u.laneStage l = 7 ∧ laneGroup l ≠ 2) ∧
    (∃ (t : Nat) (l : Fin 304) (s u : State), s.advance t = u ∧ u.laneStage l = 7 ∧ laneGroup l ≠ 2) ∧
    (∃ (t : Nat) (l : Fin 304) (s u : State), s.advance t = u ∧ laneGroup l = 2 ∧ u.laneStage l = 7) ∧
    (∃ (t : Nat) (l : Fin 304) (s u : State), s.advance t = u ∧ laneGroup l ≤ 3 ∧ 1 ≤ u.laneStage l ∧ u.laneStage l ≤ 7 ∧ ((u.laneStage l = 1 →
      (u.lane l).calDone = false)) ∧ u.stageDoneNow l = false ∧ (u.lane l).stageAt + ms (stageLimit (laneGroup l) (u.laneStage l)) ≤ u.now) ∧
    (∃ (t : Nat) (l : Fin 304) (s u : State), s.advance t = u ∧ laneGroup l ≤ 3 ∧ 1 ≤ u.laneStage l ∧ u.laneStage l ≤ 7 ∧ ((u.laneStage l = 1 →
      (u.lane l).calDone = false)) ∧ u.stageDoneNow l = false ∧ (u.lane l).stageAt + ms (stageLimit (laneGroup l) (u.laneStage l)) ≤ u.now) ∧
    (∃ (t : Nat) (l : Fin 304) (s u : State), s.advance t = u ∧ laneGroup l ≤ 3 ∧ 1 ≤ u.laneStage l ∧ u.laneStage l ≤ 7 ∧ ((u.laneStage l = 1 →
      (u.lane l).calDone = false)) ∧ u.stageDoneNow l = false ∧ (u.lane l).stageAt + ms (stageLimit (laneGroup l) (u.laneStage l)) ≤ u.now) ∧
    (∃ (t : Nat) (l : Fin 304) (s u : State), s.advance t = u ∧ laneGroup l ≤ 3 ∧ 1 ≤ u.laneStage l ∧ u.laneStage l ≤ 7 ∧ ((u.laneStage l = 1 →
      (u.lane l).calDone = false)) ∧ u.stageDoneNow l = false ∧ (u.lane l).stageAt + ms (stageLimit (laneGroup l) (u.laneStage l)) ≤ u.now) ∧
    (∃ (t : Nat) (l : Fin 304) (s u : State), s.advance t = u ∧ laneGroup l ≤ 3 ∧ 1 ≤ u.laneStage l ∧ u.laneStage l ≤ 7 ∧ ((u.laneStage l = 1 →
      (u.lane l).calDone = false)) ∧ u.stageDoneNow l = false ∧ (u.lane l).stageAt + ms (stageLimit (laneGroup l) (u.laneStage l)) ≤ u.now) ∧
    (∃ (t : Nat) (l : Fin 304) (s u : State), s.advance t = u ∧ laneGroup l ≤ 3 ∧ 1 ≤ u.laneStage l ∧ u.laneStage l ≤ 7 ∧ ((u.laneStage l = 1 →
      (u.lane l).calDone = false)) ∧ u.stageDoneNow l = false ∧ (u.lane l).stageAt + ms (stageLimit (laneGroup l) (u.laneStage l)) ≤ u.now) ∧
    (∃ (t : Nat) (l : Fin 304) (s u : State), s.advance t = u ∧ laneGroup l ≤ 3 ∧ 1 ≤ u.laneStage l ∧ u.laneStage l ≤ 7 ∧ ((u.laneStage l = 1 →
      (u.lane l).calDone = false)) ∧ u.stageDoneNow l = false ∧ (u.lane l).stageAt + ms (stageLimit (laneGroup l) (u.laneStage l)) ≤ u.now) ∧
    (∃ (t : Nat) (l : Fin 304) (s u : State), s.advance t = u ∧ u.now < (u.lane l).stageAt + ms (stageLimit (laneGroup l) (u.laneStage l))) ∧
    (∃ (l : Fin 304) (u n : State), u.failAttempt l = n ∧ u.fld (Reg.LANE_STATE l) 12 4 = 2 ∧ (u.lane l).failRaised = false ∧ u.loops = false) ∧
    (∃ (l : Fin 304) (u : State), u.fld (Reg.LANE_STATE l) 12 4 < 2 ∧ (laneGroup l ≠ 2 ∨ u.laneStage l ≠ 7)) ∧
    (∃ (l : Fin 304) (u : State), u.fld (Reg.LANE_STATE l) 12 4 < 2 ∧ (laneGroup l ≠ 2 ∨ u.laneStage l ≠ 7)) ∧
    (∃ (t : Nat) (l : Fin 304) (s u : State), s.advance t = u ∧ laneGroup l ≤ 2 ∧ u.laneStage l = 9 ∧ (u.lane l).retryAt + ms 100 ≤ u.now) ∧
    (∃ (t : Nat) (l : Fin 304) (s u : State), s.advance t = u ∧ laneGroup l ≤ 2 ∧ u.laneStage l = 9 ∧ (u.lane l).retryAt + ms 100 ≤ u.now) ∧
    (∃ (t : Nat) (l : Fin 304) (s u : State), s.advance t = u ∧ laneGroup l ≤ 2 ∧ u.laneStage l = 9 ∧ (u.lane l).retryAt + ms 100 ≤ u.now) ∧
    (∃ (t : Nat) (l : Fin 304) (s u : State), s.advance t = u ∧ laneGroup l ≠ 2 ∧ u.laneUp l = true) ∧
    (∃ (t : Nat) (l : Fin 304) (s u : State), s.advance t = u ∧ laneGroup l = 2 ∧ u.laneUp l = true ∧ u.portLanesUp (lanePort l) = true) ∧
    (∃ (t : Nat) (l : Fin 304) (req : Requester) (s u : State), s.advance t = u ∧ u.accepts req Reg.LANE_CTL (Word.ofNat (l % 512 + 2 ^ 9)) ∧
      u.laneStage l ≠ 0 ∧ u.laneStage l ≠ 0xA) ∧
    (∃ (t : Nat) (l : Fin 304) (req : Requester) (s u : State), s.advance t = u ∧ u.accepts req Reg.LANE_CTL (Word.ofNat (l % 512 + 2 ^ 9)) ∧
      u.laneStage l ≠ 0 ∧ u.laneStage l ≠ 0xA) :=
  ⟨⟨0, 0x118, (laneAt (stand Mode.IDLE) 0x118 1), _, rfl, by decide +kernel⟩,
   ⟨0, 0x80, (laneAt (stand Mode.IDLE) 0x80 1), _, rfl, by decide +kernel⟩,
   ⟨0, 0, (laneAt (stand Mode.IDLE) 0 1), _, rfl, by decide +kernel⟩,
   ⟨0, 0, (laneAt (stand Mode.IDLE) 0 2), _, rfl, by decide +kernel⟩,
   ⟨0, 256, (laneAt (stand Mode.IDLE) 256 2), _, rfl, by decide +kernel⟩,
   ⟨0, 280, (laneAt (stand Mode.IDLE) 280 2), _, rfl, by decide +kernel⟩,
   ⟨0, 0, ((laneAt (stand Mode.IDLE) 0 6).setFld (Reg.LANE_FOM 0) 0 8 77), _, rfl, by decide +kernel⟩,
   ⟨0, 256, ((laneAt (stand Mode.IDLE) 256 6).setFld (Reg.LANE_FOM 256) 0 8 77), _, rfl, by decide +kernel⟩,
   ⟨0, 0, (laneAt (stand Mode.IDLE) 0 7), _, rfl, by decide +kernel⟩,
   ⟨0, 128, (laneAt (stand Mode.IDLE) 128 7), _, rfl, by decide +kernel⟩,
   ⟨0, 280, (laneAt (stand Mode.IDLE) 280 7), _, rfl, by decide +kernel⟩,
   ⟨0, 0x100, (laneAt (stand Mode.IDLE) 0x100 7), _, rfl, by decide +kernel⟩,
   ⟨0, 0, (laneAt (stand Mode.IDLE) 0 1), _, rfl, by decide +kernel⟩,
   ⟨0, 0, (laneAt (stand Mode.IDLE) 0 2), _, rfl, by decide +kernel⟩,
   ⟨0, 0, (laneAt (stand Mode.IDLE) 0 4), _, rfl, by decide +kernel⟩,
   ⟨0, 128, (laneAt (stand Mode.IDLE) 128 3), _, rfl, by decide +kernel⟩,
   ⟨0, 256, (laneAt (stand Mode.IDLE) 256 5), _, rfl, by decide +kernel⟩,
   ⟨0, 256, (laneAt (stand Mode.IDLE) 256 7), _, rfl, by decide +kernel⟩,
   ⟨0, 272, (laneAt (stand Mode.IDLE) 272 6), _, rfl, by decide +kernel⟩,
   ⟨0, 0, ((laneAt (stand Mode.IDLE) 0 2).setLane 0 { stageAt := (stand Mode.IDLE).now - 3999999 }), _, rfl, by decide +kernel⟩,
   ⟨0, ((laneAt (stand Mode.IDLE) 0 2).setFld (Reg.LANE_STATE 0) 12 4 2), _, rfl, by decide +kernel⟩,
   ⟨0, ((laneAt (stand Mode.IDLE) 0 2).setFld (Reg.LANE_STATE 0) 12 4 1), by decide +kernel⟩,
   ⟨256, ((laneAt (stand Mode.IDLE) 256 5).setFld (Reg.LANE_STATE 256) 12 4 1), by decide +kernel⟩,
   ⟨0, 0, (laneAt (stand Mode.IDLE) 0 9), _, rfl, by decide +kernel⟩,
   ⟨0, 128, (laneAt (stand Mode.IDLE) 128 9), _, rfl, by decide +kernel⟩,
   ⟨0, 256, (laneAt (stand Mode.IDLE) 256 9), _, rfl, by decide +kernel⟩,
   ⟨0, 0, (laneAt (stand Mode.IDLE) 0 8), _, rfl, by decide +kernel⟩,
   ⟨0, 0x100, (laneAt (laneAt (laneAt (laneAt (stand Mode.IDLE) 0x100 8) 0x101 8) 0x102 8) 0x103 8), _, rfl, by decide +kernel⟩,
   ⟨0, 0x80, .host, (laneAt (stand Mode.IDLE) 0x80 8), _, rfl, by decide +kernel⟩,
   ⟨0, 0x100, .host, (laneAt (laneAt (laneAt (laneAt (stand Mode.IDLE) 0x100 8) 0x101 8) 0x102 8) 0x103 8), _, rfl, by decide +kernel⟩⟩

theorem witness_LaneTriesAndCounters :
    (∃ (t : Nat) (l : Fin 128) (s u : State), s.advance t = u ∧ u.laneStage l = 4 ∧ (u.lane l).polAt + ms 5 ≤ u.now ∧ u.stageDoneNow l = false ∧
      (u.lane l).polTried = false) ∧
    (∃ (t : Nat) (l : Fin 128) (s u : State), s.advance t = u ∧ u.laneStage l = 4 ∧ (u.lane l).polAt + ms 5 ≤ u.now ∧ u.stageDoneNow l = false ∧
      (u.lane l).polTried = true) ∧
    (∃ (t p : Nat) (l : Fin 304) (s u : State), s.advance t = u ∧ (u.lane l).tryPreset = some p ∧ p < 7 ∧ laneGroup l ≠ 0 ∧ (u.lane l).tryAt + ms 2 ≤
      u.now) ∧
    (∃ (t p k : Nat) (l : Fin 304) (s u : State), s.advance t = u ∧ (u.lane l).tryPreset = some p ∧ p < 7 ∧ laneGroup l = 0 ∧ u.tileOfLane l = some k
      ∧ (u.lane l).tryAt + ms 2 ≤ u.now) ∧
    (∃ (t p k : Nat) (l : Fin 304) (s u : State), s.advance t = u ∧ (u.lane l).tryPreset = some p ∧ p < 7 ∧ laneGroup l = 0 ∧ u.tileOfLane l = some k
      ∧ (u.lane l).tryAt + ms 2 ≤ u.now) ∧
    (∃ (t : Nat) (l : Fin 304) (s u v : State), s.advance t = u ∧ (u.lane l).tryPreset = some 7 ∧ laneGroup l ≠ 0 ∧ (u.lane l).tryAt + ms 2 ≤ u.now ∧
      u.setLane l { u.lane l with sums := (u.lane l).sums ++ [(u.lane l).peerFom], tryPreset := none } = v) ∧
    (∃ (t : Nat) (l : Fin 304) (s u v : State), s.advance t = u ∧ (u.lane l).tryPreset = some 7 ∧ laneGroup l ≠ 0 ∧ (u.lane l).tryAt + ms 2 ≤ u.now ∧
      u.setLane l { u.lane l with sums := (u.lane l).sums ++ [(u.lane l).peerFom], tryPreset := none } = v) ∧
    (∃ (t l : Nat) (req : Requester) (s u : State), s.advance t = u ∧ l < 304 ∧ u.accepts req Reg.LANE_CTL (Word.ofNat (l % 512 + 2 ^ 10))) ∧
    (∃ (t l : Nat) (req : Requester) (s u : State), s.advance t = u ∧ l < 304 ∧ u.accepts req Reg.LANE_CTL (Word.ofNat (l % 512 + 2 ^ 10))) ∧
    (∃ (t : Nat) (req : Requester) (s u : State), s.advance t = u ∧ u.accepts req Reg.LANE_CTL (Word.ofNat (2 ^ 11))) ∧
    (∃ (t h w f : Nat) (l : Fin 304) (s u : State), s.advance t = u ∧ limited (u.lane l).fomAt (ms 1000) u.now = false ∧ ((laneGroup l ≠ 0 ∧ f = min
      255 (256 * h * min w 64 / eyeRef (laneGroup l)) ∨ laneGroup l = 0 ∧ ∃ k : Nat, u.tileOfLane l = some k ∧ f = corrFom (u.tileState k).fomCorr)))
      ∧
    (∃ (t h w f : Nat) (l : Fin 304) (s u : State), s.advance t = u ∧ limited (u.lane l).fomAt (ms 1000) u.now = false ∧ ((laneGroup l ≠ 0 ∧ f = min
      255 (256 * h * min w 64 / eyeRef (laneGroup l)) ∨ laneGroup l = 0 ∧ ∃ k : Nat, u.tileOfLane l = some k ∧ f = corrFom (u.tileState k).fomCorr)))
      ∧
    (∃ (t h w f : Nat) (l : Fin 304) (s u : State), s.advance t = u ∧ limited (u.lane l).fomAt (ms 1000) u.now = false ∧ ((laneGroup l ≠ 0 ∧ f = min
      255 (256 * h * min w 64 / eyeRef (laneGroup l)) ∨ laneGroup l = 0 ∧ ∃ k : Nat, u.tileOfLane l = some k ∧ f = corrFom (u.tileState k).fomCorr)))
      :=
  ⟨⟨0, 0, (laneAt (stand Mode.IDLE) 0 4), _, rfl, by decide +kernel⟩,
   ⟨0, 0, ((laneAt (stand Mode.IDLE) 0 4).setLane 0 { polTried := true }), _, rfl, by decide +kernel⟩,
   ⟨0, 0, 0x100, ((stand Mode.IDLE).setLane 0x100 { tryPreset := some 0, peerFom := some 9 }), _, rfl, by decide +kernel⟩,
   ⟨0, 6, 0, 0, (((panel (stand Mode.IDLE)).setLane 0 { tryPreset := some 6 }).setTile 0 { tryLock := some true, tryCorr := 5 }), _, rfl,
     by decide +kernel⟩,
   ⟨0, 6, 0, 0, (((panel (stand Mode.IDLE)).setLane 0 { tryPreset := some 6 }).setTile 0 { tryLock := some false, tryCorr := 5 }), _, rfl,
     by decide +kernel⟩,
   ⟨0, 0x100, ((stand Mode.IDLE).setLane 0x100 { tryPreset := some 7, sums := [some 9, none, none, none, none, none, none] }), _, _, rfl,
     by decide +kernel, by decide +kernel, by decide +kernel, rfl⟩,
   ⟨0, 0x100, ((stand Mode.IDLE).setLane 0x100 { tryPreset := some 7, sums := [none, none, none, none, none, none, none] }), _, _, rfl,
     by decide +kernel, by decide +kernel, by decide +kernel, rfl⟩,
   ⟨0, 303, .host, (stand Mode.IDLE), _, rfl, by decide +kernel⟩,
   ⟨0, 3, .host, ((stand Mode.IDLE).setLane 3 { countAt := some 5 }), _, rfl, by decide +kernel⟩,
   ⟨0, .host, (stand Mode.IDLE), _, rfl, by decide +kernel⟩,
   ⟨0, 90, 70, (min 255 (256 * (90) * min (70) 64 / eyeRef (laneGroup (0x100)))), 0x100, (stand Mode.IDLE), _, rfl, by decide +kernel⟩,
   ⟨0, 90, 70, (min 255 (256 * (90) * min (70) 64 / eyeRef (laneGroup (0x100)))), 0x100, (((laneAt (stand Mode.IDLE) 0x100 8).setFld
     (Reg.LANE_GRP_CFG 2) 0 8 255).setLane 0x100 { minFresh := false }), _, rfl, by decide +kernel⟩,
   ⟨0, 0, 0, (corrFom ((((panel (stand Mode.IDLE)).setTile 0 { fomCorr := 7 })).tileState 0).fomCorr), 0, ((panel (stand Mode.IDLE)).setTile 0
     { fomCorr := 7 }), _, rfl, by decide +kernel⟩⟩

theorem witness_LaneTestsAndLoop :
    (∃ (t k : Nat) (l : Fin 304) (s u : State), s.advance t = u ∧ laneGroup l ≠ 0 ∧ u.bit (Reg.LANE_GRP_CFG (laneGroup l)) 8 = true ∧ u.domainOn
      (laneDomain l) = true ∧ (((u.lane l).granted.any fun g => decide (u.now ≤ g.2.1 + ms 1)) = false) ∧ limited (mapGet (u.lane l).slicers k) (ms
      100) u.now = false) ∧
    (∃ (t k at_ : Nat) (before : Option Nat) (l : Fin 304) (s u : State), s.advance t = u ∧ (u.lane l).granted = some (k, at_, before) ∧ u.now = at_
      + ms 1 ∧ u.laneUp l = true) ∧
    (∃ (t k at_ : Nat) (before : Option Nat) (l : Fin 304) (s u : State), s.advance t = u ∧ (u.lane l).granted = some (k, at_, before) ∧ u.now = at_
      + ms 1 ∧ u.laneUp l = true) ∧
    (∃ (t : Nat) (l : Fin 304) (req : Requester) (w : Word) (s u : State), s.advance t = u ∧ u.accepts req (Reg.LANE_TEST l) w ∧ (w.bit 2 || w.bit 3)
      = true ∧ u.domainOn (laneDomain l) = true) ∧
    (∃ (t : Nat) (l : Fin 304) (req : Requester) (w : Word) (s u : State), s.advance t = u ∧ u.accepts req (Reg.LANE_TEST l) w ∧ (w.bit 2 || w.bit 3)
      = false ∧ u.laneStage l = 0xA ∧ laneGroup l ≠ 0) ∧
    (∃ (t : Nat) (l : Fin 304) (req : Requester) (w : Word) (s u : State), s.advance t = u ∧ u.accepts req (Reg.LANE_INJ l) w) ∧
    (∃ (t : Nat) (l : Fin 304) (req : Requester) (w : Word) (s u : State), s.advance t = u ∧ u.accepts req (Reg.LANE_INJ l) w) ∧
    (∃ (w : Word), w.field 0 5 ≠ 0) ∧
    (∃ (w : Word), w.field 0 5 ≠ 0) ∧
    (∃ (w : Word), w.field 0 5 ≠ 0) ∧
    (∃ (w : Word), w.field 0 5 ≠ 0) ∧
    (∃ (w : Word), w.field 0 5 ≠ 0) ∧
    (∃ (w : Word), w.field 0 5 ≠ 0) ∧
    (∃ (w : Word), w.field 0 5 ≠ 0) ∧
    (∃ (w : Word), w.field 0 5 ≠ 0) ∧
    (∃ (t : Nat) (s u : State), s.advance t = u) ∧
    (∃ (t : Nat) (s u : State), s.advance t = u) ∧
    (∃ (t : Nat) (s u : State), s.advance t = u ∧ (u.loopState = 1 ∨ u.loopState = 2)) ∧
    (∃ (t : Nat) (s u : State), s.advance t = u ∧ (u.loopState = 1 ∨ u.loopState = 2)) ∧
    (∃ (t : Nat) (s u : State), s.advance t = u ∧ u.loopState = 1 ∧ u.lanes.loop.lostAt = none ∧ u.lanes.loop.since + ms 10 ≤ u.now) ∧
    (∃ (t c : Nat) (s u : State), s.advance t = u ∧ u.lanes.loop.lostAt = some c ∧ c + us 10 ≤ u.now ∧ u.relocks u.loopPort = false) ∧
    (∃ (t c : Nat) (s u : State), s.advance t = u ∧ u.lanes.loop.lostAt = some c ∧ c + us 10 ≤ u.now ∧ u.relocks u.loopPort = false) ∧
    (∃ (t c : Nat) (s u : State), s.advance t = u ∧ u.lanes.loop.lostAt = some c ∧ c + us 10 ≤ u.now ∧ u.relocks u.loopPort = false) ∧
    (∃ (t : Nat) (s u : State), s.advance t = u) ∧
    (∃ (t : Nat) (s u : State), s.advance t = u) ∧
    (∃ (t : Nat) (s u : State), s.advance t = u) ∧
    (∃ (t : Nat) (s u : State), s.advance t = u) :=
  ⟨⟨0, 0, 0x100, ((stand Mode.IDLE).setBit (Reg.LANE_GRP_CFG 2) 8 true), _, rfl, by decide +kernel⟩,
   ⟨0, 0, ((stand Mode.IDLE).now - 400000), ((none : Option Nat)), 0x100, ((laneAt (stand Mode.IDLE) 0x100 8).setLane 0x100
     { granted := some (0, ((stand Mode.IDLE).now - 400000), ((none : Option Nat))), slicers := [(0, ((stand Mode.IDLE).now - 400000))] }), _, rfl,
     by decide +kernel⟩,
   ⟨0, 0, ((stand Mode.IDLE).now - 400000), ((some 5 : Option Nat)), 0x100, ((laneAt (stand Mode.IDLE) 0x100 8).setLane 0x100
     { granted := some (0, ((stand Mode.IDLE).now - 400000), ((some 5 : Option Nat))), slicers := [(0, ((stand Mode.IDLE).now - 400000))] }), _, rfl,
     by decide +kernel⟩,
   ⟨0, 0, .host, 4, ((stand Mode.SERVICE).setBit Reg.GLB_EXPERT_STAT 0 true), _, rfl, by decide +kernel⟩,
   ⟨0, 0x100, .host, 0, ((laneAt (stand Mode.SERVICE) 0x100 0xA).setBit Reg.GLB_EXPERT_STAT 0 true), _, rfl, by decide +kernel⟩,
   ⟨0, 0, .host, 0x10021, ((stand Mode.IDLE).setBit Reg.GLB_EXPERT_STAT 0 true), _, rfl, by decide +kernel⟩,
   ⟨0, 0, .host, 0x10021, (((stand Mode.IDLE).setBit Reg.GLB_EXPERT_STAT 0 true).setLane 0
     { first := some 5, inject := [{ from_ := 1, symbols := 2, count := 0, every := 1 }] }), _, rfl, by decide +kernel⟩,
   ⟨0x20021, by decide +kernel⟩,
   ⟨0x20021, by decide +kernel⟩,
   ⟨0x20021, by decide +kernel⟩,
   ⟨0x20021, by decide +kernel⟩,
   ⟨0x10001, by decide +kernel⟩,
   ⟨0x10001, by decide +kernel⟩,
   ⟨0x10001, by decide +kernel⟩,
   ⟨0x10001, by decide +kernel⟩,
   ⟨0, (((stand Mode.SERVICE).setFld (Reg.LANE_TEST 0) 3 1 1).setLane 0 { chkAt := some ((stand Mode.SERVICE).now - 100) }), _, rfl⟩,
   ⟨0, (((stand Mode.SERVICE).setFld (Reg.LANE_TEST 0) 3 6 0x21).setLane 0
     { chkAt := some ((stand Mode.SERVICE).now - 100), countAt := some ((stand Mode.SERVICE).now - 50) }), _, rfl⟩,
   ⟨0, ((stand Mode.IDLE).setNat Reg.LANE_LOOP_STAT 1), _, rfl, by decide +kernel⟩,
   ⟨0, ((stand Mode.IDLE).setNat Reg.LANE_LOOP_STAT 2), _, rfl, by decide +kernel⟩,
   ⟨0, ((stand Mode.IDLE).setNat Reg.LANE_LOOP_STAT 1), _, rfl, by decide +kernel⟩,
   ⟨0, 0,
     { ((((laneAt (laneAt (laneAt (laneAt (stand Mode.IDLE) 0x104 8) 0x105 8) 0x106 8) 0x107 8).setNat Reg.LANE_LOOP_STAT 2).setFld Reg.LANE_LOOP_CFG 2 2 1).setBit Reg.LANE_LOOP_CFG 4 true) with lanes := { (laneAt (laneAt (laneAt (laneAt (stand Mode.IDLE) 0x104 8) 0x105 8) 0x106 8) 0x107 8).lanes with loop := { lostAt := some 0 } } },
     _, rfl, by decide +kernel⟩,
   ⟨0, 0,
     { ((laneAt (laneAt (laneAt (laneAt (stand Mode.IDLE) 0x104 8) 0x105 8) 0x106 8) 0x107 8).setNat Reg.LANE_LOOP_STAT 2).setFld Reg.LANE_LOOP_CFG 0 2 1 with lanes := { (laneAt (laneAt (laneAt (laneAt (stand Mode.IDLE) 0x104 8) 0x105 8) 0x106 8) 0x107 8).lanes with loop := { lostAt := some 0 } } },
     _, rfl, by decide +kernel⟩,
   ⟨0, 0, { ((stand Mode.IDLE).setNat Reg.LANE_LOOP_STAT 2) with lanes := { (stand Mode.IDLE).lanes with loop := { lostAt := some 0 } } }, _, rfl,
     by decide +kernel⟩,
   ⟨0, (stand Mode.IDLE), _, rfl⟩,
   ⟨0, (stand Mode.IDLE), _, rfl⟩,
   ⟨0, (stand Mode.IDLE), _, rfl⟩,
   ⟨0, (stand Mode.IDLE), _, rfl⟩⟩

theorem witness_EmissionRampsUpAndDown :
    (∃ (t : Nat) (s u : State), s.advance t = u ∧ u.sequenceWaits = true ∧ u.powerIdle = true ∧ u.t0Due = true ∧ u.silent = false ∧
      u.emit_.noDischarge = false) ∧
    (∃ (t : Nat) (s u : State), s.advance t = u ∧ u.fld Reg.EMIT_STAT 0 3 = 1 ∧ u.emit_.seqAt + ms 50 ≤ u.now) ∧
    (∃ (t : Nat) (r : Ramp) (s u : State), s.advance t = u ∧ u.emit_.up = some r ∧ r.step + 1 < 5000 ∧ r.at_ + us (10 * (r.step + 1)) ≤ u.now) ∧
    (∃ (t : Nat) (r : Ramp) (s u : State), s.advance t = u ∧ u.emit_.up = some r ∧ r.step + 1 = 5000 ∧ u.modeCode = Mode.IDLE ∧ r.at_ + ms 50 ≤
      u.now) ∧
    (∃ (t : Nat) (r : Ramp) (s u : State), s.advance t = u ∧ u.emit_.down = some r ∧ r.step < 2000 ∧ r.at_ + us (10 * (r.step + 1)) ≤ u.now) ∧
    (∃ (t : Nat) (r : Ramp) (s u : State), s.advance t = u ∧ u.emit_.down = some r ∧ r.at_ + ms 20 ≤ u.now) ∧
    (∃ (t : Nat) (s u : State), s.advance t = u ∧ u.fld Reg.EMIT_STAT 0 3 = 5 ∧ u.emit_.seqAt + ms 70 ≤ u.now) :=
  ⟨⟨0,
    { (stand Mode.IDLE) with mode := { cur := some { target := Mode.SHOW, seq := 3, source := 0, local_ := true, frm := Mode.BIND_OFF, accepted := 0, frame := none, stage := .powerUp } } },
    _, rfl, by decide +kernel⟩,
   ⟨0, ((stand Mode.IDLE).setNat Reg.EMIT_STAT 1), _, rfl, by decide +kernel⟩,
   ⟨0, ⟨List.replicate 48 5, 4998, 5⟩, { stand Mode.IDLE with emit_ := { up := some ((⟨List.replicate 48 5, 4998, 5⟩ : Ramp)) } }, _, rfl,
     by decide +kernel⟩,
   ⟨0, ⟨List.replicate 48 5, 4999, 5⟩, { stand Mode.IDLE with emit_ := { up := some ((⟨List.replicate 48 5, 4999, 5⟩ : Ramp)) } }, _, rfl,
     by decide +kernel⟩,
   ⟨0, ⟨List.replicate 48 5, 1999, 5⟩, { stand Mode.IDLE with emit_ := { down := some ((⟨List.replicate 48 5, 1999, 5⟩ : Ramp)) } }, _, rfl,
     by decide +kernel⟩,
   ⟨0, ⟨List.replicate 48 5, 2000, 5⟩, { stand Mode.IDLE with emit_ := { down := some ((⟨List.replicate 48 5, 2000, 5⟩ : Ramp)) } }, _, rfl,
     by decide +kernel⟩,
   ⟨0, ((panel (stand Mode.IDLE)).setNat Reg.EMIT_STAT 5), _, rfl, by decide +kernel⟩⟩

theorem witness_SamplesProbesAndStrip :
    (∃ (t v : Nat) (k : Fin 48) (s u : State), s.advance t = u ∧ u.irefOwned k = true ∧ u.fld (Reg.EMIT_IREF_STAT k) 0 14 ≠ 0 ∧ 300 ≤ v ∧ v ≤ 3000) ∧
    (∃ (t v : Nat) (k : Fin 48) (s u : State), s.advance t = u ∧ u.irefOwned k = true ∧ u.fld (Reg.EMIT_IREF_STAT k) 0 14 ≠ 0 ∧ 300 ≤ v ∧ v ≤ 3000) ∧
    (∃ (t v : Nat) (k : Fin 48) (s u : State), s.advance t = u ∧ u.irefOwned k = true ∧ u.fld (Reg.EMIT_IREF_STAT k) 0 14 ≠ 0 ∧ (v < 300 ∨ 3000 < v)
      ∧ mapGet u.emit_.comp k = some 2 ∧ u.bit (Reg.EMIT_IREF_STAT k) 25 = false) ∧
    (∃ (t v : Nat) (k : Fin 48) (s u : State), s.advance t = u ∧ u.irefOwned k = true ∧ u.fld (Reg.EMIT_IREF_STAT k) 0 14 ≠ 0 ∧ (v < 300 ∨ 3000 < v)
      ∧ mapGet u.emit_.comp k = some 2 ∧ u.bit (Reg.EMIT_IREF_STAT k) 25 = false) ∧
    (∃ (t : Nat) (k : Fin 16) (s u : State), s.advance t = u ∧ u.bit Reg.EMIT_THM_EN k = true ∧ (u.thm k).since.isSome = true) ∧
    (∃ (r : Nat) (k : Fin 16) (a b : Nat × Int) (m : Int) (u : State), (u.thm k).samples = [a, b] ∧ -10240 ≤ m ∧ m ≤ 32000 ∧ (median3 (fun p q : Int
      => decide (p ≤ q)) a.2 b.2 (thmTemp r (1000 * u.fld Reg.EMIT_THM_CFG 16 8) (u.fld Reg.EMIT_THM_CFG 0 16)) = m)) ∧
    (∃ (t c : Nat) (k : Fin 16) (s u : State), s.advance t = u ∧ (u.thm k).since = some c ∧ c + ms 100 ≤ u.now ∧ ((u.sameCycle
      fun i => match i with | .thmSample _ j _ => j == k | _ => false) = false) ∧ (u.thm k).samples.length = 3 ∧ (u.thm k).faulted = false) ∧
    (∃ (t id seg c : Nat) (k : Fin 128) (s u : State), s.advance t = u ∧ (u.tileState k).probe = some (id, seg, c) ∧ c + us 100 ≤ u.now ∧ u.probeNow
      k id = false) ∧
    (∃ (t : Nat) (req : Requester) (s u : State), s.advance t = u ∧ u.accepts req Reg.EMIT_STRIP_CTL 1) ∧
    (∃ (t i : Nat) (req : Requester) (w : Word) (s u : State), s.advance t = u ∧ u.accepts req (Reg.EMIT_STRIP_BUF (i % 65536)) w) ∧
    (∃ (t : Nat) (s u v : State), s.advance t = u ∧ u.modeCode = Mode.STRIP ∧ u.emitSequence = false ∧ ((u.each (List.range 16) fun w z =>
      w.applyBand z (w.zone z).band (w.zone z).moveTemp (w.nat Reg.SCAN_FRAME)) = v)) ∧
    (∃ (t : Nat) (s u v : State), s.advance t = u ∧ u.modeCode = Mode.STRIP ∧ u.emitSequence = false ∧ ((u.each (List.range 16) fun w z =>
      w.applyBand z (w.zone z).band (w.zone z).moveTemp (w.nat Reg.SCAN_FRAME)) = v)) ∧
    (∃ (z k : Nat), z < 16 ∧ k < 8) ∧
    (∃ (z k : Nat), z < 16 ∧ k < 8) :=
  ⟨⟨0, 300, 0, ((((panel (stand Mode.IDLE)).setBit Reg.EMIT_OWN 0 true).setNat (Reg.EMIT_IREF_STAT 0) 5)), _, rfl, by decide +kernel⟩,
   ⟨0, 3000, 0, ((((panel (stand Mode.IDLE)).setBit Reg.EMIT_OWN 0 true).setNat (Reg.EMIT_IREF_STAT 0) 5)), _, rfl, by decide +kernel⟩,
   ⟨0, 299, 0, { (((panel (stand Mode.IDLE)).setBit Reg.EMIT_OWN 0 true).setNat (Reg.EMIT_IREF_STAT 0) 5) with emit_ := { comp := [(0, 2)] } }, _,
     rfl, by decide +kernel⟩,
   ⟨0, 3001, 0, { (((panel (stand Mode.IDLE)).setBit Reg.EMIT_OWN 0 true).setNat (Reg.EMIT_IREF_STAT 0) 5) with emit_ := { comp := [(0, 2)] } }, _,
     rfl, by decide +kernel⟩,
   ⟨0, 0, (((stand Mode.IDLE).setBit Reg.EMIT_THM_EN 0 true).setThm 0 { since := some 0 }), _, rfl, by decide +kernel⟩,
   ⟨10000, 0, ((10000, 6400)), ((10000, 6400)), 6400, ((stand Mode.IDLE).setThm 0 { samples := [(10000, 6400), (10000, 6400)] }), by decide +kernel⟩,
   ⟨0, 0, 0, ((stand Mode.IDLE).setThm 0 { since := some 0, samples := [(1, 2), (1, 2), (1, 2)] }), _, rfl, by decide +kernel⟩,
   ⟨0, 1, 2, 0, 0, ((panel (stand Mode.IDLE)).setTile 0 { probe := some (1, 2, 0) }), _, rfl, by decide +kernel⟩,
   ⟨0, .host, (stand Mode.STRIP), _, rfl, by decide +kernel⟩,
   ⟨0, 3, .host, 7, (stand Mode.STRIP), _, rfl, by decide +kernel⟩,
   ⟨0, ((stand Mode.STRIP).setNat Reg.EMIT_STAT 0), _, _, rfl, by decide +kernel, by decide +kernel, rfl⟩,
   ⟨0, ((stand Mode.STRIP).setNat Reg.EMIT_STAT 3), _, _, rfl, by decide +kernel, by decide +kernel, rfl⟩,
   ⟨15, 7, by decide +kernel⟩,
   ⟨0, 0, by decide +kernel⟩⟩

theorem witness_HbmReadsWhatWasWritten :
    (∃ (k : Nat) (bs : List Byte), k < bs.length) ∧
    (∃ (a b : Nat) (bs : List Byte), (b < a ∨ a + bs.length ≤ b)) ∧
    (∃ (a b : Nat) (bs : List Byte), (b < a ∨ a + bs.length ≤ b)) :=
  ⟨⟨1, [3, 4], by decide +kernel⟩,
   ⟨7, 6, [3, 4], by decide +kernel⟩,
   ⟨7, 9, [3, 4], by decide +kernel⟩⟩

theorem witness_ClearLostClearsItsRange :
    ∃ (t : Nat) (req : Requester) (s u : State), s.advance t = u ∧ u.accepts req Reg.HBM_CTL 1 :=
  ⟨0, .host, (stand Mode.IDLE), _, rfl, by decide +kernel⟩

theorem witness_HbmControlCommands :
    (∃ (t : Nat) (req : Requester) (s u : State), s.advance t = u ∧ u.accepts req Reg.HBM_CTL 2) ∧
    (∃ (t : Nat) (req : Requester) (s u : State), s.advance t = u ∧ u.accepts req Reg.HBM_CTL 2) ∧
    (∃ (t : Nat) (s u : State), s.advance t = u ∧ u.bit Reg.HBM_STAT 7 = true ∧ u.hbm.tags = []) ∧
    (∃ (t : Nat) (req : Requester) (s u : State), s.advance t = u ∧ u.accepts req Reg.HBM_CTL 4) :=
  ⟨⟨0, .host, (stand Mode.IDLE), _, rfl, by decide +kernel⟩,
   ⟨0, .host, (stand Mode.SERVICE), _, rfl, by decide +kernel⟩,
   ⟨0, ((stand Mode.SERVICE).setBit Reg.HBM_STAT 7 true), _, rfl, by decide +kernel⟩,
   ⟨0, .host, (stand Mode.IDLE), _, rfl, by decide +kernel⟩⟩

theorem witness_RefreshAndErrorsOfAChannel :
    (∃ (t : Nat) (s u : State), s.advance t = u ∧ u.selfRefresh = false) ∧
    (∃ (t : Nat) (s u : State), s.advance t = u ∧ u.selfRefresh = false) ∧
    (∃ (t : Nat) (s u : State), s.advance t = u ∧ u.selfRefresh = false) ∧
    (∃ (t : Nat) (s u : State), s.advance t = u) ∧
    (∃ (t : Nat) (s u : State), s.advance t = u) ∧
    (∃ (t : Nat) (s u : State), s.advance t = u ∧ u.hbm.alerts = []) ∧
    (∃ (t : Nat) (p : Fin 16) (s u v : State), s.advance t = u ∧ (u.alertsOf (p.val / 2)).length = 3 ∧ ((u.alertsOf (p.val / 2)).all (fun x => x.2 ==
      p.val) = true) ∧ ((let w := (u.incFld (Reg.HBM_PC_STAT p) 28 4 1).reissue (p.val / 2)
      { w with hbm := { w.hbm with alerts := w.hbm.alerts.filter fun x => x.2 / 2 != p.val / 2 } }) = v)) :=
  ⟨⟨0, (hbmUp Mode.IDLE), _, rfl, by decide +kernel⟩,
   ⟨0, { hbmUp Mode.IDLE with hbm := { (hbmUp Mode.IDLE).hbm with migr := some ⟨2, 1, false, 0, 0, 0⟩, postponed := List.replicate 16 7 } }, _, rfl,
     by decide +kernel⟩,
   ⟨0, { hbmUp Mode.IDLE with hbm := { (hbmUp Mode.IDLE).hbm with migr := some ⟨2, 1, false, 0, 0, 0⟩, postponed := List.replicate 16 8 } }, _, rfl,
     by decide +kernel⟩,
   ⟨0, (hbmUp Mode.IDLE), _, rfl⟩,
   ⟨0, (hbmUp Mode.IDLE), _, rfl⟩,
   ⟨0, (hbmUp Mode.IDLE), _, rfl, by decide +kernel⟩,
   ⟨0, 3,
     { hbmUp Mode.IDLE with hbm := { (hbmUp Mode.IDLE).hbm with alerts := List.replicate 3 ((hbmUp Mode.IDLE).now, 3) ++ [((hbmUp Mode.IDLE).now, 4)] } },
     _, _, rfl, by decide +kernel, by decide +kernel, rfl⟩⟩

theorem witness_MigrationAndScrub :
    (∃ (t : Nat) (m : Migration) (s u : State), s.advance t = u ∧ u.hbm.migr = some m ∧ m.donor = false ∧ m.page + 1 ≠ u.pagesPerPc) ∧
    (∃ (t : Nat) (m : Migration) (s u : State), s.advance t = u ∧ u.hbm.migr = some m ∧ m.donor = true ∧ m.page + 1 = u.rowsUse ∧ u.hbm.waiting = [])
      ∧
    (∃ (t : Nat) (s u v : State), s.advance t = u ∧ u.bit Reg.HBM_SCRUB_CFG 8 = true ∧ u.selfRefresh = false ∧ u.domainOn 55 = true ∧ u.slots ≠ 0 ∧
      u.hbm.scrubLine + 1 < 65536 ∧ { u with hbm := { u.hbm with scrubWait := some u.now, scrubLine := u.hbm.scrubLine + 1 } } = v) ∧
    (∃ (t : Nat) (s u v : State), s.advance t = u ∧ u.bit Reg.HBM_SCRUB_CFG 8 = true ∧ u.selfRefresh = false ∧ u.domainOn 55 = true ∧ u.slots ≠ 0 ∧
      u.hbm.scrubLine + 1 < 65536 ∧ { u with hbm := { u.hbm with scrubWait := some u.now, scrubLine := u.hbm.scrubLine + 1 } } = v) ∧
    (∃ (t c : Nat) (s u : State), s.advance t = u ∧ u.selfRefresh = false ∧ u.domainOn 55 = true ∧ u.deferral = some c ∧ ms 100 ≤ c ∧ ((u.sameCycle
      fun i => match i with | .scrubRead _ _ => true | _ => false) = false) ∧ limited u.hbm.scrubForced (ms 10000) u.now = false) :=
  ⟨⟨0, ⟨2, 1, false, 0, 0, 0⟩, { hbmUp Mode.IDLE with hbm := { migr := some ((⟨2, 1, false, 0, 0, 0⟩ : Migration)) } }, _, rfl, by decide +kernel⟩,
   ⟨0, ⟨2, 1, true, 7, 0, 0⟩, { hbmUp Mode.IDLE with hbm := { migr := some ((⟨2, 1, true, 7, 0, 0⟩ : Migration)) } }, _, rfl, by decide +kernel⟩,
   ⟨0, { (hbmUp Mode.IDLE).setBit Reg.HBM_SCRUB_CFG 8 true with hbm := { (hbmUp Mode.IDLE).hbm with scrubPass := 0 } }, _, _, rfl, by decide +kernel,
     by decide +kernel, by decide +kernel, by decide +kernel, by decide +kernel, rfl⟩,
   ⟨0, { (hbmUp Mode.IDLE).setBit Reg.HBM_SCRUB_CFG 8 true with hbm := { (hbmUp Mode.IDLE).hbm with scrubPass := 1440000000005 } }, _, _, rfl,
     by decide +kernel, by decide +kernel, by decide +kernel, by decide +kernel, by decide +kernel, rfl⟩,
   ⟨0, (((({ (hbmUp Mode.IDLE).setBit Reg.HBM_SCRUB_CFG 8 true with hbm := { (hbmUp Mode.IDLE).hbm with scrubPass := -9, scrubWait := some 0 } } :
     State))).now),
     { (hbmUp Mode.IDLE).setBit Reg.HBM_SCRUB_CFG 8 true with hbm := { (hbmUp Mode.IDLE).hbm with scrubPass := -9, scrubWait := some 0 } }, _, rfl,
     by decide +kernel⟩⟩

theorem witness_HankJobsQueueAndEnd :
    (∃ (t e : Nat) (req : Requester) (s u : State), s.advance t = u ∧ u.accepts req Reg.HANK_JOB_SUBMIT 1 ∧ u.admitJob u.hostJob (u.fld
      Reg.HANK_JOB_CTL 1 3) = .ok e) ∧
    (∃ (t st : Nat) (req : Requester) (s u : State), s.advance t = u ∧ u.accepts req Reg.HANK_JOB_SUBMIT 1 ∧ u.admitJob u.hostJob (u.fld
      Reg.HANK_JOB_CTL 1 3) = .error st) ∧
    (∃ (t : Nat) (e : Fin 6) (j : HankJob) (s u : State), s.advance t = u ∧ (u.engine e).run = some j) ∧
    (∃ (j : HankJob) (r : JobEnd), j.seq < 65536 ∧ r.err = none) ∧
    (∃ (j : HankJob) (u : State), (j.len = 0 ∨ u.usable < j.src + j.len ∨ u.usable < j.dst + j.cap)) ∧
    (∃ (j : HankJob) (u : State), (j.len = 0 ∨ u.usable < j.src + j.len ∨ u.usable < j.dst + j.cap)) ∧
    (∃ (j : HankJob) (u : State), (j.len = 0 ∨ u.usable < j.src + j.len ∨ u.usable < j.dst + j.cap)) :=
  ⟨⟨0, 0, .host, (((hbmUp Mode.IDLE).setNat Reg.HANK_JOB_LEN 64).setNat Reg.HANK_JOB_CAP 64), _, rfl, by decide +kernel, rfl⟩,
   ⟨0, 4, .host, (hbmUp Mode.IDLE), _, rfl, by decide +kernel, rfl⟩,
   ⟨0, 0, { who := .host }, { hbmUp Mode.IDLE with hank := { engines := [{ run := some (({ who := .host } : HankJob)) }, {}, {}, {}, {}, {}] } }, _,
     rfl, by decide +kernel⟩,
   ⟨{ who := .host, seq := 65535 }, { bytes := [] }, by decide +kernel⟩,
   ⟨{ who := .host }, (hbmUp Mode.IDLE), by decide +kernel⟩,
   ⟨{ who := .host, len := 8, src := 33554425 }, (hbmUp Mode.IDLE), by decide +kernel⟩,
   ⟨{ who := .host, len := 8, cap := 8, dst := 33554425 }, (hbmUp Mode.IDLE), by decide +kernel⟩⟩

theorem witness_BlitCommandsQueueIssueAndEnd :
    (∃ (t : Nat) (req : Requester) (s u : State), s.advance t = u ∧ u.accepts req Reg.NEEDLE_SUBMIT 1 ∧ u.captured.check (decide (64 ≤
      u.needle.queue.length) && !u.headLeaves) u.usable u.venueBase = 0) ∧
    (∃ (t r : Nat) (req : Requester) (s u : State), s.advance t = u ∧ u.accepts req Reg.NEEDLE_SUBMIT 1 ∧ u.captured.check (decide (64 ≤
      u.needle.queue.length) && !u.headLeaves) u.usable u.venueBase = r ∧ r ≠ 0) ∧
    (∃ (t k : Nat) (c : NeedleCmd) (s u : State), s.advance t = u ∧ u.needle.queue = [c] ∧ c.frog = false ∧ u.freeSlot = some k ∧ ((u.holding.any fun
      r => conflicts c r.cmd) = false)) ∧
    (∃ (t k : Nat) (c : NeedleCmd) (s u : State), s.advance t = u ∧ u.needle.queue = [c] ∧ c.frog = false ∧ u.freeSlot = some k ∧ ((u.holding.any fun
      r => conflicts c r.cmd) = true)) ∧
    (∃ (t k : Nat) (r : NeedleRun) (s u : State), s.advance t = u ∧ u.needleRun k = some r ∧ u.lostSource r.cmd = none ∧ r.frogBy = none) ∧
    (∃ (t k : Nat) (r : NeedleRun) (s u : State), s.advance t = u ∧ u.needleRun k = some r) ∧
    (∃ (t k f : Nat) (r : NeedleRun) (s u : State), s.advance t = u ∧ u.needleRun k = some r ∧ r.frogBy = some f) ∧
    (∃ (c : NeedleCmd), c.seq < 65536) ∧
    (∃ (c : NeedleCmd), c.seq < 65536) :=
  ⟨⟨0, .host, (hbmUp Mode.IDLE), _, rfl, by decide +kernel⟩,
   ⟨0, 3, .host, (((((hbmUp Mode.IDLE).setNat Reg.NEEDLE_DST_SIZE 0x100010).setNat Reg.NEEDLE_DST_PITCH 1024).setNat Reg.NEEDLE_SRC_WH 0x80008)), _,
     rfl, by decide +kernel⟩,
   ⟨0, 0, ((((((hbmUp Mode.IDLE).setNat Reg.NEEDLE_DST_SIZE 0x100010).setNat Reg.NEEDLE_DST_PITCH 1024).setNat Reg.NEEDLE_SRC_WH 0x80008)).captured),
     { hbmUp Mode.IDLE with needle := { queue := [((((((hbmUp Mode.IDLE).setNat Reg.NEEDLE_DST_SIZE 0x100010).setNat Reg.NEEDLE_DST_PITCH 1024).setNat Reg.NEEDLE_SRC_WH 0x80008)).captured)] } },
     _, rfl, by decide +kernel⟩,
   ⟨0, 1, ((((((hbmUp Mode.IDLE).setNat Reg.NEEDLE_DST_SIZE 0x100010).setNat Reg.NEEDLE_DST_PITCH 1024).setNat Reg.NEEDLE_SRC_WH 0x80008)).captured),
     { hbmUp Mode.IDLE with needle := { queue := [((((((hbmUp Mode.IDLE).setNat Reg.NEEDLE_DST_SIZE 0x100010).setNat Reg.NEEDLE_DST_PITCH 1024).setNat Reg.NEEDLE_SRC_WH 0x80008)).captured)], runs := [{ slot := 0, cmd := ((((((hbmUp Mode.IDLE).setNat Reg.NEEDLE_DST_SIZE 0x100010).setNat Reg.NEEDLE_DST_PITCH 1024).setNat Reg.NEEDLE_SRC_WH 0x80008)).captured) }] } },
     _, rfl, by decide +kernel⟩,
   ⟨0, 0,
     { slot := 0, cmd := (((((hbmUp Mode.IDLE).setNat Reg.NEEDLE_DST_SIZE 0x100010).setNat Reg.NEEDLE_DST_PITCH 1024).setNat Reg.NEEDLE_SRC_WH 0x80008)).captured },
     { hbmUp Mode.IDLE with needle := { runs := [(({ slot := 0, cmd := (((((hbmUp Mode.IDLE).setNat Reg.NEEDLE_DST_SIZE 0x100010).setNat Reg.NEEDLE_DST_PITCH 1024).setNat Reg.NEEDLE_SRC_WH 0x80008)).captured } : NeedleRun))] } },
     _, rfl, by decide +kernel⟩,
   ⟨0, 0,
     { slot := 0, cmd := (((((hbmUp Mode.IDLE).setNat Reg.NEEDLE_DST_SIZE 0x100010).setNat Reg.NEEDLE_DST_PITCH 1024).setNat Reg.NEEDLE_SRC_WH 0x80008)).captured },
     { hbmUp Mode.IDLE with needle := { runs := [(({ slot := 0, cmd := (((((hbmUp Mode.IDLE).setNat Reg.NEEDLE_DST_SIZE 0x100010).setNat Reg.NEEDLE_DST_PITCH 1024).setNat Reg.NEEDLE_SRC_WH 0x80008)).captured } : NeedleRun))] } },
     _, rfl, by decide +kernel⟩,
   ⟨0, 0, 9,
     { slot := 0, cmd := (((((hbmUp Mode.IDLE).setNat Reg.NEEDLE_DST_SIZE 0x100010).setNat Reg.NEEDLE_DST_PITCH 1024).setNat Reg.NEEDLE_SRC_WH 0x80008)).captured, frogBy := some 9 },
     { hbmUp Mode.IDLE with needle := { runs := [(({ slot := 0, cmd := (((((hbmUp Mode.IDLE).setNat Reg.NEEDLE_DST_SIZE 0x100010).setNat Reg.NEEDLE_DST_PITCH 1024).setNat Reg.NEEDLE_SRC_WH 0x80008)).captured, frogBy := some 9 } : NeedleRun))] } },
     _, rfl, by decide +kernel⟩,
   ⟨((((((hbmUp Mode.IDLE).setNat Reg.NEEDLE_DST_SIZE 0x100010).setNat Reg.NEEDLE_DST_PITCH 1024).setNat Reg.NEEDLE_SRC_WH 0x80008)).captured),
     by decide +kernel⟩,
   ⟨((((((hbmUp Mode.IDLE).setNat Reg.NEEDLE_DST_SIZE 0x100010).setNat Reg.NEEDLE_DST_PITCH 1024).setNat Reg.NEEDLE_SRC_WH 0x80008)).captured),
     by decide +kernel⟩⟩

theorem witness_StorePlayback :
    (∃ (t : Nat) (req : Requester) (s u : State), s.advance t = u ∧ u.accepts req Reg.STORE_CTL 1 ∧ fullMode u.modeCode = true ∧ u.ready = true ∧
      u.store.skein = none ∧ u.store.run = none ∧ u.volumeUp (u.fld Reg.STORE_PLAY 0 11) = true) ∧
    (∃ (t : Nat) (req : Requester) (k : Skein) (s u : State), s.advance t = u ∧ u.accepts req Reg.STORE_CTL 2 ∧ u.store.skein = some k) ∧
    (∃ (t : Nat) (req : Requester) (k : Skein) (s u : State), s.advance t = u ∧ u.accepts req Reg.STORE_CTL 2 ∧ u.store.skein = some k) ∧
    (∃ (t : Nat) (req : Requester) (s u : State), s.advance t = u ∧ u.accepts req Reg.STORE_CTL 4) ∧
    (∃ (t : Nat) (req : Requester) (s u : State), s.advance t = u ∧ u.accepts req Reg.STORE_CTL 4) ∧
    (∃ (t : Nat) (r : OpenRun) (s u : State), s.advance t = u ∧ u.store.run = some r ∧ r.next 256 = none ∧ ((u.store.inflight.any fun c => c.why ==
      .open_) = false) ∧ u.openReason r ≠ 0 ∧ r.cue = none) ∧
    (∃ (t : Nat) (k : Skein) (q : Sequence) (s u : State), s.advance t = u ∧ u.store.skein = some k ∧ u.store.seq = some q ∧ (((u.readyPositions k
      q).all fun p => u.store.ring.any fun r => r.gen == q.gen && r.pos == p) = true) ∧ u.cue.skein = none) ∧
    (∃ (t : Nat) (p : Prep) (r : RingRecord) (s u : State), s.advance t = u ∧ u.store.prep = some p ∧ p.missing = false ∧ p.late = false ∧ p.done =
      false ∧ p.jobs = [] ∧ ((u.store.ring.find? fun x => x.gen == p.gen && x.pos == p.pos) = some r) ∧ r.plies = [] ∧ u.prepTooLate = false ∧
      u.alone) ∧
    (∃ (t l k : Nat) (p : Prep) (s u : State), s.advance t = u ∧ u.store.prep = some p ∧ u.nextLatch = some (l, k) ∧ p.missing = false ∧ p.late =
      false ∧ p.done = false ∧ u.prepArrives p = false ∧ l ≤ u.now + us 30) :=
  ⟨⟨0, .host, (((stand Mode.IDLE).setBit Reg.STORE_CFG 0 true).setNat (Reg.STORE_DRV_STAT 0) 2), _, rfl, by decide +kernel⟩,
   ⟨0, .host, ⟨2, 60, 100, 0, 10, 1, [], []⟩, { stand Mode.SHOW with store := { skein := some ((⟨2, 60, 100, 0, 10, 1, [], []⟩ : Skein)) } }, _, rfl,
     by decide +kernel⟩,
   ⟨0, .host, ⟨2, 60, 100, 0, 10, 1, [], []⟩, { stand Mode.SHOW with store := { skein := some ((⟨2, 60, 100, 0, 10, 1, [], []⟩ : Skein)) } }.setNat
     Reg.STORE_PLAY_FRAME 0, _, rfl, by decide +kernel⟩,
   ⟨0, .host, (stand Mode.SHOW), _, rfl, by decide +kernel⟩,
   ⟨0, .host, (stand Mode.IDLE), _, rfl, by decide +kernel⟩,
   ⟨0, { skein := 0, play := none, cue := none, failed := true },
     { stand Mode.IDLE with store := { run := some (({ skein := 0, play := none, cue := none, failed := true } : OpenRun)) } }, _, rfl,
     by decide +kernel⟩,
   ⟨0, ⟨2, 60, 100, 0, 10, 1, [], []⟩, { gen := 0, f0 := 0, rap := 0 },
     { stand Mode.SHOW with store := { skein := some ((⟨2, 60, 100, 0, 10, 1, [], []⟩ : Skein)), seq := some (({ gen := 0, f0 := 0, rap := 0 } : Sequence)), ring := (List.range 300).map fun n => ⟨0, n, 0, 0, 0, []⟩ } },
     _, rfl, by decide +kernel⟩,
   ⟨0, { gen := 0, pos := 0, frame := 0, jobs := [], missing := false }, ⟨0, 0, 0, 0, 0, []⟩,
     { showing Mode.SHOW with now := 5, store := { prep := some (({ gen := 0, pos := 0, frame := 0, jobs := [], missing := false } : Prep)), ring := [((⟨0, 0, 0, 0, 0, []⟩ : RingRecord))] } },
     _, rfl, by decide +kernel⟩,
   ⟨0, (nextL
     (({ showing Mode.SHOW with now := 3990000, store := { prep := some (({ gen := 0, pos := 0, frame := 0, jobs := [], missing := false } : Prep)) } }
     : State))), (nextK
     (({ showing Mode.SHOW with now := 3990000, store := { prep := some (({ gen := 0, pos := 0, frame := 0, jobs := [], missing := false } : Prep)) } }
     : State))), { gen := 0, pos := 0, frame := 0, jobs := [], missing := false },
     { showing Mode.SHOW with now := 3990000, store := { prep := some (({ gen := 0, pos := 0, frame := 0, jobs := [], missing := false } : Prep)) } },
     _, rfl, by decide +kernel⟩⟩

theorem witness_StoreDrives :
    (∃ (t cid : Nat) (d : Fin 2) (c : NvmeCmd) (s u v : State), s.advance t = u ∧ u.nvmeTake d cid = some (c, v)) ∧
    (∃ (t cid st : Nat) (d : Fin 2) (c : NvmeCmd) (s u v : State), s.advance t = u ∧ u.nvmeTake d cid = some (c, v) ∧ st ≠ 0) ∧
    (∃ (t cid : Nat) (d : Fin 2) (c : NvmeCmd) (s u v : State), s.advance t = u ∧ u.nvmeTake d cid = some (c, v) ∧ ((u.sameCycle
      fun i => match i with | .nvmeCompletion _ e k _ _ => e == d && k == cid | _ => false) = false) ∧ c.submitted + ms 2000 ≤ u.now) ∧
    (∃ (t : Nat) (d : Fin 2) (s u : State), s.advance t = u ∧ u.fld (Reg.STORE_DRV_STAT d) 0 2 = 2) ∧
    (∃ (d cid : Nat) (c : NvmeCmd) (u v : State), u.nvmeTake d cid = some (c, v)) ∧
    (∃ (t op bytes m k : Nat) (i : Instr) (req : Requester) (w x : Word) (s u : State), s.advance t = u ∧ (i, op) ∈ [(Instr.storeXferRead t req w,
      1), (.storeXferWrite t req w, 2), (.storeXferFlush t req w, 3), (.storeXferDeallocate t req w, 4), (.storeXferSmartLog t req w, 5)] ∧ u.accepts
      req Reg.STORE_XFER_CMD (w.put 0 3 op) ∧ x = w.put 0 3 op &&& writeMask Reg.STORE_XFER_CMD ∧ bytes = (if op ≤ 2 then 4096 * (x.field 8 8 + 1)
      else if op = 5 then 512 else 0) ∧ u.xferReason op (x.field 3 1) (u.nat Reg.STORE_XFER_LBA + x.field 4 1 * 2 ^ 32) (x.field 8 8 + 1) (u.fld
      Reg.STORE_XFER_HBM 0 23 * 4096) bytes = 0 ∧ m = (if op = 2 ∧ u.bit Reg.STORE_CFG 2 = true then min (u.lbaLimit 0) (u.lbaLimit 1) else
      u.store.maxLbas[x.field 3 1]?.getD 256) ∧ (k = (if (op = 2 ∨ op = 4) ∧ u.bit Reg.STORE_CFG 2 = true then 2 else 1) * (if op ≤ 2 then ceilDiv
      (x.field 8 8 + 1) m else 1))) ∧
    (∃ (t op bytes m k : Nat) (i : Instr) (req : Requester) (w x : Word) (s u : State), s.advance t = u ∧ (i, op) ∈ [(Instr.storeXferRead t req w,
      1), (.storeXferWrite t req w, 2), (.storeXferFlush t req w, 3), (.storeXferDeallocate t req w, 4), (.storeXferSmartLog t req w, 5)] ∧ u.accepts
      req Reg.STORE_XFER_CMD (w.put 0 3 op) ∧ x = w.put 0 3 op &&& writeMask Reg.STORE_XFER_CMD ∧ bytes = (if op ≤ 2 then 4096 * (x.field 8 8 + 1)
      else if op = 5 then 512 else 0) ∧ u.xferReason op (x.field 3 1) (u.nat Reg.STORE_XFER_LBA + x.field 4 1 * 2 ^ 32) (x.field 8 8 + 1) (u.fld
      Reg.STORE_XFER_HBM 0 23 * 4096) bytes = 0 ∧ m = (if op = 2 ∧ u.bit Reg.STORE_CFG 2 = true then min (u.lbaLimit 0) (u.lbaLimit 1) else
      u.store.maxLbas[x.field 3 1]?.getD 256) ∧ (k = (if (op = 2 ∨ op = 4) ∧ u.bit Reg.STORE_CFG 2 = true then 2 else 1) * (if op ≤ 2 then ceilDiv
      (x.field 8 8 + 1) m else 1))) ∧
    (∃ (t op bytes m k : Nat) (i : Instr) (req : Requester) (w x : Word) (s u : State), s.advance t = u ∧ (i, op) ∈ [(Instr.storeXferRead t req w,
      1), (.storeXferWrite t req w, 2), (.storeXferFlush t req w, 3), (.storeXferDeallocate t req w, 4), (.storeXferSmartLog t req w, 5)] ∧ u.accepts
      req Reg.STORE_XFER_CMD (w.put 0 3 op) ∧ x = w.put 0 3 op &&& writeMask Reg.STORE_XFER_CMD ∧ bytes = (if op ≤ 2 then 4096 * (x.field 8 8 + 1)
      else if op = 5 then 512 else 0) ∧ u.xferReason op (x.field 3 1) (u.nat Reg.STORE_XFER_LBA + x.field 4 1 * 2 ^ 32) (x.field 8 8 + 1) (u.fld
      Reg.STORE_XFER_HBM 0 23 * 4096) bytes = 0 ∧ m = (if op = 2 ∧ u.bit Reg.STORE_CFG 2 = true then min (u.lbaLimit 0) (u.lbaLimit 1) else
      u.store.maxLbas[x.field 3 1]?.getD 256) ∧ (k = (if (op = 2 ∨ op = 4) ∧ u.bit Reg.STORE_CFG 2 = true then 2 else 1) * (if op ≤ 2 then ceilDiv
      (x.field 8 8 + 1) m else 1))) ∧
    (∃ (t op bytes m k : Nat) (i : Instr) (req : Requester) (w x : Word) (s u : State), s.advance t = u ∧ (i, op) ∈ [(Instr.storeXferRead t req w,
      1), (.storeXferWrite t req w, 2), (.storeXferFlush t req w, 3), (.storeXferDeallocate t req w, 4), (.storeXferSmartLog t req w, 5)] ∧ u.accepts
      req Reg.STORE_XFER_CMD (w.put 0 3 op) ∧ x = w.put 0 3 op &&& writeMask Reg.STORE_XFER_CMD ∧ bytes = (if op ≤ 2 then 4096 * (x.field 8 8 + 1)
      else if op = 5 then 512 else 0) ∧ u.xferReason op (x.field 3 1) (u.nat Reg.STORE_XFER_LBA + x.field 4 1 * 2 ^ 32) (x.field 8 8 + 1) (u.fld
      Reg.STORE_XFER_HBM 0 23 * 4096) bytes = 0 ∧ m = (if op = 2 ∧ u.bit Reg.STORE_CFG 2 = true then min (u.lbaLimit 0) (u.lbaLimit 1) else
      u.store.maxLbas[x.field 3 1]?.getD 256) ∧ (k = (if (op = 2 ∨ op = 4) ∧ u.bit Reg.STORE_CFG 2 = true then 2 else 1) * (if op ≤ 2 then ceilDiv
      (x.field 8 8 + 1) m else 1))) ∧
    (∃ (t op bytes m k : Nat) (i : Instr) (req : Requester) (w x : Word) (s u : State), s.advance t = u ∧ (i, op) ∈ [(Instr.storeXferRead t req w,
      1), (.storeXferWrite t req w, 2), (.storeXferFlush t req w, 3), (.storeXferDeallocate t req w, 4), (.storeXferSmartLog t req w, 5)] ∧ u.accepts
      req Reg.STORE_XFER_CMD (w.put 0 3 op) ∧ x = w.put 0 3 op &&& writeMask Reg.STORE_XFER_CMD ∧ bytes = (if op ≤ 2 then 4096 * (x.field 8 8 + 1)
      else if op = 5 then 512 else 0) ∧ u.xferReason op (x.field 3 1) (u.nat Reg.STORE_XFER_LBA + x.field 4 1 * 2 ^ 32) (x.field 8 8 + 1) (u.fld
      Reg.STORE_XFER_HBM 0 23 * 4096) bytes = 0 ∧ m = (if op = 2 ∧ u.bit Reg.STORE_CFG 2 = true then min (u.lbaLimit 0) (u.lbaLimit 1) else
      u.store.maxLbas[x.field 3 1]?.getD 256) ∧ (k = (if (op = 2 ∨ op = 4) ∧ u.bit Reg.STORE_CFG 2 = true then 2 else 1) * (if op ≤ 2 then ceilDiv
      (x.field 8 8 + 1) m else 1))) ∧
    (∃ (t op bytes m k : Nat) (i : Instr) (req : Requester) (w x : Word) (s u : State), s.advance t = u ∧ (i, op) ∈ [(Instr.storeXferRead t req w,
      1), (.storeXferWrite t req w, 2), (.storeXferFlush t req w, 3), (.storeXferDeallocate t req w, 4), (.storeXferSmartLog t req w, 5)] ∧ u.accepts
      req Reg.STORE_XFER_CMD (w.put 0 3 op) ∧ x = w.put 0 3 op &&& writeMask Reg.STORE_XFER_CMD ∧ bytes = (if op ≤ 2 then 4096 * (x.field 8 8 + 1)
      else if op = 5 then 512 else 0) ∧ u.xferReason op (x.field 3 1) (u.nat Reg.STORE_XFER_LBA + x.field 4 1 * 2 ^ 32) (x.field 8 8 + 1) (u.fld
      Reg.STORE_XFER_HBM 0 23 * 4096) bytes = 0 ∧ m = (if op = 2 ∧ u.bit Reg.STORE_CFG 2 = true then min (u.lbaLimit 0) (u.lbaLimit 1) else
      u.store.maxLbas[x.field 3 1]?.getD 256) ∧ (k = (if (op = 2 ∨ op = 4) ∧ u.bit Reg.STORE_CFG 2 = true then 2 else 1) * (if op ≤ 2 then ceilDiv
      (x.field 8 8 + 1) m else 1))) ∧
    (∃ (t op bytes m k : Nat) (i : Instr) (req : Requester) (w x : Word) (s u : State), s.advance t = u ∧ (i, op) ∈ [(Instr.storeXferRead t req w,
      1), (.storeXferWrite t req w, 2), (.storeXferFlush t req w, 3), (.storeXferDeallocate t req w, 4), (.storeXferSmartLog t req w, 5)] ∧ u.accepts
      req Reg.STORE_XFER_CMD (w.put 0 3 op) ∧ x = w.put 0 3 op &&& writeMask Reg.STORE_XFER_CMD ∧ bytes = (if op ≤ 2 then 4096 * (x.field 8 8 + 1)
      else if op = 5 then 512 else 0) ∧ u.xferReason op (x.field 3 1) (u.nat Reg.STORE_XFER_LBA + x.field 4 1 * 2 ^ 32) (x.field 8 8 + 1) (u.fld
      Reg.STORE_XFER_HBM 0 23 * 4096) bytes = 0 ∧ m = (if op = 2 ∧ u.bit Reg.STORE_CFG 2 = true then min (u.lbaLimit 0) (u.lbaLimit 1) else
      u.store.maxLbas[x.field 3 1]?.getD 256) ∧ (k = (if (op = 2 ∨ op = 4) ∧ u.bit Reg.STORE_CFG 2 = true then 2 else 1) * (if op ≤ 2 then ceilDiv
      (x.field 8 8 + 1) m else 1))) ∧
    (∃ (t op st : Nat) (b : Bool) (s u : State), s.advance t = u ∧ u.store.xfer = some (op, 0, b, st) ∧ st < 65536) ∧
    (∃ (t op st : Nat) (b : Bool) (s u : State), s.advance t = u ∧ u.store.xfer = some (op, 0, b, st) ∧ st < 65536) :=
  ⟨⟨0, 3, 0, { drive := 0, cid := 3, op := 2, lba := 0, blocks := 1, addr := 0, why := .xfer, submitted := 0 },
    { stand Mode.IDLE with store := { inflight := [(({ drive := 0, cid := 3, op := 2, lba := 0, blocks := 1, addr := 0, why := .xfer, submitted := 0 } : NvmeCmd))], xfer := some (1, 1, false, 0) } },
    _, _, rfl, rfl⟩,
   ⟨0, 3, 5, 0, { drive := 0, cid := 3, op := 2, lba := 0, blocks := 1, addr := 0, why := .xfer, submitted := 0 },
     { stand Mode.IDLE with store := { inflight := [(({ drive := 0, cid := 3, op := 2, lba := 0, blocks := 1, addr := 0, why := .xfer, submitted := 0 } : NvmeCmd))], xfer := some (1, 1, false, 0) } },
     _, _, rfl, rfl, by decide +kernel⟩,
   ⟨0, 3, 0, { drive := 0, cid := 3, op := 2, lba := 0, blocks := 1, addr := 0, why := .xfer, submitted := 0 },
     { stand Mode.IDLE with store := { inflight := [(({ drive := 0, cid := 3, op := 2, lba := 0, blocks := 1, addr := 0, why := .xfer, submitted := 0 } : NvmeCmd))], xfer := some (1, 1, false, 0) } },
     _, _, rfl, rfl, by decide +kernel⟩,
   ⟨0, 0, ((stand Mode.IDLE).setNat (Reg.STORE_DRV_STAT 0) 2), _, rfl, by decide +kernel⟩,
   ⟨0, 3, { drive := 0, cid := 3, op := 2, lba := 0, blocks := 1, addr := 0, why := .xfer, submitted := 0 },
     { stand Mode.IDLE with store := { inflight := [(({ drive := 0, cid := 3, op := 2, lba := 0, blocks := 1, addr := 0, why := .xfer, submitted := 0 } : NvmeCmd))], xfer := some (1, 1, false, 0) } },
     _, rfl⟩,
   ⟨0, 1, ((if (1) ≤ 2 then 4096 * ((((0 : Word)).put 0 3 (1) &&& writeMask Reg.STORE_XFER_CMD).field 8 8 + 1) else if (1) = 5 then 512 else 0)),
     ((if (1) = 2 ∧ ((hbmUp Mode.IDLE)).bit Reg.STORE_CFG 2 = true then min (((hbmUp Mode.IDLE)).lbaLimit 0) (((hbmUp Mode.IDLE)).lbaLimit 1) else
     ((hbmUp Mode.IDLE)).store.maxLbas[(((0 : Word)).put 0 3 (1) &&& writeMask Reg.STORE_XFER_CMD).field 3 1]?.getD 256)), ((if ((1) = 2 ∨ (1) = 4) ∧
     ((hbmUp Mode.IDLE)).bit Reg.STORE_CFG 2 = true then 2 else 1) * (if (1) ≤ 2 then ceilDiv ((((0 : Word)).put 0 3 (1) &&& writeMask
     Reg.STORE_XFER_CMD).field 8 8 + 1) ((if (1) = 2 ∧ ((hbmUp Mode.IDLE)).bit Reg.STORE_CFG 2 = true then min (((hbmUp Mode.IDLE)).lbaLimit 0)
     (((hbmUp Mode.IDLE)).lbaLimit 1) else ((hbmUp Mode.IDLE)).store.maxLbas[(((0 : Word)).put 0 3 (1) &&& writeMask Reg.STORE_XFER_CMD).field 3
     1]?.getD 256)) else 1)), (.storeXferRead 0 .host (0 : Word)), .host, ((0 : Word)), (((0 : Word)).put 0 3 (1) &&& writeMask Reg.STORE_XFER_CMD),
     (hbmUp Mode.IDLE), _, rfl, by decide +kernel⟩,
   ⟨0, 1, ((if (1) ≤ 2 then 4096 * ((((0x10008 : Word)).put 0 3 (1) &&& writeMask Reg.STORE_XFER_CMD).field 8 8 + 1) else if (1) = 5 then 512 else
     0)), ((if (1) = 2 ∧ ((hbmUp Mode.IDLE)).bit Reg.STORE_CFG 2 = true then min (((hbmUp Mode.IDLE)).lbaLimit 0) (((hbmUp Mode.IDLE)).lbaLimit 1)
     else ((hbmUp Mode.IDLE)).store.maxLbas[(((0x10008 : Word)).put 0 3 (1) &&& writeMask Reg.STORE_XFER_CMD).field 3 1]?.getD 256)), ((if ((1) = 2 ∨
     (1) = 4) ∧ ((hbmUp Mode.IDLE)).bit Reg.STORE_CFG 2 = true then 2 else 1) * (if (1) ≤ 2 then ceilDiv ((((0x10008 : Word)).put 0 3 (1) &&&
     writeMask Reg.STORE_XFER_CMD).field 8 8 + 1) ((if (1) = 2 ∧ ((hbmUp Mode.IDLE)).bit Reg.STORE_CFG 2 = true then min (((hbmUp
     Mode.IDLE)).lbaLimit 0) (((hbmUp Mode.IDLE)).lbaLimit 1) else ((hbmUp Mode.IDLE)).store.maxLbas[(((0x10008 : Word)).put 0 3 (1) &&& writeMask
     Reg.STORE_XFER_CMD).field 3 1]?.getD 256)) else 1)), (.storeXferRead 0 .host (0x10008 : Word)), .host, ((0x10008 : Word)), (((0x10008 :
     Word)).put 0 3 (1) &&& writeMask Reg.STORE_XFER_CMD), (hbmUp Mode.IDLE), _, rfl, by decide +kernel⟩,
   ⟨0, 2, ((if (2) ≤ 2 then 4096 * ((((0 : Word)).put 0 3 (2) &&& writeMask Reg.STORE_XFER_CMD).field 8 8 + 1) else if (2) = 5 then 512 else 0)),
     ((if (2) = 2 ∧ ((hbmUp Mode.IDLE)).bit Reg.STORE_CFG 2 = true then min (((hbmUp Mode.IDLE)).lbaLimit 0) (((hbmUp Mode.IDLE)).lbaLimit 1) else
     ((hbmUp Mode.IDLE)).store.maxLbas[(((0 : Word)).put 0 3 (2) &&& writeMask Reg.STORE_XFER_CMD).field 3 1]?.getD 256)), ((if ((2) = 2 ∨ (2) = 4) ∧
     ((hbmUp Mode.IDLE)).bit Reg.STORE_CFG 2 = true then 2 else 1) * (if (2) ≤ 2 then ceilDiv ((((0 : Word)).put 0 3 (2) &&& writeMask
     Reg.STORE_XFER_CMD).field 8 8 + 1) ((if (2) = 2 ∧ ((hbmUp Mode.IDLE)).bit Reg.STORE_CFG 2 = true then min (((hbmUp Mode.IDLE)).lbaLimit 0)
     (((hbmUp Mode.IDLE)).lbaLimit 1) else ((hbmUp Mode.IDLE)).store.maxLbas[(((0 : Word)).put 0 3 (2) &&& writeMask Reg.STORE_XFER_CMD).field 3
     1]?.getD 256)) else 1)), (.storeXferWrite 0 .host (0 : Word)), .host, ((0 : Word)), (((0 : Word)).put 0 3 (2) &&& writeMask Reg.STORE_XFER_CMD),
     (hbmUp Mode.IDLE), _, rfl, by decide +kernel⟩,
   ⟨0, 2, ((if (2) ≤ 2 then 4096 * ((((0x300 : Word)).put 0 3 (2) &&& writeMask Reg.STORE_XFER_CMD).field 8 8 + 1) else if (2) = 5 then 512 else 0)),
     ((if (2) = 2 ∧ (((hbmUp Mode.IDLE).setBit Reg.STORE_CFG 2 true)).bit Reg.STORE_CFG 2 = true then min ((((hbmUp Mode.IDLE).setBit Reg.STORE_CFG 2
     true)).lbaLimit 0) ((((hbmUp Mode.IDLE).setBit Reg.STORE_CFG 2 true)).lbaLimit 1) else (((hbmUp Mode.IDLE).setBit Reg.STORE_CFG 2
     true)).store.maxLbas[(((0x300 : Word)).put 0 3 (2) &&& writeMask Reg.STORE_XFER_CMD).field 3 1]?.getD 256)), ((if ((2) = 2 ∨ (2) = 4) ∧ (((hbmUp
     Mode.IDLE).setBit Reg.STORE_CFG 2 true)).bit Reg.STORE_CFG 2 = true then 2 else 1) * (if (2) ≤ 2 then ceilDiv ((((0x300 : Word)).put 0 3 (2) &&&
     writeMask Reg.STORE_XFER_CMD).field 8 8 + 1) ((if (2) = 2 ∧ (((hbmUp Mode.IDLE).setBit Reg.STORE_CFG 2 true)).bit Reg.STORE_CFG 2 = true then
     min ((((hbmUp Mode.IDLE).setBit Reg.STORE_CFG 2 true)).lbaLimit 0) ((((hbmUp Mode.IDLE).setBit Reg.STORE_CFG 2 true)).lbaLimit 1) else (((hbmUp
     Mode.IDLE).setBit Reg.STORE_CFG 2 true)).store.maxLbas[(((0x300 : Word)).put 0 3 (2) &&& writeMask Reg.STORE_XFER_CMD).field 3 1]?.getD 256))
     else 1)), (.storeXferWrite 0 .host (0x300 : Word)), .host, ((0x300 : Word)), (((0x300 : Word)).put 0 3 (2) &&& writeMask Reg.STORE_XFER_CMD),
     ((hbmUp Mode.IDLE).setBit Reg.STORE_CFG 2 true), _, rfl, by decide +kernel⟩,
   ⟨0, 3, ((if (3) ≤ 2 then 4096 * ((((0 : Word)).put 0 3 (3) &&& writeMask Reg.STORE_XFER_CMD).field 8 8 + 1) else if (3) = 5 then 512 else 0)),
     ((if (3) = 2 ∧ ((hbmUp Mode.IDLE)).bit Reg.STORE_CFG 2 = true then min (((hbmUp Mode.IDLE)).lbaLimit 0) (((hbmUp Mode.IDLE)).lbaLimit 1) else
     ((hbmUp Mode.IDLE)).store.maxLbas[(((0 : Word)).put 0 3 (3) &&& writeMask Reg.STORE_XFER_CMD).field 3 1]?.getD 256)), ((if ((3) = 2 ∨ (3) = 4) ∧
     ((hbmUp Mode.IDLE)).bit Reg.STORE_CFG 2 = true then 2 else 1) * (if (3) ≤ 2 then ceilDiv ((((0 : Word)).put 0 3 (3) &&& writeMask
     Reg.STORE_XFER_CMD).field 8 8 + 1) ((if (3) = 2 ∧ ((hbmUp Mode.IDLE)).bit Reg.STORE_CFG 2 = true then min (((hbmUp Mode.IDLE)).lbaLimit 0)
     (((hbmUp Mode.IDLE)).lbaLimit 1) else ((hbmUp Mode.IDLE)).store.maxLbas[(((0 : Word)).put 0 3 (3) &&& writeMask Reg.STORE_XFER_CMD).field 3
     1]?.getD 256)) else 1)), (.storeXferFlush 0 .host (0 : Word)), .host, ((0 : Word)), (((0 : Word)).put 0 3 (3) &&& writeMask Reg.STORE_XFER_CMD),
     (hbmUp Mode.IDLE), _, rfl, by decide +kernel⟩,
   ⟨0, 4, ((if (4) ≤ 2 then 4096 * ((((0 : Word)).put 0 3 (4) &&& writeMask Reg.STORE_XFER_CMD).field 8 8 + 1) else if (4) = 5 then 512 else 0)),
     ((if (4) = 2 ∧ (((hbmUp Mode.IDLE).setBit Reg.STORE_CFG 2 true)).bit Reg.STORE_CFG 2 = true then min ((((hbmUp Mode.IDLE).setBit Reg.STORE_CFG 2
     true)).lbaLimit 0) ((((hbmUp Mode.IDLE).setBit Reg.STORE_CFG 2 true)).lbaLimit 1) else (((hbmUp Mode.IDLE).setBit Reg.STORE_CFG 2
     true)).store.maxLbas[(((0 : Word)).put 0 3 (4) &&& writeMask Reg.STORE_XFER_CMD).field 3 1]?.getD 256)), ((if ((4) = 2 ∨ (4) = 4) ∧ (((hbmUp
     Mode.IDLE).setBit Reg.STORE_CFG 2 true)).bit Reg.STORE_CFG 2 = true then 2 else 1) * (if (4) ≤ 2 then ceilDiv ((((0 : Word)).put 0 3 (4) &&&
     writeMask Reg.STORE_XFER_CMD).field 8 8 + 1) ((if (4) = 2 ∧ (((hbmUp Mode.IDLE).setBit Reg.STORE_CFG 2 true)).bit Reg.STORE_CFG 2 = true then
     min ((((hbmUp Mode.IDLE).setBit Reg.STORE_CFG 2 true)).lbaLimit 0) ((((hbmUp Mode.IDLE).setBit Reg.STORE_CFG 2 true)).lbaLimit 1) else (((hbmUp
     Mode.IDLE).setBit Reg.STORE_CFG 2 true)).store.maxLbas[(((0 : Word)).put 0 3 (4) &&& writeMask Reg.STORE_XFER_CMD).field 3 1]?.getD 256)) else
     1)), (.storeXferDeallocate 0 .host (0 : Word)), .host, ((0 : Word)), (((0 : Word)).put 0 3 (4) &&& writeMask Reg.STORE_XFER_CMD), ((hbmUp
     Mode.IDLE).setBit Reg.STORE_CFG 2 true), _, rfl, by decide +kernel⟩,
   ⟨0, 5, ((if (5) ≤ 2 then 4096 * ((((0 : Word)).put 0 3 (5) &&& writeMask Reg.STORE_XFER_CMD).field 8 8 + 1) else if (5) = 5 then 512 else 0)),
     ((if (5) = 2 ∧ ((hbmUp Mode.IDLE)).bit Reg.STORE_CFG 2 = true then min (((hbmUp Mode.IDLE)).lbaLimit 0) (((hbmUp Mode.IDLE)).lbaLimit 1) else
     ((hbmUp Mode.IDLE)).store.maxLbas[(((0 : Word)).put 0 3 (5) &&& writeMask Reg.STORE_XFER_CMD).field 3 1]?.getD 256)), ((if ((5) = 2 ∨ (5) = 4) ∧
     ((hbmUp Mode.IDLE)).bit Reg.STORE_CFG 2 = true then 2 else 1) * (if (5) ≤ 2 then ceilDiv ((((0 : Word)).put 0 3 (5) &&& writeMask
     Reg.STORE_XFER_CMD).field 8 8 + 1) ((if (5) = 2 ∧ ((hbmUp Mode.IDLE)).bit Reg.STORE_CFG 2 = true then min (((hbmUp Mode.IDLE)).lbaLimit 0)
     (((hbmUp Mode.IDLE)).lbaLimit 1) else ((hbmUp Mode.IDLE)).store.maxLbas[(((0 : Word)).put 0 3 (5) &&& writeMask Reg.STORE_XFER_CMD).field 3
     1]?.getD 256)) else 1)), (.storeXferSmartLog 0 .host (0 : Word)), .host, ((0 : Word)), (((0 : Word)).put 0 3 (5) &&& writeMask
     Reg.STORE_XFER_CMD), (hbmUp Mode.IDLE), _, rfl, by decide +kernel⟩,
   ⟨0, 1, 9, false, { stand Mode.IDLE with store := { xfer := some (1, 0, false, 9) } }, _, rfl, by decide +kernel⟩,
   ⟨0, 1, 9, true, { stand Mode.IDLE with store := { xfer := some (1, 0, true, 9) } }, _, rfl, by decide +kernel⟩⟩

theorem witness_EthernetReception :
    (∃ (t : Nat) (x : Fin 2) (f : List Byte) (ok : Bool) (s u : State), s.advance t = u ∧ u.netOn x = true ∧ u.networkUp = true ∧ u.frameOk x f ok =
      false) ∧
    (∃ (t j : Nat) (x : Fin 2) (f : List Byte) (ok : Bool) (s u v : State), s.advance t = u ∧ u.netOn x = true ∧ u.networkUp = true ∧ u.frameOk x f
      ok = true ∧ u.incFld (Reg.NET_RX_CNT x) 0 32 1 = v ∧ v.ready = true ∧ v.ownMac x f = true ∧ v.consumer x (classify f) f = some j ∧
      v.ingressEntry x (classify f) f = none ∧ udpSumOk (classify f) f = true) ∧
    (∃ (t j n : Nat) (x : Fin 2) (f : List Byte) (ok : Bool) (s u v : State), s.advance t = u ∧ u.netOn x = true ∧ u.networkUp = true ∧ u.frameOk x f
      ok = true ∧ u.incFld (Reg.NET_RX_CNT x) 0 32 1 = v ∧ v.ready = true ∧ v.ownMac x f = true ∧ v.consumer x (classify f) f = some j ∧
      v.ingressEntry x (classify f) f = some n ∧ v.bucket n x < 3200 * (f.length + 4)) ∧
    (∃ (t : Nat) (x : Fin 2) (c : Nat × Nat × Bool) (s u : State), s.advance t = u ∧ u.paired = false ∧ ((u.net.change.find? fun d => d.1 == x.val) =
      some c) ∧ c.2.1 + ms 10 ≤ u.now ∧ u.linkMoves x = false) ∧
    (∃ (t : Nat) (p : List Byte) (s u : State), s.advance t = u ∧ u.sec.pattern.cueNet.isSome = true ∧ u.ready = true ∧ cueHeaderOk p = true ∧ leAt p
      5 1 = 1) ∧
    (∃ (n : Nat) (u : State), u.cueIndex n 2 = none) ∧
    (∃ (t : Nat) (x : Fin 2) (p : List Byte) (s u : State), s.advance t = u ∧ u.sec.pattern.cueNet.isSome = true ∧ u.ready = true ∧ cueHeaderOk p =
      false ∧ u.net.cueDrop.getD x (none, 0) = (none, 0)) ∧
    (∃ (t : Nat) (p : List Byte) (s u : State), s.advance t = u ∧ u.sec.pattern.cueNet.isSome = true ∧ u.ready = true ∧ cueHeaderOk p = true ∧ leAt p
      5 1 = 2 ∧ u.net.assembly = none ∧ fragmentFits (leAt p 0xC 4) (p.drop 0x14).length (leAt p 0x10 4) = true ∧ assembled [(leAt p 0xC 4, p.drop
      0x14)] (leAt p 0x10 4) = none) ∧
    (∃ (t : Nat) (a : Assembly) (s u : State), s.advance t = u ∧ u.net.assembly = some a ∧ a.first + ms 100 ≤ u.now ∧ ((u.sameCycle
      fun i => match i with | .venueFragment _ _ p => leAt p 8 2 == a.id | _ => false) = false) ∧ assembled a.parts a.total = none) :=
  ⟨⟨0, 0, [1], true, listening, _, rfl, by decide +kernel⟩,
   ⟨0, 0, 0, yarnFrame, true, ((listening).setNat (Reg.TRAF_IN_CFG 0) 0), _, _, rfl, by decide +kernel, by decide +kernel, by decide +kernel, rfl,
     by decide +kernel⟩,
   ⟨0, 0, 0, 0, yarnFrame, true, ((listening).setNat (Reg.TRAF_POL_BURST 0) 0), _, _, rfl, by decide +kernel, by decide +kernel, by decide +kernel,
     rfl, by decide +kernel⟩,
   ⟨0, 0, ((0, 0, false)), { stand Mode.IDLE with net := { change := [((0, 0, false))] } }, _, rfl, by decide +kernel⟩,
   ⟨0, (cueFrame 1 [0, 0, 0, 0]), { stand Mode.IDLE with sec := { pattern := { cueNet := some ⟨0, 0, []⟩ } } }, _, rfl, by decide +kernel⟩,
   ⟨4, (stand Mode.IDLE), by decide +kernel⟩,
   ⟨0, 0, [], { stand Mode.IDLE with sec := { pattern := { cueNet := some ⟨0, 0, []⟩ } } }, _, rfl, by decide +kernel⟩,
   ⟨0, (leBytes 4 0x54484345 ++ [1, 2] ++ List.replicate 10 0 ++ leBytes 4 2120 ++ [7]),
     { stand Mode.IDLE with sec := { pattern := { cueNet := some ⟨0, 0, []⟩ } } }, _, rfl, by decide +kernel⟩,
   ⟨0, ⟨1, 2120, 0, 0, []⟩, { stand Mode.IDLE with net := { assembly := some ((⟨1, 2120, 0, 0, []⟩ : Assembly)) } }, _, rfl, by decide +kernel⟩⟩

theorem witness_TrafficQueuesAndCounters :
    (∃ (x c q : Nat) (fr : QFrame) (u : State), (u.egress x).sending = none ∧ (((List.range 8).reverse.find? fun k => u.eligibleQueue x k c) = some
      q) ∧ nextFrame ((u.egress x).queue q).frames = some fr) ∧
    (∃ (x c : Nat) (u : State), (u.egress x).sending = none ∧ (((List.range 8).any fun k => u.eligibleQueue x k c) = false)) ∧
    (∃ (t q c fin : Nat) (x : Fin 2) (s u : State), s.advance t = u ∧ (u.egress x).sending = some (q, c, fin) ∧ fin < unitsOf (u.now + 1) ∧
      (((List.range 8).all fun k => ((u.egress x).queue k).frames.isEmpty) = true) ∧ u.traf.ports.length = 2) ∧
    (∃ (t : Nat) (x : Fin 2) (q : Fin 8) (s u : State), s.advance t = u ∧ ((u.egress x).queue q).credit = 0 ∧ ((u.egress x).queue q).at_ = unitsOf
      u.now) ∧
    (∃ (t x q : Nat) (s u : State), s.advance t = u ∧ x < 2 ∧ q < 8 ∧ ((u.egress x).queue q).frames = [] ∧ ((((u.egress x).queue q).leftAt = u.now →
      ((u.egress x).queue q).left = [])) ∧ limited u.traf.histAt (ms 1) u.now = false) ∧
    (∃ (t : Nat) (req : Requester) (s u : State), s.advance t = u ∧ u.accepts req Reg.TRAF_CTL 2) ∧
    (∃ (t : Nat) (req : Requester) (s u : State), s.advance t = u ∧ u.accepts req Reg.TRAF_CTL 1) ∧
    (∃ (t : Nat) (k : Fin 256) (s u : State), s.advance t = u ∧ (u.deWindow k).fresh = false ∧ (u.frameNow 0 k (fun _ _ => true) = false) ∧
      (u.frameNow 1 k (fun _ _ => true) = false) ∧ (u.deWindow k).last + ms (u.fld (Reg.TRAF_IN_CFG k) 8 8) ≤ u.now) :=
  ⟨⟨0, 9, 5, ⟨List.replicate 60 0, 3, 0, 0, 0, none⟩,
    { stand Mode.IDLE with traf := { ports := [{ queues := [{}, {}, {}, {}, {}, { frames := [((⟨List.replicate 60 0, 3, 0, 0, 0, none⟩ : QFrame))] }, {}, {}] }, {}] } },
    by decide +kernel⟩,
   ⟨0, 9, (stand Mode.IDLE), by decide +kernel⟩,
   ⟨0, 0, 0, 4, 0, { stand Mode.IDLE with traf := { ports := [{ sending := some (0, 0, 4) }, {}] } }, _, rfl, by decide +kernel⟩,
   ⟨0, 0, 0, { stand Mode.IDLE with traf := { ports := [{ queues := List.replicate 8 { at_ := unitsOf 1440000000000 } }, {}] } }, _, rfl,
     by decide +kernel⟩,
   ⟨0, 1, 7, (stand Mode.IDLE), _, rfl, by decide +kernel⟩,
   ⟨0, .host, (stand Mode.IDLE), _, rfl, by decide +kernel⟩,
   ⟨0, .host, (stand Mode.IDLE), _, rfl, by decide +kernel⟩,
   ⟨0, 0, { stand Mode.IDLE with traf := { windows := [(0, { fresh := false })] } }, _, rfl, by decide +kernel⟩⟩

theorem witness_YarnPackets :
    (∃ (t : Nat) (y : Fin 16) (p : List Byte) (s u v : State), s.advance t = u ∧ u.yarnEnabled y = true ∧ fullMode u.modeCode = true ∧ u.hbmOffPeriod
      = false ∧ yarnHeaderOk p 1 = true ∧ u.wakeHbm = v ∧ v.store.updates = [] ∧ within 33 16777216 (leAt p 0x10 4) = true ∧ leAt p 0x0C 4 + (p.drop
      32).length ≤ leAt p 0x10 4 ∧ v.staged + leAt p 0x10 4 ≤ v.fld Reg.STORE_YSTAGE 16 15 * 2 ^ 20 ∧ assembled [(leAt p 0x0C 4, p.drop 32)] (leAt p
      0x10 4) = none) ∧
    (∃ (t : Nat) (y : Fin 16) (p : List Byte) (s u : State), s.advance t = u ∧ u.yarnEnabled y = true ∧ u.modeCode = Mode.LIVE ∧ u.hbmOffPeriod =
      false ∧ yarnHeaderOk p 2 = true ∧ 100 ≤ p.length ∧ leAt (p.drop 32) 0 1 ≤ 63) ∧
    (∃ (t : Nat) (y : Fin 16) (p : List Byte) (s u : State), s.advance t = u ∧ u.yarnEnabled y = true ∧ u.modeCode = Mode.LIVE ∧ u.hbmOffPeriod =
      false ∧ yarnHeaderOk p 3 = true ∧ u.accepts .yarn Reg.SCAN_COMMIT 1) ∧
    (∃ (t k : Nat) (y : Fin 16) (x : Update) (s u : State), s.advance t = u ∧ ((u.store.updates.find? fun z => z.stream == y.val && z.id == k) = some
      x) ∧ x.first + ms 100 ≤ u.now ∧ ((u.sameCycle fun i => match i with | .yarnDataFragment _ z p => z == y && yarnUpdate p == k | _ => false) =
      false)) ∧
    (∃ (t : Nat) (s u : State), s.advance t = u ∧ u.modeCode ≠ Mode.LIVE) :=
  ⟨⟨0, 0, (yarnPacket 1 [5]), (((stand Mode.LIVE).setBit Reg.PLY_LIVE 0 true).setFld Reg.STORE_YSTAGE 16 15 1), _, _, rfl, by decide +kernel,
    by decide +kernel, by decide +kernel, by decide +kernel, rfl, by decide +kernel⟩,
   ⟨0, 0, (yarnPacket 2 (List.replicate 68 0)), ((stand Mode.LIVE).setBit Reg.PLY_LIVE 0 true), _, rfl, by decide +kernel⟩,
   ⟨0, 0, (yarnPacket 3 []), (({ showing Mode.LIVE with now := 5 }).setBit Reg.PLY_LIVE 0 true), _, rfl, by decide +kernel⟩,
   ⟨0, 9, 0, ⟨0, 9, 100, 0, 0, 0, []⟩, { stand Mode.IDLE with store := { updates := [((⟨0, 9, 100, 0, 0, 0, []⟩ : Update))] } }, _, rfl,
     by decide +kernel⟩,
   ⟨0, (stand Mode.IDLE), _, rfl, by decide +kernel⟩⟩

theorem witness_DataPortsAndDma :
    (∃ (t k : Nat) (p : Fin 4) (data : List Byte) (s u v : State), s.advance t = u ∧ u.endpointOn = true ∧ u.ready = true ∧ u.dport.period = none ∧
      (u.dropPrefetch p).wakeHbm = v ∧ v.dportRange (u.dportPtr p) data.length = false ∧ 4 < data.length ∧ stepBytes (u.fld (Reg.DPORT_STEP p) 0 3) =
      k) ∧
    (∃ (t len : Nat) (p : Fin 4) (s u : State), s.advance t = u ∧ u.endpointOn = true ∧ u.ready = true ∧ u.dport.period = none ∧ u.wakeHbm.dportRange
      (u.dportPtr p) (ceilDiv len 4 * 4) = false ∧ u.lostIn (u.dportPtr p) (ceilDiv len 4 * 4) = false ∧ ((u.dport.prefetch.any fun x => x.1 ==
      p.val) = false)) ∧
    (∃ (t len : Nat) (p : Fin 4) (s u : State), s.advance t = u ∧ u.endpointOn = true ∧ u.ready = true ∧ u.dport.period = none ∧ u.wakeHbm.dportRange
      (u.dportPtr p) (ceilDiv len 4 * 4) = true ∧ mapGet u.dport.range p.val = none) ∧
    (∃ (t : Nat) (req : Requester) (p : Fin 4) (r : Fin 3) (w : Word) (s u : State), s.advance t = u ∧ u.accepts req (dportReg p r) w) ∧
    (∃ (t : Nat) (req : Requester) (c : Fin 4) (r : Fin 2) (w : Word) (s u : State), s.advance t = u ∧ u.accepts req (dmaReg c r) w) ∧
    (∃ (c : Nat) (u : State), u.bit (Reg.DPORT_DMA_CFG c) 0 = true ∧ u.bit (Reg.DPORT_DMA_STAT c) 0 = false ∧ u.dport.period = none ∧ u.fld
      (Reg.DPORT_DMA_TAIL c) 0 15 ≠ u.fld (Reg.DPORT_DMA_HEAD c) 0 15) ∧
    (∃ (t : Nat) (c : Fin 4) (e : List Byte) (d : List Byte) (s u : State), s.advance t = u ∧ u.bit (Reg.DPORT_DMA_STAT c) 0 = true ∧ (u.dmaDecode
      c).isSome = false ∧ (parseDma e).bad = false ∧ (parseDma e).ctl.field 0 4 = 0 ∧ (parseDma e).ctl.bit 10 = false ∧ d.length = (parseDma
      e).length ∧ u.dportRange (parseDma e).hbm (parseDma e).length = false) ∧
    (∃ (t : Nat) (c : Fin 4) (e : List Byte) (s u : State), s.advance t = u ∧ u.bit (Reg.DPORT_DMA_STAT c) 0 = true ∧ (u.dmaDecode c).isSome = false
      ∧ (parseDma e).bad = true ∧ (parseDma e).ctl.bit 0 = true) :=
  ⟨⟨0, 4, 0, [1, 2, 3, 4, 5], (hbmUp Mode.IDLE), _, _, rfl, by decide +kernel, by decide +kernel, by decide +kernel, rfl, by decide +kernel⟩,
   ⟨0, 5, 0, (hbmUp Mode.IDLE), _, rfl, by decide +kernel⟩,
   ⟨0, 5, 0, ((stand Mode.IDLE).setUsable 0 0), _, rfl, by decide +kernel⟩,
   ⟨0, .host, 0, 0, 8, (hbmUp Mode.IDLE), _, rfl, by decide +kernel⟩,
   ⟨0, .host, 0, 0, 0, (hbmUp Mode.IDLE), _, rfl, by decide +kernel⟩,
   ⟨0, (((hbmUp Mode.IDLE).setBit (Reg.DPORT_DMA_CFG 0) 0 true).setNat (Reg.DPORT_DMA_TAIL 0) 1), by decide +kernel⟩,
   ⟨0, 0, ((leBytes 8 0 ++ leBytes 8 64 ++ leBytes 4 2 ++ List.replicate 12 0)), [7, 8], ((hbmUp Mode.IDLE).setBit (Reg.DPORT_DMA_STAT 0) 0 true), _,
     rfl, by decide +kernel⟩,
   ⟨0, 0, ((leBytes 8 0 ++ leBytes 8 64 ++ leBytes 4 0 ++ leBytes 4 0 ++ leBytes 4 1 ++ List.replicate 4 0)), ((hbmUp Mode.IDLE).setBit
     (Reg.DPORT_DMA_STAT 0) 0 true), _, rfl, by decide +kernel⟩⟩

theorem witness_PtpSlaves :
    (∃ (t b : Nat) (x : Fin 2) (m : PtpMsg) (s u : State), s.advance t = u ∧ u.slaveOf x m = some b ∧ m.twoStep = true) ∧
    (∃ (t b : Nat) (x : Fin 2) (m : PtpMsg) (s u : State), s.advance t = u ∧ u.slaveOf x m = some b ∧ m.twoStep = false) ∧
    (∃ (t b : Nat) (x : Fin 2) (m y : PtpMsg) (s u : State), s.advance t = u ∧ u.slaveOf x m = some b ∧ (u.slave b).twoStep = some y ∧ y.seq = m.seq)
      ∧
    (∃ (t b c : Nat) (x : Fin 2) (m : PtpMsg) (s u : State), s.advance t = u ∧ u.slaveOf x m = some b ∧ (u.slave b).delayReq = some (c, m.seq) ∧
      (u.slave b).mpd = []) ∧
    (∃ (t b : Nat) (x : Fin 2) (a : PtpAnnounce) (s u : State), s.advance t = u ∧ u.domainBase a.domain = some b ∧ u.slavePort b x = true) ∧
    (∃ (b : Nat) (o : Int) (u : State), u.tbState b = 1 ∧ oneMicro < o.natAbs) ∧
    (∃ (t p : Nat) (src : List Byte) (b : Fin 2) (s u : State), s.advance t = u ∧ (u.slave b).sel = some (src, p) ∧ (((u.slave b).delayAt.all fun c
      => decide (c + logCycles 1 (u.slave b).delayLog ≤ u.now)) = true)) ∧
    (∃ (t : Nat) (b : Fin 2) (s u : State), s.advance t = u ∧ u.tbState b = 2 ∧ u.syncNow b = false ∧ (u.slave b).lastSync + logCycles 3 (u.slave
      b).syncLog ≤ u.now) ∧
    (∃ (t p : Nat) (src : List Byte) (b : Fin 2) (s u : State), s.advance t = u ∧ (u.slave b).sel = some (src, p) ∧ u.announceNow b = false ∧
      (u.slave b).lastAnnounce + logCycles 3 (u.slave b).announceLog ≤ u.now) :=
  ⟨⟨0, 0, 0, (sync true), { stand Mode.IDLE with time := { tb0 := { sel := some ([1], 0) } } }, _, rfl, by decide +kernel⟩,
   ⟨0, 0, 0, (sync false), { stand Mode.IDLE with time := { tb0 := { sel := some ([1], 0) } } }, _, rfl, by decide +kernel⟩,
   ⟨0, 0, 0, (sync false), (sync true), { stand Mode.IDLE with time := { tb0 := { sel := some ([1], 0), twoStep := some (sync true) } } }, _, rfl,
     by decide +kernel⟩,
   ⟨0, 0, 5, 0, (sync false), { stand Mode.IDLE with time := { tb0 := { sel := some ([1], 0), delayReq := some (5, 7) } } }, _, rfl,
     by decide +kernel⟩,
   ⟨0, 0, 0, ⟨127, [1], 0, 0, 0, 0, 0, 0, 0, 0, 0⟩, ((stand Mode.IDLE).setBit Reg.TIME_CFG 4 true), _, rfl, by decide +kernel⟩,
   ⟨0, 100000000000, ((stand Mode.IDLE).setNat Reg.TIME_STAT 1), by decide +kernel⟩,
   ⟨0, 0, [1], 0, { stand Mode.IDLE with time := { tb0 := { sel := some ([1], 0) } } }, _, rfl, by decide +kernel⟩,
   ⟨0, 0, ((stand Mode.IDLE).setNat Reg.TIME_STAT 2), _, rfl, by decide +kernel⟩,
   ⟨0, 0, [1], 0, { stand Mode.IDLE with time := { tb0 := { sel := some ([1], 0) } } }, _, rfl, by decide +kernel⟩⟩

theorem witness_ShowTimeAndReferences :
    (∃ (t : Nat) (s u : State), s.advance t = u) ∧
    (∃ (t : Nat) (s u : State), s.advance t = u ∧ u.fld Reg.TIME_STAT 8 2 = 2) ∧
    (∃ (t : Nat) (s u : State), s.advance t = u ∧ u.time.ppsPresent = true ∧ ((u.sameCycle fun i => match i with | .ppsInEdge _ => true | _ => false)
      = false) ∧ u.time.lastPps + us 1100000 ≤ u.now) ∧
    (∃ (t : Nat) (s u : State), s.advance t = u ∧ u.time.refPresent = true ∧ u.time.refSince + us 10 ≤ u.now ∧ ((u.sameCycle
      fun i => match i with | .ref10mInputReturn _ => true | _ => false) = false)) ∧
    (∃ (t c : Nat) (s u : State), s.advance t = u ∧ u.fld Reg.TIME_TB2_CFG 0 3 = 2 ∧ u.bit Reg.TIME_TB2_CFG 3 = true ∧ u.tbSource = 1 ∧ u.tbState 0 =
      2 ∧ u.time.tb0.lockedSince = some c ∧ c + ms 10000 ≤ u.now) ∧
    (∃ (u : State), u.wantedSource = u.tbSource) ∧
    (∃ (t : Nat) (req : Requester) (s u : State), s.advance t = u ∧ u.accepts req Reg.TIME_CTL 1) ∧
    (∃ (t : Nat) (req : Requester) (s u : State), s.advance t = u ∧ u.accepts req Reg.TIME_CTL 2 ∧ u.tbSource ≠ 5) ∧
    (∃ (t : Nat) (req : Requester) (s u : State), s.advance t = u ∧ u.accepts req Reg.TIME_CTL 4) ∧
    (∃ (t : Nat) (s u : State), s.advance t = u ∧ u.bit Reg.TIME_PPS_CFG 2 = true ∧ u.networkUp = true ∧ u.domainOn 78 = true ∧ u.secondBegins (u.fld
      Reg.TIME_PPS_CFG 0 2) = true) ∧
    (∃ (t : Nat) (s u : State), s.advance t = u ∧ u.networkUp = false) ∧
    (∃ (t : Nat) (s u : State), s.advance t = u ∧ ((u.time.ppsAt.all fun c => decide (c + us (u.fld Reg.TIME_PPS_CFG 8 20) ≤ u.now)) = true)) :=
  ⟨⟨0, (stand Mode.IDLE), _, rfl⟩,
   ⟨0, ((stand Mode.IDLE).setFld Reg.TIME_STAT 8 2 2), _, rfl, by decide +kernel⟩,
   ⟨0, { stand Mode.IDLE with time := { ppsPresent := true } }, _, rfl, by decide +kernel⟩,
   ⟨0, { stand Mode.IDLE with time := { refPresent := true } }, _, rfl, by decide +kernel⟩,
   ⟨0, 0,
     { (((((stand Mode.IDLE).setFld Reg.TIME_TB2_CFG 0 3 2).setBit Reg.TIME_TB2_CFG 3 true).setFld Reg.TIME_STAT 4 3 1).setFld Reg.TIME_STAT 0 2 2) with time := { tb0 := { lockedSince := some 0 } } },
     _, rfl, by decide +kernel⟩,
   ⟨((stand Mode.IDLE).setFld Reg.TIME_STAT 4 3 5 |>.setFld Reg.TIME_TB2_CFG 0 3 5), by decide +kernel⟩,
   ⟨0, .host, (stand Mode.IDLE), _, rfl, by decide +kernel⟩,
   ⟨0, .host, (stand Mode.IDLE), _, rfl, by decide +kernel⟩,
   ⟨0, .host, (stand Mode.IDLE), _, rfl, by decide +kernel⟩,
   ⟨0, { (stand Mode.IDLE).setNat Reg.TIME_PPS_CFG 7 with time := { tb3 := TimeLine.nominal (stand Mode.IDLE).now (1000000000 * 2 ^ 40) } }, _, rfl,
     by decide +kernel⟩,
   ⟨0, (casting 0), _, rfl, by decide +kernel⟩,
   ⟨0, (stand Mode.IDLE), _, rfl, by decide +kernel⟩⟩

theorem witness_ComparatorsAndCaptures :
    (∃ (t k : Nat) (s u : State), s.advance t = u ∧ u.accepts .host Reg.TIME_CMP_ALLOC 1 ∧ k < 8 ∧ k ∉ u.cmpUsed ∧ ((∀ j : Nat, j < k → j ∈
      u.cmpUsed))) ∧
    (∃ (t k : Nat) (s u : State), s.advance t = u ∧ u.accepts .host Reg.TIME_CMP_ALLOC 1 ∧ k < 8 ∧ k ∉ u.cmpUsed ∧ ((∀ j : Nat, j < k → j ∈
      u.cmpUsed))) ∧
    (∃ (t : Nat) (s u : State), s.advance t = u ∧ u.accepts .host Reg.TIME_CMP_ALLOC 1 ∧ ((∀ j : Nat, j < 8 → j ∈ u.cmpUsed))) ∧
    (∃ (t : Nat) (req : Requester) (k : Fin 8) (s u : State), s.advance t = u ∧ u.accepts req Reg.TIME_CMP_ALLOC (Word.ofNat (2 + k.val * 2 ^ 8))) ∧
    (∃ (t e : Nat) (k : Fin 8) (s u : State), s.advance t = u ∧ ((u.sameCycle
      fun i => match i with | .timeCmpFire _ j => decide (j.val < k.val) | _ => false) = false) ∧ u.cmpDue k = true ∧ u.cmpExact k = some e ∧ u.fld
      (Reg.TIME_CMP k 0) 1 2 = 0 ∧ u.bit (Reg.TIME_CMP k 0) 14 = false) ∧
    (∃ (t : Nat) (k : Fin 8) (s u : State), s.advance t = u ∧ ((u.sameCycle
      fun i => match i with | .timeCmpFire _ j => decide (j.val < k.val) | _ => false) = false) ∧ u.cmpDue k = false) ∧
    (∃ (t : Nat) (o : Fin 4) (s u : State), s.advance t = u ∧ ((u.time.pulses.any fun p => p.1 == o.val && decide (p.2 ≤ u.now)) = true)) ∧
    (∃ (t : Nat) (m : Fin 3) (dn : Bool) (s u : State), s.advance t = u ∧ u.captures m dn = true ∧ (u.cap m).queue.length < 16 ∧ u.time.caps.length =
      3 ∧ u.bit (Reg.TIME_CAP_CFG m) 6 = false) ∧
    (∃ (t : Nat) (m : Fin 3) (dn : Bool) (s u : State), s.advance t = u ∧ u.captures m dn = false) ∧
    (∃ (t : Nat) (m : Fin 3) (v : Stamp) (rest : List Stamp) (s u : State), s.advance t = u ∧ u.ready = true ∧ u.resetOver (Reg.TIME_CAP_FNS m) =
      none ∧ u.blockAnswers (Reg.TIME_CAP_FNS m) = true ∧ (u.cap m).queue = v :: rest ∧ u.time.caps.length = 3) :=
  ⟨⟨0, 0, (stand Mode.IDLE), _, rfl, by decide +kernel⟩,
   ⟨0, 7, ((stand Mode.IDLE).setFld Reg.TIME_CMP_ALLOC_STAT 16 8 127), _, rfl, by decide +kernel⟩,
   ⟨0, ((stand Mode.IDLE).setFld Reg.TIME_CMP_ALLOC_STAT 16 8 255), _, rfl, by decide +kernel⟩,
   ⟨0, .host, 7, (stand Mode.IDLE), _, rfl, by decide +kernel⟩,
   ⟨0, 0, 0, ((stand Mode.IDLE).setBit (Reg.TIME_CMP 0 0) 0 true), _, rfl, by decide +kernel⟩,
   ⟨0, 0, (stand Mode.IDLE), _, rfl, by decide +kernel⟩,
   ⟨0, 0, { stand Mode.IDLE with time := { pulses := [(0, 0)] } }, _, rfl, by decide +kernel⟩,
   ⟨0, 0, true, ((stand Mode.IDLE).setNat (Reg.TIME_CAP_CFG 0) 5), _, rfl, by decide +kernel⟩,
   ⟨0, 0, true, (stand Mode.IDLE), _, rfl, by decide +kernel⟩,
   ⟨0, 0, ⟨9, true⟩, [], { stand Mode.IDLE with time := { caps := [{ queue := [((⟨9, true⟩ : Stamp))] }, {}, {}] } }, _, rfl, by decide +kernel⟩⟩

theorem witness_ChainBlocksAndHandshake :
    (∃ (t : Nat) (p : Fin 4) (b : List Byte) (s u v : State), s.advance t = u ∧ u.portUp p = true ∧ b.length = 32 ∧ (parseDataBlock b).2.2.2 = true ∧
      (parseDataBlock b).2.2.1 = (u.chainPort p).rxSeq ∧ (u.chainPort p).sinceAck < 127 ∧ u.setChainPort p
      { u.chainPort p with rxSeq := ((u.chainPort p).rxSeq + 1) % 2 ^ 16, naked := false, sinceAck := (u.chainPort p).sinceAck + 1 } = v) ∧
    (∃ (t : Nat) (p : Fin 4) (b : List Byte) (s u : State), s.advance t = u ∧ u.portUp p = true ∧ (b.length ≠ 32 ∨ (parseDataBlock b).2.2.2 = false ∨
      (parseDataBlock b).2.2.1 ≠ (u.chainPort p).rxSeq)) ∧
    (∃ (t : Nat) (p : Fin 4) (b : List Byte) (s u : State), s.advance t = u ∧ u.portUp p = true ∧ (b.length ≠ 32 ∨ (parseDataBlock b).2.2.2 = false ∨
      (parseDataBlock b).2.2.1 ≠ (u.chainPort p).rxSeq)) ∧
    (∃ (t : Nat) (p : Fin 4) (s u : State), s.advance t = u ∧ u.portUp p = true ∧ u.chain.ports.length = 4) ∧
    (∃ (t k : Nat) (p : Fin 4) (a b : List (Nat × List Byte)) (d : List Byte) (s u : State), s.advance t = u ∧ k < 2 ^ 16 ∧ (u.chainPort p).unacked =
      a ++ (k, d) :: b ∧ ((a.all fun x => x.1 != k) = true)) ∧
    (∃ (p : Nat) (u : State), (u.chainPort p).wait0 = [] ∧ (u.chainPort p).wait1 = []) ∧
    (∃ (t k : Nat) (p : Fin 4) (a b : List (Nat × List Byte)) (d : List Byte) (s u : State), s.advance t = u ∧ k < 2 ^ 16 ∧ u.portUp p = true ∧
      (u.chainPort p).nakSeq = none ∧ (u.chainPort p).unacked = a ++ (k, d) :: b ∧ ((a.all fun x => x.1 != k) = true)) ∧
    (∃ (t c : Nat) (p : Fin 4) (k : Packet) (s u : State), s.advance t = u ∧ (u.chainPort p).held = [(c, k)] ∧ c + ms 1 ≤ u.now ∧
      u.chain.ports.length = 4) ∧
    (∃ (t : Nat) (b : List Byte) (s u : State), s.advance t = u ∧ ctlOk b = true ∧ blockField b 0 8 = 0x40 ∧ u.chain.chained = true) ∧
    (∃ (t : Nat) (b : List Byte) (s u : State), s.advance t = u ∧ ctlOk b = false) ∧
    (∃ (t q : Nat) (p : Fin 4) (s u : State), s.advance t = u ∧ ((u.peerPorts.find? fun x => x.1 == p.val) = some (p.val, q)) ∧ u.asksAgain p q =
      true) ∧
    (∃ (t : Nat) (q : Fin 8) (s u : State), s.advance t = u ∧ ((u.chain.asked.any fun a => a.1 == q.val && decide (a.2 + ms 500 ≤ u.now)) = true) ∧
      ((u.peerPorts.any fun x => x.2 == q.val && !(u.chainPort x.1).echoes.isEmpty) = false) ∧ u.answersNow q = false ∧ u.chain.done.contains q.val =
      false ∧ u.chain.absent.contains q.val = false) ∧
    (∃ (t : Nat) (p : Fin 4) (s u : State), s.advance t = u ∧ u.portUp p = true ∧ limited (u.chainPort p).timeAt (ms 1) u.now = false ∧
      u.chain.ports.length = 4) ∧
    (∃ (t : Nat) (p : Fin 4) (b : List Byte) (s u : State), s.advance t = u ∧ ctlOk b = true ∧ blockField b 0 8 = 0x44 ∧ u.portUp p = true ∧ u.loops
      = true ∧ u.loopPort = p.val ∧ u.tbSource ≠ 4) :=
  ⟨⟨0, 0, (dataBlock [] false 0), ((member Mode.IDLE 0 8).setNat (Reg.CHAIN_PORT_STAT 0) 3), _, _, rfl, by decide +kernel, by decide +kernel,
    by decide +kernel, by decide +kernel, by decide +kernel, rfl⟩,
   ⟨0, 0, [], ((member Mode.IDLE 0 8).setNat (Reg.CHAIN_PORT_STAT 0) 3), _, rfl, by decide +kernel⟩,
   ⟨0, 0, [],
     { (member Mode.IDLE 0 8).setNat (Reg.CHAIN_PORT_STAT 0) 3 with chain := { chained := true, ports := [{ naked := true }, {}, {}, {}] } }, _, rfl,
     by decide +kernel⟩,
   ⟨0, 0, { (member Mode.IDLE 0 8).setNat (Reg.CHAIN_PORT_STAT 0) 3 with chain := { chained := true, ports := [{ sinceAck := 1 }, {}, {}, {}] } }, _,
     rfl, by decide +kernel⟩,
   ⟨0, 1, 0, [(0, [1])], [(2, [3])], [2],
     { (member Mode.IDLE 0 8).setNat (Reg.CHAIN_PORT_STAT 0) 3 with chain := { chained := true, ports := [{ unacked := [(0, [1]), (1, [2]), (2, [3])] }, {}, {}, {}] } },
     _, rfl, by decide +kernel⟩,
   ⟨0,
     { (member Mode.IDLE 0 8).setNat (Reg.CHAIN_PORT_STAT 0) 3 with chain := { chained := true, ports := [{ unacked := [(0, [1]), (1, [2]), (2, [3])] }, {}, {}, {}] } },
     by decide +kernel⟩,
   ⟨0, 1, 0, [(0, [1])], [(2, [3])], [2],
     { (member Mode.IDLE 0 8).setNat (Reg.CHAIN_PORT_STAT 0) 3 with chain := { chained := true, ports := [{ unacked := [(0, [1]), (1, [2]), (2, [3])] }, {}, {}, {}] } },
     _, rfl, by decide +kernel⟩,
   ⟨0, 0, 0, ⟨[]⟩,
     { (member Mode.IDLE 0 8).setNat (Reg.CHAIN_PORT_STAT 0) 3 with chain := { chained := true, ports := [{ held := [(0, ((⟨[]⟩ : Packet)))] }, {}, {}, {}] } },
     _, rfl, by decide +kernel⟩,
   ⟨0, (ctlBlock 0x40 0), ((member Mode.IDLE 0 8).setNat (Reg.CHAIN_PORT_STAT 0) 3), _, rfl, by decide +kernel⟩,
   ⟨0, [], ((member Mode.IDLE 0 8).setNat (Reg.CHAIN_PORT_STAT 0) 3), _, rfl, by decide +kernel⟩,
   ⟨0, 1, 0,
     { (member Mode.IDLE 0 8).setNat (Reg.CHAIN_PORT_STAT 0) 2 with chain := { chained := true, ports := [{ echoOut := some 0 }, {}, {}, {}] } }, _,
     rfl, by decide +kernel⟩,
   ⟨0, 1, { member Mode.IDLE 0 8 with chain := { chained := true, asked := [(1, 0)] } }, _, rfl, by decide +kernel⟩,
   ⟨0, 0, ((member Mode.IDLE 0 8).setNat (Reg.CHAIN_PORT_STAT 0) 3), _, rfl, by decide +kernel⟩,
   ⟨0, 0, (ctlBlock 0x44 256), (((member Mode.IDLE 1 8).setNat (Reg.CHAIN_PORT_STAT 0) 3).setNat Reg.LANE_LOOP_CFG 32), _, rfl, by decide +kernel⟩⟩

theorem witness_ChainPacketsAndTwins :
    (∃ (t : Nat) (b : List Byte) (s u : State), s.advance t = u ∧ u.takes (packetOf b) 1 = true) ∧
    (∃ (t : Nat) (b : List Byte) (a v : Word) (s u : State), s.advance t = u ∧ u.takes (packetOf b) 8 = true ∧ (packetOf b).body = [a, v]) ∧
    (∃ (t : Nat) (b : List Byte) (s u : State), s.advance t = u ∧ u.takes (packetOf b) 2 = true ∧ (u.frame.latched = false ∨ fenceReached ((packetOf
      b).body.getD 0 0).toNat ((u.closing.map fun x => u.goCount x.1 x.2).getD ((packetOf b).body.getD 0 0).toNat) = true)) ∧
    (∃ (t : Nat) (b : List Byte) (s u : State), s.advance t = u ∧ u.takes (packetOf b) 3 = true ∧ u.busy = false ∧ u.modeCheck (((packetOf
      b).body.getD 0 0).field 0 8) true = none) ∧
    (∃ (t : Nat) (b : List Byte) (s u : State), s.advance t = u ∧ u.takes (packetOf b) 3 = true ∧ u.busy = true) ∧
    (∃ (t : Nat) (b : List Byte) (s u : State), s.advance t = u ∧ u.takes (packetOf b) 7 = true) ∧
    (∃ (t : Nat) (b : List Byte) (s u : State), s.advance t = u ∧ u.takes (packetOf b) 9 = true ∧ u.joined = false) ∧
    (∃ (t : Nat) (s u : State), s.advance t = u ∧ u.chain.chained = false) ∧
    (∃ (t : Nat) (b : List Byte) (d : Digest) (g : FrameInfo) (s u : State), s.advance t = u ∧ u.takes (packetOf b) 5 = true ∧ u.frame.boundary =
      true ∧ (packetOf b).body.getD 0 0 = 1 ∧ u.chain.own = some d ∧ u.frame.next = some g ∧ u.chain.got1 = false ∧ (parseDigest (packetOf
      b).body).frame = d.frame) ∧
    (∃ (p : Digest) (u : State), u.isLead = true ∧ p.rejected = 0 ∧ p.skipped = 0 ∧ p.shed = 0) ∧
    (∃ (t fr c : Nat) (g : FrameInfo) (s u : State), s.advance t = u ∧ u.chain.wait = some (fr, c) ∧ u.frame.next = some g ∧ c ≤ u.now ∧ u.digestNow
      2 = false ∧ u.chain.got1 = true ∧ u.chain.got2 = false) ∧
    (∃ (t : Nat) (b : List Byte) (f : FrameInfo) (s u : State), s.advance t = u ∧ u.rayFrame = some f ∧ u.takes (packetOf b) 6 = true ∧ f.count % 2 ^
      32 = ((packetOf b).body.getD 2 0).toNat ∧ ((u.frame.off.any fun x => x.1 == ((packetOf b).body.getD 0 0).toNat) = false)) ∧
    (∃ (t : Nat) (b : List Byte) (s u : State), s.advance t = u ∧ u.takes (packetOf b) 4 = true ∧ u.readsRecords = false) :=
  ⟨⟨0, (chainPacket 1 [0, 5]), (member Mode.IDLE 0 8), _, rfl, by decide +kernel⟩,
   ⟨0, (chainPacket 8 [Word.ofNat Reg.HANK_JOB_LEN, 5]), (Word.ofNat Reg.HANK_JOB_LEN), 5, (member Mode.IDLE 0 8), _, rfl, by decide +kernel⟩,
   ⟨0, (chainPacket 2 [7]), (member Mode.IDLE 0 8), _, rfl, by decide +kernel⟩,
   ⟨0, (chainPacket 3 [Word.ofNat Mode.SERVICE]), (member Mode.IDLE 0 0x28), _, rfl, by decide +kernel⟩,
   ⟨0, (chainPacket 3 [4]), ((member Mode.IDLE 0 8).setBit Reg.GLB_MODE_STAT 8 true), _, rfl, by decide +kernel⟩,
   ⟨0, (chainPacket 7 [0, 0]), (member Mode.IDLE 0 8), _, rfl, by decide +kernel⟩,
   ⟨0, (chainPacket 9 [7]), (member Mode.IDLE 0 8), _, rfl, by decide +kernel⟩,
   ⟨0, (stand Mode.IDLE), _, rfl, by decide +kernel⟩,
   ⟨0, (chainPacket 5 [1]), ⟨0, 0, 0, 0, 0, []⟩, (frame Mode.SHOW),
     { member Mode.IDLE 0 8 with chain := { chained := true, own := some ((⟨0, 0, 0, 0, 0, []⟩ : Digest)) }, frame := { boundary := true, next := some (frame Mode.SHOW) } },
     _, rfl, by decide +kernel⟩,
   ⟨⟨0, 0, 0, 0, 0, []⟩, (member Mode.IDLE 0 0x48), by decide +kernel⟩,
   ⟨0, 7, 0, (frame Mode.SHOW),
     { member Mode.IDLE 0 8 with chain := { chained := true, wait := some (7, 0), got1 := true }, frame := { boundary := true, next := some (frame Mode.SHOW) } },
     _, rfl, by decide +kernel⟩,
   ⟨0, (chainPacket 6 [3, 0, 7]), (frame Mode.SHOW), { showing Mode.SHOW with chain := { chained := true } }, _, rfl, by decide +kernel⟩,
   ⟨0, (chainPacket 4 [7, 0]), ((member Mode.IDLE 0 8).setNat Reg.CHAIN_CFG 2), _, rfl, by decide +kernel⟩⟩

theorem witness_HeartbeatsAndFailover :
    (∃ (t : Nat) (s u : State), s.advance t = u ∧ u.chain.chained = true ∧ u.paired = false ∧ limited u.chain.hbAt (us 990) u.now = false) ∧
    (∃ (t : Nat) (p : Fin 4) (b : List Byte) (h : Heartbeat) (s u : State), s.advance t = u ∧ u.hbOfBlock p b = some h ∧ u.partnerId ≠ some h.sender)
      ∧
    (∃ (t : Nat) (x : Fin 2) (b : List Byte) (h : Heartbeat) (s u : State), s.advance t = u ∧ u.hbOfDatagram x b = some h ∧ u.ready = true ∧ u.joined
      = true) ∧
    (∃ (t c : Nat) (s u : State), s.advance t = u ∧ u.chain.hbEth = some c ∧ c + ms 3 ≤ u.now ∧ u.beatNow (u.partnerId.getD 8) false = false ∧ u.bit
      Reg.CHAIN_HB_STAT 1 = true) ∧
    (∃ (t q c : Nat) (s u : State), s.advance t = u ∧ u.chain.peers = [(q, c)] ∧ c + ms 3 ≤ u.now ∧ u.chain.lostPeers.contains q = false ∧ u.beatNow
      q true = false ∧ u.partnerId ≠ some q) ∧
    (∃ (t c : Nat) (s u : State), s.advance t = u ∧ u.paired = true ∧ u.bit Reg.CHAIN_STAT 8 = false ∧ u.lastBeat = some c ∧ c + ms 3 ≤ u.now ∧
      u.beatNow (u.partnerId.getD 8) true = false ∧ u.beatNow (u.partnerId.getD 8) false = false) ∧
    (∃ (t c : Nat) (s u : State), s.advance t = u ∧ u.paired = true ∧ u.bit Reg.CHAIN_STAT 8 = true ∧ u.chain.wasLead = true ∧ u.lastBeat = some c ∧
      c + ms 6 ≤ u.now ∧ u.bit Reg.CHAIN_STAT 9 = false ∧ (u.tiles.filter u.enumerated).length < 2 * u.partnerLocks.1) ∧
    (∃ (t c : Nat) (s u : State), s.advance t = u ∧ u.paired = true ∧ u.bit Reg.CHAIN_STAT 8 = true ∧ u.chain.wasLead = true ∧ u.lastBeat = some c ∧
      c + ms 6 ≤ u.now ∧ u.bit Reg.CHAIN_STAT 9 = false ∧ (u.tiles.filter u.enumerated).length < 2 * u.partnerLocks.1) ∧
    (∃ (t c : Nat) (s u : State), s.advance t = u ∧ u.chain.noPartnerLock = some c ∧ u.paired = true ∧ c + us 100 ≤ u.now ∧ u.bit Reg.CHAIN_STAT 9 =
      false ∧ u.bit Reg.CHAIN_CFG 2 = true ∧ u.bit Reg.CHAIN_STAT 10 = false ∧ u.fld Reg.EMIT_STAT 0 3 ≠ 3) :=
  ⟨⟨0, (member Mode.IDLE 0 0), _, rfl, by decide +kernel⟩,
   ⟨0, 0, (ctlBlock 0x43 (leNat beatOf1 * 2 ^ 16)), ((parseHb beatOf1).getD ⟨0, 0, 0, 0, 0, 0⟩), (member Mode.IDLE 0 0), _, rfl, by decide +kernel⟩,
   ⟨0, 0, beatOf1, ((parseHb beatOf1).getD ⟨0, 0, 0, 0, 0, 0⟩), (((((member Mode.IDLE 0 0x88).setNat (Reg.NET_MCAST 0 0) 5).setNat Reg.CHAIN_HB_CFG
     0x300000).setBit (Reg.NET_PORT_CFG 0) 0 true).setBit (Reg.NET_PORT_STAT 0) 0 true), _, rfl, by decide +kernel⟩,
   ⟨0, 0, { (member Mode.IDLE 0 8).setBit Reg.CHAIN_HB_STAT 1 true with chain := { chained := true, hbEth := some 0 } }, _, rfl, by decide +kernel⟩,
   ⟨0, 1, 0, { member Mode.IDLE 0 0 with chain := { chained := true, peers := [(1, 0)] } }, _, rfl, by decide +kernel⟩,
   ⟨0, 0, { member Mode.IDLE 0 8 with chain := { chained := true, hbChain := some 0 } }, _, rfl, by decide +kernel⟩,
   ⟨0, 0,
     { ((panel (member Mode.IDLE 0 0x108)).setNat (Reg.SPK_TILE_STAT 0) 1).setTile 0 { partnerLock := true } with chain := { chained := true, wasLead := true, hbChain := some 0 } },
     _, rfl, by decide +kernel⟩,
   ⟨0, 0,
     { (((panel (member Mode.IDLE 0 0x148)).setNat Reg.CHAIN_CFG 3).setNat (Reg.SPK_TILE_STAT 0) 1).setTile 0 { partnerLock := true } with chain := { chained := true, wasLead := true, hbChain := some 0 } },
     _, rfl, by decide +kernel⟩,
   ⟨0, 0, { (member Mode.IDLE 0 8).setNat Reg.CHAIN_CFG 4 with chain := { chained := true, noPartnerLock := some 0 } }, _, rfl, by decide +kernel⟩⟩

theorem witness_ChainControlMovesTheLead :
    (∃ (t : Nat) (req : Requester) (s u : State), s.advance t = u ∧ u.accepts req Reg.CHAIN_CTL 1 ∧ u.joined = false) ∧
    (∃ (t : Nat) (req : Requester) (s u : State), s.advance t = u ∧ u.accepts req Reg.CHAIN_CTL 2 ∧ u.partnerFlag 2 = true ∧ u.isLead = true ∧
      u.cadenceRuns = true) ∧
    (∃ (t : Nat) (req : Requester) (s u : State), s.advance t = u ∧ u.accepts req Reg.CHAIN_CTL 4 ∧ u.isLead = false ∧ u.paired = true) ∧
    (∃ (t : Nat) (req : Requester) (s u : State), s.advance t = u ∧ u.accepts req Reg.CHAIN_CTL 8 ∧ u.partnerFlag 2 = true ∧ u.isLead = true) ∧
    (∃ (t : Nat) (req : Requester) (s u : State), s.advance t = u ∧ u.accepts req Reg.CHAIN_CTL 8 ∧ u.partnerFlag 2 = true ∧ u.isLead = true) ∧
    (∃ (t : Nat) (s u : State), s.advance t = u) ∧
    (∃ (t : Nat) (req : Requester) (s u : State), s.advance t = u ∧ u.accepts req Reg.CHAIN_CTL 16) :=
  ⟨⟨0, .host, (stand Mode.IDLE), _, rfl, by decide +kernel⟩,
   ⟨0, .host,
     { member Mode.SHOW 0 0x48 with chain := { chained := true, partner := some ⟨1, 0, 0, 4, 0, 0⟩ }, frame := { cadence := some cadence, cur := some (frame Mode.SHOW) } },
     _, rfl, by decide +kernel⟩,
   ⟨0, .host, { member Mode.IDLE 0 8 with chain := { chained := true, partner := some ⟨1, 0, 0, 0, 0, 0⟩ } }, _, rfl, by decide +kernel⟩,
   ⟨0, .host, { member Mode.IDLE 0 0x48 with chain := { chained := true, partner := some ⟨1, 0, 0, 4, 0, 0⟩ } }, _, rfl, by decide +kernel⟩,
   ⟨0, .host, { (member Mode.IDLE 0 0x48).setNat Reg.CHAIN_CFG 3 with chain := { chained := true, partner := some ⟨1, 0, 0, 4, 0, 0⟩ } }, _, rfl,
     by decide +kernel⟩,
   ⟨0, (stand Mode.IDLE), _, rfl⟩,
   ⟨0, .host, (stand Mode.IDLE), _, rfl, by decide +kernel⟩⟩

theorem witness_SensorRoundsAndLimits :
    (∃ (t : Nat) (r : List Int) (s u : State), s.advance t = u ∧ u.healthOn = true ∧ u.bit Reg.HLTH_STAT 4 = false ∧ r.length = 33 ∧ ((r.take 32).all
      tempOk) = true ∧ (r.getD 32 0).natAbs ≤ 512 ∧ u.health.sensors = List.replicate 32 {}) ∧
    (∃ (k : Nat) (a b v m : Int) (u : State), k < 32 ∧ u.health.sensors.length = 32 ∧ (u.sensor k).conv = [a, b] ∧ tempOk v = true ∧ (sortInt [v, a,
      b]).getD 1 0 = m ∧ -10240 ≤ m ∧ m ≤ 32767) ∧
    (∃ (k : Nat) (a b v m : Int) (u : State), k < 32 ∧ u.health.sensors.length = 32 ∧ (u.sensor k).conv = [a, b] ∧ tempOk v = true ∧ (sortInt [v, a,
      b]).getD 1 0 = m ∧ -10240 ≤ m ∧ m ≤ 32767) ∧
    (∃ (t : Nat) (r : List Int) (s u : State), s.advance t = u ∧ u.healthOn = true ∧ u.bit Reg.HLTH_STAT 4 = false ∧ 512 < (r.getD 32 0).natAbs ∧ 1 ≤
      u.health.refBad) ∧
    (∃ (t : Nat) (s u : State), s.advance t = u ∧ u.healthOn = true ∧ u.bit Reg.HLTH_STAT 4 = false ∧ u.roundNow = false ∧ u.health.lastRound + 2 *
      (if u.bit Reg.HLTH_STAT 5 then us 100 else ms 1) ≤ u.now) ∧
    (∃ (t : Nat) (r : List Int) (a b : Int) (s u : State), s.advance t = u ∧ u.healthOn = true ∧ u.bit Reg.HLTH_STAT 4 = true ∧ r.length = 32 ∧
      (r.all tempOk) = true ∧ tempOk a = true ∧ tempOk b = true ∧ a ≤ 32767 ∧ b ≤ 32767 ∧ u.health.sensors = List.replicate 32 {} ∧ (u.domainOn 55 =
      false ∨ u.health.stackFail = [false, false] ∧ u.health.stackTemp.length = 2 ∧ refreshCode (u.fld Reg.HBM_STAT 2 2) (max a b) = u.fld
      Reg.HBM_STAT 2 2)) ∧
    (∃ (t : Nat) (r : List Int) (a b : Int) (s u : State), s.advance t = u ∧ u.healthOn = true ∧ u.bit Reg.HLTH_STAT 4 = true ∧ r.length = 32 ∧
      (r.all tempOk) = true ∧ tempOk a = true ∧ tempOk b = true ∧ a ≤ 32767 ∧ b ≤ 32767 ∧ u.health.sensors = List.replicate 32 {} ∧ (u.domainOn 55 =
      false ∨ u.health.stackFail = [false, false] ∧ u.health.stackTemp.length = 2 ∧ refreshCode (u.fld Reg.HBM_STAT 2 2) (max a b) = u.fld
      Reg.HBM_STAT 2 2)) ∧
    (∃ (k : Nat) (f : Int) (u : State), k < 32 ∧ u.health.sensors.length = 32 ∧ u.filtered k = some f ∧ u.suspect k = false ∧ (u.sensor k).far = 2 ∧
      ((List.range 32).filter u.suspect).length < 4 ∧ 2 ≤ ((neighbours k).filterMap u.filtered).length ∧ ((neighbours k).all (fun j => !u.suspect j)
      = true) ∧ 4096 < (2 * f - median2 ((neighbours k).filterMap u.filtered)).natAbs) ∧
    (∃ (t : Nat) (a b : Int) (s u : State), s.advance t = u ∧ u.healthOn = true ∧ u.domainOn 55 = true ∧ tempOk a = true ∧ tempOk b = true ∧ a ≤
      32767 ∧ b ≤ 32767 ∧ u.health.stackFail = [false, false] ∧ u.health.stackTemp.length = 2) ∧
    (∃ (t : Nat) (h : Int) (s u : State), s.advance t = u ∧ u.health.tHot = some h ∧ u.roundNow = false ∧ u.health.want = 1 ∧ u.health.stepAt + ms
      2000 ≤ u.now ∧ u.health.tempOn = true ∧ u.throttleAt ≤ h ∧ u.fld Reg.HLTH_STAT 0 2 ≠ 0) ∧
    (∃ (t c : Nat) (h : Int) (s u : State), s.advance t = u ∧ u.health.tHot = some h ∧ u.roundNow = false ∧ u.health.want = 1 ∧ u.health.tempOn =
      true ∧ u.health.coolAt = some c ∧ c + ms 1000 ≤ u.now ∧ h < u.throttleAt - deg 5 ∧ u.bit Reg.HLTH_STAT 2 = false) :=
  ⟨⟨0, (List.replicate 33 0), (stand Mode.IDLE), _, rfl, by decide +kernel⟩,
   ⟨0, 32767, 32767, 32767, 32767, { stand Mode.IDLE with health := { sensors := { conv := [32767, 32767] } :: List.replicate 31 {} } },
     by decide +kernel⟩,
   ⟨0, (-10240), (-10240), (-10240), (-10240),
     { stand Mode.IDLE with health := { sensors := { conv := [-10240, -10240] } :: List.replicate 31 {} } }, by decide +kernel⟩,
   ⟨0, (List.replicate 32 0 ++ [513]), { stand Mode.IDLE with health := { refBad := 1 } }, _, rfl, by decide +kernel⟩,
   ⟨0, (stand Mode.IDLE), _, rfl, by decide +kernel⟩,
   ⟨0, (List.replicate 32 0), 0, 32767, (((stand Mode.IDLE).setBit Reg.HLTH_STAT 4 true).setDomain 55 false), _, rfl, by decide +kernel⟩,
   ⟨0, (List.replicate 32 0), 0, 32767, (((stand Mode.IDLE).setBit Reg.HLTH_STAT 4 true).setFld Reg.HBM_STAT 2 2 (refreshCode 0 32767)), _, rfl,
     by decide +kernel⟩,
   ⟨0, 5000, { stand Mode.IDLE with health := { sensors := { conv := [5000, 5000, 5000], far := 2 } :: List.replicate 31 { conv := [0, 0, 0] } } },
     by decide +kernel⟩,
   ⟨0, 0, 32767, (stand Mode.IDLE), _, rfl, by decide +kernel⟩,
   ⟨0, 32767, { (stand Mode.IDLE).setNat Reg.HLTH_STAT 1 with health := { tHot := some 32767, want := 1, tempOn := true } }, _, rfl,
     by decide +kernel⟩,
   ⟨0, 0, 0, { stand Mode.IDLE with health := { tHot := some 0, want := 1, tempOn := true, coolAt := some 0 } }, _, rfl, by decide +kernel⟩⟩

theorem witness_VoltageStepsAndCalibration :
    (∃ (t : Nat) (s u : State), s.advance t = u ∧ u.calReached = true ∧ u.health.sent = none ∧ u.health.volts + 5 ≤ u.fld Reg.HLTH_AVS 0 10 ∧ limited
      u.health.avsAt (us 100) u.now = false) ∧
    (∃ (t v : Nat) (s u : State), s.advance t = u ∧ u.health.sent = some v) ∧
    (∃ (t v : Nat) (s u : State), s.advance t = u ∧ u.health.sent = some v) ∧
    (∃ (t i c : Nat) (rest : List Nat) (s u : State), s.advance t = u ∧ u.health.cal = some { items := i :: rest, since := c }) ∧
    (∃ (t i a v c tr : Nat) (rest : List Nat) (s u : State), s.advance t = u ∧ i < 0x230 ∧ u.health.cal = some
      { items := i :: rest, got := [some a], since := c } ∧ a ≤ v + calTolerance i ∧ v ≤ a + calTolerance i ∧ calTrim i (roundDiv (a + v) 2) u.now =
      some tr) ∧
    (∃ (t i a b c : Nat) (rest : List Nat) (s u : State), s.advance t = u ∧ i < 0x230 ∧ c + ms 1 ≤ u.now ∧ ((u.sameCycle
      fun x => match x with | .calMeasureDone _ k _ => k == i | _ => false) = false) ∧ u.health.cal = some
      { items := i :: rest, got := [some a, some b], since := c } ∧ a + calTolerance i < b) :=
  ⟨⟨0, ((stand Mode.IDLE).setNat Reg.HLTH_AVS 900), _, rfl, by decide +kernel⟩,
   ⟨0, 805, { stand Mode.IDLE with health := { sent := some 805 } }, _, rfl, by decide +kernel⟩,
   ⟨0, 805, { stand Mode.IDLE with health := { sent := some 805, tries := 2 } }, _, rfl, by decide +kernel⟩,
   ⟨0, 0x40, 5, [], { stand Mode.IDLE with health := { cal := some { items := [0x40], got := [], since := 5 } } }, _, rfl, by decide +kernel⟩,
   ⟨0, 0, 1999000, 2001000, 5, ((calTrim 0 2000000 0).getD 0), [],
     { stand Mode.IDLE with health := { cal := some { items := [0], got := [some 1999000], since := 5 } } }, _, rfl, by decide +kernel⟩,
   ⟨0, 0x40, 0, 129, 5, [], { stand Mode.IDLE with health := { cal := some { items := [0x40], got := [some 0, some 129], since := 5 } } }, _, rfl,
     by decide +kernel⟩⟩

theorem witness_AgeingAndHealthControls :
    (∃ (t : Nat) (s u : State), s.advance t = u ∧ u.healthOn = true ∧ limited u.health.ageAt hourCycles u.now = false) ∧
    (∃ (t : Nat) (req : Requester) (s u : State), s.advance t = u ∧ u.accepts req Reg.HLTH_CTL 1) ∧
    (∃ (t : Nat) (req : Requester) (s u : State), s.advance t = u ∧ u.accepts req Reg.HLTH_CTL 2) ∧
    (∃ (t : Nat) (req : Requester) (s u : State), s.advance t = u ∧ u.accepts req Reg.HLTH_CTL 2) ∧
    (∃ (t : Nat) (req : Requester) (s u : State), s.advance t = u ∧ u.accepts req Reg.HLTH_CTL 8 ∧ u.health.sensors.length = 32) ∧
    (∃ (t : Nat) (req : Requester) (s u v : State), s.advance t = u ∧ u.accepts req Reg.HLTH_CTL 4 ∧ u.modeCode = Mode.SERVICE ∧ u.mode.serviceSafe =
      false ∧ u.bit Reg.HLTH_STAT 6 = false ∧ u.setBit Reg.HLTH_STAT 6 true = v) ∧
    (∃ (t : Nat) (s u : State), s.advance t = u ∧ u.bit Reg.HLTH_STAT 6 = true) :=
  ⟨⟨0, (stand Mode.IDLE), _, rfl, by decide +kernel⟩,
   ⟨0, .host, (stand Mode.IDLE), _, rfl, by decide +kernel⟩,
   ⟨0, .host, (stand Mode.IDLE), _, rfl, by decide +kernel⟩,
   ⟨0, .host, (stand Mode.SERVICE), _, rfl, by decide +kernel⟩,
   ⟨0, .host, (stand Mode.IDLE), _, rfl, by decide +kernel⟩,
   ⟨0, .host, (stand Mode.SERVICE), _, _, rfl, by decide +kernel, by decide +kernel, by decide +kernel, by decide +kernel, rfl⟩,
   ⟨0, ((stand Mode.IDLE).setBit Reg.HLTH_STAT 6 true), _, rfl, by decide +kernel⟩⟩

theorem witness_EventsReachTheRingInOrder :
    (∃ (e : Event) (u : State), u.bit (Reg.EVT_VEC (e.code / 256)) 7 = false) ∧
    (∃ (u : State), u.ringFree < 2) ∧
    (∃ (u : State), u.evt.early.length < 63) :=
  ⟨⟨⟨0, 0x101, [], 0⟩, ((stand Mode.IDLE).setNat (Reg.EVT_VEC 1) 0), by decide +kernel⟩,
   ⟨((stand Mode.IDLE).setFld Reg.EVT_RING_CFG 8 5 0), by decide +kernel⟩,
   ⟨(stand Mode.IDLE), by decide +kernel⟩⟩

theorem witness_TheRingStartsAndStops :
    (∃ (t : Nat) (req : Requester) (w : Word) (s u : State), s.advance t = u ∧ u.accepts req Reg.EVT_RING_CFG w ∧ w.bit 0 = true ∧ u.bit Reg.EVT_STAT
      0 = false ∧ u.evt.early = [] ∧ u.evt.earlyLost = 0) ∧
    (∃ (q : List Event) (u : State), u.evt.early = q ∧ u.evt.earlyLost = 0) ∧
    (∃ (t : Nat) (req : Requester) (w : Word) (s u : State), s.advance t = u ∧ u.accepts req Reg.EVT_RING_CFG w ∧ w.bit 0 = false) ∧
    (∃ (t : Nat) (req : Requester) (w : Word) (s u v : State), s.advance t = u ∧ u.accepts req Reg.EVT_TAIL w ∧ u.setReg Reg.EVT_TAIL ((u.reg
      Reg.EVT_TAIL &&& ~~~writeMask Reg.EVT_TAIL) ||| (w &&& writeMask Reg.EVT_TAIL)) = v) ∧
    (∃ (t : Nat) (s u : State), s.advance t = u ∧ u.bit Reg.EVT_STAT 0 = true) :=
  ⟨⟨0, .host, 0x801, (stand Mode.IDLE), _, rfl, by decide +kernel⟩,
   ⟨[], (stand Mode.IDLE), by decide +kernel⟩,
   ⟨0, .host, 0x800, (stand Mode.IDLE), _, rfl, by decide +kernel⟩,
   ⟨0, .host, 0, (stand Mode.IDLE), _, _, rfl, by decide +kernel, rfl⟩,
   ⟨0, ((stand Mode.IDLE).setBit Reg.EVT_STAT 0 true), _, rfl, by decide +kernel⟩⟩

theorem witness_MessagesTraceAndGpio :
    (∃ (t : Nat) (v : Fin 32) (s u : State), s.advance t = u ∧ u.evt.vecWaiting.contains v.val = true ∧ u.vecFree v = true) ∧
    (∃ (t : Nat) (v : Fin 32) (s u : State), s.advance t = u ∧ u.evt.pba.testBit v = true ∧ u.vecFree v = true) ∧
    (∃ (t : Nat) (p : TracePacket) (rest : List TracePacket) (s u : State), s.advance t = u ∧ u.trace.queue = p :: rest ∧ u.trace.dropped = 0 ∧
      u.trace.headAt + beatCycles 102 ≤ u.now) ∧
    (∃ (t : Nat) (s u : State), s.advance t = u) :=
  ⟨⟨0, 0, { stand Mode.IDLE with evt := { vecWaiting := [0] } }, _, rfl, by decide +kernel⟩,
   ⟨0, 0, { stand Mode.IDLE with evt := { pba := 1 } }, _, rfl, by decide +kernel⟩,
   ⟨0, (.loss 1), [], { stand Mode.IDLE with trace := { queue := [((.loss 1 : TracePacket))] } }, _, rfl, by decide +kernel⟩,
   ⟨0, (stand Mode.IDLE), _, rfl⟩⟩

theorem witness_FormatsHaveTheirRanges :
    (∃ (b v : Nat), 0 < b ∧ v < 2 ^ b) ∧
    (∃ (b v : Nat), 0 < b ∧ v < 2 ^ b) ∧
    (∃ (b : Nat) (i : Int), 0 < b ∧ -(2 ^ (b - 1) : Int) ≤ i ∧ i ≤ (2 ^ (b - 1) : Int) - 1) ∧
    (∃ (b : Nat) (i : Int), 0 < b ∧ -(2 ^ (b - 1) : Int) ≤ i ∧ i ≤ (2 ^ (b - 1) : Int) - 1) :=
  ⟨⟨8, 255, by decide +kernel⟩,
   ⟨1, 1, by decide +kernel⟩,
   ⟨8, (-128), by decide +kernel⟩,
   ⟨8, 127, by decide +kernel⟩⟩

end Sys2Proof.Tests
end

section
/-! The formats of fields as balanced remainders (R5). -/

namespace Sys2Proof.Machine

/-- The range of `n` bits is the same number in both arithmetics. -/
theorem natCast_two_pow (n : Nat) : ((2 ^ n : Nat) : Int) = 2 ^ n := Int.natCast_pow 2 n

/-- Two's complement of `n` bits is the balanced remainder modulo 2^n. -/
theorem signed_eq_bmod {n : Nat} (hn : 0 < n) (v : Nat) : signed n v = (v : Int).bmod (2 ^ n) := by
  obtain ⟨k, rfl⟩ : ∃ k, n = k + 1 := ⟨n - 1, by omega⟩
  have hNat : 2 ^ (k + 1) = 2 * 2 ^ k := Nat.pow_succ'
  have hInt : (2 : Int) ^ (k + 1) = ((2 * 2 ^ k : Nat) : Int) := by rw [← Nat.pow_succ', natCast_two_pow]
  simp only [signed, Int.bmod_def, Nat.add_sub_cancel, ← Int.natCast_emod, hNat, hInt]
  generalize 2 ^ k = p
  generalize v % (2 * p) = x
  have hhalf : (2 * p + 1) / 2 = p := by omega
  split <;> split <;> omega

/-- Half the range of `b` bits, rounded up or down, is the weight of the sign bit. -/
theorem half_two_pow {b : Nat} (hb : 0 < b) :
    ((2 ^ b : Nat) : Int) / 2 = 2 ^ (b - 1) ∧ (((2 ^ b : Nat) : Int) + 1) / 2 = 2 ^ (b - 1) := by
  obtain ⟨k, rfl⟩ : ∃ k, b = k + 1 := ⟨b - 1, by omega⟩
  have h : ((2 ^ (k + 1) : Nat) : Int) = 2 * 2 ^ k := by rw [natCast_two_pow, Int.pow_succ']
  rw [h, Nat.add_sub_cancel]
  constructor <;> omega

theorem signed_range {b : Nat} (hb : 0 < b) (v : Nat) :
    -(2 ^ (b - 1) : Int) ≤ signed b v ∧ signed b v ≤ (2 ^ (b - 1) : Int) - 1 := by
  obtain ⟨hlo, hhi⟩ := half_two_pow hb
  rw [signed_eq_bmod hb, ← hlo]
  refine ⟨Int.le_bmod (Nat.two_pow_pos b), ?_⟩
  have hlt := Int.bmod_lt (x := v) (Nat.two_pow_pos b)
  omega

/-- A number that the field can hold comes back from the bits that it is written as. -/
theorem unsigned_signed {b v : Nat} (hb : 0 < b) (hv : v < 2 ^ b) : unsigned b (signed b v) = v := by
  have hrem : (v : Int).bmod (2 ^ b) % (2 ^ b : Int) = v % (2 ^ b : Int) := by
    rw [← natCast_two_pow, Int.bmod_emod]
  have hfits : (v : Int) % (2 ^ b : Int) = v := by
    rw [← natCast_two_pow, ← Int.natCast_emod, Nat.mod_eq_of_lt hv]
  rw [signed_eq_bmod hb, unsigned, hrem, hfits, Int.toNat_natCast]

theorem signed_unsigned {b : Nat} {i : Int} (hb : 0 < b) (hlo : -(2 ^ (b - 1) : Int) ≤ i) (hhi : i ≤ (2 ^ (b - 1) : Int) - 1) :
    signed b (unsigned b i) = i := by
  obtain ⟨hfloor, hceil⟩ := half_two_pow hb
  have hbits : ((unsigned b i : Nat) : Int) = i % ((2 ^ b : Nat) : Int) := by
    have hne : ((2 ^ b : Nat) : Int) ≠ 0 := Int.natCast_ne_zero.mpr (Nat.ne_of_gt (Nat.two_pow_pos b))
    rw [unsigned, ← natCast_two_pow, Int.toNat_of_nonneg (Int.emod_nonneg i hne)]
  rw [signed_eq_bmod hb, hbits, Int.emod_bmod]
  exact Int.bmod_eq_of_le (by omega) (by omega)

theorem State.fld_le (s : State) (a lo n : Nat) : s.fld a lo n ≤ 2 ^ n - 1 :=
  Nat.le_sub_one_of_lt (Nat.mod_lt _ (Nat.two_pow_pos n))

/-- Settles O60: a signed field is the balanced remainder of its bits, which has the range of two's complement and names its bits. -/
theorem formatsHaveTheirRanges : Obligations.FormatsHaveTheirRanges := by
  refine ⟨fun b v hb hv => ?_, fun b i hb hlo hhi => signed_unsigned hb hlo hhi, fun a lo b u => u.fld_le a lo b⟩
  obtain ⟨hlo, hhi⟩ := signed_range hb v
  exact ⟨hlo, hhi, unsigned_signed hb hv⟩

end Sys2Proof.Machine
end

section
/-! Register writes: what REGISTER_WRITE does when a cause refuses it, and when it has no command of its own (R6, R7, R9, R424). -/

namespace Sys2Proof.Machine

theorem exec_registerWrite (t : Nat) (req : Requester) (a size : Nat) (w : Word) (s : State) :
    exec (.registerWrite t req a size w) s = .next ((s.advance t).writeAny req a size w) := rfl

/-! ## Refused writes -/

/-- A write of any size that a cause refuses does what the cause says. -/
theorem State.writeAny_refused {s : State} {req : Requester} {a size : Nat} {w : Word} {c : Cause}
    (h : writeCause s req a size w = some c) : s.writeAny req a size w = s.refuse req a w c := by
  unfold State.writeAny
  split
  · simp only [h]
  · simp only [State.plainWrite, State.guarded, h]

/-- `n` differs from `u` by a refusal's report: the count of early accesses, and at most one event. -/
def RefusalKeeps (u n : State) : Prop :=
  SameRegs u n [Reg.CLKRST_EARLY_CNT] ∧ n.rws = u.rws ∧ n.atMode = u.atMode ∧ n.hbm = u.hbm ∧ n.lanes = u.lanes ∧
    n.raised.length ≤ u.raised.length + 1

theorem refusalKeeps_self (u : State) : RefusalKeeps u u := ⟨fun _ _ => rfl, rfl, rfl, rfl, rfl, Nat.le_succ _⟩

theorem refusalKeeps_raise (u : State) (code : Nat) (args : List Nat) : RefusalKeeps u (u.raise code args) :=
  ⟨fun _ _ => rfl, rfl, rfl, rfl, rfl, Nat.le_of_eq (List.length_append ..)⟩

theorem refusalKeeps_earlyAccess (u : State) (bar off : Nat) : RefusalKeeps u (u.earlyAccess bar off) := by
  have hregs : SameRegs u (u.incFld Reg.CLKRST_EARLY_CNT 0 16 1) [Reg.CLKRST_EARLY_CNT] := fun a ha =>
    State.reg_setFld_ne _ _ _ _ _ _ fun e => ha (e ▸ List.mem_cons_self)
  unfold State.earlyAccess
  simp only
  split
  · exact ⟨hregs, rfl, rfl, rfl, rfl, Nat.le_succ _⟩
  · exact ⟨hregs, rfl, rfl, rfl, rfl, Nat.le_of_eq (List.length_append ..)⟩

/-- Whatever the cause, a refusal reports and does no more. -/
theorem refusalKeeps_refuse (u : State) (req : Requester) (a : Nat) (w : Word) (c : Cause) : RefusalKeeps u (u.refuse req a w c) := by
  cases c with
  | early => exact refusalKeeps_earlyAccess u 0 a
  | descOwned n =>
    simp only [State.refuse]
    split
    · exact refusalKeeps_self u
    · exact refusalKeeps_raise { u with store := { u.store with owned := n :: u.store.owned } } _ _
  | blockBusy | unpowered | needleMode | unmapped | size | notMaster | locked | encoding | own => exact refusalKeeps_raise u _ _

/-- Settles O7: a refused write is its refusal, and every refusal only reports. -/
theorem refusedWritesChangeNoRegister : Obligations.RefusedWritesChangeNoRegister := by
  constructor
  · rintro t req a size w c s u rfl hc
    refine ⟨_, rfl, ?_⟩
    have hn := State.writeAny_refused hc
    exact ⟨hn, hn ▸ refusalKeeps_refuse _ req a w c⟩
  · rintro t req a w s u rfl - hc
    rw [exec_registerWrite, State.writeAny_refused hc, State.refuse]

/-! ## Accepted writes -/

/-- An accepted write that spells no command places its bits, and is then forwarded. -/
theorem State.writeAny_plain {s : State} {req : Requester} {a : Nat} {w : Word} (h : s.accepts req a w)
    (hlow : s.rowLow req a w = none) (hhigh : s.rowHigh req a w = none) :
    s.writeAny req a 4 w = (s.writeReg req a (w &&& writeMask a)).mirror req a (w &&& writeMask a) := by
  have hplain : s.plainWrite req a 4 w = _ := State.guarded_ok h
  unfold State.writeAny
  split
  · rw [show writeCause s req a 4 w = none from h, hlow, hhigh]
    exact hplain
  · exact hplain

theorem State.retarget_chain (s : State) : s.retarget.chain = s.chain := by
  unfold State.retarget State.aim
  split
  · split <;> rfl
  · rfl

/-- The write of a masked word to `a` waits for a commit. -/
def State.await (s : State) (req : Requester) (a : Nat) (w : Word) : State :=
  { s with rws := putWrite s.rws ⟨a, w, s.now, req⟩ }

/-- A write of SCAN_TIMING waits, and TARGET of a pending GO then follows the boundary that the new timing gives (R171). -/
theorem State.writeReg_scanTiming (s : State) (req : Requester) (w : Word) :
    s.writeReg req Reg.SCAN_TIMING w = (s.await req Reg.SCAN_TIMING w).retarget := rfl

theorem exec_registerWrite_scanTiming {t : Nat} {req : Requester} {w : Word} {s u : State} (hu : s.advance t = u) (halone : u.alone)
    (hok : u.accepts req Reg.SCAN_TIMING w) :
    exec (.registerWrite t req Reg.SCAN_TIMING 4 w) s =
      .next (u.await req Reg.SCAN_TIMING (w &&& writeMask Reg.SCAN_TIMING)).retarget := by
  have hforward : (u.await req Reg.SCAN_TIMING (w &&& writeMask Reg.SCAN_TIMING)).retarget.alone := by
    rw [State.alone, State.retarget_chain]; exact halone
  rw [exec_registerWrite, hu, State.writeAny_plain hok rfl rfl, State.writeReg_scanTiming, State.mirror_alone _ _ _ _ hforward]

/-- A device in SHOW at 60 Hz with epoch alignment, every domain on, as the window of frame 120 opens. -/
def showingAt60 : State :=
  { ((((State.reset.setNat Reg.GLB_MODE_STAT Mode.SHOW).setNat Reg.CLKRST_CASTON_STAT 0x20).setNat Reg.PWR_DOMAIN_STAT0
      0xFFFFFFFF).setNat Reg.PWR_DOMAIN_STAT1 0xFFFFFFFF).setNat Reg.PWR_DOMAIN_STAT2 0xFFFF with
    now := 800000000
    frame := { cadence := some State.reset.scanCadence
               cur := some { count := 120, flip := 2000000000, window := 10000, form := .full, mode := Mode.SHOW }
               openedAt := 800000000 } }

/-- That device once GO is written: the commit is due at the latch of frame 121. -/
def goPendingAt60 : State := showingAt60.commitGo

/-- The word that asks for 30 Hz, epoch alignment and the automatic window. -/
def timing30 : Word := 4

theorem goPendingAt60_accepts : goPendingAt60.accepts .host Reg.SCAN_TIMING timing30 := by decide +kernel

/-- TARGET names frame 121 while the write of 30 Hz only waits. -/
theorem target_await : (goPendingAt60.await .host Reg.SCAN_TIMING (timing30 &&& writeMask Reg.SCAN_TIMING)).fld Reg.SCAN_COMMIT 16 16 = 121 := by
  decide +kernel

/-- The commit would place 30 Hz, whose first frame behind frame 120 has count 61: TARGET moves there. -/
theorem target_retarget :
    (goPendingAt60.await .host Reg.SCAN_TIMING (timing30 &&& writeMask Reg.SCAN_TIMING)).retarget.fld Reg.SCAN_COMMIT 16 16 = 61 := by
  decide +kernel

/-- Refutes O6: while a GO is pending, a write of SCAN_TIMING that moves the commit's frame changes SCAN_COMMIT.TARGET at once (R171),
so the state is not the old one with one more waiting write. -/
theorem not_acceptedWritesWaitOrApply : ¬ Obligations.AcceptedWritesWaitOrApply := by
  rintro ⟨hwaits, -, -⟩
  have hadv : goPendingAt60.advance goPendingAt60.now = goPendingAt60 := State.advance_now_self _
  have halone : goPendingAt60.alone := by decide +kernel
  have hclaim : exec (.registerWrite goPendingAt60.now .host Reg.SCAN_TIMING 4 timing30) goPendingAt60 =
      .next (goPendingAt60.await .host Reg.SCAN_TIMING (timing30 &&& writeMask Reg.SCAN_TIMING)) :=
    hwaits _ _ _ _ _ _ hadv halone (by decide) (by decide +kernel) goPendingAt60_accepts
  rw [exec_registerWrite_scanTiming hadv halone goPendingAt60_accepts] at hclaim
  have hsame := congrArg (·.fld Reg.SCAN_COMMIT 16 16) (Host.Outcome.next.inj hclaim)
  rw [target_retarget, target_await] at hsame
  exact absurd hsame (by decide)

end Sys2Proof.Machine
end

section
/-! Registers after a counter goes up, and which registers an update leaves alone. -/

namespace Sys2Proof

/-- A field of a word made from a number. -/
theorem Word.field_ofNat {n lo k : Nat} (h : lo + k ≤ 32) : (Word.ofNat n).field lo k = n / 2 ^ lo % 2 ^ k := by
  apply Nat.eq_of_testBit_eq
  intro i
  rw [Word.field_testBit, Word.ofNat, BitVec.getLsbD_ofNat, Nat.testBit_mod_two_pow, Nat.testBit_div_two_pow, Nat.add_comm i lo]
  by_cases hi : i < k
  · simp [hi, show lo + i < 32 by omega]
  · simp [hi]

end Sys2Proof

namespace Sys2Proof.Machine

/-- A saturating field after it was added to. -/
theorem State.fld_incFld_self (s : State) (a lo n k : Nat) (h : lo + n ≤ 32) :
    (s.incFld a lo n k).fld a lo n = min (2 ^ n - 1) (s.fld a lo n + k) := by
  have hpos : 0 < 2 ^ n := Nat.two_pow_pos n
  rw [State.incFld, State.fld_setFld_self _ _ _ _ _ h, satTo_min, Nat.mod_eq_of_lt (by omega)]

theorem SameRegs.refl (u : State) (l : List Nat) : SameRegs u u l := fun _ _ => rfl

/-- Setting a register of the list changes no register outside it. -/
theorem SameRegs.setReg {u n : State} {l : List Nat} {a : Nat} (h : SameRegs u n l) (ha : a ∈ l) (w : Word) :
    SameRegs u (n.setReg a w) l :=
  fun b hb => (State.reg_setReg_ne n a b w fun e => hb (e ▸ ha)).trans (h b hb)

end Sys2Proof.Machine
end

section
/-! Times in control-clock cycles (R18). -/

namespace Sys2Proof.Machine

theorem ms_eq_us (n : Nat) : ms n = 1000 * us n := by
  simp only [ms, us]
  omega

/-- A cycle is 2.5 ns: the cycles of `n` ns are the least number that reaches `n` ns. -/
theorem nsCycles_ceil (n : Nat) : 2 * n ≤ 5 * nsCycles n ∧ 5 * nsCycles n < 2 * n + 5 := by
  simp only [nsCycles]
  omega

/-- Settles O59: a millisecond is a whole number of cycles, and of nanoseconds the quotient rounds up. -/
theorem timesRoundUpToCycles : Obligations.TimesRoundUpToCycles :=
  ⟨rfl, rfl, fun n => ⟨rfl, ms_eq_us n⟩, nsCycles_ceil⟩

end Sys2Proof.Machine
end

section
/-! The expert lock (R22). -/

namespace Sys2Proof.Machine

theorem exec_glbExpertWrite (t : Nat) (req : Requester) (w : Word) (s : State) :
    exec (.glbExpertWrite t req w) s = .next ((s.advance t).guarded req Reg.GLB_EXPERT 4 w fun s w =>
      s.setBit Reg.GLB_EXPERT_STAT 0 (decide (w = expertKey))) := rfl

/-- Every bit of GLB_EXPERT can be written, so the whole word is compared with the key. -/
theorem writeMask_glbExpert : writeMask Reg.GLB_EXPERT = BitVec.allOnes 32 := by decide

/-- Settles O5: the whole word reaches the comparison with the key, and the register is local to its member. -/
theorem expertKeyUnlocksThePages : Obligations.ExpertKeyUnlocksThePages := by
  rintro t req w s u rfl hok
  rw [exec_glbExpertWrite, State.guarded_ok hok, State.mirror_local _ _ _ _ (by decide), writeMask_glbExpert, BitVec.and_allOnes]
  rfl

end Sys2Proof.Machine
end

section
/-! The content of HBM and its source tags after a write (R13, R257, R266). -/

namespace Sys2Proof.Machine

/-- Bytes of HBM after a write: those of the memory that holds them. -/
theorem State.byte_hbmWrite (u : State) (a tg : Nat) (bs : List Byte) (b : Nat) :
    (u.hbmWrite a bs tg).byte b = (mapGet (memWrite u.hbm.mem a bs) b).getD (Config.undefinedByte u.hbm.epoch b) := by
  simp only [State.byte, State.hbmWrite, State.touchHbm_hbm, State.tag]

/-- A block's tag in a list of tags, where no entry stands for tag 0. -/
theorem getD_mapGet_setTag (m : List (Nat × Nat)) (x b tg : Nat) :
    (mapGet (if tg = 0 then mapErase m x else mapPut m x tg) b).getD 0 = if x = b then tg else (mapGet m b).getD 0 := by
  by_cases htg : tg = 0
  · rw [if_pos htg, mapGet_mapErase, htg]
    split <;> rfl
  · rw [if_neg htg, mapGet_mapPut]
    split <;> rfl

/-- Tagging the blocks of a list in turn gives each of them the tag, and no other block. -/
theorem getD_mapGet_setTags (l : List Nat) (m : List (Nat × Nat)) (b tg : Nat) :
    (mapGet (l.foldl (fun m x => if tg = 0 then mapErase m x else mapPut m x tg) m) b).getD 0 =
      if b ∈ l then tg else (mapGet m b).getD 0 := by
  induction l generalizing m with
  | nil => simp
  | cons x l ih =>
    rw [List.foldl_cons, ih, getD_mapGet_setTag]
    by_cases hx : x = b
    · simp [hx]
    · simp [hx, Ne.symm hx]

theorem State.tagOf_hbmWrite (u : State) (a tg : Nat) (bs : List Byte) (b : Nat) :
    (u.hbmWrite a bs tg).tagOf b = if b ∈ blocksOf a bs.length then tg else u.tagOf b := by
  simp only [State.tagOf, State.hbmWrite, State.touchHbm_hbm, State.tag]
  exact getD_mapGet_setTags _ _ _ _

theorem State.hbmWrite_regs (u : State) (a tg : Nat) (bs : List Byte) : (u.hbmWrite a bs tg).regs = u.regs := State.touchHbm_regs _

theorem State.hbmWrite_raised (u : State) (a tg : Nat) (bs : List Byte) : (u.hbmWrite a bs tg).raised = u.raised := State.touchHbm_raised _

/-- Settles O33: the memory reads back what was stored in it, and the fold over the touched blocks sets their tags. -/
theorem hbmReadsWhatWasWritten : Obligations.HbmReadsWhatWasWritten := by
  refine ⟨fun a k tg bs u hk => ?_, fun a b tg bs u hb => ?_, fun a b tg bs u => u.tagOf_hbmWrite a tg bs b,
    fun a tg bs u => ⟨?_, ?_⟩⟩
  · rw [State.byte_hbmWrite, memWrite_inside _ _ _ _ hk, Option.getD_some, List.getElem_eq_getD]
  · rw [State.byte_hbmWrite, memWrite_outside _ _ _ _ hb, State.byte]
  · exact fun r _ => State.reg_congr (u.hbmWrite_regs a tg bs) r
  · exact u.hbmWrite_raised a tg bs

end Sys2Proof.Machine
end

section
/-! Fabric parity errors: the transfers under replay, the third failure of one, and the cause FABRIC_CRITICAL (R19 to R21). -/

namespace Sys2Proof.Machine

/-! ## Transfers under replay -/

/-- The failures `x` are those of transfer `tr` of hop `hop`. -/
def isFailureOf (hop tr : Nat) (x : Nat × Nat × Nat × Nat) : Bool := x.1 == hop && x.2.1 == tr

theorem State.failuresOf_eq (s : State) (hop tr : Nat) :
    s.failuresOf hop tr = (((s.replaying hop).find? (isFailureOf hop tr)).map fun x => x.2.2.1).getD 0 := rfl

/-- What is under replay has failed. -/
theorem State.mem_fails_of_mem_replaying {s : State} {hop : Nat} {x : Nat × Nat × Nat × Nat} (h : x ∈ s.replaying hop) :
    x ∈ s.fabric.fails := by
  rcases List.mem_append.mp h with h | h
  · exact (List.mem_filter.mp (List.mem_filter.mp h).1).1
  · exact (List.mem_filter.mp (List.mem_filter.mp (List.mem_of_mem_drop h)).1).1

/-- A failure of this very cycle comes last among those of its hop, and the limit of 32 transfers does not drop it. -/
theorem State.replaying_append_now {s : State} {hop tr k : Nat} {l : List (Nat × Nat × Nat × Nat)}
    (h : s.fabric.fails = l ++ [(hop, tr, k, s.now)]) :
    ∃ l', s.replaying hop = l' ++ [(hop, tr, k, s.now)] ∧ ∀ x ∈ l', x ∈ l := by
  obtain ⟨o, hopen, hl⟩ : ∃ o,
      (s.fabric.fails.filter fun x => decide (s.now ≤ x.2.2.2 + replayCycles)) = o ++ [(hop, tr, k, s.now)] ∧ ∀ x ∈ o, x ∈ l :=
    ⟨l.filter fun x => decide (s.now ≤ x.2.2.2 + replayCycles), by simp [h, List.filter_append],
      fun x hx => (List.mem_filter.mp hx).1⟩
  refine ⟨o.filter (fun x => x.1 != hop) ++
    (o.filter fun x => x.1 == hop).drop ((o.filter fun x => x.1 == hop).length + 1 - 31), ?_, ?_⟩
  · simp [State.replaying, hopen, List.filter_append, List.drop_append_of_le_length]
  · intro x hx
    rcases List.mem_append.mp hx with hx | hx
    · exact hl x (List.mem_filter.mp hx).1
    · exact hl x (List.mem_filter.mp (List.mem_of_mem_drop hx)).1

/-- A transfer whose latest failure is of this cycle counts what that failure says. -/
theorem State.failuresOf_append_now {s : State} {hop tr k : Nat} {l : List (Nat × Nat × Nat × Nat)}
    (h : s.fabric.fails = l ++ [(hop, tr, k, s.now)]) (hl : ∀ x ∈ l, isFailureOf hop tr x = false) : s.failuresOf hop tr = k := by
  obtain ⟨l', hrep, hsub⟩ := State.replaying_append_now h
  have hnone : l'.find? (isFailureOf hop tr) = none := List.find?_eq_none.mpr fun x hx => by simp [hl x (hsub x hx)]
  simp [State.failuresOf_eq, hrep, List.find?_append, hnone, isFailureOf]

/-- A transfer without a recorded failure counts none. -/
theorem State.failuresOf_eq_zero {s : State} {hop tr : Nat} (h : ∀ x ∈ s.fabric.fails, isFailureOf hop tr x = false) :
    s.failuresOf hop tr = 0 := by
  have hnone : (s.replaying hop).find? (isFailureOf hop tr) = none :=
    List.find?_eq_none.mpr fun x hx => by simp [h x (State.mem_fails_of_mem_replaying hx)]
  simp [State.failuresOf_eq, hnone]

/-- The failures of the other transfers under replay. -/
def State.otherFailures (s : State) (hop tr : Nat) : List (Nat × Nat × Nat × Nat) :=
  (s.replaying hop).filter fun x => !isFailureOf hop tr x

theorem State.otherFailures_not {s : State} {hop tr : Nat} : ∀ x ∈ s.otherFailures hop tr, isFailureOf hop tr x = false :=
  fun _ hx => by simpa using (List.mem_filter.mp hx).2

/-! ## A parity error -/

/-- The failures of transfers that the device holds. -/
def State.withFails (s : State) (l : List (Nat × Nat × Nat × Nat)) : State := { s with fabric := { s.fabric with fails := l } }

/-- A failure that its hop replays is counted in REPLAYS and remembered with this cycle (R19). -/
def State.replayed (s : State) (hop tr : Nat) : State :=
  (s.withFails (s.otherFailures hop tr ++ [(hop, tr, s.failuresOf hop tr + 1, s.now)])).incFld Reg.GLB_FABRIC_CNT 0 16 1

/-- An uncorrectable error of class `cls` is forgotten as a replay, counted in UNCORR and recorded in GLB_FABRIC_LAST (R20). -/
def State.uncorrRecorded (s : State) (hop cls tr : Nat) : State :=
  ((s.withFails (s.otherFailures hop tr)).incFld Reg.GLB_FABRIC_CNT 16 16 1).setNat Reg.GLB_FABRIC_LAST (hop % 256 + cls % 16 * 256)

theorem exec_fabricParityError_replayed {t hop cls tr addr v st : Nat} {e : List Byte} {s u : State} (hu : s.advance t = u)
    (hk : u.failuresOf hop tr < 2) : exec (.fabricParityError t hop cls tr addr v st e) s = .next (u.replayed hop tr) := by
  subst hu
  exact congrArg _ (if_pos (Nat.succ_lt_succ hk))

theorem exec_fabricParityError_uncorr {t hop cls tr addr v st : Nat} {e : List Byte} {s u : State} (hu : s.advance t = u)
    (hk : 2 ≤ u.failuresOf hop tr) (hcls : cls = 2 ∨ cls = 3) :
    exec (.fabricParityError t hop cls tr addr v st e) s =
      .next ((((u.uncorrRecorded hop cls tr).raise Ev.FABRIC_UNCORR [hop, cls, addr]).fabricOutcome cls addr v st e).fabricCritical) := by
  subst hu
  have haddr : (if cls = 2 ∨ cls = 3 then addr else addr / 8) = addr := if_pos hcls
  refine (congrArg _ (if_neg (by omega))).trans ?_
  rw [haddr]
  rfl

/-- A register read that fails returns all ones; a register write that fails is not applied (Table 1-4). -/
theorem State.fabricOutcome_register {s : State} {cls addr v st : Nat} {e : List Byte} (hcls : cls = 2 ∨ cls = 3) :
    s.fabricOutcome cls addr v st e = if cls = 2 then s.emit (.completion [0xFF, 0xFF, 0xFF, 0xFF]) else s := by
  rcases hcls with rfl | rfl <;> rfl

/-- Below 16 uncorrectable errors within a second, an error is noted and nothing else changes (R21). -/
theorem State.fabricCritical_below {s : State} (h : s.fabric.uncorr.length < 15) :
    s.fabricCritical.regs = s.regs ∧ s.fabricCritical.fabric.fails = s.fabric.fails ∧ s.fabricCritical.raised = s.raised ∧
      s.fabricCritical.outbox = s.outbox := by
  have hle := List.length_filter_le (fun x => decide (s.now < x + ms 1000)) s.fabric.uncorr
  have hnoted : s.fabricCritical =
      { s with fabric := { s.fabric with uncorr := (s.fabric.uncorr.filter fun x => s.now < x + ms 1000) ++ [s.now] } } := by
    refine if_neg ?_
    rw [List.length_append, List.length_singleton]
    omega
  rw [hnoted]
  exact ⟨rfl, rfl, rfl, rfl⟩

/-! ## What the records read -/

theorem State.replayed_counts (u : State) (hop tr : Nat) :
    (u.replayed hop tr).fld Reg.GLB_FABRIC_CNT 0 16 = min 65535 (u.fld Reg.GLB_FABRIC_CNT 0 16 + 1) ∧
    (u.replayed hop tr).fld Reg.GLB_FABRIC_CNT 16 16 = u.fld Reg.GLB_FABRIC_CNT 16 16 :=
  ⟨State.fld_incFld_self _ _ _ _ _ (by decide), State.fld_setFld_same _ _ _ _ _ _ _ (by decide)⟩

theorem State.sameRegs_replayed (u : State) (hop tr : Nat) : SameRegs u (u.replayed hop tr) [Reg.GLB_FABRIC_CNT] :=
  (SameRegs.refl u _).setReg List.mem_cons_self _

theorem State.failuresOf_replayed (u : State) (hop tr : Nat) : (u.replayed hop tr).failuresOf hop tr = u.failuresOf hop tr + 1 :=
  State.failuresOf_append_now rfl State.otherFailures_not

theorem State.uncorrRecorded_counts (u : State) (hop cls tr : Nat) :
    (u.uncorrRecorded hop cls tr).fld Reg.GLB_FABRIC_CNT 16 16 = min 65535 (u.fld Reg.GLB_FABRIC_CNT 16 16 + 1) ∧
    (u.uncorrRecorded hop cls tr).fld Reg.GLB_FABRIC_CNT 0 16 = u.fld Reg.GLB_FABRIC_CNT 0 16 := by
  have hlast (s : State) (v lo n : Nat) : (s.setNat Reg.GLB_FABRIC_LAST v).fld Reg.GLB_FABRIC_CNT lo n = s.fld Reg.GLB_FABRIC_CNT lo n := by
    rw [State.fld, State.setNat, State.reg_setReg_ne _ _ _ _ (by decide), State.fld]
  simp only [State.uncorrRecorded, hlast]
  exact ⟨State.fld_incFld_self _ _ _ _ _ (by decide), State.fld_setFld_same _ _ _ _ _ _ _ (by decide)⟩

/-- GLB_FABRIC_LAST names the hop and the class. -/
theorem State.uncorrRecorded_last (u : State) (hop cls tr : Nat) :
    (u.uncorrRecorded hop cls tr).fld Reg.GLB_FABRIC_LAST 0 8 = hop % 256 ∧
    (u.uncorrRecorded hop cls tr).fld Reg.GLB_FABRIC_LAST 8 4 = cls % 16 := by
  simp only [State.fld, State.uncorrRecorded, State.setNat, State.reg_setReg_self]
  rw [Word.field_ofNat (by decide), Word.field_ofNat (by decide)]
  constructor <;> omega

theorem State.sameRegs_uncorrRecorded (u : State) (hop cls tr : Nat) :
    SameRegs u (u.uncorrRecorded hop cls tr) [Reg.GLB_FABRIC_CNT, Reg.GLB_FABRIC_LAST] :=
  ((SameRegs.refl u _).setReg (by decide) _).setReg (by decide) _

/-- The third failure of a register access: the records of R20, the event, and all ones for a read. -/
theorem exec_fabricParityError_register {t hop cls tr addr v st : Nat} {e : List Byte} {s u : State} (hu : s.advance t = u)
    (hk : 2 ≤ u.failuresOf hop tr) (hcls : cls = 2 ∨ cls = 3) (hfew : u.fabric.uncorr.length < 15) :
    ∃ n : State, exec (.fabricParityError t hop cls tr addr v st e) s = .next n ∧ n.regs = (u.uncorrRecorded hop cls tr).regs ∧
      n.fabric.fails = u.otherFailures hop tr ∧ n.raised = (u.raise Ev.FABRIC_UNCORR [hop, cls, addr]).raised ∧
      n.outbox = if cls = 2 then u.outbox ++ [.completion [0xFF, 0xFF, 0xFF, 0xFF]] else u.outbox := by
  refine ⟨_, exec_fabricParityError_uncorr hu hk hcls, ?_⟩
  rw [State.fabricOutcome_register hcls]
  split <;> exact State.fabricCritical_below hfew

/-! ## CLEAR and the end of FABRIC_CRITICAL -/

theorem exec_fabricCtlClear (t : Nat) (req : Requester) (w : Word) (s : State) :
    exec (.fabricCtlClear t req w) s = .next ((s.advance t).guarded req Reg.GLB_FABRIC_CTL 4 w fun s w =>
      if w.bit 0 then s.setReg Reg.GLB_FABRIC_CNT 0 else s) := rfl

/-- CLEAR is a bit that a write can place. -/
theorem bit_and_writeMask_fabricCtl (w : Word) : (w &&& writeMask Reg.GLB_FABRIC_CTL).bit 0 = w.bit 0 := by
  have hmask : (writeMask Reg.GLB_FABRIC_CTL).getLsbD 0 = true := by decide
  simp only [Word.bit, BitVec.getLsbD_and, hmask, Bool.and_true]

theorem exec_fabricCriticalCauseExpiry {t e : Nat} {s u : State} (hu : s.advance t = u) (he : u.fabric.criticalEnd = some e)
    (hend : e ≤ u.now) :
    exec (.fabricCriticalCauseExpiry t) s =
      .next (({ u with fabric := { u.fabric with criticalEnd := none } } : State).causeEnds 2) := by
  subst hu
  have hrun : exec (.fabricCriticalCauseExpiry t) s = execFabricCriticalCauseExpiry t s := rfl
  simp only [hrun, execFabricCriticalCauseExpiry, he, if_pos hend]

/-- Settles O9: a replayed failure is remembered with its cycle and so counts on; the third drops the transfer from those under
replay and records it; CLEAR and the expiry each set what they name. -/
theorem fabricErrorsAreReplayedThenReported : Obligations.FabricErrorsAreReplayedThenReported := by
  refine ⟨?_, ?_, ?_, ?_⟩
  · rintro t hop cls tr addr v st k e s u hu rfl hk
    obtain ⟨hreplays, huncorr⟩ := u.replayed_counts hop tr
    exact ⟨_, exec_fabricParityError_replayed hu hk, u.failuresOf_replayed hop tr, hreplays, huncorr,
      u.sameRegs_replayed hop tr, rfl, rfl, rfl⟩
  · intro t hop cls tr addr v st e s u hu hcls hk hfew
    obtain ⟨n, hexec, hregs, hfails, hraised, houtbox⟩ := exec_fabricParityError_register hu (Nat.le_of_eq hk.symm) hcls hfew
    obtain ⟨huncorr, hreplays⟩ := u.uncorrRecorded_counts hop cls tr
    obtain ⟨hhop, hclass⟩ := u.uncorrRecorded_last hop cls tr
    have hreg := State.reg_congr hregs
    have hfld (a lo k : Nat) : n.fld a lo k = (u.uncorrRecorded hop cls tr).fld a lo k := by rw [State.fld, hreg, State.fld]
    refine ⟨n, hexec, State.failuresOf_eq_zero (hfails ▸ State.otherFailures_not), (hfld _ _ _).trans huncorr,
      (hfld _ _ _).trans hreplays, (hfld _ _ _).trans hhop, ?_, fun a ha => ?_, hraised, houtbox⟩
    · rw [hfld, hclass]
      omega
    · rw [hreg, u.sameRegs_uncorrRecorded hop cls tr a ha]
  · rintro t req w s u rfl hok hclear
    rw [exec_fabricCtlClear, State.guarded_ok hok, bit_and_writeMask_fabricCtl, if_pos hclear, State.mirror_local _ _ _ _ (by decide)]
  · intro t e s u hu he hend
    exact ⟨_, exec_fabricCriticalCauseExpiry hu he hend, State.bit_setBit_self _ _ _ _ (by decide),
      (SameRegs.refl u _).setReg List.mem_cons_self _, rfl⟩

end Sys2Proof.Machine
end

section
/-! What leaves the delivery of the frame alone: the decompressors' bookkeeping, the chain and panel links, HBM content. -/

namespace Sys2Proof.Machine

/-- What of a state the delivery of the frame goes by: the frame, the mode machine, and the events raised. -/
def State.delivery (s : State) : FrameState × ModeState × List Event := (s.frame, s.mode, s.raised)

theorem State.frame_of_delivery {n u : State} (h : n.delivery = u.delivery) : n.frame = u.frame := congrArg (·.1) h

theorem State.mode_of_delivery {n u : State} (h : n.delivery = u.delivery) : n.mode = u.mode := congrArg (·.2.1) h

theorem State.raised_of_delivery {n u : State} (h : n.delivery = u.delivery) : n.raised = u.raised := congrArg (·.2.2) h

/-- What every step of a run through a list keeps, the run keeps. -/
theorem State.each_keeps {α β : Type} {g : State → β} {f : State → α → State} (h : ∀ s x, g (f s x) = g s) (s : State)
    (l : List α) : g (s.each l f) = g s := by
  induction l generalizing s with
  | nil => rfl
  | cons x l ih => exact (ih (f s x)).trans (h s x)

@[simp] theorem State.delivery_setNat (s : State) (a v : Nat) : (s.setNat a v).delivery = s.delivery := rfl
@[simp] theorem State.delivery_emit (s : State) (o : Out) : (s.emit o).delivery = s.delivery := rfl

/-! ## The decompressors -/

@[simp] theorem State.delivery_refreshHank (s : State) : s.refreshHank.delivery = s.delivery := by
  unfold State.refreshHank
  exact State.each_keeps (g := State.delivery) (fun s e => s.delivery_setNat _ _) _ _

@[simp] theorem State.delivery_startEngine (s : State) (e : Nat) : (s.startEngine e).delivery = s.delivery := by
  unfold State.startEngine
  extract_lets x
  split
  · split <;> rfl
  · rfl

@[simp] theorem State.delivery_yieldEngine (s : State) (e : Nat) : (s.yieldEngine e).delivery = s.delivery := by
  unfold State.yieldEngine
  extract_lets x
  split
  · split <;> rfl
  · rfl

@[simp] theorem State.delivery_queueFlat (s : State) (x : FlatFetch) : (s.queueFlat x).delivery = s.delivery := by
  unfold State.queueFlat
  split
  · rw [State.delivery_refreshHank, State.delivery_yieldEngine]; rfl
  · rfl

/-- The end of a flat-ply fetch moves the decompressors on, and nothing of the frame. -/
@[simp] theorem State.delivery_endFlat (s : State) (x : FlatFetch) : (s.endFlat x).delivery = s.delivery := by
  unfold State.endFlat
  rw [State.delivery_refreshHank, State.each_keeps State.delivery_startEngine]
  split
  · rfl
  · rw [State.delivery_queueFlat]; rfl

/-! ## The chain -/

@[simp] theorem State.delivery_setChainPort (s : State) (p : Nat) (x : ChainPort) : (s.setChainPort p x).delivery = s.delivery := rfl

@[simp] theorem State.delivery_putGroup (s : State) (p : Nat) (h : Bool) (b : List Byte) : (s.putGroup p h b).delivery = s.delivery := by
  unfold State.putGroup
  extract_lets ls gone best
  clear_value best
  split
  · rfl
  · split <;> rfl

@[simp] theorem State.delivery_sendBlock (s : State) (p : Nat) (b : List Word × Bool) : (s.sendBlock p b).delivery = s.delivery := by
  unfold State.sendBlock State.sendGroup
  rw [State.delivery_emit, State.delivery_putGroup, State.delivery_setChainPort]

@[simp] theorem State.delivery_drainPort (s : State) (p fuel : Nat) : (s.drainPort p fuel).delivery = s.delivery := by
  induction fuel generalizing s with
  | zero => rfl
  | succ k ih =>
    unfold State.drainPort
    extract_lets x
    split
    · rfl
    · split
      · rw [ih, State.delivery_sendBlock, State.delivery_setChainPort]
      · rw [ih, State.delivery_sendBlock, State.delivery_setChainPort]
      · rfl

@[simp] theorem State.delivery_sendOn (s : State) (p : Nat) (k : Packet) : (s.sendOn p k).delivery = s.delivery := by
  unfold State.sendOn
  split
  · exact State.delivery_drainPort _ _ _
  · rfl

@[simp] theorem State.delivery_sendPartner (s : State) (kind : Nat) (body : List Word) : (s.sendPartner kind body).delivery = s.delivery := by
  unfold State.sendPartner State.sendTo
  split
  · split
    · exact State.delivery_sendOn _ _ _
    · rfl
  · rfl

/-! ## The panel lanes -/

@[simp] theorem State.delivery_putSlot (s : State) (l : Nat) (h : Bool) (b : List Byte) : (s.putSlot l h b).delivery = s.delivery := by
  unfold State.putSlot
  split <;> rfl

@[simp] theorem State.delivery_sendSlot (s : State) (lane : Nat) (b : List Byte) : (s.sendSlot lane b).delivery = s.delivery :=
  State.delivery_putSlot _ _ _ _

@[simp] theorem State.delivery_sendPanel (s : State) (lane : Nat) (b : List Byte) : (s.sendPanel lane b).delivery = s.delivery := by
  unfold State.sendPanel
  split
  · exact State.delivery_sendSlot _ _ _
  · rfl

@[simp] theorem State.delivery_sendStream (s : State) (lane : Nat) (b : List Byte) : (s.sendStream lane b).delivery = s.delivery := by
  unfold State.sendStream
  split
  · exact State.delivery_sendSlot _ _ _
  · rfl

/-! ## HBM -/

@[simp] theorem State.delivery_hbmWrite (s : State) (a tg : Nat) (bs : List Byte) : (s.hbmWrite a bs tg).delivery = s.delivery := by
  simp [State.delivery, State.hbmWrite, State.tag]

@[simp] theorem State.delivery_clearLost (s : State) (b : Nat) : (s.clearLost b).delivery = s.delivery := rfl

@[simp] theorem State.delivery_countBytes (s : State) (e n : Nat) : (s.countBytes e n).delivery = s.delivery := by
  rw [State.countBytes, State.delivery_setNat, State.delivery_setNat]

@[simp] theorem State.delivery_refreshNeedle (s : State) : s.refreshNeedle.delivery = s.delivery :=
  State.delivery_setNat _ _ _

theorem State.refreshNeedle_frame (s : State) : s.refreshNeedle.frame = s.frame := State.frame_of_delivery s.delivery_refreshNeedle

theorem State.refreshNeedle_raised (s : State) : s.refreshNeedle.raised = s.raised := State.raised_of_delivery s.delivery_refreshNeedle

end Sys2Proof.Machine
end

section
/-! Ply fetches that complete or fail, and plies that are switched off (R157, R161, R267, R287, R472). -/

namespace Sys2Proof.Machine

/-! ## Ply fetches -/

theorem exec_plyFetchDone (t c ply : Nat) (l : Fin 128) (s : State) :
    exec (.plyFetchDone t l c ply) s = .next ((s.advance t).fetchDone l c ply) := rfl

theorem exec_plyFetchFail (t c ply r : Nat) (l : Fin 128) (s : State) :
    exec (.plyFetchFail t l c ply r) s = .next ((s.advance t).fetchFails l c ply r) := rfl

theorem State.fetchFailed_ply {s : State} {f : FrameInfo} {link course ply reason : Nat} (hf : s.rayFrame = some f) (hply : ply ≠ venueId) :
    s.fetchFailed link course ply reason = (s.switchOff f ply reason link course).runEngine := by
  simp only [State.fetchFailed, hf, if_neg hply]

/-- The venue ply stays on: the fetch is off the list, and its texels read as transparent in this course. -/
theorem State.fetchFailed_venue {s : State} {f : FrameInfo} {link course reason : Nat} (hf : s.rayFrame = some f) :
    s.fetchFailed link course venueId reason =
      ({ s with frame := { s.frame with
          failed := s.frame.failed ++ [(link, course, venueId)]
          fetches := s.frame.fetches.filter fun x => !(x.link == link && x.course == course && x.ply == venueId) } }).runEngine := by
  simp only [State.fetchFailed, hf, if_true]

theorem State.fetchFails_outstanding {s : State} {link course ply reason : Nat}
    (hx : (s.frame.fetches.any fun x => x.link == link && x.course == course && x.ply == ply) = true) :
    s.fetchFails link course ply reason = s.fetchFailed link course ply (if reason = 2 then 2 else 3) := if_pos hx

theorem State.fetchDone_lost {s : State} {f : FrameInfo} {x : Fetch} {link course ply : Nat} (hf : s.rayFrame = some f)
    (hx : (s.frame.fetches.find? fun y => y.link == link && y.course == course && y.ply == ply) = some x)
    (hlost : s.fetchHits f x s.lostIn = true) : s.fetchDone link course ply = s.fetchFailed link course ply 3 := by
  simp only [State.fetchDone, hf, hx, hlost, if_true]

/-- A fetch that reads no lost block, and no flat tile that does not decode, leaves the list and its decompressor. -/
theorem State.fetchDone_completes {s : State} {f : FrameInfo} {x : Fetch} {p : PlyRef} {link course ply : Nat} (hf : s.rayFrame = some f)
    (hx : (s.frame.fetches.find? fun y => y.link == link && y.course == course && y.ply == ply) = some x)
    (hp : (s.frame.order.find? fun y => y.id == ply) = some p) (hlost : s.fetchHits f x s.lostIn = false)
    (hflat : p.flat = true → ∀ k : LinkFrame, s.linkFrame link = some k → s.flatError p (s.flatTilesOf f k course p) = none) :
    s.fetchDone link course ply = ((({ s with frame := { s.frame with fetches := s.frame.fetches.erase x } }).endFlat
      { link := link, course := course, ply := ply }).touchHbm).runEngine := by
  simp only [State.fetchDone, hf, hx, hp, hlost, Bool.false_eq_true, if_false]
  cases hk : s.linkFrame link with
  | none => rfl
  | some k =>
    cases hpf : p.flat with
    | false => simp only [hpf, Bool.false_eq_true, if_false]
    | true => simp only [hpf, if_true, hflat hpf k hk]

/-! ## Plies switched off -/

@[simp] theorem State.frame_showOff (s : State) : s.showOff.frame = s.frame := by
  unfold State.showOff
  split <;> rfl

/-- A ply that is taken off is listed with the cycle. -/
theorem State.takeOff_off (s : State) (ply : Nat) : (s.takeOff ply).frame.off = s.frame.off ++ [(ply, s.now)] := by
  unfold State.takeOff
  simp only [State.frame_showOff]
  rw [State.frame_of_delivery (State.each_keeps (g := State.delivery) (fun s x => s.delivery_endFlat _) _ _)]

@[simp] theorem State.delivery_tellOff (s : State) (ply reason link frame : Nat) : (s.tellOff ply reason link frame).delivery = s.delivery := by
  unfold State.tellOff
  split
  · exact State.delivery_sendPartner _ _ _
  · rfl

theorem State.switchOff_again {s : State} {f : FrameInfo} {ply reason link course : Nat}
    (h : (s.frame.off.any fun x => x.1 == ply) = true) : s.switchOff f ply reason link course = s := if_pos h

/-- A ply that was on is taken off, and RAY_PLY_OFF is the last event. -/
theorem State.switchOff_delivery {s : State} {f : FrameInfo} {ply reason link course : Nat}
    (h : (s.frame.off.any fun x => x.1 == ply) = false) :
    (s.switchOff f ply reason link course).delivery =
      ((s.takeOff ply).raise Ev.RAY_PLY_OFF [ply, reason, link, course, f.count % 2 ^ 16]).delivery := by
  have hoff : ¬ (s.frame.off.any fun x => x.1 == ply) = true := by simp [h]
  rw [State.switchOff, if_neg hoff, State.delivery_tellOff]

end Sys2Proof.Machine
end

section
/-! Courses that open, spans that finish, and what is held at t_CUT (R149, R156, R160, R172). -/

namespace Sys2Proof.Machine

/-! ## A course opens -/

theorem State.courseDue_next {s : State} {f : FrameInfo} {x : LinkFrame} {link c : Nat} (hf : s.frame.cur = some f)
    (hx : s.linkFrame link = some x) (hb : s.frame.boundary = false) (hheld : x.held = false) (hopen : x.open_ = false)
    (hnext : x.opened = c) (hc : c < x.courses) (hw : (s.mode.cur.any fun tr => tr.stage == .withdraw) = false) :
    s.courseDue link c = some (f, x) := by
  have hlt : ¬ x.courses ≤ c := Nat.not_le.mpr hc
  simp [State.courseDue, hf, hx, hb, hheld, hopen, hnext, hlt, hw]

theorem exec_courseOpen {t c : Nat} {l : Fin 128} {f : FrameInfo} {x : LinkFrame} {s u : State} (hu : s.advance t = u)
    (hdue : (u.courseDue l c).isSome = true) (hstill : u.inTime.courseDue l c = some (f, x)) :
    exec (.courseOpen t l c) s = .next (u.inTime.openCourse f x c) := by
  have hrun : exec (.courseOpen t l c) s = execCourseOpen t l c s := rfl
  have hnot : ¬ (u.courseDue l c).isNone = true := by simp [Option.isNone_iff_eq_none, Option.isSome_iff_ne_none.mp hdue]
  simp only [hrun, execCourseOpen, hu, if_neg hnot, hstill]

/-! ## Spans and cache lines -/

theorem exec_spanDone (t c j : Nat) (lines : List Nat) (l : Fin 128) (s : State) :
    exec (.spanDone t l c j lines) s = .next ((s.advance t).spanEnds l c j lines) := rfl

theorem exec_cacheRefetchDone (t line : Nat) (s : State) :
    exec (.cacheRefetchDone t line) s = .next ((s.advance t).lineArrives line) := rfl

/-- The first parity error on a line in a frame has it refetched. -/
theorem State.lineError_first {s : State} {link c line : Nat} (h : mapGet s.frame.parity line = none) :
    s.lineError link c line = { s with frame := { s.frame with
      parity := mapPut s.frame.parity line 1, refetch := s.frame.refetch ++ [line]
      refetched := satTo 0xFFFFFFFF (s.frame.refetched + 1) } } := by
  simp [State.lineError, h]

section
variable {s : State} {link c j line : Nat} (htaken : s.frame.taken.contains (link, c, j) = true)
  (hdone : s.frame.spansDone.contains (link, c, j) = false)
  (hwait : (s.frame.spanWait.any fun w => (w.1, w.2.1, w.2.2.1) == (link, c, j)) = false)
include htaken hdone hwait

theorem State.spanEnds_clean : s.spanEnds link c j [] = s.finishSpan link c j := by
  simp only [State.spanEnds, htaken, hdone, hwait]; rfl

/-- A line that failed parity for the first time is among those refetched, so the span waits for it. -/
theorem State.spanEnds_firstError (hfirst : mapGet s.frame.parity line = none) :
    s.spanEnds link c j [line] = { s with frame := { s.frame with
      parity := mapPut s.frame.parity line 1, refetch := s.frame.refetch ++ [line]
      refetched := satTo 0xFFFFFFFF (s.frame.refetched + 1), spanWait := s.frame.spanWait ++ [(link, c, j, [line])] } } := by
  simp only [State.spanEnds, htaken, hdone, hwait]
  simp [State.each, State.lineError_first hfirst]

end

theorem State.lineArrives_unawaited {s : State} {line : Nat} (h : s.frame.refetch.contains line = true) (hwait : s.frame.spanWait = []) :
    s.lineArrives line =
      { s with frame := { s.frame with refetch := s.frame.refetch.filter fun n => n != line, spanWait := [] } } := by
  simp only [State.lineArrives, h, hwait]; rfl

/-! ## The mode machine does not move while a link holds its rest -/

@[simp] theorem State.mode_endStall (s : State) (l : LinkFrame) : (s.endStall l).1.mode = s.mode := by
  unfold State.endStall
  split <;> rfl

@[simp] theorem State.mode_sendData (s : State) (l : LinkFrame) (c : Nat) (ws : List Word) : (s.sendData l c ws).1.mode = s.mode := by
  unfold State.sendData
  split
  · exact State.mode_of_delivery (State.delivery_putSlot _ _ _ _)
  · rfl

@[simp] theorem State.mode_padBlock (s : State) (f : FrameInfo) (l : LinkFrame) (c : Nat) : (s.padBlock f l c).1.mode = s.mode := by
  unfold State.padBlock
  split
  · rfl
  · exact State.mode_sendData _ _ _ _

theorem State.mode_sendStream (s : State) (lane : Nat) (b : List Byte) : (s.sendStream lane b).mode = s.mode :=
  State.mode_of_delivery (s.delivery_sendStream lane b)

@[simp] theorem State.mode_sendHold (s : State) (f : FrameInfo) (l : LinkFrame) (c n : Nat) : (s.sendHold f l c n).1.mode = s.mode :=
  (State.mode_sendStream _ _ _).trans (s.mode_padBlock f l c)

@[simp] theorem State.mode_endCourse (s : State) (f : FrameInfo) (l : LinkFrame) : (s.endCourse f l).1.mode = s.mode :=
  (State.mode_sendStream _ _ _).trans (s.mode_padBlock f l _)

@[simp] theorem State.mode_sendCourse (s : State) (f : FrameInfo) (l : LinkFrame) (i : Nat) : (s.sendCourse f l i).1.mode = s.mode := by
  unfold State.sendCourse
  split
  · rfl
  · exact State.mode_of_delivery (State.delivery_sendPanel _ _ _)

@[simp] theorem State.mode_holdRest (s : State) (f : FrameInfo) (l : LinkFrame) (k : Nat) : (s.holdRest f l k).1.mode = s.mode := by
  induction k generalizing s l with
  | zero => rfl
  | succ k ih =>
    unfold State.holdRest
    split
    · rfl
    · rw [ih, State.holdCourse, State.mode_endCourse, State.mode_sendHold, State.mode_sendCourse]

@[simp] theorem State.mode_cutCourse (s : State) (f : FrameInfo) (l : LinkFrame) : (s.cutCourse f l).1.mode = s.mode := by
  unfold State.cutCourse
  split
  · simp only [State.mode_endCourse]
    split
    · exact State.mode_sendHold _ _ _ _ _
    · rfl
  · rfl

@[simp] theorem State.mode_undeal (s : State) : s.undeal.mode = s.mode := by
  unfold State.undeal
  split <;> rfl

@[simp] theorem State.mode_dispatch (s : State) : s.dispatch.mode = s.mode := by
  unfold State.dispatch
  simp only
  split
  · exact s.mode_undeal
  · rw [State.each_keeps (g := State.mode)]
    · exact s.mode_undeal
    · intro v x
      split <;> rfl

theorem State.checkWithdrawn_of_idle {s : State} (h : s.mode.cur = none) : s.checkWithdrawn = s := by
  simp [State.checkWithdrawn, h]

/-- The first course of a link that is not sent in full: the open one, or the next. -/
def LinkFrame.firstLeft (x : LinkFrame) : Nat := if x.open_ then x.opened - 1 else x.opened

/-- t_CUT on a link that is not complete: whatever is sent for the rest, RAY_COURSE_HELD is raised behind it (R160). -/
theorem exec_tCutExpiry {t : Nat} {l : Fin 128} {f : FrameInfo} {x : LinkFrame} {s u : State} (hu : s.advance t = u)
    (hf : u.frame.cur = some f) (hx : u.linkFrame l = some x) (hb : u.frame.boundary = false) (hcomplete : x.complete = false)
    (hheld : x.held = false) (hlate : u.frame.openedAt + us f.window ≤ u.now + us 20) :
    ∃ v : State, v.mode = u.mode ∧ exec (.tCutExpiry t l) s =
      .next (v.raise Ev.RAY_COURSE_HELD [x.link, x.firstLeft, x.courses - x.firstLeft, f.count % 2 ^ 16]).checkWithdrawn := by
  have hdue : ¬ (u.frame.boundary = true ∨ x.complete = true ∨ x.held = true ∨ u.now + us 20 < u.frame.openedAt + us f.window) := by
    simp [hb, hcomplete, hheld, Nat.not_lt.mpr hlate]
  have hrun : exec (.tCutExpiry t l) s = execTCutExpiry t l s := rfl
  rw [hrun, execTCutExpiry, hu]
  extract_lets withdrawing
  split
  next f' x' hf' hx' =>
    obtain rfl : f = f' := Option.some.inj (hf.symm.trans hf')
    obtain rfl : x = x' := Option.some.inj (hx.symm.trans hx')
    rw [if_neg hdue]
    extract_lets _ _ stalled cut rest _ _ _ _ dropped ended
    have hcut : cut.1.mode = u.mode := (State.mode_cutCourse _ _ _).trans (State.mode_endStall _ _)
    have hrest : rest.1.mode = u.mode := (State.mode_holdRest _ _ _ _).trans hcut
    have hended : ended.mode = dropped.mode :=
      State.each_keeps (g := State.mode) (fun s y => State.mode_of_delivery (s.delivery_endFlat _)) _ _
    exact ⟨ended.dispatch, (State.mode_dispatch _).trans (hended.trans hrest), rfl⟩
  next hnone => exact absurd hx (hnone _ _ hf)

end Sys2Proof.Machine
end

section
/-! The composer ends the flattening of a group (R113, R309, R407), and with it the statement on fetches and courses. -/

namespace Sys2Proof.Machine

theorem exec_reflattenDone_suspended {t : Nat} {g : Fin 16} {s u : State} (hu : s.advance t = u) (h : u.step2 = true) :
    exec (.reflattenDone t g) s = .next u := by
  subst hu
  exact congrArg _ (if_pos (.inr h))

/-- The group is no longer being flattened, nor marked as one that lost a block. -/
def State.flattenEnds (s : State) (g : Nat) : State :=
  { s with frame := { s.frame with flattening := s.frame.flattening.filter (· != g), flatLost := s.frame.flatLost.filter (· != g) } }

/-- The flat ply of a group is complete. -/
def State.listFlat (s : State) (g : Nat) : State :=
  ({ s with frame := { s.frame with flat := s.frame.flat ++ [g] } }).refreshNeedle

/-- The flat ply of a group does not fit its region. -/
def State.listNoFit (s : State) (g : Nat) : State :=
  ({ s with frame := { s.frame with flatNoFit := s.frame.flatNoFit ++ [g] } }).refreshNeedle

theorem State.listFlat_frame (s : State) (g : Nat) : (s.listFlat g).frame = { s.frame with flat := s.frame.flat ++ [g] } :=
  State.refreshNeedle_frame _

theorem State.listNoFit_frame (s : State) (g : Nat) :
    (s.listNoFit g).frame = { s.frame with flatNoFit := s.frame.flatNoFit ++ [g] } := State.refreshNeedle_frame _

theorem State.listFlat_raised (s : State) (g : Nat) : (s.listFlat g).raised = s.raised := State.refreshNeedle_raised _

theorem State.listNoFit_raised (s : State) (g : Nat) : (s.listNoFit g).raised = s.raised := State.refreshNeedle_raised _

/-- The end of a flattening that read no lost block: the region is stored where it fits, and the group is listed as one or the other. -/
theorem exec_reflattenDone {t : Nat} {g : Fin 16} {m : List (Nat × Desc)} {s u : State} (hu : s.advance t = u)
    (hg : u.composing = some g.val) (hstep : u.step2 = false) (hm : groupMembers u.activeOrder g = m)
    (hread : u.flatReadsLost m (flatDesc m (u.groupScale g) (u.groupBase g)) = false) :
    ∃ v : State, v.delivery = (u.flattenEnds g).delivery ∧
      (exec (.reflattenDone t g) s = .next (v.listFlat g) ∨ exec (.reflattenDone t g) s = .next (v.listNoFit g)) := by
  have hgo : ¬ (u.composing ≠ some g.val ∨ u.step2 = true) := by simp [hg, hstep]
  have hrun : exec (.reflattenDone t g) s = execReflattenDone t g s := rfl
  rw [hrun, execReflattenDone, hu, if_neg hgo]
  extract_lets _ members d _ _ _ _ _ ended stored cleared counted
  have hread' : ¬ ended.flatReadsLost members d = true := by
    subst hm
    exact fun h => Bool.noConfusion (hread.symm.trans h)
  have hended : ended.delivery = (u.flattenEnds g).delivery := rfl
  have hcounted : counted.delivery = (u.flattenEnds g).delivery :=
    calc counted.delivery = cleared.delivery := State.delivery_countBytes _ _ _
      _ = stored.delivery := State.each_keeps State.delivery_clearLost _ _
      _ = ended.delivery := State.delivery_hbmWrite _ _ _ _
      _ = (u.flattenEnds g).delivery := hended
  rw [if_neg hread']
  split
  · exact ⟨counted, hcounted, .inl rfl⟩
  · exact ⟨ended, hended, .inr rfl⟩

theorem State.flattenEnds_raised (s : State) (g : Nat) : (s.flattenEnds g).raised = s.raised := rfl

theorem State.flattenEnds_flattening (s : State) (g : Nat) : g ∉ (s.flattenEnds g).frame.flattening := by simp [State.flattenEnds]

theorem State.flattenEnds_flatLost (s : State) (g : Nat) : g ∉ (s.flattenEnds g).frame.flatLost := by simp [State.flattenEnds]

/-- Settles O25: each command is the branch of its operation that the premises name; the events are last because nothing that follows
them raises one. -/
theorem fetchesAndCourses : Obligations.FetchesAndCourses := by
  refine ⟨?_, ?_, ?_, ?_, ?_, ?_, ?_, ?_, ?_, ?_, ?_, ?_, ?_, ?_⟩
  · rintro t c ply l f x p s u rfl hf hx hp hlost hflat
    rw [exec_plyFetchDone, State.fetchDone_completes hf hx hp hlost hflat]
  · rintro t c ply l f x s u rfl hf hx hlost hply
    rw [exec_plyFetchDone, State.fetchDone_lost hf hx hlost, State.fetchFailed_ply hf hply]
  · rintro t c r l f s u rfl hf hx
    exact ⟨_, exec_plyFetchFail .., by rw [State.fetchFails_outstanding hx, State.fetchFailed_venue hf]⟩
  · rintro t c ply l f s u rfl hf hx hply
    constructor
    · rw [exec_plyFetchFail, State.fetchFails_outstanding hx, State.fetchFailed_ply hf hply, if_pos rfl]
    · rw [exec_plyFetchFail, State.fetchFails_outstanding hx, State.fetchFailed_ply hf hply, if_neg (by decide)]
  · intro ply r l c f u hoff
    have hdelivery := State.switchOff_delivery (f := f) (reason := r) (link := l) (course := c) hoff
    refine ⟨?_, ⟨(u.takeOff ply).now, Ev.RAY_PLY_OFF, [ply, r, l, c, f.count % 2 ^ 16].map (· % 2 ^ 32), (u.takeOff ply).showNs⟩,
      ?_, rfl, rfl⟩
    · rw [State.frame_of_delivery hdelivery, State.raise_frame, State.takeOff_off]
    · rw [State.raised_of_delivery hdelivery, State.raise_raised]
      exact List.mem_append_right _ List.mem_cons_self
  · exact fun ply r l c f u hoff => State.switchOff_again hoff
  · rintro t c l f x s u v hu hdue rfl hstill
    exact exec_courseOpen hu hdue hstill
  · exact fun c l f x u hf hx hb hheld hopen hnext hc hw => State.courseDue_next hf hx hb hheld hopen hnext hc hw
  · rintro t c j l s u rfl htaken hdone hwait
    rw [exec_spanDone, State.spanEnds_clean htaken hdone hwait]
  · rintro t c j line l s u rfl htaken hdone hwait hfirst
    exact ⟨_, (exec_spanDone ..).trans (congrArg _ (State.spanEnds_firstError htaken hdone hwait hfirst)),
      rfl, rfl, rfl, fun _ _ => rfl, rfl⟩
  · rintro t line s u rfl hline hwait
    rw [exec_cacheRefetchDone, State.lineArrives_unawaited hline hwait]
  · intro t l f x s u hu hf hx hb hcomplete hheld hlink hidle hlate
    obtain ⟨v, hmode, hexec⟩ := exec_tCutExpiry hu hf hx hb hcomplete hheld hlate
    rw [State.checkWithdrawn_of_idle (by rw [State.raise_mode, hmode, hidle]), hlink] at hexec
    exact ⟨_, _, hexec, (congrArg List.getLast? (State.raise_raised ..)).trans List.getLast?_concat, rfl, rfl⟩
  · intro t g m s u hu hg hstep hm hread
    obtain ⟨v, hv, hexec⟩ := exec_reflattenDone hu hg hstep hm hread
    have hraised : v.raised = u.raised := (State.raised_of_delivery hv).trans (u.flattenEnds_raised g)
    have hflattening : g.val ∉ v.frame.flattening := State.frame_of_delivery hv ▸ u.flattenEnds_flattening g
    have hlost : g.val ∉ v.frame.flatLost := State.frame_of_delivery hv ▸ u.flattenEnds_flatLost g
    rcases hexec with hexec | hexec
    · refine ⟨_, hexec, ?_⟩
      rw [State.listFlat_frame, State.listFlat_raised]
      exact ⟨hflattening, hlost, .inl (List.mem_append_right _ List.mem_cons_self), hraised⟩
    · refine ⟨_, hexec, ?_⟩
      rw [State.listNoFit_frame, State.listNoFit_raised]
      exact ⟨hflattening, hlost, .inr (List.mem_append_right _ List.mem_cons_self), hraised⟩
  · exact fun t g s u hu hstep => exec_reflattenDone_suspended hu hstep

end Sys2Proof.Machine
end

section
/-! Which boundary a pending GO selects: nothing that its own registers show bears on it (R167, R171). -/

namespace Sys2Proof.Machine

/-- `n` agrees with `u` in all that places the frame of a pending GO; the GO itself and SCAN_COMMIT may differ. -/
structure SameAim (u n : State) : Prop where
  now : n.now = u.now
  time : n.time = u.time
  sec : n.sec = u.sec
  mode : n.mode = u.mode
  rws : n.rws = u.rws
  atMode : n.atMode = u.atMode
  cadence : n.frame.cadence = u.frame.cadence
  cur : n.frame.cur = u.frame.cur
  next : n.frame.next = u.frame.next
  boundary : n.frame.boundary = u.frame.boundary
  openedAt : n.frame.openedAt = u.frame.openedAt
  reg : ∀ a : Nat, a ≠ Reg.SCAN_COMMIT → n.reg a = u.reg a

section
variable {u n : State} (h : SameAim u n)
include h

theorem SameAim.fld {a : Nat} (ha : a ≠ Reg.SCAN_COMMIT) (lo k : Nat) : n.fld a lo k = u.fld a lo k :=
  congrArg (Word.field · lo k) (h.reg a ha)

theorem SameAim.bit {a : Nat} (ha : a ≠ Reg.SCAN_COMMIT) (i : Nat) : n.bit a i = u.bit a i :=
  congrArg (Word.bit · i) (h.reg a ha)

theorem SameAim.nat {a : Nat} (ha : a ≠ Reg.SCAN_COMMIT) : n.nat a = u.nat a := congrArg BitVec.toNat (h.reg a ha)

/-- GO and SCAN_COMMIT are written. -/
theorem SameAim.writeGo (go : Option (Nat × Option Nat)) (w : Word) :
    SameAim u (({ n with frame := { n.frame with go := go } } : State).setReg Reg.SCAN_COMMIT w) :=
  { h with reg := fun a ha => (State.reg_setReg_ne _ _ _ _ ha.symm).trans (h.reg a ha) }

/-! ## The windows and the forms of the frames -/

theorem SameAim.windowOf (f : Form) : n.windowOf f = u.windowOf f := by
  have htiming := h.fld (a := Reg.SCAN_TIMING) (by decide)
  have hform := h.fld (a := Reg.SPK_CFG) (by decide)
  have hviews := h.bit (a := Reg.SPK_CFG) (by decide)
  simp only [State.windowOf, State.autoWindow, State.tileBlocks, State.courseStitches, State.sentViews, State.roster, h.sec,
    htiming, hform, hviews]

theorem SameAim.modeCode : n.modeCode = u.modeCode := h.fld (by decide) 0 4

theorem SameAim.formAhead (l count : Nat) : n.formAhead l count = u.formAhead l count := by
  have hswatch := h.fld (a := Reg.SCAN_SWATCH) (by decide)
  simp only [State.formAhead, State.formOf, h.mode, h.modeCode, hswatch]

/-! ## The boundaries ahead -/

theorem SameAim.cyclesTo (ns : Nat) : n.cyclesTo ns = u.cyclesTo ns := by
  simp only [State.cyclesTo, State.showNs, h.time, h.now]

theorem SameAim.countAfter (f : FrameInfo) : n.countAfter f = u.countAfter f := by
  simp only [State.countAfter, h.cadence]

theorem SameAim.closing : n.closing = u.closing := by
  simp only [State.closing, h.cadence, h.cur, h.next, h.boundary, h.openedAt, h.now, h.cyclesTo]

theorem SameAim.behind (l : Nat) (f : FrameInfo) : n.behind l f = u.behind l f := by
  simp only [State.behind, State.frameBehind, h.cadence, h.countAfter, h.windowOf, h.formAhead, h.modeCode, h.now, h.cyclesTo]

/-! ## The cadence that the commit brings -/

/-- A register takes its waiting value. -/
theorem SameAim.takeLatest {a : Nat} (ha : a ≠ Reg.SCAN_COMMIT) : SameAim (u.setReg a (u.latest a)) (n.setReg a (n.latest a)) := by
  have hlatest : n.latest a = u.latest a := by simp only [State.latest, h.rws, h.atMode, h.reg a ha]
  refine { h with reg := fun b hb => ?_ }
  rw [hlatest, State.reg_setReg, State.reg_setReg, h.reg b hb]

theorem SameAim.scanAhead : SameAim u.scanAhead n.scanAhead :=
  ((((h.takeLatest (by decide)).takeLatest (by decide)).takeLatest (by decide)).takeLatest (by decide)).takeLatest (by decide)

theorem SameAim.scanCadence : n.scanCadence = u.scanCadence := by
  have htiming := h.fld (a := Reg.SCAN_TIMING) (by decide)
  have hphase := h.nat (a := Reg.SCAN_PHASE) (by decide)
  have hlo := h.nat (a := Reg.SCAN_ANCHOR_LO) (by decide)
  have hhi := h.nat (a := Reg.SCAN_ANCHOR_HI) (by decide)
  simp only [State.scanCadence, htiming, hphase, hlo, hhi]

theorem SameAim.newCadence : n.newCadence = u.newCadence := by
  unfold State.newCadence
  rw [h.cadence, h.scanCadence]

theorem SameAim.goCount (l : Nat) (f : FrameInfo) : n.goCount l f = u.goCount l f := by
  simp only [State.goCount, h.scanAhead.newCadence, h.scanAhead.windowOf, h.scanAhead.formAhead, h.countAfter]

theorem SameAim.aimed (go : Nat × Option Nat) : n.aimed go = u.aimed go := by
  simp only [State.aimed, h.closing, h.goCount, h.behind]

end

theorem SameAim.refl (u : State) : SameAim u u := ⟨rfl, rfl, rfl, rfl, rfl, rfl, rfl, rfl, rfl, rfl, rfl, fun _ _ => rfl⟩

/-! ## The boundary that a GO of this cycle selects -/

/-- The first latch ahead keeps t_GUARD. -/
theorem State.aimed_first {u : State} {l : Nat} {f : FrameInfo} (hl : u.closing = some (l, f)) (hguard : u.now + tGuard ≤ l) :
    u.aimed (u.now, none) = some (u.goCount l f) := by
  simp [State.aimed, hl, hguard]

/-- The first latch ahead is too near: the boundary behind it. -/
theorem State.aimed_behind {u : State} {l l' : Nat} {f f' : FrameInfo} (hl : u.closing = some (l, f)) (hnear : l < u.now + tGuard)
    (hbehind : (l', f') = u.behind l f) : u.aimed (u.now, none) = some (u.goCount l' f') := by
  simp [State.aimed, hl, Nat.not_le.mpr hnear, ← hbehind]

end Sys2Proof.Machine
end

section
/-! SCAN_COMMIT.GO: the commit that it leaves pending (R171 to R173, R473), and the end of a commit at its boundary (R7, R171). -/

namespace Sys2Proof.Machine

/-! ## What SCAN_COMMIT shows -/

/-- Setting a field leaves the register's bits beside it. -/
theorem State.bit_setFld_outside (s : State) (a lo n v i : Nat) (h : i < lo ∨ lo + n ≤ i) :
    (s.setFld a lo n v).bit a i = s.bit a i := by
  rw [State.bit, State.setFld, State.reg_setReg_self, Word.bit_put_ne _ _ _ _ _ h, State.bit]

/-- SCAN_COMMIT shows GO, DEFERRED and TARGET. -/
def State.showCommit (s : State) (go deferred : Bool) (target : Nat) : State :=
  ((s.setBit Reg.SCAN_COMMIT 0 go).setBit Reg.SCAN_COMMIT 1 deferred).setFld Reg.SCAN_COMMIT 16 16 target

theorem State.showCommit_go (s : State) (go d : Bool) (k : Nat) : (s.showCommit go d k).bit Reg.SCAN_COMMIT 0 = go := by
  rw [State.showCommit, State.bit_setFld_outside _ _ _ _ _ _ (by decide), State.bit_setBit_same _ _ _ _ _ (by decide),
    State.bit_setBit_self _ _ _ _ (by decide)]

theorem State.showCommit_deferred (s : State) (go d : Bool) (k : Nat) : (s.showCommit go d k).bit Reg.SCAN_COMMIT 1 = d := by
  rw [State.showCommit, State.bit_setFld_outside _ _ _ _ _ _ (by decide), State.bit_setBit_self _ _ _ _ (by decide)]

theorem State.showCommit_target (s : State) (go d : Bool) (k : Nat) :
    (s.showCommit go d k).fld Reg.SCAN_COMMIT 16 16 = k % 65536 := State.fld_setFld_self _ _ _ _ _ (by decide)

theorem State.sameRegs_showCommit (s : State) (go d : Bool) (k : Nat) : SameRegs s (s.showCommit go d k) [Reg.SCAN_COMMIT] :=
  (((SameRegs.refl s _).setReg List.mem_cons_self _).setReg List.mem_cons_self _).setReg List.mem_cons_self _

/-! ## GO is written -/

theorem exec_scanCommitGo_ok {t : Nat} {req : Requester} {s u : State} (hu : s.advance t = u)
    (hok : u.accepts req Reg.SCAN_COMMIT 1) : exec (.scanCommitGo t req) s = .next u.commitGo := by
  have hrun : exec (.scanCommitGo t req) s = execScanCommitGo t req s := rfl
  rw [hrun, execScanCommitGo, hu]
  simp only [show writeCause u req Reg.SCAN_COMMIT 4 1 = none from hok]

/-- GO of this cycle is pending. -/
def State.goAsked (s : State) : State := { s with frame := { s.frame with go := some (s.now, none) } }

/-- GO of this cycle is pending for the frame `target`, and SCAN_COMMIT shows it. -/
def State.goPends (s : State) (deferred : Bool) (target : Nat) : State := s.goAsked.showCommit true deferred target

theorem State.goPends_frame_go (s : State) (d : Bool) (k : Nat) : (s.goPends d k).frame.go = some (s.now, none) := rfl

theorem State.goPends_go (s : State) (d : Bool) (k : Nat) : (s.goPends d k).bit Reg.SCAN_COMMIT 0 = true :=
  s.goAsked.showCommit_go _ _ _

theorem State.goPends_deferred (s : State) (d : Bool) (k : Nat) : (s.goPends d k).bit Reg.SCAN_COMMIT 1 = d :=
  s.goAsked.showCommit_deferred _ _ _

theorem State.goPends_target (s : State) (d : Bool) (k : Nat) : (s.goPends d k).fld Reg.SCAN_COMMIT 16 16 = k % 65536 :=
  s.goAsked.showCommit_target _ _ _

theorem State.sameRegs_goPends (s : State) (d : Bool) (k : Nat) : SameRegs s (s.goPends d k) [Reg.SCAN_COMMIT] :=
  s.goAsked.sameRegs_showCommit _ _ _

theorem State.goPends_raised (s : State) (d : Bool) (k : Nat) : (s.goPends d k).raised = s.raised := rfl

theorem State.goPends_rws (s : State) (d : Bool) (k : Nat) : (s.goPends d k).rws = s.rws := rfl

/-- GO of this cycle is deferred to the frame `target`: the deferral is counted, and reported with the cycles by which GO was too near
the latch (R172). -/
def State.goDeferred (s : State) (early target : Nat) : State :=
  ((s.goPends true target).incFld Reg.SCAN_COUNT 0 16 1).raise Ev.SCAN_COMMIT_DEFERRED [early, target % 65536]

/-- The report of a deferral leaves SCAN_COMMIT alone. -/
theorem State.goDeferred_commit (s : State) (e k : Nat) :
    (s.goDeferred e k).reg Reg.SCAN_COMMIT = (s.goPends true k).reg Reg.SCAN_COMMIT := by
  rw [State.goDeferred, State.reg_raise, State.incFld, State.reg_setFld_ne _ _ _ _ _ _ (by decide)]

theorem State.goDeferred_frame_go (s : State) (e k : Nat) : (s.goDeferred e k).frame.go = some (s.now, none) := rfl

theorem State.goDeferred_go (s : State) (e k : Nat) : (s.goDeferred e k).bit Reg.SCAN_COMMIT 0 = true :=
  (congrArg (Word.bit · 0) (s.goDeferred_commit e k)).trans (s.goPends_go _ _)

theorem State.goDeferred_deferred (s : State) (e k : Nat) : (s.goDeferred e k).bit Reg.SCAN_COMMIT 1 = true :=
  (congrArg (Word.bit · 1) (s.goDeferred_commit e k)).trans (s.goPends_deferred _ _)

theorem State.goDeferred_target (s : State) (e k : Nat) : (s.goDeferred e k).fld Reg.SCAN_COMMIT 16 16 = k % 65536 :=
  (congrArg (Word.field · 16 16) (s.goDeferred_commit e k)).trans (s.goPends_target _ _)

theorem State.goDeferred_count (s : State) (e k : Nat) :
    (s.goDeferred e k).fld Reg.SCAN_COUNT 0 16 = min 65535 (s.fld Reg.SCAN_COUNT 0 16 + 1) := by
  have hbefore : (s.goPends true k).fld Reg.SCAN_COUNT 0 16 = s.fld Reg.SCAN_COUNT 0 16 :=
    congrArg (Word.field · 0 16) (s.sameRegs_goPends true k _ (by decide))
  have hmax : (2 ^ 16 - 1 : Nat) = 65535 := by decide
  rw [State.goDeferred, State.fld_raise, State.fld_incFld_self _ _ _ _ _ (by decide), hbefore, hmax]

theorem State.sameRegs_goDeferred (s : State) (e k : Nat) : SameRegs s (s.goDeferred e k) [Reg.SCAN_COMMIT, Reg.SCAN_COUNT] := by
  have hpends : SameRegs s (s.goPends true k) [Reg.SCAN_COMMIT, Reg.SCAN_COUNT] := fun a ha =>
    s.sameRegs_goPends true k a fun h => ha (List.mem_append_left [Reg.SCAN_COUNT] h)
  exact hpends.setReg (by decide) _

theorem State.raisedBy_goDeferred (s : State) (e k : Nat) :
    RaisedBy s (s.goDeferred e k) [(Ev.SCAN_COMMIT_DEFERRED, [e, k % 65536].map (· % 2 ^ 32))] := by
  rw [RaisedBy, State.goDeferred, State.raise_raised, List.map_append]
  rfl

/-! ## The boundary that GO selects -/

/-- The registers that GO writes do not move the boundary that it selects. -/
theorem State.aim_goAsked {u : State} {k : Nat} (d : Bool) (hk : u.aimed (u.now, none) = some k) :
    ((u.goAsked.setBit Reg.SCAN_COMMIT 0 true).setBit Reg.SCAN_COMMIT 1 d).aim = u.goPends d k := by
  have hasked : SameAim u ((u.goAsked.setBit Reg.SCAN_COMMIT 0 true).setBit Reg.SCAN_COMMIT 1 d) :=
    ((SameAim.refl u).writeGo _ _).writeGo _ _
  have hgo : ((u.goAsked.setBit Reg.SCAN_COMMIT 0 true).setBit Reg.SCAN_COMMIT 1 d).frame.go = some (u.now, none) := rfl
  simp only [State.aim, hgo, Option.bind_some, hasked.aimed, hk]
  rfl

theorem State.pendGo_inTime {u : State} {k : Nat} (early : Nat) (hk : u.aimed (u.now, none) = some k) :
    u.pendGo false early = u.goPends false k := State.aim_goAsked false hk

theorem State.pendGo_deferred {u : State} {k : Nat} (early : Nat) (hk : u.aimed (u.now, none) = some k) :
    u.pendGo true early = u.goDeferred early k := by
  rw [State.goDeferred, ← State.goPends_target u true k, ← State.aim_goAsked true hk]
  rfl

theorem State.pendGo_chain (u : State) (d : Bool) (early : Nat) : (u.pendGo d early).chain = u.chain := by
  have haim (s : State) : s.aim.chain = s.chain := by
    unfold State.aim
    split <;> rfl
  unfold State.pendGo
  split <;> exact haim _

theorem State.commitGo_pending {u : State} (h : u.frame.go ≠ none) : u.commitGo = u := if_pos (Option.isSome_iff_ne_none.mpr h)

/-- Without a cadence GO waits with TARGET 0 (R473). -/
theorem State.commitGo_kept {u : State} (hgo : u.frame.go = none) (hcad : u.commitCadence = false) :
    u.commitGo = u.goPends false 0 := by
  simp only [State.commitGo, hgo, hcad]
  rfl

section
variable {u : State} {l : Nat} {f : FrameInfo} (halone : u.alone) (hgo : u.frame.go = none) (hcad : u.commitCadence = true)
  (hl : u.closing = some (l, f))
include halone hgo hcad hl

/-- A device that runs alone does not forward its GO. -/
theorem State.commitGo_alone :
    u.commitGo = u.pendGo (decide (l < u.now + tGuard) || u.inLatchCycle) (if l < u.now + tGuard then l - u.now else 0) := by
  have hchain (d : Bool) (e : Nat) : (u.pendGo d e).chain.chained = false := (congrArg _ (u.pendGo_chain d e)).trans halone
  simp [State.commitGo, hgo, hcad, State.nextLatch, hl, hchain]

theorem State.commitGo_inTime (hguard : u.now + tGuard ≤ l) (hlatch : u.inLatchCycle = false) :
    u.commitGo = u.goPends false (u.goCount l f) := by
  have hnear : ¬ l < u.now + tGuard := Nat.not_lt.mpr hguard
  rw [State.commitGo_alone halone hgo hcad hl, decide_eq_false hnear, hlatch, Bool.or_false]
  exact State.pendGo_inTime _ (State.aimed_first hl hguard)

theorem State.commitGo_near {l' : Nat} {f' : FrameInfo} (hnear : l < u.now + tGuard) (hbehind : (l', f') = u.behind l f) :
    u.commitGo = u.goDeferred (l - u.now) (u.goCount l' f') := by
  rw [State.commitGo_alone halone hgo hcad hl, decide_eq_true hnear, Bool.true_or, if_pos hnear]
  exact State.pendGo_deferred _ (State.aimed_behind hl hnear hbehind)

/-- In the very cycle of a latch, GO is deferred to the next boundary (Table 8-2). -/
theorem State.commitGo_atLatch (hguard : u.now + tGuard ≤ l) (hlatch : u.inLatchCycle = true) :
    u.commitGo = u.goDeferred 0 (u.goCount l f) := by
  rw [State.commitGo_alone halone hgo hcad hl, hlatch, Bool.or_true, if_neg (Nat.not_lt.mpr hguard)]
  exact State.pendGo_deferred _ (State.aimed_first hl hguard)

end

/-! ## What a boundary does to the commit -/

theorem State.latchCommit_unselected {u : State} {c : Nat} (k : Nat) (h : u.commitDue c = false) :
    u.latchCommit c k = ({ u with frame := { u.frame with flippedPrev := u.frame.flippedNow, flippedNow := [] } }, false) := by
  have hdue : ({ u with frame := { u.frame with flippedPrev := u.frame.flippedNow } } : State).commitDue c = false := h
  simp only [State.latchCommit, hdue, Bool.false_eq_true, if_false]

/-- The commit is over: GO ends, and TARGET keeps the frame latched. -/
def State.commitEnds (s : State) (k : Nat) : State :=
  ({ s with frame := { s.frame with go := none } } : State).showCommit false false k

theorem State.commitEnds_frame_go (s : State) (k : Nat) : (s.commitEnds k).frame.go = none := rfl

theorem State.latchCommit_due {u : State} {c : Nat} (k : Nat) (h : u.commitDue c = true) :
    u.latchCommit c k =
      ((({ u with frame := { u.frame with flippedPrev := u.frame.flippedNow } } : State).applyCommit k).commitEnds k, true) := by
  have hdue : ({ u with frame := { u.frame with flippedPrev := u.frame.flippedNow } } : State).commitDue c = true := h
  simp only [State.latchCommit, hdue, if_true]
  rfl

/-- Settles O22: GO writes nothing that moves the boundary it selects, so the TARGET it shows is the one that the state before it
names; at a boundary the commit is the branch that GO selects. -/
theorem commitsSelectAndApply : Obligations.CommitsSelectAndApply := by
  refine ⟨?_, ?_, ?_, ?_, ?_, ?_⟩
  · intro t l f req s u hu halone hok hgo hcad hl hguard hlatch
    refine ⟨u.goPends false (u.goCount l f), ?_, u.goPends_frame_go _ _, u.goPends_go _ _, u.goPends_deferred _ _,
      u.goPends_target _ _, u.sameRegs_goPends _ _, u.goPends_raised _ _, u.goPends_rws _ _⟩
    rw [exec_scanCommitGo_ok hu hok, State.commitGo_inTime halone hgo hcad hl hguard hlatch]
  · intro t l l' e f f' req s u hu halone hok hgo hcad hl hcase
    have hcommit : u.commitGo = u.goDeferred e (u.goCount l' f') := by
      obtain ⟨hnear, hbehind, rfl⟩ | ⟨hguard, hlatch, hsame, rfl⟩ := hcase
      · exact State.commitGo_near halone hgo hcad hl hnear hbehind
      · obtain ⟨rfl, rfl⟩ := Prod.mk.inj hsame
        exact State.commitGo_atLatch halone hgo hcad hl hguard hlatch
    refine ⟨u.goDeferred e (u.goCount l' f'), ?_, u.goDeferred_frame_go _ _, u.goDeferred_go _ _, u.goDeferred_deferred _ _,
      u.goDeferred_target _ _, u.goDeferred_count _ _, u.sameRegs_goDeferred _ _, u.raisedBy_goDeferred _ _⟩
    rw [exec_scanCommitGo_ok hu hok, hcommit]
  · intro t req s u hu hok hgo hcad
    refine ⟨u.goPends false 0, ?_, u.goPends_frame_go _ _, u.goPends_go _ _, u.goPends_deferred _ _, u.goPends_target _ _,
      u.sameRegs_goPends _ _, u.goPends_raised _ _⟩
    rw [exec_scanCommitGo_ok hu hok, State.commitGo_kept hgo hcad]
  · intro t req s u hu hok hgo
    rw [exec_scanCommitGo_ok hu hok, State.commitGo_pending hgo]
  · intro c k u hdue
    rw [State.latchCommit_unselected k hdue]
    exact ⟨rfl, rfl, rfl⟩
  · intro c k u hdue
    rw [State.latchCommit_due k hdue]
    exact ⟨rfl, State.commitEnds_frame_go .., State.showCommit_go .., State.showCommit_deferred .., State.showCommit_target ..⟩

end Sys2Proof.Machine
end

section
/-! The timers of tiles, enumeration that starts or fails, and the register commands of the panel link (R199, R203, R208, R211,
Table 9-10). -/

namespace Sys2Proof.Machine

/-! ## What an event, a tile's state and the status registers leave alone -/

/-- An event raised on a state that has raised no other is the one beyond those before. -/
theorem RaisedBy.of_raise {u n : State} (h : n.raised = u.raised) (c : Nat) (l : List Nat) :
    RaisedBy u (n.raise c l) [(c, l.map (· % 2 ^ 32))] := by
  rw [RaisedBy, State.raise_raised, h, List.map_append]
  rfl

theorem State.tileState_setTile_self (s : State) (k : Nat) (x : TileState) : (s.setTile k x).tileState k = x := by
  simp [State.tileState, State.setTile, mapGet_mapPut]

theorem State.tileState_congr {n u : State} (h : n.spk = u.spk) (k : Nat) : n.tileState k = u.tileState k := by
  rw [State.tileState, h, State.tileState]

theorem spkStat_ne_tileStat (k : Nat) : Reg.SPK_STAT ≠ Reg.SPK_TILE_STAT k := by
  unfold Reg.SPK_STAT Reg.SPK_TILE_STAT
  omega

/-- The status of a tile stands below that of the zones. -/
theorem zoneStat_ne_tileStat {k : Nat} (hk : k < 128) (z : Nat) : Reg.EMIT_ZONE_STAT z ≠ Reg.SPK_TILE_STAT k := by
  unfold Reg.EMIT_ZONE_STAT Reg.SPK_TILE_STAT
  omega

theorem State.refreshSpk_spk (s : State) : s.refreshSpk.spk = s.spk := rfl

theorem State.refreshSpk_raised (s : State) : s.refreshSpk.raised = s.raised := rfl

theorem State.refreshSpk_hbm (s : State) : s.refreshSpk.hbm = s.hbm := rfl

theorem State.reg_refreshSpk_tileStat (s : State) (k : Nat) :
    s.refreshSpk.reg (Reg.SPK_TILE_STAT k) = s.reg (Reg.SPK_TILE_STAT k) :=
  State.reg_setReg_ne _ _ _ _ (spkStat_ne_tileStat k)

/-- A zone's temperature is shown in EMIT_ZONE_STAT alone: what a write of it keeps is kept. -/
theorem State.refreshZone_keeps {β : Type} {g : State → β} (h : ∀ s z w, g (State.setReg s (Reg.EMIT_ZONE_STAT z) w) = g s)
    (s : State) (z : Nat) : g (s.refreshZone z) = g s := by
  rw [State.refreshZone]
  split
  · rw [State.showZone]
    split
    split
    · exact (h _ _ _).trans (h _ _ _)
    · exact h _ _ _
  · rfl

theorem State.refreshZone_spk (s : State) (z : Nat) : (s.refreshZone z).spk = s.spk :=
  State.refreshZone_keeps (fun _ _ _ => rfl) s z

theorem State.refreshZone_raised (s : State) (z : Nat) : (s.refreshZone z).raised = s.raised :=
  State.refreshZone_keeps (fun _ _ _ => rfl) s z

theorem State.refreshZone_hbm (s : State) (z : Nat) : (s.refreshZone z).hbm = s.hbm :=
  State.refreshZone_keeps (fun _ _ _ => rfl) s z

theorem State.reg_refreshZone_tileStat (s : State) (z : Nat) {k : Nat} (hk : k < 128) :
    (s.refreshZone z).reg (Reg.SPK_TILE_STAT k) = s.reg (Reg.SPK_TILE_STAT k) :=
  State.refreshZone_keeps (g := (·.reg (Reg.SPK_TILE_STAT k)))
    (fun s z w => State.reg_setReg_ne s _ _ w (zoneStat_ne_tileStat hk z)) s z

/-! ## The timers of a tile -/

/-- A tile is lost: it is no longer enumerated nor heard, and its zone's temperature is shown without it (R203, R239). -/
def State.tileGone (s : State) (k : Nat) : State :=
  let n := (s.setFld (Reg.SPK_TILE_STAT k) 0 2 0).refreshSpk
  (n.setTile k { n.tileState k with noLock := none, blanked := none }).refreshZone (((n.tile k).map (·.zone)).getD 16)

theorem State.tileGone_raised (s : State) (k : Nat) : (s.tileGone k).raised = s.raised := State.refreshZone_raised _ _

theorem State.tileGone_stat (s : State) {k : Nat} (hk : k < 128) : (s.tileGone k).fld (Reg.SPK_TILE_STAT k) 0 2 = 0 := by
  have hreg : (s.tileGone k).reg (Reg.SPK_TILE_STAT k) = (s.setFld (Reg.SPK_TILE_STAT k) 0 2 0).reg (Reg.SPK_TILE_STAT k) :=
    (State.reg_refreshZone_tileStat _ _ hk).trans (State.reg_refreshSpk_tileStat _ k)
  rw [State.fld, hreg]
  exact State.fld_setFld_self s _ 0 2 0 (by decide)

theorem exec_tileBcTimeout_lost {t c : Nat} {k : Fin 128} {s u : State} (hu : s.advance t = u)
    (hheard : u.bit (Reg.SPK_TILE_STAT k) 1 = true) (hlast : (u.tileState k).lastBc = some c) (hdue : c + us 100 ≤ u.now)
    (henum : u.enumerated k = true) (hquiet : (u.bcNow (u.laneOfTile k) fun f => !u.enumerated k || leAt f 0x02 2 == k) = false) :
    exec (.tileBcTimeout t k) s = .next ((u.tileGone k).raise Ev.SPK_TILE_LOST [k, u.laneOfTile k, 1]) := by
  have hrun : exec (.tileBcTimeout t k) s = execTileBcTimeout t k s := rfl
  rw [hrun, execTileBcTimeout, hu]
  have hquiet' : (u.bcNow (u.laneOfTile k) fun f => leAt f 0x02 2 == k) = false := by simpa [henum] using hquiet
  simp [hheard, hlast, hdue, henum, hquiet', State.tileGone]

theorem exec_tileNoLockTimeout_lost {t c : Nat} {k : Fin 128} {s u : State} (hu : s.advance t = u)
    (hsince : (u.tileState k).noLock = some c) (hdue : c + ms 1 ≤ u.now) (hquiet : u.bcNow (u.laneOfTile k) u.bcLock = false)
    (henum : u.enumerated k = true) (honce : (u.tileState k).noLockRaised = false) (hup : u.laneUp (u.laneOfTile k) = true) :
    exec (.tileNoLockTimeout t k) s = .next (((u.setTile k { u.tileState k with noLockRaised := true, noLock := none }).raise
      Ev.SPK_TILE_LOST [k, u.laneOfTile k, 2]).retrain (u.laneOfTile k)) := by
  have hrun : exec (.tileNoLockTimeout t k) s = execTileNoLockTimeout t k s := rfl
  rw [hrun, execTileNoLockTimeout, hu]
  simp [hsince, hdue, hquiet, henum, honce, hup]

theorem exec_tileBlankedTimeout_lost {t c : Nat} {k : Fin 128} {s u : State} (hu : s.advance t = u)
    (hsince : (u.tileState k).blanked = some c) (hdue : c + ms 1 ≤ u.now)
    (hquiet : (u.bcNow (u.laneOfTile k) fun f => !(leAt f 0x06 2).testBit 3) = false) (henum : u.enumerated k = true)
    (hloud : u.silent = false) (hup : u.laneUp (u.laneOfTile k) = true) (honce : (u.tileState k).blankedRaised = false)
    (hshow : u.delivering = true) :
    exec (.tileBlankedTimeout t k) s =
      .next ((u.setTile k { u.tileState k with blankedRaised := true }).raise Ev.SPK_TILE_LOST [k, u.laneOfTile k, 3]) := by
  have hrun : exec (.tileBlankedTimeout t k) s = execTileBlankedTimeout t k s := rfl
  rw [hrun, execTileBlankedTimeout, hu]
  simp [hsince, hdue, hquiet, henum, hloud, hup, honce, hshow]

/-- An access that is due again ends with 0x5 after its third try, and is sent again before that (R199). -/
theorem exec_configTimeout_due {t : Nat} {k : Fin 128} {q : CfgReq} {s u : State} (hu : s.advance t = u)
    (hout : mapGet u.spk.out (u.laneOfTile k) = some q) (hdue : q.sent + us 50 ≤ u.now)
    (hquiet : (u.bcNow (u.laneOfTile k) fun f => (u.cfgReported (u.laneOfTile k) f).isSome) = false) :
    exec (.configTimeout t k) s = .next (if 3 ≤ q.tries then u.endCfg (u.laneOfTile k) q 5 0
      else ({ u with spk := { u.spk with out := mapErase u.spk.out (u.laneOfTile k), queued := q :: u.spk.queued } }).pumpLane
        (u.laneOfTile k)) := by
  have hrun : exec (.configTimeout t k) s = execConfigTimeout t k s := rfl
  rw [hrun, execConfigTimeout, hu]
  simp [hout, Nat.not_lt.mpr hdue, hquiet]

/-! ## Enumeration -/

theorem exec_enumBcWaitTimeout_missed {t : Nat} {k : Fin 128} {s u : State} (hu : s.advance t = u)
    (hwait : (u.tileState k).enumStep = some .wait) (hdue : (u.tileState k).enumAt + ms 20 ≤ u.now)
    (hquiet : (u.bcNow (u.laneOfTile k) fun _ => true) = false) :
    exec (.enumBcWaitTimeout t k) s = .next (u.enumFail k 4 0) := by
  have hrun : exec (.enumBcWaitTimeout t k) s = execEnumBcWaitTimeout t k s := rfl
  rw [hrun, execEnumBcWaitTimeout, hu]
  simp [hwait, hdue, hquiet]

theorem State.enumFail_mismatch (s : State) (k reason value : Nat) :
    (s.enumFail k reason value).bit (Reg.SPK_TILE_STAT k) 4 = true := by
  rw [State.enumFail, State.bit_raise, State.bit_setBit_self _ _ _ _ (by decide)]

theorem State.enumFail_enumStep (s : State) (k reason value : Nat) : ((s.enumFail k reason value).tileState k).enumStep = none :=
  congrArg TileState.enumStep (s.tileState_setTile_self k _)

theorem State.sameRegs_enumFail (s : State) (k reason value : Nat) :
    SameRegs s (s.enumFail k reason value) [Reg.SPK_TILE_STAT k] := (SameRegs.refl s _).setReg List.mem_cons_self _

theorem State.raisedBy_enumFail (s : State) (k reason value : Nat) : RaisedBy s (s.enumFail k reason value)
    [(Ev.SPK_TILE_MISMATCH, [k, s.laneOfTile k, reason, value].map (· % 2 ^ 32))] := RaisedBy.of_raise rfl _ _

theorem exec_spkCtlReenum_ok {t k : Nat} {req : Requester} {s u : State} (hu : s.advance t = u) (hk : k < 128)
    (hok : u.accepts req Reg.SPK_CTL (Word.ofNat (k % 128 + 2 ^ 8))) :
    exec (.spkCtlReenum t req k) s = .next (u.enumStart k) := by
  have hrun : exec (.spkCtlReenum t req k) s = execSpkCtlReenum t req k s := rfl
  rw [hrun, execSpkCtlReenum, hu, State.control_ok hok (by decide), Nat.mod_eq_of_lt hk]

theorem exec_tileEnumeration_roster {t : Nat} {k : Fin 128} {s u : State} (hu : s.advance t = u) (hk : k.val < u.roster.length) :
    exec (.tileEnumeration t k) s = .next (u.enumStart k) := by
  have hrun : exec (.tileEnumeration t k) s = execTileEnumeration t k s := rfl
  rw [hrun, execTileEnumeration, hu, if_pos hk]

/-- The tile's state behind the start of its enumeration: nothing read or measured yet, and its first frame awaited (R208). -/
theorem State.enumStart_tileState (s : State) (k : Nat) : (s.enumStart k).tileState k =
    { s.tileState k with enumStep := some .wait, enumAt := s.now, todo := [], regs := [], delays := [], echo := none,
                         noLock := none, blanked := none } :=
  (State.tileState_congr (State.refreshZone_spk _ _) k).trans (State.tileState_setTile_self _ k _)

theorem State.enumStart_enumerated (s : State) {k : Nat} (hk : k < 128) : (s.enumStart k).enumerated k = false := by
  rw [State.enumerated, State.bit, State.enumStart, State.reg_refreshZone_tileStat _ _ hk, State.reg_refreshSpk_tileStat]
  exact State.bit_setBit_self _ _ 0 false (by decide)

theorem State.enumStart_raised (s : State) (k : Nat) : (s.enumStart k).raised = s.raised := State.refreshZone_raised _ _

theorem State.enumStart_hbm (s : State) (k : Nat) : (s.enumStart k).hbm = s.hbm := State.refreshZone_hbm _ _

/-! ## CLEAR -/

/-- The error counts of tile and lane `i`. -/
def errorCounts (i : Nat) : List Nat := [Reg.SPK_TILE_FEC i, Reg.SPK_LANE_ERR i]

/-- The error counts of tile and lane `i` start anew. -/
def State.clearCounts (s : State) (i : Nat) : State := (s.setReg (Reg.SPK_TILE_FEC i) 0).setReg (Reg.SPK_LANE_ERR i) 0

theorem State.reg_clearCounts (s : State) (i a : Nat) : (s.clearCounts i).reg a = if a ∈ errorCounts i then 0 else s.reg a := by
  rw [State.clearCounts, State.reg_setReg, State.reg_setReg]
  by_cases hl : Reg.SPK_LANE_ERR i = a
  · simp [hl, errorCounts]
  · by_cases hf : Reg.SPK_TILE_FEC i = a
    · simp [hf, errorCounts]
    · simp [hl, hf, errorCounts, Ne.symm hl, Ne.symm hf]

/-- Clearing the counts of a list of tiles in turn zeroes those, and no other register. -/
theorem State.reg_each_clearCounts (s : State) (l : List Nat) (a : Nat) :
    (s.each l State.clearCounts).reg a = if a ∈ l.flatMap errorCounts then 0 else s.reg a := by
  induction l generalizing s with
  | nil => rfl
  | cons i l ih =>
    have hstep : (s.each (i :: l) State.clearCounts).reg a = ((s.clearCounts i).each l State.clearCounts).reg a := rfl
    rw [hstep, ih, State.reg_clearCounts, List.flatMap_cons]
    by_cases hi : a ∈ errorCounts i <;> simp [hi]

/-- Every tile's FEC count and every lane's error count is zero (Table 9-10). -/
def State.countsCleared (s : State) : State := s.each (List.range 128) State.clearCounts

theorem State.nat_countsCleared (s : State) {k a : Nat} (hk : k < 128) (ha : a ∈ errorCounts k) : s.countsCleared.nat a = 0 := by
  have hmem : a ∈ (List.range 128).flatMap errorCounts := List.mem_flatMap.mpr ⟨k, List.mem_range.mpr hk, ha⟩
  rw [State.nat, State.countsCleared, State.reg_each_clearCounts, if_pos hmem]
  rfl

theorem State.sameRegs_countsCleared (s : State) : SameRegs s s.countsCleared ((List.range 128).flatMap errorCounts) :=
  fun a ha => (s.reg_each_clearCounts _ a).trans (if_neg ha)

theorem State.countsCleared_raised (s : State) : s.countsCleared.raised = s.raised :=
  State.each_keeps (g := State.raised) (f := State.clearCounts) (fun _ _ => rfl) s (List.range 128)

theorem exec_spkCtlClear_ok {t : Nat} {req : Requester} {s u : State} (hu : s.advance t = u)
    (hok : u.accepts req Reg.SPK_CTL (Word.ofNat (2 ^ 10))) : exec (.spkCtlClear t req) s = .next u.countsCleared := by
  have hrun : exec (.spkCtlClear t req) s = execSpkCtlClear t req s := rfl
  rw [hrun, execSpkCtlClear, hu, State.control_ok hok (by decide)]
  rfl

/-! ## GO of an expert access -/

/-- The expert access that SPK_CFGW_ADDR and SPK_CFGW_DATA describe. -/
def State.cfgwAccess (s : State) : CfgReq :=
  { tile := s.fld Reg.SPK_CFGW_ADDR 0 7, target := s.fld Reg.SPK_CFGW_ADDR 0 7, read := s.bit Reg.SPK_CFGW_ADDR 8,
    addr := s.fld Reg.SPK_CFGW_ADDR 16 16, data := if s.bit Reg.SPK_CFGW_ADDR 8 then 0 else s.nat Reg.SPK_CFGW_DATA, why := .expert }

/-- GO is written, and SPK_CFGW_STAT shows the access as running. -/
def State.cfgwRuns (s : State) (w : Word) : State := (s.setReg Reg.SPK_CFGW_CMD w).setNat Reg.SPK_CFGW_STAT 1

/-- An access to a tile that no lane reaches is over at once, as timed out. -/
def State.cfgwTimesOut (s : State) (w : Word) : State :=
  ((s.cfgwRuns w).setNat Reg.SPK_CFGW_STAT 0x50).setBit Reg.SPK_CFGW_CMD 0 false

/-- The registers of an expert access that GO writes. -/
def cfgwRegs : List Nat := [Reg.SPK_CFGW_CMD, Reg.SPK_CFGW_STAT]

theorem State.sameRegs_cfgwRuns (s : State) (w : Word) : SameRegs s (s.cfgwRuns w) cfgwRegs :=
  ((SameRegs.refl s _).setReg (by decide) _).setReg (by decide) _

theorem State.sameRegs_cfgwTimesOut (s : State) (w : Word) : SameRegs s (s.cfgwTimesOut w) cfgwRegs :=
  ((s.sameRegs_cfgwRuns w).setReg (by decide) _).setReg (by decide) _

theorem State.cfgwRuns_stat (s : State) (w : Word) : (s.cfgwRuns w).nat Reg.SPK_CFGW_STAT = 1 := by
  rw [State.nat, State.cfgwRuns, State.setNat, State.reg_setReg_self]
  rfl

theorem State.cfgwTimesOut_stat (s : State) (w : Word) : (s.cfgwTimesOut w).nat Reg.SPK_CFGW_STAT = 0x50 := by
  rw [State.nat, State.cfgwTimesOut, State.setBit, State.reg_setFld_ne _ _ _ _ _ _ (by decide), State.setNat, State.reg_setReg_self]
  rfl

/-- While a cadence runs, the access waits for the boundary behind those that wait (R170, R199). -/
theorem State.cfgwGo_queues {s : State} (w : Word) (hconf : s.configs = true)
    (htile : s.fld Reg.SPK_CFGW_ADDR 0 7 < s.roster.length) (hcad : s.cadenceRuns = true) :
    s.cfgwGo w = (s.cfgwRuns w).queueCfg s.cfgwAccess := by
  have hheld : ¬ (s.cfgwRuns w).roster.length ≤ s.cfgwAccess.tile := Nat.not_le.mpr htile
  have hcad' : ((s.cfgwRuns w).queueCfg s.cfgwAccess).cadenceRuns = true := hcad
  have hgo : s.cfgwGo w = if !s.configs then s else if (s.cfgwRuns w).roster.length ≤ s.cfgwAccess.tile then _ else
      if ((s.cfgwRuns w).queueCfg s.cfgwAccess).cadenceRuns then (s.cfgwRuns w).queueCfg s.cfgwAccess else _ := rfl
  rw [hgo, hconf, if_neg (by decide), if_neg hheld, if_pos hcad']

theorem State.cfgwGo_timesOut {s : State} (w : Word) (hconf : s.configs = true)
    (htile : s.roster.length ≤ s.fld Reg.SPK_CFGW_ADDR 0 7) :
    s.cfgwGo w = (s.cfgwTimesOut w).raise Ev.SPK_CONFIG_FAIL
      [s.fld Reg.SPK_CFGW_ADDR 0 7, s.fld Reg.SPK_CFGW_ADDR 16 16, 5, s.fld Reg.SPK_EPOCH 0 16] := by
  have habsent : (s.cfgwRuns w).roster.length ≤ s.cfgwAccess.tile := htile
  have hepoch : (s.cfgwRuns w).fld Reg.SPK_EPOCH 0 16 = s.fld Reg.SPK_EPOCH 0 16 :=
    congrArg (Word.field · 0 16) (s.sameRegs_cfgwRuns w Reg.SPK_EPOCH (by decide))
  have hgo : s.cfgwGo w = if !s.configs then s else if (s.cfgwRuns w).roster.length ≤ s.cfgwAccess.tile then
      (s.cfgwTimesOut w).raise Ev.SPK_CONFIG_FAIL
        [s.cfgwAccess.tile, s.cfgwAccess.addr, 5, (s.cfgwRuns w).fld Reg.SPK_EPOCH 0 16] else _ := rfl
  rw [hgo, hconf, if_neg (by decide), if_pos habsent, hepoch]
  rfl

/-- A device that runs alone carries out GO and forwards nothing. -/
theorem exec_spkCfgwGo_ok {t : Nat} {req : Requester} {s u : State} (hu : s.advance t = u)
    (hok : u.accepts req Reg.SPK_CFGW_CMD 1) (halone : (u.cfgwGo (1 &&& writeMask Reg.SPK_CFGW_CMD)).alone) :
    exec (.spkCfgwGo t req) s = .next (u.cfgwGo (1 &&& writeMask Reg.SPK_CFGW_CMD)) := by
  have hrun : exec (.spkCfgwGo t req) s = execSpkCfgwGo t req s := rfl
  rw [hrun, execSpkCfgwGo, hu, State.guarded_ok hok, State.mirror_alone _ _ _ _ halone]

/-- Settles O27: with the premises named, each command is one branch of its operation, and that branch's registers, events and tile
state are those of the helpers above. -/
theorem panelLinkCommandsAndTimers : Obligations.PanelLinkCommandsAndTimers := by
  refine ⟨?_, ?_, ?_, ?_, ?_, ?_, ?_, ?_, ?_⟩
  · intro t c k s u hu hheard hlast hdue henum hquiet
    exact ⟨_, exec_tileBcTimeout_lost hu hheard hlast hdue henum hquiet, u.tileGone_stat k.isLt,
      RaisedBy.of_raise (u.tileGone_raised k) _ _⟩
  · intro t c k s u hu hsince hdue hquiet henum honce hup
    exact exec_tileNoLockTimeout_lost hu hsince hdue hquiet henum honce hup
  · intro t c k s u hu hsince hdue hquiet henum hloud hup honce hshow
    exact exec_tileBlankedTimeout_lost hu hsince hdue hquiet henum hloud hup honce hshow
  · intro t k q s u hu hout hdue hquiet
    rw [exec_configTimeout_due hu hout hdue hquiet]
    exact ⟨fun hthird => by rw [if_pos hthird], fun hearlier => by rw [if_neg (Nat.not_le.mpr hearlier)]⟩
  · intro t k s u hu hwait hdue hquiet
    exact ⟨_, exec_enumBcWaitTimeout_missed hu hwait hdue hquiet, u.enumFail_mismatch .., u.enumFail_enumStep ..,
      u.sameRegs_enumFail k 4 0, u.raisedBy_enumFail k 4 0⟩
  · intro t k req i s u hu hk hcase
    have hexec : exec i s = .next (u.enumStart k) := by
      obtain ⟨rfl, hok⟩ | ⟨hroster, f, rfl, rfl⟩ := hcase
      · exact exec_spkCtlReenum_ok hu hk hok
      · exact exec_tileEnumeration_roster hu hroster
    have htile := u.enumStart_tileState k
    exact ⟨_, hexec, congrArg TileState.enumStep htile, congrArg TileState.enumAt htile, u.enumStart_enumerated hk,
      u.enumStart_raised k, u.enumStart_hbm k⟩
  · intro t req s u hu hok
    exact ⟨_, exec_spkCtlClear_ok hu hok,
      fun k hk => ⟨u.nat_countsCleared hk List.mem_cons_self, u.nat_countsCleared hk (List.mem_cons_of_mem _ List.mem_cons_self)⟩,
      u.sameRegs_countsCleared, u.countsCleared_raised⟩
  · intro t req s u hu hok halone hconf htile hcad
    have hgo := State.cfgwGo_queues (1 &&& writeMask Reg.SPK_CFGW_CMD) hconf htile hcad
    refine ⟨_, u.cfgwAccess, exec_spkCfgwGo_ok hu hok (hgo ▸ halone), ?_⟩
    rw [hgo]
    exact ⟨u.cfgwRuns_stat _, rfl, rfl, rfl, rfl, rfl, u.sameRegs_cfgwRuns _, rfl⟩
  · intro t req s u hu hok halone hconf htile
    have hgo := State.cfgwGo_timesOut (1 &&& writeMask Reg.SPK_CFGW_CMD) hconf htile
    refine ⟨_, exec_spkCfgwGo_ok hu hok (hgo ▸ halone), ?_⟩
    rw [hgo]
    exact ⟨u.cfgwTimesOut_stat _, rfl, u.sameRegs_cfgwTimesOut _, rfl⟩

end Sys2Proof.Machine
end

section
/-! Lanes that complete CAL while the reference loop is in holdover (R218, R220). -/

namespace Sys2Proof.Machine

theorem exec_laneStageDone (t k : Nat) (l : Fin 304) (v : Bool) (s : State) :
    exec (.laneStageDone t l v k) s = .next ((s.advance t).stageDone l v k) := rfl

/-- A chain member that loop-times from port 0 with port 1 as its backup (R216, R218): the four lanes of port 1 are UP, lane 0x100 of
port 0 is in CAL, and the loop is in holdover.  It gets there while port 1 is refused under R217, once a TRAIN block ends the refusal. -/
def holdoverInCal : State :=
  let s := (((State.reset.setNat Reg.CLKRST_STRAP 0x10).setNat Reg.LANE_LOOP_CFG 0x34).setNat Reg.LANE_LOOP_STAT 3).setNat
    (Reg.LANE_STATE 0x100) 1
  { s.each [0x104, 0x105, 0x106, 0x107] (fun s l => s.setNat (Reg.LANE_STATE l) 8) with chain := { chained := true } }

theorem holdoverInCal_stage : holdoverInCal.laneStage (0x100 : Fin 304) = 1 := by decide +kernel

/-- The end of CAL moves a chain lane: the loop leaves holdover for port 1, which raises LANE_LOOP_STATE. -/
theorem raised_stageDone_holdoverInCal :
    (holdoverInCal.stageDone (0x100 : Fin 304) false 0).raised.map (·.code) = [Ev.LANE_LOOP_STATE] := by decide +kernel

/-- Refutes O28: the statement's first clause has the end of CAL raise no event on any lane but a panel forward one, while a chain lane
that goes on to DETECT lets the loop leave holdover (R218), and that change of state raises LANE_LOOP_STATE. -/
theorem not_lanesTrainAndRetrain : ¬ Obligations.LanesTrainAndRetrain := by
  rintro ⟨hcal, -⟩
  obtain ⟨n, hexec, -, -, hraised⟩ :=
    hcal holdoverInCal.now 0 0x100 false _ _ (State.advance_now_self _) holdoverInCal_stage (by decide)
  rw [exec_laneStageDone, State.advance_now_self] at hexec
  have hevent := raised_stageDone_holdoverInCal
  rw [Host.Outcome.next.inj hexec, hraised] at hevent
  exact absurd hevent (by decide)

end Sys2Proof.Machine
end

section
/-! What a lane's registers and its state beside them read after an update (R220 to R226). -/

namespace Sys2Proof.Machine

/-! ## The state of a lane -/

theorem State.lane_setLane (s : State) (l m : Nat) (x : LaneState) : (s.setLane l x).lane m = if l = m then x else s.lane m := by
  rw [State.lane, State.setLane, mapGet_mapPut]
  split <;> rfl

theorem State.reg_setLane (s : State) (l a : Nat) (x : LaneState) : (s.setLane l x).reg a = s.reg a := rfl

theorem State.fld_setLane (s : State) (l a lo n : Nat) (x : LaneState) : (s.setLane l x).fld a lo n = s.fld a lo n := rfl

theorem State.lane_congr {n u : State} (h : n.lanes = u.lanes) (l : Nat) : n.lane l = u.lane l := by rw [State.lane, h, State.lane]

theorem State.lane_setLane_self (s : State) (l : Nat) (x : LaneState) : (s.setLane l x).lane l = x :=
  (s.lane_setLane l l x).trans (if_pos rfl)

/-! ## The registers of an update -/

/-- What a step of a run establishes, and every step keeps, holds behind the run. -/
theorem State.each_establishes {α : Type} {P : State → Prop} {f : State → α → State} {x : α} {l : List α} (hx : x ∈ l)
    (hat : ∀ s, P (f s x)) (hkeep : ∀ s y, P s → P (f s y)) (s : State) : P (s.each l f) := by
  have hrest (l : List α) : ∀ s, P s → P (s.each l f) := by
    induction l with
    | nil => exact fun _ h => h
    | cons y l ih => exact fun s h => ih (f s y) (hkeep s y h)
  induction l generalizing s with
  | nil => exact absurd hx List.not_mem_nil
  | cons y l ih =>
    rcases List.mem_cons.mp hx with rfl | hx
    · exact hrest l _ (hat s)
    · exact ih hx (f s y)

/-- A run changes the registers that its steps change. -/
theorem SameRegs.each {α : Type} {f : State → α → State} {g : α → List Nat} (h : ∀ s x, SameRegs s (f s x) (g x)) (s : State)
    (l : List α) : SameRegs s (s.each l f) (l.flatMap g) := by
  induction l generalizing s with
  | nil => exact SameRegs.refl s _
  | cons x l ih =>
    intro a ha
    rw [List.flatMap_cons, List.mem_append, not_or] at ha
    exact (ih (f s x) a ha.2).trans (h s x a ha.1)

theorem SameRegs.trans {u v n : State} {l : List Nat} (h : SameRegs u v l) (h' : SameRegs v n l) : SameRegs u n l :=
  fun a ha => (h' a ha).trans (h a ha)

theorem SameRegs.mono {u n : State} {l l' : List Nat} (h : SameRegs u n l) (hsub : l ⊆ l') : SameRegs u n l' :=
  fun a ha => h a fun hm => ha (hsub hm)

theorem SameRegs.fld {u n : State} {l : List Nat} (h : SameRegs u n l) {a : Nat} (ha : a ∉ l) (lo k : Nat) :
    n.fld a lo k = u.fld a lo k := congrArg (Word.field · lo k) (h a ha)

/-! ## Blocks that a lane sends -/

/-- A training block goes into the lane's slots and out: what neither changes is kept. -/
theorem State.train_keeps {β : Type} {g : State → β}
    (hplace : ∀ s l p k t, g (State.setLane s l { s.lane l with placed := p, nextSlot := k, taken := t }) = g s)
    (hemit : ∀ s o, g (State.emit s o) = g s) (s : State) (l : Nat) : g (s.train l) = g s := by
  have hput (m : Nat) (h : Bool) (b : List Byte) : g (s.putSlot m h b) = g s := by
    unfold State.putSlot
    split
    · rfl
    · exact hplace _ _ _ _ _
  unfold State.train
  split
  · exact (hemit _ _).trans (hput _ _ _)
  · rfl

theorem State.train_regs (s : State) (l : Nat) : (s.train l).regs = s.regs :=
  State.train_keeps (g := State.regs) (fun _ _ _ _ _ => rfl) (fun _ _ => rfl) s l

theorem State.train_raised (s : State) (l : Nat) : (s.train l).raised = s.raised :=
  State.train_keeps (g := State.raised) (fun _ _ _ _ _ => rfl) (fun _ _ => rfl) s l

theorem State.train_now (s : State) (l : Nat) : (s.train l).now = s.now :=
  State.train_keeps (g := State.now) (fun _ _ _ _ _ => rfl) (fun _ _ => rfl) s l

theorem State.train_fomAt (s : State) (l m : Nat) : ((s.train l).lane m).fomAt = (s.lane m).fomAt := by
  refine State.train_keeps (g := fun s => (s.lane m).fomAt) (fun s k _ _ _ => ?_) (fun _ _ => rfl) s l
  simp only [State.lane_setLane]
  split
  · next h => rw [h]
  · rfl

end Sys2Proof.Machine
end

section
/-! The polarity and the preset tries of a lane (R221, R223). -/

namespace Sys2Proof.Machine

/-! ## Polarity -/

/-- The panel transmitter is inverted, and the 5 ms of the new polarity begin. -/
def State.invertTx (s : State) (l : Nat) : State :=
  (s.setLane l { s.lane l with polTried := true, polAt := s.now }).setBit (Reg.LANE_STATE l) 4 (!s.bit (Reg.LANE_STATE l) 4)

theorem State.lane_invertTx (s : State) (l : Nat) : (s.invertTx l).lane l = { s.lane l with polTried := true, polAt := s.now } :=
  s.lane_setLane_self l _

theorem State.invertTx_inv (s : State) (l : Nat) : (s.invertTx l).bit (Reg.LANE_STATE l) 4 = !s.bit (Reg.LANE_STATE l) 4 :=
  State.bit_setBit_self _ _ 4 _ (by decide)

theorem State.invertTx_stage (s : State) (l : Nat) : (s.invertTx l).laneStage l = s.laneStage l :=
  State.fld_setFld_same _ _ 4 1 _ 0 4 (by decide)

theorem State.sameRegs_invertTx (s : State) (l : Nat) : SameRegs s (s.invertTx l) [Reg.LANE_STATE l] :=
  (SameRegs.refl s _).setReg List.mem_cons_self _

/-- No lock was reported for 5 ms: the transmitter is inverted, or the attempt fails where it has been. -/
theorem exec_ptxPolarityTimeout_due {t : Nat} {l : Fin 128} {s u : State} (hu : s.advance t = u) (hstage : u.laneStage l = 4)
    (hdue : (u.lane l).polAt + ms 5 ≤ u.now) (hquiet : u.stageDoneNow l = false) :
    exec (.ptxPolarityTimeout t l) s = .next (if (u.lane l).polTried then u.failAttempt l else u.invertTx l) := by
  have hrun : exec (.ptxPolarityTimeout t l) s = execPtxPolarityTimeout t l s := rfl
  rw [hrun, execPtxPolarityTimeout, hu]
  simp [hstage, hquiet, Nat.not_lt.mpr hdue, State.invertTx]

/-! ## Preset tries -/

/-- The try of preset `p` begins on the lane. -/
def State.tryBegins (s : State) (l p : Nat) : State :=
  (s.setLane l { s.lane l with tryPreset := some p, tryAt := s.now, peerFom := none }).setFld (Reg.LANE_STATE l) 8 4 p

/-- On any lane but a panel forward one a try begins with nothing else. -/
theorem State.startTry_other {s : State} {l : Nat} (p : Nat) (hg : laneGroup l ≠ 0) : s.startTry l p = s.tryBegins l p := by
  simp only [State.startTry, if_neg hg]
  split <;> rfl

/-- With the try of a panel forward lane its tile's count of corrected codewords begins. -/
theorem State.startTry_forward {s : State} {l k : Nat} (p : Nat) (hg : laneGroup l = 0) (hk : s.tileOfLane l = some k) :
    s.startTry l p = (s.tryBegins l p).setTile k { s.tileState k with tryCorr := 0, tryLock := none } := by
  have htile : (s.tryBegins l p).tileOfLane l = some k := hk
  rw [State.tryBegins] at htile
  simp only [State.startTry, htile, if_pos hg]
  rfl

theorem State.lane_tryBegins (s : State) (l p : Nat) :
    (s.tryBegins l p).lane l = { s.lane l with tryPreset := some p, tryAt := s.now, peerFom := none } := s.lane_setLane_self l _

theorem State.tryBegins_preset (s : State) {l p : Nat} (hp : p < 16) : (s.tryBegins l p).fld (Reg.LANE_STATE l) 8 4 = p :=
  (State.fld_setFld_self _ _ 8 4 p (by decide)).trans (Nat.mod_eq_of_lt hp)

theorem State.sameRegs_tryBegins (s : State) (l p : Nat) : SameRegs s (s.tryBegins l p) [Reg.LANE_STATE l] :=
  (SameRegs.refl s _).setReg List.mem_cons_self _

/-- What the try that ends brought: the partner's FOM, and of a panel forward lane the corrected codewords of its tile, where that
reported lock. -/
def State.trySum (s : State) (l : Nat) : Option Nat :=
  if laneGroup l = 0 then
    match s.tileOfLane l with
    | some k => if (s.tileState k).tryLock = some true then some (s.tileState k).tryCorr else none
    | none => none
  else (s.lane l).peerFom

theorem State.trySum_other {s : State} {l : Nat} (hg : laneGroup l ≠ 0) : s.trySum l = (s.lane l).peerFom := if_neg hg

theorem State.trySum_forward {s : State} {l k : Nat} (hg : laneGroup l = 0) (hk : s.tileOfLane l = some k) :
    s.trySum l = if (s.tileState k).tryLock = some true then some (s.tileState k).tryCorr else none := by
  rw [State.trySum, if_pos hg, hk]

/-- The sum of the try that ends joins those before it. -/
def State.takeSum (s : State) (l : Nat) : State := s.setLane l { s.lane l with sums := (s.lane l).sums ++ [s.trySum l] }

theorem State.lane_takeSum (s : State) (l : Nat) :
    (s.takeSum l).lane l = { s.lane l with sums := (s.lane l).sums ++ [s.trySum l] } := s.lane_setLane_self l _

section
variable {t p : Nat} {l : Fin 304} {s u : State} (hu : s.advance t = u) (hp : (u.lane l).tryPreset = some p)
  (hdue : (u.lane l).tryAt + ms 2 ≤ u.now)
include hu hp hdue

theorem exec_presetTryTimeout_next (hlt : p < 7) :
    exec (.presetTryTimeout t l) s = .next ((u.takeSum l).startTry l (p + 1)) := by
  have hrun : exec (.presetTryTimeout t l) s = execPresetTryTimeout t l s := rfl
  rw [hrun, execPresetTryTimeout, hu]
  extract_lets x
  split
  next hnone => exact absurd (hp.symm.trans hnone) (Option.some_ne_none p)
  next q hq =>
    obtain rfl : p = q := Option.some.inj (hp.symm.trans hq)
    rw [if_neg (Nat.not_lt.mpr hdue)]
    exact congrArg _ (if_pos hlt)

/-- The last try is over on a lane other than a panel forward one: the best sum's preset is kept, and the attempt fails where there is none. -/
theorem exec_presetTryTimeout_last (hlast : p = 7) (hg : laneGroup l ≠ 0) {v : State}
    (hv : u.setLane l { u.lane l with sums := (u.lane l).sums ++ [(u.lane l).peerFom], tryPreset := none } = v) :
    exec (.presetTryTimeout t l) s = .next (match bestPreset false ((u.lane l).sums ++ [(u.lane l).peerFom]) with
      | none => v.failAttempt l
      | some b => (v.setFld (Reg.LANE_STATE l) 8 4 b).enterLink l) := by
  have hrun : exec (.presetTryTimeout t l) s = execPresetTryTimeout t l s := rfl
  have hgroup : (laneGroup l == 0) = false := beq_false_of_ne hg
  have hlt : ¬ p < 7 := by omega
  rw [hrun, execPresetTryTimeout, hu]
  extract_lets x sum sums kept
  split
  next hnone => exact absurd (hp.symm.trans hnone) (Option.some_ne_none p)
  next q hq =>
    obtain rfl : p = q := Option.some.inj (hp.symm.trans hq)
    rw [if_neg (Nat.not_lt.mpr hdue)]
    have hsums : sums = (u.lane l).sums ++ [(u.lane l).peerFom] := congrArg (fun x => (u.lane l).sums ++ [x]) (if_neg hg)
    have hkept : kept = v := by rw [← hv, ← hsums]
    rw [if_neg hlt, hgroup, hsums, hkept]
    cases bestPreset false ((u.lane l).sums ++ [(u.lane l).peerFom]) with
    | none => rfl
    | some b => exact congrArg _ (if_neg hg)

end

end Sys2Proof.Machine
end

section
/-! CLEAR and CLEAR_ALL, the figure of merit, and with them the statement on tries and counters (R225, R226, R228, R231). -/

namespace Sys2Proof.Machine

/-! ## CLEAR -/

/-- The registers that CLEAR writes for a lane. -/
def clearRegs (l : Nat) : List Nat := [Reg.LANE_PRBS_ERR l, Reg.LANE_FOM l]

theorem lanePrbsErr_ne_laneFom (l m : Nat) : Reg.LANE_PRBS_ERR l ≠ Reg.LANE_FOM m := by
  unfold Reg.LANE_PRBS_ERR Reg.LANE_FOM
  omega

theorem laneFom_injective {l m : Nat} (h : Reg.LANE_FOM l = Reg.LANE_FOM m) : l = m := by
  unfold Reg.LANE_FOM at h
  omega

theorem lanePrbsErr_injective {l m : Nat} (h : Reg.LANE_PRBS_ERR l = Reg.LANE_PRBS_ERR m) : l = m := by
  unfold Reg.LANE_PRBS_ERR at h
  omega

theorem State.sameRegs_clearLane (s : State) (l : Nat) : SameRegs s (s.clearLane l) (clearRegs l) :=
  ((SameRegs.refl s _).setReg List.mem_cons_self _).setReg (List.mem_cons_of_mem _ List.mem_cons_self) _

theorem State.lane_clearLane (s : State) (l : Nat) :
    (s.clearLane l).lane l = { s.lane l with minFresh := true, countAt := (s.lane l).countAt.map fun _ => s.now } :=
  State.lane_setLane_self _ l _

/-- The PRBS error count and the minimum FOM of a lane are zero. -/
def State.LaneCleared (s : State) (l : Nat) : Prop := s.nat (Reg.LANE_PRBS_ERR l) = 0 ∧ s.fld (Reg.LANE_FOM l) 8 8 = 0

theorem State.laneCleared_clearLane (s : State) (l : Nat) : (s.clearLane l).LaneCleared l := by
  constructor
  · simp only [State.nat, State.clearLane, State.reg_setLane]
    rw [State.reg_setFld_ne _ _ _ _ _ _ (lanePrbsErr_ne_laneFom l l).symm, State.reg_setReg_self]
    rfl
  · simp only [State.clearLane, State.fld_setLane]
    exact State.fld_setFld_self _ _ 8 8 0 (by decide)

/-- CLEAR of a lane leaves the others cleared. -/
theorem State.LaneCleared.clearLane {s : State} {l : Nat} (h : s.LaneCleared l) (m : Nat) : (s.clearLane m).LaneCleared l := by
  by_cases hm : m = l
  · exact hm ▸ s.laneCleared_clearLane m
  · have hsame (a : Nat) (hprbs : a ≠ Reg.LANE_PRBS_ERR m) (hfom : a ≠ Reg.LANE_FOM m) : (s.clearLane m).reg a = s.reg a :=
      s.sameRegs_clearLane m a (by simp [clearRegs, hprbs, hfom])
    rw [State.LaneCleared, State.nat, State.fld,
      hsame _ (fun e => hm (lanePrbsErr_injective e).symm) (lanePrbsErr_ne_laneFom l m),
      hsame _ (lanePrbsErr_ne_laneFom m l).symm (fun e => hm (laneFom_injective e).symm)]
    exact h

/-- CLEAR_ALL. -/
def State.clearLanes (s : State) : State := s.each (List.range 304) State.clearLane

theorem State.laneCleared_clearLanes (s : State) {l : Nat} (hl : l < 304) : s.clearLanes.LaneCleared l :=
  State.each_establishes (P := (·.LaneCleared l)) (List.mem_range.mpr hl) (fun s => s.laneCleared_clearLane l)
    (fun _ m h => h.clearLane m) s

theorem State.sameRegs_clearLanes (s : State) : SameRegs s s.clearLanes ((List.range 304).flatMap clearRegs) :=
  SameRegs.each State.sameRegs_clearLane s _

theorem State.clearLanes_raised (s : State) : s.clearLanes.raised = s.raised :=
  State.each_keeps (g := State.raised) (f := State.clearLane) (fun _ _ => rfl) s (List.range 304)

theorem exec_laneCtlClear_ok {t l : Nat} {req : Requester} {s u : State} (hu : s.advance t = u) (hl : l < 304)
    (hok : u.accepts req Reg.LANE_CTL (Word.ofNat (l % 512 + 2 ^ 10))) :
    exec (.laneCtlClear t req l) s = .next (u.clearLane l) := by
  have hrun : exec (.laneCtlClear t req l) s = execLaneCtlClear t req l s := rfl
  have hlane : l % 512 = l := by omega
  rw [hrun, execLaneCtlClear, hu, State.control_ok hok (by decide), hlane]

theorem exec_laneCtlClearAll_ok {t : Nat} {req : Requester} {s u : State} (hu : s.advance t = u)
    (hok : u.accepts req Reg.LANE_CTL (Word.ofNat (2 ^ 11))) : exec (.laneCtlClearAll t req) s = .next u.clearLanes := by
  have hrun : exec (.laneCtlClearAll t req) s = execLaneCtlClearAll t req s := rfl
  rw [hrun, execLaneCtlClearAll, hu, State.control_ok hok (by decide)]
  rfl

/-! ## The figure of merit -/

/-- The lowest FOM since CLEAR, or since the lane came up, with `f` among those. -/
def State.leastFom (s : State) (l f : Nat) : Nat := if (s.lane l).minFresh then f else min f (s.fld (Reg.LANE_FOM l) 8 8)

theorem State.leastFom_le (s : State) (l f : Nat) : s.leastFom l f ≤ f := by
  unfold State.leastFom
  split
  · exact Nat.le_refl f
  · exact Nat.min_le_left _ _

/-- LANE_FOM takes the FOM `f` and the least one. -/
def State.recordFom (s : State) (l f : Nat) : State :=
  ((s.setFld (Reg.LANE_FOM l) 0 8 f).setFld (Reg.LANE_FOM l) 8 8 (s.leastFom l f)).setLane l
    { s.lane l with minFresh := false, fomAt := some s.now }

theorem State.sameRegs_recordFom (s : State) (l f : Nat) : SameRegs s (s.recordFom l f) [Reg.LANE_FOM l] :=
  ((SameRegs.refl s _).setReg List.mem_cons_self _).setReg List.mem_cons_self _

theorem State.recordFom_fom (s : State) {l f : Nat} (hf : f < 2 ^ 8) : (s.recordFom l f).fld (Reg.LANE_FOM l) 0 8 = f := by
  rw [State.recordFom, State.fld_setLane, State.fld_setFld_same _ _ _ _ _ _ _ (by decide), State.fld_setFld_self _ _ _ _ _ (by decide),
    Nat.mod_eq_of_lt hf]

theorem State.recordFom_least (s : State) {l f : Nat} (hf : f < 2 ^ 8) : (s.recordFom l f).fld (Reg.LANE_FOM l) 8 8 = s.leastFom l f := by
  rw [State.recordFom, State.fld_setLane, State.fld_setFld_self _ _ _ _ _ (by decide),
    Nat.mod_eq_of_lt (Nat.lt_of_le_of_lt (s.leastFom_le l f) hf)]

theorem State.recordFom_fomAt (s : State) (l f : Nat) : ((s.recordFom l f).lane l).fomAt = some s.now :=
  congrArg LaneState.fomAt (State.lane_setLane_self _ l _)

/-- The FOM `f` of the lane calls for LANE_FOM_LOW, raised for it last at `last` (R226). -/
def State.fomLow (s : State) (l f : Nat) (last : Option Nat) : Bool :=
  s.laneUp l && decide (f < s.fld (Reg.LANE_GRP_CFG (laneGroup l)) 0 8) && !limited last (ms 10000) s.now

theorem State.fomLow_iff (s : State) (l f : Nat) (last : Option Nat) : s.fomLow l f last = true ↔
    s.laneUp l = true ∧ f < s.fld (Reg.LANE_GRP_CFG (laneGroup l)) 0 8 ∧ limited last (ms 10000) s.now = false := by
  simp [State.fomLow, and_assoc]

/-- LANE_FOM_LOW is raised where the FOM `f` calls for it. -/
def State.reportFom (s : State) (l f : Nat) (last : Option Nat) : State :=
  if s.fomLow l f last then
    (s.setLane l { s.lane l with fomLowAt := some s.now }).raise Ev.LANE_FOM_LOW [l, f, s.fld (Reg.LANE_GRP_CFG (laneGroup l)) 0 8]
  else s

theorem State.reg_reportFom (s : State) (l f : Nat) (last : Option Nat) (a : Nat) : (s.reportFom l f last).reg a = s.reg a := by
  unfold State.reportFom
  split <;> rfl

theorem State.reportFom_fomAt (s : State) (l f : Nat) (last : Option Nat) :
    ((s.reportFom l f last).lane l).fomAt = (s.lane l).fomAt := by
  unfold State.reportFom
  split
  · rw [State.lane_congr (State.raise_lanes _ _ _), State.lane_setLane_self]
  · rfl

theorem State.raisedBy_reportFom (s : State) (l f : Nat) (last : Option Nat) :
    RaisedBy s (s.reportFom l f last) (if s.fomLow l f last then
      [(Ev.LANE_FOM_LOW, [l, f, s.fld (Reg.LANE_GRP_CFG (laneGroup l)) 0 8].map (· % 2 ^ 32))] else []) := by
  unfold State.reportFom
  split
  · exact RaisedBy.of_raise rfl _ _
  · exact (List.append_nil _).symm

/-- The FOM `f` is recorded, sent to the partner in EQUALISE (R223), and reported where it is low. -/
def State.takeFom (s : State) (l f : Nat) : State := ((s.recordFom l f).train l).reportFom l f (s.lane l).fomLowAt

theorem State.reg_takeFom (s : State) (l f a : Nat) : (s.takeFom l f).reg a = (s.recordFom l f).reg a :=
  (State.reg_reportFom _ _ _ _ a).trans (State.reg_congr (State.train_regs _ _) a)

theorem State.takeFom_fom (s : State) {l f : Nat} (hf : f < 2 ^ 8) : (s.takeFom l f).fld (Reg.LANE_FOM l) 0 8 = f :=
  (congrArg (Word.field · 0 8) (s.reg_takeFom l f _)).trans (s.recordFom_fom hf)

theorem State.takeFom_least (s : State) {l f : Nat} (hf : f < 2 ^ 8) : (s.takeFom l f).fld (Reg.LANE_FOM l) 8 8 = s.leastFom l f :=
  (congrArg (Word.field · 8 8) (s.reg_takeFom l f _)).trans (s.recordFom_least hf)

theorem State.sameRegs_takeFom (s : State) (l f : Nat) : SameRegs s (s.takeFom l f) [Reg.LANE_FOM l] :=
  fun a ha => (s.reg_takeFom l f a).trans (s.sameRegs_recordFom l f a ha)

theorem State.takeFom_fomAt (s : State) (l f : Nat) : ((s.takeFom l f).lane l).fomAt = some s.now :=
  calc ((s.takeFom l f).lane l).fomAt = (((s.recordFom l f).train l).lane l).fomAt := State.reportFom_fomAt _ _ _ _
    _ = ((s.recordFom l f).lane l).fomAt := State.train_fomAt _ _ _
    _ = some s.now := s.recordFom_fomAt l f

/-- The registers that a FOM update may write. -/
def fomRegs (l : Nat) : List Nat := [Reg.LANE_FOM l, Reg.LANE_EYE l]

theorem laneFom_subset_fomRegs (l : Nat) : [Reg.LANE_FOM l] ⊆ fomRegs l := List.cons_subset_cons _ (List.nil_subset _)

theorem laneEye_ne_laneFom (l : Nat) : Reg.LANE_EYE l ≠ Reg.LANE_FOM l := by
  unfold Reg.LANE_EYE Reg.LANE_FOM
  omega

theorem laneState_notMem_fomRegs (l : Nat) : Reg.LANE_STATE l ∉ fomRegs l := by
  simp only [fomRegs, Reg.LANE_STATE, Reg.LANE_FOM, Reg.LANE_EYE, List.mem_cons, List.not_mem_nil, or_false]
  omega

theorem laneGroup_le (l : Nat) : laneGroup l ≤ 5 := by
  unfold laneGroup
  repeat' split
  all_goals decide

/-- The settings of the lane's group stand below the registers of the lanes. -/
theorem laneGrpCfg_notMem_fomRegs (l : Nat) : Reg.LANE_GRP_CFG (laneGroup l) ∉ fomRegs l := by
  have hgroup := laneGroup_le l
  simp only [fomRegs, Reg.LANE_GRP_CFG, Reg.LANE_FOM, Reg.LANE_EYE, List.mem_cons, List.not_mem_nil, or_false]
  omega

/-- The report goes by registers that a FOM update leaves alone. -/
theorem RaisedBy.reportFom {u m : State} {l : Nat} (hregs : SameRegs u m (fomRegs l)) (hnow : m.now = u.now)
    (hraised : m.raised = u.raised) (f : Nat) (last : Option Nat) :
    RaisedBy u (m.reportFom l f last) (if u.fomLow l f last then
      [(Ev.LANE_FOM_LOW, [l, f, u.fld (Reg.LANE_GRP_CFG (laneGroup l)) 0 8].map (· % 2 ^ 32))] else []) := by
  have hleast : m.fld (Reg.LANE_GRP_CFG (laneGroup l)) 0 8 = u.fld (Reg.LANE_GRP_CFG (laneGroup l)) 0 8 :=
    hregs.fld (laneGrpCfg_notMem_fomRegs l) 0 8
  have hup : m.laneUp l = u.laneUp l := congrArg (· == 8) (hregs.fld (laneState_notMem_fomRegs l) 0 4)
  have hlow : m.fomLow l f last = u.fomLow l f last := by rw [State.fomLow, hleast, hup, hnow, State.fomLow]
  have hreport := m.raisedBy_reportFom l f last
  rwa [RaisedBy, hraised, hleast, hlow] at hreport

/-- The events of a FOM that is taken in a state `b` where no more than LANE_EYE of the lane is new. -/
theorem RaisedBy.takeFom {u b : State} {l : Nat} (hregs : SameRegs u b (fomRegs l)) (hlanes : b.lanes = u.lanes)
    (hnow : b.now = u.now) (hraised : b.raised = u.raised) (f : Nat) :
    RaisedBy u (b.takeFom l f) (if u.fomLow l f (u.lane l).fomLowAt then
      [(Ev.LANE_FOM_LOW, [l, f, u.fld (Reg.LANE_GRP_CFG (laneGroup l)) 0 8].map (· % 2 ^ 32))] else []) := by
  have hrecord : SameRegs u ((b.recordFom l f).train l) (fomRegs l) := fun a ha =>
    (State.reg_congr (State.train_regs _ _) a).trans
      (hregs.trans ((b.sameRegs_recordFom l f).mono (laneFom_subset_fomRegs l)) a ha)
  rw [State.takeFom, State.lane_congr hlanes]
  exact RaisedBy.reportFom hrecord ((State.train_now _ _).trans hnow) ((State.train_raised _ _).trans hraised) f _

/-! ## LANE_FOM_UPDATE -/

/-- A receiver shows its eye (R225). -/
def State.showEye (s : State) (l h w : Nat) : State := s.setNat (Reg.LANE_EYE l) (satTo 255 h + min w 64 * 256)

theorem State.sameRegs_showEye (s : State) (l h w : Nat) : SameRegs s (s.showEye l h w) (fomRegs l) :=
  (SameRegs.refl s _).setReg (List.mem_cons_of_mem _ List.mem_cons_self) _

theorem State.leastFom_showEye (s : State) (l h w f : Nat) : (s.showEye l h w).leastFom l f = s.leastFom l f := by
  rw [State.leastFom, State.showEye, State.setNat, State.fld, State.reg_setReg_ne _ _ _ _ (laneEye_ne_laneFom l)]
  rfl

theorem State.showEye_fields (s : State) (l h w f : Nat) :
    ((s.showEye l h w).takeFom l f).fld (Reg.LANE_EYE l) 0 8 = min 255 h ∧
      ((s.showEye l h w).takeFom l f).fld (Reg.LANE_EYE l) 8 8 = min w 64 := by
  have hreg : ((s.showEye l h w).takeFom l f).reg (Reg.LANE_EYE l) = Word.ofNat (satTo 255 h + min w 64 * 256) :=
    (State.sameRegs_takeFom _ l f _ (by simpa using laneEye_ne_laneFom l)).trans (State.reg_setReg_self _ _ _)
  rw [State.fld, State.fld, hreg, satTo_min, Word.field_ofNat (by decide), Word.field_ofNat (by decide)]
  omega

/-- Corrected codewords of the tile count anew for the next second. -/
def State.restartCorr (s : State) (k : Nat) : State := s.setTile k { s.tileState k with fomCorr := 0 }

theorem State.sameRegs_restartCorr (s : State) (k : Nat) (l : List Nat) : SameRegs s (s.restartCorr k) l := fun _ _ => rfl

theorem State.leastFom_restartCorr (s : State) (k l f : Nat) : (s.restartCorr k).leastFom l f = s.leastFom l f := rfl

section
variable {t h w : Nat} {l : Fin 304} {s u : State} (hu : s.advance t = u)
  (hfree : limited (u.lane l).fomAt (ms 1000) u.now = false)
include hu hfree

theorem exec_laneFomUpdate_receiver (hg : laneGroup l ≠ 0) :
    exec (.laneFomUpdate t l h w) s = .next ((u.showEye l h w).takeFom l (eyeFom (laneGroup l) h (min w 64))) := by
  have hrun : exec (.laneFomUpdate t l h w) s = execLaneFomUpdate t l h w s := rfl
  rw [hrun, execLaneFomUpdate, hu]
  simp only [hfree, Bool.false_eq_true, if_false, if_neg hg]
  rfl

theorem exec_laneFomUpdate_forward {k : Nat} (hg : laneGroup l = 0) (hk : u.tileOfLane l = some k) :
    exec (.laneFomUpdate t l h w) s = .next ((u.restartCorr k).takeFom l (corrFom (u.tileState k).fomCorr)) := by
  have hrun : exec (.laneFomUpdate t l h w) s = execLaneFomUpdate t l h w s := rfl
  rw [hrun, execLaneFomUpdate, hu]
  simp only [hfree, Bool.false_eq_true, if_false, if_pos hg, hk]
  rfl

end

theorem eyeFom_lt (g h w : Nat) : eyeFom g h w < 2 ^ 8 := Nat.lt_of_le_of_lt (Nat.min_le_left 255 _) (by decide)

theorem corrFom_lt (n : Nat) : corrFom n < 2 ^ 8 := Nat.lt_of_le_of_lt (Nat.sub_le 255 _) (by decide)

/-- Settles O29: each timeout is one branch of its command, the clearing of all lanes is a run in which no step undoes another, and a FOM
is recorded and reported behind registers that it does not go by. -/
theorem laneTriesAndCounters : Obligations.LaneTriesAndCounters := by
  refine ⟨?_, ?_, ?_, ?_, ?_, ?_, ?_, ?_⟩
  · intro t l s u hu hstage hdue hquiet hfirst
    have hexec := exec_ptxPolarityTimeout_due hu hstage hdue hquiet
    rw [hfirst] at hexec
    have hlane := u.lane_invertTx l
    exact ⟨_, hexec, u.invertTx_inv l, congrArg LaneState.polTried hlane, congrArg LaneState.polAt hlane,
      (u.invertTx_stage l).trans hstage, u.sameRegs_invertTx l, rfl⟩
  · intro t l s u hu hstage hdue hquiet hagain
    rw [exec_ptxPolarityTimeout_due hu hstage hdue hquiet, hagain]
    rfl
  · intro t p l s u hu hp hlt hg hdue
    have hexec := exec_presetTryTimeout_next hu hp hdue hlt
    rw [State.startTry_other _ hg] at hexec
    have hlane := (u.takeSum l).lane_tryBegins l (p + 1)
    rw [u.lane_takeSum l, State.trySum_other hg] at hlane
    exact ⟨_, hexec, congrArg LaneState.tryPreset hlane, congrArg LaneState.tryAt hlane, congrArg LaneState.sums hlane,
      congrArg LaneState.peerFom hlane, State.tryBegins_preset _ (by omega), State.sameRegs_tryBegins _ _ _, rfl⟩
  · intro t p k l s u hu hp hlt hg hk hdue
    have hexec := exec_presetTryTimeout_next hu hp hdue hlt
    have hk' : (u.takeSum l).tileOfLane l = some k := hk
    rw [State.startTry_forward _ hg hk'] at hexec
    have hlane := (u.takeSum l).lane_tryBegins l (p + 1)
    rw [u.lane_takeSum l, State.trySum_forward hg hk] at hlane
    have htile := ((u.takeSum l).tryBegins l (p + 1)).tileState_setTile_self k
      { (u.takeSum l).tileState k with tryCorr := 0, tryLock := none }
    exact ⟨_, hexec, congrArg LaneState.tryPreset hlane, congrArg LaneState.sums hlane, congrArg TileState.tryCorr htile,
      congrArg TileState.tryLock htile, State.tryBegins_preset _ (by omega), State.sameRegs_tryBegins _ _ _, rfl⟩
  · intro t l s u v hu hp hg hdue hv
    have hexec := exec_presetTryTimeout_last hu hp hdue rfl hg hv
    refine ⟨fun b hbest => ?_, fun hnone => ?_⟩
    · rw [hexec, hbest]
    · rw [hexec, hnone]
  · intro t l req s u hu hl hok
    obtain ⟨hprbs, hfom⟩ := u.laneCleared_clearLane l
    have hlane := u.lane_clearLane l
    exact ⟨_, exec_laneCtlClear_ok hu hl hok, hprbs, hfom, congrArg LaneState.minFresh hlane, congrArg LaneState.countAt hlane,
      u.sameRegs_clearLane l, rfl⟩
  · intro t req s u hu hok
    exact ⟨_, exec_laneCtlClearAll_ok hu hok, fun l hl => u.laneCleared_clearLanes hl, u.sameRegs_clearLanes, u.clearLanes_raised⟩
  · intro t h w f l s u hu hfree hcase
    simp only [← State.fomLow_iff]
    obtain ⟨hg, rfl⟩ | ⟨hg, k, hk, rfl⟩ := hcase
    · have hf := eyeFom_lt (laneGroup l) h (min w 64)
      exact ⟨_, exec_laneFomUpdate_receiver hu hfree hg, State.takeFom_fom _ hf,
        (State.takeFom_least _ hf).trans (u.leastFom_showEye l h w _), fun _ => u.showEye_fields l h w _,
        State.takeFom_fomAt _ l _,
        (u.sameRegs_showEye l h w).trans ((State.sameRegs_takeFom _ l _).mono (laneFom_subset_fomRegs l)),
        RaisedBy.takeFom (u.sameRegs_showEye l h w) rfl rfl rfl _⟩
    · have hf := corrFom_lt (u.tileState k).fomCorr
      exact ⟨_, exec_laneFomUpdate_forward hu hfree hg hk, State.takeFom_fom _ hf,
        (State.takeFom_least _ hf).trans (u.leastFom_restartCorr k l _), fun hother => absurd hg hother, State.takeFom_fomAt _ l _,
        (u.sameRegs_restartCorr k _).trans ((State.sameRegs_takeFom _ l _).mono (laneFom_subset_fomRegs l)),
        RaisedBy.takeFom (u.sameRegs_restartCorr k _) rfl rfl rfl _⟩

end Sys2Proof.Machine
end

section
/-! A lane that enters a stage: what follows from it leaves the rows of the lanes and the lanes' own state alone (R218, R220). -/

namespace Sys2Proof.Machine

/-- A register of the rows of the lanes (Table 10-6). -/
def inLaneRows (a : Nat) : Prop := Reg.LANE_CFG 0 ≤ a ∧ a < Reg.LANE_CFG 304

theorem inLaneRows_laneState (l : Fin 304) : inLaneRows (Reg.LANE_STATE l) := by
  unfold inLaneRows Reg.LANE_CFG Reg.LANE_STATE
  omega

theorem inLaneRows_laneTest (l : Fin 304) : inLaneRows (Reg.LANE_TEST l) := by
  unfold inLaneRows Reg.LANE_CFG Reg.LANE_TEST
  omega

theorem laneStat_ne {a : Nat} (h : inLaneRows a) : Reg.LANE_STAT ≠ a := by
  unfold inLaneRows Reg.LANE_CFG at h
  unfold Reg.LANE_STAT
  omega

theorem laneLoopStat_ne {a : Nat} (h : inLaneRows a) : Reg.LANE_LOOP_STAT ≠ a := by
  unfold inLaneRows Reg.LANE_CFG at h
  unfold Reg.LANE_LOOP_STAT
  omega

theorem netPortStat_ne {a : Nat} (h : inLaneRows a) (p : Nat) : Reg.NET_PORT_STAT p ≠ a := by
  unfold inLaneRows Reg.LANE_CFG at h
  unfold Reg.NET_PORT_STAT
  omega

theorem chainPortStat_ne {a : Nat} (h : inLaneRows a) (p : Nat) : Reg.CHAIN_PORT_STAT p ≠ a := by
  unfold inLaneRows Reg.LANE_CFG at h
  unfold Reg.CHAIN_PORT_STAT
  omega

/-! ## What the counts of the lanes keep -/

theorem State.noteLink_keeps {β : Type} {g : State → β} (hnet : ∀ s x, g { s with net := x } = g s) (s : State) (p : Nat) :
    g (s.noteLink p) = g s := by
  unfold State.noteLink
  extract_lets up was
  split
  · rfl
  · split <;> exact hnet _ _

theorem State.refreshLanes_keeps {β : Type} {g : State → β} (hnet : ∀ s x, g { s with net := x } = g s)
    (hport : ∀ s p w, g (State.setReg s (Reg.NET_PORT_STAT p) w) = g s)
    (hstat : ∀ s w, g (State.setReg s Reg.LANE_STAT w) = g s) (s : State) : g s.refreshLanes = g s := by
  unfold State.refreshLanes
  extract_lets noted shown
  have hnoted : g noted = g s := (State.noteLink_keeps hnet _ _).trans (State.noteLink_keeps hnet _ _)
  have hshown : g shown = g noted := State.each_keeps (fun s p => hport s p _) _ _
  exact (hstat _ _).trans (hshown.trans hnoted)

theorem State.refreshLanes_lanes (s : State) : s.refreshLanes.lanes = s.lanes :=
  State.refreshLanes_keeps (g := State.lanes) (fun _ _ => rfl) (fun _ _ _ => rfl) (fun _ _ => rfl) s

theorem State.reg_refreshLanes (s : State) {a : Nat} (ha : inLaneRows a) : s.refreshLanes.reg a = s.reg a :=
  State.refreshLanes_keeps (g := (·.reg a)) (fun _ _ => rfl) (fun s p w => State.reg_setReg_ne s _ _ w (netPortStat_ne ha p))
    (fun s w => State.reg_setReg_ne s _ _ w (laneStat_ne ha)) s

/-! ## What the loop and the chain port of a lane keep -/

/-- The bookkeeping of a loop that goes to state `st` and port `p`. -/
def State.loopMoved (s : State) (st p : Nat) : LoopState :=
  { s.lanes.loop with since := if s.loopState = st ∧ s.loopPort = p then s.lanes.loop.since else s.now
                      tport := s.fld Reg.LANE_LOOP_CFG 0 2 }

/-- LANE_LOOP_STAT shows state `st` and port `p`. -/
def State.showLoop (s : State) (st p : Nat) : State :=
  (({ s with lanes := { s.lanes with loop := s.loopMoved st p } } : State).setFld Reg.LANE_LOOP_STAT 0 3 st).setFld
    Reg.LANE_LOOP_STAT 3 2 p

/-- The loop shows where it goes, and raises LANE_LOOP_STATE when its state changes (R218). -/
theorem State.setLoop_eq (s : State) (st p : Nat) : s.setLoop st p =
    if s.loopState = st then s.showLoop st p else (s.showLoop st p).raise Ev.LANE_LOOP_STATE [s.loopState, st, p] := rfl

theorem State.setLoop_keeps {β : Type} {g : State → β}
    (hloop : ∀ s x, g { s with lanes := { s.lanes with loop := x } } = g s)
    (hstat : ∀ s w, g (State.setReg s Reg.LANE_LOOP_STAT w) = g s) (hraise : ∀ s c l, g (State.raise s c l) = g s)
    (s : State) (st p : Nat) : g (s.setLoop st p) = g s := by
  have hshow : g (s.showLoop st p) = g s := (hstat _ _).trans ((hstat _ _).trans (hloop _ _))
  rw [State.setLoop_eq]
  split
  · exact hshow
  · exact (hraise _ _ _).trans hshow

theorem State.loopCheck_keeps {β : Type} {g : State → β}
    (hloop : ∀ s x, g { s with lanes := { s.lanes with loop := x } } = g s)
    (hstat : ∀ s w, g (State.setReg s Reg.LANE_LOOP_STAT w) = g s) (hraise : ∀ s c l, g (State.raise s c l) = g s)
    (s : State) : g s.loopCheck = g s := by
  have hset (st p : Nat) : g (s.setLoop st p) = g s := State.setLoop_keeps hloop hstat hraise s st p
  unfold State.loopCheck
  extract_lets t
  split
  · rfl
  · split
    · split
      · exact hset _ _
      · rfl
    · split
      · exact hset _ _
      · split
        · exact hset _ _
        · rfl
    · rfl
    · split
      · exact hloop _ _
      · rfl

theorem State.afterLane_keeps {β : Type} {g : State → β}
    (hloop : ∀ s x, g { s with lanes := { s.lanes with loop := x } } = g s)
    (hstat : ∀ s w, g (State.setReg s Reg.LANE_LOOP_STAT w) = g s) (hraise : ∀ s c l, g (State.raise s c l) = g s)
    (hport : ∀ s p w, g (State.setReg s (Reg.CHAIN_PORT_STAT p) w) = g s) (s : State) (l : Nat) : g (s.afterLane l) = g s := by
  unfold State.afterLane
  split
  · exact (State.loopCheck_keeps hloop hstat hraise _).trans (hport _ _ _)
  · rfl

/-! ## A lane enters a stage -/

theorem State.endRuns_keeps {β : Type} {g : State → β} (hspk : ∀ s x, g { s with spk := x } = g s) (s : State) (l : Nat) :
    g (s.endRuns l) = g s := by
  unfold State.endRuns
  split
  · exact hspk _ _
  · rfl

/-- A lane enters its stage behind the end of its tile's runs (R211), which touches neither the lanes nor a register. -/
theorem State.setStage_eq (s : State) (l v : Nat) : ∃ m : State, m.lanes = s.lanes ∧ m.regs = s.regs ∧
    s.setStage l v =
      ((m.setLane l { m.lane l with stageAt := m.now, polAt := m.now }).setFld (Reg.LANE_STATE l) 0 4 v).refreshLanes := by
  refine ⟨if v ≠ 8 ∧ s.laneUp l then s.endRuns l else s, ?_, ?_, rfl⟩
  · split
    · exact State.endRuns_keeps (g := State.lanes) (fun _ _ => rfl) s l
    · rfl
  · split
    · exact State.endRuns_keeps (g := State.regs) (fun _ _ => rfl) s l
    · rfl

theorem State.reg_goStage (s : State) (l : Fin 304) (v : Nat) {a : Nat} (ha : inLaneRows a) :
    (s.goStage l v).reg a = if Reg.LANE_STATE l = a then (s.reg a).put 0 4 v else s.reg a := by
  obtain ⟨m, -, hregs, hset⟩ := s.setStage_eq l v
  have hafter : (s.goStage l v).reg a = (s.setStage l v).reg a :=
    State.afterLane_keeps (g := (·.reg a)) (fun _ _ => rfl) (fun s w => State.reg_setReg_ne s _ _ w (laneLoopStat_ne ha))
      (fun _ _ _ => rfl) (fun s p w => State.reg_setReg_ne s _ _ w (chainPortStat_ne ha p)) _ _
  rw [hafter, hset, State.reg_refreshLanes _ ha, State.reg_setFld, State.reg_setLane, State.reg_setLane, State.reg_congr hregs,
    State.reg_congr hregs]
  split
  next h => rw [h]
  next => rfl

theorem State.reg_goStage_ne (s : State) (l : Fin 304) (v : Nat) {a : Nat} (ha : inLaneRows a) (hne : Reg.LANE_STATE l ≠ a) :
    (s.goStage l v).reg a = s.reg a := (s.reg_goStage l v ha).trans (if_neg hne)

theorem State.laneStage_goStage (s : State) (l : Fin 304) {v : Nat} (hv : v < 16) : (s.goStage l v).laneStage l = v := by
  rw [State.laneStage, State.fld, s.reg_goStage l v (inLaneRows_laneState l), if_pos rfl, Word.field_put_self _ _ _ _ (by decide)]
  exact Nat.mod_eq_of_lt hv

/-- A new stage neither starts nor ends the lane's transmitter. -/
theorem State.first_goStage (s : State) (l v : Nat) : ((s.goStage l v).lane l).first = (s.lane l).first := by
  obtain ⟨m, hlanes, -, hset⟩ := s.setStage_eq l v
  have hafter : (s.goStage l v).lanes.lanes = (s.setStage l v).lanes.lanes :=
    State.afterLane_keeps (g := (·.lanes.lanes)) (fun _ _ => rfl) (fun _ _ => rfl) (fun _ _ _ => rfl) (fun _ _ _ => rfl) _ _
  have hlane : (s.goStage l v).lane l = (s.setStage l v).lane l := by rw [State.lane, hafter, State.lane]
  rw [hlane, hset, State.lane_congr (State.refreshLanes_lanes _), State.lane_congr (State.setFld_lanes _ _ _ _ _),
    State.lane_setLane_self, State.lane_congr hlanes]

/-- A lane outside the panel's forward ones restarts at DETECT (R224). -/
theorem State.laneStage_retrain (s : State) (l : Fin 304) (hg : laneGroup l ≠ 0) : (s.retrain l).laneStage l = 2 := by
  simp only [State.retrain, if_neg hg]
  exact State.laneStage_goStage _ l (by decide)

end Sys2Proof.Machine
end

section
/-! Calibration grants, test patterns and error injection of a lane (R227 to R230). -/

namespace Sys2Proof

/-- The low six bits of a word are those that a write of LANE_TEST places. -/
theorem Word.bit_and_low {w : Word} {i : Nat} (hi : i < 6) : (w &&& 0x3F).bit i = w.bit i := by
  have hmask : ∀ j < 6, (0x3F : Word).getLsbD j = true := by decide
  rw [Word.bit, BitVec.getLsbD_and, hmask i hi, Bool.and_true, Word.bit]

theorem Word.field_and_low (w : Word) : (w &&& 0x3F).field 0 6 = w.field 0 6 := by
  apply Nat.eq_of_testBit_eq
  intro i
  rw [Word.field_testBit, Word.field_testBit]
  by_cases hi : i < 6
  · have hbit := Word.bit_and_low (w := w) hi
    rw [Word.bit, Word.bit] at hbit
    rw [Nat.zero_add, hbit]
  · simp [hi]

end Sys2Proof

namespace Sys2Proof.Machine

/-! ## Background calibration -/

theorem exec_bgcalGrant_ok {t k : Nat} {l : Fin 304} {s u : State} (hu : s.advance t = u) (hg : laneGroup l ≠ 0)
    (hcfg : u.bit (Reg.LANE_GRP_CFG (laneGroup l)) 8 = true) (hon : u.domainOn (laneDomain l) = true)
    (hidle : ((u.lane l).granted.any fun g => decide (u.now ≤ g.2.1 + ms 1)) = false)
    (hrest : limited (mapGet (u.lane l).slicers k) (ms 100) u.now = false) :
    exec (.bgcalGrant t l k) s = .next (u.setLane l { u.lane l with slicers := mapPut (u.lane l).slicers k u.now,
                                                                    granted := some (k, u.now, mapGet (u.lane l).slicers k) }) := by
  have hrun : exec (.bgcalGrant t l k) s = execBgcalGrant t l k s := rfl
  rw [hrun, execBgcalGrant, hu]
  simp [hg, hcfg, hon, hidle, hrest]

/-- The calibrations of the slicers with that of `k` as it was before a grant. -/
def takenBack (m : List (Nat × Nat)) (k : Nat) (before : Option Nat) : List (Nat × Nat) :=
  match before with
  | some c => mapPut m k c
  | none => mapErase m k

theorem mapGet_takenBack (m : List (Nat × Nat)) (k : Nat) (before : Option Nat) : mapGet (takenBack m k before) k = before := by
  cases before with
  | none => exact (mapGet_mapErase m k k).trans (if_pos rfl)
  | some c => exact (mapGet_mapPut m k k c).trans (if_pos rfl)

/-- A grant is over, and its slicer was not calibrated under it. -/
def State.grantLapses (s : State) (l k : Nat) (before : Option Nat) : State :=
  s.setLane l { s.lane l with slicers := takenBack (s.lane l).slicers k before, granted := none }

theorem State.lane_grantLapses (s : State) (l k : Nat) (before : Option Nat) : (s.grantLapses l k before).lane l =
    { s.lane l with slicers := takenBack (s.lane l).slicers k before, granted := none } := s.lane_setLane_self l _

theorem exec_bgcalGrantLapse_due {t k c : Nat} {before : Option Nat} {l : Fin 304} {s u : State} (hu : s.advance t = u)
    (hgrant : (u.lane l).granted = some (k, c, before)) (hdue : u.now = c + ms 1) (hup : u.laneUp l = true) :
    exec (.bgcalGrantLapse t l k) s = .next (u.grantLapses l k before) := by
  have hrun : exec (.bgcalGrantLapse t l k) s = execBgcalGrantLapse t l k s := rfl
  have hgo : ¬ (k ≠ k ∨ u.now ≠ c + ms 1 ∨ (!u.laneUp l) = true) := by simp [hdue, hup]
  rw [hrun, execBgcalGrantLapse, hu]
  simp only [hgrant]
  exact congrArg _ (if_neg hgo)

/-! ## The words of LANE_TEST and LANE_INJ -/

theorem writeMask_laneTest : ∀ l : Fin 304, writeMask (Reg.LANE_TEST l) = 0x3F := by decide +kernel

theorem writeMask_laneInj : ∀ l : Fin 304, writeMask (Reg.LANE_INJ l) = BitVec.allOnes 32 := by decide +kernel

/-- Neither is mirrored in a chain (Table 18-5). -/
theorem mirrorScope_laneTest : ∀ l : Fin 304, mirrorScope (Reg.LANE_TEST l) = 0 := by decide +kernel

theorem mirrorScope_laneInj : ∀ l : Fin 304, mirrorScope (Reg.LANE_INJ l) = 0 := by decide +kernel

/-! ## LANE_TEST is written -/

/-- The registers that the generator and the checker write. -/
def testRegs (l : Nat) : List Nat := [Reg.LANE_TEST l, Reg.LANE_PRBS_ERR l]

theorem lanePrbsErr_ne_laneTest (l : Nat) : Reg.LANE_PRBS_ERR l ≠ Reg.LANE_TEST l := by
  unfold Reg.LANE_PRBS_ERR Reg.LANE_TEST
  omega

theorem laneState_ne_laneTest (l : Nat) : Reg.LANE_STATE l ≠ Reg.LANE_TEST l := by
  unfold Reg.LANE_STATE Reg.LANE_TEST
  omega

theorem laneState_notMem_testRegs (l : Nat) : Reg.LANE_STATE l ∉ testRegs l := by
  simp only [testRegs, Reg.LANE_STATE, Reg.LANE_TEST, Reg.LANE_PRBS_ERR, List.mem_cons, List.not_mem_nil, or_false]
  omega

/-- The generator and the checker take the word `w`. -/
def State.takeTest (s : State) (l : Nat) (w : Word) : State :=
  ((s.setReg (Reg.LANE_TEST l) w).setGenerator l (s.reg (Reg.LANE_TEST l)) w).setChecker l (s.reg (Reg.LANE_TEST l)) w

theorem State.setGenerator_regs (s : State) (l : Nat) (old w : Word) : (s.setGenerator l old w).regs = s.regs := by
  unfold State.setGenerator
  extract_lets x
  split <;> rfl

/-- The checker shows its lock in a bit of LANE_TEST, and its count in LANE_PRBS_ERR. -/
theorem State.setChecker_regs (s : State) (l : Nat) (old w : Word) :
    SameRegs s (s.setChecker l old w) (testRegs l) ∧ (s.setChecker l old w).fld (Reg.LANE_TEST l) 0 6 = s.fld (Reg.LANE_TEST l) 0 6 := by
  have hself := SameRegs.refl s (testRegs l)
  unfold State.setChecker
  extract_lets on ended
  split
  · exact ⟨hself.setReg List.mem_cons_self _, State.fld_setFld_same _ _ _ _ _ _ _ (by decide)⟩
  · refine ⟨(hself.setReg (List.mem_cons_of_mem _ List.mem_cons_self) _).setReg List.mem_cons_self _, ?_⟩
    have hended : ended = (s.foldErrors l).setBit (Reg.LANE_TEST l) 8 false := rfl
    rw [State.fld_setLane, hended, State.setBit, State.fld_setFld_same _ _ _ _ _ _ _ (by decide), State.foldErrors,
      State.fld_setLane, State.fld, State.setNat, State.reg_setReg_ne _ _ _ _ (lanePrbsErr_ne_laneTest l), State.fld]

theorem State.sameRegs_takeTest (s : State) (l : Nat) (w : Word) : SameRegs s (s.takeTest l w) (testRegs l) :=
  fun a ha => ((State.setChecker_regs _ l _ w).1 a ha).trans
    ((State.reg_congr (State.setGenerator_regs _ l _ w) a).trans ((SameRegs.refl s _).setReg List.mem_cons_self w a ha))

theorem State.takeTest_word (s : State) (l : Nat) (w : Word) : (s.takeTest l w).fld (Reg.LANE_TEST l) 0 6 = w.field 0 6 := by
  rw [State.takeTest, (State.setChecker_regs _ l _ w).2, State.fld, State.reg_congr (State.setGenerator_regs _ l _ w),
    State.reg_setReg_self]

theorem State.takeTest_stage (s : State) (l : Nat) (w : Word) : (s.takeTest l w).laneStage l = s.laneStage l :=
  (s.sameRegs_takeTest l w).fld (laneState_notMem_testRegs l) 0 4

theorem laneDomain_lt : ∀ l : Fin 304, laneDomain l < 64 := by decide +kernel

/-- The status of the lanes' domains stands apart from the lanes. -/
theorem State.takeTest_domainOn (s : State) (l : Fin 304) (w : Word) :
    (s.takeTest l w).domainOn (laneDomain l) = s.domainOn (laneDomain l) := by
  have hreg : Reg.PWR_DOMAIN_STAT0 + 4 * (laneDomain l / 32) ∉ testRegs l := by
    have hdomain := laneDomain_lt l
    simp only [testRegs, Reg.PWR_DOMAIN_STAT0, Reg.LANE_TEST, Reg.LANE_PRBS_ERR, List.mem_cons, List.not_mem_nil, or_false]
    omega
  exact congrArg (Word.bit · _) (s.sameRegs_takeTest l w _ hreg)

/-- The lane is under test: its transmitter ends, and its stage is TEST (R228). -/
def State.underTest (s : State) (l : Nat) : State := (s.stopTx l).goStage l 0xA

theorem State.underTest_stage (s : State) (l : Fin 304) : (s.underTest l).laneStage l = 0xA :=
  State.laneStage_goStage _ l (by decide)

theorem State.underTest_word (s : State) (l : Fin 304) : (s.underTest l).fld (Reg.LANE_TEST l) 0 6 = s.fld (Reg.LANE_TEST l) 0 6 :=
  congrArg (Word.field · 0 6) (State.reg_goStage_ne _ l _ (inLaneRows_laneTest l) (laneState_ne_laneTest l))

theorem State.underTest_first (s : State) (l : Nat) : ((s.underTest l).lane l).first = none := by
  rw [State.underTest, State.first_goStage, State.stopTx, State.lane_setLane_self]

/-- GEN or CHK puts a lane that is on under test; a lane that leaves the test retrains. -/
theorem exec_laneTestWrite_ok {t : Nat} {l : Fin 304} {req : Requester} {w : Word} {s u : State} (hu : s.advance t = u)
    (hok : u.accepts req (Reg.LANE_TEST l) w) :
    exec (.laneTestWrite t req l w) s = .next (
      if w.bit 2 || w.bit 3 then
        if u.domainOn (laneDomain l) then (u.takeTest l (w &&& 0x3F)).underTest l else u.takeTest l (w &&& 0x3F)
      else if u.laneStage l = 0xA then (u.takeTest l (w &&& 0x3F)).retrain l else u.takeTest l (w &&& 0x3F)) := by
  have hrun : exec (.laneTestWrite t req l w) s = execLaneTestWrite t req l w s := rfl
  rw [hrun, execLaneTestWrite, hu, State.guarded_ok hok, State.mirror_local _ _ _ _ (mirrorScope_laneTest l), writeMask_laneTest,
    ← u.takeTest_domainOn l (w &&& 0x3F), ← u.takeTest_stage l (w &&& 0x3F), ← Word.bit_and_low (w := w) (show 2 < 6 by decide),
    ← Word.bit_and_low (w := w) (show 3 < 6 by decide)]
  rfl

/-! ## LANE_INJ is written -/

theorem exec_laneInjWrite_ok {t : Nat} {l : Fin 304} {req : Requester} {w : Word} {s u : State} (hu : s.advance t = u)
    (hok : u.accepts req (Reg.LANE_INJ l) w) :
    exec (.laneInjWrite t req l w) s = .next ((u.setReg (Reg.LANE_INJ l) w).setInjection l w) := by
  have hrun : exec (.laneInjWrite t req l w) s = execLaneInjWrite t req l w s := rfl
  rw [hrun, execLaneInjWrite, hu, State.guarded_ok hok, State.mirror_local _ _ _ _ (mirrorScope_laneInj l), writeMask_laneInj,
    BitVec.and_allOnes]

theorem State.setInjection_regs (s : State) (l : Nat) (w : Word) : (s.setInjection l w).regs = s.regs := by
  unfold State.setInjection
  split <;> rfl

theorem State.setInjection_raised (s : State) (l : Nat) (w : Word) : (s.setInjection l w).raised = s.raised := by
  unfold State.setInjection
  split <;> rfl

/-- A lane without transmitter takes up what it injects when its transmitter starts. -/
theorem State.setInjection_silent {s : State} {l : Nat} (w : Word) (h : s.slotNow l = none) : s.setInjection l w = s := by
  simp only [State.setInjection, h]

theorem State.inject_setInjection {s : State} {l m : Nat} (w : Word) (h : s.slotNow l = some m) :
    ((s.setInjection l w).lane l).inject =
      ((s.lane l).inject.map fun r => if r.until_.isNone then { r with until_ := some ((m + 19) / 20) } else r) ++
        injectionFrom w ((m + 19) / 20) := by
  simp only [State.setInjection, h, State.lane_setLane_self]

/-- What a new run inverts, codeword by codeword. -/
theorem symbolsIn_injectionFrom {w : Word} (k j : Nat) (hw : w.field 0 5 ≠ 0) : (injectionFrom w k).map (·.symbolsIn j) =
    [if k ≤ j ∧ (j + 1 - k) % w.field 16 16 = 0 ∧ (w.field 5 11 = 0 ∨ (j + 1 - k) / w.field 16 16 ≤ w.field 5 11) then w.field 0 5
      else 0] := by
  simp [injectionFrom, hw, InjectRun.symbolsIn]

/-! ## The checker -/

/-- The checker is locked, and counts from the next cycle on. -/
def State.checkerLocks (s : State) (l : Nat) : State :=
  (s.setBit (Reg.LANE_TEST l) 8 true).setLane l { s.lane l with countAt := some (s.now + 1) }

theorem State.checkerLocks_locked (s : State) (l : Nat) : (s.checkerLocks l).bit (Reg.LANE_TEST l) 8 = true :=
  State.bit_setBit_self s _ 8 true (by decide)

theorem State.lane_checkerLocks (s : State) (l : Nat) :
    (s.checkerLocks l).lane l = { s.lane l with countAt := some (s.now + 1) } := State.lane_setLane_self _ l _

theorem State.sameRegs_checkerLocks (s : State) (l : Nat) : SameRegs s (s.checkerLocks l) [Reg.LANE_TEST l] :=
  (SameRegs.refl s _).setReg List.mem_cons_self _

/-- The checker has lost lock: its count so far stays, and it needs 64 bits again. -/
def State.checkerLoses (s : State) (l : Nat) : State :=
  ((s.foldErrors l).setBit (Reg.LANE_TEST l) 8 false).setLane l { (s.foldErrors l).lane l with chkAt := some s.now }

theorem State.checkerLoses_unlocked (s : State) (l : Nat) : (s.checkerLoses l).bit (Reg.LANE_TEST l) 8 = false :=
  State.bit_setBit_self (s.foldErrors l) _ 8 false (by decide)

theorem State.lane_checkerLoses (s : State) (l : Nat) :
    (s.checkerLoses l).lane l = { s.lane l with countAt := none, chkAt := some s.now } := by
  rw [State.checkerLoses, State.lane_setLane_self, State.foldErrors, State.lane_setLane_self]

theorem State.sameRegs_checkerLoses (s : State) (l : Nat) : SameRegs s (s.checkerLoses l) (testRegs l) :=
  ((SameRegs.refl s _).setReg (List.mem_cons_of_mem _ List.mem_cons_self) _).setReg List.mem_cons_self _

theorem State.prbsErrors_lt (s : State) (l : Nat) : s.prbsErrors l < 2 ^ 32 := by
  unfold State.prbsErrors
  extract_lets new
  rw [satTo_min]
  omega

theorem State.checkerLoses_count (s : State) (l : Nat) : (s.checkerLoses l).nat (Reg.LANE_PRBS_ERR l) = s.prbsErrors l := by
  rw [State.nat, State.checkerLoses, State.reg_setLane, State.reg_setBit, if_neg (lanePrbsErr_ne_laneTest l).symm, State.foldErrors,
    State.reg_setLane, State.setNat, State.reg_setReg_self]
  exact Nat.mod_eq_of_lt (s.prbsErrors_lt l)

theorem exec_prbsCheckerLock_ok {t : Nat} {l : Fin 304} {s u : State} (hu : s.advance t = u)
    (hchk : u.bit (Reg.LANE_TEST l) 3 = true) (hopen : u.bit (Reg.LANE_TEST l) 8 = false) (hbits : u.lockPossible l = true) :
    exec (.prbsCheckerLock t l) s = .next (u.checkerLocks l) := by
  have hrun : exec (.prbsCheckerLock t l) s = execPrbsCheckerLock t l s := rfl
  rw [hrun, execPrbsCheckerLock, hu]
  simp only [hchk, hopen, hbits]
  rfl

theorem exec_prbsCheckerLockLoss_ok {t : Nat} {l : Fin 304} {s u : State} (hu : s.advance t = u)
    (hlocked : u.bit (Reg.LANE_TEST l) 8 = true) : exec (.prbsCheckerLockLoss t l) s = .next (u.checkerLoses l) := by
  have hrun : exec (.prbsCheckerLockLoss t l) s = execPrbsCheckerLockLoss t l s := rfl
  rw [hrun, execPrbsCheckerLockLoss, hu]
  exact congrArg _ (if_pos hlocked)

end Sys2Proof.Machine
end

section
/-! The reference loop and latency slips, and with them the statement on tests and the loop (R216, R218, R219, R385). -/

namespace Sys2Proof.Machine

/-! ## Where the loop goes -/

theorem State.loopPort_lt (s : State) : s.loopPort < 4 := Nat.mod_lt _ (by decide)

theorem State.showLoop_state (s : State) {st : Nat} (p : Nat) (h : st < 8) : (s.showLoop st p).loopState = st := by
  rw [State.loopState, State.showLoop, State.fld_setFld_same _ _ _ _ _ _ _ (by decide), State.fld_setFld_self _ _ _ _ _ (by decide)]
  exact Nat.mod_eq_of_lt h

theorem State.showLoop_port (s : State) (st : Nat) {p : Nat} (h : p < 4) : (s.showLoop st p).loopPort = p :=
  (State.fld_setFld_self _ _ 3 2 p (by decide)).trans (Nat.mod_eq_of_lt h)

theorem State.sameRegs_showLoop (s : State) (st p : Nat) : SameRegs s (s.showLoop st p) [Reg.LANE_LOOP_STAT] :=
  ((SameRegs.refl s _).setReg List.mem_cons_self _).setReg List.mem_cons_self _

theorem State.setLoop_regs (s : State) (st p : Nat) : (s.setLoop st p).regs = (s.showLoop st p).regs := by
  rw [State.setLoop_eq]
  split <;> rfl

theorem State.setLoop_lanes (s : State) (st p : Nat) : (s.setLoop st p).lanes = (s.showLoop st p).lanes := by
  rw [State.setLoop_eq]
  split <;> rfl

theorem State.setLoop_state (s : State) {st : Nat} (p : Nat) (h : st < 8) : (s.setLoop st p).loopState = st :=
  (congrArg (Word.field · 0 3) (State.reg_congr (s.setLoop_regs st p) _)).trans (s.showLoop_state p h)

theorem State.setLoop_port (s : State) (st : Nat) {p : Nat} (h : p < 4) : (s.setLoop st p).loopPort = p :=
  (congrArg (Word.field · 3 2) (State.reg_congr (s.setLoop_regs st p) _)).trans (s.showLoop_port st h)

theorem State.sameRegs_setLoop (s : State) (st p : Nat) : SameRegs s (s.setLoop st p) [Reg.LANE_LOOP_STAT] :=
  fun a ha => (State.reg_congr (s.setLoop_regs st p) a).trans (s.sameRegs_showLoop st p a ha)

theorem State.setLoop_lostAt (s : State) (st p : Nat) : (s.setLoop st p).lanes.loop.lostAt = s.lanes.loop.lostAt :=
  congrArg (·.loop.lostAt) (s.setLoop_lanes st p)

/-- A change of state is the one event of the loop. -/
theorem State.raisedBy_setLoop {s : State} {st : Nat} (p : Nat) (h : s.loopState ≠ st) :
    RaisedBy s (s.setLoop st p) [(Ev.LANE_LOOP_STATE, [s.loopState, st, p].map (· % 2 ^ 32))] := by
  rw [State.setLoop_eq, if_neg h]
  exact RaisedBy.of_raise rfl _ _

/-! ## The time source that holdover may call for -/

/-- A choice of the time source writes TIME_STAT and the time lines, and may raise an event: what these keep is kept. -/
theorem State.pickSource_keeps {β : Type} {g : State → β} (htime : ∀ s x, g { s with time := x } = g s)
    (hstat : ∀ s w, g (State.setReg s Reg.TIME_STAT w) = g s) (hraise : ∀ s c l, g (State.raise s c l) = g s)
    (s : State) : g s.pickSource = g s := by
  have hline (s : State) (l : TimeLine) : g (s.followLine l) = g s := by
    unfold State.followLine
    split <;> exact htime _ _
  have hfollow (s : State) : g s.follow = g s := by
    unfold State.follow
    split
    · exact hline _ _
    · rfl
  unfold State.pickSource
  extract_lets new old off told
  have htold : g told = g s := (hraise _ _ _).trans (hstat _ _)
  split
  · rfl
  · split
    · exact (hline _ _).trans htold
    · exact (hfollow _).trans htold

theorem State.pickSource_lanes (s : State) : s.pickSource.lanes = s.lanes :=
  State.pickSource_keeps (g := State.lanes) (fun _ _ => rfl) (fun _ _ => rfl) (fun _ _ _ => rfl) s

theorem State.reg_pickSource_loopStat (s : State) : s.pickSource.reg Reg.LANE_LOOP_STAT = s.reg Reg.LANE_LOOP_STAT :=
  State.pickSource_keeps (g := (·.reg Reg.LANE_LOOP_STAT)) (fun _ _ => rfl)
    (fun s w => State.reg_setReg_ne s _ _ w (by decide)) (fun _ _ _ => rfl) s

/-! ## The loop's commands -/

/-- The 10 µs of a move are over. -/
def State.moveEnds (s : State) : State := { s with lanes := { s.lanes with loop := { s.lanes.loop with lostAt := none } } }

/-- The port that the loop goes to when it must leave the one it follows; none: holdover (R218). -/
def State.nextPort (s : State) : Option Nat :=
  if s.loopPort ≠ s.fld Reg.LANE_LOOP_CFG 2 2 ∧ s.backupUp then some (s.fld Reg.LANE_LOOP_CFG 2 2)
  else if s.loopPort ≠ s.fld Reg.LANE_LOOP_CFG 0 2 ∧ s.portLanesUp (s.fld Reg.LANE_LOOP_CFG 0 2) then
    some (s.fld Reg.LANE_LOOP_CFG 0 2)
  else none

theorem not_ne_and_of_eq_or {a b : Nat} {c : Bool} (h : a = b ∨ c = false) : ¬ (a ≠ b ∧ c = true) := by
  rintro ⟨hne, hc⟩
  rcases h with h | h
  · exact hne h
  · exact Bool.noConfusion (h.symm.trans hc)

section
variable {s : State} (hno : s.loopPort = s.fld Reg.LANE_LOOP_CFG 2 2 ∨ s.backupUp = false)
include hno

theorem State.nextPort_timing (hport : s.loopPort ≠ s.fld Reg.LANE_LOOP_CFG 0 2)
    (hup : s.portLanesUp (s.fld Reg.LANE_LOOP_CFG 0 2) = true) : s.nextPort = some (s.fld Reg.LANE_LOOP_CFG 0 2) := by
  have hbackup : ¬ (s.loopPort ≠ s.fld Reg.LANE_LOOP_CFG 2 2 ∧ s.backupUp = true) := not_ne_and_of_eq_or hno
  rw [State.nextPort, if_neg hbackup, if_pos ⟨hport, hup⟩]

theorem State.nextPort_none (hnone : s.loopPort = s.fld Reg.LANE_LOOP_CFG 0 2 ∨ s.portLanesUp (s.fld Reg.LANE_LOOP_CFG 0 2) = false) :
    s.nextPort = none := by
  have hbackup : ¬ (s.loopPort ≠ s.fld Reg.LANE_LOOP_CFG 2 2 ∧ s.backupUp = true) := not_ne_and_of_eq_or hno
  have htiming : ¬ (s.loopPort ≠ s.fld Reg.LANE_LOOP_CFG 0 2 ∧ s.portLanesUp (s.fld Reg.LANE_LOOP_CFG 0 2) = true) :=
    not_ne_and_of_eq_or hnone
  rw [State.nextPort, if_neg hbackup, if_neg htiming]

end

/-- The loop follows the port `p`, or holds over. -/
def State.leavePort (s : State) (p : Option Nat) : State :=
  match p with
  | some p => s.setLoop 1 p
  | none => (s.setLoop 3 s.loopPort).pickSource

theorem State.leavePort_nextPort (s v : State) : v.leavePort s.nextPort =
    if s.loopPort ≠ s.fld Reg.LANE_LOOP_CFG 2 2 ∧ s.backupUp then v.setLoop 1 (s.fld Reg.LANE_LOOP_CFG 2 2)
    else if s.loopPort ≠ s.fld Reg.LANE_LOOP_CFG 0 2 ∧ s.portLanesUp (s.fld Reg.LANE_LOOP_CFG 0 2) then
      v.setLoop 1 (s.fld Reg.LANE_LOOP_CFG 0 2)
    else (v.setLoop 3 v.loopPort).pickSource := by
  unfold State.nextPort
  split
  · rfl
  · split <;> rfl

theorem State.leavePort_lostAt (s : State) (p : Option Nat) : (s.leavePort p).lanes.loop.lostAt = s.lanes.loop.lostAt := by
  cases p with
  | some p => exact s.setLoop_lostAt 1 p
  | none => exact (congrArg (·.loop.lostAt) (State.pickSource_lanes _)).trans (s.setLoop_lostAt 3 _)

/-- In holdover the loop keeps showing the port that it followed. -/
theorem State.leavePort_none (s : State) : (s.leavePort none).loopState = 3 ∧ (s.leavePort none).loopPort = s.loopPort :=
  ⟨(congrArg (Word.field · 0 3) (State.reg_pickSource_loopStat _)).trans (s.setLoop_state _ (by decide)),
    (congrArg (Word.field · 3 2) (State.reg_pickSource_loopStat _)).trans (s.setLoop_port 3 s.loopPort_lt)⟩

theorem State.leavePort_some (s : State) {p : Nat} (hp : p < 4) : (s.leavePort (some p)).loopState = 1 ∧
    (s.leavePort (some p)).loopPort = p ∧ SameRegs s (s.leavePort (some p)) [Reg.LANE_LOOP_STAT] :=
  ⟨s.setLoop_state p (by decide), s.setLoop_port 1 hp, s.sameRegs_setLoop 1 p⟩

theorem exec_loopTportLockLoss_following {t : Nat} {s u : State} (hu : s.advance t = u) (h : u.loopState = 1 ∨ u.loopState = 2) :
    exec (.loopTportLockLoss t) s =
      .next { u with lanes := { u.lanes with loop := { u.lanes.loop with lostAt := some u.now } } } := by
  have hrun : exec (.loopTportLockLoss t) s = execLoopTportLockLoss t s := rfl
  rw [hrun, execLoopTportLockLoss, hu]
  exact congrArg _ (if_pos h)

theorem exec_loopLocked_due {t : Nat} {s u : State} (hu : s.advance t = u) (hstate : u.loopState = 1)
    (hkept : u.lanes.loop.lostAt = none) (hdue : u.lanes.loop.since + ms 10 ≤ u.now) :
    exec (.loopLocked t) s = .next (u.setLoop 2 u.loopPort) := by
  have hrun : exec (.loopLocked t) s = execLoopLocked t s := rfl
  rw [hrun, execLoopLocked, hu]
  exact congrArg _ (if_pos ⟨hstate, hkept, hdue⟩)

theorem exec_loopMoveTimeout_due {t c : Nat} {s u : State} (hu : s.advance t = u) (hlost : u.lanes.loop.lostAt = some c)
    (hdue : c + us 10 ≤ u.now) (hgone : u.relocks u.loopPort = false) :
    exec (.loopMoveTimeout t) s = .next (u.moveEnds.leavePort u.nextPort) := by
  have hrun : exec (.loopMoveTimeout t) s = execLoopMoveTimeout t s := rfl
  have hgo : ¬ (u.now < c + us 10 ∨ u.relocks u.loopPort = true) := by simp [hgone, Nat.not_lt.mpr hdue]
  rw [hrun, execLoopMoveTimeout, hu, State.leavePort_nextPort]
  simp only [hlost, if_neg hgo]
  rfl

theorem exec_laneLatencySlip_eq {t : Nat} {p l : Fin 4} {k : Int} {s u : State} (hu : s.advance t = u) :
    exec (.laneLatencySlip t p l k) s = .next (if -8 ≤ k ∧ k ≤ 8 then u
      else (u.raise Ev.LANE_LATENCY_SLIP [p, 0x100 + 4 * p + l, argInt k]).retrainPort p 2) := by
  have hrun : exec (.laneLatencySlip t p l k) s = execLaneLatencySlip t p l k s := rfl
  rw [hrun, execLaneLatencySlip, hu]

/-- Settles O30: every command is one branch of its meaning; a lane's stage reaches neither its transmitter's state nor its test word,
and a move of the loop shows in LANE_LOOP_STAT alone. -/
theorem laneTestsAndLoop : Obligations.LaneTestsAndLoop := by
  refine ⟨?_, ?_, ?_, ?_, ?_, ?_, ?_, ?_, ?_, ?_, ?_⟩
  · intro t k l s u hu hg hcfg hon hidle hrest
    exact exec_bgcalGrant_ok hu hg hcfg hon hidle hrest
  · intro t k c before l s u hu hgrant hdue hup
    have hlane := u.lane_grantLapses l k before
    refine ⟨_, exec_bgcalGrantLapse_due hu hgrant hdue hup, congrArg LaneState.granted hlane, fun _ => ?_, fun _ _ => rfl, rfl⟩
    rw [hlane]
    exact mapGet_takenBack _ k before
  · intro t l req w s u hu hok hon hdomain
    have hexec := exec_laneTestWrite_ok hu hok
    rw [if_pos hon, if_pos hdomain] at hexec
    refine ⟨_, hexec, State.underTest_stage _ l, ?_, State.underTest_first _ l⟩
    rw [State.underTest_word, State.takeTest_word, Word.field_and_low]
  · intro t l req w s u hu hok hoff htest hg
    have hexec := exec_laneTestWrite_ok hu hok
    rw [hoff, if_neg (by decide), if_pos htest] at hexec
    exact ⟨_, hexec, State.laneStage_retrain _ l hg⟩
  · intro t l req w s u hu hok
    have hregs := State.setInjection_regs (u.setReg (Reg.LANE_INJ l) w) l w
    exact ⟨_, exec_laneInjWrite_ok hu hok, (State.reg_congr hregs _).trans (State.reg_setReg_self u _ w),
      fun a ha => (State.reg_congr hregs a).trans ((SameRegs.refl u _).setReg List.mem_cons_self w a ha),
      fun hsilent => by
        rw [State.setInjection_silent (s := u.setReg (Reg.LANE_INJ l) w) w hsilent]; rfl,
      fun m hslot => State.inject_setInjection w hslot, State.setInjection_raised _ l w⟩
  · exact fun w k j hw => symbolsIn_injectionFrom k j hw
  · intro t l s u hu
    refine ⟨fun hchk hopen hbits => ?_, fun hlocked => ?_⟩
    · exact ⟨_, exec_prbsCheckerLock_ok hu hchk hopen hbits, u.checkerLocks_locked l,
        congrArg LaneState.countAt (u.lane_checkerLocks l), u.sameRegs_checkerLocks l, rfl⟩
    · have hlane := u.lane_checkerLoses l
      exact ⟨_, exec_prbsCheckerLockLoss_ok hu hlocked, u.checkerLoses_unlocked l, u.checkerLoses_count l,
        congrArg LaneState.countAt hlane, congrArg LaneState.chkAt hlane, u.sameRegs_checkerLoses l, rfl⟩
  · exact fun t s u hu hstate => exec_loopTportLockLoss_following hu hstate
  · intro t s u hu hstate hkept hdue
    have hevent := State.raisedBy_setLoop (s := u) (st := 2) u.loopPort (by rw [hstate]; decide)
    rw [hstate] at hevent
    have hport : u.loopPort % 2 ^ 32 = u.loopPort := Nat.mod_eq_of_lt (Nat.lt_trans u.loopPort_lt (by decide))
    have hargs : [1, 2, u.loopPort].map (· % 2 ^ 32) = [1, 2, u.loopPort] := congrArg (fun p => [1, 2, p]) hport
    rw [hargs] at hevent
    exact ⟨_, exec_loopLocked_due hu hstate hkept hdue, u.setLoop_state _ (by decide), u.setLoop_port 2 u.loopPort_lt,
      u.sameRegs_setLoop 2 _, hevent⟩
  · intro t c s u hu hlost hdue hgone
    refine ⟨_, exec_loopMoveTimeout_due hu hlost hdue hgone, State.leavePort_lostAt _ _, fun hport hup => ?_,
      fun hno hport hup => ?_, fun hno hnone => ?_⟩
    · have hnext : u.nextPort = some (u.fld Reg.LANE_LOOP_CFG 2 2) := if_pos ⟨hport, hup⟩
      rw [hnext]
      exact u.moveEnds.leavePort_some (Nat.mod_lt _ (by decide))
    · rw [State.nextPort_timing hno hport hup]
      exact u.moveEnds.leavePort_some (Nat.mod_lt _ (by decide))
    · rw [State.nextPort_none hno hnone]
      exact u.moveEnds.leavePort_none
  · intro t p l k s u hu
    rw [exec_laneLatencySlip_eq hu]
    exact ⟨fun hfar => by rw [if_neg (by omega)], fun hnear => by rw [if_pos hnear]⟩

end Sys2Proof.Machine
end

section
/-! What the emission registers read after the codes of the outputs are set, and what the outputs and the panel lanes leave alone
(R237, R249, R250). -/

namespace Sys2Proof.Machine

/-! ## The codes of the outputs -/

theorem irefStat_ne_irefStat {k j : Nat} (h : k ≠ j) : Reg.EMIT_IREF_STAT k ≠ Reg.EMIT_IREF_STAT j := by
  unfold Reg.EMIT_IREF_STAT
  omega

theorem emitStat_ne_irefStat (k : Nat) : Reg.EMIT_STAT ≠ Reg.EMIT_IREF_STAT k := by
  unfold Reg.EMIT_STAT Reg.EMIT_IREF_STAT
  omega

/-- The code in effect of every output is a field of its own register. -/
theorem State.fld_setCodes (s : State) (codes : List Nat) {k : Nat} (hk : k < 48) :
    (s.setCodes codes).fld (Reg.EMIT_IREF_STAT k) 0 14 = codes.getD k 0 % 2 ^ 14 := by
  refine State.each_establishes (P := fun n => n.fld (Reg.EMIT_IREF_STAT k) 0 14 = codes.getD k 0 % 2 ^ 14)
    (List.mem_range.mpr hk) (fun s => s.fld_setFld_self _ 0 14 _ (by decide)) (fun s j hset => ?_) s
  by_cases hj : j = k
  · rw [hj]
    exact s.fld_setFld_self _ 0 14 _ (by decide)
  · exact (s.fld_setFld_ne _ _ _ _ _ _ _ (irefStat_ne_irefStat hj)).trans hset

theorem State.sameRegs_setCodes (s : State) (codes : List Nat) :
    SameRegs s (s.setCodes codes) ((List.range 48).map Reg.EMIT_IREF_STAT) := by
  have hrun := SameRegs.each (f := fun s n => s.setFld (Reg.EMIT_IREF_STAT n) 0 14 (codes.getD n 0))
    (g := fun n => [Reg.EMIT_IREF_STAT n]) (fun s _ => (SameRegs.refl s _).setReg List.mem_cons_self _) s (List.range 48)
  rwa [← List.map_eq_flatMap] at hrun

/-- Setting the codes writes registers: what every such write keeps is kept. -/
theorem State.setCodes_keeps {β : Type} {g : State → β} (h : ∀ s a w, g (State.setReg s a w) = g s) (s : State) (codes : List Nat) :
    g (s.setCodes codes) = g s :=
  State.each_keeps (fun _ _ => h _ _ _) s _

theorem State.setCodes_raised (s : State) (codes : List Nat) : (s.setCodes codes).raised = s.raised :=
  State.setCodes_keeps (g := State.raised) (fun _ _ _ => rfl) s codes

theorem State.setCodes_emit (s : State) (codes : List Nat) : (s.setCodes codes).emit_ = s.emit_ :=
  State.setCodes_keeps (g := State.emit_) (fun _ _ _ => rfl) s codes

theorem modeStat_notMem_irefStats : Reg.GLB_MODE_STAT ∉ (List.range 48).map Reg.EMIT_IREF_STAT := by decide

/-! ## EMIT_STAT.SEQ -/

theorem State.fld_setSeq (s : State) {v : Nat} (hv : v < 8) : (s.setSeq v).fld Reg.EMIT_STAT 0 3 = v :=
  (s.fld_setFld_self _ 0 3 v (by decide)).trans (Nat.mod_eq_of_lt hv)

theorem State.sameRegs_setSeq (s : State) (v : Nat) : SameRegs s (s.setSeq v) [Reg.EMIT_STAT] :=
  (SameRegs.refl s _).setReg List.mem_cons_self _

theorem State.fld_setSeq_irefStat (s : State) (v k lo n : Nat) :
    (s.setSeq v).fld (Reg.EMIT_IREF_STAT k) lo n = s.fld (Reg.EMIT_IREF_STAT k) lo n :=
  s.fld_setFld_ne _ _ _ _ _ _ _ (emitStat_ne_irefStat k)

/-! ## DISCHARGE on the lanes -/

theorem State.putSlot_regs (s : State) (l : Nat) (h : Bool) (b : List Byte) : (s.putSlot l h b).regs = s.regs := by
  unfold State.putSlot
  split <;> rfl

theorem State.sendPanel_regs (s : State) (l : Nat) (b : List Byte) : (s.sendPanel l b).regs = s.regs := by
  unfold State.sendPanel
  split
  · exact s.putSlot_regs l true b
  · rfl

theorem State.sendDischarge_regs (s : State) (lanes : List Nat) : (s.sendDischarge lanes).regs = s.regs :=
  State.each_keeps (g := State.regs) (fun s l => s.sendPanel_regs l _) s lanes

theorem State.sendDischarge_raised (s : State) (lanes : List Nat) : (s.sendDischarge lanes).raised = s.raised :=
  State.each_keeps (g := State.raised) (fun s l => State.raised_of_delivery (s.delivery_sendPanel l _)) s lanes

end Sys2Proof.Machine
end

section
/-! The two sequences of emission (R249, R250). -/

namespace Sys2Proof.Machine

/-! ## The ramps -/

/-- The outputs take the codes that a step of a ramp makes of those it runs between. -/
def State.rampTo (s : State) (r : Ramp) (f : Nat → Nat) : State := s.setCodes (r.codes.map f)

/-- An output that the ramp does not name has code 0, which every step leaves at 0. -/
theorem getD_map_of_zero {f : Nat → Nat} (hf : f 0 = 0) (l : List Nat) (k : Nat) : (l.map f).getD k 0 = f (l.getD k 0) := by
  rw [List.getD_eq_getElem?_getD, List.getD_eq_getElem?_getD, List.getElem?_map]
  cases l[k]? with
  | none => exact hf.symm
  | some c => exact rfl

theorem State.fld_rampTo {f : Nat → Nat} (hf : f 0 = 0) (s : State) (r : Ramp) {k : Nat} (hk : k < 48) :
    (s.rampTo r f).fld (Reg.EMIT_IREF_STAT k) 0 14 = f (r.codes.getD k 0) % 2 ^ 14 := by
  rw [State.rampTo, State.fld_setCodes _ _ hk, getD_map_of_zero hf]

theorem State.sameRegs_rampTo (s : State) (r : Ramp) (f : Nat → Nat) :
    SameRegs s (s.rampTo r f) ((List.range 48).map Reg.EMIT_IREF_STAT) := by
  rw [State.rampTo]
  exact s.sameRegs_setCodes _

theorem State.rampTo_raised (s : State) (r : Ramp) (f : Nat → Nat) : (s.rampTo r f).raised = s.raised := by
  rw [State.rampTo, State.setCodes_raised]

theorem State.modeCode_rampTo (s : State) (r : Ramp) (f : Nat → Nat) : (s.rampTo r f).modeCode = s.modeCode :=
  (s.sameRegs_rampTo r f).fld modeStat_notMem_irefStats 0 4

theorem rampUpCode_zero (k : Nat) : rampUpCode 0 k = 0 := by
  rw [rampUpCode, Nat.zero_mul]
  rfl

theorem rampDownCode_zero (k : Nat) : rampDownCode 0 k = 0 := by
  rw [rampDownCode, Nat.zero_mul]
  rfl

/-- The last step of the bind-off ramp turns every output off. -/
theorem rampDownCode_last (c : Nat) : rampDownCode c 2000 = 0 := by
  rw [rampDownCode, Nat.sub_self, Nat.mul_zero]
  rfl

/-- The emission state moves on, and nothing else. -/
def State.setEmit (s : State) (e : EmitState) : State := { s with emit_ := e }

@[simp] theorem State.setEmit_emit (s : State) (e : EmitState) : (s.setEmit e).emit_ = e := rfl
@[simp] theorem State.setEmit_raised (s : State) (e : EmitState) : (s.setEmit e).raised = s.raised := rfl
@[simp] theorem State.reg_setEmit (s : State) (e : EmitState) (a : Nat) : (s.setEmit e).reg a = s.reg a := rfl

/-- A ramp has reached a step: the codes in effect are those of the step, and the emission state `e` holds it. -/
theorem State.rampTo_setEmit {f : Nat → Nat} (hf : f 0 = 0) (s : State) (r : Ramp) (e : EmitState) :
    (∀ k : Nat, k < 48 → ((s.rampTo r f).setEmit e).fld (Reg.EMIT_IREF_STAT k) 0 14 = f (r.codes.getD k 0) % 2 ^ 14) ∧
      SameRegs s ((s.rampTo r f).setEmit e) ((List.range 48).map Reg.EMIT_IREF_STAT) ∧
      ((s.rampTo r f).setEmit e).raised = s.raised := by
  refine ⟨fun k hk => ?_, fun a ha => ?_, ?_⟩
  · rw [State.fld, State.reg_setEmit]
    exact s.fld_rampTo hf r hk
  · rw [State.reg_setEmit]
    exact s.sameRegs_rampTo r f a ha
  · rw [State.setEmit_raised, State.rampTo_raised]

/-- The power-up ramp has taken step `k`. -/
def State.rampUpAt (s : State) (r : Ramp) (k : Nat) : State :=
  let n := s.rampTo r fun c => rampUpCode c k
  n.setEmit { n.emit_ with up := some { r with step := k } }

/-- The bind-off ramp has taken step `k`. -/
def State.rampDownAt (s : State) (r : Ramp) (k : Nat) : State :=
  let n := s.rampTo r fun c => rampDownCode c k
  n.setEmit { n.emit_ with down := some { r with step := k } }

theorem State.rampUpAt_up (s : State) (r : Ramp) (k : Nat) : (s.rampUpAt r k).emit_.up = some { r with step := k } := rfl

theorem State.rampDownAt_down (s : State) (r : Ramp) (k : Nat) : (s.rampDownAt r k).emit_.down = some { r with step := k } := rfl

theorem State.rampUpAt_codes (s : State) (r : Ramp) (j : Nat) :
    (∀ k : Nat, k < 48 → (s.rampUpAt r j).fld (Reg.EMIT_IREF_STAT k) 0 14 = rampUpCode (r.codes.getD k 0) j % 2 ^ 14) ∧
      SameRegs s (s.rampUpAt r j) ((List.range 48).map Reg.EMIT_IREF_STAT) ∧ (s.rampUpAt r j).raised = s.raised := by
  rw [State.rampUpAt]
  exact State.rampTo_setEmit (f := fun c => rampUpCode c j) (rampUpCode_zero j) s r _

theorem State.rampDownAt_codes (s : State) (r : Ramp) (j : Nat) :
    (∀ k : Nat, k < 48 → (s.rampDownAt r j).fld (Reg.EMIT_IREF_STAT k) 0 14 = rampDownCode (r.codes.getD k 0) j % 2 ^ 14) ∧
      SameRegs s (s.rampDownAt r j) ((List.range 48).map Reg.EMIT_IREF_STAT) ∧ (s.rampDownAt r j).raised = s.raised := by
  rw [State.rampDownAt]
  exact State.rampTo_setEmit (f := fun c => rampDownCode c j) (rampDownCode_zero j) s r _

/-- The bind-off ramp is over and DISCHARGE is out (R250). -/
def State.discharged (s : State) (r : Ramp) : State :=
  let n := s.rampTo r fun c => rampDownCode c 2000
  ({ n.sendDischarge n.bindLanes with emit_ := { n.emit_ with down := none } }).setSeq 5

theorem State.sameRegs_discharged (s : State) (r : Ramp) :
    SameRegs s (s.discharged r) (Reg.EMIT_STAT :: (List.range 48).map Reg.EMIT_IREF_STAT) := by
  have hcodes (lanes : List Nat) : SameRegs s ((s.rampTo r fun c => rampDownCode c 2000).sendDischarge lanes)
      ((List.range 48).map Reg.EMIT_IREF_STAT) :=
    fun a ha => (State.reg_congr (State.sendDischarge_regs _ _) a).trans (s.sameRegs_rampTo r _ a ha)
  exact ((hcodes _).mono (List.subset_cons_self _ _)).setReg List.mem_cons_self _

theorem State.fld_discharged (s : State) (r : Ramp) {k : Nat} (hk : k < 48) :
    (s.discharged r).fld (Reg.EMIT_IREF_STAT k) 0 14 = 0 := by
  have hlast := s.fld_rampTo (f := fun c => rampDownCode c 2000) (rampDownCode_zero 2000) r hk
  rw [rampDownCode_last] at hlast
  calc (s.discharged r).fld (Reg.EMIT_IREF_STAT k) 0 14
    _ = ((s.rampTo r fun c => rampDownCode c 2000).sendDischarge (s.rampTo r fun c => rampDownCode c 2000).bindLanes).fld
          (Reg.EMIT_IREF_STAT k) 0 14 := State.fld_setSeq_irefStat _ 5 k 0 14
    _ = (s.rampTo r fun c => rampDownCode c 2000).fld (Reg.EMIT_IREF_STAT k) 0 14 :=
      congrArg (Word.field · 0 14) (State.reg_congr (State.sendDischarge_regs _ _) _)
    _ = 0 := hlast

theorem State.discharged_seq (s : State) (r : Ramp) : (s.discharged r).fld Reg.EMIT_STAT 0 3 = 5 :=
  State.fld_setSeq _ (by decide)

theorem State.discharged_down (s : State) (r : Ramp) : (s.discharged r).emit_.down = none := rfl

theorem State.discharged_raised (s : State) (r : Ramp) : (s.discharged r).raised = s.raised :=
  (State.sendDischarge_raised _ _).trans (s.rampTo_raised r _)

/-! ## The sequence begins and ends -/

/-- DISCHARGE is out at t0 of the power-up sequence (R249). -/
def State.discharges (s : State) : State :=
  let n : State := { s with emit_ := { s.emit_ with seqAt := s.now } }
  (n.sendDischarge (n.enumLanes n.sequenceLanes)).setSeq 1

theorem State.sameRegs_discharges (s : State) : SameRegs s s.discharges [Reg.EMIT_STAT] :=
  SameRegs.setReg (fun a _ => State.reg_congr (State.sendDischarge_regs _ _) a) List.mem_cons_self _

theorem State.discharges_seq (s : State) : s.discharges.fld Reg.EMIT_STAT 0 3 = 1 := State.fld_setSeq _ (by decide)

theorem State.discharges_raised (s : State) : s.discharges.raised = s.raised := State.sendDischarge_raised _ _

/-- Emission is steady behind the last step of the power-up ramp. -/
def State.steady (s : State) : State := ({ s with emit_ := { s.emit_ with up := none } }).setSeq 3

theorem State.modeCode_steady (s : State) : s.steady.modeCode = s.modeCode := (State.sameRegs_setSeq _ 3).fld (by decide) 0 4

theorem State.steady_seq (s : State) : s.steady.fld Reg.EMIT_STAT 0 3 = 3 := State.fld_setSeq _ (by decide)

theorem State.fld_steady_irefStat (s : State) (k lo n : Nat) :
    s.steady.fld (Reg.EMIT_IREF_STAT k) lo n = s.fld (Reg.EMIT_IREF_STAT k) lo n := State.fld_setSeq_irefStat _ 3 k lo n

theorem State.steady_up (s : State) : s.steady.emit_.up = none := rfl

/-- In IDLE the end of the sequence is seen by the mode machine alone: no strip to mark as ramped, no cast-on to go on with. -/
theorem State.sequenceOver_idle {s : State} (h : s.modeCode = Mode.IDLE) :
    s.sequenceOver.emit_ = s.steady.emit_ ∧ s.sequenceOver.regs = s.steady.regs := by
  have hmode : s.steady.modeCode = Mode.IDLE := s.modeCode_steady.trans h
  have hband : ¬ s.steady.bandSequence = true := by
    rw [State.bandSequence, hmode]
    exact Bool.false_ne_true
  have hcast : ¬ (Mode.IDLE = Mode.CAST_ON ∧ s.steady.caston.causes = []) := fun hc => absurd hc.1 (by decide)
  unfold State.sequenceOver
  extract_lets _ steady n
  have hn : n = s.steady := if_neg hband
  rw [hn, hmode]
  split
  · split <;> exact ⟨rfl, rfl⟩
  · rw [if_neg hcast]
    exact ⟨rfl, rfl⟩

/-! ## The commands of the sequences -/

theorem State.startSequence_discharges {s : State} (hloud : s.silent = false) (hfull : s.emit_.noDischarge = false) :
    s.startSequence = s.discharges := by
  unfold State.startSequence
  rw [if_neg (ne_true_of_eq_false hloud), if_neg (ne_true_of_eq_false hfull)]
  rfl

theorem exec_powerupT0_starts {t : Nat} {s u : State} (hu : s.advance t = u) (hwaits : u.sequenceWaits = true)
    (hidle : u.powerIdle = true) (hdue : u.t0Due = true) : exec (.powerupT0 t) s = .next u.startSequence := by
  have hrun : exec (.powerupT0 t) s = execPowerupT0 t s := rfl
  rw [hrun, execPowerupT0, hu]
  exact congrArg _ (if_pos ⟨hwaits, hidle, hdue⟩)

theorem exec_powerupDischargeEnd_due {t : Nat} {s u : State} (hu : s.advance t = u) (hseq : u.fld Reg.EMIT_STAT 0 3 = 1)
    (hdue : u.emit_.seqAt + ms 50 ≤ u.now) : exec (.powerupDischargeEnd t) s = .next u.startRampUp := by
  have hrun : exec (.powerupDischargeEnd t) s = execPowerupDischargeEnd t s := rfl
  rw [hrun, execPowerupDischargeEnd, hu]
  exact congrArg _ (if_pos ⟨hseq, hdue⟩)

theorem exec_irefRampUpStep_due {t : Nat} {r : Ramp} {s u : State} (hu : s.advance t = u) (hup : u.emit_.up = some r)
    (hdue : r.at_ + us (10 * (r.step + 1)) ≤ u.now) :
    exec (.irefRampUpStep t) s = .next (if 5000 ≤ r.step + 1 then (u.rampTo r fun c => rampUpCode c (r.step + 1)).sequenceOver
      else u.rampUpAt r (r.step + 1)) := by
  have hrun : exec (.irefRampUpStep t) s = execIrefRampUpStep t s := rfl
  rw [hrun, execIrefRampUpStep, hu]
  simp only [hup, if_neg (Nat.not_lt.mpr hdue)]
  rfl

theorem exec_irefRampDownStep_due {t : Nat} {r : Ramp} {s u : State} (hu : s.advance t = u) (hdown : u.emit_.down = some r)
    (hstep : r.step < 2000) (hdue : r.at_ + us (10 * (r.step + 1)) ≤ u.now) :
    exec (.irefRampDownStep t) s = .next (u.rampDownAt r (r.step + 1)) := by
  have hrun : exec (.irefRampDownStep t) s = execIrefRampDownStep t s := rfl
  have hgo : ¬ (2000 < r.step + 1 ∨ u.now < r.at_ + us (10 * (r.step + 1))) := by omega
  rw [hrun, execIrefRampDownStep, hu]
  simp only [hdown, if_neg hgo]
  rfl

theorem exec_bindoffDischarge_due {t : Nat} {r : Ramp} {s u : State} (hu : s.advance t = u) (hdown : u.emit_.down = some r)
    (hdue : r.at_ + ms 20 ≤ u.now) : exec (.bindoffDischarge t) s = .next (u.discharged r) := by
  have hrun : exec (.bindoffDischarge t) s = execBindoffDischarge t s := rfl
  rw [hrun, execBindoffDischarge, hu]
  simp only [hdown, if_neg (Nat.not_lt.mpr hdue)]
  rfl

theorem exec_bindoffIdle_due {t : Nat} {s u : State} (hu : s.advance t = u) (hseq : u.fld Reg.EMIT_STAT 0 3 = 5)
    (hdue : u.emit_.seqAt + ms 70 ≤ u.now) : exec (.bindoffIdle t) s = .next (u.idleLanes u.bindLanes).bindDone := by
  have hrun : exec (.bindoffIdle t) s = execBindoffIdle t s := rfl
  rw [hrun, execBindoffIdle, hu]
  exact congrArg _ (if_pos ⟨hseq, hdue⟩)

/-- Settles O31: each command is one branch of its meaning, every output's code is a field of a register of its own, and the blocks of
DISCHARGE change no register. -/
theorem emissionRampsUpAndDown : Obligations.EmissionRampsUpAndDown := by
  refine ⟨?_, ?_, ?_, ?_, ?_, ?_, ?_⟩
  · intro t s u hu hwaits hidle hdue hloud hfull
    have hexec := exec_powerupT0_starts hu hwaits hidle hdue
    rw [State.startSequence_discharges hloud hfull] at hexec
    exact ⟨_, hexec, u.discharges_seq, u.sameRegs_discharges, u.discharges_raised⟩
  · intro t s u hu hseq hdue
    exact ⟨_, exec_powerupDischargeEnd_due hu hseq hdue, State.fld_setSeq _ (by decide), rfl, State.sameRegs_setSeq _ 2, rfl⟩
  · intro t r s u hu hup hstep hdue
    have hexec := exec_irefRampUpStep_due hu hup hdue
    rw [if_neg (Nat.not_le.mpr hstep)] at hexec
    exact ⟨_, hexec, u.rampUpAt_up r _, u.rampUpAt_codes r _⟩
  · intro t r s u hu hup hlast hmode hdue
    have hexec := exec_irefRampUpStep_due hu hup (by rwa [hlast])
    rw [hlast, if_pos (Nat.le_refl _)] at hexec
    obtain ⟨hemit, hregs⟩ := State.sequenceOver_idle ((u.modeCode_rampTo r fun c => rampUpCode c 5000).trans hmode)
    have hsteady (a lo n : Nat) : (u.rampTo r fun c => rampUpCode c 5000).sequenceOver.fld a lo n =
        (u.rampTo r fun c => rampUpCode c 5000).steady.fld a lo n :=
      congrArg (Word.field · lo n) (State.reg_congr hregs a)
    refine ⟨_, hexec, ?_, ?_, fun k hk => ?_⟩
    · rw [hemit, State.steady_up]
    · rw [hsteady, State.steady_seq]
    · rw [hsteady, State.fld_steady_irefStat, State.fld_rampTo (f := fun c => rampUpCode c 5000) (rampUpCode_zero 5000) _ _ hk, rampUpCode]
  · intro t r s u hu hdown hstep hdue
    exact ⟨_, exec_irefRampDownStep_due hu hdown hstep hdue, u.rampDownAt_down r _, u.rampDownAt_codes r _⟩
  · intro t r s u hu hdown hdue
    exact ⟨_, exec_bindoffDischarge_due hu hdown hdue, u.discharged_seq r, u.discharged_down r,
      fun k hk => u.fld_discharged r hk, u.sameRegs_discharged r, u.discharged_raised r⟩
  · exact fun t s u hu hseq hdue => exec_bindoffIdle_due hu hseq hdue

end Sys2Proof.Machine
end

section
/-! Compliance samples, thermistors, probes and the strip (R235, R240, R242, R247, R252). -/

namespace Sys2Proof.Machine

/-! ## Compliance -/

/-- The count of an output's samples out of range in a row. -/
def State.noteComp (s : State) (k c : Nat) : State := { s with emit_ := { s.emit_ with comp := mapPut s.emit_.comp k c } }

theorem State.noteComp_comp (s : State) (k c : Nat) : mapGet (s.noteComp k c).emit_.comp k = some c :=
  (mapGet_mapPut _ k k c).trans (if_pos rfl)

section
variable {t v : Nat} {k : Fin 48} {s u : State} (hu : s.advance t = u) (hown : u.irefOwned k = true)
  (hcode : u.fld (Reg.EMIT_IREF_STAT k) 0 14 ≠ 0)
include hu hown hcode

theorem exec_irefComplianceSample_within (hlo : 300 ≤ v) (hhi : v ≤ 3000) :
    exec (.irefComplianceSample t k v) s = .next ((u.noteComp k 0).setBit (Reg.EMIT_IREF_STAT k) 25 false) := by
  have hrun : exec (.irefComplianceSample t k v) s = execIrefComplianceSample t k v s := rfl
  rw [hrun, execIrefComplianceSample, hu]
  simp only [hown, hcode, hlo, hhi, Bool.not_true, Bool.false_eq_true, or_self, if_false, and_self, if_true]
  rfl

theorem exec_irefComplianceSample_third (hout : v < 300 ∨ 3000 < v) (htwo : mapGet u.emit_.comp k = some 2)
    (hclear : u.bit (Reg.EMIT_IREF_STAT k) 25 = false) :
    exec (.irefComplianceSample t k v) s = .next (((u.noteComp k 3).setBit (Reg.EMIT_IREF_STAT k) 25 true).raise
      Ev.EMIT_IREF_COMPLIANCE [k, v, u.fld (Reg.EMIT_IREF_STAT k) 0 14]) := by
  have hrun : exec (.irefComplianceSample t k v) s = execIrefComplianceSample t k v s := rfl
  have hbad : ¬ (300 ≤ v ∧ v ≤ 3000) := by omega
  rw [hrun, execIrefComplianceSample, hu]
  simp only [hown, hcode, hbad, htwo, hclear, Option.getD_some, Bool.not_true, Bool.false_eq_true, or_self, if_false,
    Nat.reduceAdd, Nat.lt_irrefl]
  rfl

end

/-! ## What judging a zone leaves alone -/

theorem zoneStat_ne_thm {z : Nat} (hz : z < 16) (k : Nat) : Reg.EMIT_ZONE_STAT z ≠ Reg.EMIT_THM k := by
  unfold Reg.EMIT_ZONE_STAT Reg.EMIT_THM
  omega

/-- A zone's temperature is shown in EMIT_ZONE_STAT alone: what a write of that register keeps is kept. -/
theorem State.showZone_keeps {β : Type} {g : State → β} {z : Nat}
    (h : ∀ s w, g (State.setReg s (Reg.EMIT_ZONE_STAT z) w) = g s) (s : State) : g (s.showZone z) = g s := by
  rw [State.showZone]
  split
  split
  · exact (h _ _).trans (h _ _)
  · exact h _ _

/-- Judging a zone writes its EMIT_ZONE_STAT and the emission state, and may raise an event: what these keep is kept. -/
theorem State.judgeZone_keeps {β : Type} {g : State → β} {z : Nat}
    (hreg : ∀ s w, g (State.setReg s (Reg.EMIT_ZONE_STAT z) w) = g s) (hemit : ∀ s e, g { s with emit_ := e } = g s)
    (hraise : ∀ s c l, g (State.raise s c l) = g s) (s : State) : g (s.judgeZone z) = g s := by
  have hmove (s : State) (t : Int) : g (s.moveBand z t) = g s := (hreg _ _).trans (hemit _ _)
  have hhot (s : State) (t : Int) : g (s.judgeHot z t) = g s := by
    unfold State.judgeHot
    extract_lets hot x
    split
    · split
      · rfl
      · exact (hraise _ _ _).trans (hemit _ _)
    · split
      · exact hemit _ _
      · rfl
  unfold State.judgeZone
  extract_lets n
  have hn : g n = g s := State.showZone_keeps hreg s
  split
  · exact (hhot _ _).trans ((hmove _ _).trans hn)
  · exact hn

/-- An input that turns invalid shows in its zone and may raise an event: what these keep is kept. -/
theorem State.thmInvalid_keeps {β : Type} {g : State → β} {k : Nat}
    (hreg : ∀ s w, g (State.setReg s (Reg.EMIT_ZONE_STAT k) w) = g s) (hemit : ∀ s e, g { s with emit_ := e } = g s)
    (hraise : ∀ s c l, g (State.raise s c l) = g s) (s : State) (cond : Nat) : g (s.thmInvalid k cond) = g s := by
  have hshow (x : ThmState) : g ((s.setThm k x).showZone k) = g s := (State.showZone_keeps hreg _).trans (hemit _ _)
  unfold State.thmInvalid
  extract_lets x n
  split
  · exact hshow _
  · exact (hraise _ _ _).trans (hshow _)

theorem State.reg_judgeZone_thm (s : State) {k : Nat} (hk : k < 16) (j : Nat) :
    (s.judgeZone k).reg (Reg.EMIT_THM j) = s.reg (Reg.EMIT_THM j) :=
  State.judgeZone_keeps (g := (·.reg (Reg.EMIT_THM j))) (fun s w => State.reg_setReg_ne s _ _ w (zoneStat_ne_thm hk j))
    (fun _ _ => rfl) (fun _ _ _ => rfl) s

theorem State.reg_thmInvalid_thm (s : State) {k : Nat} (hk : k < 16) (cond j : Nat) :
    (s.thmInvalid k cond).reg (Reg.EMIT_THM j) = s.reg (Reg.EMIT_THM j) :=
  State.thmInvalid_keeps (g := (·.reg (Reg.EMIT_THM j))) (fun s w => State.reg_setReg_ne s _ _ w (zoneStat_ne_thm hk j))
    (fun _ _ => rfl) (fun _ _ _ => rfl) s cond

/-- An input that was not faulted before reports the condition. -/
theorem State.thmInvalid_raised {s : State} {k : Nat} (hfirst : (s.thm k).faulted = false) (cond : Nat) :
    ∃ e : Event, (s.thmInvalid k cond).raised = s.raised ++ [e] ∧ e.code = Ev.EMIT_THM_FAULT ∧
      e.args.take 2 = [k % 2 ^ 32, cond % 2 ^ 32] := by
  unfold State.thmInvalid
  extract_lets x n
  have hn : n.raised = s.raised := State.showZone_keeps (g := State.raised) (fun _ _ => rfl) _
  rw [if_neg (ne_true_of_eq_false hfirst), State.raise_raised, hn]
  exact ⟨_, rfl, rfl, rfl⟩

/-! ## Conversions of an input -/

/-- A temperature within the field is written as it is. -/
theorem State.fld_setTemp {v : Int} (hlo : -32768 ≤ v) (hhi : v ≤ 32767) (s : State) (a : Nat) :
    (s.setTemp a 0 v).fld a 0 16 = unsigned 16 v := by
  rw [State.setTemp, if_pos ⟨hlo, hhi⟩, State.fld_setFld_self _ _ _ _ _ (by decide)]
  refine Nat.mod_eq_of_lt ?_
  unfold unsigned
  omega

/-- With the third conversion the register shows the median, whether or not it makes the input valid (R242). -/
theorem State.fld_thmConvert {u : State} {k r : Nat} {a b : Nat × Int} {m : Int} (hk : k < 16) (hab : (u.thm k).samples = [a, b])
    (hlo : -10240 ≤ m) (hhi : m ≤ 32000)
    (hm : median3 (fun p q : Int => decide (p ≤ q)) a.2 b.2
      (thmTemp r (1000 * u.fld Reg.EMIT_THM_CFG 16 8) (u.fld Reg.EMIT_THM_CFG 0 16)) = m) :
    (u.thmConvert k r).fld (Reg.EMIT_THM k) 0 16 = unsigned 16 m := by
  unfold State.thmConvert
  extract_lets x r25 t samples n
  have hthree : samples = [a, b, (r, t)] := by simp only [samples, x, hab]; rfl
  rw [hthree]
  dsimp -zeta only
  extract_lets mid v flags shown
  have hv : v = m := hm
  have hshown : shown.fld (Reg.EMIT_THM k) 0 16 = unsigned 16 m := by
    rw [← hv]
    exact State.fld_setTemp (by omega) (by omega) _ _
  split
  · exact (congrArg (Word.field · 0 16) (State.reg_judgeZone_thm _ hk k)).trans hshown
  · exact (congrArg (Word.field · 0 16) (State.reg_thmInvalid_thm _ hk _ k)).trans hshown

theorem exec_thmSample_converts {t r : Nat} {k : Fin 16} {s u : State} (hu : s.advance t = u)
    (hon : u.bit Reg.EMIT_THM_EN k = true) (hsampled : (u.thm k).since.isSome = true) :
    exec (.thmSample t k r) s = .next (u.thmConvert k r) := by
  have hrun : exec (.thmSample t k r) s = execThmSample t k r s := rfl
  rw [hrun, execThmSample, hu]
  exact congrArg _ (if_pos ⟨hon, hsampled⟩)

/-- An input shows STALE and is no longer valid. -/
def State.thmStale (s : State) (k : Nat) : State := (s.setBit (Reg.EMIT_THM k) 16 false).setBit (Reg.EMIT_THM k) 20 true

theorem State.thmStale_invalid (s : State) (k : Nat) : (s.thmStale k).bit (Reg.EMIT_THM k) 16 = false := by
  rw [State.thmStale, State.bit_setBit_same _ _ _ _ _ (by decide), State.bit_setBit_self _ _ _ _ (by decide)]

theorem State.thmStale_stale (s : State) (k : Nat) : (s.thmStale k).bit (Reg.EMIT_THM k) 20 = true :=
  State.bit_setBit_self _ _ _ _ (by decide)

theorem exec_thmStaleTimeout_due {t c : Nat} {k : Fin 16} {s u : State} (hu : s.advance t = u) (hsince : (u.thm k).since = some c)
    (hdue : c + ms 100 ≤ u.now)
    (hquiet : (u.sameCycle fun i => match i with | .thmSample _ j _ => j == k | _ => false) = false)
    (hfull : (u.thm k).samples.length = 3) :
    exec (.thmStaleTimeout t k) s = .next ((u.thmStale k).thmInvalid k 4) := by
  have hrun : exec (.thmStaleTimeout t k) s = execThmStaleTimeout t k s := rfl
  rw [hrun, execThmStaleTimeout, hu]
  have hlate : (match (u.thm k).since with | some c => decide (c + ms 100 ≤ u.now) | none => false) = true := by
    rw [hsince]
    exact decide_eq_true hdue
  exact congrArg _ (if_pos ⟨hlate, congrArg (! ·) hquiet, hfull⟩)

/-! ## Probes and the strip -/

theorem exec_probeTimeout_late {t id seg c : Nat} {k : Fin 128} {s u : State} (hu : s.advance t = u)
    (hprobe : (u.tileState k).probe = some (id, seg, c)) (hdue : c + us 100 ≤ u.now) (hquiet : u.probeNow k id = false) :
    exec (.probeTimeout t k) s = .next (((u.setTile k { u.tileState k with
      probe := none, probeTimeouts := min 255 ((u.tileState k).probeTimeouts + 1) }).raise
        Ev.EMIT_PROBE_TIMEOUT [k, id, seg]).probeEnds k) := by
  have hrun : exec (.probeTimeout t k) s = execProbeTimeout t k s := rfl
  have hgo : ¬ (u.now < c + us 100 ∨ u.probeNow k id = true) := by simp [hquiet, Nat.not_lt.mpr hdue]
  rw [hrun, execProbeTimeout, hu]
  simp only [hprobe, if_neg hgo, satTo_min]

theorem exec_emitStripGo_ok {t : Nat} {req : Requester} {s u : State} (hu : s.advance t = u)
    (hok : u.accepts req Reg.EMIT_STRIP_CTL 1) :
    exec (.emitStripGo t req) s = .next (u.setBit Reg.EMIT_STRIP_STAT 0 true) := by
  have hrun : exec (.emitStripGo t req) s = execEmitStripGo t req s := rfl
  rw [hrun, execEmitStripGo, hu, State.control_ok hok (by decide)]

/-- The registers above the gains of the bands, the buffer of the strip with them, are local to each member (R388). -/
theorem mirrorScope_above_bands {a : Nat} (h : Reg.EMIT_BAND 3 0 ≤ a) : mirrorScope a = 0 := by
  simp only [Reg.EMIT_BAND] at h
  unfold mirrorScope
  rw [if_neg, if_neg, if_neg, if_neg]
  · simp only [Reg.RAY_ZONE_MTX, Reg.RAY_XFER, Reg.RAY_WARP_GRID, Reg.RAY_VIEW_DIR, Reg.EMIT_IMAX, Reg.EMIT_IREF_RAW,
      Reg.EMIT_BAND, Reg.SCAN_TILE_CFG, Reg.SPK_CFGW_ADDR, Reg.SPK_CFGW_CMD]
    omega
  · have hlist : ∀ b ∈ [Reg.SCAN_COMMIT, Reg.SCAN_TIMING, Reg.SCAN_PHASE, Reg.SCAN_ANCHOR_LO, Reg.SCAN_ANCHOR_HI, Reg.SCAN_CFG,
        Reg.SCAN_EMIT, Reg.SCAN_EMIT_MAX, Reg.SCAN_SWATCH, Reg.RAY_VIEW_GRID, Reg.RAY_ALPHA_SAT, Reg.RAY_COLOUR,
        Reg.RAY_BUDGET_CFG, Reg.EMIT_BRIGHT, Reg.EMIT_TCOMP, Reg.EMIT_PROBE_CFG], b < 0x1C00400 := by decide
    rw [List.contains_iff_mem]
    intro hmem
    have := hlist a hmem
    omega
  · simp only [Reg.PLY_GROUP_BASE_LO]
    omega
  · simp only [Reg.PLY_DESC_BASE_LO]
    omega

theorem mirrorScope_stripBuf (i : Nat) : mirrorScope (Reg.EMIT_STRIP_BUF i) = 0 := by
  refine mirrorScope_above_bands ?_
  unfold Reg.EMIT_BAND Reg.EMIT_STRIP_BUF
  omega

theorem exec_emitStripBufWrite_ok {t i : Nat} {req : Requester} {w : Word} {s u : State} (hu : s.advance t = u)
    (hok : u.accepts req (Reg.EMIT_STRIP_BUF (i % 65536)) w) :
    exec (.emitStripBufWrite t req i w) s =
      .next (u.setReg (Reg.EMIT_STRIP_BUF (i % 65536)) (w &&& writeMask (Reg.EMIT_STRIP_BUF (i % 65536)))) := by
  have hrun : exec (.emitStripBufWrite t req i w) s = execEmitStripBufWrite t req i w s := rfl
  rw [hrun, execEmitStripBufWrite, hu]
  simp only [State.guarded_ok hok, State.mirror_local _ _ _ _ (mirrorScope_stripBuf _)]

/-! ## Bands that take effect -/

/-- A band that changes is shown with its event (R240). -/
theorem State.applyBand_moves {s : State} {z k : Nat} (h : s.band z ≠ k) (x : Int) (f : Nat) :
    s.applyBand z k x f = ((s.raise Ev.EMIT_BAND_CHANGE [z, s.band z, k, argInt x, f % 2 ^ 16]).setFld (Reg.EMIT_ZONE_STAT z) 0 3 k).setBit
      (Reg.EMIT_ZONE_STAT z) 3 (decide ((s.emit_.zones.getD z {}).band ≠ k)) := if_neg h

theorem zoneStat_ne_emitStat (z : Nat) : Reg.EMIT_ZONE_STAT z ≠ Reg.EMIT_STAT := by
  unfold Reg.EMIT_ZONE_STAT Reg.EMIT_STAT
  omega

theorem State.reg_applyBand_emitStat (s : State) (z k : Nat) (x : Int) (f : Nat) :
    (s.applyBand z k x f).reg Reg.EMIT_STAT = s.reg Reg.EMIT_STAT := by
  by_cases h : s.band z = k
  · rw [State.applyBand, if_pos h]
  · rw [State.applyBand_moves h, State.setBit, State.reg_setFld_ne _ _ _ _ _ _ (zoneStat_ne_emitStat z),
      State.reg_setFld_ne _ _ _ _ _ _ (zoneStat_ne_emitStat z), State.reg_raise]

theorem State.band_applyBand (s : State) (z : Nat) {k : Nat} (hk : k < 8) (x : Int) (f : Nat) : (s.applyBand z k x f).band z = k := by
  by_cases h : s.band z = k
  · rwa [State.applyBand, if_pos h]
  · rw [State.applyBand_moves h, State.band, State.setBit, State.fld_setFld_same _ _ _ _ _ _ _ (by decide),
      State.fld_setFld_self _ _ _ _ _ (by decide)]
    exact Nat.mod_eq_of_lt hk

theorem State.last_raised_applyBand {s : State} {z k : Nat} (h : s.band z ≠ k) (x : Int) (f : Nat) :
    (s.applyBand z k x f).raised.getLast?.map (·.code) = some Ev.EMIT_BAND_CHANGE := by
  rw [State.applyBand_moves h, State.setBit, State.setFld_raised, State.setFld_raised, State.raise_raised, List.getLast?_concat]
  rfl

/-- The bands recorded in STRIP take effect in every zone (R240). -/
def State.applyBands (s : State) : State :=
  s.each (List.range 16) fun w z => w.applyBand z (w.zone z).band (w.zone z).moveTemp (w.nat Reg.SCAN_FRAME)

theorem State.fld_applyBands_emitStat (s : State) (lo n : Nat) : s.applyBands.fld Reg.EMIT_STAT lo n = s.fld Reg.EMIT_STAT lo n :=
  State.each_keeps (g := (·.fld Reg.EMIT_STAT lo n)) (fun s z => congrArg (Word.field · lo n) (s.reg_applyBand_emitStat z _ _ _)) s
    (List.range 16)

/-- In STRIP the bands take effect, and where emission is steady the codes follow them; no band moves EMIT_STAT. -/
theorem exec_stripRefreshPeriodStart_strip {t : Nat} {s u v : State} (hu : s.advance t = u) (hmode : u.modeCode = Mode.STRIP)
    (hidle : u.emitSequence = false) (hv : u.applyBands = v) :
    exec (.stripRefreshPeriodStart t) s = .next (if u.fld Reg.EMIT_STAT 0 3 = 3 then v.setCodes v.targets else v) := by
  have hrun : exec (.stripRefreshPeriodStart t) s = execStripRefreshPeriodStart t s := rfl
  have hgo : ¬ (u.modeCode ≠ Mode.STRIP ∨ u.emitSequence = true) := by simp [hmode, hidle]
  rw [hrun, execStripRefreshPeriodStart, hu, ← hv, ← u.fld_applyBands_emitStat]
  exact congrArg _ (if_neg hgo)

/-- Settles O32: each command is one branch of its meaning; what an input's conversion or silence does to its zone leaves the input's
own register as written, and a band that moves raises its event last. -/
theorem samplesProbesAndStrip : Obligations.SamplesProbesAndStrip := by
  refine ⟨?_, ?_, ?_, ?_, ?_, ?_, ?_, ?_, ?_, ?_⟩
  · intro t v k s u hu hown hcode hlo hhi
    exact ⟨_, exec_irefComplianceSample_within hu hown hcode hlo hhi, State.bit_setBit_self _ _ _ _ (by decide),
      u.noteComp_comp k 0, (SameRegs.refl u _).setReg List.mem_cons_self _, rfl⟩
  · intro t v k s u hu hown hcode hout htwo hclear
    refine ⟨_, exec_irefComplianceSample_third hu hown hcode hout htwo hclear, ?_, fun a ha => ?_, RaisedBy.of_raise rfl _ _⟩
    · rw [State.bit_raise, State.bit_setBit_self _ _ _ _ (by decide)]
    · rw [State.reg_raise]
      exact (SameRegs.refl u _).setReg List.mem_cons_self _ a ha
  · exact fun t r k s u hu hon hsampled => exec_thmSample_converts hu hon hsampled
  · exact fun r k a b m u hab hlo hhi hm => State.fld_thmConvert k.isLt hab hlo hhi hm
  · intro t c k s u hu hsince hdue hquiet hfull hfirst
    have hthm (i : Nat) : ((u.thmStale k).thmInvalid k 4).bit (Reg.EMIT_THM k) i = (u.thmStale k).bit (Reg.EMIT_THM k) i :=
      congrArg (Word.bit · i) (State.reg_thmInvalid_thm _ k.isLt 4 k)
    obtain ⟨e, hraised, hcode, hargs⟩ := State.thmInvalid_raised (s := u.thmStale k) hfirst 4
    refine ⟨_, e, exec_thmStaleTimeout_due hu hsince hdue hquiet hfull, ?_, ?_, hraised, hcode, ?_⟩
    · rw [hthm, State.thmStale_invalid]
    · rw [hthm, State.thmStale_stale]
    · have hinput : k.val % 2 ^ 32 = k.val := Nat.mod_eq_of_lt (Nat.lt_trans k.isLt (by decide))
      exact hargs.trans (congrArg (fun i => [i, 4]) hinput)
  · exact fun t id seg c k s u hu hprobe hdue hquiet => exec_probeTimeout_late hu hprobe hdue hquiet
  · exact fun t req s u hu hok => exec_emitStripGo_ok hu hok
  · exact fun t i req w s u hu hok => exec_emitStripBufWrite_ok hu hok
  · exact fun t s u v hu hmode hidle hv => exec_stripRefreshPeriodStart_strip hu hmode hidle hv
  · exact fun z k f x u _ hk => ⟨u.band_applyBand z hk x f, fun hmoves => State.last_raised_applyBand hmoves x f⟩

end Sys2Proof.Machine
end

section
/-! The marks that CLEAR_LOST takes (R269). -/

namespace Sys2Proof.Machine

section
variable {α : Type}

/-- A key has a value where some entry has the key. -/
theorem isSome_mapGet (m : List (Nat × α)) (b : Nat) : (mapGet m b).isSome = true ↔ ∃ x ∈ m, x.1 = b := by
  induction m with
  | nil => simp
  | cons x m ih =>
    rw [mapGet_cons]
    by_cases hx : x.1 = b
    · simp [hx]
    · simp [hx, ih]

/-- The value of a key is that of an entry. -/
theorem mem_of_mapGet {m : List (Nat × α)} {b : Nat} {v : α} (h : mapGet m b = some v) : (b, v) ∈ m := by
  induction m with
  | nil => exact absurd h (by simp)
  | cons x m ih =>
    rw [mapGet_cons] at h
    split at h
    case isTrue hx => exact List.mem_cons.mpr (.inl (Prod.ext hx.symm (Option.some.inj h).symm))
    case isFalse => exact List.mem_cons_of_mem _ (ih h)

end

theorem State.marked_iff (s : State) (b : Nat) : s.marked b = true ↔ ∃ x ∈ s.hbm.lost, x.1 = b := isSome_mapGet _ b

/-- A block of the range keeps its mark only from this cycle, and a block outside it keeps any. -/
theorem State.marked_clearLostRange (s : State) (first n b : Nat) :
    (s.clearLostRange first n).marked b = true ↔ ∃ x ∈ s.hbm.lost, x.1 = b ∧ (first ≤ b → b < first + n → x.2 = s.now) := by
  have hlost : (s.clearLostRange first n).hbm.lost =
      s.hbm.lost.filter fun x => !(first ≤ x.1 && x.1 < first + n && x.2 != s.now) := rfl
  rw [State.marked_iff, hlost]
  have hkeep (x : Nat × Nat) : (!(first ≤ x.1 && x.1 < first + n && x.2 != s.now)) = true ↔
      (first ≤ x.1 → x.1 < first + n → x.2 = s.now) := by
    simp only [Bool.not_eq_true', Bool.and_eq_false_iff, decide_eq_false_iff_not, bne_eq_false_iff_eq]
    omega
  constructor
  · rintro ⟨x, hx, rfl⟩
    obtain ⟨hmem, hkept⟩ := List.mem_filter.mp hx
    exact ⟨x, hmem, rfl, (hkeep x).mp hkept⟩
  · rintro ⟨x, hmem, rfl, hkept⟩
    exact ⟨x, List.mem_filter.mpr ⟨hmem, (hkeep x).mpr hkept⟩, rfl⟩

theorem State.sameRegs_clearLostRange (s : State) (first n : Nat) : SameRegs s (s.clearLostRange first n) [Reg.HBM_LOST_STAT] :=
  SameRegs.setReg (fun _ _ => rfl) List.mem_cons_self _

/-- HBM_LOST_STAT counts the marks that are left. -/
theorem State.clearLostRange_blocks (s : State) (first n : Nat) :
    (s.clearLostRange first n).fld Reg.HBM_LOST_STAT 0 19 = (s.clearLostRange first n).hbm.lost.length % 2 ^ 19 :=
  State.fld_setFld_self _ _ _ _ _ (by decide)

/-- CLEAR_LOST with the range that the registers give. -/
def State.lostCleared (s : State) : State :=
  s.clearLostRange (s.fld Reg.HBM_LOST_CLR_BLK 0 19) (s.fld Reg.HBM_LOST_CLR_CNT 0 19)

theorem exec_hbmCtlClearLost_ok {t : Nat} {req : Requester} {s u : State} (hu : s.advance t = u) (hok : u.accepts req Reg.HBM_CTL 1) :
    exec (.hbmCtlClearLost t req) s = .next u.lostCleared := by
  have hrun : exec (.hbmCtlClearLost t req) s = execHbmCtlClearLost t req s := rfl
  rw [hrun, execHbmCtlClearLost, hu, State.control_ok hok (by decide)]
  rfl

/-- Settles O34: a mark is left where the range does not name its block, or where it is of this cycle. -/
theorem clearLostClearsItsRange : Obligations.ClearLostClearsItsRange := by
  intro t req s u hu hok
  refine ⟨_, exec_hbmCtlClearLost_ok hu hok, u.sameRegs_clearLostRange _ _, u.clearLostRange_blocks _ _, rfl, rfl, rfl,
    fun b => ⟨?_, fun hnow => ?_, fun hout => ?_⟩⟩
  · rintro ⟨hlo, hhi⟩ hold
    refine Bool.eq_false_iff.mpr fun hmarked => ?_
    obtain ⟨x, hx, hb, hkept⟩ := (u.marked_clearLostRange _ _ b).mp hmarked
    exact hold x hx hb (hkept hlo hhi)
  · exact (u.marked_clearLostRange _ _ b).mpr ⟨_, mem_of_mapGet hnow, rfl, fun _ _ => rfl⟩
  · rw [Bool.eq_iff_iff, State.lostCleared, State.marked_clearLostRange, State.marked_iff]
    exact exists_congr fun x => and_congr_right fun _ => and_iff_left fun hlo hhi => by omega

end Sys2Proof.Machine
end

section
/-! The memory test and CLEAR_CNT (R278, Table 12-7). -/

namespace Sys2Proof.Machine

/-! ## The memory test -/

theorem exec_hbmCtlMemtest_ok {t : Nat} {req : Requester} {s u : State} (hu : s.advance t = u) (hok : u.accepts req Reg.HBM_CTL 2) :
    exec (.hbmCtlMemtest t req) s = .next (if u.modeCode = Mode.SERVICE then u.setBit Reg.HBM_STAT 7 true
      else u.raise Ev.HBM_CMD_REFUSED [Reg.HBM_CTL, u.modeCode]) := by
  have hrun : exec (.hbmCtlMemtest t req) s = execHbmCtlMemtest t req s := rfl
  rw [hrun, execHbmCtlMemtest, hu, State.control_ok hok (by decide)]

/-- With no block to mark, only the count of the lost ones is shown. -/
theorem State.markBlocks_nil (s : State) : s.markBlocks [] [] = s.refreshLost := by
  have hfailed : s.hbm.regenFailed.filter (fun b => !([] : List Nat).contains b) = s.hbm.regenFailed :=
    List.filter_eq_self.mpr fun _ _ => rfl
  unfold State.markBlocks
  rw [hfailed]
  rfl

/-- The end of a memory test that finds no tagged block. -/
def State.untaggedTestEnds (s : State) : State := (s.setBit Reg.HBM_STAT 7 false).dropContent.refreshLost

theorem exec_memtestDone_untagged {t : Nat} {s u : State} (hu : s.advance t = u) (hruns : u.bit Reg.HBM_STAT 7 = true)
    (htags : u.hbm.tags = []) : exec (.memtestDone t) s = .next u.untaggedTestEnds := by
  have hrun : exec (.memtestDone t) s = execMemtestDone t s := rfl
  have hnone : (u.setBit Reg.HBM_STAT 7 false).dropContent.taggedBlocks = [] := congrArg (List.map Prod.fst) htags
  rw [hrun, execMemtestDone, hu, hruns, State.markTagged, hnone, State.markBlocks_nil]
  rfl

theorem State.untaggedTestEnds_over (s : State) : s.untaggedTestEnds.bit Reg.HBM_STAT 7 = false :=
  (congrArg (Word.bit · 7) (State.reg_setFld_ne _ _ _ _ _ _ (by decide))).trans (s.bit_setBit_self _ _ _ (by decide))

theorem State.sameRegs_untaggedTestEnds (s : State) : SameRegs s s.untaggedTestEnds [Reg.HBM_STAT, Reg.HBM_LOST_STAT] :=
  SameRegs.setReg (n := (s.setBit Reg.HBM_STAT 7 false).dropContent) ((SameRegs.refl s _).setReg (by decide) _) (by decide) _

/-! ## The counts of the pseudo-channels -/

theorem hbmPcStat_injective {p q : Nat} (h : Reg.HBM_PC_STAT p = Reg.HBM_PC_STAT q) : p = q := by
  unfold Reg.HBM_PC_STAT at h
  omega

/-- Setting a field leaves every field beside it, in its register and in the others. -/
theorem State.fld_setFld_outside (s : State) (a b lo n v : Nat) {lo' n' : Nat} (h : lo' + n' ≤ lo ∨ lo + n ≤ lo') :
    (s.setFld a lo n v).fld b lo' n' = s.fld b lo' n' := by
  by_cases hab : a = b
  · rw [hab, State.fld_setFld_same _ _ _ _ _ _ _ h]
  · exact s.fld_setFld_ne _ _ _ _ _ _ _ hab

/-- REPLAYS, UNCORR and ALERTS of a pseudo-channel start anew. -/
def State.clearPc (s : State) (p : Nat) : State := s.setFld (Reg.HBM_PC_STAT p) 16 16 0

/-- CLEAR_CNT (Table 12-7). -/
def State.pcsCleared (s : State) : State := s.each (List.range 16) State.clearPc

theorem State.fld_pcsCleared (s : State) {p : Nat} (hp : p < 16) : s.pcsCleared.fld (Reg.HBM_PC_STAT p) 16 16 = 0 := by
  refine State.each_establishes (P := fun s => s.fld (Reg.HBM_PC_STAT p) 16 16 = 0) (List.mem_range.mpr hp)
    (fun s => s.fld_setFld_self _ _ _ _ (by decide)) (fun s q hcleared => ?_) s
  by_cases hq : q = p
  · rw [hq]
    exact s.fld_setFld_self _ _ _ _ (by decide)
  · exact (s.fld_setFld_ne _ _ _ _ _ _ _ fun h => hq (hbmPcStat_injective h)).trans hcleared

/-- State and slot of a pseudo-channel lie below its counts. -/
theorem State.fld_pcsCleared_low (s : State) (a : Nat) : s.pcsCleared.fld a 0 16 = s.fld a 0 16 :=
  State.each_keeps (g := (·.fld a 0 16)) (f := State.clearPc) (fun s p => s.fld_setFld_outside _ a _ _ _ (by decide)) s (List.range 16)

theorem State.sameRegs_pcsCleared (s : State) : SameRegs s s.pcsCleared ((List.range 16).map Reg.HBM_PC_STAT) := by
  have hrun := SameRegs.each (f := State.clearPc) (g := fun p => [Reg.HBM_PC_STAT p])
    (fun s _ => (SameRegs.refl s _).setReg List.mem_cons_self _) s (List.range 16)
  rwa [← List.map_eq_flatMap] at hrun

theorem State.pcsCleared_hbm (s : State) : s.pcsCleared.hbm = s.hbm :=
  State.each_keeps (g := State.hbm) (f := State.clearPc) (fun _ _ => rfl) s (List.range 16)

theorem State.pcsCleared_raised (s : State) : s.pcsCleared.raised = s.raised :=
  State.each_keeps (g := State.raised) (f := State.clearPc) (fun _ _ => rfl) s (List.range 16)

theorem exec_hbmCtlClearCnt_ok {t : Nat} {req : Requester} {s u : State} (hu : s.advance t = u) (hok : u.accepts req Reg.HBM_CTL 4) :
    exec (.hbmCtlClearCnt t req) s = .next u.pcsCleared := by
  have hrun : exec (.hbmCtlClearCnt t req) s = execHbmCtlClearCnt t req s := rfl
  rw [hrun, execHbmCtlClearCnt, hu, State.control_ok hok (by decide)]
  rfl

/-- Settles O35: the mode alone decides on a memory test, its end drops the content, and CLEAR_CNT runs through every
pseudo-channel. -/
theorem hbmControlCommands : Obligations.HbmControlCommands := by
  refine ⟨?_, ?_, ?_⟩
  · intro t req s u hu hok
    rw [exec_hbmCtlMemtest_ok hu hok]
    exact ⟨fun hmode => by rw [if_pos hmode], fun hmode => by rw [if_neg hmode]⟩
  · exact fun t s u hu hruns htags => ⟨_, exec_memtestDone_untagged hu hruns htags, u.untaggedTestEnds_over, rfl, rfl,
      u.sameRegs_untaggedTestEnds⟩
  · exact fun t req s u hu hok => ⟨_, exec_hbmCtlClearCnt_ok hu hok,
      fun p hp => ⟨u.fld_pcsCleared hp, u.fld_pcsCleared_low _⟩, u.sameRegs_pcsCleared, u.pcsCleared_hbm, u.pcsCleared_raised⟩

end Sys2Proof.Machine
end

section
/-! Refresh, read parity errors and alerts (R261, R263 to R265). -/

namespace Sys2Proof.Machine

/-! ## Refresh and read parity errors -/

/-- The intervals of pseudo-channel `p` whose refresh is put off. -/
def State.postpone (s : State) (p n : Nat) : State := { s with hbm := { s.hbm with postponed := s.hbm.postponed.set p n } }

section
variable {t : Nat} {p : Fin 16} {s u : State} (hu : s.advance t = u)
include hu

theorem exec_hbmRefreshTick_awake (hawake : u.selfRefresh = false) : exec (.hbmRefreshTick t p) s =
    .next (u.postpone p (if u.hbmBusy && u.hbm.postponed.getD p 0 < 8 then u.hbm.postponed.getD p 0 + 1 else 0)) := by
  have hrun : exec (.hbmRefreshTick t p) s = execHbmRefreshTick t p s := rfl
  rw [hrun, execHbmRefreshTick, hu, hawake]
  rfl

theorem exec_hbmReadParityError (a k : Nat) : exec (.hbmReadParityError t p a k) s =
    .next (if k < 3 then u.incFld (Reg.HBM_PC_STAT p) 16 8 1 else (u.hbmUncorr p a 1).endReads a) := by
  have hrun : exec (.hbmReadParityError t p a k) s = execHbmReadParityError t p a k s := rfl
  rw [hrun, execHbmReadParityError, hu]

end

/-! ## Replays -/

/-- A pseudo-channel replays the `i`-th free number of commands. -/
def State.replay (s : State) (i q : Nat) : State := s.incFld (Reg.HBM_PC_STAT q) 16 8 (Config.reissued i q)

@[simp] theorem State.reg_useFresh (s : State) (a : Nat) : s.useFresh.reg a = s.reg a := rfl
@[simp] theorem State.fld_useFresh (s : State) (a lo n : Nat) : s.useFresh.fld a lo n = s.fld a lo n := rfl

theorem State.reissue_eq (s : State) (ch : Nat) :
    s.reissue ch = ((s.replay s.fresh (2 * ch)).replay s.fresh (2 * ch + 1)).useFresh := rfl

theorem State.fld_replay_self (s : State) (i q : Nat) :
    (s.replay i q).fld (Reg.HBM_PC_STAT q) 16 8 = min 255 (s.fld (Reg.HBM_PC_STAT q) 16 8 + Config.reissued i q) :=
  s.fld_incFld_self _ 16 8 _ (by decide)

theorem State.fld_replay_ne (s : State) (i : Nat) {p q : Nat} (h : p ≠ q) (lo n : Nat) :
    (s.replay i p).fld (Reg.HBM_PC_STAT q) lo n = s.fld (Reg.HBM_PC_STAT q) lo n :=
  s.fld_setFld_ne _ _ _ _ _ _ _ fun he => h (hbmPcStat_injective he)

theorem State.fld_replay_alerts (s : State) (i q a : Nat) : (s.replay i q).fld a 28 4 = s.fld a 28 4 :=
  s.fld_setFld_outside _ a _ _ _ (by decide)

theorem State.sameRegs_replay (s : State) (i : Nat) {q : Nat} {l : List Nat} (hq : Reg.HBM_PC_STAT q ∈ l) : SameRegs s (s.replay i q) l :=
  (SameRegs.refl s l).setReg hq _

/-- Both pseudo-channels of the channel count their replays. -/
theorem State.fld_reissue (s : State) {ch q : Nat} (hq : q / 2 = ch) :
    (s.reissue ch).fld (Reg.HBM_PC_STAT q) 16 8 = min 255 (s.fld (Reg.HBM_PC_STAT q) 16 8 + Config.reissued s.fresh q) := by
  rw [State.reissue_eq, State.fld_useFresh]
  obtain rfl | rfl : q = 2 * ch ∨ q = 2 * ch + 1 := by omega
  · rw [State.fld_replay_ne _ _ (Nat.succ_ne_self _), State.fld_replay_self]
  · rw [State.fld_replay_self, State.fld_replay_ne _ _ (Nat.succ_ne_self _).symm]

/-- Replays leave the count of alerts. -/
theorem State.fld_reissue_alerts (s : State) (ch a : Nat) : (s.reissue ch).fld a 28 4 = s.fld a 28 4 := by
  rw [State.reissue_eq, State.fld_useFresh, State.fld_replay_alerts, State.fld_replay_alerts]

/-- The registers of the two pseudo-channels of a channel. -/
def channelRegs (ch : Nat) : List Nat := [Reg.HBM_PC_STAT (2 * ch), Reg.HBM_PC_STAT (2 * ch + 1)]

theorem hbmPcStat_mem_channelRegs (p : Nat) : Reg.HBM_PC_STAT p ∈ channelRegs (p / 2) := by
  obtain h | h : p = 2 * (p / 2) ∨ p = 2 * (p / 2) + 1 := by omega
  · exact List.mem_cons.mpr (.inl (congrArg Reg.HBM_PC_STAT h))
  · exact List.mem_cons_of_mem _ (List.mem_singleton.mpr (congrArg Reg.HBM_PC_STAT h))

theorem State.sameRegs_reissue (s : State) (ch : Nat) : SameRegs s (s.reissue ch) (channelRegs ch) := by
  have hfirst : SameRegs s (s.replay s.fresh (2 * ch)) (channelRegs ch) := s.sameRegs_replay _ List.mem_cons_self
  have hsecond := (s.replay s.fresh (2 * ch)).sameRegs_replay s.fresh (l := channelRegs ch) (List.mem_cons_of_mem _ List.mem_cons_self)
  intro a ha
  rw [State.reissue_eq, State.reg_useFresh]
  exact hfirst.trans hsecond a ha

/-! ## Alerts -/

/-- An alert of pseudo-channel `p` is counted, and its channel's commands are reissued. -/
def State.alertCounted (s : State) (p : Nat) : State := (s.incFld (Reg.HBM_PC_STAT p) 28 4 1).reissue (p / 2)

theorem State.alertCounted_hbm (s : State) (p : Nat) : (s.alertCounted p).hbm = s.hbm := rfl

/-- The controller remembers the alerts `l`. -/
def State.setAlerts (s : State) (l : List (Nat × Nat)) : State := { s with hbm := { s.hbm with alerts := l } }

@[simp] theorem State.reg_setAlerts (s : State) (l : List (Nat × Nat)) (a : Nat) : (s.setAlerts l).reg a = s.reg a := rfl
@[simp] theorem State.fld_setAlerts (s : State) (l : List (Nat × Nat)) (a lo n : Nat) : (s.setAlerts l).fld a lo n = s.fld a lo n := rfl

@[simp] theorem State.setAlerts_setAlerts (s : State) (l m : List (Nat × Nat)) : (s.setAlerts l).setAlerts m = s.setAlerts m := rfl

/-- An alert of pseudo-channel `p` is counted and remembered. -/
def State.alertTaken (s : State) (p : Nat) : State := (s.alertCounted p).setAlerts (s.hbm.alerts ++ [(s.now, p)])

theorem State.alertTaken_now (s : State) (p : Nat) : (s.alertTaken p).now = s.now := rfl

theorem State.alertTaken_alerts (s : State) (p : Nat) : (s.alertTaken p).hbm.alerts = s.hbm.alerts ++ [(s.now, p)] := rfl

/-- An alert is one of its channel's within the last millisecond, beside those before it. -/
theorem State.alertsOf_alertTaken (s : State) (p : Nat) : (s.alertTaken p).alertsOf (p / 2) = s.alertsOf (p / 2) ++ [(s.now, p)] := by
  have hnew : decide (s.now < s.now + ms 1) = true := decide_eq_true (Nat.lt_add_of_pos_right (by decide))
  have hkept : ([(s.now, p)].filter fun x => x.2 / 2 == p / 2 && decide (s.now < x.1 + ms 1)) = [(s.now, p)] :=
    List.filter_cons_of_pos (Bool.and_eq_true_iff.mpr ⟨beq_self_eq_true _, hnew⟩)
  rw [State.alertsOf, State.alertTaken_alerts, State.alertTaken_now, List.filter_append, hkept, State.alertsOf]

theorem State.alertTaken_count (s : State) (p : Nat) :
    (s.alertTaken p).fld (Reg.HBM_PC_STAT p) 28 4 = min 15 (s.fld (Reg.HBM_PC_STAT p) 28 4 + 1) := by
  rw [State.alertTaken, State.fld_setAlerts, State.alertCounted, State.fld_reissue_alerts]
  exact s.fld_incFld_self _ _ _ _ (by decide)

theorem State.alertTaken_replays (s : State) {p q : Nat} (hq : q / 2 = p / 2) : (s.alertTaken p).fld (Reg.HBM_PC_STAT q) 16 8 =
    min 255 (s.fld (Reg.HBM_PC_STAT q) 16 8 + Config.reissued s.fresh q) := by
  rw [State.alertTaken, State.fld_setAlerts, State.alertCounted, State.fld_reissue _ hq, State.incFld,
    State.fld_setFld_outside _ _ _ _ _ _ (by decide), State.setFld_fresh]

theorem State.sameRegs_alertTaken (s : State) (p : Nat) : SameRegs s (s.alertTaken p) (channelRegs (p / 2)) := by
  have hcounted : SameRegs s (s.incFld (Reg.HBM_PC_STAT p) 28 4 1) (channelRegs (p / 2)) :=
    (SameRegs.refl s _).setReg (hbmPcStat_mem_channelRegs p) _
  intro a ha
  rw [State.alertTaken, State.reg_setAlerts, State.alertCounted]
  exact hcounted.trans (State.sameRegs_reissue _ _) a ha

/-- The controller forgets the alerts of a channel. -/
def State.dropAlerts (s : State) (ch : Nat) : State := s.setAlerts (s.hbm.alerts.filter fun x => x.2 / 2 != ch)

/-- The alert that completes four of its channel is forgotten with those before it. -/
theorem State.dropAlerts_alertTaken (s : State) (p : Nat) :
    (s.alertTaken p).dropAlerts (p / 2) = (s.alertCounted p).dropAlerts (p / 2) := by
  have hdrop : ((s.hbm.alerts ++ [(s.now, p)]).filter fun x => x.2 / 2 != p / 2) = s.hbm.alerts.filter fun x => x.2 / 2 != p / 2 := by
    simp
  rw [State.dropAlerts, State.alertTaken_alerts, hdrop, State.alertTaken, State.setAlerts_setAlerts, State.dropAlerts,
    State.alertCounted_hbm]

/-- The pseudo-channel of channel `ch` that drew most of the alerts `l`, the even one where both drew as many. -/
def mostAlerts (l : List (Nat × Nat)) (ch : Nat) : Nat :=
  if l.length - (l.filter fun x => x.2 == 2 * ch).length ≤ (l.filter fun x => x.2 == 2 * ch).length then 2 * ch else 2 * ch + 1

/-- Of alerts of the one pseudo-channel `p`, it is `p` that drew most. -/
theorem mostAlerts_same {l : List (Nat × Nat)} {p : Nat} (hne : l ≠ []) (hall : ∀ x ∈ l, x.2 = p) : mostAlerts l (p / 2) = p := by
  have hpos : 0 < l.length := List.length_pos_iff.mpr hne
  unfold mostAlerts
  by_cases hp : p = 2 * (p / 2)
  · have heven : (l.filter fun x => x.2 == 2 * (p / 2)) = l :=
      List.filter_eq_self.mpr fun x hx => beq_iff_eq.mpr ((hall x hx).trans hp)
    rw [heven, Nat.sub_self, if_pos (Nat.zero_le _), ← hp]
  · have hodd : (l.filter fun x => x.2 == 2 * (p / 2)) = [] :=
      List.filter_eq_nil_iff.mpr fun x hx h => hp ((hall x hx).symm.trans (beq_iff_eq.mp h))
    rw [hodd, List.length_nil, Nat.sub_zero, if_neg (Nat.not_le.mpr hpos)]
    omega

section
variable {t : Nat} {p : Fin 16} {s u : State} (hu : s.advance t = u) (a : Nat)
include hu

theorem exec_hbmAlert_eq : exec (.hbmAlert t p a) s = .next (
    if ((u.alertTaken p).alertsOf (p / 2)).length < 4 then u.alertTaken p
    else ((((u.alertTaken p).dropAlerts (p / 2)).hbmUncorr (mostAlerts ((u.alertTaken p).alertsOf (p / 2)) (p / 2)) a 2).endReads a)) := by
  have hrun : exec (.hbmAlert t p a) s = execHbmAlert t p a s := rfl
  rw [hrun, execHbmAlert, hu]
  rfl

theorem exec_hbmAlert_few (hfew : (u.alertsOf (p / 2)).length < 3) : exec (.hbmAlert t p a) s = .next (u.alertTaken p) := by
  have hlen : ((u.alertTaken p).alertsOf (p / 2)).length < 4 := by
    rw [State.alertsOf_alertTaken, List.length_append]
    exact Nat.succ_lt_succ hfew
  rw [exec_hbmAlert_eq hu, if_pos hlen]

theorem exec_hbmAlert_fourth (hthree : (u.alertsOf (p / 2)).length = 3) (hall : ∀ x ∈ u.alertsOf (p / 2), x.2 = p) :
    exec (.hbmAlert t p a) s = .next ((((u.alertCounted p).dropAlerts (p / 2)).hbmUncorr p a 2).endReads a) := by
  have hfour : ¬ ((u.alertsOf (p / 2)) ++ [(u.now, p.val)]).length < 4 := by
    rw [List.length_append, hthree]
    exact Nat.lt_irrefl 4
  have hmost : mostAlerts (u.alertsOf (p / 2) ++ [(u.now, p.val)]) (p / 2) = p :=
    mostAlerts_same (List.append_ne_nil_of_right_ne_nil _ (List.cons_ne_nil _ _)) fun x hx =>
      (List.mem_append.mp hx).elim (hall x) fun hx => congrArg Prod.snd (List.mem_singleton.mp hx)
  rw [exec_hbmAlert_eq hu, State.alertsOf_alertTaken, if_neg hfour, hmost, State.dropAlerts_alertTaken]

end

/-- Settles O36: each command is one branch of its meaning; an alert is counted once in its pseudo-channel, its replays in both of
its channel, and the fourth is charged to the pseudo-channel that drew them all. -/
theorem refreshAndErrorsOfAChannel : Obligations.RefreshAndErrorsOfAChannel := by
  refine ⟨?_, ?_, ?_, ?_⟩
  · intro t p s u hu hawake
    rw [exec_hbmRefreshTick_awake hu hawake]
    constructor
    · intro hbusy hfew
      rw [hbusy, decide_eq_true hfew]
      rfl
    · intro h
      have hdue : (u.hbmBusy && decide (u.hbm.postponed.getD p 0 < 8)) = false := by
        rw [Bool.and_eq_false_iff, decide_eq_false_iff_not, Nat.not_lt]
        exact h
      rw [hdue]
      rfl
  · intro t a k p s u hu
    rw [exec_hbmReadParityError hu]
    exact ⟨fun hk => by rw [if_pos hk], fun hk => by rw [if_neg (Nat.not_lt.mpr hk)]⟩
  · intro t a p s u hu hnone
    have hfew : (u.alertsOf (p / 2)).length < 3 := by
      rw [State.alertsOf, hnone]
      exact Nat.zero_lt_succ 2
    refine ⟨_, exec_hbmAlert_few hu a hfew, u.alertTaken_count p, fun q hq _ => u.alertTaken_replays hq, ?_,
      u.sameRegs_alertTaken p, rfl⟩
    exact congrArg (· ++ [(u.now, p.val)]) hnone
  · intro t a p s u v hu hthree hall hv
    have hsame : ∀ x ∈ u.alertsOf (p / 2), x.2 = p := fun x hx => beq_iff_eq.mp (List.all_eq_true.mp hall x hx)
    rw [exec_hbmAlert_fourth hu a hthree hsame, ← hv]
    rfl

end Sys2Proof.Machine
end

section
/-! Migration page by page, and the scrub (R272, R277). -/

namespace Sys2Proof.Machine

/-! ## Migration -/

/-- The pages of the migration `m`: a donor's rows in use, or all pages of a pseudo-channel (R272, R274). -/
def State.pagesOf (s : State) (m : Migration) : Nat := if m.donor then s.rowsUse else s.pagesPerPc

/-- The migration with its next page copied. -/
def Migration.next (m : Migration) : Migration := { m with page := m.page + 1 }

/-- A page of the migration `m` is copied, and HBM_MIGR_STAT shows it. -/
def State.pageDone (s : State) (m : Migration) : State :=
  ({ s with hbm := { s.hbm with migr := some m.next } }).setFld Reg.HBM_MIGR_STAT 16 10 m.next.page

theorem State.sameRegs_pageDone (s : State) (m : Migration) : SameRegs s (s.pageDone m) [Reg.HBM_MIGR_STAT] :=
  SameRegs.setReg (fun _ _ => rfl) List.mem_cons_self _

theorem State.pageDone_page (s : State) (m : Migration) : (s.pageDone m).fld Reg.HBM_MIGR_STAT 16 10 = (m.page + 1) % 1024 :=
  State.fld_setFld_self _ _ _ _ _ (by decide)

theorem State.pagesOf_pageDone (s : State) (m : Migration) : (s.pageDone m).pagesOf m.next = s.pagesOf m := by
  have hrows : (s.pageDone m).rowsUse = s.rowsUse := (s.sameRegs_pageDone m).fld (by decide) 16 10
  rw [State.pagesOf, hrows]
  rfl

theorem exec_migrationPageDone_eq {t : Nat} {m : Migration} {s u : State} (hu : s.advance t = u) (hm : u.hbm.migr = some m) :
    exec (.migrationPageDone t) s =
      .next (if m.page + 1 = u.pagesOf m then (u.pageDone m).endMigration m.next else u.pageDone m) := by
  have hrun : exec (.migrationPageDone t) s = execMigrationPageDone t s := rfl
  rw [hrun, execMigrationPageDone, hu, ← u.pagesOf_pageDone m]
  simp only [hm]
  rfl

/-- A pseudo-channel is retired and backs no slot. -/
def State.pcRetired (s : State) (p : Nat) : State := (s.setFld (Reg.HBM_PC_STAT p) 0 2 3).setFld (Reg.HBM_PC_STAT p) 4 5 0x1F

theorem State.pcRetired_state (s : State) (p : Nat) : (s.pcRetired p).fld (Reg.HBM_PC_STAT p) 0 2 = 3 :=
  (State.fld_setFld_same _ _ _ _ _ _ _ (by decide)).trans (s.fld_setFld_self _ _ _ _ (by decide))

/-- No migration runs. -/
def State.migrationOver (s : State) : State :=
  (({ s with hbm := { s.hbm with migr := none } } : State).setBit Reg.HBM_MIGR_STAT 9 false).setBit Reg.HBM_STAT 5 false

/-- The registers of the stack as a whole stand below those of the pseudo-channels. -/
theorem hbmMigrStat_ne_pcStat (p : Nat) : Reg.HBM_MIGR_STAT ≠ Reg.HBM_PC_STAT p := by
  unfold Reg.HBM_MIGR_STAT Reg.HBM_PC_STAT
  omega

theorem hbmStat_ne_pcStat (p : Nat) : Reg.HBM_STAT ≠ Reg.HBM_PC_STAT p := by
  unfold Reg.HBM_STAT Reg.HBM_PC_STAT
  omega

theorem State.fld_migrationOver_pcStat (s : State) (p lo n : Nat) :
    s.migrationOver.fld (Reg.HBM_PC_STAT p) lo n = s.fld (Reg.HBM_PC_STAT p) lo n :=
  (State.fld_setFld_ne _ _ _ _ _ _ _ _ (hbmStat_ne_pcStat _)).trans (State.fld_setFld_ne _ _ _ _ _ _ _ _ (hbmMigrStat_ne_pcStat _))

theorem State.migrationOver_idle (s : State) : s.migrationOver.bit Reg.HBM_MIGR_STAT 9 = false :=
  (State.bit_setBit_ne _ _ _ _ _ _ (by decide)).trans (State.bit_setBit_self _ _ _ _ (by decide))

/-- A donor's migration that no other waits for ends with the retirement and its event. -/
theorem State.endMigration_donor {s : State} {m : Migration} (hdonor : m.donor = true) (hwait : s.hbm.waiting = []) :
    s.endMigration m =
      (s.pcRetired m.from_).migrationOver.raise Ev.HBM_RETIRE_DONE [m.from_, m.page, m.lost, (s.now - m.started) / 400] := by
  unfold State.endMigration
  simp only [hdonor, if_true]
  split
  case h_1 => rfl
  case h_2 hsome => exact absurd (hwait.symm.trans hsome) (List.cons_ne_nil _ _).symm

/-! ## Scrub -/

/-- A scrub read of this cycle moves on to the next line of its row. -/
def State.scrubMoves (s : State) : State :=
  { s with hbm := { s.hbm with scrubWait := some s.now, scrubLine := s.hbm.scrubLine + 1 } }

/-- Within a row, a good scrub read moves on one line, and the schedule decides on the guaranteed slots. -/
theorem exec_scrubRead_inRow {t : Nat} {s u : State} (hu : s.advance t = u) (hen : u.bit Reg.HBM_SCRUB_CFG 8 = true)
    (hawake : u.selfRefresh = false) (hon : u.domainOn 55 = true) (hslots : u.slots ≠ 0) (hline : u.hbm.scrubLine + 1 < 65536) :
    exec (.scrubRead t 0) s = .next u.scrubMoves.scrubSchedule := by
  have hrun : exec (.scrubRead t 0) s = execScrubRead t 0 s := rfl
  have hnext : ({ u with hbm := { u.hbm with scrubWait := some u.now } } : State).scrubNext = u.scrubMoves := if_pos hline
  rw [hrun, execScrubRead, hu, ← hnext]
  simp [hen, hawake, hon, hslots]

/-- The guaranteed slots start (R277). -/
def State.scrubForces (s : State) : State :=
  let s := s.setBit Reg.HBM_SCRUB_STAT 16 true
  { s with hbm := { s.hbm with scrubForced := some s.now } }

theorem State.scrubForces_forced (s : State) : s.scrubForces.bit Reg.HBM_SCRUB_STAT 16 = true := s.bit_setBit_self _ _ _ (by decide)

theorem State.sameRegs_scrubForces (s : State) : SameRegs s s.scrubForces [Reg.HBM_SCRUB_STAT] :=
  (SameRegs.refl s _).setReg List.mem_cons_self _

theorem State.scrubForces_row (s : State) : s.scrubForces.fld Reg.HBM_SCRUB_STAT 0 10 = s.fld Reg.HBM_SCRUB_STAT 0 10 :=
  s.fld_setFld_same _ _ _ _ _ _ (by decide)

theorem exec_scrubDeferralTimeout_due {t c : Nat} {s u : State} (hu : s.advance t = u) (hawake : u.selfRefresh = false)
    (hon : u.domainOn 55 = true) (hdefer : u.deferral = some c) (hdue : ms 100 ≤ c)
    (hquiet : (u.sameCycle fun i => match i with | .scrubRead _ _ => true | _ => false) = false)
    (hrare : limited u.hbm.scrubForced (ms 10000) u.now = false) :
    exec (.scrubDeferralTimeout t) s =
      .next (u.scrubForces.raise Ev.HBM_SCRUB_FORCED [u.fld Reg.HBM_SCRUB_STAT 0 10, u.hbm.scrubSlot]) := by
  have hrun : exec (.scrubDeferralTimeout t) s = execScrubDeferralTimeout t s := rfl
  have hlate : decide (c < ms 100) = false := decide_eq_false (Nat.not_lt.mpr hdue)
  rw [hrun, execScrubDeferralTimeout, hu, ← u.scrubForces_row]
  simp only [hawake, hon, hdefer, Option.getD_some, hlate, Bool.not_true, Bool.or_false]
  exact congrArg _ ((if_neg (Bool.eq_false_iff.mp hquiet)).trans (if_neg (Bool.eq_false_iff.mp hrare)))

/-- Settles O37: a page done either goes on or ends the migration; scrub reads and the deferral clock are each one branch of their
meaning. -/
theorem migrationAndScrub : Obligations.MigrationAndScrub := by
  refine ⟨?_, ?_, ?_, ?_⟩
  · intro t m s u hu hm hdonor hpage
    have hmore : ¬ m.page + 1 = u.pagesOf m := by rwa [State.pagesOf, hdonor]
    refine ⟨u.pageDone m, ?_, rfl, u.pageDone_page m, u.sameRegs_pageDone m, rfl, rfl⟩
    rw [exec_migrationPageDone_eq hu hm, if_neg hmore]
  · intro t m s u hu hm hdonor hpage hwait
    have hlast : m.page + 1 = u.pagesOf m := by rwa [State.pagesOf, hdonor]
    have hrun := exec_migrationPageDone_eq hu hm
    rw [if_pos hlast, State.endMigration_donor (s := u.pageDone m) (m := m.next) hdonor hwait] at hrun
    have hretired := (State.fld_migrationOver_pcStat _ m.from_ 0 2).trans ((u.pageDone m).pcRetired_state m.from_)
    exact ⟨_, _, hrun, rfl, hretired, State.raise_raised _ _ _, rfl, State.migrationOver_idle _⟩
  · intro t s u v hu hen hawake hon hslots hline hv
    rw [exec_scrubRead_inRow hu hen hawake hon hslots hline, ← hv]
    rfl
  · intro t c s u hu hawake hon hdefer hdue hquiet hrare
    have hrow : u.fld Reg.HBM_SCRUB_STAT 0 10 % 2 ^ 32 = u.fld Reg.HBM_SCRUB_STAT 0 10 :=
      Nat.mod_eq_of_lt (Nat.lt_of_le_of_lt (u.fld_le _ 0 10) (by decide))
    refine ⟨_, exec_scrubDeferralTimeout_due hu hawake hon hdefer hdue hquiet hrare, u.scrubForces_forced, rfl,
      u.sameRegs_scrubForces, ?_⟩
    have hraised := RaisedBy.of_raise (u := u) (n := u.scrubForces) rfl Ev.HBM_SCRUB_FORCED
      [u.fld Reg.HBM_SCRUB_STAT 0 10, u.hbm.scrubSlot]
    rwa [List.map_cons, hrow] at hraised

end Sys2Proof.Machine
end

section
/-! SUPPORT.  What every meaning keeps: the clock that it found, the queue, and the one form of registers, HBM content, lost
blocks and tags.  `Keeps` says so of two states; a lemma for each function that answers a state lets a proof follow the chain of
updates in the function's definition. -/

namespace Sys2Proof.Machine

set_option Elab.async false

/-- `n` comes from `s₀` in the same cycle and with the same queue, and is in canonical form when `s₀` was. -/
structure Keeps (s₀ n : State) : Prop where
  now : n.now = s₀.now
  pending : n.pending = s₀.pending
  canonical : s₀.canonical = true → n.canonical = true

/-- The canonical form, part by part. -/
theorem State.canonical_iff (s : State) : s.canonical = true ↔
    regsCanonical s.regs = true ∧ Memory.wf s.hbm.mem = true ∧ keysRising s.hbm.lost = true ∧ keysRising s.hbm.tags = true := by
  simp only [State.canonical, Bool.and_eq_true, and_assoc]

variable {s₀ s : State}

theorem Keeps.refl : Keeps s s := ⟨rfl, rfl, id⟩

/-- An update of other fields. -/
theorem Keeps.same (h : Keeps s₀ s) {part rws atMode raised outbox evt trace pins fabric mode power rst caston sec cue frame}
    {time net traf spk lanes emit_ hank needle store dport chain health fresh} :
    Keeps s₀ { s with
      part := part, rws := rws, atMode := atMode, raised := raised, outbox := outbox, evt := evt, trace := trace, pins :=
      pins, fabric := fabric, mode := mode, power := power, rst := rst, caston := caston, sec := sec, cue := cue, frame :=
      frame, time := time, net := net, traf := traf, spk := spk, lanes := lanes, emit_ := emit_, hank := hank, needle :=
      needle, store := store, dport := dport, chain := chain, health := health, fresh := fresh } :=
  ⟨h.now, h.pending, h.canonical⟩

/-- An update of other fields, of the stack those beside its content, lost blocks and tags. -/
theorem Keeps.sameHbm (h : Keeps s₀ s) {part rws atMode raised outbox evt trace pins fabric mode power rst caston sec cue frame}
    {time net traf spk lanes emit_ hank needle store dport chain health fresh epoch kept backing donors migr waiting wasOff}
    {stateS alerts postponed retime retimeLater reports regenFailed scrubPass scrubSlot scrubLine scrubWait scrubHeld}
    {scrubForced} :
    Keeps s₀ { s with
      hbm := ⟨s.hbm.mem, epoch, s.hbm.tags, s.hbm.lost, kept, backing, donors, migr, waiting, wasOff, stateS, alerts, postponed,
        retime, retimeLater, reports, regenFailed, scrubPass, scrubSlot, scrubLine, scrubWait, scrubHeld, scrubForced⟩
      part := part, rws := rws, atMode := atMode, raised := raised, outbox := outbox, evt := evt, trace := trace, pins :=
      pins, fabric := fabric, mode := mode, power := power, rst := rst, caston := caston, sec := sec, cue := cue, frame :=
      frame, time := time, net := net, traf := traf, spk := spk, lanes := lanes, emit_ := emit_, hank := hank, needle :=
      needle, store := store, dport := dport, chain := chain, health := health, fresh := fresh } :=
  ⟨h.now, h.pending, h.canonical⟩

/-- An update of the registers. -/
theorem Keeps.regs (h : Keeps s₀ s) {n : State} (f : regsCanonical s.regs = true → regsCanonical n.regs = true)
    (e : (n.now, n.pending, n.hbm) = (s.now, s.pending, s.hbm) := by rfl) : Keeps s₀ n := by
  simp only [Prod.mk.injEq] at e
  obtain ⟨hnow, hpending, hhbm⟩ := e
  refine ⟨hnow.trans h.now, hpending.trans h.pending, fun hc => ?_⟩
  obtain ⟨hregs, hrest⟩ := (State.canonical_iff s).mp (h.canonical hc)
  exact (State.canonical_iff n).mpr ⟨f hregs, hhbm ▸ hrest⟩

theorem Keeps.setReg (h : Keeps s₀ s) {a : Nat} {w : Word} : Keeps s₀ (s.setReg a w) := h.regs (setReg_regsCanonical s a w)

/-- Registers and waiting writes that go. -/
theorem Keeps.filterRegs (h : Keeps s₀ s) {n : State} {p : Nat × Word → Bool} (hregs : n.regs = s.regs.filter p := by rfl)
    (e : (n.now, n.pending, n.hbm) = (s.now, s.pending, s.hbm) := by rfl) : Keeps s₀ n :=
  h.regs (fun hc => hregs ▸ filter_regsCanonical _ _ hc) e

theorem Keeps.ite {c : Prop} {d : Decidable c} {a b : State} (ha : Keeps s₀ a) (hb : Keeps s₀ b) :
    Keeps s₀ (if c then a else b) := by
  split
  · exact ha
  · exact hb

/-- What every step of a fold keeps, the fold keeps. -/
theorem Keeps.foldl {α : Type} {f : State → α → State} (h : Keeps s₀ s) (hf : ∀ n x, Keeps s₀ n → Keeps s₀ (f n x))
    {l : List α} : Keeps s₀ (l.foldl f s) := by
  induction l generalizing s with
  | nil => exact h
  | cons x l ih => exact ih (hf s x h)

theorem Keeps.each {α : Type} {f : State → α → State} (h : Keeps s₀ s) (hf : ∀ n x, Keeps s₀ n → Keeps s₀ (f n x))
    {l : List α} : Keeps s₀ (s.each l f) := h.foldl hf

/-- A fold over pairs of a state and something beside it. -/
theorem Keeps.foldlFst {α β : Type} {f : State × β → α → State × β} {x : State × β} (h : Keeps s₀ x.1)
    (hf : ∀ n y, Keeps s₀ n.1 → Keeps s₀ (f n y).1) {l : List α} : Keeps s₀ (l.foldl f x).1 := by
  induction l generalizing x with
  | nil => exact h
  | cons y l ih => exact ih (hf x y h)

/-- A meaning that answers a next state, which keeps what `s₀` has. -/
def Lands (s₀ : State) (r : Res) : Prop := ∃ n : State, r = .next n ∧ Keeps s₀ n

theorem Lands.next {n : State} (h : Keeps s₀ n) : Lands s₀ (.next n) := ⟨n, rfl, h⟩

end Sys2Proof.Machine
end

section
/-! SUPPORT.  What the meanings keep of clock, queue and form: registers, events and the trace queue; early accesses; refused
writes; lanes, tiles and health logs. -/

namespace Sys2Proof.Machine

set_option Elab.async false

variable {s₀ s : State} {t : Nat}

/-! ## Registers, events and the trace queue -/

theorem Keeps.setFld (h : Keeps s₀ s) {a lo n v : Nat} : Keeps s₀ (s.setFld a lo n v) := h.setReg

theorem Keeps.setBit (h : Keeps s₀ s) {a i : Nat} {b : Bool} : Keeps s₀ (s.setBit a i b) := h.setFld

theorem Keeps.incFld (h : Keeps s₀ s) {a lo n k : Nat} : Keeps s₀ (s.incFld a lo n k) := h.setFld

theorem Keeps.setNat (h : Keeps s₀ s) {a v : Nat} : Keeps s₀ (s.setNat a v) := h.setReg

theorem Keeps.resetRange (h : Keeps s₀ s) {lo hi : Nat} : Keeps s₀ (s.resetRange lo hi) := h.filterRegs

theorem Keeps.resetBlock (h : Keeps s₀ s) {n : Nat} : Keeps s₀ (s.resetBlock n) := h.resetRange

theorem Keeps.setDomain (h : Keeps s₀ s) {d : Nat} {on : Bool} : Keeps s₀ (s.setDomain d on) := .ite h.setBit.same h.setBit

theorem Keeps.raise (h : Keeps s₀ s) {code : Nat} {args : List Nat} : Keeps s₀ (s.raise code args) := h.same

theorem Keeps.emit (h : Keeps s₀ s) {o : Out} : Keeps s₀ (s.emit o) := h.same

theorem Keeps.traceSend (h : Keeps s₀ s) {p : TracePacket} : Keeps s₀ (s.traceSend p) := .ite h (Keeps.ite h.same h.same.incFld)

theorem Keeps.msixSend (h : Keeps s₀ s) {v : Nat} : Keeps s₀ (s.msixSend v) := h.emit.same

theorem Keeps.signal (h : Keeps s₀ s) {e : Event} : Keeps s₀ (s.signal e) :=
  .ite h (Keeps.ite h.same (Keeps.ite h.msixSend h.same))

theorem Keeps.ringWrite (h : Keeps s₀ s) {e : Event} : Keeps s₀ (s.ringWrite e) :=
  (Keeps.ite h.emit.setFld.setBit h.emit.setFld).signal

theorem Keeps.flushLost (h : Keeps s₀ s) : Keeps s₀ s.flushLost := by
  unfold State.flushLost
  split
  · exact h
  · exact .ite h h.same.traceSend.ringWrite

theorem Keeps.toRing (h : Keeps s₀ s) {e : Event} : Keeps s₀ (s.toRing e) := .ite h.flushLost.ringWrite h.flushLost.same.incFld

theorem Keeps.toEarly (h : Keeps s₀ s) {e : Event} : Keeps s₀ (s.toEarly e) := (Keeps.ite h.same h.same).setBit

theorem Keeps.deliverOne (h : Keeps s₀ s) {e : Event} : Keeps s₀ (s.deliverOne e) := .ite h.traceSend.toRing h.traceSend.toEarly

theorem Keeps.deliver (h : Keeps s₀ s) : Keeps s₀ s.deliver := h.same.each fun _ _ hn => hn.deliverOne

/-- The events of the cycle that ends move neither the queue nor the form. -/
theorem State.pending_advance (s : State) (t : Nat) : (s.advance t).pending = s.pending := by
  unfold State.advance
  split
  · rfl
  · exact Keeps.refl.deliver.pending

theorem State.canonical_advance (hs : s.canonical = true) (t : Nat) : (s.advance t).canonical = true := by
  unfold State.advance
  split
  · exact hs
  · exact Keeps.refl.deliver.canonical hs

/-- A command of the present cycle finds the state as it is. -/
theorem Keeps.heard (h : Keeps s₀ s) (ht : t = s₀.now) : Keeps s₀ (s.advance t) := by
  rw [ht, ← h.now, State.advance_now_self]
  exact h

theorem Keeps.useFresh (h : Keeps s₀ s) : Keeps s₀ s.useFresh := h.same

/-! ## Early accesses -/

theorem Keeps.earlyAccess (h : Keeps s₀ s) {bar off : Nat} : Keeps s₀ (s.earlyAccess bar off) :=
  .ite h.incFld.same h.incFld.same.raise

theorem Keeps.refuse (h : Keeps s₀ s) {req : Requester} {a : Nat} {w : Word} {c : Cause} : Keeps s₀ (s.refuse req a w c) := by
  unfold State.refuse
  split
  · exact h.earlyAccess
  · exact h.raise
  · exact h.raise
  · exact h.raise
  · exact h.raise
  · exact h.raise
  · exact h.raise
  · exact .ite h h.same.raise
  · exact h.raise
  · exact h.raise
  · exact h.raise

/-! ## Refused writes -/

theorem Keeps.setTile (h : Keeps s₀ s) {t : Nat} {x : TileState} : Keeps s₀ (s.setTile t x) := h.same

theorem Keeps.refreshSpk (h : Keeps s₀ s) : Keeps s₀ s.refreshSpk := h.setReg

theorem Keeps.noteLink (h : Keeps s₀ s) {p : Nat} : Keeps s₀ (s.noteLink p) := .ite h (Keeps.ite h.same h.same)

theorem Keeps.refreshLanes (h : Keeps s₀ s) : Keeps s₀ s.refreshLanes :=
  (h.noteLink.noteLink.each (fun _ _ hn => hn.setReg)).setReg

theorem Keeps.setLane (h : Keeps s₀ s) {l : Nat} {x : LaneState} : Keeps s₀ (s.setLane l x) := h.same

theorem Keeps.endRuns (h : Keeps s₀ s) {l : Nat} : Keeps s₀ (s.endRuns l) := by
  unfold State.endRuns
  split
  · exact h.setTile
  · exact h

theorem Keeps.setStage (h : Keeps s₀ s) {l v : Nat} : Keeps s₀ (s.setStage l v) :=
  (Keeps.ite h.endRuns h).setLane.setFld.refreshLanes

theorem Keeps.healthLog (h : Keeps s₀ s) {kind : Nat} {values : List Nat} : Keeps s₀ (s.healthLog kind values) :=
  (h.each (fun _ _ hn => hn.setNat)).same

theorem Keeps.setTemp (h : Keeps s₀ s) {a lo : Nat} {v : Int} : Keeps s₀ (s.setTemp a lo v) := .ite h.setFld h.setFld.useFresh

/-! ## Lanes, tiles and health logs -/

theorem Keeps.startTx (h : Keeps s₀ s) {l : Nat} : Keeps s₀ (s.startTx l) := .ite h h.setLane

theorem Keeps.stopTx (h : Keeps s₀ s) {l : Nat} : Keeps s₀ (s.stopTx l) := h.setLane

theorem Keeps.putSlot (h : Keeps s₀ s) {l : Nat} {g : Bool} {b : List Byte} : Keeps s₀ (s.putSlot l g b) := by
  unfold State.putSlot
  split
  · exact h
  · exact h.setLane

theorem Keeps.putSlotAt (h : Keeps s₀ s) {l c : Nat} {b : List Byte} : Keeps s₀ (s.putSlotAt l c b) := by
  unfold State.putSlotAt
  extract_lets
  split
  · exact h
  · exact h.setLane

theorem Keeps.putGroup (h : Keeps s₀ s) {p : Nat} {g : Bool} {b : List Byte} : Keeps s₀ (s.putGroup p g b) := by
  unfold State.putGroup
  extract_lets ls gone best
  clear_value best
  split
  · exact h
  · exact .ite h h.setLane

theorem Keeps.sendGroup (h : Keeps s₀ s) {p : Nat} {g : Bool} {b : List Byte} : Keeps s₀ (s.sendGroup p g b) := h.putGroup.emit

theorem Keeps.setInjection (h : Keeps s₀ s) {l : Nat} {w : Word} : Keeps s₀ (s.setInjection l w) := by
  unfold State.setInjection
  split
  · exact h
  · exact h.setLane

theorem Keeps.setGenerator (h : Keeps s₀ s) {l : Nat} {old w : Word} : Keeps s₀ (s.setGenerator l old w) :=
  .ite h.setLane h.setLane

theorem Keeps.foldErrors (h : Keeps s₀ s) {l : Nat} : Keeps s₀ (s.foldErrors l) := h.setNat.setLane

theorem Keeps.setChecker (h : Keeps s₀ s) {l : Nat} {old w : Word} : Keeps s₀ (s.setChecker l old w) :=
  .ite h.setBit h.foldErrors.setBit.setLane

end Sys2Proof.Machine
end

section
/-! SUPPORT.  What the meanings keep of clock, queue and form: links of the chain; the HBM stack. -/

namespace Sys2Proof.Machine

set_option Elab.async false

variable {s₀ s : State} {t : Nat}

/-! ## Links of the chain -/

theorem Keeps.setChainPort (h : Keeps s₀ s) {p : Nat} {x : ChainPort} : Keeps s₀ (s.setChainPort p x) := h.same

theorem Keeps.sendBlock (h : Keeps s₀ s) {p : Nat} {b : List Word × Bool} : Keeps s₀ (s.sendBlock p b) := h.setChainPort.sendGroup

theorem Keeps.drainPort (h : Keeps s₀ s) {p fuel : Nat} : Keeps s₀ (s.drainPort p fuel) := by
  induction fuel generalizing s with
  | zero => exact h
  | succ k ih =>
    unfold State.drainPort
    extract_lets x
    split
    · exact h
    · split
      · exact ih h.setChainPort.sendBlock
      · exact ih h.setChainPort.sendBlock
      · exact h

theorem Keeps.drain (h : Keeps s₀ s) {p : Nat} : Keeps s₀ (s.drain p) := h.drainPort

theorem Keeps.sendPacket (h : Keeps s₀ s) {p : Nat} {k : Packet} : Keeps s₀ (s.sendPacket p k) := h.setChainPort.drain

theorem Keeps.sendOn (h : Keeps s₀ s) {p : Nat} {k : Packet} : Keeps s₀ (s.sendOn p k) := .ite h.sendPacket h.setChainPort

theorem Keeps.sendTo (h : Keeps s₀ s) {d kind : Nat} {body : List Word} : Keeps s₀ (s.sendTo d kind body) := by
  unfold State.sendTo
  split
  · exact h.sendOn
  · exact h

theorem Keeps.sendAll (h : Keeps s₀ s) {kind : Nat} {body : List Word} : Keeps s₀ (s.sendAll kind body) :=
  h.foldl fun _ _ hn => hn.sendOn

theorem Keeps.sendPartner (h : Keeps s₀ s) {kind : Nat} {body : List Word} : Keeps s₀ (s.sendPartner kind body) := by
  unfold State.sendPartner
  split
  · exact h.sendTo
  · exact h

theorem Keeps.sendControl (h : Keeps s₀ s) {p type fields : Nat} : Keeps s₀ (s.sendControl p type fields) := h.sendGroup

theorem Keeps.mirror (h : Keeps s₀ s) {req : Requester} {a : Nat} {w : Word} : Keeps s₀ (s.mirror req a w) := by
  unfold State.mirror
  split
  · exact h
  · split
    · exact .ite h.sendAll h
    · exact .ite h.sendPartner h
    · exact h

/-! ## The HBM stack -/

theorem Keeps.setUsable (h : Keeps s₀ s) {rows slots : Nat} : Keeps s₀ (s.setUsable rows slots) := h.setReg.setNat.setNat

theorem Keeps.setOrg (h : Keeps s₀ s) : Keeps s₀ s.setOrg := h.setReg

theorem Keeps.stackReset (h : Keeps s₀ s) : Keeps s₀ s.stackReset := h.setOrg.setUsable

theorem Keeps.refreshLost (h : Keeps s₀ s) : Keeps s₀ s.refreshLost := h.setFld

/-- A fold of updates that each keep the keys rising. -/
theorem keysRising_foldl {α β : Type} {f : List (Nat × α) → β → List (Nat × α)}
    (hf : ∀ m x, keysRising m = true → keysRising (f m x) = true)
    {m : List (Nat × α)} (h : keysRising m = true) (l : List β) : keysRising (l.foldl f m) = true := by
  induction l generalizing m with
  | nil => exact h
  | cons x l ih => exact ih (hf m x h)

/-- An update of HBM content, lost blocks and tags. -/
theorem Keeps.hbm (h : Keeps s₀ s) {n : State} (hmem : Memory.wf s.hbm.mem = true → Memory.wf n.hbm.mem = true)
    (hlost : keysRising s.hbm.lost = true → keysRising n.hbm.lost = true)
    (htags : keysRising s.hbm.tags = true → keysRising n.hbm.tags = true)
    (e : (n.now, n.pending, n.regs) = (s.now, s.pending, s.regs) := by rfl) : Keeps s₀ n := by
  simp only [Prod.mk.injEq] at e
  obtain ⟨hnow, hpending, hregs⟩ := e
  refine ⟨hnow.trans h.now, hpending.trans h.pending, fun hc => ?_⟩
  obtain ⟨hr, hm, hl, ht⟩ := (State.canonical_iff s).mp (h.canonical hc)
  exact (State.canonical_iff n).mpr ⟨hregs ▸ hr, hmem hm, hlost hl, htags ht⟩

theorem Keeps.tag (h : Keeps s₀ s) {a n t : Nat} : Keeps s₀ (s.tag a n t) := by
  refine h.hbm id id fun ht => keysRising_foldl (fun m b hm => ?_) ht _
  split
  · exact keysRising_mapErase m b hm
  · exact keysRising_mapPut m b t hm

theorem Keeps.wakeHbm (h : Keeps s₀ s) : Keeps s₀ s.wakeHbm := .ite h.same h

theorem Keeps.touchHbm (h : Keeps s₀ s) : Keeps s₀ s.touchHbm := h.wakeHbm.same

theorem Keeps.hbmWrite (h : Keeps s₀ s) {a t : Nat} {bs : List Byte} : Keeps s₀ (s.hbmWrite a bs t) := by
  have hw : Keeps s₀ { s with hbm := { s.hbm with mem := memWrite s.hbm.mem a bs } } :=
    h.hbm (fun hm => memWrite_wf _ a bs hm) id id
  exact hw.tag.touchHbm

theorem Keeps.dropContent (h : Keeps s₀ s) : Keeps s₀ s.dropContent := h.hbm (fun _ => rfl) id id

theorem Keeps.nvmeSubmit (h : Keeps s₀ s) {c : NvmeCmd} : Keeps s₀ (s.nvmeSubmit c) := h.same.emit

theorem Keeps.bringUpStep (h : Keeps s₀ s) {d n : Nat} : Keeps s₀ (s.bringUpStep d n) := by
  unfold State.bringUpStep
  split
  · exact h.setFld
  · exact h.nvmeSubmit

theorem Keeps.driveInit (h : Keeps s₀ s) {d : Nat} : Keeps s₀ (s.driveInit d) := .ite h.setFld.bringUpStep h

theorem Keeps.readDrive (h : Keeps s₀ s) {volume : Nat} : Keeps s₀ (s.readDrive volume).2 := by
  unfold State.readDrive
  split
  · exact h.same
  · exact h

theorem Keeps.readChunks (h : Keeps s₀ s) {volume lba blocks addr off : Nat} {why : NvmeUse} {fuel : Nat} :
    Keeps s₀ (s.readChunks volume lba blocks addr off why fuel) := by
  induction fuel generalizing s lba blocks addr off with
  | zero => exact h
  | succ k ih =>
    unfold State.readChunks
    split
    · exact h
    · exact ih h.readDrive.nvmeSubmit

theorem Keeps.reread (h : Keeps s₀ s) {lba blocks : Nat} {r : Reread} : Keeps s₀ (s.reread lba blocks r) := by
  unfold State.reread
  split
  · exact h
  · exact h.same.readChunks

theorem Keeps.rereadRecord (h : Keeps s₀ s) {f : Nat} {addr block : Option Nat} {jobs : List HankJob} :
    Keeps s₀ (s.rereadRecord f addr block jobs) := by
  unfold State.rereadRecord
  split
  · exact h
  · exact h.reread

theorem Keeps.clearLost (h : Keeps s₀ s) {b : Nat} : Keeps s₀ (s.clearLost b) := by
  have hl : Keeps s₀ { s with hbm := { s.hbm with lost := mapErase s.hbm.lost b } } :=
    h.hbm id (fun hl => keysRising_mapErase _ b hl) id
  exact hl.refreshLost

theorem Keeps.regenPart (h : Keeps s₀ s) {b : Nat} {ok : Bool} : Keeps s₀ (s.regenPart b ok) :=
  .ite (Keeps.ite h h.sameHbm) (Keeps.ite h h.sameHbm).clearLost

theorem Keeps.bufferRegen (h : Keeps s₀ s) {b n w : Nat} : Keeps s₀ (s.bufferRegen b n w) := by
  unfold State.bufferRegen
  split
  · exact h
  · extract_lets inUse
    clear_value inUse
    split
    · exact h.rereadRecord
    · exact h

theorem Keeps.ringRegen (h : Keeps s₀ s) {k : Skein} {b : Nat} : Keeps s₀ (s.ringRegen k b) :=
  (Keeps.ite h.reread h).each fun _ _ hn => hn.rereadRecord

theorem Keeps.skeinRegen (h : Keeps s₀ s) {b : Nat} : Keeps s₀ (s.skeinRegen b).1 := by
  unfold State.skeinRegen
  extract_lets
  split
  · split
    · exact h.clearLost
    · exact .ite h.ringRegen h.ringRegen.clearLost
  · split
    · exact .ite (h.each (fun _ _ hn => hn.bufferRegen)) (h.each (fun _ _ hn => hn.bufferRegen)).clearLost
    · exact h

theorem Keeps.showVenue (h : Keeps s₀ s) : Keeps s₀ s.showVenue := h.setFld.each fun _ _ hn => hn.setReg

theorem Keeps.restoreVenue (h : Keeps s₀ s) : Keeps s₀ s.restoreVenue := .ite h.same h.same.hbmWrite

theorem Keeps.clearInline (h : Keeps s₀ s) : Keeps s₀ s.clearInline := h.same.showVenue.raise

theorem Keeps.moveVenue (h : Keeps s₀ s) : Keeps s₀ s.moveVenue := .ite h (Keeps.ite h.clearInline h.restoreVenue.showVenue)

theorem Keeps.venueLost (h : Keeps s₀ s) {b : Nat} : Keeps s₀ (s.venueLost b) := .ite h (Keeps.ite h.clearInline h.restoreVenue)

theorem Keeps.regenBlock (h : Keeps s₀ s) {b : Nat} : Keeps s₀ (s.regenBlock b).1 := by
  unfold State.regenBlock
  split
  · exact h.clearLost
  · exact h.skeinRegen
  · split
    · exact h.same
    · exact h.clearLost
  · split
    · exact h.venueLost.clearLost
    · exact h

theorem Keeps.reportRun (h : Keeps s₀ s) {first n t : Nat} {rewrite : Bool} : Keeps s₀ (s.reportRun first n t rewrite) :=
  .ite (Keeps.ite h.sameHbm.raise.raise h.sameHbm.raise) h.sameHbm.incFld

theorem Keeps.markBlocks (h : Keeps s₀ s) {bs new : List Nat} : Keeps s₀ (s.markBlocks bs new) := by
  unfold State.markBlocks
  extract_lets _ s1 s2
  have h1 : Keeps s₀ s1 := h.hbm id (fun hl => keysRising_foldl (fun _ b hm => keysRising_mapPut _ b _ hm) hl bs) id
  clear_value s1
  have h2 : Keeps s₀ s2 := h1.foldl fun n x hn =>
    (Keeps.foldlFst (f := fun (y : State × Bool) i => ((y.1.regenBlock (x.1 + i)).1, y.2 || (y.1.regenBlock (x.1 + i)).2))
      (x := (n, false)) hn fun _ _ hy => hy.regenBlock).reportRun
  exact h2.refreshLost

theorem Keeps.markLost (h : Keeps s₀ s) {bs : List Nat} : Keeps s₀ (s.markLost bs) := h.markBlocks

theorem Keeps.markTagged (h : Keeps s₀ s) : Keeps s₀ s.markTagged := h.markBlocks

theorem Keeps.setTraining (h : Keeps s₀ s) {ws : List Word} : Keeps s₀ (s.setTraining ws) :=
  h.sameHbm.each fun _ _ hn => hn.setReg

theorem Keeps.reloadTraining (h : Keeps s₀ s) : Keeps s₀ s.reloadTraining := h.each fun _ _ hn => hn.setReg

theorem Keeps.trainHbm (h : Keeps s₀ s) : Keeps s₀ s.trainHbm := h.setTraining.healthLog

theorem Keeps.assignSlots (h : Keeps s₀ s) {failed : List Nat} : Keeps s₀ (s.assignSlots failed) := by
  unfold State.assignSlots
  extract_lets ll llEn bad lifeFails ns pool list free _ s1 s2 rows s3 s4 s5
  have h3 : Keeps s₀ s3 := (h.sameHbm.each (fun _ _ hn => hn.setFld.setFld)).setUsable.setBit
  have h5 : Keeps s₀ s5 := .ite h3.setBit.raise h3.setBit
  exact .ite h5.raise h5

theorem Keeps.scrubStart (h : Keeps s₀ s) : Keeps s₀ s.scrubStart := h.setFld.sameHbm

theorem Keeps.backSlots (h : Keeps s₀ s) {failed : List Nat} : Keeps s₀ (s.backSlots failed) := by
  unfold State.backSlots
  extract_lets base s1
  have h1 : Keeps s₀ s1 := h.setOrg.assignSlots.scrubStart
  clear_value s1 base
  split
  · exact h1
  · exact h1.moveVenue

theorem Keeps.hbmPowerUp (h : Keeps s₀ s) : Keeps s₀ (s.hbmPowerUp) := by
  unfold State.hbmPowerUp
  split
  · exact h.sameHbm.reloadTraining
  · extract_lets _ s1
    have h1 : Keeps s₀ s1 := h.sameHbm
    exact h1.backSlots.trainHbm.markTagged

theorem Keeps.startMigration (h : Keeps s₀ s) {p : Nat} : Keeps s₀ (s.startMigration p) := by
  unfold State.startMigration
  extract_lets slot ll _ s1 s2 k rows before s3 _ s4 s5 s6 s7
  split
  · have h1 : Keeps s₀ s1 := h.sameHbm
    have h2 : Keeps s₀ s2 := h1.setReg.setBit
    exact h2.raise
  · have h3 : Keeps s₀ s3 := h.setUsable
    have h4 : Keeps s₀ s4 := h3.sameHbm
    have h5 : Keeps s₀ s5 := h4.setReg.setBit
    have h6 : Keeps s₀ s6 := h5.setBit
    have h7 : Keeps s₀ s7 := h6.raise.raise
    exact h7.moveVenue

theorem Keeps.retirePc (h : Keeps s₀ s) {p : Nat} : Keeps s₀ (s.retirePc p) := by
  unfold State.retirePc
  split
  · exact h.setFld.setBit.raise
  · split
    · exact h
    · extract_lets
      split
      · exact h.setFld.sameHbm
      · exact h.setFld.startMigration

theorem Keeps.countUncorr (h : Keeps s₀ s) {p : Nat} : Keeps s₀ (s.countUncorr p) := .ite h.incFld.retirePc h.incFld

theorem Keeps.countMoveLoss (h : Keeps s₀ s) {p b : Nat} : Keeps s₀ (s.countMoveLoss p b) := by
  unfold State.countMoveLoss
  split
  · exact .ite h.sameHbm h
  · exact h

theorem Keeps.hbmUncorr (h : Keeps s₀ s) {p a kind : Nat} : Keeps s₀ (s.hbmUncorr p a kind) :=
  h.countMoveLoss.markLost.raise.countUncorr

theorem Keeps.rebaseScrub (h : Keeps s₀ s) : Keeps s₀ s.rebaseScrub := h.sameHbm

theorem Keeps.enterSR (h : Keeps s₀ s) : Keeps s₀ s.enterSR := h.setBit.setBit.sameHbm

theorem Keeps.switchPoint (h : Keeps s₀ s) : Keeps s₀ s.switchPoint := h.setBit.setBit

theorem Keeps.exitSR (h : Keeps s₀ s) : Keeps s₀ s.exitSR :=
  .ite h.setBit.setBit.sameHbm.sameHbm.switchPoint h.setBit.setBit.sameHbm

theorem Keeps.startRetime (h : Keeps s₀ s) : Keeps s₀ s.startRetime := .ite h.sameHbm h.sameHbm.enterSR

theorem Keeps.endRetime (h : Keeps s₀ s) : Keeps s₀ s.endRetime := h.sameHbm.switchPoint.exitSR.same

theorem execHbmAutoSelfRefresh_lands (h : Keeps s₀ (s.advance t)) : Lands s₀ (execHbmAutoSelfRefresh t s) :=
  .next (Keeps.ite h.enterSR h)

theorem execHbmRefreshTick_lands (h : Keeps s₀ (s.advance t)) {pc : Fin 16} : Lands s₀ (execHbmRefreshTick t pc s) :=
  .next (Keeps.ite h h.sameHbm)

theorem Keeps.reissue (h : Keeps s₀ s) {ch : Nat} : Keeps s₀ (s.reissue ch) := (h.each (fun _ _ hn => hn.incFld)).useFresh

theorem Keeps.endMigration (h : Keeps s₀ s) {m : Migration} : Keeps s₀ (s.endMigration m) := by
  unfold State.endMigration
  extract_lets ll s1 _ s2 s3 s4 _ s5 s6
  have h1 : Keeps s₀ s1 := h.setFld.setFld
  have h6 : Keeps s₀ s6 := (Keeps.ite h1 (Keeps.ite h1.sameHbm.setFld h1.sameHbm).setFld.setBit).sameHbm.setBit.setBit
  split
  · exact h6.raise
  · exact h6.raise.sameHbm.startMigration

theorem execMigrationPageDone_lands (h : Keeps s₀ (s.advance t)) : Lands s₀ (execMigrationPageDone t s) := by
  unfold execMigrationPageDone
  extract_lets
  apply Lands.next
  split
  · exact h
  · exact .ite h.sameHbm.setFld.endMigration h.sameHbm.setFld

/-- Some marks go. -/
theorem Keeps.filterLost (h : Keeps s₀ s) {p : Nat × Nat → Bool} :
    Keeps s₀ { s with hbm := { s.hbm with lost := s.hbm.lost.filter p } } := h.hbm id (fun hl => keysRising_filter _ _ hl) id

theorem Keeps.clearLostRange (h : Keeps s₀ s) {first n : Nat} : Keeps s₀ (s.clearLostRange first n) := h.filterLost.refreshLost

theorem execMemtestDone_lands (h : Keeps s₀ (s.advance t)) : Lands s₀ (execMemtestDone t s) :=
  .next (Keeps.ite h h.setBit.dropContent.markTagged)

theorem Keeps.scrubNext (h : Keeps s₀ s) : Keeps s₀ s.scrubNext := by
  unfold State.scrubNext
  extract_lets
  exact .ite h.sameHbm (Keeps.ite h.sameHbm (Keeps.ite h.sameHbm.setFld h.sameHbm.sameHbm.setFld.incFld))

theorem Keeps.scrubSchedule (h : Keeps s₀ s) : Keeps s₀ s.scrubSchedule := .ite h.setBit h

theorem Keeps.scrubFails (h : Keeps s₀ s) : Keeps s₀ s.scrubFails := by
  unfold State.scrubFails
  split
  · split
    · exact h
    · split
      · exact h.hbmUncorr
      · exact h.markLost
  · split
    · exact h.countUncorr
    · exact h

theorem execScrubRead_lands (h : Keeps s₀ (s.advance t)) {result : Nat} : Lands s₀ (execScrubRead t result s) :=
  .next (Keeps.ite h (Keeps.ite h.sameHbm h.sameHbm.scrubFails).scrubNext.scrubSchedule)

theorem execScrubDeferralTimeout_lands (h : Keeps s₀ (s.advance t)) : Lands s₀ (execScrubDeferralTimeout t s) :=
  .next (Keeps.ite h (Keeps.ite h.setBit h.setBit.sameHbm.raise))

end Sys2Proof.Machine
end

section
/-! SUPPORT.  What the meanings keep of clock, queue and form: register writes; packets, outputs and patterns; IREF codes. -/

namespace Sys2Proof.Machine

set_option Elab.async false

variable {s₀ s : State} {t : Nat}

/-! ## Register writes -/

theorem Keeps.store' (h : Keeps s₀ s) {req : Requester} {a : Nat} {w : Word} : Keeps s₀ (s.store' req a w) := by
  unfold State.store'
  split
  · exact h
  · split
    · exact h
    · exact h
    · exact h.setReg
    · split
      · exact h.setReg
      · exact h.same
      · exact h.same

theorem Keeps.land (h : Keeps s₀ s) {p : PendWrite} : Keeps s₀ (s.land p) := h.setReg

theorem Keeps.applyAtMode (h : Keeps s₀ s) : Keeps s₀ s.applyAtMode := h.same.each fun _ _ hn => hn.land

theorem Keeps.applyLane (h : Keeps s₀ s) {l : Nat} : Keeps s₀ (s.applyLane l) := h.same.each fun _ _ hn => hn.land

theorem Keeps.applyCal (h : Keeps s₀ s) {i : Nat} : Keeps s₀ (s.applyCal i) := .ite h.setFld.setFld h.setFld

theorem Keeps.guarded (h : Keeps s₀ s) {req : Requester} {a size : Nat} {w : Word} {f : State → Word → State}
    (hf : ∀ x0 x1, Keeps s₀ x0 → Keeps s₀ (f x0 x1)) : Keeps s₀ (s.guarded req a size w f) := by
  unfold State.guarded
  split
  · exact h.refuse
  · exact (hf _ _ h).mirror

theorem Keeps.control (h : Keeps s₀ s) {req : Requester} {a : Nat} {w : Word} {f : State → State}
    (hf : ∀ x0, Keeps s₀ x0 → Keeps s₀ (f x0)) : Keeps s₀ (s.control req a w f) :=
  h.guarded fun _ _ hn => hf _ hn

theorem execHbmCtlClearLost_lands (h : Keeps s₀ (s.advance t)) {req : Requester} : Lands s₀ (execHbmCtlClearLost t req s) :=
  .next (h.control (fun _ hn => hn.clearLostRange))

theorem execHbmCtlMemtest_lands (h : Keeps s₀ (s.advance t)) {req : Requester} : Lands s₀ (execHbmCtlMemtest t req s) :=
  .next (h.control (fun _ hn => .ite hn.setBit hn.raise))

theorem execHbmCtlClearCnt_lands (h : Keeps s₀ (s.advance t)) {req : Requester} : Lands s₀ (execHbmCtlClearCnt t req s) :=
  .next (h.control (fun _ hn => hn.each (fun _ _ hn1 => hn1.setFld)))

/-! ## Packets, outputs and patterns -/

theorem Keeps.refreshOwned (h : Keeps s₀ s) : Keeps s₀ s.refreshOwned := h.each fun _ _ hn => hn.setBit

theorem Keeps.refreshOwn (h : Keeps s₀ s) : Keeps s₀ s.refreshOwn := h.setNat.refreshOwned

theorem Keeps.chainRoles (h : Keeps s₀ s) : Keeps s₀ s.chainRoles := by
  unfold State.chainRoles
  extract_lets
  split
  · exact h.same.setReg.refreshOwn
  · exact h.same.same.setReg.refreshOwn

theorem Keeps.loadRoster (h : Keeps s₀ s) : Keeps s₀ s.loadRoster := by
  unfold State.loadRoster
  extract_lets s1 s2
  have h2 : Keeps s₀ s2 := (h.each (fun _ _ hn => hn.setFld)).refreshSpk
  split
  · split
    · exact h2.setFld.setFld
    · exact h2.setFld
  · exact h2

theorem Keeps.loadGrid (h : Keeps s₀ s) : Keeps s₀ s.loadGrid := by
  unfold State.loadGrid
  split <;> exact h.same

theorem Keeps.landGrid (h : Keeps s₀ s) : Keeps s₀ s.landGrid := by
  unfold State.landGrid
  split
  · exact h.setReg.same
  · exact h

theorem Keeps.selectWarp (h : Keeps s₀ s) {t src : Nat} {grid dir : List (Int × Int)} : Keeps s₀ (s.selectWarp t src grid dir) := by
  unfold State.selectWarp
  split
  · exact h
  · exact .ite (h.same.each (fun _ _ hn => hn.sendPartner)) h.same

theorem Keeps.enumWarp (h : Keeps s₀ s) {t : Nat} {own : Option (List (Int × Int) × List (Int × Int))} {reason : Nat} :
    Keeps s₀ (s.enumWarp t own reason) := by
  unfold State.enumWarp
  split
  · exact h.selectWarp
  · exact (Keeps.ite h.raise h).selectWarp
  · exact h.selectWarp
  · exact h.raise.selectWarp

theorem Keeps.enumWarpUnread (h : Keeps s₀ s) {t : Nat} : Keeps s₀ (s.enumWarpUnread t) := .ite h.enumWarp h

theorem Keeps.noteSupplier (h : Keeps s₀ s) {z : Nat} : Keeps s₀ (s.noteSupplier z) := h.same

theorem Keeps.regenZone (h : Keeps s₀ s) {ct z : Nat} : Keeps s₀ (s.regenZone ct z) :=
  (h.each (fun _ _ hn => hn.setReg)).noteSupplier

theorem Keeps.forwardZone (h : Keeps s₀ s) {ct z : Nat} : Keeps s₀ (s.forwardZone ct z) :=
  .ite (h.each (fun _ _ hn => hn.sendPartner)) h

theorem Keeps.zoneDefaulted (h : Keeps s₀ s) {ct z : Nat} : Keeps s₀ (s.zoneDefaulted ct z) := .ite h h.raise

theorem Keeps.expandCt (h : Keeps s₀ s) {ct : Nat} : Keeps s₀ (s.expandCt ct) := h.each fun _ _ hn => hn.regenZone.zoneDefaulted

theorem Keeps.forwardCt (h : Keeps s₀ s) {ct : Nat} : Keeps s₀ (s.forwardCt ct) := .ite h (h.each (fun _ _ hn => hn.forwardZone))

theorem keysRising_iff_pairwise {α : Type} (m : List (Nat × α)) : keysRising m = true ↔ m.Pairwise fun x y => x.1 < y.1 := by
  induction m with
  | nil => simp [keysRising]
  | cons x m ih => rw [keysRising_cons, List.pairwise_cons, ih]; rfl

/-- A range of rising words takes the place of the registers of its range. -/
theorem regsCanonical_putRange (s : State) {lo hi : Nat} {ws : List (Nat × Word)} (hws : ws.Pairwise fun x y => x.1 < y.1)
    (hin : ∀ x ∈ ws, lo ≤ x.1 ∧ x.1 < hi) (hlh : lo ≤ hi) (hs : regsCanonical s.regs = true) :
    regsCanonical (s.putRange lo hi ws).regs = true := by
  obtain ⟨hrise, hval⟩ := (regsCanonical_iff _).mp hs
  rw [keysRising_iff_pairwise] at hrise
  refine (regsCanonical_iff _).mpr ⟨(keysRising_iff_pairwise _).mpr ?_, fun x hx => ?_⟩
  · simp only [State.putRange, List.pairwise_append, hrise.filter, hws.filter, true_and, List.mem_append, List.mem_filter,
      decide_eq_true_eq]
    refine ⟨fun x hx y hy => ?_, fun x hx y hy => ?_⟩
    · have := hin y hy.1
      omega
    · rcases hx with hx | hx
      · omega
      · have := hin x hx.1
        omega
  · simp only [State.putRange, List.mem_append, List.mem_filter, bne_iff_ne] at hx
    rcases hx with (hx | hx) | hx
    · exact hval x hx.1
    · exact hx.2
    · exact hval x hx.1

/-- Words at successive registers rise. -/
theorem pairwise_words (b : Nat) (ws : List Word) :
    (ws.zipIdx.map fun x => (b + 4 * x.2, x.1)).Pairwise fun x y => x.1 < y.1 := by
  rw [List.pairwise_map, List.pairwise_iff_getElem]
  intro i j hi hj hij
  simp only [List.getElem_zipIdx]
  omega

theorem mem_words {b : Nat} {ws : List Word} {x : Nat × Word} (hx : x ∈ ws.zipIdx.map fun x => (b + 4 * x.2, x.1)) :
    b ≤ x.1 ∧ x.1 < b + 4 * ws.length := by
  obtain ⟨⟨w, i⟩, hi, rfl⟩ := List.mem_map.mp hx
  have := List.snd_lt_of_mem_zipIdx hi
  simp only at *
  omega

theorem Keeps.expandXfer (h : Keeps s₀ s) {p : Nat} : Keeps s₀ (s.expandXfer p) := by
  unfold State.expandXfer
  extract_lets ws
  have hlen : ws.length = 2048 := by simp [ws]
  clear_value ws
  refine h.regs (regsCanonical_putRange s (List.pairwise_flatMap.mpr ⟨fun q _ => pairwise_words _ ws, ?_⟩) ?_ (by decide))
  · refine List.pairwise_lt_range.imp fun {p q} hpq x hx y hy => ?_
    have hx := mem_words hx
    have hy := mem_words hy
    omega
  · intro x hx
    obtain ⟨q, hq, hx⟩ := List.mem_flatMap.mp hx
    have hx := mem_words hx
    have hq := List.mem_range.mp hq
    simp only [Reg.RAY_XFER]
    omega

theorem Keeps.zoneChanged (h : Keeps s₀ s) {z : Nat} : Keeps s₀ (s.zoneChanged z) := .ite h h.same.noteSupplier.forwardZone

theorem Keeps.rayUp (h : Keeps s₀ s) : Keeps s₀ s.rayUp := (h.each (fun _ _ hn => .ite hn hn.regenZone)).loadGrid

/-! ## IREF codes -/

theorem Keeps.setCodes (h : Keeps s₀ s) {codes : List Nat} : Keeps s₀ (s.setCodes codes) := h.each fun _ _ hn => hn.setFld

theorem Keeps.setSeq (h : Keeps s₀ s) {v : Nat} : Keeps s₀ (s.setSeq v) := h.setFld

theorem Keeps.latchEmit (h : Keeps s₀ s) {rate frameNo : Nat} {dark : Bool} : Keeps s₀ (s.latchEmit rate frameNo dark) :=
  (Keeps.ite (Keeps.ite h.raise h).raise (Keeps.ite h.raise h)).same

theorem Keeps.latchBands (h : Keeps s₀ s) : Keeps s₀ s.latchBands := h.same

theorem Keeps.keepBands (h : Keeps s₀ s) : Keeps s₀ s.keepBands := h.same

theorem Keeps.applyBand (h : Keeps s₀ s) {z k : Nat} {t : Int} {frameNo : Nat} : Keeps s₀ (s.applyBand z k t frameNo) :=
  .ite h h.raise.setFld.setBit

theorem Keeps.flipEmit (h : Keeps s₀ s) {frameNo : Nat} : Keeps s₀ (s.flipEmit frameNo) := by
  unfold State.flipEmit
  split
  · exact h.setFld
  · extract_lets s1
    have h1 : Keeps s₀ s1 := h.each fun _ _ hn => hn.applyBand
    exact .ite h1.setFld h1.setFld.setCodes

theorem Keeps.startRampUp (h : Keeps s₀ s) : Keeps s₀ s.startRampUp := h.same.setSeq

theorem Keeps.startRampDown (h : Keeps s₀ s) : Keeps s₀ s.startRampDown := h.same.setSeq

theorem Keeps.showZone (h : Keeps s₀ s) {z : Nat} : Keeps s₀ (s.showZone z) := by
  unfold State.showZone
  split
  · extract_lets
    split
    · exact h.setFld.setFld
    · exact h.setFld

theorem Keeps.refreshZone (h : Keeps s₀ s) {z : Nat} : Keeps s₀ (s.refreshZone z) := .ite h.showZone h

theorem Keeps.startThm (h : Keeps s₀ s) {inputs : List Nat} : Keeps s₀ (s.startThm inputs) :=
  h.same.each fun _ _ hn => hn.setReg.showZone

theorem Keeps.stopThm (h : Keeps s₀ s) {inputs : List Nat} : Keeps s₀ (s.stopThm inputs) :=
  h.same.each fun _ _ hn => hn.setReg.showZone

theorem Keeps.zoneSources (h : Keeps s₀ s) : Keeps s₀ s.zoneSources := h.each fun _ _ hn => .ite hn.setFld hn

end Sys2Proof.Machine
end

section
/-! SUPPORT.  What the meanings keep of clock, queue and form: one-time memory; power domains; cadences. -/

namespace Sys2Proof.Machine

set_option Elab.async false

variable {s₀ s : State} {t : Nat}

/-! ## One-time memory -/

theorem Keeps.journalOut (h : Keeps s₀ s) {f k v : Nat} {j : Journal} : Keeps s₀ (s.journalOut f k v j) :=
  (Keeps.ite h.emit h).emit.emit

theorem Keeps.journalStart (h : Keeps s₀ s) {k v : Nat} : Keeps s₀ (s.journalStart k v) := h.journalOut.journalOut.same

theorem Keeps.journalEnd (h : Keeps s₀ s) {k v : Nat} {okA okB : Bool} : Keeps s₀ (s.journalEnd k v okA okB) := h.same

theorem Keeps.pulseDone (h : Keeps s₀ s) : Keeps s₀ s.pulseDone := .ite h h.same

theorem Keeps.setLeaf (h : Keeps s₀ s) {l : Nat} : Keeps s₀ (s.setLeaf l) := h.setNat

theorem Keeps.refreshOtp (h : Keeps s₀ s) : Keeps s₀ s.refreshOtp := h.setNat.setNat.setNat.setNat

theorem Keeps.secUp (h : Keeps s₀ s) : Keeps s₀ s.secUp := h.refreshOtp.setLeaf.same.setNat

theorem Keeps.timeUp (h : Keeps s₀ s) : Keeps s₀ s.timeUp := h.same

/-! ## Power domains -/

theorem Keeps.calibrate (h : Keeps s₀ s) {items : List Nat} : Keeps s₀ (s.calibrate items) := .ite h h.same

theorem Keeps.startLane (h : Keeps s₀ s) {l : Nat} : Keeps s₀ (s.startLane l) := h.applyCal.setStage.calibrate

theorem Keeps.loadFactory (h : Keeps s₀ s) : Keeps s₀ s.loadFactory :=
  (h.each (fun _ _ hn => .ite hn.setNat hn)).each fun _ _ hn => .ite hn.setNat hn

theorem Keeps.healthUp (h : Keeps s₀ s) : Keeps s₀ s.healthUp := h.loadFactory.same

theorem Keeps.netUp (h : Keeps s₀ s) {x : Nat} : Keeps s₀ (s.netUp x) := h.setNat.setNat

theorem Keeps.dropLane (h : Keeps s₀ s) {l : Nat} : Keeps s₀ (s.dropLane l) :=
  .ite h.endRuns.setReg.same.setFld h.endRuns.setReg.same

theorem Keeps.beginHbmOff (h : Keeps s₀ s) : Keeps s₀ s.beginHbmOff := .ite h h.same.setBit

theorem Keeps.dmaKick (h : Keeps s₀ s) {c : Nat} : Keeps s₀ (s.dmaKick c) := .ite h.setBit h

theorem Keeps.endHbmOff (h : Keeps s₀ s) : Keeps s₀ s.endHbmOff := by
  unfold State.endHbmOff
  split
  · exact h
  · extract_lets _ s1 s2 s3
    have h2 : Keeps s₀ s2 := h.same.setBit.each fun _ _ hn => hn.dmaKick
    have h3 : Keeps s₀ s3 := .ite h2.restoreVenue h2
    exact .ite h3 h3.raise

theorem Keeps.hbmOff (h : Keeps s₀ s) {toS : Bool} : Keeps s₀ (s.hbmOff toS) := by
  unfold State.hbmOff
  extract_lets
  exact .ite (Keeps.ite h.beginHbmOff.exitSR h.beginHbmOff).sameHbm.enterSR
    (h.beginHbmOff.same.each (fun _ _ hn => hn.setFld.setFld)).sameHbm.dropContent.setBit.setBit.setBit.setBit

theorem Keeps.showPerst (h : Keeps s₀ s) : Keeps s₀ s.showPerst := h.same

theorem Keeps.loseHbm (h : Keeps s₀ s) : Keeps s₀ s.loseHbm := by
  unfold State.loseHbm
  extract_lets s1 s2 s3 _ s4 s5 s6
  have h1 : Keeps s₀ s1 := h.foldl fun _ _ hn => hn.resetRange
  clear_value s1
  have h2 : Keeps s₀ s2 := h1.each fun _ _ hn => hn.setFld
  clear_value s2
  have h3 : Keeps s₀ s3 := h2.setFld
  clear_value s3
  have h4 : Keeps s₀ s4 := h3.sameHbm
  clear_value s4
  have h5 : Keeps s₀ s5 := h4.foldl fun _ _ hn => hn.resetRange
  clear_value s5
  split
  · exact h4
  · exact h5.resetRange.setBit.setBit

theorem Keeps.loseBlock (h : Keeps s₀ s) {n : Nat} : Keeps s₀ (s.loseBlock n) := by
  unfold State.loseBlock
  split
  · exact h.resetBlock.same
  · exact h.resetBlock.same
  · exact h.resetBlock.same
  · exact h.resetBlock.setReg.same
  · exact h.loseHbm
  · exact h.resetBlock.same
  · exact h.resetBlock.same
  · exact h.resetBlock.same
  · exact h.resetBlock.same
  · exact h.resetBlock.same
  · exact h.resetBlock.same
  · exact h.resetBlock.same
  · exact h.resetBlock.same
  · exact h.resetBlock.same
  · exact h.resetBlock

theorem Keeps.dropUnit (h : Keeps s₀ s) {d : Nat} : Keeps s₀ (s.dropUnit d) := by
  unfold State.dropUnit
  extract_lets s1
  have h1 : Keeps s₀ s1 := h.each fun _ _ hn => hn.resetRange
  split
  · exact h1.same
  · split
    · exact h1.filterRegs
    · exact .ite h1.same h1

theorem Keeps.dropDomain (h : Keeps s₀ s) {d : Nat} : Keeps s₀ (s.dropDomain d) := by
  unfold State.dropDomain
  extract_lets s1 s2 s3 s4
  have h1 : Keeps s₀ s1 := h.setDomain.dropUnit
  have h2 : Keeps s₀ s2 := .ite h1 (h1.each (fun _ _ hn => hn.dropLane)).refreshLanes
  have h3 : Keeps s₀ s3 := .ite (h2.each (fun _ _ hn => hn.setTile.refreshZone)).refreshSpk h2
  have h4 : Keeps s₀ s4 := h3.refreshOwned
  exact ((Keeps.ite (Keeps.ite h4 h4.stopThm) h3).each (fun _ _ hn => .ite hn hn.loseBlock)).showPerst

theorem Keeps.refreshSeq (h : Keeps s₀ s) : Keeps s₀ s.refreshSeq := h.setBit

theorem Keeps.switchAmong (h : Keeps s₀ s) {ds : List Nat} {m : Nat} : Keeps s₀ (s.switchAmong ds m) :=
  (h.each (fun _ _ hn => hn.dropDomain)).same.refreshSeq

theorem Keeps.switchDomains (h : Keeps s₀ s) {m : Nat} : Keeps s₀ (s.switchDomains m) :=
  (Keeps.ite h.hbmOff (Keeps.ite h.hbmOff h)).switchAmong

theorem Keeps.askDomains (h : Keeps s₀ s) {ds : List Nat} : Keeps s₀ (s.askDomains ds) := h.same.refreshSeq

theorem Keeps.blockUp (h : Keeps s₀ s) {n : Nat} : Keeps s₀ (s.blockUp n) := by
  unfold State.blockUp
  split
  · exact h.secUp
  · exact h.rayUp
  · exact h.loadRoster
  · exact h.loadRoster
  · exact h.zoneSources.refreshOwn
  · exact h.timeUp
  · exact h.chainRoles.same
  · exact h.healthUp
  · exact h

theorem Keeps.hbmDomainsUp (h : Keeps s₀ s) : Keeps s₀ s.hbmDomainsUp :=
  .ite h (Keeps.ite h.hbmPowerUp.same h.hbmPowerUp.endHbmOff)

theorem Keeps.bringUp (h : Keeps s₀ s) {d : Nat} : Keeps s₀ (s.bringUp d) := by
  unfold State.bringUp
  extract_lets first adc s1 s2 s3 s4 s5 s6 s7 s8 _ s9 s10
  have h2 : Keeps s₀ s2 := h.setDomain.each fun _ _ hn => hn.blockUp
  have h3 : Keeps s₀ s3 := h2.refreshOwned
  have h5 : Keeps s₀ s5 := (Keeps.ite h3.calibrate h3).each fun _ _ hn => hn.applyCal
  have h7 : Keeps s₀ s7 := (Keeps.ite (Keeps.ite h5 h5.startThm) h2).each fun _ _ hn => hn.startLane
  have h9 : Keeps s₀ s9 := .ite h7.showPerst.same.loadRoster h7.showPerst
  have h10 : Keeps s₀ s10 := .ite h9.netUp h9
  exact .ite h10.hbmDomainsUp h10

theorem execDomainSwitchOnStart_lands (h : Keeps s₀ (s.advance t)) : Lands s₀ (execDomainSwitchOnStart t s) := by
  unfold execDomainSwitchOnStart
  extract_lets
  apply Lands.next
  split
  · exact h
  · exact .ite h h.same.refreshSeq

theorem Keeps.powerGood (h : Keeps s₀ s) {d : Nat} : Keeps s₀ (s.powerGood d) := by
  unfold State.powerGood
  split
  · exact h
  · exact .ite h h.same.bringUp.refreshSeq

theorem execDomainPowerGood_lands (h : Keeps s₀ (s.advance t)) {domain : Fin 80} : Lands s₀ (execDomainPowerGood t domain s) :=
  .next h.powerGood

theorem execHbmSrExitDone_lands (h : Keeps s₀ (s.advance t)) : Lands s₀ (execHbmSrExitDone t s) :=
  .next (Keeps.ite h.exitSR.endHbmOff h)

/-! ## Cadences -/

theorem Keeps.showFrame (h : Keeps s₀ s) {f : FrameInfo} : Keeps s₀ (s.showFrame f) := h.setNat.setFld.setNat.setNat.setFld

theorem Keeps.reportClamp (h : Keeps s₀ s) {f g : FrameInfo} {w : Nat} : Keeps s₀ (s.reportClamp f g w) := .ite h.raise h

theorem Keeps.scanAhead (h : Keeps s₀ s) : Keeps s₀ s.scanAhead := h.each fun _ _ hn => hn.setReg

theorem Keeps.aim (h : Keeps s₀ s) : Keeps s₀ s.aim := by
  unfold State.aim
  split
  · exact h.setFld
  · exact h

theorem Keeps.retarget (h : Keeps s₀ s) : Keeps s₀ s.retarget := .ite h.aim h

theorem Keeps.startCadence (h : Keeps s₀ s) {m : Nat} : Keeps s₀ (s.startCadence m) :=
  .ite h.same.setBit.keepBands h.same.setBit.keepBands.reportClamp.aim

theorem Keeps.noteSent (h : Keeps s₀ s) {n : Nat} : Keeps s₀ (s.noteSent n) := h.same

theorem Keeps.stopCadence (h : Keeps s₀ s) : Keeps s₀ s.stopCadence := .ite h.same.setBit.setFld h.same.setBit

end Sys2Proof.Machine
end

section
/-! SUPPORT.  What the meanings keep of clock, queue and form: lanes. -/

namespace Sys2Proof.Machine

set_option Elab.async false

variable {s₀ s : State} {t : Nat}

/-! ## Lanes -/

theorem Keeps.setLoop (h : Keeps s₀ s) {st port : Nat} : Keeps s₀ (s.setLoop st port) :=
  .ite h.same.setFld.setFld h.same.setFld.setFld.raise

theorem Keeps.loopCheck (h : Keeps s₀ s) : Keeps s₀ s.loopCheck := by
  unfold State.loopCheck
  split
  · exact h
  · extract_lets
    split
    · exact .ite h.setLoop h
    · exact .ite h.setLoop (Keeps.ite h.setLoop h)
    · exact h
    · exact .ite h.same h

theorem Keeps.loopTurn (h : Keeps s₀ s) : Keeps s₀ s.loopTurn :=
  .ite h.same.setLoop (Keeps.ite h.same (Keeps.ite h.same.setLoop h.same.setLoop))

theorem Keeps.loopConfig (h : Keeps s₀ s) : Keeps s₀ s.loopConfig := .ite h.setLoop (Keeps.ite h.loopTurn h.loopCheck)

theorem Keeps.refreshPort (h : Keeps s₀ s) {p : Nat} : Keeps s₀ (s.refreshPort p) := h.setFld

theorem Keeps.afterLane (h : Keeps s₀ s) {l : Nat} : Keeps s₀ (s.afterLane l) := .ite h.refreshPort.loopCheck h

theorem Keeps.sendTrainOn (h : Keeps s₀ s) {p k : Nat} {echo : Bool} {turn : Nat} : Keeps s₀ (s.sendTrainOn p k echo turn) :=
  h.putSlot.emit

theorem Keeps.train (h : Keeps s₀ s) {l : Nat} : Keeps s₀ (s.train l) := .ite h.sendTrainOn h

theorem Keeps.goStage (h : Keeps s₀ s) {l v : Nat} : Keeps s₀ (s.goStage l v) := h.setStage.afterLane

theorem Keeps.breakPort (h : Keeps s₀ s) {p : Nat} : Keeps s₀ (s.breakPort p) :=
  (h.each (fun _ _ hn => hn.setStage)).setChainPort.incFld.refreshPort

theorem Keeps.startTry (h : Keeps s₀ s) {l p : Nat} : Keeps s₀ (s.startTry l p) := by
  unfold State.startTry
  extract_lets _ s1
  have h1 : Keeps s₀ s1 := h.setLane.setFld
  split
  · exact .ite h1.setTile h1
  · exact h1

theorem Keeps.enterEqualise (h : Keeps s₀ s) {l : Nat} : Keeps s₀ (s.enterEqualise l) := by
  unfold State.enterEqualise
  extract_lets g p s1
  have h1 : Keeps s₀ s1 := h.goStage.train
  exact .ite h1 (Keeps.ite (Keeps.ite h1 h1.setLane.startTry) h1.setFld)

theorem Keeps.afterPolarity (h : Keeps s₀ s) {l : Nat} : Keeps s₀ (s.afterPolarity l) :=
  .ite h.setLane.goStage.train h.enterEqualise

theorem Keeps.enterPolarity (h : Keeps s₀ s) {l : Nat} : Keeps s₀ (s.enterPolarity l) := by
  unfold State.enterPolarity
  extract_lets s1
  have h1 : Keeps s₀ s1 := .ite h.startTx h
  exact .ite h1.setFld.setLane.goStage h1.setFld.afterPolarity

theorem Keeps.polarityFound (h : Keeps s₀ s) {l : Nat} : Keeps s₀ (s.polarityFound l) := (Keeps.ite h.raise h).enterEqualise

theorem Keeps.finishUp (h : Keeps s₀ s) {l : Nat} : Keeps s₀ (s.finishUp l) := by
  unfold State.finishUp
  extract_lets s1 _ s2 s3
  have h2 : Keeps s₀ s2 := h.setStage.setFld.setFld.setLane.afterLane
  have h3 : Keeps s₀ s3 := .ite h2.driveInit h2
  exact .ite h3.enterPolarity h3

theorem Keeps.enterLink (h : Keeps s₀ s) {l : Nat} : Keeps s₀ (s.enterLink l) := h.setFld.goStage

theorem Keeps.retrain (h : Keeps s₀ s) {l : Nat} : Keeps s₀ (s.retrain l) := by
  unfold State.retrain
  extract_lets s1 _ s2 s3
  have h1 : Keeps s₀ s1 := h.applyLane.applyCal
  have h3 : Keeps s₀ s3 := .ite h1.setLane.startTx h1.setLane
  exact .ite h3.enterPolarity h3.goStage

theorem Keeps.failAttempt (h : Keeps s₀ s) {l : Nat} : Keeps s₀ (s.failAttempt l) := by
  unfold State.failAttempt
  extract_lets st _ s1
  have h1 : Keeps s₀ s1 := .ite h.setChainPort h
  exact .ite (Keeps.ite h1.incFld.setLane.goStage h1.incFld.setLane.goStage.raise) h1.incFld.retrain

theorem Keeps.retrainPort (h : Keeps s₀ s) {p reason : Nat} : Keeps s₀ (s.retrainPort p reason) :=
  (h.breakPort.each (fun _ _ hn => hn.retrain)).raise

theorem Keeps.orderCheck (h : Keeps s₀ s) {p : Nat} : Keeps s₀ (s.orderCheck p) := by
  unfold State.orderCheck
  extract_lets
  exact .ite h (Keeps.ite (h.each (fun _ _ hn => hn.setFld.enterEqualise))
    (Keeps.ite (h.each (fun _ _ hn => hn.setFld.enterEqualise)).raise (h.each (fun _ _ hn => hn.failAttempt)).raise))

theorem Keeps.stageDone (h : Keeps s₀ s) {l : Nat} {inverted : Bool} {seen : Nat} : Keeps s₀ (s.stageDone l inverted seen) := by
  unfold State.stageDone
  extract_lets
  split
  · exact .ite (Keeps.ite h.setLane.enterPolarity h.setLane) (Keeps.ite h.setLane.startTx h.setLane).goStage
  · exact h.goStage
  · exact h.enterPolarity
  · exact .ite h.polarityFound (Keeps.ite h.setFld.raise.afterPolarity h.afterPolarity)
  · exact h.setLane.orderCheck
  · exact .ite h h.enterLink
  · exact .ite h h.finishUp
  · exact h

theorem execLaneStageDone_lands (h : Keeps s₀ (s.advance t)) {lane : Fin 304} {inverted : Bool} {seen : Nat} :
    Lands s₀ (execLaneStageDone t lane inverted seen s) :=
  .next h.stageDone

theorem execLaneStageTimeout_lands (h : Keeps s₀ (s.advance t)) {lane : Fin 304} : Lands s₀ (execLaneStageTimeout t lane s) :=
  .next (Keeps.ite h.failAttempt h)

theorem execLaneRetryTimer_lands (h : Keeps s₀ (s.advance t)) {lane : Fin 304} : Lands s₀ (execLaneRetryTimer t lane s) :=
  .next (Keeps.ite h.setLane.retrain h)

theorem execLaneLockLoss_lands (h : Keeps s₀ (s.advance t)) {lane : Fin 304} : Lands s₀ (execLaneLockLoss t lane s) :=
  .next (Keeps.ite h (Keeps.ite (Keeps.ite h.retrain.breakPort.raise h.retrain.breakPort) h.retrain))

theorem execPtxPolarityTimeout_lands (h : Keeps s₀ (s.advance t)) {lane : Fin 128} : Lands s₀ (execPtxPolarityTimeout t lane s) :=
  .next (Keeps.ite h (Keeps.ite h.failAttempt h.setLane.setBit))

theorem execPresetTryTimeout_lands (h : Keeps s₀ (s.advance t)) {lane : Fin 304} : Lands s₀ (execPresetTryTimeout t lane s) := by
  unfold execPresetTryTimeout
  extract_lets
  apply Lands.next
  split
  · exact h
  · split
    · exact h
    · split
      · exact h.setLane.startTry
      · split
        · exact h.setLane.failAttempt
        · exact .ite h.setLane.setFld.enterLink.finishUp h.setLane.setFld.enterLink

theorem Keeps.clearLane (h : Keeps s₀ s) {l : Nat} : Keeps s₀ (s.clearLane l) := h.setReg.setFld.setLane

theorem Keeps.retrainNow (h : Keeps s₀ s) {l : Nat} : Keeps s₀ (s.retrainNow l) := .ite h (Keeps.ite h.retrain.breakPort h.retrain)

theorem execLaneCtlRetrain_lands (h : Keeps s₀ (s.advance t)) {req : Requester} {lane : Nat} :
    Lands s₀ (execLaneCtlRetrain t req lane s) :=
  .next (h.control (fun _ hn => hn.retrainNow))

theorem execLaneCtlClear_lands (h : Keeps s₀ (s.advance t)) {req : Requester} {lane : Nat} :
    Lands s₀ (execLaneCtlClear t req lane s) :=
  .next (h.control (fun _ hn => hn.clearLane))

theorem execLaneCtlClearAll_lands (h : Keeps s₀ (s.advance t)) {req : Requester} : Lands s₀ (execLaneCtlClearAll t req s) :=
  .next (h.control (fun _ hn => hn.each (fun _ _ hn1 => hn1.clearLane)))

theorem execLaneFomUpdate_lands (h : Keeps s₀ (s.advance t)) {lane : Fin 304} {g w : Nat} :
    Lands s₀ (execLaneFomUpdate t lane g w s) := by
  unfold execLaneFomUpdate
  extract_lets s1 l g1 tile corr fom s2 s3 x low s4
  have h2 : Keeps s₀ s2 := by
    unfold s2
    clear_value tile
    split
    · exact h.setTile
    · exact h
  have h4 : Keeps s₀ s4 := (Keeps.ite h2 h2.setNat).setFld.setFld.setLane
  split
  · exact .next h
  · exact .next (Keeps.ite h4.train.setLane.raise h4.train)

theorem execBgcalGrant_lands (h : Keeps s₀ (s.advance t)) {lane : Fin 304} {slicer : Nat} :
    Lands s₀ (execBgcalGrant t lane slicer s) :=
  .next (Keeps.ite h h.setLane)

theorem execBgcalGrantLapse_lands (h : Keeps s₀ (s.advance t)) {lane : Fin 304} {slicer : Nat} :
    Lands s₀ (execBgcalGrantLapse t lane slicer s) := by
  unfold execBgcalGrantLapse
  extract_lets
  apply Lands.next
  split
  · exact h
  · exact .ite h h.setLane

theorem execLaneTestWrite_lands (h : Keeps s₀ (s.advance t)) {req : Requester} {lane : Fin 304} {data : Word} :
    Lands s₀ (execLaneTestWrite t req lane data s) :=
  .next (h.guarded (fun _ _ hn => by
      extract_lets l old s1
      have h1 : Keeps s₀ s1 := hn.setReg.setGenerator.setChecker
      exact .ite (Keeps.ite h1.stopTx.goStage h1) (Keeps.ite h1.retrain h1)))

theorem execLaneInjWrite_lands (h : Keeps s₀ (s.advance t)) {req : Requester} {lane : Fin 304} {data : Word} :
    Lands s₀ (execLaneInjWrite t req lane data s) :=
  .next (h.guarded (fun _ _ hn => hn.setReg.setInjection))

theorem execPrbsCheckerLock_lands (h : Keeps s₀ (s.advance t)) {lane : Fin 304} : Lands s₀ (execPrbsCheckerLock t lane s) :=
  .next (Keeps.ite h.setBit.setLane h)

theorem execPrbsCheckerLockLoss_lands (h : Keeps s₀ (s.advance t)) {lane : Fin 304} : Lands s₀ (execPrbsCheckerLockLoss t lane s) :=
  .next (Keeps.ite h.foldErrors.setBit.setLane h)

theorem execLoopTportLockLoss_lands (h : Keeps s₀ (s.advance t)) : Lands s₀ (execLoopTportLockLoss t s) :=
  .next (Keeps.ite h.same h)

theorem execLoopLocked_lands (h : Keeps s₀ (s.advance t)) : Lands s₀ (execLoopLocked t s) := .next (Keeps.ite h.setLoop h)

theorem execLaneLatencySlip_lands (h : Keeps s₀ (s.advance t)) {port lane : Fin 4} {words : Int} :
    Lands s₀ (execLaneLatencySlip t port lane words s) :=
  .next (Keeps.ite h h.raise.retrainPort)

theorem Keeps.syncLanes (h : Keeps s₀ s) {ls : List Nat} : Keeps s₀ (s.syncLanes ls) :=
  h.each (fun _ _ hn => .ite hn (Keeps.ite (Keeps.ite hn.startLane.afterLane hn) (Keeps.ite hn hn.dropLane.refreshLanes.afterLane)))

theorem Keeps.resetShaper (h : Keeps s₀ s) {x : Nat} : Keeps s₀ (s.resetShaper x) := h.same

theorem Keeps.applyMode (h : Keeps s₀ s) : Keeps s₀ s.applyMode := by
  unfold State.applyMode
  extract_lets
  exact .ite h.applyAtMode
    ((Keeps.ite h.applyAtMode.refreshOwn h.applyAtMode.chainRoles.loadRoster).each (fun _ _ hn => hn.resetShaper)).syncLanes

end Sys2Proof.Machine
end

section
/-! SUPPORT.  What the meanings keep of clock, queue and form: modes. -/

namespace Sys2Proof.Machine

set_option Elab.async false

variable {s₀ s : State} {t : Nat}

/-! ## Modes -/

theorem Keeps.setLast (h : Keeps s₀ s) {seq result source : Nat} : Keeps s₀ (s.setLast seq result source) := h.setFld.setFld.setFld

theorem Keeps.setTarget (h : Keeps s₀ s) {tgt : Nat} {busy : Bool} : Keeps s₀ (s.setTarget tgt busy) := h.setFld.setBit

theorem Keeps.restartBlank (h : Keeps s₀ s) : Keeps s₀ s.restartBlank := h.same

theorem Keeps.completeCue (h : Keeps s₀ s) {i : Nat} : Keeps s₀ (s.completeCue i) := h.same

theorem Keeps.cueCommandEnds (h : Keeps s₀ s) {cue : Option Nat} : Keeps s₀ (s.cueCommandEnds cue) := by
  unfold State.cueCommandEnds
  split
  · exact h.completeCue
  · exact h

theorem Keeps.refuseMode (h : Keeps s₀ s) {tgt reason pre seq source result : Nat} {cue : Option Nat} :
    Keeps s₀ (s.refuseMode tgt reason pre seq source result cue) :=
  h.raise.setLast.cueCommandEnds

theorem Keeps.setPart (h : Keeps s₀ s) {m : Nat} : Keeps s₀ (s.setPart m) := .ite h.setFld h

theorem Keeps.placeMode (h : Keeps s₀ s) {m : Nat} {ds : List Nat} : Keeps s₀ (s.placeMode m ds) :=
  h.applyMode.setFld.setPart.switchAmong

theorem Keeps.enterBindOff (h : Keeps s₀ s) : Keeps s₀ s.enterBindOff := .ite h.placeMode.restartBlank h.placeMode

theorem Keeps.setMode (h : Keeps s₀ s) {m : Nat} : Keeps s₀ (s.setMode m) := by
  unfold State.setMode
  extract_lets was _ s1 s2 s3
  have h1 : Keeps s₀ s1 := .ite h.same h
  have h3 : Keeps s₀ s3 := .ite h1.placeMode.touchHbm h1.placeMode
  exact .ite h3 h3.restartBlank

theorem Keeps.setVenue (h : Keeps s₀ s) {slot : Nat} {desc : List Word} {buf : List Byte} : Keeps s₀ (s.setVenue slot desc buf) :=
  (Keeps.ite h.same h.same.hbmWrite).showVenue

theorem Keeps.applyVenue (h : Keeps s₀ s) {v : VenueReady} {frameNo : Nat} : Keeps s₀ (s.applyVenue v frameNo) := by
  unfold State.applyVenue
  extract_lets s1 _ s2 s3
  have h2 : Keeps s₀ s2 := h.setVenue.same.raise
  have h3 : Keeps s₀ s3 := by
    unfold s3
    split
    · exact .ite h2.raise h2
    · exact h2
  split
  · exact h3.completeCue
  · exact h3

theorem Keeps.applyVenues (h : Keeps s₀ s) {due : List VenueReady} {frameNo : Nat} : Keeps s₀ (s.applyVenues due frameNo) := by
  unfold State.applyVenues
  extract_lets
  split
  · exact (h.same.each (fun _ _ hn => hn.raise)).each fun _ _ hn => hn.applyVenue
  · exact h.same.each fun _ _ hn => hn.applyVenue

theorem Keeps.finishMode (h : Keeps s₀ s) {tr : Transition} : Keeps s₀ (s.finishMode tr) := by
  unfold State.finishMode
  extract_lets _ s1 s2
  have h2 : Keeps s₀ s2 := h.same.setMode.setTarget
  exact (Keeps.ite h2.applyVenues h2).raise.setLast.cueCommandEnds

theorem Keeps.setStage' (h : Keeps s₀ s) {g : Stage} : Keeps s₀ (s.setStage' g) := h.same

theorem Keeps.idleLanes (h : Keeps s₀ s) {ls : List Nat} : Keeps s₀ (s.idleLanes ls) :=
  (h.each (fun _ _ hn => hn.dropLane)).refreshLanes

theorem Keeps.startBindRun (h : Keeps s₀ s) : Keeps s₀ s.startBindRun := h.stopCadence.setStage'.startRampDown

theorem Keeps.towards (h : Keeps s₀ s) {m : Nat} : Keeps s₀ (s.towards m) := h.switchDomains.setStage'

theorem Keeps.startPowerUp (h : Keeps s₀ s) : Keeps s₀ s.startPowerUp := h.same.switchDomains.setStage'

theorem Keeps.bindDone (h : Keeps s₀ s) : Keeps s₀ s.bindDone := by
  unfold State.bindDone
  split
  · exact h.setSeq.towards
  · exact h.setSeq

theorem Keeps.withdrawn (h : Keeps s₀ s) : Keeps s₀ s.withdrawn := .ite h h.stopCadence.idleLanes.bindDone

theorem Keeps.withdraw (h : Keeps s₀ s) : Keeps s₀ s.withdraw := h.same.setStage'.withdrawn

theorem Keeps.recordCause (h : Keeps s₀ s) {c : Nat} : Keeps s₀ (s.recordCause c) := (Keeps.ite h h.setBit).setBit

theorem Keeps.causeEnds (h : Keeps s₀ s) {c : Nat} : Keeps s₀ (s.causeEnds c) := h.setBit

theorem Keeps.lockExpert (h : Keeps s₀ s) : Keeps s₀ s.lockExpert := h.setBit

theorem Keeps.darkenFrame (h : Keeps s₀ s) : Keeps s₀ s.darkenFrame := by
  unfold State.darkenFrame
  extract_lets
  split
  · split
    · exact h.same.same
    · exact h.same
  · split
    · exact h.same.same
    · exact h.same

theorem Keeps.safeDown (h : Keeps s₀ s) {old : Option Stage} : Keeps s₀ (s.safeDown old) :=
  .ite h.withdraw (Keeps.ite h.setStage'
    (Keeps.ite h.setStage' (Keeps.ite h.same.setStage' (Keeps.ite h.darkenFrame.setStage' (Keeps.ite h.startBindRun h.bindDone)))))

theorem Keeps.startSafe (h : Keeps s₀ s) {cause : Nat} {cmd : Option (Nat × Nat × Option Nat)} :
    Keeps s₀ (s.startSafe cause cmd) := by
  unfold State.startSafe
  extract_lets m old entering leaving s1 s2 s3 s4 s5
  have h4 : Keeps s₀ s4 := (Keeps.ite h.raise h.raise.setFld).lockExpert
  have h5 : Keeps s₀ s5 := by
    unfold s5
    clear_value old
    split
    · exact h4.refuseMode
    · exact h4
  split
  · split
    · exact h.raise.raise.setLast.cueCommandEnds
    · exact h.raise
  · exact (Keeps.ite h5.wakeHbm h5).same.setTarget.safeDown

theorem Keeps.enterSafe (h : Keeps s₀ s) {cause : Nat} {cmd : Option (Nat × Nat × Option Nat)} : Keeps s₀ (s.enterSafe cause cmd) :=
  .ite h (Keeps.ite (Keeps.ite h.recordCause h.recordCause.same) h.recordCause.startSafe)

theorem Keeps.startMode (h : Keeps s₀ s) {tgt : Nat} {loc : Bool} {seq source : Nat} {frame cue : Option Nat} :
    Keeps s₀ (s.startMode tgt loc seq source frame cue) := by
  unfold State.startMode
  extract_lets m tr _ s1 s2
  have h1 : Keeps s₀ s1 := h.same.setTarget.retarget
  have h2 : Keeps s₀ s2 := .ite h1.wakeHbm h1
  exact .ite h.enterSafe
    (Keeps.ite (Keeps.ite h2.enterBindOff.withdraw (Keeps.ite h2.same.enterBindOff.setStage' h2.setStage'))
      (Keeps.ite h2.same.setStage' (Keeps.ite h2 (Keeps.ite h2.startPowerUp h2.same.towards))))

theorem Keeps.forwardMode (h : Keeps s₀ s) {tgt : Nat} {loc : Bool} {seq source frame : Nat} :
    Keeps s₀ (s.forwardMode tgt loc seq source frame) :=
  .ite h.sendAll h

theorem Keeps.modeCommand (h : Keeps s₀ s) {tgt : Nat} {loc : Bool} {seq source : Nat} {cue : Option Nat} :
    Keeps s₀ (s.modeCommand tgt loc seq source cue) := by
  unfold State.modeCommand
  split
  · exact h.refuseMode
  · split
    · exact h.refuseMode
    · split
      · exact h.refuseMode
      · exact h.forwardMode.startMode

theorem Keeps.modeWrite (h : Keeps s₀ s) {tgt : Nat} {loc : Bool} {seq : Nat} : Keeps s₀ (s.modeWrite tgt loc seq) := by
  unfold State.modeWrite
  extract_lets
  split
  · exact h.refuse
  · exact h.modeCommand

theorem execModeCmdReset_lands (h : Keeps s₀ (s.advance t)) {seq : Nat} : Lands s₀ (execModeCmdReset t seq s) := .next h.modeWrite

theorem execModeCmdCastOn_lands (h : Keeps s₀ (s.advance t)) {seq : Nat} : Lands s₀ (execModeCmdCastOn t seq s) :=
  .next h.modeWrite

theorem execModeCmdDeep_lands (h : Keeps s₀ (s.advance t)) {loc : Bool} {seq : Nat} : Lands s₀ (execModeCmdDeep t loc seq s) :=
  .next h.modeWrite

theorem execModeCmdStrip_lands (h : Keeps s₀ (s.advance t)) {loc : Bool} {seq : Nat} : Lands s₀ (execModeCmdStrip t loc seq s) :=
  .next h.modeWrite

theorem execModeCmdIdle_lands (h : Keeps s₀ (s.advance t)) {loc : Bool} {seq : Nat} : Lands s₀ (execModeCmdIdle t loc seq s) :=
  .next h.modeWrite

theorem execModeCmdPreview_lands (h : Keeps s₀ (s.advance t)) {loc : Bool} {seq : Nat} :
    Lands s₀ (execModeCmdPreview t loc seq s) :=
  .next h.modeWrite

theorem execModeCmdShow_lands (h : Keeps s₀ (s.advance t)) {loc : Bool} {seq : Nat} : Lands s₀ (execModeCmdShow t loc seq s) :=
  .next h.modeWrite

theorem execModeCmdLive_lands (h : Keeps s₀ (s.advance t)) {loc : Bool} {seq : Nat} : Lands s₀ (execModeCmdLive t loc seq s) :=
  .next h.modeWrite

theorem execModeCmdSwatch_lands (h : Keeps s₀ (s.advance t)) {loc : Bool} {seq : Nat} : Lands s₀ (execModeCmdSwatch t loc seq s) :=
  .next h.modeWrite

theorem execModeCmdService_lands (h : Keeps s₀ (s.advance t)) {loc : Bool} {seq : Nat} :
    Lands s₀ (execModeCmdService t loc seq s) :=
  .next h.modeWrite

theorem execModeCmdBindOff_lands (h : Keeps s₀ (s.advance t)) {loc : Bool} {seq : Nat} :
    Lands s₀ (execModeCmdBindOff t loc seq s) :=
  .next h.modeWrite

theorem execModeCmdSafe_lands (h : Keeps s₀ (s.advance t)) {loc : Bool} {seq : Nat} : Lands s₀ (execModeCmdSafe t loc seq s) :=
  .next h.modeWrite

theorem Keeps.modeStarted (h : Keeps s₀ s) {tr : Transition} : Keeps s₀ (s.modeStarted tr) :=
  .ite h.startCadence (Keeps.ite (h.startCadence.setBit.setFld.same.setSeq.each (fun _ _ hn => hn.startLane)) h)

theorem execModeTransitionDone_lands (h : Keeps s₀ (s.advance t)) : Lands s₀ (execModeTransitionDone t s) := by
  unfold execModeTransitionDone
  extract_lets
  apply Lands.next
  split
  · exact h
  · exact .ite h.finishMode.modeStarted h

theorem execDomainPowerGoodTimeout_lands (h : Keeps s₀ (s.advance t)) {domain : Fin 80} :
    Lands s₀ (execDomainPowerGoodTimeout t domain s) := by
  unfold execDomainPowerGoodTimeout
  extract_lets
  apply Lands.next
  split
  · exact h
  · exact .ite h h.same.refreshSeq.setFld.raise.enterSafe

end Sys2Proof.Machine
end

section
/-! SUPPORT.  What the meanings keep of clock, queue and form: block resets; zones; emission; spokes and tiles. -/

namespace Sys2Proof.Machine

set_option Elab.async false

variable {s₀ s : State} {t : Nat}

/-! ## Block resets -/

theorem Keeps.sendSlot (h : Keeps s₀ s) {lane : Nat} {b : List Byte} : Keeps s₀ (s.sendSlot lane b) := h.putSlot.emit

theorem Keeps.sendPanel (h : Keeps s₀ s) {lane : Nat} {b : List Byte} : Keeps s₀ (s.sendPanel lane b) := .ite h.sendSlot h

theorem Keeps.sendPanelAt (h : Keeps s₀ s) {lane c : Nat} {b : List Byte} : Keeps s₀ (s.sendPanelAt lane c b) :=
  .ite h.putSlotAt.emit h

theorem Keeps.sendStream (h : Keeps s₀ s) {lane : Nat} {b : List Byte} : Keeps s₀ (s.sendStream lane b) := .ite h.sendSlot h

theorem Keeps.sendTime (h : Keeps s₀ s) {lane : Nat} {b : List Byte} : Keeps s₀ (s.sendTime lane b) := .ite h.sendSlot h

theorem Keeps.sendDischarge (h : Keeps s₀ s) {lanes : List Nat} : Keeps s₀ (s.sendDischarge lanes) :=
  h.each fun _ _ hn => hn.sendPanel

/-! ## Zones -/

theorem Keeps.setZone (h : Keeps s₀ s) {z : Nat} {x : ZoneState} : Keeps s₀ (s.setZone z x) := h.same

theorem Keeps.setThm (h : Keeps s₀ s) {n : Nat} {x : ThmState} : Keeps s₀ (s.setThm n x) := h.same

theorem Keeps.moveBand (h : Keeps s₀ s) {z : Nat} {t : Int} : Keeps s₀ (s.moveBand z t) := h.setZone.setBit

theorem Keeps.judgeHot (h : Keeps s₀ s) {z : Nat} {t : Int} : Keeps s₀ (s.judgeHot z t) :=
  .ite (Keeps.ite h h.setZone.raise) (Keeps.ite h.setZone h)

theorem Keeps.judgeZone (h : Keeps s₀ s) {z : Nat} : Keeps s₀ (s.judgeZone z) := by
  unfold State.judgeZone
  extract_lets
  split
  · exact h.showZone.moveBand.judgeHot
  · exact h.showZone

theorem Keeps.showProbes (h : Keeps s₀ s) {k : Nat} : Keeps s₀ (s.showProbes k) := h.setNat.setTile

theorem Keeps.probeEnds (h : Keeps s₀ s) {k : Nat} : Keeps s₀ (s.probeEnds k) := .ite h.showProbes h

theorem Keeps.thmInvalid (h : Keeps s₀ s) {n cond : Nat} : Keeps s₀ (s.thmInvalid n cond) :=
  .ite h.setThm.showZone h.setThm.showZone.raise

theorem Keeps.thmConvert (h : Keeps s₀ s) {n ohms : Nat} : Keeps s₀ (s.thmConvert n ohms) := by
  unfold State.thmConvert
  extract_lets x r25 t samples
  clear_value samples
  split
  · exact .ite h.setThm.setNat.setTemp.setThm.judgeZone h.setThm.setNat.setTemp.thmInvalid
  · exact h.setThm

theorem execThmSample_lands (h : Keeps s₀ (s.advance t)) {input : Fin 16} {ohms : Nat} : Lands s₀ (execThmSample t input ohms s) :=
  .next (Keeps.ite h.thmConvert h)

theorem execThmStaleTimeout_lands (h : Keeps s₀ (s.advance t)) {input : Fin 16} : Lands s₀ (execThmStaleTimeout t input s) :=
  .next (Keeps.ite h.setBit.setBit.thmInvalid h)

theorem Keeps.thmEnableWritten (h : Keeps s₀ s) {was : Nat} : Keeps s₀ (s.thmEnableWritten was) :=
  .ite h.stopThm.startThm h.stopThm

theorem execIrefComplianceSample_lands (h : Keeps s₀ (s.advance t)) {output : Fin 48} {millivolts : Nat} :
    Lands s₀ (execIrefComplianceSample t output millivolts s) := by
  unfold execIrefComplianceSample
  extract_lets
  exact .next (Keeps.ite h (Keeps.ite h.same.setBit (Keeps.ite h.same (Keeps.ite h.same h.same.setBit.raise))))

/-! ## Emission -/

theorem Keeps.sequenceOver (h : Keeps s₀ s) : Keeps s₀ s.sequenceOver := by
  unfold State.sequenceOver
  extract_lets _ s1 s2
  have h2 : Keeps s₀ s2 := .ite h.same.setSeq.setBit h.same.setSeq
  split
  · exact .ite h2.setStage' h2
  · exact .ite h2.askDomains h2

theorem Keeps.startSequence (h : Keeps s₀ s) : Keeps s₀ s.startSequence :=
  .ite h.sequenceOver (Keeps.ite h.startRampUp h.same.sendDischarge.setSeq)

theorem execPowerupT0_lands (h : Keeps s₀ (s.advance t)) : Lands s₀ (execPowerupT0 t s) :=
  .next (Keeps.ite h.startSequence h)

theorem execPowerupDischargeEnd_lands (h : Keeps s₀ (s.advance t)) : Lands s₀ (execPowerupDischargeEnd t s) :=
  .next (Keeps.ite h.startRampUp h)

theorem execIrefRampUpStep_lands (h : Keeps s₀ (s.advance t)) : Lands s₀ (execIrefRampUpStep t s) := by
  unfold execIrefRampUpStep
  extract_lets
  apply Lands.next
  split
  · exact h
  · exact .ite h (Keeps.ite h.setCodes.sequenceOver h.setCodes.same)

theorem execIrefRampDownStep_lands (h : Keeps s₀ (s.advance t)) : Lands s₀ (execIrefRampDownStep t s) := by
  unfold execIrefRampDownStep
  extract_lets
  apply Lands.next
  split
  · exact h
  · exact .ite h h.setCodes.same

theorem execBindoffDischarge_lands (h : Keeps s₀ (s.advance t)) : Lands s₀ (execBindoffDischarge t s) := by
  unfold execBindoffDischarge
  extract_lets
  apply Lands.next
  split
  · exact h
  · exact .ite h h.setCodes.sendDischarge.same.setSeq

theorem execBindoffIdle_lands (h : Keeps s₀ (s.advance t)) : Lands s₀ (execBindoffIdle t s) :=
  .next (Keeps.ite h.idleLanes.bindDone h)

theorem execProbeTimeout_lands (h : Keeps s₀ (s.advance t)) {tile : Fin 128} : Lands s₀ (execProbeTimeout t tile s) := by
  unfold execProbeTimeout
  extract_lets
  apply Lands.next
  split
  · exact h
  · exact .ite h h.setTile.raise.probeEnds

theorem execEmitStripGo_lands (h : Keeps s₀ (s.advance t)) {req : Requester} : Lands s₀ (execEmitStripGo t req s) :=
  .next (h.control (fun _ hn => hn.setBit))

theorem execEmitStripBufWrite_lands (h : Keeps s₀ (s.advance t)) {req : Requester} {index : Nat} {data : Word} :
    Lands s₀ (execEmitStripBufWrite t req index data s) :=
  .next (h.guarded (fun _ _ hn => hn.setReg))

theorem execStripRefreshPeriodStart_lands (h : Keeps s₀ (s.advance t)) : Lands s₀ (execStripRefreshPeriodStart t s) := by
  unfold execStripRefreshPeriodStart
  extract_lets s1 s2
  have h2 : Keeps s₀ s2 := h.each fun _ _ hn => hn.applyBand
  exact .next (Keeps.ite h (Keeps.ite h2.setCodes h2))

/-! ## Spokes and tiles -/

theorem Keeps.sendCfg (h : Keeps s₀ s) {q : CfgReq} : Keeps s₀ (s.sendCfg q) := h.same.sendPanel

theorem Keeps.pumpLane (h : Keeps s₀ s) {l : Nat} : Keeps s₀ (s.pumpLane l) := by
  unfold State.pumpLane
  split
  · exact h
  · split
    · exact h
    · exact h.same.sendCfg

theorem Keeps.pumpConfigs (h : Keeps s₀ s) : Keeps s₀ s.pumpConfigs := h.each fun _ _ hn => hn.pumpLane

theorem Keeps.queueCfg (h : Keeps s₀ s) {q : CfgReq} : Keeps s₀ (s.queueCfg q) := h.same

theorem Keeps.startEcho (h : Keeps s₀ s) {k : Nat} : Keeps s₀ (s.startEcho k) := h.setTile.sendTime

theorem Keeps.setDelay (h : Keeps s₀ s) {k : Nat} {d : Int} : Keeps s₀ (s.setDelay k d) := .ite h h.setFld

theorem Keeps.enumPush (h : Keeps s₀ s) {k : Nat} : Keeps s₀ (s.enumPush k) := by
  unfold State.enumPush
  extract_lets
  split
  · exact h
  · exact h.setTile.queueCfg.pumpLane

theorem Keeps.enumStart (h : Keeps s₀ s) {k : Nat} : Keeps s₀ (s.enumStart k) := h.same.setTile.setBit.refreshSpk.refreshZone

theorem Keeps.enumFail (h : Keeps s₀ s) {k reason value : Nat} : Keeps s₀ (s.enumFail k reason value) := h.setTile.setBit.raise

theorem Keeps.enumFinish (h : Keeps s₀ s) {k : Nat} : Keeps s₀ (s.enumFinish k) :=
  h.setTile.setBit.setBit.refreshSpk.zoneChanged.raise

theorem Keeps.enumDelay (h : Keeps s₀ s) {k : Nat} : Keeps s₀ (s.enumDelay k) := h.setTile.startEcho

theorem Keeps.enumWarpStep (h : Keeps s₀ s) {k : Nat} : Keeps s₀ (s.enumWarpStep k) :=
  .ite h.setTile.enumPush h.enumWarpUnread.enumFinish

theorem Keeps.enumWarpCheck (h : Keeps s₀ s) {k : Nat} : Keeps s₀ (s.enumWarpCheck k) :=
  (Keeps.ite h.enumWarp h.enumWarp).enumFinish

theorem Keeps.enumAccess (h : Keeps s₀ s) {k : Nat} {q : CfgReq} {result : Nat} {data : Word} :
    Keeps s₀ (s.enumAccess k q result data) := by
  unfold State.enumAccess
  extract_lets x s1
  have h1 : Keeps s₀ s1 := .ite h.setTile h
  split
  · split
    · exact h.enumFail
    · split
      · split
        · exact h1.enumFail
        · exact h1.setTile.enumPush
      · exact .ite h1.enumDelay h1.enumPush
  · exact .ite h.setTile.enumWarp.enumFinish
      (Keeps.ite (Keeps.ite h.setTile.setTile.enumPush h.setTile.enumWarp.enumFinish)
        (Keeps.ite h.setTile.enumWarpCheck h.setTile.enumPush))
  · exact h

theorem Keeps.endCfg (h : Keeps s₀ s) {l : Nat} {q : CfgReq} {result : Nat} {data : Word} :
    Keeps s₀ (s.endCfg l q result data) := by
  unfold State.endCfg
  extract_lets _ s1 s2 s3 s4
  have h2 : Keeps s₀ s2 := .ite h.same h.same.raise
  have h3 : Keeps s₀ s3 := h2.setNat.setBit
  have h4 : Keeps s₀ s4 := by
    unfold s4
    split
    · exact .ite h3.setReg h3
    · exact h2.enumAccess
  exact h4.pumpLane

theorem Keeps.enumHeard (h : Keeps s₀ s) {k : Nat} : Keeps s₀ (s.enumHeard k) := .ite h.setTile.enumPush h.enumDelay

theorem Keeps.rangeFault (h : Keeps s₀ s) {k off value : Nat} : Keeps s₀ (s.rangeFault k off value) := .ite h h.setTile.raise

theorem Keeps.takeTemps (h : Keeps s₀ s) {k : Nat} {f : List Byte} : Keeps s₀ (s.takeTemps k f) := by
  unfold State.takeTemps
  extract_lets bad t0 t1 z s1
  have h1 : Keeps s₀ s1 := .ite h.rangeFault h
  exact .ite h1.rangeFault.refreshZone (Keeps.ite h1.setTile.judgeZone h1.setTile)

theorem Keeps.takeFec (h : Keeps s₀ s) {k : Nat} {f : List Byte} : Keeps s₀ (s.takeFec k f) := by
  unfold State.takeFec
  extract_lets
  split
  · exact h.setTile
  · extract_lets dc du db recent s1 s2
    have h2 : Keeps s₀ s2 := .ite h.setTile.incFld.incFld h.setTile
    exact .ite h2 h2.setTile.raise

theorem Keeps.takeComplete (h : Keeps s₀ s) {k : Nat} {f : List Byte} : Keeps s₀ (s.takeComplete k f) := by
  unfold State.takeComplete
  extract_lets n carry recv x s1
  have h1 : Keeps s₀ s1 := .ite h h.rangeFault
  exact .ite h1.rangeFault
    (Keeps.ite h1.rangeFault (Keeps.ite h1 (Keeps.ite h1.setTile.setNat h1.setTile.setNat.same.incFld.raise)))

theorem Keeps.flipFault (h : Keeps s₀ s) {k n flag : Nat} : Keeps s₀ (s.flipFault k n flag) := .ite h.setTile h.setTile.raise

theorem Keeps.takeFlips (h : Keeps s₀ s) {k : Nat} {f : List Byte} : Keeps s₀ (s.takeFlips k f) :=
  h.setTile.each fun _ _ hn => hn.flipFault

theorem Keeps.takeRuns (h : Keeps s₀ s) {k : Nat} {f : List Byte} : Keeps s₀ (s.takeRuns k f) := h.setTile

theorem Keeps.takeProbe (h : Keeps s₀ s) {k : Nat} {f : List Byte} : Keeps s₀ (s.takeProbe k f) := by
  unfold State.takeProbe
  extract_lets
  split
  · exact h
  · split
    · exact .ite h (Keeps.ite h.setTile h.setTile.setTile.raise)
    · split
      · exact .ite h (Keeps.ite h.setTile.probeEnds (Keeps.ite h.setTile h.setTile.raise).probeEnds)
      · exact h

theorem Keeps.takeEcho (h : Keeps s₀ s) {k : Nat} {f : List Byte} : Keeps s₀ (s.takeEcho k f) := by
  unfold State.takeEcho
  extract_lets
  split
  · exact h
  · exact .ite h (Keeps.ite (Keeps.ite h.setTile.setTile.startEcho h.setTile.setTile.setDelay.enumWarpStep) h.setTile.setDelay)

theorem Keeps.takeLanes (h : Keeps s₀ s) {l k : Nat} {f : List Byte} : Keeps s₀ (s.takeLanes l k f) := by
  unfold State.takeLanes
  extract_lets lock s1
  have h1 : Keeps s₀ s1 := .ite h.finishUp h
  exact .ite h1.setTile.polarityFound (Keeps.ite h1.setTile.finishUp h1.setTile)

theorem Keeps.showBc (h : Keeps s₀ s) {k : Nat} {f : List Byte} : Keeps s₀ (s.showBc k f) :=
  h.setTile.setFld.each fun _ _ hn => hn.setNat

theorem Keeps.notePartnerLock (h : Keeps s₀ s) : Keeps s₀ s.notePartnerLock := .ite h.same h.same

theorem Keeps.takeConfig (h : Keeps s₀ s) {l : Nat} {f : List Byte} : Keeps s₀ (s.takeConfig l f) := by
  unfold State.takeConfig
  split
  · exact h.endCfg
  · exact h

theorem Keeps.takeStatus (h : Keeps s₀ s) {k : Nat} {f : List Byte} : Keeps s₀ (s.takeStatus k f) :=
  h.takeTemps.takeComplete.takeFlips.takeRuns.takeProbe

theorem Keeps.takeFrame (h : Keeps s₀ s) {l k : Nat} {f : List Byte} : Keeps s₀ (s.takeFrame l k f) := by
  unfold State.takeFrame
  extract_lets s1 s2 s3
  have h3 : Keeps s₀ s3 := h.takeFec.showBc.takeLanes.takeEcho.takeConfig
  exact .ite h3.enumHeard (Keeps.ite h3.takeStatus.notePartnerLock h3)

theorem execBackchannelFrame_lands (h : Keeps s₀ (s.advance t)) {lane : Fin 128} {frame : List Byte} :
    Lands s₀ (execBackchannelFrame t lane frame s) := by
  unfold execBackchannelFrame
  extract_lets
  apply Lands.next
  split
  · exact h
  · split
    · exact h.incFld
    · split
      · exact h
      · exact .ite h h.takeFrame

theorem execTimeBlockDue_lands (h : Keeps s₀ (s.advance t)) {lane : Fin 128} : Lands s₀ (execTimeBlockDue t lane s) := by
  unfold execTimeBlockDue
  extract_lets
  apply Lands.next
  split
  · exact .ite h h.setLane.sendTime
  · exact h

theorem execTileDelayEcho_lands (h : Keeps s₀ (s.advance t)) {tile : Fin 128} : Lands s₀ (execTileDelayEcho t tile s) :=
  .next (Keeps.ite h.startEcho h)

theorem execTileBcTimeout_lands (h : Keeps s₀ (s.advance t)) {tile : Fin 128} : Lands s₀ (execTileBcTimeout t tile s) :=
  .next (Keeps.ite h (Keeps.ite h.setFld.refreshSpk.setTile.refreshZone.raise h.setFld.refreshSpk))

theorem execTileNoLockTimeout_lands (h : Keeps s₀ (s.advance t)) {tile : Fin 128} : Lands s₀ (execTileNoLockTimeout t tile s) :=
  .next (Keeps.ite h h.setTile.raise.retrain)

theorem execTileBlankedTimeout_lands (h : Keeps s₀ (s.advance t)) {tile : Fin 128} : Lands s₀ (execTileBlankedTimeout t tile s) :=
  .next (Keeps.ite h h.setTile.raise)

theorem execConfigTimeout_lands (h : Keeps s₀ (s.advance t)) {tile : Fin 128} : Lands s₀ (execConfigTimeout t tile s) := by
  unfold execConfigTimeout
  extract_lets
  apply Lands.next
  split
  · exact h
  · exact .ite h (Keeps.ite h.endCfg h.same.pumpLane)

theorem execTileEnumeration_lands (h : Keeps s₀ (s.advance t)) {tile : Fin 128} : Lands s₀ (execTileEnumeration t tile s) :=
  .next (Keeps.ite h.enumStart h)

theorem execEnumBcWaitTimeout_lands (h : Keeps s₀ (s.advance t)) {tile : Fin 128} : Lands s₀ (execEnumBcWaitTimeout t tile s) :=
  .next (Keeps.ite h.enumFail h)

theorem execSpkCtlReenum_lands (h : Keeps s₀ (s.advance t)) {req : Requester} {tile : Nat} :
    Lands s₀ (execSpkCtlReenum t req tile s) :=
  .next (h.control (fun _ hn => hn.enumStart))

theorem execSpkCtlEcho_lands (h : Keeps s₀ (s.advance t)) {req : Requester} {tile : Nat} : Lands s₀ (execSpkCtlEcho t req tile s) :=
  .next (h.control (fun _ hn => hn.startEcho))

theorem execSpkCtlClear_lands (h : Keeps s₀ (s.advance t)) {req : Requester} : Lands s₀ (execSpkCtlClear t req s) :=
  .next (h.control (fun _ hn => hn.each (fun _ _ hn1 => hn1.setReg.setReg)))

theorem Keeps.cfgwGo (h : Keeps s₀ s) {w : Word} : Keeps s₀ (s.cfgwGo w) := by
  unfold State.cfgwGo
  extract_lets a q s1
  have h1 : Keeps s₀ s1 := h.setReg.setNat
  exact .ite h (Keeps.ite h1.setNat.setBit.raise (Keeps.ite h1.queueCfg h1.queueCfg.pumpLane))

theorem execSpkCfgwGo_lands (h : Keeps s₀ (s.advance t)) {req : Requester} : Lands s₀ (execSpkCfgwGo t req s) :=
  .next (h.guarded (fun _ _ hn => hn.cfgwGo))

end Sys2Proof.Machine
end

section
/-! SUPPORT.  What the meanings keep of clock, queue and form: hank coding; security. -/

namespace Sys2Proof.Machine

set_option Elab.async false

variable {s₀ s : State} {t : Nat}

/-! ## Hank coding -/

theorem Keeps.setEngine (h : Keeps s₀ s) {e : Nat} {x : HankEngine} : Keeps s₀ (s.setEngine e x) := h.same

theorem Keeps.refreshHank (h : Keeps s₀ s) : Keeps s₀ s.refreshHank := h.setNat.each fun _ _ hn => hn.setNat

theorem Keeps.startEngine (h : Keeps s₀ s) {e : Nat} : Keeps s₀ (s.startEngine e) := by
  unfold State.startEngine
  extract_lets
  split
  · exact .ite h.setEngine h
  · exact h

theorem Keeps.queueJob (h : Keeps s₀ s) {e : Nat} {j : HankJob} : Keeps s₀ (s.queueJob e j) := h.setEngine.startEngine.refreshHank

theorem Keeps.internalJob (h : Keeps s₀ s) {j : HankJob} : Keeps s₀ (s.internalJob j) := by
  unfold State.internalJob
  split
  · exact h.queueJob
  · exact h.same

theorem Keeps.admitWaiting (h : Keeps s₀ s) {js : List HankJob} : Keeps s₀ (s.admitWaiting js) := by
  induction js generalizing s with
  | nil => exact h.same
  | cons j js ih =>
    unfold State.admitWaiting
    split
    · exact ih h.queueJob
    · exact h.same

theorem Keeps.yieldEngine (h : Keeps s₀ s) {e : Nat} : Keeps s₀ (s.yieldEngine e) := by
  unfold State.yieldEngine
  extract_lets
  split
  · exact .ite h.setEngine h
  · exact h

theorem Keeps.queueFlat (h : Keeps s₀ s) {x : FlatFetch} : Keeps s₀ (s.queueFlat x) := by
  unfold State.queueFlat
  split
  · exact h.same.yieldEngine.refreshHank
  · exact h.same

theorem Keeps.endFlat (h : Keeps s₀ s) {x : FlatFetch} : Keeps s₀ (s.endFlat x) := by
  unfold State.endFlat
  extract_lets _ s1 _ s2
  have h2 : Keeps s₀ s2 := by
    unfold s2
    split
    · exact h.same
    · exact h.same.same.queueFlat
  exact (h2.each (fun _ _ hn => hn.startEngine)).refreshHank

theorem Keeps.dropFlats (h : Keeps s₀ s) : Keeps s₀ s.dropFlats := (h.same.each (fun _ _ hn => hn.startEngine)).refreshHank

theorem Keeps.countBytes (h : Keeps s₀ s) {e n : Nat} : Keeps s₀ (s.countBytes e n) := h.setNat.setNat

theorem Keeps.countError (h : Keeps s₀ s) {e code : Nat} : Keeps s₀ (s.countError e code) := h.setFld.incFld

theorem Keeps.jobResult (h : Keeps s₀ s) {status code seq bytes : Nat} : Keeps s₀ (s.jobResult status code seq bytes) :=
  h.setNat.setNat

theorem Keeps.undefine (h : Keeps s₀ s) {a n : Nat} : Keeps s₀ (s.undefine a n) := h.hbm (fun hm => keysRising_filter _ _ hm) id id

theorem Keeps.failRange (h : Keeps s₀ s) {a n tag : Nat} : Keeps s₀ (s.failRange a n tag) := h.undefine.tag.markLost

theorem Keeps.reportDecode (h : Keeps s₀ s) {e : Nat} {j : HankJob} {x : Nat × Nat × Nat × Nat} : Keeps s₀ (s.reportDecode e j x) :=
  h.countError.failRange.raise

theorem Keeps.finishJob (h : Keeps s₀ s) {e : Nat} {j : HankJob} {r : JobEnd} : Keeps s₀ (s.finishJob e j r) := by
  unfold State.finishJob
  extract_lets _ s1 s2 s3
  have h2 : Keeps s₀ s2 := h.setEngine.hbmWrite.countBytes
  have h3 : Keeps s₀ s3 := by
    unfold s3
    split
    · exact h2.reportDecode
    · exact h2
  exact h3.startEngine.refreshHank.admitWaiting

theorem Keeps.hostJobEnds (h : Keeps s₀ s) {e : Nat} {j : HankJob} {r : JobEnd} : Keeps s₀ (s.hostJobEnds e j r) :=
  h.jobResult.raise

theorem execHankJobSubmit_lands (h : Keeps s₀ (s.advance t)) {req : Requester} : Lands s₀ (execHankJobSubmit t req s) :=
  .next (h.control (fun _ hn => by
      extract_lets
      split
      · exact hn.wakeHbm.touchHbm.queueJob
      · exact hn.jobResult.raise))

/-! ## Security -/

theorem Keeps.secResult (h : Keeps s₀ s) {op result reason : Nat} : Keeps s₀ (s.secResult op result reason) := h.setNat

theorem Keeps.secRefuse (h : Keeps s₀ s) {op reason : Nat} : Keeps s₀ (s.secRefuse op reason) := (Keeps.ite h h.secResult).raise

theorem Keeps.secDone (h : Keeps s₀ s) {op result reason : Nat} : Keeps s₀ (s.secDone op result reason) := h.same.secResult.raise

theorem Keeps.secEndRefused (h : Keeps s₀ s) {op reason : Nat} : Keeps s₀ (s.secEndRefused op reason) := h.same.secResult.raise

theorem Keeps.secStart (h : Keeps s₀ s) {r : SecRun} : Keeps s₀ (s.secStart r) := by
  unfold State.secStart
  extract_lets
  split
  · exact (Keeps.ite h.same.same.refreshOtp h.same).same.journalStart
  · exact h.same.same.emit
  · exact h.same.same.emit.emit
  · exact h.same
  · exact h.same.journalStart
  · exact h.same.same

theorem Keeps.secBegin (h : Keeps s₀ s) {op : Nat} : Keeps s₀ (s.secBegin op) :=
  .ite h.same.secResult.setBit h.same.secResult.setBit.secStart

theorem Keeps.secResume (h : Keeps s₀ s) : Keeps s₀ s.secResume := by
  unfold State.secResume
  split
  · exact .ite h h.secStart
  · exact h

theorem Keeps.secCommand (h : Keeps s₀ s) {req : Requester} {op : Nat} : Keeps s₀ (s.secCommand req op) :=
  h.control fun _ hn => .ite hn.secBegin hn.secRefuse

theorem execSecCmdAttest_lands (h : Keeps s₀ (s.advance t)) {req : Requester} : Lands s₀ (execSecCmdAttest t req s) :=
  .next h.secCommand

theorem execSecCmdFlashErase_lands (h : Keeps s₀ (s.advance t)) {req : Requester} : Lands s₀ (execSecCmdFlashErase t req s) :=
  .next h.secCommand

theorem execSecCmdFlashProgram_lands (h : Keeps s₀ (s.advance t)) {req : Requester} : Lands s₀ (execSecCmdFlashProgram t req s) :=
  .next h.secCommand

theorem execSecCmdVerifyImage_lands (h : Keeps s₀ (s.advance t)) {req : Requester} : Lands s₀ (execSecCmdVerifyImage t req s) :=
  .next h.secCommand

theorem execSecCmdEnrollKey_lands (h : Keeps s₀ (s.advance t)) {req : Requester} : Lands s₀ (execSecCmdEnrollKey t req s) :=
  .next h.secCommand

theorem execSecCmdRevokeKey_lands (h : Keeps s₀ (s.advance t)) {req : Requester} : Lands s₀ (execSecCmdRevokeKey t req s) :=
  .next h.secCommand

theorem execSecCmdConfirmFw_lands (h : Keeps s₀ (s.advance t)) {req : Requester} : Lands s₀ (execSecCmdConfirmFw t req s) :=
  .next h.secCommand

theorem execSecCmdAdvanceFwSvn_lands (h : Keeps s₀ (s.advance t)) {req : Requester} : Lands s₀ (execSecCmdAdvanceFwSvn t req s) :=
  .next h.secCommand

theorem execSecCmdAdvancePatSvn_lands (h : Keeps s₀ (s.advance t)) {req : Requester} : Lands s₀ (execSecCmdAdvancePatSvn t req s) :=
  .next h.secCommand

theorem Keeps.applyRecord (h : Keeps s₀ s) {o : List Byte} {op : Nat} : Keeps s₀ (s.applyRecord o op) := h.same.refreshOtp.raise

theorem length_chunksAux_le {α : Type} (n f : Nat) (l : List α) : n * (chunksAux n f l).length ≤ l.length + n := by
  induction f generalizing l with
  | zero => simp [chunksAux]
  | succ f ih =>
    cases l with
    | nil => simp [chunksAux]
    | cons x xs =>
      have h := ih ((x :: xs).drop n)
      rw [chunksAux, List.length_cons, Nat.mul_succ]
      rw [List.length_drop, List.length_cons] at h
      rw [List.length_cons]
      rcases Nat.le_total n (xs.length + 1) with hn | hn
      · omega
      · rw [List.drop_of_length_le (by simpa using hn)] at h ⊢
        cases f <;> simp [chunksAux]

theorem length_wordsOf_le (bs : List Byte) : 4 * (wordsOf bs).length ≤ bs.length + 4 := by
  rw [wordsOf, List.length_map]
  exact length_chunksAux_le 4 _ bs

theorem Keeps.signReport (h : Keeps s₀ s) {l : Nat} : Keeps s₀ (s.signReport l) := by
  unfold State.signReport
  extract_lets body report ws
  have hlen : 4 * (wordsOf (report.take 5428)).length ≤ 5428 + 4 :=
    (length_wordsOf_le _).trans (Nat.add_le_add_right (List.length_take_le ..) 4)
  refine h.regs (regsCanonical_putRange s (pairwise_words _ _) (fun x hx => ?_) (by decide))
  have hx := mem_words hx
  simp only [Reg.SEC_ATTEST_BUF]
  omega

theorem execLeafJournalWriteDone_lands (h : Keeps s₀ (s.advance t)) {okA okB : Bool} :
    Lands s₀ (execLeafJournalWriteDone t okA okB s) := by
  unfold execLeafJournalWriteDone
  extract_lets
  apply Lands.next
  split
  · extract_lets s1 _ s2
    have h1 : Keeps s₀ s1 := h.journalEnd
    have h2 : Keeps s₀ s2 := h1.same.pulseDone
    exact .ite h1.same.secEndRefused.pulseDone (Keeps.ite h2.setLeaf.raise h2.setLeaf)
  · exact h

theorem Keeps.secEnds (h : Keeps s₀ s) {r : SecRun} {ok : Bool} {image : PatternImage} : Keeps s₀ (s.secEnds r ok image) := by
  unfold State.secEnds
  split
  · split
    · exact h.same.signReport.secDone
    · exact h
  · exact h.same.secDone
  · exact h.secDone
  · exact h.secDone
  · exact .ite h.applyRecord.secDone h.secEndRefused
  · exact .ite h.applyRecord.secDone h.secEndRefused
  · exact .ite h.journalEnd.secDone h.journalEnd.setBit.secDone
  · exact h.same.refreshOtp.secDone
  · exact h.same.refreshOtp.secDone
  · exact h

theorem Keeps.secComplete (h : Keeps s₀ s) {ok : Bool} {image : PatternImage} : Keeps s₀ (s.secComplete ok image) := by
  unfold State.secComplete
  split
  · exact h
  · exact .ite h.secEnds.pulseDone h

theorem execSecCmdComplete_lands (h : Keeps s₀ (s.advance t)) {ok : Bool} {image : PatternImage} :
    Lands s₀ (execSecCmdComplete t ok image s) :=
  .next h.secComplete

theorem Keeps.venueResult (h : Keeps s₀ s) {result reason : Nat} : Keeps s₀ (s.venueResult result reason) := h.setNat

theorem Keeps.venueReject (h : Keeps s₀ s) {source reason vseq result : Nat} : Keeps s₀ (s.venueReject source reason vseq result) :=
  (Keeps.ite h h.venueResult).raise

theorem Keeps.venueArrives (h : Keeps s₀ s) {source : Nat} {o : List Byte} {frame : Option Nat} :
    Keeps s₀ (s.venueArrives source o frame) :=
  .ite h.venueReject (Keeps.ite h.venueReject h.same.setNat)

theorem execVenueSubmit_lands (h : Keeps s₀ (s.advance t)) {req : Requester} : Lands s₀ (execVenueSubmit t req s) :=
  .next (h.control (fun _ hn => hn.venueArrives))

theorem Keeps.forwardVenue (h : Keeps s₀ s) {o : List Byte} {frame : Nat} : Keeps s₀ (s.forwardVenue o frame) := .ite h.sendAll h

theorem Keeps.journalVenue (h : Keeps s₀ s) {v : Nat} : Keeps s₀ (s.journalVenue v) := .ite h.same.journalStart h.same

theorem Keeps.venueVerified (h : Keeps s₀ s) {j : VenueJob} : Keeps s₀ (s.venueVerified j) := by
  unfold State.venueVerified
  extract_lets o v _ s1 r r1 b c own named w _ s2 s3 s4 s5
  have h4 : Keeps s₀ s4 := h.same.same.journalVenue.setNat.venueResult
  have h5 : Keeps s₀ s5 := .ite h4.forwardVenue h4
  exact .ite h.same.venueReject (Keeps.ite h.same.venueResult (Keeps.ite h.same.venueReject (Keeps.ite h5.applyVenue h5.same)))

theorem execVenueVerifyDone_lands (h : Keeps s₀ (s.advance t)) : Lands s₀ (execVenueVerifyDone t s) := by
  unfold execVenueVerifyDone
  extract_lets
  apply Lands.next
  split
  · exact h
  · exact .ite h h.venueVerified.secResume

theorem Keeps.venueBoundary (h : Keeps s₀ s) {count frameNo : Nat} : Keeps s₀ (s.venueBoundary count frameNo) := h.applyVenues

theorem execVenueJournalWriteDone_lands (h : Keeps s₀ (s.advance t)) {okA okB : Bool} :
    Lands s₀ (execVenueJournalWriteDone t okA okB s) := by
  unfold execVenueJournalWriteDone
  extract_lets
  apply Lands.next
  split
  · exact h
  · extract_lets s1 s2
    have h1 : Keeps s₀ s1 := h.same.journalEnd.pulseDone
    have h2 : Keeps s₀ s2 := by
      unfold s2
      split
      · exact h1
      · exact h1.journalStart
    exact .ite h2 h2.raise

theorem Keeps.fireCue (h : Keeps s₀ s) {i source : Nat} : Keeps s₀ (s.fireCue i source) := h.same.setFld

theorem execCueTimeDue_lands (h : Keeps s₀ (s.advance t)) {cue : Nat} : Lands s₀ (execCueTimeDue t cue s) := by
  unfold execCueTimeDue
  extract_lets
  apply Lands.next
  split
  · exact h
  · exact .ite h.same.fireCue h

theorem execCueDelayDue_lands (h : Keeps s₀ (s.advance t)) {cue : Nat} : Lands s₀ (execCueDelayDue t cue s) := by
  unfold execCueDelayDue
  extract_lets
  apply Lands.next
  split
  · exact h
  · split
    · exact .ite h.same.fireCue h
    · exact h

theorem execSecCueGo_lands (h : Keeps s₀ (s.advance t)) {req : Requester} {cue : Nat} : Lands s₀ (execSecCueGo t req cue s) :=
  .next (h.control (fun _ hn => by
      split
      · exact hn.fireCue
      · exact hn.raise))

theorem Keeps.networkCue (h : Keeps s₀ s) {num : Nat} : Keeps s₀ (s.networkCue num) := by
  unfold State.networkCue
  split
  · exact h.fireCue
  · exact h.raise

end Sys2Proof.Machine
end

section
/-! SUPPORT.  What the meanings keep of clock, queue and form: plies; the needle; commits; the store and its drives. -/

namespace Sys2Proof.Machine

set_option Elab.async false

variable {s₀ s : State} {t : Nat}

/-! ## Plies -/

theorem Keeps.refreshPending (h : Keeps s₀ s) : Keeps s₀ s.refreshPending := (h.each (fun _ _ hn => hn.setBit)).setFld

theorem Keeps.setCode (h : Keeps s₀ s) {n c : Nat} : Keeps s₀ (s.setCode n c) := h.setFld

theorem Keeps.unflatten (h : Keeps s₀ s) {gs : List Nat} : Keeps s₀ (s.unflatten gs) := h.same

theorem Keeps.dropFlips (h : Keeps s₀ s) {ns : List Nat} : Keeps s₀ (s.dropFlips ns) := h.same

theorem Keeps.flipDescs (h : Keeps s₀ s) {frameNo : Nat} : Keeps s₀ (s.flipDescs frameNo) := by
  unfold State.flipDescs
  extract_lets
  exact ((((((h.each (fun _ _ hn => hn.raise.incFld)).each (fun _ _ hn => hn.raise.setCode.setFld)).each
    (fun _ _ hn => hn.raise.setCode.setFld)).dropFlips.each (fun _ _ hn => hn.land)).each
      (fun _ _ hn => hn.setCode.setFld)).each (fun _ _ hn => hn.setBit.raise.setCode)).same.unflatten

theorem Keeps.latchGroup (h : Keeps s₀ s) {order : List (Nat × Desc)} {e : CheckEnv} {frameNo g : Nat} :
    Keeps s₀ (s.latchGroup order e frameNo g) := by
  unfold State.latchGroup
  extract_lets m s1
  have h1 : Keeps s₀ s1 := .ite h.unflatten h
  exact .ite h1.setNat.same.raise (Keeps.ite h1.setNat.same.raise (Keeps.ite h1.setNat.same.raise h1.setNat.same))

theorem Keeps.setPair (h : Keeps s₀ s) {lo hi : Nat} {ns : List Nat} : Keeps s₀ (s.setPair lo hi ns) := h.setNat.setNat

theorem Keeps.project (h : Keeps s₀ s) {order : List PlyRef} {m : Nat} {f : Form} {window frameNo : Nat} :
    Keeps s₀ (s.project order m f window frameNo).1 := by
  unfold State.project
  split
  · extract_lets limit raw r total excess sat s1 s2 s3
    have h3 : Keeps s₀ s3 := h.setNat.setNat.setNat.setPair.each fun _ _ hn => hn.raise
    exact .ite h3.setBit.raise h3.setBit
  · exact h.setNat.setNat.setNat.setPair.setBit

theorem Keeps.showPlies (h : Keeps s₀ s) {order : List PlyRef} {frameNo : Nat} : Keeps s₀ (s.showPlies order frameNo) :=
  (h.each (fun _ _ hn => hn.setBit.setBit)).setFld.setFld.setBit

theorem Keeps.descWrite (h : Keeps s₀ s) {req : Requester} {n i : Nat} {w : Word} : Keeps s₀ (s.descWrite req n i w) :=
  h.guarded fun _ _ hn => hn.store'.refreshPending

theorem execPlyDescWrite_lands (h : Keeps s₀ (s.advance t)) {req : Requester} {ply : Fin 64} {word : Fin 16} {data : Word} :
    Lands s₀ (execPlyDescWrite t req ply word data s) :=
  .next h.descWrite

theorem Keeps.setFence (h : Keeps s₀ s) {n rank : Nat} {w : Word} : Keeps s₀ (s.setFence n rank w) := .ite h h.same.setReg

theorem execPlyFenceWrite_lands (h : Keeps s₀ (s.advance t)) {fence : Fin 64} {data : Word} :
    Lands s₀ (execPlyFenceWrite t fence data s) :=
  .next (h.guarded (fun _ _ hn => hn.setFence))

/-! ## The needle -/

theorem Keeps.refreshNeedle (h : Keeps s₀ s) : Keeps s₀ s.refreshNeedle := h.setNat

theorem Keeps.frogHead (h : Keeps s₀ s) : Keeps s₀ s.frogHead := by
  unfold State.frogHead
  split
  · exact .ite h h.same
  · exact h

theorem Keeps.issueHead (h : Keeps s₀ s) : Keeps s₀ s.issueHead := by
  unfold State.issueHead
  split
  · exact .ite h h.same
  · exact h

theorem Keeps.needleResult (h : Keeps s₀ s) {status reason seq : Nat} : Keeps s₀ (s.needleResult status reason seq) := h.setNat

theorem execNeedleSubmit_lands (h : Keeps s₀ (s.advance t)) {req : Requester} : Lands s₀ (execNeedleSubmit t req s) :=
  .next (h.control (fun _ hn => .ite hn.wakeHbm.touchHbm.same.frogHead.refreshNeedle hn.needleResult.raise))

theorem execNeedleCmdIssue_lands (h : Keeps s₀ (s.advance t)) : Lands s₀ (execNeedleCmdIssue t s) :=
  .next h.same.frogHead.issueHead.frogHead.refreshNeedle

theorem Keeps.needleWrite (h : Keeps s₀ s) {c : NeedleCmd} {rows : List Nat} : Keeps s₀ (s.needleWrite c rows).1 :=
  h.each fun _ _ hn => hn.hbmWrite

theorem Keeps.endRun (h : Keeps s₀ s) {slot : Nat} : Keeps s₀ (s.endRun slot) :=
  (Keeps.ite h.same.frogHead.issueHead h.same).frogHead.refreshNeedle

theorem Keeps.frogEnd (h : Keeps s₀ s) {run : Nat} {c : NeedleCmd} {by_ stripes : Nat} : Keeps s₀ (s.frogEnd run c by_ stripes) :=
  h.needleWrite.endRun.needleResult.incFld.raise

theorem execNeedleFrogStop_lands (h : Keeps s₀ (s.advance t)) {run stripes : Nat} :
    Lands s₀ (execNeedleFrogStop t run stripes s) := by
  unfold execNeedleFrogStop
  extract_lets
  apply Lands.next
  split
  · exact h.frogEnd
  · exact h

theorem Keeps.needleFail (h : Keeps s₀ s) {run : Nat} {c : NeedleCmd} {addr stripes : Nat} :
    Keeps s₀ (s.needleFail run c addr stripes) :=
  h.needleWrite.markLost.endRun.needleResult.raise

theorem Keeps.needleDone (h : Keeps s₀ s) {run : Nat} {c : NeedleCmd} : Keeps s₀ (s.needleDone run c) :=
  .ite h.needleWrite.endRun.needleResult.incFld.raise h.needleWrite.endRun.needleResult.incFld

theorem execNeedleCmdComplete_lands (h : Keeps s₀ (s.advance t)) {run : Nat} {fail : Option Nat} {stripes : Nat} :
    Lands s₀ (execNeedleCmdComplete t run fail stripes s) := by
  unfold execNeedleCmdComplete
  extract_lets
  apply Lands.next
  split
  · exact h
  · split
    · exact h.needleFail
    · split
      · exact h.needleFail
      · split
        · exact h.frogEnd
        · exact h.needleDone

theorem execReflattenDone_lands (h : Keeps s₀ (s.advance t)) {group : Fin 16} : Lands s₀ (execReflattenDone t group s) := by
  unfold execReflattenDone
  extract_lets
  exact .next (Keeps.ite h
    (Keeps.ite h.same.failRange.refreshNeedle
      (Keeps.ite (h.same.hbmWrite.each (fun _ _ hn => hn.clearLost)).countBytes.same.refreshNeedle h.same.same.refreshNeedle)))

/-! ## Commits -/

theorem Keeps.pendGo (h : Keeps s₀ s) {deferred : Bool} {early : Nat} : Keeps s₀ (s.pendGo deferred early) :=
  .ite h.same.setBit.setBit.aim.incFld.raise h.same.setBit.setBit.aim

theorem Keeps.commitGo (h : Keeps s₀ s) : Keeps s₀ s.commitGo := by
  unfold State.commitGo
  split
  · exact h
  · split
    · exact h.same.setBit.setBit.setFld
    · split
      · exact h
      · exact .ite h.pendGo.sendAll h.pendGo

theorem execScanCommitGo_lands (h : Keeps s₀ (s.advance t)) {req : Requester} : Lands s₀ (execScanCommitGo t req s) := by
  unfold execScanCommitGo
  extract_lets
  apply Lands.next
  split
  · exact h.refuse
  · exact h.commitGo

/-! ## The store and its drives -/

theorem Keeps.setStore (h : Keeps s₀ s) {v : Nat} : Keeps s₀ (s.setStore v) := h.setFld

theorem Keeps.storeRefuse (h : Keeps s₀ s) {op reason : Nat} {cue : Option Nat} : Keeps s₀ (s.storeRefuse op reason cue) := by
  unfold State.storeRefuse
  extract_lets
  split
  · exact h.raise.completeCue
  · exact h.raise

theorem Keeps.openRead (h : Keeps s₀ s) : Keeps s₀ s.openRead := by
  unfold State.openRead
  split
  · exact h
  · split
    · exact h
    · exact h.readChunks

theorem Keeps.openSkein (h : Keeps s₀ s) {idx : Nat} {play cue : Option Nat} : Keeps s₀ (s.openSkein idx play cue) :=
  .ite h.storeRefuse (Keeps.ite h.storeRefuse h.same.setStore.wakeHbm.openRead)

theorem execStoreCtlOpen_lands (h : Keeps s₀ (s.advance t)) {req : Requester} : Lands s₀ (execStoreCtlOpen t req s) :=
  .next (h.control (fun _ hn => hn.openSkein))

theorem Keeps.pumpRing (h : Keeps s₀ s) {fuel : Nat} : Keeps s₀ (s.pumpRing fuel) := by
  induction fuel generalizing s with
  | zero => exact h
  | succ k ih =>
    unfold State.pumpRing
    split
    · split
      · exact h
      · split
        · exact h
        · extract_lets n ring
          split
          · exact h
          · exact .ite h (ih h.same.readChunks)
    · exact h

theorem Keeps.pump (h : Keeps s₀ s) : Keeps s₀ s.pump := h.pumpRing

theorem Keeps.refreshLead (h : Keeps s₀ s) : Keeps s₀ s.refreshLead := by
  unfold State.refreshLead
  split
  · exact .ite h.setFld.same.raise h.setFld.same
  · exact h

theorem Keeps.recordArrives (h : Keeps s₀ s) {x : RingFetch} : Keeps s₀ (s.recordArrives x) := by
  unfold State.recordArrives
  extract_lets
  split
  · exact h
  · exact .ite h.same.refreshLead.sendAll h.same.refreshLead

theorem Keeps.playFrom (h : Keeps s₀ s) {f0 : Nat} {cue : Option Nat} : Keeps s₀ (s.playFrom f0 cue) := by
  unfold State.playFrom
  split
  · exact h.storeRefuse
  · exact .ite h.storeRefuse h.same.setBit.setBit.pump

theorem execStoreCtlPlay_lands (h : Keeps s₀ (s.advance t)) {req : Requester} : Lands s₀ (execStoreCtlPlay t req s) :=
  .next (h.control (fun _ hn => hn.playFrom))

theorem Keeps.closeSkein (h : Keeps s₀ s) : Keeps s₀ s.closeSkein :=
  h.same.setStore.setBit.setBit.each fun _ _ hn => hn.clearLost

theorem execStoreCtlClose_lands (h : Keeps s₀ (s.advance t)) {req : Requester} : Lands s₀ (execStoreCtlClose t req s) :=
  .next (h.control (fun _ hn => .ite hn.storeRefuse hn.closeSkein))

theorem execStoreOpenDone_lands (h : Keeps s₀ (s.advance t)) : Lands s₀ (execStoreOpenDone t s) := by
  unfold execStoreOpenDone
  extract_lets
  apply Lands.next
  split
  · exact h
  · split
    · exact h
    · extract_lets reason k bufs s1 s2 s3
      have h3 : Keeps s₀ s3 := h.same.same.hbmWrite.setStore.setFld
      split
      · exact h.same.setStore.storeRefuse
      · split
        · exact h3.raise.playFrom
        · exact h3.raise

theorem execStoreReady_lands (h : Keeps s₀ (s.advance t)) : Lands s₀ (execStoreReady t s) := by
  unfold execStoreReady
  extract_lets
  apply Lands.next
  split
  · split
    · split
      · exact h.setBit.same.completeCue
      · exact h.setBit
    · exact h
  · exact h

theorem Keeps.setSkBuffer (h : Keeps s₀ s) {q : SkBuffers} : Keeps s₀ (s.setSkBuffer q) := h.same

theorem Keeps.prepDesc (h : Keeps s₀ s) {gen pos n : Nat} : Keeps s₀ (s.prepDesc gen pos n).1 := by
  unfold State.prepDesc
  split
  · exact h
  · extract_lets
    split
    · exact h
    · split
      · exact h
      · exact h.setSkBuffer.internalJob

theorem Keeps.frameLate (h : Keeps s₀ s) {skFrame frameNo reason : Nat} : Keeps s₀ (s.frameLate skFrame frameNo reason) :=
  h.incFld.raise

theorem Keeps.startPrep (h : Keeps s₀ s) {q : Sequence} {pos frameNo : Nat} : Keeps s₀ (s.startPrep q pos frameNo) := by
  unfold State.startPrep
  split
  · exact h.same
  · extract_lets missing x _ _ _ s1 s2
    have hx : Keeps s₀ x.1 := by
      unfold x
      split
      · exact h
      · refine Keeps.foldlFst (x := (s, [])) h fun _ _ hn => ?_
        exact hn.prepDesc
    clear_value x
    have h1 : Keeps s₀ s1 := hx.same
    have h2 : Keeps s₀ s2 := h1.setStore
    exact .ite h2.frameLate h2

theorem Keeps.storeDesc (h : Keeps s₀ s) {n : Nat} {ws : List Word} : Keeps s₀ (s.storeDesc n ws) :=
  h.each fun _ _ hn => hn.descWrite

theorem execStorePrepDone_lands (h : Keeps s₀ (s.advance t)) : Lands s₀ (execStorePrepDone t s) := by
  unfold execStorePrepDone
  extract_lets
  apply Lands.next
  split
  · exact h
  · split
    · exact h
    · split
      · exact h
      · extract_lets s1
        have h1 : Keeps s₀ s1 := h.each fun _ _ hn => hn.storeDesc
        exact .ite h1.same h1.same.commitGo

theorem execStorePrepDeadline_lands (h : Keeps s₀ (s.advance t)) : Lands s₀ (execStorePrepDeadline t s) := by
  unfold execStorePrepDeadline
  extract_lets
  apply Lands.next
  split
  · exact .ite h h.same.frameLate
  · exact h

theorem Keeps.latchPrep (h : Keeps s₀ s) : Keeps s₀ s.latchPrep := by
  unfold State.latchPrep
  split
  · exact h
  · exact (Keeps.ite (h.each (fun _ _ hn => hn.setSkBuffer)) h).same

theorem Keeps.countFrame (h : Keeps s₀ s) {inShow : Bool} : Keeps s₀ (s.countFrame inShow) := by
  unfold State.countFrame
  split
  · exact h
  · split
    · exact h
    · extract_lets q' pos _ s1
      have h1 : Keeps s₀ s1 := .ite h.same h.same
      split
      · exact h1
      · split
        · exact h1.same.same
        · exact .ite h1.same h1.same.setBit.raise

theorem Keeps.storeLatch (h : Keeps s₀ s) {inShow : Bool} {frameNo : Nat} : Keeps s₀ (s.storeLatch inShow frameNo) := by
  unfold State.storeLatch
  extract_lets _ s1 s2 s3 soon _ s4
  have h2 : Keeps s₀ s2 := h.same.latchPrep.countFrame
  have h3 : Keeps s₀ s3 := h2.pump.refreshLead
  have h4 : Keeps s₀ s4 := .ite h3.same h3
  split
  · exact h2
  · split
    · split
      · exact h4.startPrep
      · exact h4
    · exact .ite h3.setStore h3

theorem Keeps.storeFlip (h : Keeps s₀ s) : Keeps s₀ s.storeFlip := by
  unfold State.storeFlip
  split
  · exact h.setNat
  · exact h

theorem Keeps.rereadDone (h : Keeps s₀ s) {r : Reread} : Keeps s₀ (s.rereadDone r) := by
  unfold State.rereadDone
  extract_lets bytes s1 s2
  have h1 : Keeps s₀ s1 := by
    unfold s1
    split
    · exact h.regenPart
    · exact h
  have h2 : Keeps s₀ s2 := by
    unfold s2
    split
    · exact h.regenPart
    · exact h
  exact .ite (h1.each (fun _ _ hn => hn.setSkBuffer.same)) (h2.each (fun _ _ hn => by
      split
      · exact hn.internalJob
      · exact hn))

theorem Keeps.rereadPart (h : Keeps s₀ s) {id off : Nat} {data : Option (List Byte)} : Keeps s₀ (s.rereadPart id off data) := by
  unfold State.rereadPart
  split
  · exact h
  · exact .ite h.same.rereadDone h.same

theorem Keeps.recordPart (h : Keeps s₀ s) {id : Nat} {ok : Bool} : Keeps s₀ (s.recordPart id ok) := by
  unfold State.recordPart
  split
  · exact h
  · exact .ite h.same.recordArrives.pump h.same

theorem Keeps.disableDrive (h : Keeps s₀ s) {d reason : Nat} : Keeps s₀ (s.disableDrive d reason) := h.setFld.raise.same

theorem Keeps.nvmeLost (h : Keeps s₀ s) {c : NvmeCmd} {status : Nat} : Keeps s₀ (s.nvmeLost c status) := by
  unfold State.nvmeLost
  split
  · exact h.disableDrive
  · exact h.same
  · exact h.recordPart
  · exact h.rereadPart
  · exact h.same

theorem Keeps.nvmeFails (h : Keeps s₀ s) {c : NvmeCmd} {status : Nat} : Keeps s₀ (s.nvmeFails c status) :=
  .ite h.nvmeSubmit h.raise.nvmeLost

/-- The state beside a command that is taken. -/
theorem Keeps.nvmeTake (h : Keeps s₀ s) {d cid : Nat} {c : NvmeCmd} {n : State} (he : s.nvmeTake d cid = some (c, n)) :
    Keeps s₀ n := by
  obtain ⟨c, -, hc⟩ := Option.map_eq_some_iff.mp he
  cases hc
  exact h.same

theorem Keeps.dropDrive (h : Keeps s₀ s) {d : Nat} : Keeps s₀ (s.dropDrive d) :=
  h.same.each fun _ _ hn => .ite hn.nvmeFails hn.nvmeFails

theorem Keeps.countFail (h : Keeps s₀ s) {d : Nat} : Keeps s₀ (s.countFail d) :=
  .ite h.incFld.same.same.disableDrive.dropDrive h.incFld.same

theorem Keeps.nvmeError (h : Keeps s₀ s) {c : NvmeCmd} {status : Nat} : Keeps s₀ (s.nvmeError c status) := h.countFail.nvmeFails

theorem Keeps.nvmeGood (h : Keeps s₀ s) {c : NvmeCmd} {data : List Byte} : Keeps s₀ (s.nvmeGood c data) := by
  unfold State.nvmeGood
  split
  · exact .ite h.disableDrive (Keeps.ite h.same h).bringUpStep
  · exact h.same.openRead
  · exact h.hbmWrite.recordPart
  · exact (Keeps.ite h.hbmWrite h).rereadPart
  · exact (Keeps.ite h.hbmWrite h).same

theorem execNvmeCompletion_lands (h : Keeps s₀ (s.advance t)) {drive : Fin 2} {cid status : Nat} {data : List Byte} :
    Lands s₀ (execNvmeCompletion t drive cid status data s) := by
  unfold execNvmeCompletion
  apply Lands.next
  split
  next => exact h
  next c n he => exact .ite (h.nvmeTake he).nvmeGood (h.nvmeTake he).nvmeError

theorem execNvmeTimeout_lands (h : Keeps s₀ (s.advance t)) {drive : Fin 2} {cid : Nat} :
    Lands s₀ (execNvmeTimeout t drive cid s) := by
  unfold execNvmeTimeout
  apply Lands.next
  split
  next => exact h
  next c n he => exact .ite h (h.nvmeTake he).nvmeError

theorem execNvmeControllerFatal_lands (h : Keeps s₀ (s.advance t)) {drive : Fin 2} : Lands s₀ (execNvmeControllerFatal t drive s) :=
  .next (Keeps.ite h h.disableDrive.dropDrive)

theorem Keeps.xferStart (h : Keeps s₀ s) {w : Word} : Keeps s₀ (s.xferStart w) := by
  unfold State.xferStart
  extract_lets
  refine .ite h.setFld.raise ((Keeps.ite h.touchHbm h).same.setBit.setFld.each fun _ _ hn => ?_)
  split
  exact hn.nvmeSubmit

theorem Keeps.xferWrite (h : Keeps s₀ s) {req : Requester} {op : Nat} {w : Word} : Keeps s₀ (s.xferWrite req op w) :=
  h.guarded fun _ _ hn => hn.xferStart

theorem execStoreXferRead_lands (h : Keeps s₀ (s.advance t)) {req : Requester} {data : Word} :
    Lands s₀ (execStoreXferRead t req data s) :=
  .next h.xferWrite

theorem execStoreXferWrite_lands (h : Keeps s₀ (s.advance t)) {req : Requester} {data : Word} :
    Lands s₀ (execStoreXferWrite t req data s) :=
  .next h.xferWrite

theorem execStoreXferFlush_lands (h : Keeps s₀ (s.advance t)) {req : Requester} {data : Word} :
    Lands s₀ (execStoreXferFlush t req data s) :=
  .next h.xferWrite

theorem execStoreXferDeallocate_lands (h : Keeps s₀ (s.advance t)) {req : Requester} {data : Word} :
    Lands s₀ (execStoreXferDeallocate t req data s) :=
  .next h.xferWrite

theorem execStoreXferSmartLog_lands (h : Keeps s₀ (s.advance t)) {req : Requester} {data : Word} :
    Lands s₀ (execStoreXferSmartLog t req data s) :=
  .next h.xferWrite

theorem execStoreXferDone_lands (h : Keeps s₀ (s.advance t)) : Lands s₀ (execStoreXferDone t s) := by
  unfold execStoreXferDone
  extract_lets
  apply Lands.next
  split
  · exact h.same.setNat.raise
  · exact h

end Sys2Proof.Machine
end

section
/-! SUPPORT.  What the meanings keep of clock, queue and form: yarn updates; data ports and DMA; egress queues. -/

namespace Sys2Proof.Machine

set_option Elab.async false

variable {s₀ s : State} {t : Nat}

/-! ## Yarn updates -/

theorem Keeps.skeinJobEnds (h : Keeps s₀ s) {j : HankJob} {r : JobEnd} : Keeps s₀ (s.skeinJobEnds j r) := by
  unfold State.skeinJobEnds
  extract_lets w done s1 at_ _ s2 s3
  have h1 : Keeps s₀ s1 := h.setSkBuffer.same
  have h2 : Keeps s₀ s2 := h.setSkBuffer.same
  have h3 : Keeps s₀ s3 := by
    unfold s3
    split
    · exact h2.regenPart
    · exact h2
  split
  · split
    · exact h1.regenPart
    · exact h1
  · exact .ite h.rereadRecord h3.raise

theorem Keeps.yarnJobEnds (h : Keeps s₀ s) {j : HankJob} {r : JobEnd} : Keeps s₀ (s.yarnJobEnds j r) := by
  unfold State.yarnJobEnds
  split
  · exact h.raise
  · extract_lets
    split
    · exact h.incFld.setFence
    · exact h.incFld

theorem Keeps.yarnDrop (h : Keeps s₀ s) {y reason id : Nat} : Keeps s₀ (s.yarnDrop y reason id) :=
  .ite h.incFld.same h.incFld.same.raise

theorem Keeps.yarnComplete (h : Keeps s₀ s) {u : Update} {bs : List Byte} : Keeps s₀ (s.yarnComplete u bs) :=
  .ite h.yarnDrop h.internalJob

theorem Keeps.yarnFragment (h : Keeps s₀ s) {y : Nat} {p : List Byte} : Keeps s₀ (s.yarnFragment y p) := by
  unfold State.yarnFragment
  extract_lets id off total data mine _ s1 known u s2
  have h1 : Keeps s₀ s1 := by
    unfold s1
    split
    · exact h
    · clear_value mine
      split
      · exact h.same.yarnDrop
      · exact h
  have h2 : Keeps s₀ s2 := .ite h1.useFresh h1
  split
  · exact h.yarnDrop
  · split
    · exact h1.yarnDrop
    · split
      · exact h2.yarnDrop
      · split
        · exact h2.hbmWrite.same.yarnComplete
        · exact h2.hbmWrite.same

theorem execYarnDataFragment_lands (h : Keeps s₀ (s.advance t)) {stream : Fin 16} {packet : List Byte} :
    Lands s₀ (execYarnDataFragment t stream packet s) :=
  .next (Keeps.ite h.yarnDrop (Keeps.ite h.yarnDrop h.wakeHbm.yarnFragment))

theorem Keeps.yarnLive (h : Keeps s₀ s) {y : Nat} {p : List Byte} {type : Nat} {f : State → State}
    (hf : ∀ x0, Keeps s₀ x0 → Keeps s₀ (f x0)) : Keeps s₀ (s.yarnLive y p type f) :=
  .ite h.yarnDrop (Keeps.ite h.yarnDrop (hf _ h))

theorem execYarnDescriptor_lands (h : Keeps s₀ (s.advance t)) {stream : Fin 16} {packet : List Byte} :
    Lands s₀ (execYarnDescriptor t stream packet s) :=
  .next (h.yarnLive (fun _ hn => .ite hn.yarnDrop (hn.each (fun _ _ hn1 => hn1.descWrite))))

theorem execYarnCommit_lands (h : Keeps s₀ (s.advance t)) {stream : Fin 16} {packet : List Byte} :
    Lands s₀ (execYarnCommit t stream packet s) :=
  .next (h.yarnLive (fun _ hn => by
      split
      · exact hn.refuse
      · exact hn.commitGo))

theorem execYarnUpdateTimeout_lands (h : Keeps s₀ (s.advance t)) {stream : Fin 16} {update : Nat} :
    Lands s₀ (execYarnUpdateTimeout t stream update s) := by
  unfold execYarnUpdateTimeout
  extract_lets
  apply Lands.next
  split
  · exact h
  · exact .ite h h.same.yarnDrop

/-! ## Data ports and DMA -/

theorem Keeps.setPtr (h : Keeps s₀ s) {k a : Nat} : Keeps s₀ (s.setPtr k a) := h.setNat.setNat

theorem Keeps.stepPtr (h : Keeps s₀ s) {k n : Nat} : Keeps s₀ (s.stepPtr k n) := .ite h h.setPtr

theorem Keeps.dropPrefetch (h : Keeps s₀ s) {k : Nat} : Keeps s₀ (s.dropPrefetch k) := h.same

theorem Keeps.raiseRange (h : Keeps s₀ s) {k a n : Nat} : Keeps s₀ (s.raiseRange k a n) := .ite h h.same.raise

theorem Keeps.countOff (h : Keeps s₀ s) : Keeps s₀ s.countOff := h.same

theorem execDportWriteTlp_lands (h : Keeps s₀ (s.advance t)) {port : Fin 4} {offset first last : Nat} {data : List Byte} :
    Lands s₀ (execDportWriteTlp t port offset first last data s) := by
  unfold execDportWriteTlp
  extract_lets s1 k a s2
  have h2 : Keeps s₀ s2 := h.dropPrefetch.wakeHbm
  exact .next (Keeps.ite h
    (Keeps.ite h.earlyAccess
      (Keeps.ite h.countOff (Keeps.ite h2.raiseRange (h2.each (fun _ _ hn => hn.hbmWrite)).touchHbm.stepPtr))))

theorem Keeps.prefetch (h : Keeps s₀ s) {k : Nat} : Keeps s₀ (s.prefetch k) := h.dropPrefetch.useFresh.same

theorem execDportReadTlp_lands (h : Keeps s₀ (s.advance t)) {port : Fin 4} {offset len : Nat} :
    Lands s₀ (execDportReadTlp t port offset len s) := by
  unfold execDportReadTlp
  extract_lets
  exact .next (Keeps.ite h
    (Keeps.ite h.earlyAccess.emit
      (Keeps.ite h.countOff.emit
        (Keeps.ite h.wakeHbm.raiseRange.emit
          (Keeps.ite h.wakeHbm.touchHbm.stepPtr.emit h.wakeHbm.touchHbm.stepPtr.prefetch.emit)))))

theorem execDportPtrWrite_lands (h : Keeps s₀ (s.advance t)) {req : Requester} {port : Fin 4} {reg : Fin 3} {data : Word} :
    Lands s₀ (execDportPtrWrite t req port reg data s) :=
  .next (h.guarded (fun _ _ hn => hn.store'.dropPrefetch))

theorem Keeps.refreshRun (h : Keeps s₀ s) : Keeps s₀ s.refreshRun := h.setFld

theorem execDportDmaStart_lands (h : Keeps s₀ (s.advance t)) {req : Requester} {chan : Fin 4} {reg : Fin 2} {data : Word} :
    Lands s₀ (execDportDmaStart t req chan reg data s) :=
  .next (h.guarded (fun _ _ hn => hn.store'.refreshRun.wakeHbm.dmaKick))

theorem Keeps.dmaRun (h : Keeps s₀ s) {e : DmaEntry} {source : List Byte} {error : Nat} : Keeps s₀ (s.dmaRun e source error).1 := by
  unfold State.dmaRun
  split
  · exact h
  · split
    · exact h
    · split
      · exact h
      · split
        · extract_lets
          split
          · exact h.touchHbm
          · exact h.touchHbm.emit
        · exact h.hbmWrite

theorem Keeps.dmaCallOff (h : Keeps s₀ s) {c : Nat} : Keeps s₀ (s.dmaCallOff c) :=
  (h.same.each (fun _ _ hn => hn.startEngine)).refreshHank.admitWaiting

theorem Keeps.dmaWriteBack (h : Keeps s₀ s) {c tail : Nat} {e : DmaEntry} {status : Nat} :
    Keeps s₀ (s.dmaWriteBack c tail e status) :=
  h.emit

theorem Keeps.dmaStop (h : Keeps s₀ s) {c tail : Nat} {e : DmaEntry} {status : Nat} : Keeps s₀ (s.dmaStop c tail e status) :=
  (Keeps.ite h.setBit.refreshRun h.setBit.refreshRun.tag.markLost).raise

theorem Keeps.dmaNext (h : Keeps s₀ s) {c tail : Nat} {e : DmaEntry} : Keeps s₀ (s.dmaNext c tail e) := by
  unfold State.dmaNext
  extract_lets s1
  have h1 : Keeps s₀ s1 := .ite h.setFence h
  exact (Keeps.ite h1.setFld.incFld.raise h1.setFld.incFld).dmaKick

theorem Keeps.dmaEnd (h : Keeps s₀ s) {c : Nat} {e : DmaEntry} {status : Nat} : Keeps s₀ (s.dmaEnd c e status) :=
  .ite h.setBit.setFld.dmaWriteBack.dmaNext h.setBit.setFld.dmaWriteBack.dmaStop

theorem execDportDmaEntryDone_lands (h : Keeps s₀ (s.advance t)) {chan : Fin 4} {entry source : List Byte} {error : Nat} :
    Lands s₀ (execDportDmaEntryDone t chan entry source error s) :=
  .next (Keeps.ite h (Keeps.ite h.touchHbm.internalJob h.dmaRun.dmaEnd))

theorem Keeps.dmaJobEnds (h : Keeps s₀ s) {j : HankJob} {r : JobEnd} : Keeps s₀ (s.dmaJobEnds j r) := h.dmaEnd

theorem Keeps.jobEnds (h : Keeps s₀ s) {e : Nat} {j : HankJob} {r : JobEnd} : Keeps s₀ (s.jobEnds e j r) := by
  unfold State.jobEnds
  extract_lets
  split
  · exact h.finishJob.hostJobEnds
  · exact h.finishJob.skeinJobEnds
  · exact h.finishJob.yarnJobEnds
  · exact h.finishJob.dmaJobEnds

theorem execHankJobComplete_lands (h : Keeps s₀ (s.advance t)) {engine : Fin 6} : Lands s₀ (execHankJobComplete t engine s) := by
  unfold execHankJobComplete
  extract_lets
  apply Lands.next
  split
  · exact h
  · exact h.jobEnds

theorem Keeps.hankFabric (h : Keeps s₀ s) {e addr : Nat} : Keeps s₀ (s.hankFabric e addr) := by
  unfold State.hankFabric
  split
  · exact h
  · exact h.useFresh.jobEnds

/-! ## Egress queues -/

theorem Keeps.tcCorrect (h : Keeps s₀ s) {x units : Nat} {fr : QFrame} : Keeps s₀ (s.tcCorrect x units fr).2 := by
  unfold State.tcCorrect
  split
  · extract_lets m kind two key seq stay asym count
    split
    · exact h.same
    · split
      · exact h.incFld
      · split
        · exact h.incFld
        · split
          · split
            · exact h.same.incFld
            · exact h.incFld
          · exact h
  · exact h

theorem Keeps.setEgress (h : Keeps s₀ s) {x : Nat} {e : EgressPort} : Keeps s₀ (s.setEgress x e) := h.same

theorem Keeps.settle (h : Keeps s₀ s) {x q at_ : Nat} : Keeps s₀ (s.settle x q at_) := .ite h h.setEgress

theorem Keeps.settlePort (h : Keeps s₀ s) {x at_ : Nat} : Keeps s₀ (s.settlePort x at_) := h.each fun _ _ hn => hn.settle

theorem Keeps.ofSnd {α : Type} {p : α × State} {n : State} {b : α} (h : Keeps s₀ p.2) (he : p = (b, n)) : Keeps s₀ n := by
  subst he
  exact h

theorem Keeps.serve (h : Keeps s₀ s) {x at_ : Nat} : Keeps s₀ (s.serve x at_) := by
  unfold State.serve
  extract_lets e s1 e1 _
  split
  · exact h
  · split
    · exact h
    · extract_lets v
      have h1 : Keeps s₀ s1 := h.settlePort
      clear_value v s1
      split
      · exact h1
      · split
        next f _ bytes n hb =>
          have hn : Keeps s₀ n := Keeps.ofSnd h1.tcCorrect hb
          clear hb
          extract_lets v1 _ s2 s3
          have h2 : Keeps s₀ s2 := hn.setEgress
          clear_value s2
          exact (Keeps.ite h2.incFld h2).incFld.emit

theorem Keeps.enqueue (h : Keeps s₀ s) {x q : Nat} {f : List Byte} {tc : Option (Nat × Nat)} : Keeps s₀ (s.enqueue x q f tc) :=
  .ite (Keeps.ite h.setEgress.incFld h.setEgress.incFld.raise) h.setEgress.serve

theorem execTrafEgressDone_lands (h : Keeps s₀ (s.advance t)) {port : Fin 2} : Lands s₀ (execTrafEgressDone t port s) := by
  unfold execTrafEgressDone
  extract_lets
  apply Lands.next
  split
  · exact h
  · exact .ite h h.settlePort.setEgress.serve

theorem execShapedQueueEligible_lands (h : Keeps s₀ (s.advance t)) {port : Fin 2} {queue : Fin 8} :
    Lands s₀ (execShapedQueueEligible t port queue s) :=
  .next h.serve

theorem Keeps.reshape (h : Keeps s₀ s) {x q : Nat} {f : State → State} (hf : ∀ x0, Keeps s₀ x0 → Keeps s₀ (f x0)) :
    Keeps s₀ (s.reshape x q f) :=
  (hf _ h.settle).setEgress

theorem Keeps.expandShape (h : Keeps s₀ s) {x q : Nat} : Keeps s₀ (s.expandShape x q) := by
  unfold State.expandShape
  split
  · exact h.setFld.setFld
  · exact h

theorem execTrafHistSample_lands (h : Keeps s₀ (s.advance t)) : Lands s₀ (execTrafHistSample t s) :=
  .next (Keeps.ite h (h.same.each (fun _ _ hn => hn.each (fun _ _ hn1 => hn1.incFld.incFld))))

theorem execTrafCtlClearCnt_lands (h : Keeps s₀ (s.advance t)) {req : Requester} : Lands s₀ (execTrafCtlClearCnt t req s) :=
  .next (h.control (fun _ hn => by
      extract_lets s1 s2
      have h1 : Keeps s₀ s1 := hn.each fun _ _ hn1 => hn1.each fun _ _ hn2 => hn2.setReg
      have h2 : Keeps s₀ s2 := h1.each fun _ _ hn1 => hn1.each fun _ _ hn2 => hn2.setReg
      exact h2.each (fun _ _ hn1 => hn1.setReg.setReg.setReg.setFld)))

theorem execTrafCtlClearHist_lands (h : Keeps s₀ (s.advance t)) {req : Requester} : Lands s₀ (execTrafCtlClearHist t req s) :=
  .next (h.control (fun _ hn => hn.resetRange))

end Sys2Proof.Machine
end

section
/-! SUPPORT.  What the meanings keep of clock, queue and form: time. -/

namespace Sys2Proof.Machine

set_option Elab.async false

variable {s₀ s : State} {t : Nat}

/-! ## Time -/

theorem Keeps.setSlave (h : Keeps s₀ s) {b : Nat} {x : SlaveState} : Keeps s₀ (s.setSlave b x) := .ite h.same h.same

theorem Keeps.followLine (h : Keeps s₀ s) {l : TimeLine} : Keeps s₀ (s.followLine l) := .ite h.same h.same

theorem Keeps.follow (h : Keeps s₀ s) : Keeps s₀ s.follow := by
  unfold State.follow
  split
  · exact h.followLine
  · exact h

theorem Keeps.pickSource (h : Keeps s₀ s) : Keeps s₀ s.pickSource :=
  .ite h (Keeps.ite h.setFld.raise.followLine h.setFld.raise.follow)

theorem Keeps.setTbState (h : Keeps s₀ s) {b new : Nat} : Keeps s₀ (s.setTbState b new) :=
  .ite h h.setSlave.setFld.raise.pickSource

theorem Keeps.selectMaster (h : Keeps s₀ s) {b : Nat} : Keeps s₀ (s.selectMaster b) := by
  unfold State.selectMaster
  extract_lets x sel
  split
  · exact h
  · clear_value sel
    split
    · exact h.setSlave.setTbState
    · exact .ite h.setSlave.setTbState (Keeps.ite h.setSlave.setTbState h.setSlave)

theorem Keeps.servo (h : Keeps s₀ s) {b : Nat} {offset : Int} : Keeps s₀ (s.servo b offset) := by
  unfold State.servo
  extract_lets _ x lock st off s1 add good bad s2 s3
  have h3 : Keeps s₀ s3 := .ite (Keeps.ite h.setSlave.setTbState h.setSlave) (Keeps.ite h.setSlave.setTbState h.setSlave.setTbState)
  exact .ite h.setSlave.setTbState.follow (Keeps.ite h3.follow h3)

theorem Keeps.takeSync (h : Keeps s₀ s) {b p stamp : Nat} {origin : Int} :
    Keeps s₀ (s.takeSync b p stamp origin) := h.setSlave.servo

theorem execPtpSync_lands (h : Keeps s₀ (s.advance t)) {port : Fin 2} {msg : PtpMsg} : Lands s₀ (execPtpSync t port msg s) := by
  unfold execPtpSync
  extract_lets
  apply Lands.next
  split
  · exact h
  · exact .ite h.setSlave h.setSlave.takeSync

theorem execPtpFollowUp_lands (h : Keeps s₀ (s.advance t)) {port : Fin 2} {msg : PtpMsg} :
    Lands s₀ (execPtpFollowUp t port msg s) := by
  unfold execPtpFollowUp
  extract_lets
  apply Lands.next
  split
  · exact h
  · split
    · exact h
    · exact .ite h h.setSlave.takeSync

theorem execPtpDelayResp_lands (h : Keeps s₀ (s.advance t)) {port : Fin 2} {msg : PtpMsg} :
    Lands s₀ (execPtpDelayResp t port msg s) := by
  unfold execPtpDelayResp
  extract_lets
  apply Lands.next
  split
  · exact h
  · extract_lets
    split
    · exact h
    · exact .ite h h.setSlave

theorem execPtpAnnounce_lands (h : Keeps s₀ (s.advance t)) {port : Fin 2} {msg : PtpAnnounce} :
    Lands s₀ (execPtpAnnounce t port msg s) := by
  unfold execPtpAnnounce
  extract_lets
  apply Lands.next
  split
  · exact h
  · exact .ite h (Keeps.ite h.setSlave.selectMaster.setSlave h.setSlave.selectMaster)

theorem execPtpDelayReqDue_lands (h : Keeps s₀ (s.advance t)) {tb : Fin 2} : Lands s₀ (execPtpDelayReqDue t tb s) := by
  unfold execPtpDelayReqDue
  extract_lets
  apply Lands.next
  split
  · exact h
  · exact .ite h h.setSlave.enqueue

theorem execPtpSyncTimeout_lands (h : Keeps s₀ (s.advance t)) {tb : Fin 2} : Lands s₀ (execPtpSyncTimeout t tb s) :=
  .next (Keeps.ite h.setTbState h)

theorem execPtpAnnounceTimeout_lands (h : Keeps s₀ (s.advance t)) {tb : Fin 2} : Lands s₀ (execPtpAnnounceTimeout t tb s) := by
  unfold execPtpAnnounceTimeout
  extract_lets
  apply Lands.next
  split
  · exact h
  · exact .ite h.setSlave.selectMaster h

theorem execTb2RevertTimeout_lands (h : Keeps s₀ (s.advance t)) : Lands s₀ (execTb2RevertTimeout t s) :=
  .next h.pickSource

theorem Keeps.timeConfigured (h : Keeps s₀ s) : Keeps s₀ s.timeConfigured :=
  h.each fun _ _ hn => .ite hn.setSlave.setTbState hn.setSlave.setTbState

theorem Keeps.ppsSteer (h : Keeps s₀ s) : Keeps s₀ s.ppsSteer :=
  .ite h.same.setBit.pickSource.followLine h.same.setBit.pickSource

theorem execRef10mInputReturn_lands (h : Keeps s₀ (s.advance t)) : Lands s₀ (execRef10mInputReturn t s) :=
  .next (Keeps.ite h h.same.setBit.setFld.useFresh.pickSource)

theorem execTimeRefTimeout_lands (h : Keeps s₀ (s.advance t)) {input : Fin 2} : Lands s₀ (execTimeRefTimeout t input s) :=
  .next (Keeps.ite h (Keeps.ite h.same h.same).setBit.raise.pickSource)

theorem Keeps.snapBase (h : Keeps s₀ s) {b : Nat} : Keeps s₀ (s.snapBase b) := h.each fun _ _ hn => hn.setNat

theorem execTimeCtlSnap_lands (h : Keeps s₀ (s.advance t)) {req : Requester} : Lands s₀ (execTimeCtlSnap t req s) :=
  .next (h.control (fun _ hn => hn.each (fun _ _ hn1 => hn1.snapBase)))

theorem execTimeCtlSetTb3_lands (h : Keeps s₀ (s.advance t)) {req : Requester} : Lands s₀ (execTimeCtlSetTb3 t req s) :=
  .next (h.control (fun _ hn => .ite hn.same.follow hn.same))

theorem execTimeCtlSetTb2_lands (h : Keeps s₀ (s.advance t)) {req : Requester} : Lands s₀ (execTimeCtlSetTb2 t req s) :=
  .next (h.control (fun _ hn => hn.same))

theorem Keeps.setCmp (h : Keeps s₀ s) {n : Nat} {x : CmpState} : Keeps s₀ (s.setCmp n x) := h.same

theorem Keeps.allocCmp (h : Keeps s₀ s) {req : Requester} : Keeps s₀ (s.allocCmp req) := by
  unfold State.allocCmp
  extract_lets
  split
  · exact h.setNat
  · exact h.setFld.raise

theorem execTimeCmpAllocReq_lands (h : Keeps s₀ (s.advance t)) {req : Requester} : Lands s₀ (execTimeCmpAllocReq t req s) :=
  .next (h.control (fun _ hn => hn.allocCmp))

theorem Keeps.freeCmp (h : Keeps s₀ s) {n : Nat} : Keeps s₀ (s.freeCmp n) := h.setBit.setBit

theorem execTimeCmpAllocFree_lands (h : Keeps s₀ (s.advance t)) {req : Requester} {num : Fin 8} :
    Lands s₀ (execTimeCmpAllocFree t req num s) :=
  .next (h.control (fun _ hn => hn.freeCmp))

theorem Keeps.armCmp (h : Keeps s₀ s) {n : Nat} : Keeps s₀ (s.armCmp n) := h.setCmp

theorem Keeps.setTout (h : Keeps s₀ s) {o : Nat} {high : Bool} : Keeps s₀ (s.setTout o high) := h.same

theorem Keeps.endPulse (h : Keeps s₀ s) {o : Nat} : Keeps s₀ (s.endPulse o) := .ite h.same.setTout h

theorem Keeps.cmpAction (h : Keeps s₀ s) {n : Nat} : Keeps s₀ (s.cmpAction n) := by
  unfold State.cmpAction
  extract_lets
  split
  · exact h
  · split
    · exact h.endPulse.setTout
    · exact h.endPulse.setTout
    · exact h.endPulse.setTout
    · exact h.endPulse.same.setTout

theorem Keeps.advanceCmp (h : Keeps s₀ s) {n e : Nat} : Keeps s₀ (s.advanceCmp n e) := by
  unfold State.advanceCmp
  extract_lets
  split
  · exact h.setBit.setBit
  · exact h.setCmp.setBit
  · exact h.setCmp.setBit

theorem Keeps.cmpEvent (h : Keeps s₀ s) {n e : Nat} : Keeps s₀ (s.cmpEvent n e) := .ite h (Keeps.ite h.setCmp h.setCmp.raise)

theorem Keeps.fireCmp (h : Keeps s₀ s) {n : Nat} : Keeps s₀ (s.fireCmp n) := by
  unfold State.fireCmp
  split
  · exact h
  · split
    · exact h
    · exact h.cmpAction.incFld.cmpEvent.advanceCmp

theorem execTimeCmpFire_lands (h : Keeps s₀ (s.advance t)) {cmp : Fin 8} : Lands s₀ (execTimeCmpFire t cmp s) :=
  .next (h.each (fun _ _ hn => hn.fireCmp))

theorem execTimePulseEnd_lands (h : Keeps s₀ (s.advance t)) {out : Fin 4} : Lands s₀ (execTimePulseEnd t out s) :=
  .next h.endPulse

theorem execPpsOutSecond_lands (h : Keeps s₀ (s.advance t)) : Lands s₀ (execPpsOutSecond t s) :=
  .next (Keeps.ite h.same h)

theorem execPpsOutWidthEnd_lands (h : Keeps s₀ (s.advance t)) : Lands s₀ (execPpsOutWidthEnd t s) :=
  .next (Keeps.ite h h.same)

theorem Keeps.setCap (h : Keeps s₀ s) {m : Nat} {x : CapState} : Keeps s₀ (s.setCap m x) := h.same.setFld

theorem Keeps.capture (h : Keeps s₀ s) {m : Nat} {falling : Bool} : Keeps s₀ (s.capture m falling) :=
  .ite h (Keeps.ite (Keeps.ite h.incFld.setCap h.incFld.setCap.raise) (Keeps.ite h.setCap.raise h.setCap))

theorem execTimeCaptureEdge_lands (h : Keeps s₀ (s.advance t)) {cap : Fin 3} {falling : Bool} :
    Lands s₀ (execTimeCaptureEdge t cap falling s) :=
  .next h.capture

theorem execPpsInEdge_lands (h : Keeps s₀ (s.advance t)) : Lands s₀ (execPpsInEdge t s) := .next h.capture.ppsSteer

theorem Keeps.takeStamp (h : Keeps s₀ s) {m : Nat} : Keeps s₀ (s.takeStamp m) := by
  unfold State.takeStamp
  extract_lets
  split
  · exact h.setBit
  · exact h.setCap.setNat.setNat.setNat

theorem Keeps.hostRead (h : Keeps s₀ s) {a : Nat} {f : State → State} (hf : ∀ x0, Keeps s₀ x0 → Keeps s₀ (f x0)) :
    Keeps s₀ (s.hostRead a f) :=
  .ite h.earlyAccess.emit (Keeps.ite h.emit (hf _ h).emit)

theorem execTimeCapFnsRead_lands (h : Keeps s₀ (s.advance t)) {cap : Fin 3} : Lands s₀ (execTimeCapFnsRead t cap s) :=
  .next (h.hostRead (fun _ hn => hn.takeStamp))

theorem Keeps.ballClaims (h : Keeps s₀ s) {due : List PendWrite} : Keeps s₀ (s.ballClaims due).1 := by
  unfold State.ballClaims
  extract_lets want ref cap own lost s1
  have h1 : Keeps s₀ s1 := h.each fun _ _ hn => .ite hn.raise hn
  exact (Keeps.ite h1.setFld h1.setFld.same.setBit)

end Sys2Proof.Machine
end

section
/-! SUPPORT.  What the meanings keep of clock, queue and form: ethernet; writes of any register; the chain. -/

namespace Sys2Proof.Machine

set_option Elab.async false

variable {s₀ s : State} {t : Nat}

/-! ## Ethernet -/

theorem Keeps.setPath (h : Keeps s₀ s) {path : Nat} {up : Bool} : Keeps s₀ (s.setPath path up) := .ite h h.setBit.raise

theorem Keeps.checkEthPath (h : Keeps s₀ s) : Keeps s₀ s.checkEthPath := .ite h.setPath h

theorem execNetLinkSettle_lands (h : Keeps s₀ (s.advance t)) {port : Fin 2} : Lands s₀ (execNetLinkSettle t port s) := by
  unfold execNetLinkSettle
  extract_lets
  apply Lands.next
  split
  · exact h
  · exact .ite h h.same.checkEthPath.raise

theorem Keeps.cueDrop (h : Keeps s₀ s) {x reason : Nat} : Keeps s₀ (s.cueDrop x reason) := .ite h.same h.same.raise

theorem Keeps.venuePart (h : Keeps s₀ s) {x : Nat} {p : List Byte} : Keeps s₀ (s.venuePart x p) := by
  unfold State.venuePart
  extract_lets id off data total moved s1
  have h1 : Keeps s₀ s1 := .ite h.cueDrop h
  split
  · exact h.cueDrop
  · split
    · exact h1.same.venueArrives
    · exact h1.same

theorem Keeps.cuePayload (h : Keeps s₀ s) {x : Nat} {p : List Byte} : Keeps s₀ (s.cuePayload x p) :=
  .ite h.cueDrop (Keeps.ite h.networkCue h.venuePart)

theorem Keeps.cueArrives (h : Keeps s₀ s) {x : Nat} {p : List Byte} : Keeps s₀ (s.cueArrives x p) :=
  .ite h.cuePayload (Keeps.ite h (Keeps.ite h.same h.incFld))

theorem execNetworkCueFrame_lands (h : Keeps s₀ (s.advance t)) {port : Fin 2} {payload : List Byte} :
    Lands s₀ (execNetworkCueFrame t port payload s) :=
  .next (Keeps.ite h h.cueArrives)

theorem execVenueFragment_lands (h : Keeps s₀ (s.advance t)) {port : Fin 2} {payload : List Byte} :
    Lands s₀ (execVenueFragment t port payload s) :=
  .next (Keeps.ite h h.cueArrives)

theorem execVenueAssemblyTimeout_lands (h : Keeps s₀ (s.advance t)) : Lands s₀ (execVenueAssemblyTimeout t s) := by
  unfold execVenueAssemblyTimeout
  extract_lets
  apply Lands.next
  split
  · exact h
  · exact .ite h h.same.cueDrop

theorem Keeps.earlyPolice (h : Keeps s₀ s) {x kind n : Nat} : Keeps s₀ (s.earlyPolice x kind n).2 := by
  unfold State.earlyPolice
  extract_lets i b have_ put
  split
  · exact h.same
  · exact h.same

theorem Keeps.setBucket (h : Keeps s₀ s) {n x v : Nat} : Keeps s₀ (s.setBucket n x v) := h.same

theorem Keeps.settleBucket (h : Keeps s₀ s) {n : Nat} : Keeps s₀ (s.settleBucket n) := h.setBucket.setBucket

theorem Keeps.policeDrop (h : Keeps s₀ s) {n x : Nat} : Keeps s₀ (s.policeDrop n x) := .ite h.same.incFld h.same.incFld.raise

theorem Keeps.police (h : Keeps s₀ s) {n x len : Nat} : Keeps s₀ (s.police n x len).2 := by
  unfold State.police
  extract_lets b
  split
  · exact h.setBucket
  · exact h.policeDrop

theorem Keeps.setWindow (h : Keeps s₀ s) {n : Nat} {w : DeWindow} : Keeps s₀ (s.setWindow n w) := h.same

theorem Keeps.resetWindow (h : Keeps s₀ s) {n : Nat} : Keeps s₀ (s.resetWindow n) := h.setWindow

theorem Keeps.resetWindows (h : Keeps s₀ s) : Keeps s₀ s.resetWindows := h.each fun _ _ hn => hn.resetWindow

theorem Keeps.eliminate (h : Keeps s₀ s) {n seq : Nat} : Keeps s₀ (s.eliminate n seq).2 := by
  unfold State.eliminate
  extract_lets w old
  split
  · exact h.setWindow.setFld.incFld.raise
  · split
    · exact h.setWindow.setFld.incFld
    · split
      · split
        · exact h.incFld
        · exact h.setWindow
      · exact .ite h.setWindow.incFld h.setWindow.incFld.raise

theorem execTrafDeTimeout_lands (h : Keeps s₀ (s.advance t)) {entry : Fin 256} : Lands s₀ (execTrafDeTimeout t entry s) :=
  .next (Keeps.ite h h.resetWindow)

theorem Keeps.echoSlot (h : Keeps s₀ s) {x : Nat} {n : State} (he : s.echoSlot x = some n) : Keeps s₀ n := by
  unfold State.echoSlot at he
  extract_lets e put at he
  split at he
  · exact Option.some.inj he ▸ h.same
  · split at he
    · exact Option.some.inj he ▸ h.same
    · cases he

theorem Keeps.sendCtrl (h : Keeps s₀ s) {x : Nat} {dst : List Byte} {type : Nat} {payload : List Byte} :
    Keeps s₀ (s.sendCtrl x dst type payload) :=
  h.enqueue

theorem Keeps.answerArp (h : Keeps s₀ s) {x : Nat} {f : List Byte} : Keeps s₀ (s.answerArp x f) := .ite h.sendCtrl h

theorem Keeps.report (h : Keeps s₀ s) {x type : Nat} {gs : List (List Byte)} : Keeps s₀ (s.report x type gs) :=
  .ite (Keeps.ite h h.sendCtrl) (Keeps.ite h h.sendCtrl).sendCtrl

theorem Keeps.joinGroup (h : Keeps s₀ s) {g : Nat} : Keeps s₀ (s.joinGroup g) := .ite h (h.each (fun _ _ hn => .ite hn.report hn))

theorem Keeps.answerControl (h : Keeps s₀ s) {x : Nat} {f : List Byte} {v6 : Bool} {proto : Nat} {src dst m : List Byte} :
    Keeps s₀ (s.answerControl x f v6 proto src dst m) := by
  unfold State.answerControl
  extract_lets peer kind
  split
  · split
    · exact .ite h.report h
    · split
      · split
        next => exact h
        next n he => exact (h.echoSlot he).sendCtrl
      · exact h
  · split
    · exact h.report
    · split
      · split
        next => exact h
        next n he => exact (h.echoSlot he).sendCtrl
      · exact .ite h.sendCtrl h

theorem Keeps.forward (h : Keeps s₀ s) {x : Nat} {k : L3} {f : List Byte} : Keeps s₀ (s.forward x k f) := .ite h.enqueue h

theorem Keeps.earlyFrame (h : Keeps s₀ s) {x : Nat} {k : L3} {f : List Byte} : Keeps s₀ (s.earlyFrame x k f) := by
  unfold State.earlyFrame
  extract_lets kind
  clear_value kind
  split
  · exact h.incFld
  · exact .ite h.earlyPolice.incFld (Keeps.ite h.earlyPolice.forward h.earlyPolice).emit

theorem Keeps.consume (h : Keeps s₀ s) {x : Nat} {k : L3} {f : List Byte} {who : Option Nat} : Keeps s₀ (s.consume x k f who) := by
  unfold State.consume
  split
  · exact h.answerArp
  · exact h.answerControl
  · exact .ite h h.emit
  · exact h

theorem Keeps.ingress (h : Keeps s₀ s) {x : Nat} {k : L3} {f : List Byte} {eat fwd : Bool} {who : Option Nat} :
    Keeps s₀ (s.ingress x k f eat fwd who) := by
  unfold State.ingress
  split
  · exact .ite (Keeps.ite h.forward h).consume (Keeps.ite h.forward h)
  · next n _ =>
    have hp : Keeps s₀ (s.police n x (f.length + 4)).2 := h.police
    have hf : Keeps s₀ (if fwd then (s.police n x (f.length + 4)).2.forward x k f else (s.police n x (f.length + 4)).2) :=
      .ite hp.forward hp
    exact .ite hp (.ite hf (.ite hf.consume (.ite hf.incFld (.ite hf.eliminate.consume hf.eliminate))))

theorem Keeps.receive (h : Keeps s₀ s) {x : Nat} {f : List Byte} {fcsOk : Bool} : Keeps s₀ (s.receive x f fcsOk) := by
  unfold State.receive
  split
  · exact h
  · split
    · exact h.incFld
    · extract_lets s1 k own mine fwd who used eat s2
      have h2 : Keeps s₀ s2 := .ite h.incFld.incFld h.incFld
      exact .ite h.incFld.earlyFrame (Keeps.ite h2.ingress h2)

theorem execEthFrameRx_lands (h : Keeps s₀ (s.advance t)) {port : Fin 2} {frame : List Byte} {fcsOk : Bool} :
    Lands s₀ (execEthFrameRx t port frame fcsOk s) :=
  .next h.receive

/-! ## Writes of any register -/

theorem Keeps.mcastWritten (h : Keeps s₀ s) {g : Nat} {was : List Byte} : Keeps s₀ (s.mcastWritten g was) :=
  .ite h.checkEthPath h.checkEthPath.joinGroup

theorem Keeps.delayWritten (h : Keeps s₀ s) {a : Nat} {w : Word} : Keeps s₀ (s.delayWritten a w) := h.setReg

theorem Keeps.cmpWritten (h : Keeps s₀ s) {n : Nat} : Keeps s₀ (s.cmpWritten n) := .ite h.armCmp h

theorem Keeps.writeScene (h : Keeps s₀ s) {req : Requester} {a : Nat} {w : Word} : Keeps s₀ (s.writeScene req a w) := by
  unfold State.writeScene
  extract_lets
  exact .ite h.store'.refreshPending
    (Keeps.ite h.setFence
      (Keeps.ite (Keeps.ite h.store' h.store'.setFld)
        (Keeps.ite h.store' (Keeps.ite h.store'.forwardCt
          (Keeps.ite h.store'.retarget
            (Keeps.ite h.store'.thmEnableWritten
              (Keeps.ite (Keeps.ite h.store'.rebaseScrub h.store')
                (Keeps.ite (Keeps.ite h.cfgwGo h.store') (Keeps.ite h.store'.loopConfig (Keeps.ite h.delayWritten h.store'))))))))))

theorem Keeps.writeNet (h : Keeps s₀ s) {req : Requester} {a : Nat} {w : Word} : Keeps s₀ (s.writeNet req a w) := by
  unfold State.writeNet
  extract_lets was g old s1 s2
  have h2 : Keeps s₀ s2 := h.store'.checkEthPath
  exact .ite h.store'.mcastWritten
    (Keeps.ite (Keeps.ite h.store' h.store'.resetWindow)
      (Keeps.ite (Keeps.ite h2 h2.resetWindow)
        (Keeps.ite h.store'.timeConfigured
          (Keeps.ite h.store'.pickSource (Keeps.ite (Keeps.ite h.store'.cmpWritten h.store') h.store')))))

theorem Keeps.writeReg (h : Keeps s₀ s) {req : Requester} {a : Nat} {w : Word} : Keeps s₀ (s.writeReg req a w) :=
  .ite h.writeNet h.writeScene

theorem Keeps.plainWrite (h : Keeps s₀ s) {req : Requester} {a size : Nat} {w : Word} : Keeps s₀ (s.plainWrite req a size w) :=
  h.guarded fun _ _ hn => hn.writeReg

/-! ## The chain -/

theorem execLoopMoveTimeout_lands (h : Keeps s₀ (s.advance t)) : Lands s₀ (execLoopMoveTimeout t s) := by
  unfold execLoopMoveTimeout
  extract_lets
  apply Lands.next
  split
  · exact h
  · exact .ite h (Keeps.ite h.same.setLoop (Keeps.ite h.same.setLoop h.same.setLoop.pickSource))

theorem Keeps.sendAck (h : Keeps s₀ s) {p : Nat} : Keeps s₀ (s.sendAck p) := h.setChainPort.sendControl

theorem Keeps.packetArrives (h : Keeps s₀ s) {p : Nat} {k : Packet} : Keeps s₀ (s.packetArrives p k) := by
  unfold State.packetArrives
  split
  · exact h.incFld
  · split
    · exact h.each fun _ _ hn => hn.sendOn
    · split
      · exact h
      · split
        · exact h.sendOn
        · exact h

theorem Keeps.takeWords (h : Keeps s₀ s) {p : Nat} {ws : List Word} {sop : Bool} : Keeps s₀ (s.takeWords p ws sop) :=
  .ite h.setChainPort.packetArrives h.setChainPort

theorem execChainDataBlock_lands (h : Keeps s₀ (s.advance t)) {port : Fin 4} {block : List Byte} :
    Lands s₀ (execChainDataBlock t port block s) := by
  unfold execChainDataBlock
  extract_lets s1 p x b s2
  have h2 : Keeps s₀ s2 := h.setChainPort
  exact .next (Keeps.ite h (Keeps.ite (Keeps.ite h h.setChainPort.sendControl) (Keeps.ite h2.takeWords.sendAck h2.takeWords)))

theorem execChainAckDue_lands (h : Keeps s₀ (s.advance t)) {port : Fin 4} : Lands s₀ (execChainAckDue t port s) :=
  .next (Keeps.ite h.sendAck h)

theorem execChainAck_lands (h : Keeps s₀ (s.advance t)) {port : Fin 4} {seq : Nat} : Lands s₀ (execChainAck t port seq s) := by
  unfold execChainAck
  extract_lets s1 x n
  apply Lands.next
  clear_value n
  split
  · exact h
  · exact h.setChainPort.drain

theorem execChainNak_lands (h : Keeps s₀ (s.advance t)) {port : Fin 4} {seq : Nat} : Lands s₀ (execChainNak t port seq s) := by
  unfold execChainNak
  extract_lets s1 x q n s2
  have h2 : Keeps s₀ s2 := h.setChainPort.incFld
  exact .next (Keeps.ite h (Keeps.ite h2.setChainPort.retrainPort (h2.each (fun _ _ hn => hn.sendGroup))))

theorem execChainHeldTimeout_lands (h : Keeps s₀ (s.advance t)) {port : Fin 4} : Lands s₀ (execChainHeldTimeout t port s) :=
  .next h.setChainPort.incFld

theorem Keeps.enterChain (h : Keeps s₀ s) : Keeps s₀ s.enterChain := .ite h.setBit.raise h.setBit

theorem Keeps.decideJoin (h : Keeps s₀ s) : Keeps s₀ s.decideJoin := by
  unfold State.decideJoin
  split
  · exact h
  · split
    · exact h.enterChain
    · split
      · exact .ite h h.enterChain
      · exact .ite h.enterChain h

theorem Keeps.sendScope (h : Keeps s₀ s) {q scope : Nat} : Keeps s₀ (s.sendScope q scope) := h.sendTo

theorem Keeps.sendMirrored (h : Keeps s₀ s) {q : Nat} : Keeps s₀ (s.sendMirrored q) :=
  .ite (Keeps.ite h.sendScope h).sendScope (Keeps.ite h.sendScope h)

theorem Keeps.hearTurn (h : Keeps s₀ s) {q : Nat} : Keeps s₀ (s.hearTurn q) := .ite h.same h

theorem Keeps.sendTrain (h : Keeps s₀ s) {p : Nat} {echo : Bool} {turn : Nat} : Keeps s₀ (s.sendTrain p echo turn) := h.sendTrainOn

theorem Keeps.askEcho (h : Keeps s₀ s) {p q : Nat} : Keeps s₀ (s.askEcho p q) :=
  (Keeps.ite h.setChainPort h.setChainPort.same).sendTrain

theorem Keeps.pumpHandshake (h : Keeps s₀ s) : Keeps s₀ s.pumpHandshake := h.each fun _ _ hn => .ite hn.askEcho hn

theorem Keeps.finishHandshake (h : Keeps s₀ s) {p q : Nat} : Keeps s₀ (s.finishHandshake p q) := by
  unfold State.finishHandshake
  extract_lets
  exact ((h.setFld.setChainPort.each (fun _ _ hn => hn.finishUp)).same.setChainPort.each
    (fun _ _ hn => hn.sendOn)).decideJoin.sendMirrored.pumpHandshake

theorem Keeps.takeEcho' (h : Keeps s₀ s) {p q sent turn : Nat} : Keeps s₀ (s.takeEcho' p q sent turn) :=
  .ite h.setChainPort.finishHandshake h.setChainPort.askEcho

theorem Keeps.trainLoop (h : Keeps s₀ s) {p q tport : Nat} {looping : Bool} : Keeps s₀ (s.trainLoop p q tport looping) := by
  unfold State.trainLoop
  split
  · exact h
  · extract_lets bad _ _ s1
    have h1 : Keeps s₀ s1 := .ite h.same h
    exact .ite h1 (Keeps.ite (Keeps.ite h1 h1.setLoop.raise) (Keeps.ite h1.setLoop h1))

theorem Keeps.takeTrain (h : Keeps s₀ s) {p : Nat} {b : List Byte} : Keeps s₀ (s.takeTrain p b) := by
  unfold State.takeTrain
  extract_lets q lane x want s1 _ s2 s3 s4 s5 asks s6
  have h3 : Keeps s₀ s3 := h.setChainPort.setLane.setFld.setBit
  have h5 : Keeps s₀ s5 := .ite h3.trainLoop.hearTurn h3.trainLoop
  have h6 : Keeps s₀ s6 := .ite h5.sendTrain.useFresh h5
  split
  · exact (h3.each (fun _ _ hn => hn.failAttempt)).raise
  · split
    · exact h5
    · split
      · exact h6
      · split
        · exact .ite h6 h6.takeEcho'
        · exact h6.askEcho

theorem execChainTrainBlock_lands (h : Keeps s₀ (s.advance t)) {port : Fin 4} {block : List Byte} :
    Lands s₀ (execChainTrainBlock t port block s) :=
  .next (Keeps.ite h.takeTrain h)

theorem execHandshakeRepeat_lands (h : Keeps s₀ (s.advance t)) {port : Fin 4} : Lands s₀ (execHandshakeRepeat t port s) := by
  unfold execHandshakeRepeat
  extract_lets
  apply Lands.next
  split
  · exact .ite h.askEcho h
  · exact h

theorem execHandshakeAbsentTimeout_lands (h : Keeps s₀ (s.advance t)) {member : Fin 8} :
    Lands s₀ (execHandshakeAbsentTimeout t member s) :=
  .next (Keeps.ite h h.same.decideJoin.pumpHandshake)

theorem execChainTimeDue_lands (h : Keeps s₀ (s.advance t)) {port : Fin 4} : Lands s₀ (execChainTimeDue t port s) :=
  .next (Keeps.ite h h.setChainPort.sendControl)

theorem execChainTimeBlock_lands (h : Keeps s₀ (s.advance t)) {port : Fin 4} {block : List Byte} :
    Lands s₀ (execChainTimeBlock t port block s) :=
  .next (Keeps.ite h (Keeps.ite h.same.followLine h.same))

theorem Keeps.setRole (h : Keeps s₀ s) {lead acting : Bool} : Keeps s₀ (s.setRole lead acting) := h.setBit.setBit.refreshOwn.same

theorem Keeps.setEpoch (h : Keeps s₀ s) {e : Nat} : Keeps s₀ (s.setEpoch e) := h.setFld

theorem Keeps.leadChange (h : Keeps s₀ s) {old new epoch cause : Nat} : Keeps s₀ (s.leadChange old new epoch cause) := h.raise

theorem Keeps.takeLead (h : Keeps s₀ s) {acting : Bool} {cause : Nat} : Keeps s₀ (s.takeLead acting cause) :=
  h.setRole.setEpoch.leadChange

theorem Keeps.giveLead (h : Keeps s₀ s) {cause : Nat} : Keeps s₀ (s.giveLead cause) := h.setRole.leadChange

theorem Keeps.leadAtLatch (h : Keeps s₀ s) : Keeps s₀ s.leadAtLatch := by
  unfold State.leadAtLatch
  split
  · exact h
  · exact .ite h.same.giveLead h.same

theorem execChainCtlJoin_lands (h : Keeps s₀ (s.advance t)) {req : Requester} : Lands s₀ (execChainCtlJoin t req s) :=
  .next (h.control (fun _ hn => .ite hn hn.same))

theorem execChainCtlHandback_lands (h : Keeps s₀ (s.advance t)) {req : Requester} : Lands s₀ (execChainCtlHandback t req s) :=
  .next (h.control (fun _ hn => .ite hn.raise (Keeps.ite hn (Keeps.ite hn.same hn.same.leadAtLatch))))

theorem execChainCtlTake_lands (h : Keeps s₀ (s.advance t)) {req : Requester} : Lands s₀ (execChainCtlTake t req s) :=
  .next (h.control (fun _ hn => .ite hn.raise (Keeps.ite hn hn.setBit.takeLead)))

theorem execChainCtlYield_lands (h : Keeps s₀ (s.advance t)) {req : Requester} : Lands s₀ (execChainCtlYield t req s) :=
  .next (h.control (fun _ hn => .ite hn.raise (Keeps.ite hn.giveLead hn)))

theorem execChainCtlClear_lands (h : Keeps s₀ (s.advance t)) {req : Requester} : Lands s₀ (execChainCtlClear t req s) :=
  .next (h.control (fun _ hn => hn.each (fun _ _ hn1 => hn1.setReg)))

theorem execHeartbeatDue_lands (h : Keeps s₀ (s.advance t)) : Lands s₀ (execHeartbeatDue t s) := by
  unfold execHeartbeatDue
  extract_lets s1 s2 b _ s3 s4
  have h4 : Keeps s₀ s4 := h.checkEthPath.same.each fun _ _ hn => hn.sendControl
  exact .next (Keeps.ite h (Keeps.ite (h4.each (fun _ _ hn => hn.enqueue)) h4))

theorem Keeps.setFull (h : Keeps s₀ s) {full : Bool} : Keeps s₀ (s.setFull full) :=
  .ite h (Keeps.ite h.setBit.setCodes h.setBit).raise

theorem Keeps.settleRoles (h : Keeps s₀ s) {g : Heartbeat} {acted : Bool} : Keeps s₀ (s.settleRoles g acted) := by
  unfold State.settleRoles
  extract_lets
  exact .ite (Keeps.ite h.setRole.setEpoch.leadChange h)
    (Keeps.ite h.setEpoch.same (Keeps.ite h (Keeps.ite h.setBit.setRole (Keeps.ite h.takeLead h))))

theorem Keeps.shareAgain (h : Keeps s₀ s) {g : Heartbeat} : Keeps s₀ (s.shareAgain g) := .ite h.setFull h

theorem Keeps.noteBeat (h : Keeps s₀ s) {g : Heartbeat} : Keeps s₀ (s.noteBeat g) := h.same.setFld.setBit

theorem Keeps.partnerBeat (h : Keeps s₀ s) {g : Heartbeat} : Keeps s₀ (s.partnerBeat g) :=
  (Keeps.ite h.noteBeat.settleRoles h.noteBeat.settleRoles.decideJoin).shareAgain

theorem Keeps.chainBeat (h : Keeps s₀ s) {g : Heartbeat} : Keeps s₀ (s.chainBeat g) :=
  .ite h.setReg.same.same.partnerBeat.setPath h.setReg.same

theorem execChainHbBlock_lands (h : Keeps s₀ (s.advance t)) {port : Fin 4} {block : List Byte} :
    Lands s₀ (execChainHbBlock t port block s) := by
  unfold execChainHbBlock
  extract_lets
  apply Lands.next
  split
  · exact h.chainBeat
  · exact h

theorem execHeartbeatDatagram_lands (h : Keeps s₀ (s.advance t)) {port : Fin 2} {payload : List Byte} :
    Lands s₀ (execHeartbeatDatagram t port payload s) := by
  unfold execHeartbeatDatagram
  extract_lets
  apply Lands.next
  split
  · exact h.same.partnerBeat.setPath
  · exact h

theorem Keeps.dropPeer (h : Keeps s₀ s) {x : Nat × Nat} : Keeps s₀ (s.dropPeer x) :=
  .ite h (Keeps.ite h.setBit.same.setPath h.setBit.same.raise)

theorem execHbPathTimeout_lands (h : Keeps s₀ (s.advance t)) {path : Fin 2} : Lands s₀ (execHbPathTimeout t path s) := by
  unfold execHbPathTimeout
  extract_lets
  apply Lands.next
  split
  · exact h.each fun _ _ hn => hn.dropPeer
  · split
    · exact h
    · exact .ite h h.setPath

theorem Keeps.partnerFails (h : Keeps s₀ s) : Keeps s₀ s.partnerFails := h.same.setRole.setEpoch.setBit.raise.leadChange

theorem execPartnerFailTimeout_lands (h : Keeps s₀ (s.advance t)) : Lands s₀ (execPartnerFailTimeout t s) := by
  unfold execPartnerFailTimeout
  extract_lets
  apply Lands.next
  split
  · exact h
  · exact .ite h h.partnerFails

theorem execYieldCheck_lands (h : Keeps s₀ (s.advance t)) : Lands s₀ (execYieldCheck t s) :=
  .next (Keeps.ite h (Keeps.ite h.same.setRole.setBit.raise h.same))

theorem execIrefTakeupTimeout_lands (h : Keeps s₀ (s.advance t)) : Lands s₀ (execIrefTakeupTimeout t s) := by
  unfold execIrefTakeupTimeout
  extract_lets s1 s2
  have h2 : Keeps s₀ s2 := .ite h.setBit.setRole h
  apply Lands.next
  split
  · exact h
  · exact .ite h (Keeps.ite h2.setFull h2)

theorem execChainRegisterWrite_lands (h : Keeps s₀ (s.advance t)) {port : Fin 4} {packet : List Byte} :
    Lands s₀ (execChainRegisterWrite t port packet s) :=
  .next (Keeps.ite h.plainWrite h)

theorem execChainJoinState_lands (h : Keeps s₀ (s.advance t)) {port : Fin 4} {packet : List Byte} :
    Lands s₀ (execChainJoinState t port packet s) :=
  .next (Keeps.ite (h.each (fun _ _ hn => hn.plainWrite)).same h)

theorem execChainCommit_lands (h : Keeps s₀ (s.advance t)) {port : Fin 4} {packet : List Byte} :
    Lands s₀ (execChainCommit t port packet s) :=
  .next (Keeps.ite h (Keeps.ite h.same.setBit.setBit.setFld.raise h.same.setBit.setBit.setFld))

theorem execChainModeCommand_lands (h : Keeps s₀ (s.advance t)) {port : Fin 4} {packet : List Byte} :
    Lands s₀ (execChainModeCommand t port packet s) := by
  unfold execChainModeCommand
  extract_lets
  apply Lands.next
  split
  · exact h
  · split
    · exact h.refuseMode
    · split
      · exact h.refuseMode
      · exact h.startMode

theorem execChainSignedObject_lands (h : Keeps s₀ (s.advance t)) {port : Fin 4} {packet : List Byte} :
    Lands s₀ (execChainSignedObject t port packet s) :=
  .next (Keeps.ite h.venueArrives h)

theorem Keeps.chainRecord (h : Keeps s₀ s) {frame : Nat} {bs : List Byte} : Keeps s₀ (s.chainRecord frame bs) := by
  unfold State.chainRecord
  split
  · extract_lets
    split
    · exact h.hbmWrite.same.refreshLead
    · exact h
  · exact h

theorem execChainSkeinRecord_lands (h : Keeps s₀ (s.advance t)) {port : Fin 4} {packet : List Byte} :
    Lands s₀ (execChainSkeinRecord t port packet s) :=
  .next (Keeps.ite h.chainRecord h)

end Sys2Proof.Machine
end

section
/-! SUPPORT.  What the meanings keep of clock, queue and form: health. -/

namespace Sys2Proof.Machine

set_option Elab.async false

variable {s₀ s : State} {t : Nat}

/-! ## Health -/

theorem Keeps.setSensor (h : Keeps s₀ s) {n : Nat} {x : DieSensor} : Keeps s₀ (s.setSensor n x) := h.same

theorem Keeps.convert (h : Keeps s₀ s) {n : Nat} {v : Int} : Keeps s₀ (s.convert n v) := by
  unfold State.convert
  extract_lets x s1
  have h1 : Keeps s₀ s1 := .ite h.setSensor h
  split
  · exact h1.setTemp.setBit
  · exact h1

theorem Keeps.checkSensor (h : Keeps s₀ s) {marked : List Nat} {n : Nat} : Keeps s₀ (s.checkSensor marked n) := by
  unfold State.checkSensor
  extract_lets
  split
  · exact h.setSensor
  · extract_lets
    exact .ite (Keeps.ite h.setSensor.setBit.raise h.setSensor)
      (Keeps.ite h.setSensor (Keeps.ite h.setSensor.setBit.raise (Keeps.ite h.setSensor h.setSensor.raise)))

theorem Keeps.aimVolts (h : Keeps s₀ s) : Keeps s₀ s.aimVolts := h.setFld.setFld

theorem Keeps.refreshMargin (h : Keeps s₀ s) : Keeps s₀ s.refreshMargin := h.setFld.setFld.aimVolts

theorem execAvsStep_lands (h : Keeps s₀ (s.advance t)) : Lands s₀ (execAvsStep t s) := .next (Keeps.ite h h.same.emit)

theorem execAvsResponse_lands (h : Keeps s₀ (s.advance t)) {good : Bool} : Lands s₀ (execAvsResponse t good s) := by
  unfold execAvsResponse
  extract_lets
  apply Lands.next
  split
  · exact h
  · exact .ite h.same (Keeps.ite h.same.emit h.same)

theorem Keeps.setStep (h : Keeps s₀ s) {new cause : Nat} : Keeps s₀ (s.setStep new cause) := by
  unfold State.setStep
  extract_lets h1 old divider s1 step s2
  have h2 : Keeps s₀ s2 := .ite h.same.setFld.raise h.same
  exact .ite h (Keeps.ite h2.startEngine.startEngine.refreshHank h2).aimVolts

theorem Keeps.decideStep (h : Keeps s₀ s) {hot : Int} : Keeps s₀ (s.decideStep hot) := h.setStep

theorem Keeps.releaseThrottle (h : Keeps s₀ s) {hot : Int} : Keeps s₀ (s.releaseThrottle hot) :=
  (Keeps.ite (Keeps.ite h.same h).setBit (Keeps.ite h.same h)).decideStep

theorem Keeps.rateRound (h : Keeps s₀ s) {hot : Int} : Keeps s₀ (s.rateRound hot) := by
  unfold State.rateRound
  extract_lets h1 past old keep s1 _ s2
  have h2 : Keeps s₀ s2 := h.same.same.setBit
  split
  · exact h.same
  · exact .ite (Keeps.ite h2 h2.same.raise) h.same.same

theorem Keeps.warnRound (h : Keeps s₀ s) {die hot : Int} : Keeps s₀ (s.warnRound die hot) := by
  unfold State.warnRound
  extract_lets w on s1
  have h1 : Keeps s₀ s1 := .ite h.setBit.raise (Keeps.ite h.setBit.raise h)
  exact .ite h1.same.enterSafe (Keeps.ite h1.same.causeEnds h1.same)

theorem Keeps.limits (h : Keeps s₀ s) {die hot : Int} : Keeps s₀ (s.limits die hot) :=
  h.warnRound.rateRound.same.setBit.releaseThrottle

theorem Keeps.roundEnds (h : Keeps s₀ s) : Keeps s₀ s.roundEnds := by
  unfold State.roundEnds
  extract_lets hot
  clear_value hot
  split
  · exact h.same.setTemp.limits
  · exact h.same.setFld

theorem Keeps.seqFail (h : Keeps s₀ s) {reason : Nat} : Keeps s₀ (s.seqFail reason) := h.same.setBit.setBit.raise

theorem Keeps.sensorRound (h : Keeps s₀ s) {r : List Int} : Keeps s₀ (s.sensorRound r) := by
  unfold State.sensorRound
  extract_lets
  exact .ite h.same.seqFail ((h.same.each (fun _ _ hn => hn.convert)).each (fun _ _ hn => hn.checkSensor)).roundEnds

theorem execHlthSensorRound_lands (h : Keeps s₀ (s.advance t)) {readings : List Int} :
    Lands s₀ (execHlthSensorRound t readings s) :=
  .next (Keeps.ite h h.sensorRound)

theorem execHlthRoundOverdue_lands (h : Keeps s₀ (s.advance t)) : Lands s₀ (execHlthRoundOverdue t s) :=
  .next (Keeps.ite h h.seqFail)

theorem Keeps.stackRead (h : Keeps s₀ s) {g : Nat} {v : Option Int} : Keeps s₀ (s.stackRead g v) := by
  unfold State.stackRead
  split
  · exact .ite h.same.setBit h.same.setBit.raise
  · exact .ite h.same.same.setTemp.setBit h.same

theorem Keeps.refreshRate (h : Keeps s₀ s) : Keeps s₀ s.refreshRate := by
  unfold State.refreshRate
  extract_lets
  split
  · exact .ite h h.setFld.raise
  · split
    · exact h
    · exact .ite h h.setFld.raise

theorem execHbmStackSensorRead_lands (h : Keeps s₀ (s.advance t)) {sensors : List (Option Int)} :
    Lands s₀ (execHbmStackSensorRead t sensors s) :=
  .next (Keeps.ite h (h.each (fun _ _ hn => hn.stackRead)).refreshRate)

theorem execHlthOndemandRead_lands (h : Keeps s₀ (s.advance t)) {readings : List Int} :
    Lands s₀ (execHlthOndemandRead t readings s) := by
  unfold execHlthOndemandRead
  extract_lets s1 s2 s3
  have h3 : Keeps s₀ s3 := (h.each (fun _ _ hn => hn.convert)).each fun _ _ hn => hn.stackRead
  exact .next (Keeps.ite h (Keeps.ite h3.refreshRate h3).roundEnds)

theorem execThrottleStep2Timeout_lands (h : Keeps s₀ (s.advance t)) : Lands s₀ (execThrottleStep2Timeout t s) := by
  unfold execThrottleStep2Timeout
  extract_lets
  apply Lands.next
  split
  · exact .ite h h.decideStep
  · exact h

theorem execThrottleReleaseTimeout_lands (h : Keeps s₀ (s.advance t)) : Lands s₀ (execThrottleReleaseTimeout t s) := by
  unfold execThrottleReleaseTimeout
  extract_lets
  apply Lands.next
  split
  · exact .ite h h.releaseThrottle
  · exact h

theorem Keeps.latchClock (h : Keeps s₀ s) {frameNo : Nat} : Keeps s₀ (s.latchClock frameNo) :=
  .ite h (Keeps.ite h.setBit h.setBit.setFld.raise).aimVolts

theorem execHlthCtlRead_lands (h : Keeps s₀ (s.advance t)) {req : Requester} : Lands s₀ (execHlthCtlRead t req s) :=
  .next (h.control (fun _ hn => hn))

theorem execHlthCtlClearSuspect_lands (h : Keeps s₀ (s.advance t)) {req : Requester} : Lands s₀ (execHlthCtlClearSuspect t req s) :=
  .next (h.control (fun _ hn => hn.each (fun _ _ hn1 => hn1.setSensor.setBit)))

theorem execHlthCtlRestore_lands (h : Keeps s₀ (s.advance t)) {req : Requester} : Lands s₀ (execHlthCtlRestore t req s) :=
  .next (h.control (fun _ hn => .ite hn.same hn.raise))

theorem Keeps.refreshCalSum (h : Keeps s₀ s) : Keeps s₀ s.refreshCalSum := h.setNat

theorem Keeps.calResolve (h : Keeps s₀ s) {i result : Nat} {trim : Option Nat} : Keeps s₀ (s.calResolve i result trim) := by
  unfold State.calResolve
  extract_lets _ s1 s2 s3
  have h2 : Keeps s₀ s2 := by
    unfold s2
    split
    · exact h.same.setNat
    · exact h.same
  have h3 : Keeps s₀ s3 := h2.setFld.applyCal.refreshCalSum
  exact .ite h3.startThm h3

theorem Keeps.calFail (h : Keeps s₀ s) {i reason : Nat} {got : List (Option Nat)} : Keeps s₀ (s.calFail i reason got) :=
  h.calResolve.raise

theorem Keeps.calMeasured (h : Keeps s₀ s) {i : Nat} {v : Option Nat} : Keeps s₀ (s.calMeasured i v) := by
  unfold State.calMeasured
  split
  · exact h
  · split
    · exact h
    · extract_lets
      split
      · split
        · exact h.same.calResolve
        · exact h.same.calFail
      · exact .ite h.same h.same.calFail

theorem execCalMeasureDone_lands (h : Keeps s₀ (s.advance t)) {item value : Nat} : Lands s₀ (execCalMeasureDone t item value s) :=
  .next h.calMeasured

theorem execCalMeasureTimeout_lands (h : Keeps s₀ (s.advance t)) {item : Nat} : Lands s₀ (execCalMeasureTimeout t item s) :=
  .next (Keeps.ite h h.calMeasured)

theorem Keeps.calLands (h : Keeps s₀ s) {i : Nat} : Keeps s₀ (s.calLands i) := .ite h.applyCal h

theorem Keeps.calCommit (h : Keeps s₀ s) {landed : List PendWrite} {frameNo : Nat} : Keeps s₀ (s.calCommit landed frameNo) := by
  unfold State.calCommit
  extract_lets
  split
  · exact .ite (h.same.each (fun _ _ hn => hn.setBit.calLands)).raise (h.each (fun _ _ hn => hn.calLands))
  · exact h.each fun _ _ hn => hn.calLands

theorem Keeps.measurePairs (h : Keeps s₀ s) {pairs : List (Nat × Nat)} : Keeps s₀ (s.measurePairs pairs) :=
  (h.each (fun _ _ hn => hn.setNat)).setFld.refreshMargin

theorem execAgeingMeasure_lands (h : Keeps s₀ (s.advance t)) {pairs : List (Nat × Nat)} : Lands s₀ (execAgeingMeasure t pairs s) :=
  .next (Keeps.ite h h.same.measurePairs.incFld.healthLog.healthLog)

theorem execHlthCtlReplan_lands (h : Keeps s₀ (s.advance t)) {req : Requester} : Lands s₀ (execHlthCtlReplan t req s) :=
  .next (h.control (fun _ hn => by
      split
      · exact hn.raise
      · extract_lets
        exact ((hn.setBit.each (fun _ _ hn1 => hn1.retrainNow)).hbmOff.each (fun _ _ hn1 => hn1.dropDomain)).askDomains))

theorem execHlthReplanDone_lands (h : Keeps s₀ (s.advance t)) {pairs : List (Nat × Nat)} :
    Lands s₀ (execHlthReplanDone t pairs s) :=
  .next (Keeps.ite h h.measurePairs.same.setBit.setBit.refreshMargin.raise)

end Sys2Proof.Machine
end

section
/-! SUPPORT.  What the meanings keep of clock, queue and form: writes that land; courses. -/

namespace Sys2Proof.Machine

set_option Elab.async false

variable {s₀ s : State} {t : Nat}

/-! ## Writes that land -/

theorem Keeps.gpioClaims (h : Keeps s₀ s) {due : List PendWrite} : Keeps s₀ (s.gpioClaims due).1 := by
  unfold State.gpioClaims
  extract_lets oe en traceWas kept blocked trace refused own s1 s2
  have h2 : Keeps s₀ s2 := (Keeps.ite (h.each (fun _ _ hn => hn.raise)) h).each fun _ _ hn => hn.raise
  exact (Keeps.ite h2.setNat (Keeps.ite h2.setNat.same.setReg h2.setNat.same))

theorem Keeps.landExpert (h : Keeps s₀ s) {p : PendWrite} : Keeps s₀ (s.landExpert p) := by
  unfold State.landExpert
  split
  · exact h.land.setFld
  · split
    · exact h.land.setFld
    · split
      · exact (h.reshape (fun _ hn => hn.land)).setFld
      · exact (h.reshape (fun _ hn => hn.land)).setFld
      · exact .ite h.settleBucket.land h.land

theorem Keeps.landBasic (h : Keeps s₀ s) {p : PendWrite} : Keeps s₀ (s.landBasic p) := by
  unfold State.landBasic
  split
  · exact h.reshape (fun _ hn => hn.land)
  · exact h.land

theorem Keeps.expandPresets (h : Keeps s₀ s) {old : State} : Keeps s₀ (s.expandPresets old) := by
  unfold State.expandPresets
  extract_lets zones _ s1 ct s2
  have h2 : Keeps s₀ s2 := .ite h.same (Keeps.ite h.same.expandCt (h.same.each (fun _ _ hn => hn.regenZone.zoneDefaulted)))
  exact (Keeps.ite h2.expandXfer h2).each (fun _ _ hn => .ite hn (hn.reshape (fun _ hn1 => hn1.expandShape)))

theorem Keeps.warpSources (h : Keeps s₀ s) {landed : List PendWrite} : Keeps s₀ (s.warpSources landed) := by
  unfold State.warpSources
  extract_lets
  exact (h.same.each (fun _ _ hn => hn.setFld)).foldl fun _ _ hn => .ite hn (Keeps.ite hn.setFld (Keeps.ite hn.setFld hn))

theorem Keeps.windowsChanged (h : Keeps s₀ s) {old : State} : Keeps s₀ (s.windowsChanged old) :=
  h.each fun _ _ hn => .ite hn hn.resetWindow

theorem Keeps.groupsChanged (h : Keeps s₀ s) {old : State} : Keeps s₀ (s.groupsChanged old) := h.same

theorem Keeps.ofFst {α : Type} {p : State × α} {n : State} {b : α} (h : Keeps s₀ p.1) (he : p = (n, b)) : Keeps s₀ n := by
  subst he
  exact h

theorem Keeps.applyCommit (h : Keeps s₀ s) {frameNo : Nat} : Keeps s₀ (s.applyCommit frameNo) := by
  unfold State.applyCommit
  extract_lets old due s1
  have h1 : Keeps s₀ s1 := h.same
  clear_value due s1
  split
  next n l hl =>
    have hn : Keeps s₀ n := Keeps.ofFst h1.ballClaims hl
    clear hl
    split
    next n l hl =>
      have hn : Keeps s₀ n := Keeps.ofFst hn.gpioClaims hl
      clear hl
      extract_lets basic expert s2 s3 s4 s5 s6 s7 s8
      have h2 : Keeps s₀ s2 := hn.each fun _ _ hn => hn.landBasic
      have h4 : Keeps s₀ s4 := h2.expandPresets.each fun _ _ hn => hn.landExpert
      clear_value s4
      have h7 : Keeps s₀ s7 := h4.warpSources.windowsChanged.groupsChanged.calCommit
      exact (Keeps.ite h7.startRetime h7).flipDescs.refreshPending

/-! ## Courses -/

theorem Keeps.setLink (h : Keeps s₀ s) {l : LinkFrame} : Keeps s₀ (s.setLink l) := h.same

theorem Keeps.issueCourse (h : Keeps s₀ s) {f : FrameInfo} {l : LinkFrame} {i : Nat} : Keeps s₀ (s.issueCourse f l i) :=
  .ite h (h.same.each (fun _ _ hn => hn.queueFlat)).touchHbm

theorem Keeps.refreshEligible (h : Keeps s₀ s) : Keeps s₀ s.refreshEligible := h.each fun _ _ hn => .ite hn hn.same

theorem Keeps.undeal (h : Keeps s₀ s) : Keeps s₀ s.undeal := .ite h h.same

theorem Keeps.dispatch (h : Keeps s₀ s) : Keeps s₀ s.dispatch := by
  unfold State.dispatch
  extract_lets
  split
  · exact h.undeal
  · exact h.undeal.same.each fun _ _ hn => .ite hn hn.same

theorem Keeps.runEngine (h : Keeps s₀ s) : Keeps s₀ s.runEngine := h.refreshEligible.dispatch

theorem Keeps.showOff (h : Keeps s₀ s) : Keeps s₀ s.showOff := .ite h h.setPair.setBit

theorem Keeps.takeOff (h : Keeps s₀ s) {ply : Nat} : Keeps s₀ (s.takeOff ply) := (h.same.each (fun _ _ hn => hn.endFlat)).showOff

theorem Keeps.tellOff (h : Keeps s₀ s) {ply reason link frame : Nat} : Keeps s₀ (s.tellOff ply reason link frame) :=
  .ite h.sendPartner h

theorem Keeps.switchOff (h : Keeps s₀ s) {f : FrameInfo} {ply reason link course : Nat} :
    Keeps s₀ (s.switchOff f ply reason link course) :=
  .ite h h.takeOff.raise.tellOff

theorem Keeps.runShed (h : Keeps s₀ s) {f : FrameInfo} {link course : Nat} : Keeps s₀ (s.runShed f link course) := by
  unfold State.runShed
  split
  · exact h
  · split
    · exact h
    · exact h.same.takeOff.raise.tellOff

theorem Keeps.fetchFailed (h : Keeps s₀ s) {link course ply reason : Nat} : Keeps s₀ (s.fetchFailed link course ply reason) := by
  unfold State.fetchFailed
  split
  · exact h
  · exact (Keeps.ite h.same h.switchOff).runEngine

theorem Keeps.fetchDone (h : Keeps s₀ s) {link course ply : Nat} : Keeps s₀ (s.fetchDone link course ply) := by
  unfold State.fetchDone
  split
  · extract_lets flat engine bad
    split
    · exact h.fetchFailed
    · clear_value bad
      split
      · exact h.markLost.raise.fetchFailed
      · exact h.same.endFlat.touchHbm.runEngine
  · exact h

theorem execPlyFetchDone_lands (h : Keeps s₀ (s.advance t)) {link : Fin 128} {course ply : Nat} :
    Lands s₀ (execPlyFetchDone t link course ply s) :=
  .next h.fetchDone

theorem Keeps.fetchFails (h : Keeps s₀ s) {link course ply reason : Nat} : Keeps s₀ (s.fetchFails link course ply reason) :=
  .ite h.fetchFailed h

theorem execPlyFetchFail_lands (h : Keeps s₀ (s.advance t)) {link : Fin 128} {course ply reason : Nat} :
    Lands s₀ (execPlyFetchFail t link course ply reason s) :=
  .next h.fetchFails

theorem Keeps.sendData (h : Keeps s₀ s) {l : LinkFrame} {course : Nat} {ws : List Word} : Keeps s₀ (s.sendData l course ws).1 :=
  .ite h.putSlot.emit h

theorem Keeps.sendFull (h : Keeps s₀ s) {l : LinkFrame} {course fuel : Nat} : Keeps s₀ (s.sendFull l course fuel).1 := by
  induction fuel generalizing s l with
  | zero => exact h
  | succ k ih =>
    unfold State.sendFull
    split
    · exact h
    · exact ih h.sendData

theorem Keeps.sendStitches (h : Keeps s₀ s) {l : LinkFrame} {course : Nat} {ws : List Word} :
    Keeps s₀ (s.sendStitches l course ws).1 :=
  h.sendFull

theorem Keeps.padBlock (h : Keeps s₀ s) {f : FrameInfo} {l : LinkFrame} {course : Nat} : Keeps s₀ (s.padBlock f l course).1 := by
  unfold State.padBlock
  split
  · exact h
  · exact h.sendData

theorem Keeps.sendHold (h : Keeps s₀ s) {f : FrameInfo} {l : LinkFrame} {course n : Nat} : Keeps s₀ (s.sendHold f l course n).1 :=
  h.padBlock.sendStream

theorem Keeps.sendCourse (h : Keeps s₀ s) {f : FrameInfo} {l : LinkFrame} {i : Nat} : Keeps s₀ (s.sendCourse f l i).1 := by
  unfold State.sendCourse
  split
  · exact h
  · exact h.sendPanel

theorem Keeps.endCourse (h : Keeps s₀ s) {f : FrameInfo} {l : LinkFrame} : Keeps s₀ (s.endCourse f l).1 := h.padBlock.sendStream

theorem Keeps.flushCourse (h : Keeps s₀ s) {f : FrameInfo} {l : LinkFrame} {fuel : Nat} : Keeps s₀ (s.flushCourse f l fuel).1 := by
  induction fuel generalizing s l with
  | zero => exact h
  | succ k ih =>
    unfold State.flushCourse
    extract_lets i
    split
    · exact h
    · split
      · exact h.endCourse
      · split
        · exact ih h.sendHold
        · split
          · exact h
          · exact ih h.sendStitches.same

theorem Keeps.endStall (h : Keeps s₀ s) {l : LinkFrame} : Keeps s₀ (s.endStall l).1 := by
  unfold State.endStall
  split
  · exact h
  · exact h.same.useFresh

theorem Keeps.checkWithdrawn (h : Keeps s₀ s) : Keeps s₀ s.checkWithdrawn := .ite h.withdrawn h

theorem Keeps.flushLink (h : Keeps s₀ s) {f : FrameInfo} {link : Nat} : Keeps s₀ (s.flushLink f link) := by
  unfold State.flushLink
  split
  · exact h
  · extract_lets r e
    have he : Keeps s₀ e.1 := by
      unfold e
      split
      · exact h.flushCourse
      · exact h.flushCourse.endStall
    exact he.setLink.checkWithdrawn

theorem Keeps.finishSpan (h : Keeps s₀ s) {link course span : Nat} : Keeps s₀ (s.finishSpan link course span) := by
  unfold State.finishSpan
  split
  · split
    · exact h
    · exact .ite h.same.dispatch h.same.dispatch.flushLink
  · exact h

theorem Keeps.lineError (h : Keeps s₀ s) {link course line : Nat} : Keeps s₀ (s.lineError link course line) := by
  unfold State.lineError
  extract_lets
  split
  · exact h.same.same
  · split
    · exact h.same.same
    · split
      · exact h.same.same.switchOff.runEngine
      · exact h.same.same

theorem Keeps.spanEnds (h : Keeps s₀ s) {link course span : Nat} {lines : List Nat} :
    Keeps s₀ (s.spanEnds link course span lines) := by
  unfold State.spanEnds
  extract_lets one s1
  have h1 : Keeps s₀ s1 := h.each fun _ _ hn => hn.lineError
  exact .ite h (Keeps.ite h1.finishSpan h1.same)

theorem execSpanDone_lands (h : Keeps s₀ (s.advance t)) {link : Fin 128} {course span : Nat} {parityLines : List Nat} :
    Lands s₀ (execSpanDone t link course span parityLines s) :=
  .next h.spanEnds

theorem Keeps.lineArrives (h : Keeps s₀ s) {line : Nat} : Keeps s₀ (s.lineArrives line) :=
  .ite h (h.same.each (fun _ _ hn => hn.finishSpan))

theorem execCacheRefetchDone_lands (h : Keeps s₀ (s.advance t)) {line : Nat} : Lands s₀ (execCacheRefetchDone t line s) :=
  .next h.lineArrives

theorem Keeps.inTime (h : Keeps s₀ s) : Keeps s₀ s.inTime :=
  h.foldl fun _ _ hn => by
      split
      · exact hn.fetchDone
      · exact hn.fetchFails
      · exact hn.spanEnds
      · exact hn.lineArrives
      · exact hn

theorem Keeps.openChecks (h : Keeps s₀ s) {f : FrameInfo} {l : LinkFrame} {i : Nat} : Keeps s₀ (s.openChecks f l i) := by
  unfold State.openChecks
  extract_lets late slow _ s1 s2
  have h2 : Keeps s₀ s2 := (Keeps.ite h h.same).each fun _ _ hn => hn.switchOff
  exact .ite (Keeps.ite h2.same h2.same.runShed) h2

theorem Keeps.darkCourse (h : Keeps s₀ s) {f : FrameInfo} {l : LinkFrame} : Keeps s₀ (s.darkCourse f l).1 :=
  h.sendStitches.endCourse

theorem Keeps.dropCourse (h : Keeps s₀ s) {p : Nat → Nat → Bool} : Keeps s₀ (s.dropCourse p) := h.same

theorem Keeps.openCourse (h : Keeps s₀ s) {f : FrameInfo} {l : LinkFrame} {i : Nat} : Keeps s₀ (s.openCourse f l i) := by
  unfold State.openCourse
  split
  · exact h.sendCourse.darkCourse.setLink.dropCourse.dispatch
  · extract_lets s1 holds r _ s2 gone fs s3 s4
    have hr : Keeps s₀ r.1 := h.openChecks.sendCourse
    have h4 : Keeps s₀ s4 := by
      unfold s4
      split
      · exact hr.setLink.same.issueCourse
      · exact hr.setLink.same
    exact h4.runEngine.flushLink

theorem execCourseOpen_lands (h : Keeps s₀ (s.advance t)) {link : Fin 128} {course : Nat} :
    Lands s₀ (execCourseOpen t link course s) := by
  unfold execCourseOpen
  extract_lets
  apply Lands.next
  split
  · exact h
  · split
    · exact h.inTime.openCourse
    · exact h.inTime

theorem Keeps.holdCourse (h : Keeps s₀ s) {f : FrameInfo} {l : LinkFrame} {i : Nat} : Keeps s₀ (s.holdCourse f l i).1 :=
  h.sendCourse.sendHold.endCourse

theorem Keeps.holdRest (h : Keeps s₀ s) {f : FrameInfo} {l : LinkFrame} {fuel : Nat} : Keeps s₀ (s.holdRest f l fuel).1 := by
  induction fuel generalizing s l with
  | zero => exact h
  | succ k ih =>
    unfold State.holdRest
    split
    · exact h
    · exact ih h.holdCourse

theorem Keeps.cutCourse (h : Keeps s₀ s) {f : FrameInfo} {l : LinkFrame} : Keeps s₀ (s.cutCourse f l).1 := by
  unfold State.cutCourse
  split
  · extract_lets n r
    have hr : Keeps s₀ r.1 := by
      unfold r
      split
      · exact h.sendHold
      · exact h
    exact hr.endCourse
  · exact h

theorem execTCutExpiry_lands (h : Keeps s₀ (s.advance t)) {link : Fin 128} : Lands s₀ (execTCutExpiry t link s) := by
  unfold execTCutExpiry
  extract_lets
  apply Lands.next
  split
  · split
    · exact h
    · extract_lets
      exact (h.endStall.cutCourse.holdRest.setLink.dropCourse.same.each (fun _ _ hn => hn.endFlat)).dispatch.raise.checkWithdrawn
  · exact h

theorem Keeps.beginFrame (h : Keeps s₀ s) {f : FrameInfo} : Keeps s₀ (s.beginFrame f) :=
  (h.dropFlats.same.each (fun _ _ hn => hn.foldl fun _ _ hn1 => hn1.issueCourse)).runEngine

end Sys2Proof.Machine
end

section
/-! SUPPORT.  What the meanings keep of clock, queue and form: the twin; frames; strips. -/

namespace Sys2Proof.Machine

set_option Elab.async false

variable {s₀ s : State} {t : Nat}

/-! ## The twin -/

theorem Keeps.startExchange (h : Keeps s₀ s) {old : State} {go : Bool} {frame : Nat} : Keeps s₀ (s.startExchange old go frame) :=
  .ite h.same.sendPartner h.same

theorem Keeps.undoFlip (h : Keeps s₀ s) {n : Nat} {keep : Bool} : Keeps s₀ (s.undoFlip n keep) := by
  unfold State.undoFlip
  split
  · exact h
  · exact (h.each (fun _ _ hn => hn.setReg)).same

theorem Keeps.latchGroups (h : Keeps s₀ s) {frameNo : Nat} : Keeps s₀ (s.latchGroups frameNo) :=
  (h.each (fun _ _ hn => hn.latchGroup)).refreshNeedle

theorem Keeps.restartFrame (h : Keeps s₀ s) {g : FrameInfo} {order : List PlyRef} : Keeps s₀ (s.restartFrame g order) :=
  h.same.beginFrame.same

theorem Keeps.reconcile (h : Keeps s₀ s) {d p : Digest} {g : FrameInfo} : Keeps s₀ (s.reconcile d p g) := by
  unfold State.reconcile
  extract_lets fr bad held drop off s1 s2 s3 changed _ s4 shed _ s5
  have h3 : Keeps s₀ s3 := ((h.each (fun _ _ hn => hn.undoFlip.raise)).each (fun _ _ hn => hn.undoFlip.dropFlips.raise)).each
    fun _ _ hn => hn.setBit.raise
  have h4 : Keeps s₀ s4 := .ite h3 h3.same
  have h5 : Keeps s₀ s5 := h4.same.refreshPending
  exact .ite h4 (Keeps.ite h5 h5.latchGroups).same.setPair.showPlies.restartFrame

theorem Keeps.sendDigest2 (h : Keeps s₀ s) {g : FrameInfo} : Keeps s₀ (s.sendDigest2 g) := h.same.sendPartner

theorem Keeps.nameJoin (h : Keeps s₀ s) : Keeps s₀ s.nameJoin := .ite h.same.sendPartner h

theorem Keeps.takeDigest1 (h : Keeps s₀ s) {p : Digest} : Keeps s₀ (s.takeDigest1 p) := by
  unfold State.takeDigest1
  split
  · exact .ite h h.reconcile.sendDigest2
  · exact h

theorem Keeps.takeDigest2 (h : Keeps s₀ s) {frame crc : Nat} : Keeps s₀ (s.takeDigest2 frame crc) := by
  unfold State.takeDigest2
  split
  · exact h
  · exact .ite h (Keeps.ite h.same h.same.raise).nameJoin

theorem execChainLatchDigest_lands (h : Keeps s₀ (s.advance t)) {port : Fin 4} {packet : List Byte} :
    Lands s₀ (execChainLatchDigest t port packet s) :=
  .next (Keeps.ite h (Keeps.ite h.takeDigest1 h.takeDigest2))

theorem execDigestTimeout_lands (h : Keeps s₀ (s.advance t)) : Lands s₀ (execDigestTimeout t s) := by
  unfold execDigestTimeout
  extract_lets
  apply Lands.next
  split
  · exact .ite h (Keeps.ite (Keeps.ite h.same.sendDigest2.raise h.same).same.raise (Keeps.ite h.same.sendDigest2.raise h.same))
  · exact h

theorem execChainPlyOff_lands (h : Keeps s₀ (s.advance t)) {port : Fin 4} {packet : List Byte} :
    Lands s₀ (execChainPlyOff t port packet s) := by
  unfold execChainPlyOff
  extract_lets
  apply Lands.next
  split
  · exact h
  · exact .ite h h.takeOff.runEngine.raise

theorem execChainJoinFrame_lands (h : Keeps s₀ (s.advance t)) {port : Fin 4} {packet : List Byte} :
    Lands s₀ (execChainJoinFrame t port packet s) :=
  .next (Keeps.ite h h.same)

theorem Keeps.joinAtLatch (h : Keeps s₀ s) {frame : Nat} : Keeps s₀ (s.joinAtLatch frame) := by
  unfold State.joinAtLatch
  split
  · exact h
  · exact .ite h h.same.enterChain.raise

theorem Keeps.joinAtFlip (h : Keeps s₀ s) {frame : Nat} : Keeps s₀ (s.joinAtFlip frame) := by
  unfold State.joinAtFlip
  split
  · exact h
  · exact .ite h h.same.setFull

/-! ## Frames -/

theorem Keeps.closePerf (h : Keeps s₀ s) {f : FrameInfo} : Keeps s₀ (s.closePerf f) :=
  h.setNat.setNat.setNat.setNat.setNat.setNat.setNat.setNat.setNat.setNat.setNat

theorem Keeps.latchCommit (h : Keeps s₀ s) {count frameNo : Nat} : Keeps s₀ (s.latchCommit count frameNo).1 := by
  unfold State.latchCommit
  extract_lets
  split
  · exact h.same.applyCommit.same.setBit.setBit.setFld
  · exact h.same.same

theorem Keeps.latchMode (h : Keeps s₀ s) {count : Nat} : Keeps s₀ (s.latchMode count).1 := by
  unfold State.latchMode
  split
  · exact h
  · split
    · exact h
    · split
      · exact h.enterBindOff.setStage'
      · extract_lets
        split
        · exact h.finishMode
        · exact h.same.setTarget.refuseMode

theorem Keeps.placeFrame (h : Keeps s₀ s) {f : FrameInfo} {form : Form} {go : Bool} : Keeps s₀ (s.placeFrame f form go).1 := by
  unfold State.placeFrame
  extract_lets
  split
  · exact h.same.raise
  · exact h.reportClamp
  · exact h

theorem Keeps.noteLatched (h : Keeps s₀ s) {f g : FrameInfo} {order : List PlyRef} : Keeps s₀ (s.noteLatched f g order) := h.same

theorem Keeps.holdBlocked (h : Keeps s₀ s) : Keeps s₀ s.holdBlocked := h.each fun _ _ hn => hn.setBit

theorem Keeps.probeTile (h : Keeps s₀ s) {seg c k : Nat} : Keeps s₀ (s.probeTile seg c k) := by
  unfold State.probeTile
  split
  · exact h
  · exact h.same.setTile.setFld.sendPanelAt

theorem Keeps.nextSegment (h : Keeps s₀ s) {seg : Nat} : Keeps s₀ (s.nextSegment seg) :=
  .ite (h.setFld.incFld.each (fun _ _ hn => .ite hn.setTile hn.showProbes)) h.setFld

theorem Keeps.probePanel (h : Keeps s₀ s) {front : EmitSet} {f g : FrameInfo} : Keeps s₀ (s.probePanel front f g) :=
  .ite h (Keeps.ite (h.each (fun _ _ hn => hn.probeTile)).nextSegment h.raise)

theorem Keeps.sendBoundary (h : Keeps s₀ s) {f : FrameInfo} {rate : Nat} : Keeps s₀ (s.sendBoundary f rate) :=
  (h.each (fun _ _ hn => hn.sendPanel)).each fun _ _ hn => hn.sendPanel

theorem Keeps.markLatch (h : Keeps s₀ s) {go : Bool} : Keeps s₀ (s.markLatch go) := .ite h.traceSend h

theorem Keeps.openBoundary (h : Keeps s₀ s) {f : FrameInfo} : Keeps s₀ (s.openBoundary f) :=
  h.closePerf.same.setBit.leadAtLatch.landGrid

theorem Keeps.latchPlies (h : Keeps s₀ s) {f g : FrameInfo} : Keeps s₀ (s.latchPlies f g) :=
  h.latchGroups.project.showPlies.noteLatched

/-- Commit, venue, mode and cadence of a boundary. -/
theorem Keeps.latchHead (h : Keeps s₀ s) {f : FrameInfo} {count frameNo : Nat} : Keeps s₀ (s.latchHead f count frameNo).st :=
  h.latchCommit.venueBoundary.latchMode.placeFrame

theorem Keeps.latchHeadOf (h : Keeps s₀ s) {f : FrameInfo} {count : Nat} : Keeps s₀ (s.latchHeadOf f count).st := by
  unfold State.latchHeadOf
  extract_lets hd
  split
  · exact h.latchHead
  · exact h.latchHead

theorem Keeps.latchFrame (h : Keeps s₀ s) {f : FrameInfo} : Keeps s₀ (s.latchFrame f) := by
  unfold State.latchFrame
  extract_lets old rate front s1 hd g s2 _ s3
  have hh : Keeps s₀ hd.st := h.openBoundary.latchHeadOf
  have h3 : Keeps s₀ s3 := .ite hh.latchClock.same hh.latchClock
  exact h3.latchPlies.latchEmit.latchBands.setBit.storeLatch.same.sendBoundary
    |>.joinAtLatch.startExchange.pumpConfigs.probePanel.holdBlocked.beginFrame.retarget.markLatch

theorem Keeps.latchNow (h : Keeps s₀ s) : Keeps s₀ s.latchNow := by
  unfold State.latchNow
  split
  · exact .ite h.latchFrame h
  · exact h

theorem Keeps.openWindow (h : Keeps s₀ s) {f g : FrameInfo} : Keeps s₀ (s.openWindow f g) :=
  h.same.setBit.showFrame.noteSent.setNat.showOff.storeFlip

theorem execFrameFlip_lands (h : Keeps s₀ (s.advance t)) : Lands s₀ (execFrameFlip t s) := by
  unfold execFrameFlip
  extract_lets
  apply Lands.next
  split
  · exact .ite h (Keeps.ite h.flipEmit.joinAtFlip.startBindRun h.flipEmit.joinAtFlip.openWindow)
  · exact h

theorem execHbmRetimeDone_lands (h : Keeps s₀ (s.advance t)) : Lands s₀ (execHbmRetimeDone t s) :=
  .next (Keeps.ite h.endRetime h)

/-! ## Strips -/

theorem Keeps.stripLink (h : Keeps s₀ s) {g : FrameInfo} {first : Nat} {dark : Bool} {fuel : Nat} {l : LinkFrame} :
    Keeps s₀ (s.stripLink g first dark fuel l) := by
  induction fuel generalizing s l with
  | zero => exact h
  | succ k ih => exact ih h.sendCourse.sendStitches.endCourse

theorem Keeps.sendStrip (h : Keeps s₀ s) {g : FrameInfo} {dark : Bool} : Keeps s₀ (s.sendStrip g dark) := by
  unfold State.sendStrip
  extract_lets
  exact (((h.each (fun _ _ hn => hn.stripLink)).noteSent.each (fun _ _ hn => hn.sendPanel)).each (fun _ _ hn => hn.sendPanel)).same

theorem Keeps.stripLeaves (h : Keeps s₀ s) : Keeps s₀ s.stripLeaves :=
  .ite h.same.same.stopCadence.setSeq.startPowerUp h.same.startBindRun

theorem Keeps.stripFlips (h : Keeps s₀ s) : Keeps s₀ s.stripFlips := by
  unfold State.stripFlips
  split
  · exact h
  · extract_lets _ s1 s2
    have h2 : Keeps s₀ s2 := h.same.setFld.setBit
    exact .ite h2.stripLeaves (Keeps.ite h2.incFld.setCodes h2.incFld)

theorem Keeps.stripOpens (h : Keeps s₀ s) {c : Cadence} {f : FrameInfo} : Keeps s₀ (s.stripOpens c f) := by
  unfold State.stripOpens
  extract_lets n w g _ s1 s2
  have h2 : Keeps s₀ s2 := h.same.setBit.showFrame
  exact .ite h2.setNat.sendStrip (Keeps.ite h2.setNat.sendStrip h2.setNat)

theorem execStripWindowOpen_lands (h : Keeps s₀ (s.advance t)) : Lands s₀ (execStripWindowOpen t s) := by
  unfold execStripWindowOpen
  extract_lets s1 s2
  have h2 : Keeps s₀ s2 := h.stripFlips
  apply Lands.next
  split
  · exact .ite h (Keeps.ite h2.stripOpens h2)
  · exact h

end Sys2Proof.Machine
end

section
/-! SUPPORT.  What the meanings keep of clock, queue and form: the event ring; the rows that a write runs; resets. -/

namespace Sys2Proof.Machine

set_option Elab.async false

variable {s₀ s : State} {t : Nat}

/-! ## The event ring -/

theorem Keeps.enableRing (h : Keeps s₀ s) : Keeps s₀ s.enableRing := h.same.setNat.setNat.setNat.each fun _ _ hn => hn.toRing

theorem Keeps.disableRing (h : Keeps s₀ s) : Keeps s₀ s.disableRing := h.setBit.setBit

theorem Keeps.ringConfig (h : Keeps s₀ s) {req : Requester} {w : Word} : Keeps s₀ (s.ringConfig req w) :=
  .ite (Keeps.ite h.store' h.store'.enableRing) h.store'.disableRing

theorem execEvtRingEnable_lands (h : Keeps s₀ (s.advance t)) {req : Requester} {data : Word} :
    Lands s₀ (execEvtRingEnable t req data s) :=
  .next (h.guarded (fun _ _ hn => hn.ringConfig))

theorem execEvtTailWrite_lands (h : Keeps s₀ (s.advance t)) {req : Requester} {data : Word} :
    Lands s₀ (execEvtTailWrite t req data s) :=
  .next (h.guarded (fun _ _ hn => .ite hn.store'.flushLost hn.store'))

theorem execEvtRingWriteError_lands (h : Keeps s₀ (s.advance t)) {slot reason : Nat} :
    Lands s₀ (execEvtRingWriteError t slot reason s) :=
  .next (Keeps.ite h.disableRing.raise h)

theorem Keeps.vecSend (h : Keeps s₀ s) {v : Nat} : Keeps s₀ (s.vecSend v) := .ite h.msixSend h.same

theorem execMsixIntervalEnd_lands (h : Keeps s₀ (s.advance t)) {vector : Fin 32} : Lands s₀ (execMsixIntervalEnd t vector s) :=
  .next (Keeps.ite h (Keeps.ite h.same h.msixSend))

theorem execMsixVectorUnmask_lands (h : Keeps s₀ (s.advance t)) {vector : Fin 32} : Lands s₀ (execMsixVectorUnmask t vector s) :=
  .next (Keeps.ite h.same.same.vecSend h.same)

theorem Keeps.traceLoss (h : Keeps s₀ s) : Keeps s₀ s.traceLoss := .ite h.same h

theorem execTracePacketSent_lands (h : Keeps s₀ (s.advance t)) : Lands s₀ (execTracePacketSent t s) := by
  unfold execTracePacketSent
  extract_lets
  apply Lands.next
  split
  · exact h
  · exact .ite h h.emit.same.traceLoss

theorem execGpioInputChange_lands (h : Keeps s₀ (s.advance t)) {ball : Fin 16} {level : Bool} :
    Lands s₀ (execGpioInputChange t ball level s) :=
  .next h.setBit

/-! ## The rows that a write runs -/

theorem Lands.state {r : Res} (h : Lands s₀ r) : Keeps s₀ (r.state s) := by
  obtain ⟨n, rfl, hn⟩ := h
  exact hn

/-- A row that a bit spells, in the cycle of the write. -/
theorem Keeps.bitRow (h : Keeps s₀ s) {b : Bool} {f : State → Res} (hf : ∀ u : State, Keeps s₀ u → Lands s₀ (f u)) :
    Keeps s₀ (s.bitRow b f) := .ite (hf s h).state h

/-- Whatever state is there comes from `s₀`. -/
def KeepsAny (s₀ : State) (o : Option State) : Prop := ∀ n ∈ o, Keeps s₀ n

theorem KeepsAny.some (h : Keeps s₀ s) : KeepsAny s₀ (some s) := fun _ hn => Option.some.inj hn ▸ h

theorem KeepsAny.none : KeepsAny s₀ none := fun _ hn => nomatch hn

theorem KeepsAny.ite {c : Prop} {d : Decidable c} {a b : Option State} (ha : KeepsAny s₀ a) (hb : KeepsAny s₀ b) :
    KeepsAny s₀ (if c then a else b) := by
  split
  · exact ha
  · exact hb

/-- The rows of the upper blocks. -/
theorem Keeps.rowHigh (h : Keeps s₀ s) {req : Requester} {a : Nat} {w : Word} : KeepsAny s₀ (s.rowHigh req a w) := by
  have hn := h.now
  unfold State.rowHigh
  refine .ite (.some ?_) (.ite (.some ?_) (.ite (.some ?_) (.ite (.some ?_) (.ite (.some ?_) (.ite (.some ?_) (.ite (.some ?_)
    (.ite (.some ?_) (.ite (.some ?_) (.ite (.some ?_) (.ite (.some ?_) (.ite (.some ?_) (.ite (.some ?_) (.ite (.some ?_)
    .none)))))))))))))
  · exact ((h.bitRow fun _ hu => execHbmCtlClearLost_lands (hu.heard hn)).bitRow fun _ hu =>
      execHbmCtlMemtest_lands (hu.heard hn)).bitRow fun _ hu => execHbmCtlClearCnt_lands (hu.heard hn)
  · exact h.bitRow fun _ hu => execHankJobSubmit_lands (hu.heard hn)
  · exact h.bitRow fun _ hu => execNeedleSubmit_lands (hu.heard hn)
  · exact ((h.bitRow fun _ hu => execStoreCtlOpen_lands (hu.heard hn)).bitRow fun _ hu =>
      execStoreCtlPlay_lands (hu.heard hn)).bitRow fun _ hu => execStoreCtlClose_lands (hu.heard hn)
  · exact h.xferWrite
  · exact ((h.bitRow fun _ hu => execTimeCtlSnap_lands (hu.heard hn)).bitRow fun _ hu =>
      execTimeCtlSetTb3_lands (hu.heard hn)).bitRow fun _ hu => execTimeCtlSetTb2_lands (hu.heard hn)
  · exact (h.bitRow fun _ hu => execTimeCmpAllocReq_lands (hu.heard hn)).bitRow fun _ hu => execTimeCmpAllocFree_lands (hu.heard hn)
  · exact (execDportPtrWrite_lands (h.heard hn)).state
  · exact (execDportDmaStart_lands (h.heard hn)).state
  · exact (h.bitRow fun _ hu => execTrafCtlClearCnt_lands (hu.heard hn)).bitRow fun _ hu => execTrafCtlClearHist_lands (hu.heard hn)
  · exact ((((h.bitRow fun _ hu => execChainCtlJoin_lands (hu.heard hn)).bitRow fun _ hu =>
      execChainCtlHandback_lands (hu.heard hn)).bitRow fun _ hu => execChainCtlTake_lands (hu.heard hn)).bitRow fun _ hu =>
      execChainCtlYield_lands (hu.heard hn)).bitRow fun _ hu => execChainCtlClear_lands (hu.heard hn)
  · exact (((h.bitRow fun _ hu => execHlthCtlRead_lands (hu.heard hn)).bitRow fun _ hu =>
      execHlthCtlRestore_lands (hu.heard hn)).bitRow fun _ hu => execHlthCtlReplan_lands (hu.heard hn)).bitRow fun _ hu =>
      execHlthCtlClearSuspect_lands (hu.heard hn)
  · exact (execEvtRingEnable_lands (h.heard hn)).state
  · exact (execEvtTailWrite_lands (h.heard hn)).state

/-! ## Resets -/

theorem Keeps.cutBurn (h : Keeps s₀ s) {held : Bool} : Keeps s₀ (s.cutBurn held) := by
  unfold State.cutBurn
  split
  · exact h.same.useFresh
  · exact h

theorem Keeps.cutEntry (h : Keeps s₀ s) {k v : Nat} : Keeps s₀ (s.cutEntry k v) := h.journalEnd.useFresh

theorem Keeps.cutJournals (h : Keeps s₀ s) : Keeps s₀ s.cutJournals := by
  unfold State.cutJournals
  extract_lets s1 s2
  have h1 : Keeps s₀ s1 := by
    unfold s1
    split
    · exact h.cutEntry
    · exact h
  have h2 : Keeps s₀ s2 := by
    unfold s2
    split
    · exact h1.cutEntry
    · exact h1
  split
  · exact .ite h2.cutEntry h2
  · exact h2

/-- Nothing out of reset state in registers, content, lost blocks and tags. -/
theorem Keeps.blank (h : Keeps s₀ s) {n : State} (hnow : n.now = s.now) (hpending : n.pending = s.pending)
    (hcanonical : n.canonical = true) : Keeps s₀ n :=
  ⟨hnow.trans h.now, hpending.trans h.pending, fun _ => hcanonical⟩

theorem Keeps.deviceReset (h : Keeps s₀ s) {src : ResetSource} : Keeps s₀ (s.deviceReset src) := by
  unfold State.deviceReset
  extract_lets s1 n n1 n2
  have h1 : Keeps s₀ s1 := h.cutBurn.cutJournals
  have hn : Keeps s₀ n := h1.blank rfl rfl rfl
  clear_value n
  have hn2 : Keeps s₀ n2 := (Keeps.ite hn.stackReset hn).setNat.setNat.setNat
  split
  · exact hn2.emit
  · exact hn2

theorem Keeps.noteCause (h : Keeps s₀ s) {src : ResetSource} {bit : Nat} : Keeps s₀ (s.noteCause src bit) :=
  .ite h.setNat.setNat h.setBit

theorem Keeps.imposeReset (h : Keeps s₀ s) {src : ResetSource} {bit : Nat} : Keeps s₀ (s.imposeReset src bit) :=
  .ite (Keeps.ite h.deviceReset.noteCause h.deviceReset.noteCause.incFld) h.same.noteCause

theorem Keeps.pulseReset (h : Keeps s₀ s) {src : ResetSource} {bit : Nat} : Keeps s₀ (s.pulseReset src bit) := h.imposeReset.same

theorem Keeps.sampleStraps (h : Keeps s₀ s) : Keeps s₀ s.sampleStraps := h.setNat

theorem Keeps.startCaston (h : Keeps s₀ s) : Keeps s₀ s.startCaston := h.setFld.setTarget.same.refreshSeq

theorem Keeps.endReset (h : Keeps s₀ s) {srcs : List ResetSource} : Keeps s₀ (s.endReset srcs) :=
  .ite h (Keeps.ite h.same (Keeps.ite h.same.same.sampleStraps h.same.sampleStraps.startCaston))

theorem execPor_lands (h : Keeps s₀ (s.advance t)) : Lands s₀ (execPor t s) := .next h.imposeReset

theorem execPowerGood_lands (h : Keeps s₀ (s.advance t)) : Lands s₀ (execPowerGood t s) := .next h.endReset

theorem execRstNRecognised_lands (h : Keeps s₀ (s.advance t)) : Lands s₀ (execRstNRecognised t s) := .next h.imposeReset

theorem execRstNReleased_lands (h : Keeps s₀ (s.advance t)) : Lands s₀ (execRstNReleased t s) := .next h.endReset

theorem execWatchdogExpiry_lands (h : Keeps s₀ (s.advance t)) {core : Fin 2} : Lands s₀ (execWatchdogExpiry t core s) :=
  .next h.pulseReset

theorem execSoftwareReset_lands (h : Keeps s₀ (s.advance t)) {req : Requester} {data : Word} :
    Lands s₀ (execSoftwareReset t req data s) :=
  .next (h.guarded (fun _ _ hn => .ite hn.pulseReset hn))

theorem execResetPulseEnd_lands (h : Keeps s₀ (s.advance t)) : Lands s₀ (execResetPulseEnd t s) := by
  unfold execResetPulseEnd
  extract_lets
  apply Lands.next
  split
  · exact h
  · exact .ite h h.same.endReset

theorem execThermalTrip_lands (h : Keeps s₀ (s.advance t)) : Lands s₀ (execThermalTrip t s) := .next h.imposeReset.same

theorem execThermalTripClear_lands (h : Keeps s₀ (s.advance t)) : Lands s₀ (execThermalTripClear t s) :=
  .next h.same.endReset

theorem execSupplyFault_lands (h : Keeps s₀ (s.advance t)) {rail : Nat} : Lands s₀ (execSupplyFault t rail s) :=
  .next h.imposeReset.setFld

theorem execSupplyRecovered_lands (h : Keeps s₀ (s.advance t)) : Lands s₀ (execSupplyRecovered t s) := .next h.endReset

theorem Keeps.flashReset (h : Keeps s₀ s) : Keeps s₀ s.flashReset := h.same

theorem execFlashPulseEnd_lands (h : Keeps s₀ (s.advance t)) : Lands s₀ (execFlashPulseEnd t s) :=
  .next (Keeps.ite h.flashReset h)

theorem execEraseSuspendPoll_lands (h : Keeps s₀ (s.advance t)) {suspended : Bool} :
    Lands s₀ (execEraseSuspendPoll t suspended s) := by
  unfold execEraseSuspendPoll
  extract_lets
  apply Lands.next
  split
  · exact h
  · exact .ite h.flashReset h

theorem execEraseSuspendTimeout_lands (h : Keeps s₀ (s.advance t)) : Lands s₀ (execEraseSuspendTimeout t s) := by
  unfold execEraseSuspendTimeout
  extract_lets
  apply Lands.next
  split
  · exact h
  · exact .ite h h.flashReset.setBit

theorem Keeps.dmaCut (h : Keeps s₀ s) {entry : List Byte} : Keeps s₀ (s.dmaCut entry) := .ite h h.tag.markLost

theorem execPciePerstAsserted_lands (h : Keeps s₀ (s.advance t)) {entries : List (Nat × List Byte)} :
    Lands s₀ (execPciePerstAsserted t entries s) := by
  unfold execPciePerstAsserted
  extract_lets s1 s2
  have h2 : Keeps s₀ s2 := h.each (fun _ _ hn => by
      split
      · exact hn.dmaCut.dmaCallOff
      · exact hn.dmaCut
      · exact hn)
  exact .next h2.resetRange.resetRange.same.refreshRun.lockExpert.setBit

theorem Keeps.wake (h : Keeps s₀ s) : Keeps s₀ s.wake := h.setNat.setNat.setBit.same.startCaston

theorem execWakeNAsserted_lands (h : Keeps s₀ (s.advance t)) : Lands s₀ (execWakeNAsserted t s) :=
  .next (Keeps.ite h.wake h)

theorem execPciePerstReleased_lands (h : Keeps s₀ (s.advance t)) : Lands s₀ (execPciePerstReleased t s) :=
  .next (Keeps.ite h.same.wake h.same)

theorem execEndpointReset_lands (h : Keeps s₀ (s.advance t)) {speed width : Nat} : Lands s₀ (execEndpointReset t speed width s) :=
  .next (Keeps.ite h h.same.raise)

theorem Keeps.resetCode (h : Keeps s₀ s) {code : Nat} : Keeps s₀ (s.resetCode code) := h.filterRegs

theorem Keeps.resetLogic (h : Keeps s₀ s) {code : Nat} : Keeps s₀ (s.resetLogic code) :=
  .ite h.same (Keeps.ite h.same.resetBlock
    (Keeps.ite h (Keeps.ite h.same
      (Keeps.ite h.same.setNat.setNat.refreshLanes.resetShaper.resetWindows (Keeps.ite h.same.refreshLanes h.refreshRun)))))

theorem Keeps.showBlock (h : Keeps s₀ s) {code : Nat} {refused : Bool} : Keeps s₀ (s.showBlock code refused) := h.setNat

theorem Keeps.blockReset (h : Keeps s₀ s) {code : Nat} : Keeps s₀ (s.blockReset code) :=
  .ite h.same.resetCode.resetLogic.showBlock h.showBlock.raise

theorem execBlockReset_lands (h : Keeps s₀ (s.advance t)) {req : Requester} {data : Word} :
    Lands s₀ (execBlockReset t req data s) :=
  .next (h.guarded (fun _ _ hn => hn.blockReset))

theorem execBlockResetDone_lands (h : Keeps s₀ (s.advance t)) {code : Nat} : Lands s₀ (execBlockResetDone t code s) :=
  .next h.same.setBit

end Sys2Proof.Machine
end

section
/-! SUPPORT.  What the meanings keep of clock, queue and form: CAST-ON; the fabric. -/

namespace Sys2Proof.Machine

set_option Elab.async false

variable {s₀ s : State} {t : Nat}

/-! ## CAST-ON -/

theorem Keeps.bootLog (h : Keeps s₀ s) {step result : Nat} : Keeps s₀ (s.bootLog step result) :=
  (h.each (fun _ _ hn => hn.setNat)).same

theorem Keeps.toStep (h : Keeps s₀ s) {n : Nat} : Keeps s₀ (s.toStep n) := h.setFld

theorem Keeps.flashWake (h : Keeps s₀ s) {f : Nat} : Keeps s₀ (s.flashWake f) := h.emit.emit

theorem Keeps.startAttempt (h : Keeps s₀ s) {n : Nat} : Keeps s₀ (s.startAttempt n) := h.same.flashWake

theorem execRootPllLock_lands (h : Keeps s₀ (s.advance t)) : Lands s₀ (execRootPllLock t s) :=
  .next (Keeps.ite h.same.setBit.bootLog.toStep.startAttempt h)

theorem Keeps.applyChainId (h : Keeps s₀ s) {ovr : Nat} : Keeps s₀ (s.applyChainId ovr) := .ite h.setFld.setBit h.setFld.setBit

theorem Keeps.applyOptions (h : Keeps s₀ s) {o : Options} {source : Nat} : Keeps s₀ (s.applyOptions o source) := by
  unfold State.applyOptions
  extract_lets _ s1 s2 s3
  have h3 : Keeps s₀ s3 := h.same.setFld.applyChainId.loadFactory.bootLog.toStep
  exact .ite h3 h3.raise

theorem Keeps.attemptFails (h : Keeps s₀ s) {n err : Nat} : Keeps s₀ (s.attemptFails n err) :=
  .ite h.incFld.setFld.startAttempt h.incFld.setFld.applyOptions.enterSafe

theorem execOptionStatusPoll_lands (h : Keeps s₀ (s.advance t)) {busy : Bool} : Lands s₀ (execOptionStatusPoll t busy s) := by
  unfold execOptionStatusPoll
  extract_lets
  apply Lands.next
  split
  · exact h
  · exact .ite h (Keeps.ite h.same.emit (Keeps.ite h h.attemptFails))

theorem execOptionBlockReadDone_lands (h : Keeps s₀ (s.advance t)) {block : List Byte} :
    Lands s₀ (execOptionBlockReadDone t block s) := by
  unfold execOptionBlockReadDone
  extract_lets
  apply Lands.next
  split
  · exact h
  · exact .ite h (Keeps.ite h.applyOptions h.attemptFails)

theorem Keeps.imageRejected (h : Keeps s₀ s) {magic ptr reason : Nat} : Keeps s₀ (s.imageRejected magic ptr reason) :=
  .ite h h.raise

theorem Keeps.raiseTorn (h : Keeps s₀ s) : Keeps s₀ s.raiseTorn :=
  (h.each (fun _ _ hn => .ite hn.raise hn)).each fun _ _ hn => .ite hn.raise hn

theorem Keeps.linkUp (h : Keeps s₀ s) : Keeps s₀ s.linkUp := .ite h h.same

theorem Keeps.startFirmware (h : Keeps s₀ s) {o : List Byte} {ptr : Nat} {isB : Bool} {other : Nat} :
    Keeps s₀ (s.startFirmware o ptr isB other) := by
  unfold State.startFirmware
  extract_lets g trial rst _ s1 _ s2 s3
  have h3 : Keeps s₀ s3 := (Keeps.ite h.journalStart.journalEnd.same h).same.setBit.setBit.setFld
  exact (Keeps.ite h3.raise h3).bootLog.linkUp.toStep

theorem Keeps.haltCaston (h : Keeps s₀ s) : Keeps s₀ s.haltCaston := h.setBit.bootLog.linkUp.raise

theorem execCastonFwStep_lands (h : Keeps s₀ (s.advance t)) {imageA imageB : List Byte} :
    Lands s₀ (execCastonFwStep t imageA imageB s) := by
  unfold execCastonFwStep
  extract_lets s1 o ra rb s2 s3 s4
  have h2 : Keeps s₀ s2 := h.flashWake.flashWake.raiseTorn
  have h4 : Keeps s₀ s4 := (Keeps.ite h2.raise h2).imageRejected.imageRejected
  apply Lands.next
  split
  · exact h
  · split
    · exact h4.startFirmware
    · exact h4.startFirmware
    · exact h4.haltCaston

theorem Keeps.enterCal (h : Keeps s₀ s) : Keeps s₀ s.enterCal := h.toStep.askDomains.calibrate

theorem Keeps.loadPattern (h : Keeps s₀ s) {i : PatternImage} {ptr : Nat} {isB : Bool} : Keeps s₀ (s.loadPattern i ptr isB) :=
  h.same.setBit.setBit.setFld.setFld.setNat.chainRoles.loadRoster.loadGrid.bootLog

theorem Keeps.noPattern (h : Keeps s₀ s) : Keeps s₀ s.noPattern := h.same.chainRoles.loadRoster.bootLog.enterSafe

theorem execCastonPatternStep_lands (h : Keeps s₀ (s.advance t)) {imageA imageB : PatternImage} :
    Lands s₀ (execCastonPatternStep t imageA imageB s) := by
  unfold execCastonPatternStep
  extract_lets s1 o ra rb s2 s3
  have h2 : Keeps s₀ s2 := h.imageRejected.imageRejected
  have h3 : Keeps s₀ s3 := by
    unfold s3
    split
    · exact h2.loadPattern
    · exact h2.loadPattern
    · exact h2.noPattern
  exact .next (Keeps.ite h (Keeps.ite h3.enterCal h3.toStep.askDomains))

theorem Keeps.castHbm (h : Keeps s₀ s) {x : HbmTraining} : Keeps s₀ (s.castHbm x) := by
  unfold State.castHbm
  extract_lets _ s1 ws s2
  have h1 : Keeps s₀ s1 := h.sameHbm
  have h2 : Keeps s₀ s2 := h1.backSlots.setTraining
  exact h2.healthLog.markTagged

theorem execCastonHbmStep_lands (h : Keeps s₀ (s.advance t)) {training : HbmTraining} : Lands s₀ (execCastonHbmStep t training s) :=
  .next (Keeps.ite h (Keeps.ite h.castHbm.endHbmOff h).bootLog.enterCal)

theorem execCastonCalStep_lands (h : Keeps s₀ (s.advance t)) : Lands s₀ (execCastonCalStep t s) :=
  .next (Keeps.ite h h.bootLog.toStep.same.pumpHandshake.refreshMargin.askDomains)

theorem execCastonPanelStepEnd_lands (h : Keeps s₀ (s.advance t)) : Lands s₀ (execCastonPanelStepEnd t s) :=
  .next (Keeps.ite h (Keeps.ite h.bootLog.toStep h.bootLog.toStep.same.expandCt).same.startSequence)

theorem Keeps.castCadence (h : Keeps s₀ s) {m : Nat} : Keeps s₀ (s.castCadence m) :=
  .ite h.startCadence (Keeps.ite h.startCadence h)

theorem Keeps.enterTarget (h : Keeps s₀ s) {target source : Nat} : Keeps s₀ (s.enterTarget target source) :=
  (Keeps.ite h h.refuseMode).finishMode.castCadence.switchDomains

theorem Keeps.armCues (h : Keeps s₀ s) : Keeps s₀ s.armCues := h.same.each fun _ _ hn => hn.fireCue

theorem Keeps.heldCues (h : Keeps s₀ s) : Keeps s₀ s.heldCues := h.same.each fun _ _ hn => hn.cuePayload

theorem Keeps.readyEvents (h : Keeps s₀ s) {wake : Bool} : Keeps s₀ (s.readyEvents wake) :=
  .ite h.raise.raise h.raise.raise.raise

theorem Keeps.setReady (h : Keeps s₀ s) : Keeps s₀ s.setReady := by
  unfold State.setReady
  extract_lets s1 s2 s3
  have h3 : Keeps s₀ s3 := h.bootLog.toStep.setBit.setNat.each fun _ _ hn => hn.startLane
  exact .ite h3.showPerst h3.showPerst.same

theorem Keeps.completeCaston (h : Keeps s₀ s) : Keeps s₀ s.completeCaston := by
  unfold State.completeCaston
  extract_lets wake s1 s2
  have h1 : Keeps s₀ s1 := h.setReady.decideJoin
  have h2 : Keeps s₀ s2 := by
    unfold s2
    split
    · exact h1.startSafe
    · exact h1.enterTarget
  exact (Keeps.ite h2 h2.beginHbmOff).readyEvents.resetWindows.pumpHandshake.heldCues.armCues

theorem execCastonReady_lands (h : Keeps s₀ (s.advance t)) : Lands s₀ (execCastonReady t s) :=
  .next (Keeps.ite h (Keeps.ite h.askDomains h.completeCaston))

/-! ## The fabric -/

theorem execGlbExpertWrite_lands (h : Keeps s₀ (s.advance t)) {req : Requester} {data : Word} :
    Lands s₀ (execGlbExpertWrite t req data s) :=
  .next (h.guarded (fun _ _ hn => hn.setBit))

theorem execFabricCtlClear_lands (h : Keeps s₀ (s.advance t)) {req : Requester} {data : Word} :
    Lands s₀ (execFabricCtlClear t req data s) :=
  .next (h.guarded (fun _ _ hn => .ite hn.setReg hn))

/-- The rows of the low blocks and of the panel. -/
theorem Keeps.rowLow (h : Keeps s₀ s) {req : Requester} {a : Nat} {w : Word} : KeepsAny s₀ (s.rowLow req a w) := by
  have hn := h.now
  unfold State.rowLow
  refine .ite (.some ?_) (.ite (.some ?_) (.ite (.some ?_) (.ite (.some ?_) (.ite (.some ?_) (.ite (.some ?_) (.ite (.some ?_)
    (.ite (.some ?_) (.ite (.some ?_) (.ite (.some ?_) (.ite (.some ?_) (.ite (.some ?_) (.ite (.some ?_) (.ite (.some ?_)
    (.ite (.ite (.some ?_) (.ite (.some ?_) .none)) ?_))))))))))))))
  · exact (execGlbExpertWrite_lands (h.heard hn)).state
  · exact (execFabricCtlClear_lands (h.heard hn)).state
  · exact h.modeWrite
  · exact (execSoftwareReset_lands (h.heard hn)).state
  · exact (execBlockReset_lands (h.heard hn)).state
  · exact h.secCommand
  · exact h.bitRow fun _ hu => execVenueSubmit_lands (hu.heard hn)
  · exact (execSecCueGo_lands (h.heard hn)).state
  · exact h.bitRow fun _ hu => execScanCommitGo_lands (hu.heard hn)
  · exact ((h.bitRow fun _ hu => execSpkCtlReenum_lands (hu.heard hn)).bitRow fun _ hu =>
      execSpkCtlEcho_lands (hu.heard hn)).bitRow fun _ hu => execSpkCtlClear_lands (hu.heard hn)
  · exact h.bitRow fun _ hu => execSpkCfgwGo_lands (hu.heard hn)
  · exact ((h.bitRow fun _ hu => execLaneCtlRetrain_lands (hu.heard hn)).bitRow fun _ hu =>
      execLaneCtlClear_lands (hu.heard hn)).bitRow fun _ hu => execLaneCtlClearAll_lands (hu.heard hn)
  · exact h.bitRow fun _ hu => execEmitStripGo_lands (hu.heard hn)
  · exact (execEmitStripBufWrite_lands (h.heard hn)).state
  · exact (execLaneTestWrite_lands (h.heard hn)).state
  · exact (execLaneInjWrite_lands (h.heard hn)).state
  · split
    · exact .none
    · exact .some (execPlyDescWrite_lands (h.heard hn)).state

theorem Keeps.writeAny (h : Keeps s₀ s) {req : Requester} {a size : Nat} {w : Word} : Keeps s₀ (s.writeAny req a size w) := by
  unfold State.writeAny
  split
  · split
    · exact h.refuse
    · split
      next n he => exact h.rowLow n he
      next =>
        split
        next n he => exact h.rowHigh n he
        next => exact h.plainWrite
  · exact h.plainWrite

theorem execRegisterWrite_lands (h : Keeps s₀ (s.advance t)) {req : Requester} {addr size : Nat} {data : Word} :
    Lands s₀ (execRegisterWrite t req addr size data s) :=
  .next h.writeAny

theorem execEarlyHostAccess_lands (h : Keeps s₀ (s.advance t)) {bar offset : Nat} {write : Bool} :
    Lands s₀ (execEarlyHostAccess t bar offset write s) :=
  .next (Keeps.ite (Keeps.ite h.earlyAccess h.earlyAccess.emit) h)

theorem Keeps.fabricDma (h : Keeps s₀ s) {c : Nat} {entry : List Byte} : Keeps s₀ (s.fabricDma c entry) :=
  .ite h h.dmaCallOff.dmaEnd

theorem Keeps.fabricOutcome (h : Keeps s₀ s) {cls addr victim stripes : Nat} {entry : List Byte} :
    Keeps s₀ (s.fabricOutcome cls addr victim stripes entry) := by
  unfold State.fabricOutcome
  split
  · split
    · exact h.fetchFailed
    · exact h
  · exact h.emit
  · exact h.fabricDma
  · split
    · exact h.hankFabric
    · split
      · exact h.needleFail
      · exact h
  · split
    next c n he => exact (h.nvmeTake he).nvmeFails
    next => exact h
  · exact h.markLost
  · exact h

theorem Keeps.endReads (h : Keeps s₀ s) {a : Nat} : Keeps s₀ (s.endReads a) := by
  unfold State.endReads
  extract_lets b hit s1 s2
  have h1 : Keeps s₀ s1 := by
    unfold s1
    split
    · exact h.each fun _ _ hn => hn.fetchFails
    · exact h
  have h2 : Keeps s₀ s2 := h1.each (fun _ _ hn => by
      split
      · exact .ite hn.hankFabric hn
      · exact hn)
  exact h2.each fun _ _ hn => .ite hn.needleFail.useFresh hn

theorem execHbmReadParityError_lands (h : Keeps s₀ (s.advance t)) {pc : Fin 16} {addr attempt : Nat} :
    Lands s₀ (execHbmReadParityError t pc addr attempt s) :=
  .next (Keeps.ite h.incFld h.hbmUncorr.endReads)

theorem execHbmAlert_lands (h : Keeps s₀ (s.advance t)) {pc : Fin 16} {addr : Nat} : Lands s₀ (execHbmAlert t pc addr s) :=
  .next (Keeps.ite h.incFld.reissue.sameHbm h.incFld.reissue.sameHbm.sameHbm.hbmUncorr.endReads)

theorem Keeps.fabricCritical (h : Keeps s₀ s) : Keeps s₀ s.fabricCritical := .ite h.same.raise.enterSafe h.same

theorem execFabricParityError_lands (h : Keeps s₀ (s.advance t)) {hop cls transfer addr victim stripes : Nat}
    {entry : List Byte} : Lands s₀ (execFabricParityError t hop cls transfer addr victim stripes entry s) :=
  .next (Keeps.ite h.same.incFld h.same.incFld.setNat.raise.fabricOutcome.fabricCritical)

theorem execFabricCriticalCauseExpiry_lands (h : Keeps s₀ (s.advance t)) : Lands s₀ (execFabricCriticalCauseExpiry t s) := by
  unfold execFabricCriticalCauseExpiry
  extract_lets
  apply Lands.next
  split
  · exact .ite h.same.causeEnds h
  · exact h

end Sys2Proof.Machine
end

section
/-! SUPPORT.  What the meanings keep of clock, queue and form: cues; the frame latch. -/

namespace Sys2Proof.Machine

set_option Elab.async false

variable {s₀ s : State} {t : Nat}

/-! ## Cues -/

theorem Keeps.takeFired (h : Keeps s₀ s) {num action : Nat} {f : FiredCue} {c : Cue} {n : State}
    (he : s.takeFired num action = some (f, c, n)) : Keeps s₀ n := by
  unfold State.takeFired at he
  extract_lets hit at he
  split at he
  · cases he
  · split at he
    · cases he
    · cases he
      exact h.same

theorem Keeps.cueMode (h : Keeps s₀ s) {f : FiredCue} {c : Cue} : Keeps s₀ (s.cueMode f c) := .ite h h.same.modeCommand

theorem Keeps.cueSkein (h : Keeps s₀ s) {f : FiredCue} {c : Cue} : Keeps s₀ (s.cueSkein f c) := by
  unfold State.cueSkein
  split
  · exact h
  · extract_lets idx was s1
    have h1 : Keeps s₀ s1 := h.setFld.setNat
    exact .ite h1.playFrom (Keeps.ite h1.openSkein (Keeps.ite h1.storeRefuse h1.closeSkein.openSkein))

theorem Keeps.cueBatch (h : Keeps s₀ s) {f : FiredCue} {c : Cue} : Keeps s₀ (s.cueBatch f c) :=
  .ite h (h.each (fun _ _ hn => hn.writeAny)).completeCue

theorem Keeps.cueVenue (h : Keeps s₀ s) {f : FiredCue} {c : Cue} : Keeps s₀ (s.cueVenue f c) :=
  .ite h.raise.completeCue (Keeps.ite h.applyVenue h.same)

theorem Keeps.cueAct (h : Keeps s₀ s) {f : FiredCue} : Keeps s₀ (s.cueAct f) := by
  unfold State.cueAct
  split
  · exact h
  · extract_lets
    split
    · exact h.same.cueMode
    · exact h.same.cueSkein
    · exact h.same.cueBatch
    · exact h.same.cueVenue

/-- What every step of a fold over the list keeps, the fold keeps. -/
theorem Keeps.foldlMem {α : Type} {f : State → α → State} {l : List α} (h : Keeps s₀ s)
    (hf : ∀ n, ∀ x ∈ l, Keeps s₀ n → Keeps s₀ (f n x)) : Keeps s₀ (l.foldl f s) := by
  induction l generalizing s with
  | nil => exact h
  | cons x l ih => exact ih (hf s x (List.mem_cons_self ..) h) fun n y hy => hf n y (List.mem_cons_of_mem _ hy)

theorem Keeps.fireWaiting (h : Keeps s₀ s) : Keeps s₀ s.fireWaiting := by
  refine h.foldlMem fun n i hi hn => ?_
  have hc : i.cycle = s₀.now := h.now ▸ (of_decide_eq_true (List.mem_filter.mp hi).2 : i.cycle = s.now)
  split
  · exact (execCueTimeDue_lands (hn.heard hc)).state
  · exact (execCueDelayDue_lands (hn.heard hc)).state
  · exact hn

theorem Keeps.cueDue (h : Keeps s₀ s) {num action : Nat} {act : State → FiredCue → Cue → State}
    (hact : ∀ n f c, Keeps s₀ n → Keeps s₀ (act n f c)) : Keeps s₀ (s.cueDue num action act) := by
  unfold State.cueDue
  extract_lets s1
  have h1 : Keeps s₀ s1 := h.fireWaiting
  split
  · exact h1
  · next f _ _ _ =>
    extract_lets s2
    have h2 : Keeps s₀ s2 := h1.each fun _ _ hn => hn.cueAct
    split
    next => exact h2
    next f c n he => exact hact n f c (h2.takeFired he)

theorem execCueModeCommand_lands (h : Keeps s₀ (s.advance t)) {cue : Nat} : Lands s₀ (execCueModeCommand t cue s) :=
  .next (h.cueDue (fun _ _ _ hn => hn.cueMode))

theorem execCuePlaySkein_lands (h : Keeps s₀ (s.advance t)) {cue : Nat} : Lands s₀ (execCuePlaySkein t cue s) :=
  .next (h.cueDue (fun _ _ _ hn => hn.cueSkein))

theorem execCueRegisterBatch_lands (h : Keeps s₀ (s.advance t)) {cue : Nat} : Lands s₀ (execCueRegisterBatch t cue s) :=
  .next (h.cueDue (fun _ _ _ hn => hn.cueBatch))

theorem execCueVenueSelect_lands (h : Keeps s₀ (s.advance t)) {cue : Nat} : Lands s₀ (execCueVenueSelect t cue s) :=
  .next (h.cueDue (fun _ _ _ hn => hn.cueVenue))

/-! ## The frame latch -/

theorem Keeps.fencesInTime (h : Keeps s₀ s) : Keeps s₀ s.fencesInTime := (h.each fun _ _ hn => hn.setReg).same

theorem execFrameLatch_lands (h : Keeps s₀ (s.advance t)) : Lands s₀ (execFrameLatch t s) := .next h.fencesInTime.latchNow

end Sys2Proof.Machine
end

section
/-! Every command completes, and every step keeps the canonical form: the dispatch over the commands. -/

namespace Sys2Proof.Machine

set_option Elab.async false

variable {s₀ s : State}

/-- Every command answers a next state, which has the clock, the queue and the one form of the state in which the command finds the
device. -/
theorem exec_lands (i : Instr) (s : State) : Lands (s.advance i.cycle) (exec i s) := by
  cases i with
  | glbExpertWrite => exact execGlbExpertWrite_lands .refl
  | fabricCtlClear => exact execFabricCtlClear_lands .refl
  | fabricParityError => exact execFabricParityError_lands .refl
  | fabricCriticalCauseExpiry => exact execFabricCriticalCauseExpiry_lands .refl
  | registerWrite => exact execRegisterWrite_lands .refl
  | earlyHostAccess => exact execEarlyHostAccess_lands .refl
  | modeCmdReset => exact execModeCmdReset_lands .refl
  | modeCmdCastOn => exact execModeCmdCastOn_lands .refl
  | modeCmdDeep => exact execModeCmdDeep_lands .refl
  | modeCmdStrip => exact execModeCmdStrip_lands .refl
  | modeCmdIdle => exact execModeCmdIdle_lands .refl
  | modeCmdPreview => exact execModeCmdPreview_lands .refl
  | modeCmdShow => exact execModeCmdShow_lands .refl
  | modeCmdLive => exact execModeCmdLive_lands .refl
  | modeCmdSwatch => exact execModeCmdSwatch_lands .refl
  | modeCmdService => exact execModeCmdService_lands .refl
  | modeCmdBindOff => exact execModeCmdBindOff_lands .refl
  | modeCmdSafe => exact execModeCmdSafe_lands .refl
  | modeTransitionDone => exact execModeTransitionDone_lands .refl
  | hbmAutoSelfRefresh => exact execHbmAutoSelfRefresh_lands .refl
  | hbmSrExitDone => exact execHbmSrExitDone_lands .refl
  | domainSwitchOnStart => exact execDomainSwitchOnStart_lands .refl
  | domainPowerGood => exact execDomainPowerGood_lands .refl
  | domainPowerGoodTimeout => exact execDomainPowerGoodTimeout_lands .refl
  | wakeNAsserted => exact execWakeNAsserted_lands .refl
  | por => exact execPor_lands .refl
  | powerGood => exact execPowerGood_lands .refl
  | rstNRecognised => exact execRstNRecognised_lands .refl
  | rstNReleased => exact execRstNReleased_lands .refl
  | pciePerstAsserted => exact execPciePerstAsserted_lands .refl
  | pciePerstReleased => exact execPciePerstReleased_lands .refl
  | endpointReset => exact execEndpointReset_lands .refl
  | watchdogExpiry => exact execWatchdogExpiry_lands .refl
  | softwareReset => exact execSoftwareReset_lands .refl
  | resetPulseEnd => exact execResetPulseEnd_lands .refl
  | thermalTrip => exact execThermalTrip_lands .refl
  | thermalTripClear => exact execThermalTripClear_lands .refl
  | supplyFault => exact execSupplyFault_lands .refl
  | supplyRecovered => exact execSupplyRecovered_lands .refl
  | blockReset => exact execBlockReset_lands .refl
  | blockResetDone => exact execBlockResetDone_lands .refl
  | flashPulseEnd => exact execFlashPulseEnd_lands .refl
  | eraseSuspendPoll => exact execEraseSuspendPoll_lands .refl
  | eraseSuspendTimeout => exact execEraseSuspendTimeout_lands .refl
  | rootPllLock => exact execRootPllLock_lands .refl
  | optionStatusPoll => exact execOptionStatusPoll_lands .refl
  | optionBlockReadDone => exact execOptionBlockReadDone_lands .refl
  | castonFwStep => exact execCastonFwStep_lands .refl
  | castonPatternStep => exact execCastonPatternStep_lands .refl
  | castonHbmStep => exact execCastonHbmStep_lands .refl
  | castonCalStep => exact execCastonCalStep_lands .refl
  | castonPanelStepEnd => exact execCastonPanelStepEnd_lands .refl
  | castonReady => exact execCastonReady_lands .refl
  | handshakeAbsentTimeout => exact execHandshakeAbsentTimeout_lands .refl
  | handshakeRepeat => exact execHandshakeRepeat_lands .refl
  | secCmdAttest => exact execSecCmdAttest_lands .refl
  | secCmdFlashErase => exact execSecCmdFlashErase_lands .refl
  | secCmdFlashProgram => exact execSecCmdFlashProgram_lands .refl
  | secCmdVerifyImage => exact execSecCmdVerifyImage_lands .refl
  | secCmdEnrollKey => exact execSecCmdEnrollKey_lands .refl
  | secCmdRevokeKey => exact execSecCmdRevokeKey_lands .refl
  | secCmdConfirmFw => exact execSecCmdConfirmFw_lands .refl
  | secCmdAdvanceFwSvn => exact execSecCmdAdvanceFwSvn_lands .refl
  | secCmdAdvancePatSvn => exact execSecCmdAdvancePatSvn_lands .refl
  | secCmdComplete => exact execSecCmdComplete_lands .refl
  | leafJournalWriteDone => exact execLeafJournalWriteDone_lands .refl
  | venueSubmit => exact execVenueSubmit_lands .refl
  | venueVerifyDone => exact execVenueVerifyDone_lands .refl
  | venueJournalWriteDone => exact execVenueJournalWriteDone_lands .refl
  | cueTimeDue => exact execCueTimeDue_lands .refl
  | cueDelayDue => exact execCueDelayDue_lands .refl
  | secCueGo => exact execSecCueGo_lands .refl
  | cueModeCommand => exact execCueModeCommand_lands .refl
  | cuePlaySkein => exact execCuePlaySkein_lands .refl
  | cueRegisterBatch => exact execCueRegisterBatch_lands .refl
  | cueVenueSelect => exact execCueVenueSelect_lands .refl
  | plyDescWrite => exact execPlyDescWrite_lands .refl
  | plyFenceWrite => exact execPlyFenceWrite_lands .refl
  | scanCommitGo => exact execScanCommitGo_lands .refl
  | frameLatch => exact execFrameLatch_lands .refl
  | hbmRetimeDone => exact execHbmRetimeDone_lands .refl
  | frameFlip => exact execFrameFlip_lands .refl
  | plyFetchDone => exact execPlyFetchDone_lands .refl
  | plyFetchFail => exact execPlyFetchFail_lands .refl
  | courseOpen => exact execCourseOpen_lands .refl
  | spanDone => exact execSpanDone_lands .refl
  | cacheRefetchDone => exact execCacheRefetchDone_lands .refl
  | tCutExpiry => exact execTCutExpiry_lands .refl
  | reflattenDone => exact execReflattenDone_lands .refl
  | timeBlockDue => exact execTimeBlockDue_lands .refl
  | tileDelayEcho => exact execTileDelayEcho_lands .refl
  | backchannelFrame => exact execBackchannelFrame_lands .refl
  | tileBcTimeout => exact execTileBcTimeout_lands .refl
  | tileNoLockTimeout => exact execTileNoLockTimeout_lands .refl
  | tileBlankedTimeout => exact execTileBlankedTimeout_lands .refl
  | configTimeout => exact execConfigTimeout_lands .refl
  | tileEnumeration => exact execTileEnumeration_lands .refl
  | enumBcWaitTimeout => exact execEnumBcWaitTimeout_lands .refl
  | spkCtlReenum => exact execSpkCtlReenum_lands .refl
  | spkCtlEcho => exact execSpkCtlEcho_lands .refl
  | spkCtlClear => exact execSpkCtlClear_lands .refl
  | spkCfgwGo => exact execSpkCfgwGo_lands .refl
  | laneStageDone => exact execLaneStageDone_lands .refl
  | laneStageTimeout => exact execLaneStageTimeout_lands .refl
  | laneRetryTimer => exact execLaneRetryTimer_lands .refl
  | laneLockLoss => exact execLaneLockLoss_lands .refl
  | ptxPolarityTimeout => exact execPtxPolarityTimeout_lands .refl
  | presetTryTimeout => exact execPresetTryTimeout_lands .refl
  | laneCtlRetrain => exact execLaneCtlRetrain_lands .refl
  | laneCtlClear => exact execLaneCtlClear_lands .refl
  | laneCtlClearAll => exact execLaneCtlClearAll_lands .refl
  | laneFomUpdate => exact execLaneFomUpdate_lands .refl
  | bgcalGrant => exact execBgcalGrant_lands .refl
  | bgcalGrantLapse => exact execBgcalGrantLapse_lands .refl
  | laneTestWrite => exact execLaneTestWrite_lands .refl
  | laneInjWrite => exact execLaneInjWrite_lands .refl
  | loopTportLockLoss => exact execLoopTportLockLoss_lands .refl
  | loopMoveTimeout => exact execLoopMoveTimeout_lands .refl
  | loopLocked => exact execLoopLocked_lands .refl
  | laneLatencySlip => exact execLaneLatencySlip_lands .refl
  | irefComplianceSample => exact execIrefComplianceSample_lands .refl
  | thmSample => exact execThmSample_lands .refl
  | thmStaleTimeout => exact execThmStaleTimeout_lands .refl
  | probeTimeout => exact execProbeTimeout_lands .refl
  | powerupT0 => exact execPowerupT0_lands .refl
  | powerupDischargeEnd => exact execPowerupDischargeEnd_lands .refl
  | irefRampUpStep => exact execIrefRampUpStep_lands .refl
  | irefRampDownStep => exact execIrefRampDownStep_lands .refl
  | bindoffDischarge => exact execBindoffDischarge_lands .refl
  | bindoffIdle => exact execBindoffIdle_lands .refl
  | emitStripGo => exact execEmitStripGo_lands .refl
  | emitStripBufWrite => exact execEmitStripBufWrite_lands .refl
  | stripWindowOpen => exact execStripWindowOpen_lands .refl
  | hbmRefreshTick => exact execHbmRefreshTick_lands .refl
  | hbmReadParityError => exact execHbmReadParityError_lands .refl
  | hbmAlert => exact execHbmAlert_lands .refl
  | migrationPageDone => exact execMigrationPageDone_lands .refl
  | hbmCtlClearLost => exact execHbmCtlClearLost_lands .refl
  | hbmCtlMemtest => exact execHbmCtlMemtest_lands .refl
  | hbmCtlClearCnt => exact execHbmCtlClearCnt_lands .refl
  | memtestDone => exact execMemtestDone_lands .refl
  | scrubRead => exact execScrubRead_lands .refl
  | scrubDeferralTimeout => exact execScrubDeferralTimeout_lands .refl
  | hankJobSubmit => exact execHankJobSubmit_lands .refl
  | hankJobComplete => exact execHankJobComplete_lands .refl
  | needleSubmit => exact execNeedleSubmit_lands .refl
  | needleCmdIssue => exact execNeedleCmdIssue_lands .refl
  | needleFrogStop => exact execNeedleFrogStop_lands .refl
  | needleCmdComplete => exact execNeedleCmdComplete_lands .refl
  | storeCtlOpen => exact execStoreCtlOpen_lands .refl
  | storeOpenDone => exact execStoreOpenDone_lands .refl
  | storeCtlPlay => exact execStoreCtlPlay_lands .refl
  | storeCtlClose => exact execStoreCtlClose_lands .refl
  | storeReady => exact execStoreReady_lands .refl
  | storePrepDone => exact execStorePrepDone_lands .refl
  | storePrepDeadline => exact execStorePrepDeadline_lands .refl
  | nvmeCompletion => exact execNvmeCompletion_lands .refl
  | nvmeTimeout => exact execNvmeTimeout_lands .refl
  | nvmeControllerFatal => exact execNvmeControllerFatal_lands .refl
  | storeXferRead => exact execStoreXferRead_lands .refl
  | storeXferWrite => exact execStoreXferWrite_lands .refl
  | storeXferFlush => exact execStoreXferFlush_lands .refl
  | storeXferDeallocate => exact execStoreXferDeallocate_lands .refl
  | storeXferSmartLog => exact execStoreXferSmartLog_lands .refl
  | storeXferDone => exact execStoreXferDone_lands .refl
  | yarnDataFragment => exact execYarnDataFragment_lands .refl
  | yarnDescriptor => exact execYarnDescriptor_lands .refl
  | yarnCommit => exact execYarnCommit_lands .refl
  | yarnUpdateTimeout => exact execYarnUpdateTimeout_lands .refl
  | dportWriteTlp => exact execDportWriteTlp_lands .refl
  | dportReadTlp => exact execDportReadTlp_lands .refl
  | dportPtrWrite => exact execDportPtrWrite_lands .refl
  | dportDmaStart => exact execDportDmaStart_lands .refl
  | dportDmaEntryDone => exact execDportDmaEntryDone_lands .refl
  | ethFrameRx => exact execEthFrameRx_lands .refl
  | networkCueFrame => exact execNetworkCueFrame_lands .refl
  | venueFragment => exact execVenueFragment_lands .refl
  | venueAssemblyTimeout => exact execVenueAssemblyTimeout_lands .refl
  | ptpSync => exact execPtpSync_lands .refl
  | ptpFollowUp => exact execPtpFollowUp_lands .refl
  | ptpDelayResp => exact execPtpDelayResp_lands .refl
  | ptpAnnounce => exact execPtpAnnounce_lands .refl
  | ptpDelayReqDue => exact execPtpDelayReqDue_lands .refl
  | ptpSyncTimeout => exact execPtpSyncTimeout_lands .refl
  | ptpAnnounceTimeout => exact execPtpAnnounceTimeout_lands .refl
  | tb2RevertTimeout => exact execTb2RevertTimeout_lands .refl
  | ppsInEdge => exact execPpsInEdge_lands .refl
  | timeRefTimeout => exact execTimeRefTimeout_lands .refl
  | netLinkSettle => exact execNetLinkSettle_lands .refl
  | timeCmpAllocReq => exact execTimeCmpAllocReq_lands .refl
  | timeCmpAllocFree => exact execTimeCmpAllocFree_lands .refl
  | timeCmpFire => exact execTimeCmpFire_lands .refl
  | timePulseEnd => exact execTimePulseEnd_lands .refl
  | ppsOutSecond => exact execPpsOutSecond_lands .refl
  | ppsOutWidthEnd => exact execPpsOutWidthEnd_lands .refl
  | timeCaptureEdge => exact execTimeCaptureEdge_lands .refl
  | timeCapFnsRead => exact execTimeCapFnsRead_lands .refl
  | timeCtlSnap => exact execTimeCtlSnap_lands .refl
  | timeCtlSetTb3 => exact execTimeCtlSetTb3_lands .refl
  | timeCtlSetTb2 => exact execTimeCtlSetTb2_lands .refl
  | trafDeTimeout => exact execTrafDeTimeout_lands .refl
  | trafEgressDone => exact execTrafEgressDone_lands .refl
  | trafHistSample => exact execTrafHistSample_lands .refl
  | trafCtlClearCnt => exact execTrafCtlClearCnt_lands .refl
  | trafCtlClearHist => exact execTrafCtlClearHist_lands .refl
  | chainDataBlock => exact execChainDataBlock_lands .refl
  | chainAck => exact execChainAck_lands .refl
  | chainNak => exact execChainNak_lands .refl
  | chainAckDue => exact execChainAckDue_lands .refl
  | chainTrainBlock => exact execChainTrainBlock_lands .refl
  | chainTimeBlock => exact execChainTimeBlock_lands .refl
  | chainTimeDue => exact execChainTimeDue_lands .refl
  | chainHeldTimeout => exact execChainHeldTimeout_lands .refl
  | chainRegisterWrite _ port => exact execChainRegisterWrite_lands (port := port) .refl
  | chainCommit _ port => exact execChainCommit_lands (port := port) .refl
  | chainModeCommand _ port => exact execChainModeCommand_lands (port := port) .refl
  | chainLatchDigest _ port => exact execChainLatchDigest_lands (port := port) .refl
  | chainPlyOff _ port => exact execChainPlyOff_lands (port := port) .refl
  | chainJoinFrame _ port => exact execChainJoinFrame_lands (port := port) .refl
  | chainSkeinRecord _ port => exact execChainSkeinRecord_lands (port := port) .refl
  | chainSignedObject _ port => exact execChainSignedObject_lands (port := port) .refl
  | chainJoinState _ port => exact execChainJoinState_lands (port := port) .refl
  | digestTimeout => exact execDigestTimeout_lands .refl
  | heartbeatDue => exact execHeartbeatDue_lands .refl
  | chainHbBlock => exact execChainHbBlock_lands .refl
  | heartbeatDatagram => exact execHeartbeatDatagram_lands .refl
  | hbPathTimeout => exact execHbPathTimeout_lands .refl
  | partnerFailTimeout => exact execPartnerFailTimeout_lands .refl
  | yieldCheck => exact execYieldCheck_lands .refl
  | irefTakeupTimeout => exact execIrefTakeupTimeout_lands .refl
  | chainCtlJoin => exact execChainCtlJoin_lands .refl
  | chainCtlHandback => exact execChainCtlHandback_lands .refl
  | chainCtlTake => exact execChainCtlTake_lands .refl
  | chainCtlYield => exact execChainCtlYield_lands .refl
  | chainCtlClear => exact execChainCtlClear_lands .refl
  | hlthSensorRound => exact execHlthSensorRound_lands .refl
  | hbmStackSensorRead => exact execHbmStackSensorRead_lands .refl
  | hlthRoundOverdue => exact execHlthRoundOverdue_lands .refl
  | hlthOndemandRead => exact execHlthOndemandRead_lands .refl
  | throttleStep2Timeout => exact execThrottleStep2Timeout_lands .refl
  | throttleReleaseTimeout => exact execThrottleReleaseTimeout_lands .refl
  | avsStep => exact execAvsStep_lands .refl
  | avsResponse => exact execAvsResponse_lands .refl
  | calMeasureDone => exact execCalMeasureDone_lands .refl
  | calMeasureTimeout => exact execCalMeasureTimeout_lands .refl
  | ageingMeasure => exact execAgeingMeasure_lands .refl
  | hlthCtlRead => exact execHlthCtlRead_lands .refl
  | hlthCtlRestore => exact execHlthCtlRestore_lands .refl
  | hlthCtlReplan => exact execHlthCtlReplan_lands .refl
  | hlthReplanDone => exact execHlthReplanDone_lands .refl
  | hlthCtlClearSuspect => exact execHlthCtlClearSuspect_lands .refl
  | evtRingEnable => exact execEvtRingEnable_lands .refl
  | evtTailWrite => exact execEvtTailWrite_lands .refl
  | evtRingWriteError => exact execEvtRingWriteError_lands .refl
  | msixIntervalEnd => exact execMsixIntervalEnd_lands .refl
  | ref10mInputReturn => exact execRef10mInputReturn_lands .refl
  | prbsCheckerLock => exact execPrbsCheckerLock_lands .refl
  | prbsCheckerLockLoss => exact execPrbsCheckerLockLoss_lands .refl
  | gpioInputChange => exact execGpioInputChange_lands .refl
  | msixVectorUnmask => exact execMsixVectorUnmask_lands .refl
  | shapedQueueEligible => exact execShapedQueueEligible_lands .refl
  | tracePacketSent => exact execTracePacketSent_lands .refl
  | stripRefreshPeriodStart => exact execStripRefreshPeriodStart_lands .refl

/-- A step keeps the clock from going back, takes the front command, and keeps the one form. -/
theorem step_lands (s : State) : ∃ n : State, step s = .next n ∧ s.now ≤ n.now ∧ n.pending = s.pending.tail ∧
    (s.canonical = true → n.canonical = true) := by
  unfold step
  split
  next hp =>
    have hpending : (s.advance (s.now + 1)).pending = s.pending.tail := by rw [s.pending_advance, hp, List.tail_nil]
    exact ⟨_, rfl, s.advance_ge _, hpending, fun hs => s.canonical_advance hs _⟩
  next c rest hp =>
    obtain ⟨n, hn, hk⟩ := exec_lands c { s with pending := rest }
    refine ⟨n, hn, ?_, ?_, fun hs => hk.canonical (State.canonical_advance (s := { s with pending := rest }) hs _)⟩
    · rw [hk.now]
      exact State.advance_ge { s with pending := rest } _
    · rw [hk.pending, State.pending_advance, hp, List.tail_cons]

/-- Settles O3: each meaning is a chain of updates that keep the form, one lemma for each update. -/
theorem stepKeepsTheCanonicalForm : Obligations.StepKeepsTheCanonicalForm := by
  unfold Obligations.StepKeepsTheCanonicalForm
  intro s n hs hn
  obtain ⟨m, hm, -, -, hc⟩ := step_lands s
  rw [hn] at hm
  cases hm
  exact hc hs

/-- Settles O2: each meaning is a chain of updates that leave clock and queue, behind the advance to the command's cycle. -/
theorem everyStepAnswersAndTakesOneCommand : Obligations.EveryStepAnswersAndTakesOneCommand := by
  unfold Obligations.EveryStepAnswersAndTakesOneCommand
  refine ⟨fun i s => ?_, fun s => ?_, fun s n hn => ?_⟩
  · obtain ⟨n, hn, hk⟩ := exec_lands i s
    exact ⟨n, hn, hk.now.trans (s.advance_now _), hk.pending.trans (s.pending_advance _)⟩
  · obtain ⟨n, hn, -⟩ := step_lands s
    exact ⟨n, hn⟩
  · obtain ⟨m, hm, hnow, hpending, -⟩ := step_lands s
    rw [hn] at hm
    cases hm
    exact ⟨hnow, hpending⟩

/-- Settles O1: the two branches of a step. -/
theorem stepRunsTheFrontCommand : Obligations.StepRunsTheFrontCommand := by
  unfold Obligations.StepRunsTheFrontCommand
  refine ⟨fun s c rest hp => ?_, fun s hp => ?_⟩
  · rw [step, hp]
  · rw [step, hp]

/-- Settles O4: after reset no register, byte, lost block or tag is listed. -/
theorem resetIsCanonical : Obligations.ResetIsCanonical := by
  unfold Obligations.ResetIsCanonical
  rfl

end Sys2Proof.Machine
end

section
/-! What a change of roles in the chain writes: CHAIN_STAT, the epoch, and the registers that show which zones this device drives
(R234, R397, R399). -/

namespace Sys2Proof.Machine

/-! ## The zones that a device drives -/

/-- Whether an output sources its code is not read from EMIT_IREF_STAT. -/
theorem State.irefOwned_setReg (s : State) (j : Nat) (w : Word) {k : Nat} (hk : k < 48) :
    (s.setReg (Reg.EMIT_IREF_STAT j) w).irefOwned k = s.irefOwned k := by
  have hdomain : Reg.EMIT_IREF_STAT j ≠ Reg.PWR_DOMAIN_STAT0 + 4 * ((71 + k / 8) / 32) := by
    unfold Reg.EMIT_IREF_STAT Reg.PWR_DOMAIN_STAT0
    omega
  have hown : Reg.EMIT_IREF_STAT j ≠ Reg.EMIT_OWN := by
    unfold Reg.EMIT_IREF_STAT Reg.EMIT_OWN
    omega
  have hpower : (s.setReg (Reg.EMIT_IREF_STAT j) w).domainOn (71 + k / 8) = s.domainOn (71 + k / 8) :=
    congrArg (Word.bit · _) (s.reg_setReg_ne _ _ w hdomain)
  have hzone : (s.setReg (Reg.EMIT_IREF_STAT j) w).bit Reg.EMIT_OWN (k / 3) = s.bit Reg.EMIT_OWN (k / 3) :=
    congrArg (Word.bit · _) (s.reg_setReg_ne _ _ w hown)
  rw [State.irefOwned, hpower, hzone]
  rfl

theorem State.bit_refreshOwned (s : State) {k : Nat} (hk : k < 48) :
    s.refreshOwned.bit (Reg.EMIT_IREF_STAT k) 24 = s.refreshOwned.irefOwned k := by
  refine State.each_establishes (P := fun n => n.bit (Reg.EMIT_IREF_STAT k) 24 = n.irefOwned k) (List.mem_range.mpr hk)
    (fun n => ?_) (fun n j hset => ?_) s
  · rw [State.bit_setBit_self _ _ _ _ (by decide)]
    exact (n.irefOwned_setReg k _ hk).symm
  · refine Eq.trans ?_ (hset.trans (n.irefOwned_setReg j _ hk).symm)
    by_cases hj : j = k
    · rw [hj, State.bit_setBit_self _ _ _ _ (by decide), hset]
    · exact State.bit_setBit_ne _ _ _ _ _ _ (irefStat_ne_irefStat hj)

/-- OWNED is the bit of EMIT_IREF_STAT that follows the zones. -/
theorem State.fld_refreshOwned (s : State) (a : Nat) {lo n : Nat} (h : lo + n ≤ 24 ∨ 25 ≤ lo) :
    s.refreshOwned.fld a lo n = s.fld a lo n :=
  State.each_keeps (g := fun v => v.fld a lo n) (fun v _ => v.fld_setFld_outside _ _ _ _ _ h) s _

theorem State.sameRegs_refreshOwned (s : State) : SameRegs s s.refreshOwned ((List.range 48).map Reg.EMIT_IREF_STAT) := by
  have hrun := SameRegs.each (f := fun s n => s.setBit (Reg.EMIT_IREF_STAT n) 24 (s.irefOwned n))
    (g := fun n => [Reg.EMIT_IREF_STAT n]) (fun s _ => (SameRegs.refl s _).setReg List.mem_cons_self _) s (List.range 48)
  rwa [← List.map_eq_flatMap] at hrun

/-- The zones are shown by writes of registers: what every such write keeps is kept. -/
theorem State.refreshOwn_keeps {β : Type} {g : State → β} (h : ∀ s a w, g (State.setReg s a w) = g s) (s : State) :
    g s.refreshOwn = g s :=
  (State.each_keeps (fun _ _ => h _ _ _) _ _).trans (h _ _ _)

theorem State.sameRegs_refreshOwn (s : State) : SameRegs s s.refreshOwn zoneRegs :=
  ((SameRegs.refl s zoneRegs).setReg List.mem_cons_self _).trans
    ((State.sameRegs_refreshOwned _).mono (List.subset_cons_self _ _))

theorem emitOwn_ne_irefStat (k : Nat) : Reg.EMIT_OWN ≠ Reg.EMIT_IREF_STAT k := by
  unfold Reg.EMIT_OWN Reg.EMIT_IREF_STAT
  omega

/-- EMIT_OWN and OWNED follow the roles. -/
theorem State.zonesPass_refreshOwn (s : State) : ZonesPass s s.refreshOwn s.ownsZones := by
  refine ⟨?_, fun k hk => ⟨State.bit_refreshOwned _ hk, ?_, ?_⟩⟩
  · rw [State.nat, State.refreshOwn, State.sameRegs_refreshOwned _ _ (by decide), State.reg_setNat, if_pos rfl]
    cases s.ownsZones <;> rfl
  · rw [State.refreshOwn, State.fld_refreshOwned _ _ (by decide)]
    exact congrArg (Word.field · 0 24) (s.reg_setReg_ne _ _ _ (emitOwn_ne_irefStat k))
  · rw [State.refreshOwn, State.fld_refreshOwned _ _ (by decide)]
    exact congrArg (Word.field · 25 7) (s.reg_setReg_ne _ _ _ (emitOwn_ne_irefStat k))

/-- The registers that show the roles of a member. -/
def roleRegs : List Nat := [Reg.CHAIN_STAT, Reg.SPK_EPOCH]

theorem irefStat_notMem_roleRegs {k : Nat} (hk : k < 48) : Reg.EMIT_IREF_STAT k ∉ roleRegs := by
  simp only [roleRegs, List.mem_cons, List.not_mem_nil, or_false, Reg.EMIT_IREF_STAT, Reg.CHAIN_STAT, Reg.SPK_EPOCH]
  omega

/-- Whether an output sources its code is not read from the registers of the roles. -/
theorem State.irefOwned_sameRegs {n m : State} (h : SameRegs n m roleRegs) (hsec : m.sec = n.sec) {k : Nat} (hk : k < 48) :
    m.irefOwned k = n.irefOwned k := by
  have hmem : Reg.PWR_DOMAIN_STAT0 + 4 * ((71 + k / 8) / 32) ∉ roleRegs := by
    simp only [roleRegs, List.mem_cons, List.not_mem_nil, or_false, Reg.PWR_DOMAIN_STAT0, Reg.CHAIN_STAT, Reg.SPK_EPOCH]
    omega
  have hpower : m.domainOn (71 + k / 8) = n.domainOn (71 + k / 8) := congrArg (Word.bit · _) (h _ hmem)
  have hzone : m.bit Reg.EMIT_OWN (k / 3) = n.bit Reg.EMIT_OWN (k / 3) := congrArg (Word.bit · _) (h _ (by decide))
  have htiles : m.zoneTiles (k / 3) = n.zoneTiles (k / 3) := by
    simp only [State.zoneTiles, State.tiles, State.tile, State.roster, hsec]
  rw [State.irefOwned, State.irefOwned, hpower, hzone, htiles]

/-- Writes of the registers of the roles, before and behind, do not bear on the zones. -/
theorem ZonesPass.around {u v n m : State} {own : Bool} (h : ZonesPass v n own) (huv : SameRegs u v roleRegs)
    (hnm : SameRegs n m roleRegs) (hsec : m.sec = n.sec) : ZonesPass u m own := by
  obtain ⟨hown, hirefs⟩ := h
  refine ⟨(congrArg BitVec.toNat (hnm _ (by decide))).trans hown, fun k hk => ?_⟩
  obtain ⟨howned, hlow, hhigh⟩ := hirefs k hk
  have hbehind := hnm _ (irefStat_notMem_roleRegs hk)
  have hbefore := huv _ (irefStat_notMem_roleRegs hk)
  refine ⟨?_, ?_, ?_⟩
  · rw [State.irefOwned_sameRegs hnm hsec hk, ← howned, State.bit, hbehind, State.bit]
  · rw [State.fld, hbehind, ← State.fld, hlow, State.fld, hbefore, State.fld]
  · rw [State.fld, hbehind, ← State.fld, hhigh, State.fld, hbefore, State.fld]

/-! ## The roles -/

/-- The bits of the roles in CHAIN_STAT. -/
def State.showRole (s : State) (lead acting : Bool) : State := (s.setBit Reg.CHAIN_STAT 6 lead).setBit Reg.CHAIN_STAT 5 acting

theorem State.reg_withChain (s : State) (c : ChainState) (a : Nat) : ({ s with chain := c } : State).reg a = s.reg a := rfl

/-- A role shows in CHAIN_STAT, the zones follow, and the chain's own state names the members that have the roles. -/
theorem State.setRole_eq (s : State) (lead acting : Bool) :
    ∃ c : ChainState, s.setRole lead acting = { (s.showRole lead acting).refreshOwn with chain := c } :=
  ⟨_, rfl⟩

/-- What a role keeps: what no write of a register and no update of the chain's own state changes. -/
theorem State.setRole_keeps {β : Type} {g : State → β} (h : ∀ s a w, g (State.setReg s a w) = g s)
    (hchain : ∀ s x, g { s with chain := x } = g s) (s : State) (lead acting : Bool) : g (s.setRole lead acting) = g s := by
  obtain ⟨c, hc⟩ := s.setRole_eq lead acting
  rw [hc, hchain, State.refreshOwn_keeps h]
  exact (h _ _ _).trans (h _ _ _)

theorem State.reg_setRole (s : State) (lead acting : Bool) (a : Nat) :
    (s.setRole lead acting).reg a = (s.showRole lead acting).refreshOwn.reg a := by
  obtain ⟨c, hc⟩ := s.setRole_eq lead acting
  rw [hc, State.reg_withChain]

theorem State.reg_setRole_chainStat (s : State) (lead acting : Bool) :
    (s.setRole lead acting).reg Reg.CHAIN_STAT = (s.showRole lead acting).reg Reg.CHAIN_STAT :=
  (s.reg_setRole lead acting _).trans (State.sameRegs_refreshOwn _ _ (by decide))

theorem State.isLead_setRole (s : State) (lead acting : Bool) : (s.setRole lead acting).isLead = lead := by
  rw [State.isLead, State.bit, State.reg_setRole_chainStat]
  exact (State.bit_setBit_same _ _ _ _ _ (by decide)).trans (State.bit_setBit_self _ _ _ _ (by decide))

theorem State.isActing_setRole (s : State) (lead acting : Bool) : (s.setRole lead acting).isActing = acting := by
  rw [State.isActing, State.bit, State.reg_setRole_chainStat]
  exact State.bit_setBit_self _ _ _ _ (by decide)

theorem State.sameRegs_showRole (s : State) (lead acting : Bool) : SameRegs s (s.showRole lead acting) roleRegs :=
  ((SameRegs.refl s roleRegs).setReg List.mem_cons_self _).setReg List.mem_cons_self _

theorem State.sameRegs_setRole (s : State) (lead acting : Bool) :
    SameRegs s (s.setRole lead acting) (Reg.CHAIN_STAT :: zoneRegs) := by
  have hshow : SameRegs s (s.showRole lead acting) (Reg.CHAIN_STAT :: zoneRegs) :=
    ((SameRegs.refl s _).setReg List.mem_cons_self _).setReg List.mem_cons_self _
  have hzones := (State.sameRegs_refreshOwn (s.showRole lead acting)).mono (List.subset_cons_self Reg.CHAIN_STAT _)
  exact fun a ha => (s.reg_setRole lead acting a).trans (hshow.trans hzones a ha)

/-- With a role the zones pass: a device alone or with SHARE keeps them, another drives them as pair lead (R397). -/
theorem State.zonesPass_setRole (s : State) (lead acting : Bool) :
    ZonesPass s (s.setRole lead acting) (!s.paired || s.bit Reg.CHAIN_CFG 2 || lead) := by
  have hpaired : (s.showRole lead acting).paired = s.paired := by
    have hpair : (s.showRole lead acting).fld Reg.CHAIN_STAT 3 2 = s.fld Reg.CHAIN_STAT 3 2 :=
      (State.fld_setFld_same _ _ _ _ _ _ _ (by decide)).trans (State.fld_setFld_same _ _ _ _ _ _ _ (by decide))
    rw [State.paired, State.paired, hpair]
    rfl
  have hshare : (s.showRole lead acting).bit Reg.CHAIN_CFG 2 = s.bit Reg.CHAIN_CFG 2 :=
    congrArg (Word.bit · 2) (s.sameRegs_showRole lead acting _ (by decide))
  have hlead : (s.showRole lead acting).isLead = lead :=
    (State.bit_setBit_same _ _ _ _ _ (by decide)).trans (State.bit_setBit_self _ _ _ _ (by decide))
  have hsec : (s.setRole lead acting).sec = (s.showRole lead acting).refreshOwn.sec := by
    obtain ⟨c, hc⟩ := s.setRole_eq lead acting
    rw [hc]
  have hzones := (s.showRole lead acting).zonesPass_refreshOwn.around (m := s.setRole lead acting)
    (s.sameRegs_showRole lead acting) (fun a _ => s.reg_setRole lead acting a) hsec
  rwa [State.ownsZones, hpaired, hshare, hlead] at hzones

end Sys2Proof.Machine
end

section
/-! CHAIN_CTL (R398, R399). -/

namespace Sys2Proof.Machine

theorem State.setRole_raised (s : State) (lead acting : Bool) : (s.setRole lead acting).raised = s.raised :=
  State.setRole_keeps (g := State.raised) (fun _ _ _ => rfl) (fun _ _ => rfl) s lead acting

theorem State.setRole_hbm (s : State) (lead acting : Bool) : (s.setRole lead acting).hbm = s.hbm :=
  State.setRole_keeps (g := State.hbm) (fun _ _ _ => rfl) (fun _ _ => rfl) s lead acting

/-! ## The lead moves -/

/-- The codes of the events that a state has raised. -/
def State.codes (s : State) : List Nat := s.raised.map (·.code)

theorem State.codes_leadChange (s : State) (old new epoch cause : Nat) :
    (s.leadChange old new epoch cause).codes = s.codes ++ [Ev.CHAIN_LEAD_CHANGE] := by
  rw [State.codes, State.leadChange, State.raise_raised, List.map_append]
  rfl

@[simp] theorem State.leadChange_regs (s : State) (old new epoch cause : Nat) : (s.leadChange old new epoch cause).regs = s.regs := rfl
@[simp] theorem State.leadChange_hbm (s : State) (old new epoch cause : Nat) : (s.leadChange old new epoch cause).hbm = s.hbm := rfl
@[simp] theorem State.leadChange_sec (s : State) (old new epoch cause : Nat) : (s.leadChange old new epoch cause).sec = s.sec := rfl
@[simp] theorem State.setEpoch_hbm (s : State) (e : Nat) : (s.setEpoch e).hbm = s.hbm := rfl
@[simp] theorem State.setEpoch_sec (s : State) (e : Nat) : (s.setEpoch e).sec = s.sec := rfl
@[simp] theorem State.setEpoch_raised (s : State) (e : Nat) : (s.setEpoch e).raised = s.raised := rfl

/-- The report of a new lead writes no register. -/
theorem State.reg_leadChange (s : State) (old new epoch cause a : Nat) : (s.leadChange old new epoch cause).reg a = s.reg a :=
  State.reg_congr (s.leadChange_regs old new epoch cause) a

/-- A member that takes the lead, under the epoch `e` in SPK_EPOCH. -/
def State.leads (s : State) (acting : Bool) (e : Nat) : State := (s.setRole true acting).setEpoch e

theorem State.takeLead_eq (s : State) (acting : Bool) (cause : Nat) : ∃ old : Nat, s.takeLead acting cause =
    (s.leads (s.isActing || acting) s.nextEpoch).leadChange old s.chainId s.nextEpoch cause := ⟨_, rfl⟩

theorem State.giveLead_eq (s : State) (cause : Nat) :
    s.giveLead cause = (s.setRole false false).leadChange s.chainId (s.partnerId.getD 0) s.nextEpoch cause := rfl

theorem State.isLead_leads (s : State) (acting : Bool) (e : Nat) : (s.leads acting e).isLead = true :=
  (congrArg (Word.bit · 6) (State.reg_setFld_ne _ _ _ _ _ _ (by decide))).trans (s.isLead_setRole true acting)

theorem State.isActing_leads (s : State) (acting : Bool) (e : Nat) : (s.leads acting e).isActing = acting :=
  (congrArg (Word.bit · 5) (State.reg_setFld_ne _ _ _ _ _ _ (by decide))).trans (s.isActing_setRole true acting)

theorem State.epoch_leads (s : State) (acting : Bool) (e : Nat) : (s.leads acting e).fld Reg.SPK_EPOCH 0 16 = e % 2 ^ 16 :=
  State.fld_setFld_self _ _ _ _ _ (by decide)

theorem State.sameRegs_leads (s : State) (acting : Bool) (e : Nat) : SameRegs s (s.leads acting e) (roleRegs ++ zoneRegs) :=
  ((s.sameRegs_setRole true acting).mono (List.cons_subset_cons _ (List.subset_cons_self _ _))).setReg
    (List.mem_cons_of_mem _ List.mem_cons_self) _

theorem State.zonesPass_leads (s : State) (acting : Bool) (e : Nat) : ZonesPass s (s.leads acting e) true := by
  have hepoch : SameRegs (s.setRole true acting) (s.leads acting e) roleRegs := (SameRegs.refl _ _).setReg (by decide) _
  have hzones := s.zonesPass_setRole true acting
  rw [Bool.or_true] at hzones
  exact hzones.around (SameRegs.refl _ _) hepoch (State.setEpoch_sec _ _)

/-! ## The commands -/

/-- CHAIN_CTL is local to its member: a write that nothing refuses has its effect and no other. -/
theorem State.chainCtl_ok {s : State} {req : Requester} {w : Word} {f : State → State} (h : s.accepts req Reg.CHAIN_CTL w) :
    s.control req Reg.CHAIN_CTL w f = f s := State.control_ok h (by decide)

section
variable {t : Nat} {req : Requester} {s u : State} (hu : s.advance t = u)
include hu

theorem exec_chainCtlJoin_ok (hok : u.accepts req Reg.CHAIN_CTL 1) (hjoined : u.joined = false) :
    exec (.chainCtlJoin t req) s = .next { u with chain := { u.chain with joinAllowed := true } } := by
  have hrun : exec (.chainCtlJoin t req) s = execChainCtlJoin t req s := rfl
  rw [hrun, execChainCtlJoin, hu, State.chainCtl_ok hok, hjoined]
  rfl

theorem exec_chainCtlHandback_ok (hok : u.accepts req Reg.CHAIN_CTL 2) (hpartner : u.partnerFlag 2 = true)
    (hlead : u.isLead = true) (hruns : u.cadenceRuns = true) :
    exec (.chainCtlHandback t req) s = .next { u with chain := { u.chain with leadMove := some 2 } } := by
  have hrun : exec (.chainCtlHandback t req) s = execChainCtlHandback t req s := rfl
  rw [hrun, execChainCtlHandback, hu, State.chainCtl_ok hok, hpartner, hlead]
  exact congrArg Host.Outcome.next (if_pos hruns)

theorem exec_chainCtlHandback_alone (hok : u.accepts req Reg.CHAIN_CTL 2) (hpartner : u.partnerFlag 2 = false) :
    exec (.chainCtlHandback t req) s = .next (u.raise Ev.CHAIN_CTL_REFUSED [1, 1]) := by
  have hrun : exec (.chainCtlHandback t req) s = execChainCtlHandback t req s := rfl
  rw [hrun, execChainCtlHandback, hu, State.chainCtl_ok hok, hpartner]
  rfl

theorem exec_chainCtlTake_lead (hok : u.accepts req Reg.CHAIN_CTL 4) (hlead : u.isLead = true) :
    exec (.chainCtlTake t req) s = .next (u.raise Ev.CHAIN_CTL_REFUSED [2, 2]) := by
  have hrun : exec (.chainCtlTake t req) s = execChainCtlTake t req s := rfl
  rw [hrun, execChainCtlTake, hu, State.chainCtl_ok hok, hlead]
  rfl

theorem exec_chainCtlTake_ok (hok : u.accepts req Reg.CHAIN_CTL 4) (hlead : u.isLead = false) (hpaired : u.paired = true) :
    exec (.chainCtlTake t req) s = .next ((u.setBit Reg.CHAIN_STAT 9 false).takeLead (u.partnerFlag 0) 3) := by
  have hrun : exec (.chainCtlTake t req) s = execChainCtlTake t req s := rfl
  rw [hrun, execChainCtlTake, hu, State.chainCtl_ok hok, hlead, hpaired]
  rfl

theorem exec_chainCtlYield_alone (hok : u.accepts req Reg.CHAIN_CTL 8) (hpartner : u.partnerFlag 2 = false) :
    exec (.chainCtlYield t req) s = .next (u.raise Ev.CHAIN_CTL_REFUSED [3, 1]) := by
  have hrun : exec (.chainCtlYield t req) s = execChainCtlYield t req s := rfl
  rw [hrun, execChainCtlYield, hu, State.chainCtl_ok hok, hpartner]
  rfl

theorem exec_chainCtlYield_ok (hok : u.accepts req Reg.CHAIN_CTL 8) (hpartner : u.partnerFlag 2 = true) (hlead : u.isLead = true) :
    exec (.chainCtlYield t req) s = .next (u.giveLead 4) := by
  have hrun : exec (.chainCtlYield t req) s = execChainCtlYield t req s := rfl
  rw [hrun, execChainCtlYield, hu, State.chainCtl_ok hok, hpartner, hlead]
  rfl

end

/-- The counters of every port at zero. -/
def State.portsCleared (s : State) : State := s.each (List.range 4) fun s p => s.setReg (Reg.CHAIN_PORT_CNT p) 0

theorem State.sameRegs_portsCleared (s : State) : SameRegs s s.portsCleared ((List.range 4).map Reg.CHAIN_PORT_CNT) := by
  have hrun := SameRegs.each (f := fun s p => s.setReg (Reg.CHAIN_PORT_CNT p) 0) (g := fun p => [Reg.CHAIN_PORT_CNT p])
    (fun s _ => (SameRegs.refl s _).setReg List.mem_cons_self _) s (List.range 4)
  rwa [← List.map_eq_flatMap] at hrun

theorem State.portsCleared_keeps {β : Type} {g : State → β} (h : ∀ s a w, g (State.setReg s a w) = g s) (s : State) :
    g s.portsCleared = g s :=
  State.each_keeps (fun _ _ => h _ _ _) s _

theorem State.nat_portsCleared (s : State) {p : Nat} (hp : p < 4) : s.portsCleared.nat (Reg.CHAIN_PORT_CNT p) = 0 := by
  refine State.each_establishes (P := fun n => n.nat (Reg.CHAIN_PORT_CNT p) = 0) (List.mem_range.mpr hp)
    (fun s => by simp [State.nat]) (fun s q hset => ?_) s
  simp only [State.nat, State.reg_setReg] at hset ⊢
  split
  · rfl
  · exact hset

theorem exec_chainCtlClear_ok {t : Nat} {req : Requester} {s u : State} (hu : s.advance t = u)
    (hok : u.accepts req Reg.CHAIN_CTL 16) : exec (.chainCtlClear t req) s = .next u.portsCleared := by
  have hrun : exec (.chainCtlClear t req) s = execChainCtlClear t req s := rfl
  rw [hrun, execChainCtlClear, hu, State.chainCtl_ok hok]
  rfl

/-- Settles O52: each command is one of the two moves of the lead, or the branch that its premises name. -/
theorem chainControlMovesTheLead : Obligations.ChainControlMovesTheLead := by
  unfold Obligations.ChainControlMovesTheLead
  refine ⟨?_, ?_, ?_, ?_, ?_, fun _ => rfl, ?_⟩
  · intro t req s u hu hok hjoined
    exact exec_chainCtlJoin_ok hu hok hjoined
  · intro t req s u hu hok hpartner hlead hruns
    exact exec_chainCtlHandback_ok hu hok hpartner hlead hruns
  · intro t req s u hu hok hlead hpaired
    obtain ⟨old, hold⟩ := (u.setBit Reg.CHAIN_STAT 9 false).takeLead_eq (u.partnerFlag 0) 3
    have hacting : (u.setBit Reg.CHAIN_STAT 9 false).isActing = u.isActing := State.bit_setBit_same _ _ _ _ _ (by decide)
    have hepoch : (u.setBit Reg.CHAIN_STAT 9 false).nextEpoch = u.nextEpoch := by
      rw [State.nextEpoch, State.setBit, State.fld_setFld_ne _ _ _ _ _ _ _ _ (by decide)]
      rfl
    rw [hacting, hepoch] at hold
    have hset : SameRegs u (u.setBit Reg.CHAIN_STAT 9 false) roleRegs := (SameRegs.refl _ _).setReg (by decide) _
    have hreg (a : Nat) := ((u.setBit Reg.CHAIN_STAT 9 false).leads (u.isActing || u.partnerFlag 0) u.nextEpoch).reg_leadChange
      old (u.setBit Reg.CHAIN_STAT 9 false).chainId u.nextEpoch 3 a
    refine ⟨_, (exec_chainCtlTake_ok hu hok hlead hpaired).trans (congrArg _ hold), ?_, ?_, ?_, ?_, ?_, ?_, ?_⟩
    · exact (congrArg (Word.bit · 6) (hreg _)).trans (State.isLead_leads _ _ _)
    · exact (congrArg (Word.bit · 5) (hreg _)).trans (State.isActing_leads _ _ _)
    · exact (congrArg (Word.field · 0 16) (hreg _)).trans ((State.epoch_leads _ _ _).trans (Nat.mod_mod _ _))
    · rw [State.leadChange_hbm, State.leads, State.setEpoch_hbm, State.setRole_hbm, State.setBit_hbm]
    · exact fun a ha => (hreg a).trans (((hset.mono (List.subset_append_left _ _)).trans (State.sameRegs_leads _ _ _)) a ha)
    · exact (State.zonesPass_leads _ _ _).around hset (fun a _ => hreg a) (State.leadChange_sec ..)
    · refine (State.codes_leadChange ..).trans (congrArg (List.map Event.code · ++ _) ?_)
      rw [State.leads, State.setEpoch_raised, State.setRole_raised, State.setBit_raised]
  · intro t req s u hu hok hpartner hlead
    have hreg (a : Nat) := (u.setRole false false).reg_leadChange u.chainId (u.partnerId.getD 0) u.nextEpoch 4 a
    refine ⟨_, (exec_chainCtlYield_ok hu hok hpartner hlead).trans (congrArg _ (u.giveLead_eq 4)), ?_, ?_, ?_, ?_, ?_, ?_⟩
    · exact (congrArg (Word.bit · 6) (hreg _)).trans (State.isLead_setRole _ _ _)
    · exact (congrArg (Word.bit · 5) (hreg _)).trans (State.isActing_setRole _ _ _)
    · rw [State.leadChange_hbm, State.setRole_hbm]
    · exact fun a ha => (hreg a).trans (u.sameRegs_setRole false false a ha)
    · have hzones := u.zonesPass_setRole false false
      rw [Bool.or_false] at hzones
      exact hzones.around (SameRegs.refl _ _) (fun a _ => hreg a) (State.leadChange_sec ..)
    · exact (State.codes_leadChange ..).trans (congrArg (List.map Event.code · ++ _) (u.setRole_raised false false))
  · intro t req s u hu
    exact ⟨exec_chainCtlHandback_alone hu, exec_chainCtlYield_alone hu, exec_chainCtlTake_lead hu⟩
  · intro t req s u hu hok
    exact ⟨_, exec_chainCtlClear_ok hu hok, fun p hp => u.nat_portsCleared hp, u.portsCleared_keeps fun _ _ _ => rfl,
      u.sameRegs_portsCleared, u.portsCleared_keeps fun _ _ _ => rfl⟩

end Sys2Proof.Machine
end

section
/-! Blocks that a chain port sends (R383): the slots of its lanes and the outbox are all that a block changes. -/

namespace Sys2Proof.Machine

theorem State.putGroup_eq (s : State) (p : Nat) (h : Bool) (b : List Byte) : ∃ x : LanesState, s.putGroup p h b = { s with lanes := x } := by
  unfold State.putGroup
  extract_lets ls gone best
  clear_value best
  split
  · exact ⟨_, rfl⟩
  · split
    · exact ⟨_, rfl⟩
    · exact ⟨_, rfl⟩

theorem State.sendGroup_eq (s : State) (p : Nat) (h : Bool) (b : List Byte) :
    ∃ x : LanesState, s.sendGroup p h b = { s with lanes := x, outbox := s.outbox ++ [.chain p b] } := by
  obtain ⟨x, hx⟩ := s.putGroup_eq p h b
  rw [State.sendGroup, hx]
  exact ⟨x, rfl⟩

theorem State.sendControl_eq (s : State) (p type fields : Nat) :
    ∃ x : LanesState, s.sendControl p type fields = { s with lanes := x, outbox := s.outbox ++ [.chain p (ctlBlock type fields)] } :=
  s.sendGroup_eq p true _

/-- A control block on each port of a list. -/
theorem State.each_sendControl (s : State) (l : List Nat) (type fields : Nat) :
    ∃ x : LanesState, (s.each l fun s p => s.sendControl p type fields) =
      { s with lanes := x, outbox := s.outbox ++ l.map fun p => .chain p (ctlBlock type fields) } := by
  induction l generalizing s with
  | nil => exact ⟨s.lanes, by rw [List.map_nil, List.append_nil]; rfl⟩
  | cons p l ih =>
    obtain ⟨x, hx⟩ := s.sendControl_eq p type fields
    obtain ⟨y, hy⟩ := ih (s.sendControl p type fields)
    refine ⟨y, hy.trans ?_⟩
    rw [hx, List.map_cons, ← List.append_cons]

end Sys2Proof.Machine
end

section
/-! Heartbeats and fail-over (R392 to R395, R397). -/

namespace Sys2Proof.Machine

/-! ## The heartbeat that goes out -/

/-- This member's heartbeat is numbered. -/
def State.beatNumbered (s : State) : State :=
  { s with chain := { s.chain with hbAt := some s.now, hbSeq := (s.chain.hbSeq + 1) % 2 ^ 16 } }

theorem exec_heartbeatDue_unpaired {t : Nat} {s u : State} (hu : s.advance t = u) (hchained : u.chain.chained = true)
    (hpaired : u.paired = false) (hdue : limited u.chain.hbAt (us 990) u.now = false) :
    exec (.heartbeatDue t) s = .next (u.beatNumbered.each ((List.range 4).filter u.portUp) fun n p =>
      n.sendControl p 0x43 (leNat u.hbBody * 2 ^ 16)) := by
  have hrun : exec (.heartbeatDue t) s = execHeartbeatDue t s := rfl
  have hgo : ¬ ((!u.chain.chained) = true ∨ limited u.chain.hbAt (us 990) u.now = true) := by simp [hchained, hdue]
  have heth : u.checkEthPath = u := by simp [State.checkEthPath, hpaired]
  obtain ⟨x, hx⟩ := u.beatNumbered.each_sendControl ((List.range 4).filter u.portUp) 0x43 (leNat u.hbBody * 2 ^ 16)
  have hbehind : (u.beatNumbered.each ((List.range 4).filter u.portUp) fun n p =>
      n.sendControl p 0x43 (leNat u.hbBody * 2 ^ 16)).paired = false := by
    rw [hx]
    exact hpaired
  rw [hrun, execHeartbeatDue, hu]
  simp only [if_neg hgo, heth]
  refine congrArg Host.Outcome.next (if_neg fun hpath => ?_)
  rw [Bool.and_assoc, Bool.and_eq_true] at hpath
  exact absurd (hbehind.symm.trans hpath.1) (by decide)

/-! ## The heartbeat of a peer -/

/-- Membership in a pair is not read from registers above SPK_EPOCH but CHAIN_STAT. -/
theorem State.partnerId_setReg (s : State) {a : Nat} (w : Word) (h : Reg.CHAIN_STAT < a) :
    (s.setReg a w).partnerId = s.partnerId := by
  have hstat : (s.setReg a w).reg Reg.CHAIN_STAT = s.reg Reg.CHAIN_STAT := s.reg_setReg_ne _ _ w (by omega)
  have hstrap : (s.setReg a w).reg Reg.CLKRST_STRAP = s.reg Reg.CLKRST_STRAP :=
    s.reg_setReg_ne _ _ w fun e => absurd (e ▸ h) (by decide)
  have hpaired : (s.setReg a w).paired = s.paired := by
    simp only [State.paired, State.fld, hstat, State.setReg_chain]
  have hme : (s.setReg a w).me = s.me := by
    simp only [State.me, State.member, State.chainId, State.fld, hstrap, State.setReg_sec]
  rw [State.partnerId, hpaired, hme]
  rfl

theorem chainStat_lt_member (q : Nat) : Reg.CHAIN_STAT < Reg.CHAIN_MEMBER q := by
  unfold Reg.CHAIN_STAT Reg.CHAIN_MEMBER
  omega

/-- What a heartbeat says of its sender is shown, and the sender counts as heard in this cycle. -/
def State.memberHeard (s : State) (h : Heartbeat) : State :=
  let n := s.setReg (Reg.CHAIN_MEMBER h.sender) (Word.ofNat (1 + h.mode % 16 * 2 + h.flags % 64 * 2 ^ 5 + h.epoch * 2 ^ 16))
  { n with chain := { n.chain with peers := n.chain.peers.filter (fun (x : Nat × Nat) => x.1 != h.sender) ++ [(h.sender, n.now)]
                                   lostPeers := n.chain.lostPeers.filter (· != h.sender) } }

theorem exec_chainHbBlock_peer {t : Nat} {p : Fin 4} {b : List Byte} {h : Heartbeat} {s u : State} (hu : s.advance t = u)
    (hbeat : u.hbOfBlock p b = some h) (hpeer : u.partnerId ≠ some h.sender) :
    exec (.chainHbBlock t p b) s = .next (u.memberHeard h) := by
  have hrun : exec (.chainHbBlock t p b) s = execChainHbBlock t p b s := rfl
  rw [hrun, execChainHbBlock, hu, hbeat]
  refine congrArg Host.Outcome.next (if_neg fun heq => hpeer (Eq.trans ?_ heq))
  exact (u.partnerId_setReg _ (chainStat_lt_member h.sender)).symm

theorem State.reg_memberHeard (s : State) (h : Heartbeat) (a : Nat) : (s.memberHeard h).reg a =
    (s.setReg (Reg.CHAIN_MEMBER h.sender) (Word.ofNat (1 + h.mode % 16 * 2 + h.flags % 64 * 2 ^ 5 + h.epoch * 2 ^ 16))).reg a := rfl

/-! ## The heartbeat of the partner -/

theorem State.chain_setRole (s : State) (lead acting : Bool) :
    ∃ x y : Nat, (s.setRole lead acting).chain = { s.chain with lead := x, acting := y } := by
  have hown : (s.showRole lead acting).refreshOwn.chain = s.chain :=
    State.refreshOwn_keeps (g := State.chain) (fun _ _ _ => rfl) _
  have hrole : ∃ x y : Nat, (s.setRole lead acting).chain =
      { (s.showRole lead acting).refreshOwn.chain with lead := x, acting := y } := ⟨_, _, rfl⟩
  rwa [hown] at hrole

/-- The device is ready, and the partner's last heartbeat is `h`, by datagram in cycle `c`. -/
structure PartnerHeard (h : Heartbeat) (c : Nat) (n : State) : Prop where
  partner : n.chain.partner = some h
  eth : n.chain.hbEth = some c
  ready : n.ready = true

section
variable {h : Heartbeat} {c : Nat} {n : State}

theorem PartnerHeard.setReg (hn : PartnerHeard h c n) {a : Nat} (w : Word) (ha : a ≠ Reg.CLKRST_CASTON_STAT) :
    PartnerHeard h c (n.setReg a w) :=
  ⟨hn.partner, hn.eth, (congrArg (Word.bit · 5) (n.reg_setReg_ne _ _ w ha)).trans hn.ready⟩

theorem PartnerHeard.raise (hn : PartnerHeard h c n) (code : Nat) (args : List Nat) : PartnerHeard h c (n.raise code args) :=
  ⟨hn.partner, hn.eth, hn.ready⟩

theorem PartnerHeard.setRole (hn : PartnerHeard h c n) (lead acting : Bool) : PartnerHeard h c (n.setRole lead acting) := by
  obtain ⟨x, y, hchain⟩ := n.chain_setRole lead acting
  refine ⟨by rw [hchain, hn.partner], by rw [hchain, hn.eth], Eq.trans ?_ hn.ready⟩
  exact congrArg (Word.bit · 5) (n.sameRegs_setRole lead acting _ (by decide))

theorem PartnerHeard.setEpoch (hn : PartnerHeard h c n) (e : Nat) : PartnerHeard h c (n.setEpoch e) := hn.setReg _ (by decide)

theorem PartnerHeard.leadChange (hn : PartnerHeard h c n) (old new epoch cause : Nat) :
    PartnerHeard h c (n.leadChange old new epoch cause) := hn.raise _ _

theorem PartnerHeard.settleRoles (hn : PartnerHeard h c n) (acted : Bool) : PartnerHeard h c (n.settleRoles h acted) := by
  unfold State.settleRoles
  extract_lets they p mine v
  split
  · split
    · exact ((hn.setRole _ _).setEpoch _).leadChange _ _ _ _
    · exact hn
  · split
    · have hv : PartnerHeard h c v := hn.setEpoch _
      exact ⟨hv.partner, hv.eth, hv.ready⟩
    · split
      · exact hn
      · split
        · have hyield : PartnerHeard h c (n.setBit Reg.CHAIN_STAT 9 false) := hn.setReg _ (by decide)
          exact hyield.setRole _ _
        · split
          · exact ((hn.setRole _ _).setEpoch _).leadChange _ _ _ _
          · exact hn

theorem PartnerHeard.setCodes (hn : PartnerHeard h c n) (codes : List Nat) : PartnerHeard h c (n.setCodes codes) := by
  have hready : (n.setCodes codes).ready = n.ready :=
    congrArg (Word.bit · 5) (n.sameRegs_setCodes codes Reg.CLKRST_CASTON_STAT (by decide))
  have hchain : (n.setCodes codes).chain = n.chain := State.setCodes_keeps (g := State.chain) (fun _ _ _ => rfl) n codes
  exact ⟨(congrArg ChainState.partner hchain).trans hn.partner, (congrArg ChainState.hbEth hchain).trans hn.eth,
    hready.trans hn.ready⟩

theorem PartnerHeard.setFull (hn : PartnerHeard h c n) (full : Bool) : PartnerHeard h c (n.setFull full) := by
  unfold State.setFull
  extract_lets v w
  have hv : PartnerHeard h c v := hn.setReg _ (by decide)
  have hw : PartnerHeard h c w := by
    unfold w
    split
    · exact hv.setCodes _
    · exact hv
  split
  · exact hn
  · exact hw.raise _ _

/-- A heartbeat of the partner leaves what it says on record, whatever it does to the roles and the shares. -/
theorem PartnerHeard.partnerBeat (heth : n.chain.hbEth = some c) (hready : n.ready = true) : PartnerHeard h c (n.partnerBeat h) := by
  have hnoted : PartnerHeard h c (n.noteBeat h) := by
    have hset : PartnerHeard h c { n with chain := { n.chain with partner := some h, hbNs := n.showNs } } := ⟨rfl, heth, hready⟩
    exact (hset.setReg _ (by decide)).setReg _ (by decide)
  have hsettled := hnoted.settleRoles (n.partnerFlag 0)
  unfold State.partnerBeat State.shareAgain
  simp only [hsettled.ready, if_true]
  split
  · exact hsettled.setFull false
  · exact hsettled

theorem PartnerHeard.setPath (hn : PartnerHeard h c n) (path : Nat) (up : Bool) : PartnerHeard h c (n.setPath path up) := by
  unfold State.setPath
  split
  · exact hn
  · exact (hn.setReg _ (by decide)).raise _ _

end

theorem State.bit_setPath (s : State) {path : Nat} (hpath : path < 32) (up : Bool) :
    (s.setPath path up).bit Reg.CHAIN_HB_STAT path = up := by
  unfold State.setPath
  split
  · assumption
  · rw [State.bit_raise, State.bit_setBit_self _ _ _ _ hpath]

/-- The partner is heard by datagram. -/
def State.ethHeard (s : State) : State := { s with chain := { s.chain with hbEth := some s.now } }

theorem exec_heartbeatDatagram_beat {t : Nat} {x : Fin 2} {b : List Byte} {h : Heartbeat} {s u : State} (hu : s.advance t = u)
    (hbeat : u.hbOfDatagram x b = some h) : exec (.heartbeatDatagram t x b) s = .next ((u.ethHeard.partnerBeat h).setPath 1 true) := by
  have hrun : exec (.heartbeatDatagram t x b) s = execHeartbeatDatagram t x b s := rfl
  rw [hrun, execHeartbeatDatagram, hu, hbeat]
  rfl

/-! ## Paths and members that fall silent -/

theorem exec_hbPathTimeout_eth {t c : Nat} {s u : State} (hu : s.advance t = u) (heth : u.chain.hbEth = some c) (hc : c + ms 3 ≤ u.now)
    (hbeat : u.beatNow (u.partnerId.getD 8) false = false) (hup : u.bit Reg.CHAIN_HB_STAT 1 = true) :
    exec (.hbPathTimeout t 1) s =
      .next ((u.setBit Reg.CHAIN_HB_STAT 1 false).raise Ev.CHAIN_PATH_ALARM [u.partnerId.getD 0, 2, 1]) := by
  have hrun : exec (.hbPathTimeout t 1) s = execHbPathTimeout t 1 s := rfl
  have hdue : ¬ (u.now < c + ms 3 ∨ u.beatNow (u.partnerId.getD 8) false = true) := by
    simp only [hbeat, Bool.false_eq_true, or_false]
    omega
  have hdown : ¬ u.bit Reg.CHAIN_HB_STAT 1 = false := by simp [hup]
  rw [hrun, execHbPathTimeout, hu, heth]
  simp only [if_neg hdue, State.setPath, if_neg hdown]
  rfl

/-- Member `q` is no longer present. -/
def State.memberGone (s : State) (q : Nat) : State :=
  let n := s.setBit (Reg.CHAIN_MEMBER q) 0 false
  { n with chain := { n.chain with lostPeers := n.chain.lostPeers ++ [q] } }

theorem exec_hbPathTimeout_peer {t q c : Nat} {s u : State} (hu : s.advance t = u) (hpeers : u.chain.peers = [(q, c)])
    (hc : c + ms 3 ≤ u.now) (hlost : u.chain.lostPeers.contains q = false) (hbeat : u.beatNow q true = false)
    (hpeer : u.partnerId ≠ some q) :
    ∃ port : Nat, exec (.hbPathTimeout t 0) s = .next ((u.memberGone q).raise Ev.CHAIN_MEMBER_LOST [q, port]) := by
  have hrun : exec (.hbPathTimeout t 0) s = execHbPathTimeout t 0 s := rfl
  have hdue : ¬ (u.now < c + ms 3 ∨ u.chain.lostPeers.contains q = true ∨ u.beatNow q true = true) := by
    simp only [hlost, hbeat, Bool.false_eq_true, or_false]
    omega
  have hother : ¬ (u.memberGone q).partnerId = some q := fun heq =>
    hpeer ((u.partnerId_setReg _ (chainStat_lt_member q)).symm.trans heq)
  refine ⟨(((u.memberGone q).peerPorts.find? fun (y : Nat × Nat) => y.2 == q).map (·.1)).getD 0, ?_⟩
  rw [hrun, execHbPathTimeout, hu, hpeers]
  simp only [if_pos, State.each, List.foldl_cons, List.foldl_nil, State.dropPeer, if_neg hdue]
  exact congrArg Host.Outcome.next (if_neg hother)

/-! ## The partner is declared failed -/

theorem State.leads_chain (s : State) (acting : Bool) (e : Nat) :
    ∃ x y : Nat, (s.leads acting e).chain = { s.chain with lead := x, acting := y } := s.chain_setRole true acting

theorem State.leads_hbm (s : State) (acting : Bool) (e : Nat) : (s.leads acting e).hbm = s.hbm :=
  (State.setEpoch_hbm _ _).trans (s.setRole_hbm _ _)

theorem State.leads_raised (s : State) (acting : Bool) (e : Nat) : (s.leads acting e).raised = s.raised :=
  (State.setEpoch_raised _ _).trans (s.setRole_raised _ _)

/-- This member leads under a new epoch, its partner declared failed (R394). -/
def State.leadsAlone (s : State) : State :=
  (({ s with chain := { s.chain with wasLead := s.isLead, wait := none } } : State).leads
    (s.isActing || s.chain.acting == s.partnerId.getD 0) s.nextEpoch).setBit Reg.CHAIN_STAT 8 true

theorem State.leadsAlone_failed (s : State) : s.leadsAlone.bit Reg.CHAIN_STAT 8 = true := State.bit_setBit_self _ _ _ _ (by decide)

theorem State.leadsAlone_lead (s : State) : s.leadsAlone.bit Reg.CHAIN_STAT 6 = true :=
  (State.bit_setBit_same _ _ _ _ _ (by decide)).trans (State.isLead_leads _ _ _)

theorem State.leadsAlone_epoch (s : State) : s.leadsAlone.fld Reg.SPK_EPOCH 0 16 = s.nextEpoch :=
  (State.fld_setFld_ne _ _ _ _ _ _ _ _ (by decide)).trans ((State.epoch_leads _ _ _).trans (Nat.mod_mod _ _))

theorem State.leadsAlone_chain (s : State) : s.leadsAlone.chain.wasLead = s.isLead ∧ s.leadsAlone.chain.wait = none := by
  obtain ⟨x, y, hchain⟩ := State.leads_chain { s with chain := { s.chain with wasLead := s.isLead, wait := none } }
    (s.isActing || s.chain.acting == s.partnerId.getD 0) s.nextEpoch
  rw [State.leadsAlone, State.setBit_chain, hchain]
  exact ⟨rfl, rfl⟩

theorem State.leadsAlone_hbm (s : State) : s.leadsAlone.hbm = s.hbm := (State.setBit_hbm ..).trans (State.leads_hbm _ _ _)

theorem State.leadsAlone_raised (s : State) : s.leadsAlone.raised = s.raised :=
  (State.setBit_raised ..).trans (State.leads_raised _ _ _)

theorem State.sameRegs_leadsAlone (s : State) : SameRegs s s.leadsAlone (roleRegs ++ zoneRegs) := by
  have hleads := State.sameRegs_leads { s with chain := { s.chain with wasLead := s.isLead, wait := none } }
    (s.isActing || s.chain.acting == s.partnerId.getD 0) s.nextEpoch
  exact hleads.setReg List.mem_cons_self _

theorem State.zonesPass_leadsAlone (s : State) : ZonesPass s s.leadsAlone true := by
  have hleads := State.zonesPass_leads { s with chain := { s.chain with wasLead := s.isLead, wait := none } }
    (s.isActing || s.chain.acting == s.partnerId.getD 0) s.nextEpoch
  exact hleads.around (fun _ _ => rfl) ((SameRegs.refl _ _).setReg List.mem_cons_self _) (State.setBit_sec ..)

/-- The failure and the lead that follows from it are reported. -/
def State.reportFailure (s : State) (args : List Nat) (old new epoch : Nat) : State :=
  (s.raise Ev.CHAIN_PARTNER_FAILED args).leadChange old new epoch 1

theorem State.reg_reportFailure (s : State) (args : List Nat) (old new epoch a : Nat) :
    (s.reportFailure args old new epoch).reg a = s.reg a := rfl

theorem State.reportFailure_kept (s : State) (args : List Nat) (old new epoch : Nat) :
    (s.reportFailure args old new epoch).chain = s.chain ∧ (s.reportFailure args old new epoch).hbm = s.hbm ∧
    (s.reportFailure args old new epoch).sec = s.sec := ⟨rfl, rfl, rfl⟩

theorem State.codes_reportFailure (s : State) (args : List Nat) (old new epoch : Nat) :
    (s.reportFailure args old new epoch).codes = s.codes ++ [Ev.CHAIN_PARTNER_FAILED, Ev.CHAIN_LEAD_CHANGE] := by
  rw [State.reportFailure, State.codes_leadChange, State.codes, State.raise_raised, List.map_append, List.append_assoc]
  rfl

theorem State.partnerFails_eq (s : State) : ∃ (args : List Nat) (old new epoch : Nat), s.partnerFails =
    s.leadsAlone.reportFailure args old new epoch := ⟨_, _, _, _, rfl⟩

theorem exec_partnerFailTimeout_due {t c : Nat} {s u : State} (hu : s.advance t = u) (hpaired : u.paired = true)
    (hfailed : u.bit Reg.CHAIN_STAT 8 = false) (hlast : u.lastBeat = some c) (hc : c + ms 3 ≤ u.now)
    (hchain : u.beatNow (u.partnerId.getD 8) true = false) (heth : u.beatNow (u.partnerId.getD 8) false = false) :
    exec (.partnerFailTimeout t) s = .next u.partnerFails := by
  have hrun : exec (.partnerFailTimeout t) s = execPartnerFailTimeout t s := rfl
  have hdue : ¬ ((!u.paired) = true ∨ u.bit Reg.CHAIN_STAT 8 = true ∨ u.now < c + ms 3 ∨
      u.beatNow (u.partnerId.getD 8) true = true ∨ u.beatNow (u.partnerId.getD 8) false = true) := by
    simp only [hpaired, hfailed, hchain, heth, Bool.not_true, Bool.false_eq_true, or_false, false_or]
    omega
  rw [hrun, execPartnerFailTimeout, hu, hlast]
  exact congrArg Host.Outcome.next (if_neg hdue)

/-! ## The lead yields, and takes up the full share -/

/-- This member gives the lead up, for its partner sees more of the tiles. -/
def State.yields (s : State) : State :=
  (({ s with chain := { s.chain with wasActing := s.isActing, wasLead := false } } : State).setRole false false).setBit
    Reg.CHAIN_STAT 9 true

theorem exec_yieldCheck_fewer {t c : Nat} {s u : State} (hu : s.advance t = u) (hpaired : u.paired = true)
    (hfailed : u.bit Reg.CHAIN_STAT 8 = true) (hwas : u.chain.wasLead = true) (hlast : u.lastBeat = some c)
    (hc : c + ms 6 ≤ u.now) (hyield : u.bit Reg.CHAIN_STAT 9 = false)
    (hfewer : (u.tiles.filter u.enumerated).length < 2 * u.partnerLocks.1) :
    exec (.yieldCheck t) s =
      .next (u.yields.raise Ev.CHAIN_YIELDED [u.partnerLocks.1, u.yields.fld Reg.SPK_EPOCH 0 16]) := by
  have hrun : exec (.yieldCheck t) s = execYieldCheck t s := rfl
  have hdue : ¬ (!(u.paired && u.bit Reg.CHAIN_STAT 8 && u.chain.wasLead && decide (c + ms 6 ≤ u.now) &&
      !u.bit Reg.CHAIN_STAT 9)) = true := by
    simp [hpaired, hfailed, hwas, hc, hyield]
  rw [hrun, execYieldCheck, hu]
  simp only [hlast, if_neg hdue, if_pos hfewer]
  rfl

theorem State.sameRegs_yields (s : State) : SameRegs s s.yields (Reg.CHAIN_STAT :: zoneRegs) := by
  have hrole := State.sameRegs_setRole { s with chain := { s.chain with wasActing := s.isActing, wasLead := false } } false false
  exact hrole.setReg List.mem_cons_self _

theorem State.yields_yielded (s : State) : s.yields.bit Reg.CHAIN_STAT 9 = true := State.bit_setBit_self _ _ _ _ (by decide)

theorem State.yields_lead (s : State) : s.yields.bit Reg.CHAIN_STAT 6 = false :=
  (State.bit_setBit_same _ _ _ _ _ (by decide)).trans (State.isLead_setRole _ _ _)

theorem State.yields_acting (s : State) : s.yields.bit Reg.CHAIN_STAT 5 = false :=
  (State.bit_setBit_same _ _ _ _ _ (by decide)).trans (State.isActing_setRole _ _ _)

theorem State.yields_hbm (s : State) : s.yields.hbm = s.hbm := (State.setBit_hbm ..).trans (State.setRole_hbm _ _ _)

theorem State.yields_raised (s : State) : s.yields.raised = s.raised := (State.setBit_raised ..).trans (State.setRole_raised _ _ _)

/-- Of a pair, the member that yields keeps the zones with SHARE. -/
theorem State.zonesPass_yields {s : State} (hpaired : s.paired = true) : ZonesPass s s.yields (s.bit Reg.CHAIN_CFG 2) := by
  have hrole := State.zonesPass_setRole { s with chain := { s.chain with wasActing := s.isActing, wasLead := false } } false false
  have hpair : State.paired { s with chain := { s.chain with wasActing := s.isActing, wasLead := false } } = true := hpaired
  rw [hpair, Bool.not_true, Bool.false_or, Bool.or_false] at hrole
  exact hrole.around (fun _ _ => rfl) ((SameRegs.refl _ _).setReg List.mem_cons_self _) (State.setBit_sec ..)

theorem exec_irefTakeupTimeout_due {t c : Nat} {s u : State} (hu : s.advance t = u) (hlock : u.chain.noPartnerLock = some c)
    (hpaired : u.paired = true) (hc : c + us 100 ≤ u.now) (hyield : u.bit Reg.CHAIN_STAT 9 = false)
    (hshare : u.bit Reg.CHAIN_CFG 2 = true) (hfull : u.bit Reg.CHAIN_STAT 10 = false) (hseq : u.fld Reg.EMIT_STAT 0 3 ≠ 3) :
    exec (.irefTakeupTimeout t) s =
      .next ((u.setBit Reg.CHAIN_STAT 10 true).raise Ev.CHAIN_IREF_FULL [1, u.lastLatched % 2 ^ 16]) := by
  have hrun : exec (.irefTakeupTimeout t) s = execIrefTakeupTimeout t s := rfl
  have hdue : ¬ ((!u.paired) = true ∨ u.now < c + us 100) := by
    simp only [hpaired, Bool.not_true, Bool.false_eq_true, false_or]
    omega
  have hseq' : ¬ (u.setBit Reg.CHAIN_STAT 10 true).fld Reg.EMIT_STAT 0 3 = 3 := by
    rwa [State.setBit, State.fld_setFld_ne _ _ _ _ _ _ _ _ (by decide)]
  rw [hrun, execIrefTakeupTimeout, hu, hlock]
  simp only [if_neg hdue, hyield, Bool.false_eq_true, if_false, hshare, if_true, State.setFull, hfull, if_neg hseq']
  rfl

/-- Settles O51: each timer does what its operation names, and of a change of roles the registers of the roles and the zones are all
that changes. -/
theorem heartbeatsAndFailover : Obligations.HeartbeatsAndFailover := by
  unfold Obligations.HeartbeatsAndFailover
  refine ⟨?_, ?_, ?_, ?_, ?_, ?_, ?_, ?_⟩
  · intro t s u hu hchained hpaired hdue
    have hrun := exec_heartbeatDue_unpaired hu hchained hpaired hdue
    obtain ⟨x, hx⟩ := u.beatNumbered.each_sendControl ((List.range 4).filter u.portUp) 0x43 (leNat u.hbBody * 2 ^ 16)
    exact ⟨_, hrun.trans (congrArg _ hx), rfl, rfl, rfl, rfl, rfl, rfl⟩
  · intro t p b h s u hu hbeat hpeer
    refine ⟨_, exec_chainHbBlock_peer hu hbeat hpeer, ?_, rfl, ?_, ?_, ?_, rfl⟩
    · rw [State.reg_memberHeard, State.reg_setReg_self]
    · exact fun a ha => (u.reg_memberHeard h a).trans ((SameRegs.refl u _).setReg List.mem_cons_self _ a ha)
    · exact List.mem_append_right _ List.mem_cons_self
    · simp [State.memberHeard]
  · intro t x b h s u hu hbeat hready _
    have hn := (PartnerHeard.partnerBeat (h := h) (n := u.ethHeard) rfl hready).setPath 1 true
    exact ⟨_, exec_heartbeatDatagram_beat hu hbeat, hn.eth, State.bit_setPath _ (by decide) true, hn.partner⟩
  · intro t c s u hu heth hc hbeat hup
    exact exec_hbPathTimeout_eth hu heth hc hbeat hup
  · intro t q c s u hu hpeers hc hlost hbeat hpeer
    obtain ⟨port, hrun⟩ := exec_hbPathTimeout_peer hu hpeers hc hlost hbeat hpeer
    refine ⟨_, _, hrun, State.bit_setBit_self u _ 0 false (by decide), rfl, rfl, ?_, State.raise_raised _ _ _, rfl, rfl⟩
    exact (SameRegs.refl u _).setReg List.mem_cons_self _
  · intro t c s u hu hpaired hfailed hlast hc hchain heth
    obtain ⟨args, old, new, epoch, hfails⟩ := u.partnerFails_eq
    have hrun := (exec_partnerFailTimeout_due hu hpaired hfailed hlast hc hchain heth).trans (congrArg _ hfails)
    have hreg := u.leadsAlone.reg_reportFailure args old new epoch
    obtain ⟨hkchain, hkhbm, hksec⟩ := u.leadsAlone.reportFailure_kept args old new epoch
    obtain ⟨hwas, hwait⟩ := u.leadsAlone_chain
    refine ⟨_, hrun, ?_, ?_, ?_, ?_, ?_, ?_, ?_, ?_, ?_⟩
    · exact (congrArg (Word.bit · 8) (hreg _)).trans u.leadsAlone_failed
    · exact (congrArg (Word.bit · 6) (hreg _)).trans u.leadsAlone_lead
    · exact (congrArg (Word.field · 0 16) (hreg _)).trans u.leadsAlone_epoch
    · exact (congrArg ChainState.wasLead hkchain).trans hwas
    · exact (congrArg ChainState.wait hkchain).trans hwait
    · exact hkhbm.trans u.leadsAlone_hbm
    · exact fun a ha => (hreg a).trans (u.sameRegs_leadsAlone a ha)
    · exact u.zonesPass_leadsAlone.around (SameRegs.refl _ _) (fun a _ => hreg a) hksec
    · exact (State.codes_reportFailure ..).trans (congrArg (List.map Event.code · ++ _) u.leadsAlone_raised)
  · intro t c s u hu hpaired hfailed hwas hlast hc hyield hfewer
    refine ⟨_, exec_yieldCheck_fewer hu hpaired hfailed hwas hlast hc hyield hfewer, ?_, ?_, ?_, ?_, ?_, ?_, ?_⟩
    · exact (State.bit_raise ..).trans u.yields_yielded
    · exact (State.bit_raise ..).trans u.yields_lead
    · exact (State.bit_raise ..).trans u.yields_acting
    · exact (State.raise_hbm ..).trans u.yields_hbm
    · exact fun a ha => (State.reg_raise ..).trans (u.sameRegs_yields a ha)
    · exact (u.zonesPass_yields hpaired).around (SameRegs.refl _ _) (fun _ _ => State.reg_raise ..) (State.raise_sec ..)
    · have hraised := RaisedBy.of_raise u.yields_raised Ev.CHAIN_YIELDED [u.partnerLocks.1, u.yields.fld Reg.SPK_EPOCH 0 16]
      have hepoch : u.fld Reg.SPK_EPOCH 0 16 < 2 ^ 16 := Nat.mod_lt _ (by decide)
      have hmod : u.fld Reg.SPK_EPOCH 0 16 % 2 ^ 32 = u.fld Reg.SPK_EPOCH 0 16 := Nat.mod_eq_of_lt (by omega)
      rw [u.sameRegs_yields.fld (by decide), List.map_cons, List.map_cons, List.map_nil, hmod] at hraised
      rwa [u.sameRegs_yields.fld (by decide)]
  · intro t c s u hu hlock hpaired hc hyield hshare hfull hseq
    exact exec_irefTakeupTimeout_due hu hlock hpaired hc hyield hshare hfull hseq

end Sys2Proof.Machine
end

section
/-! Blocks, handshake and time of the chain (R68, R383 to R387). -/

namespace Sys2Proof.Machine

/-! ## Ports -/

theorem State.chainPort_setChainPort (s : State) (p : Nat) (x : ChainPort) (h : p < s.chain.ports.length) :
    (s.setChainPort p x).chainPort p = x := by
  simp [State.chainPort, State.setChainPort, h]

/-- Blocks sent on a port, in order. -/
theorem State.each_sendGroup (s : State) (p : Nat) (l : List (Nat × List Byte)) :
    ∃ x : LanesState, (s.each l fun s b => s.sendGroup p false b.2) =
      { s with lanes := x, outbox := s.outbox ++ l.map fun b => .chain p b.2 } := by
  induction l generalizing s with
  | nil => exact ⟨s.lanes, by rw [List.map_nil, List.append_nil]; rfl⟩
  | cons b l ih =>
    obtain ⟨x, hx⟩ := s.sendGroup_eq p false b.2
    obtain ⟨y, hy⟩ := ih (s.sendGroup p false b.2)
    refine ⟨y, hy.trans ?_⟩
    rw [hx, List.map_cons, ← List.append_cons]

/-- The place of the block that an ACK or NAK names. -/
theorem findIdx_named {k : Nat} {a b : List (Nat × List Byte)} {d : List Byte} (ha : (a.all fun x => x.1 != k) = true) :
    (a ++ (k, d) :: b).findIdx? (fun x => x.1 == k) = some a.length := by
  have hnone : a.findIdx? (fun x => x.1 == k) = none := by
    rw [List.findIdx?_eq_none_iff]
    intro x hx
    simpa [bne] using List.all_eq_true.mp ha x hx
  simp [List.findIdx?_append, hnone, List.findIdx?_cons]

/-- The blocks from the one that a NAK names. -/
theorem dropWhile_named {k : Nat} {a b : List (Nat × List Byte)} {d : List Byte} (ha : (a.all fun x => x.1 != k) = true) :
    (a ++ (k, d) :: b).dropWhile (fun x => x.1 != k) = (k, d) :: b := by
  rw [List.dropWhile_append_of_pos (List.all_eq_true.mp ha), List.dropWhile_cons_of_neg (by simp)]

/-! ## Data blocks -/

section
variable {t : Nat} {p : Fin 4} {s u : State} (hu : s.advance t = u)
include hu

theorem exec_chainDataBlock_eq (b : List Byte) : exec (.chainDataBlock t p b) s = .next (
    if !u.portUp p then u
    else if b.length ≠ 32 ∨ !(parseDataBlock b).2.2.2 ∨ (parseDataBlock b).2.2.1 ≠ (u.chainPort p).rxSeq then
      if (u.chainPort p).naked then u
      else (u.setChainPort p { u.chainPort p with naked := true }).sendControl p 0x42 ((u.chainPort p).rxSeq * 2 ^ 8)
    else if 128 ≤ (u.chainPort p).sinceAck + 1 then
      ((u.setChainPort p { u.chainPort p with
        rxSeq := ((u.chainPort p).rxSeq + 1) % 2 ^ 16, naked := false, sinceAck := (u.chainPort p).sinceAck + 1 }).takeWords p
          (parseDataBlock b).1 (parseDataBlock b).2.1).sendAck p
    else (u.setChainPort p { u.chainPort p with
        rxSeq := ((u.chainPort p).rxSeq + 1) % 2 ^ 16, naked := false, sinceAck := (u.chainPort p).sinceAck + 1 }).takeWords p
          (parseDataBlock b).1 (parseDataBlock b).2.1) := by
  subst hu
  rfl

theorem exec_chainDataBlock_inOrder {b : List Byte} {v : State} (hup : u.portUp p = true) (hlen : b.length = 32)
    (hparity : (parseDataBlock b).2.2.2 = true) (hseq : (parseDataBlock b).2.2.1 = (u.chainPort p).rxSeq)
    (hack : (u.chainPort p).sinceAck < 127)
    (hv : u.setChainPort p { u.chainPort p with
      rxSeq := ((u.chainPort p).rxSeq + 1) % 2 ^ 16, naked := false, sinceAck := (u.chainPort p).sinceAck + 1 } = v) :
    exec (.chainDataBlock t p b) s = .next (v.takeWords p (parseDataBlock b).1 (parseDataBlock b).2.1) := by
  have hgood : ¬ (b.length ≠ 32 ∨ (!(parseDataBlock b).2.2.2) = true ∨ (parseDataBlock b).2.2.1 ≠ (u.chainPort p).rxSeq) := by
    simp [hlen, hparity, hseq]
  have hfew : ¬ 128 ≤ (u.chainPort p).sinceAck + 1 := by omega
  rw [exec_chainDataBlock_eq hu, hup, if_neg (by decide), if_neg hgood, if_neg hfew, hv]

theorem exec_chainDataBlock_bad {b : List Byte} (hup : u.portUp p = true)
    (hbad : b.length ≠ 32 ∨ (parseDataBlock b).2.2.2 = false ∨ (parseDataBlock b).2.2.1 ≠ (u.chainPort p).rxSeq) :
    exec (.chainDataBlock t p b) s = .next (if (u.chainPort p).naked then u
      else (u.setChainPort p { u.chainPort p with naked := true }).sendControl p 0x42 ((u.chainPort p).rxSeq * 2 ^ 8)) := by
  have hbad' : b.length ≠ 32 ∨ (!(parseDataBlock b).2.2.2) = true ∨ (parseDataBlock b).2.2.1 ≠ (u.chainPort p).rxSeq := by
    rwa [Bool.not_eq_true']
  rw [exec_chainDataBlock_eq hu, hup, if_neg (by decide), if_pos hbad']

/-! ## Acknowledgement -/

theorem exec_chainAckDue_up (hup : u.portUp p = true) : exec (.chainAckDue t p) s = .next (u.sendAck p) := by
  subst hu
  exact congrArg Host.Outcome.next (if_pos hup)

theorem exec_chainAck_named {k : Nat} {a b : List (Nat × List Byte)} {d : List Byte} (hk : k < 2 ^ 16)
    (hout : (u.chainPort p).unacked = a ++ (k, d) :: b) (ha : (a.all fun x => x.1 != k) = true) :
    exec (.chainAck t p k) s = .next ((u.setChainPort p { u.chainPort p with unacked := b }).drain p) := by
  have hrun : exec (.chainAck t p k) s = execChainAck t p k s := rfl
  have hdrop : (a ++ (k, d) :: b).drop (a.length + 1) = b := by
    rw [List.append_cons, List.drop_left' (by simp)]
  rw [hrun, execChainAck, hu, Nat.mod_eq_of_lt hk]
  simp only [hout, findIdx_named ha, hdrop]

theorem exec_chainNak_first {k : Nat} (hk : k < 2 ^ 16) (hup : u.portUp p = true) (hnak : (u.chainPort p).nakSeq = none) :
    exec (.chainNak t p k) s = .next (((u.setChainPort p { u.chainPort p with nakSeq := some (k, 1) }).incFld
      (Reg.CHAIN_PORT_CNT p) 0 16 1).each ((u.chainPort p).unacked.dropWhile fun b => b.1 != k) fun s b =>
        s.sendGroup p false b.2) := by
  have hrun : exec (.chainNak t p k) s = execChainNak t p k s := rfl
  rw [hrun, execChainNak, hu, Nat.mod_eq_of_lt hk]
  simp [hup, hnak]

theorem exec_chainHeldTimeout_one {c : Nat} {k : Packet} (hheld : (u.chainPort p).held = [(c, k)]) (hc : c + ms 1 ≤ u.now) :
    exec (.chainHeldTimeout t p) s =
      .next ((u.setChainPort p { u.chainPort p with held := [] }).incFld (Reg.CHAIN_PORT_CNT p) 24 8 1) := by
  have hrun : exec (.chainHeldTimeout t p) s = execChainHeldTimeout t p s := rfl
  have hkeep : ¬ u.now < c + ms 1 := by omega
  rw [hrun, execChainHeldTimeout, hu]
  simp [hheld, hc, hkeep]

/-! ## Handshake -/

theorem exec_chainTrainBlock_ok {b : List Byte} (hcrc : ctlOk b = true) (htype : blockField b 0 8 = 0x40)
    (hchained : u.chain.chained = true) : exec (.chainTrainBlock t p b) s = .next (u.takeTrain p b) := by
  subst hu
  exact congrArg Host.Outcome.next (if_pos ⟨hcrc, htype, hchained⟩)

theorem exec_chainTrainBlock_bad {b : List Byte} (hcrc : ctlOk b = false) : exec (.chainTrainBlock t p b) s = .next u := by
  subst hu
  exact congrArg Host.Outcome.next (if_neg fun h => absurd (hcrc.symm.trans h.1) (by decide))

theorem exec_handshakeRepeat_asks {q : Nat} (hport : (u.peerPorts.find? fun x => x.1 == p.val) = some (p.val, q))
    (hasks : u.asksAgain p q = true) : exec (.handshakeRepeat t p) s = .next (u.askEcho p q) := by
  have hrun : exec (.handshakeRepeat t p) s = execHandshakeRepeat t p s := rfl
  rw [hrun, execHandshakeRepeat, hu]
  simp only [hport, hasks, if_true]

/-! ## Time -/

theorem exec_chainTimeDue_due (hup : u.portUp p = true) (hdue : limited (u.chainPort p).timeAt (ms 1) u.now = false) :
    exec (.chainTimeDue t p) s = .next ((u.setChainPort p { u.chainPort p with timeAt := some u.now }).sendControl p 0x44
      (stamp80 u.showNs * 2 ^ 24)) := by
  subst hu
  exact congrArg Host.Outcome.next (if_neg (by simp [hup, hdue]))

/-- The time that a TIME block brings on a port, with the port's delay, in 2^−40 ns. -/
def State.timeOn (s : State) (p : Nat) (b : List Byte) : Nat :=
  (blockField b 56 48 * 1000000000 + blockField b 24 32) * 2 ^ 40 + s.fld (Reg.CHAIN_PORT_DELAY p) 0 16 * 2 ^ 38

theorem exec_chainTimeBlock_followed {b : List Byte} (hcrc : ctlOk b = true) (htype : blockField b 0 8 = 0x44)
    (hup : u.portUp p = true) (hloops : u.loops = true) (hport : u.loopPort = p.val) (hsource : u.tbSource ≠ 4) :
    exec (.chainTimeBlock t p b) s =
      .next { u with time := { u.time with chainLine := some (u.chainLineNow (u.timeOn p b)) } } := by
  subst hu
  refine (congrArg Host.Outcome.next (if_neg ?_)).trans (congrArg Host.Outcome.next (if_neg hsource))
  simp [hcrc, htype, hup, hloops, hport]

end

theorem exec_handshakeAbsentTimeout_due {t : Nat} {q : Fin 8} {s u : State} (hu : s.advance t = u)
    (hdue : (u.chain.asked.any fun a => a.1 == q.val && decide (a.2 + ms 500 ≤ u.now)) = true)
    (hanswered : (u.peerPorts.any fun x => x.2 == q.val && !(u.chainPort x.1).echoes.isEmpty) = false)
    (hnow : u.answersNow q = false) (hdone : u.chain.done.contains q.val = false) (habsent : u.chain.absent.contains q.val = false) :
    exec (.handshakeAbsentTimeout t q) s =
      .next (({ u with chain := { u.chain with absent := u.chain.absent ++ [q.val] } }).decideJoin.pumpHandshake) := by
  subst hu
  refine congrArg Host.Outcome.next (if_neg ?_)
  rw [hdue, hanswered, hnow, hdone, habsent]
  decide

theorem State.drain_idle {u : State} {p : Nat} (h0 : (u.chainPort p).wait0 = []) (h1 : (u.chainPort p).wait1 = []) : u.drain p = u := by
  rw [State.drain, h0, h1]
  rfl

theorem State.chainLineNow_at (s : State) (v : Nat) : (s.chainLineNow v).at_ = s.now ∧ (s.chainLineNow v).value = v := by
  unfold State.chainLineNow
  split
  · split <;> exact ⟨rfl, rfl⟩
  · exact ⟨rfl, rfl⟩

/-! ## What the blocks that go out change -/

theorem State.sendAck_eq (s : State) (p : Nat) : ∃ x : LanesState, s.sendAck p =
    { s.setChainPort p { s.chainPort p with sinceAck := 0, ackAt := s.now } with
      lanes := x, outbox := s.outbox ++ [.chain p (ctlBlock 0x41 (((s.chainPort p).rxSeq + 2 ^ 16 - 1) % 2 ^ 16 * 2 ^ 8))] } :=
  State.sendControl_eq _ _ _ _

/-- Settles O49: each command is the branch of its operation that the premises name. -/
theorem chainBlocksAndHandshake : Obligations.ChainBlocksAndHandshake := by
  unfold Obligations.ChainBlocksAndHandshake
  refine ⟨?_, ?_, ?_, ?_, ?_, ?_, ?_, ?_, ?_, ?_, ?_, ?_, ?_⟩
  · intro t p b s u v hu hup hlen hparity hseq hack hv
    exact exec_chainDataBlock_inOrder hu hup hlen hparity hseq hack hv
  · intro t p b s u hu hup hbad
    have hrun := exec_chainDataBlock_bad hu hup hbad
    exact ⟨fun hnaked => hrun.trans (by rw [hnaked]; rfl), fun hnaked => hrun.trans (by rw [hnaked]; rfl)⟩
  · intro t p s u hu hup hports
    obtain ⟨x, hx⟩ := u.sendAck_eq p
    have hport := u.chainPort_setChainPort p { u.chainPort p with sinceAck := 0, ackAt := u.now } (by omega)
    exact ⟨_, (exec_chainAckDue_up hu hup).trans (congrArg _ hx), congrArg ChainPort.sinceAck hport,
      congrArg ChainPort.ackAt hport, rfl, rfl, rfl⟩
  · intro t k p a b d s u hu hk hout ha
    exact exec_chainAck_named hu hk hout ha
  · intro p u h0 h1
    exact State.drain_idle h0 h1
  · intro t k p a b d s u hu hk hup hnak hout ha
    have hrun := exec_chainNak_first hu hk hup hnak
    rw [hout, dropWhile_named ha] at hrun
    obtain ⟨x, hx⟩ := ((u.setChainPort p { u.chainPort p with nakSeq := some (k, 1) }).incFld
      (Reg.CHAIN_PORT_CNT p) 0 16 1).each_sendGroup p ((k, d) :: b)
    refine ⟨_, hrun.trans (congrArg _ hx), rfl, ?_, rfl, ?_, rfl⟩
    · exact State.fld_incFld_self (u.setChainPort p _) _ 0 16 1 (by decide)
    · exact (SameRegs.refl u _).setReg List.mem_cons_self _
  · intro t c p k s u hu hheld hc hports
    have hport := u.chainPort_setChainPort p { u.chainPort p with held := [] } (by omega)
    refine ⟨_, exec_chainHeldTimeout_one hu hheld hc, congrArg ChainPort.held hport, ?_, rfl, ?_, rfl, rfl⟩
    · exact State.fld_incFld_self (u.setChainPort p _) _ 24 8 1 (by decide)
    · exact (SameRegs.refl u _).setReg List.mem_cons_self _
  · intro t p b s u hu hcrc htype hchained
    exact exec_chainTrainBlock_ok hu hcrc htype hchained
  · intro t p b s u hu hcrc
    exact exec_chainTrainBlock_bad hu hcrc
  · intro t q p s u hu hport hasks
    exact exec_handshakeRepeat_asks hu hport hasks
  · intro t q s u hu hdue hanswered hnow hdone habsent
    exact exec_handshakeAbsentTimeout_due hu hdue hanswered hnow hdone habsent
  · intro t p s u hu hup hdue hports
    obtain ⟨x, hx⟩ := (u.setChainPort p { u.chainPort p with timeAt := some u.now }).sendControl_eq p 0x44 (stamp80 u.showNs * 2 ^ 24)
    have hport := u.chainPort_setChainPort p { u.chainPort p with timeAt := some u.now } (by omega)
    exact ⟨_, (exec_chainTimeDue_due hu hup hdue).trans (congrArg _ hx), congrArg ChainPort.timeAt hport, rfl, rfl, rfl, rfl⟩
  · intro t p b s u hu hcrc htype hup hloops hport hsource
    obtain ⟨hat, hvalue⟩ := u.chainLineNow_at (u.timeOn p b)
    exact ⟨_, _, exec_chainTimeBlock_followed hu hcrc htype hup hloops hport hsource, rfl, hat, hvalue, rfl, rfl,
      SameRegs.refl u [], rfl⟩

end Sys2Proof.Machine
end

section
/-! Messages, the trace port and GPIO inputs (R432, R445, R446). -/

namespace Sys2Proof.Machine

/-! ## One bit of a mask -/

theorem testBit_clear (m : Nat) {v : Nat} (hv : v < 32) : (m &&& (2 ^ 32 - 1 - 2 ^ v)).testBit v = false := by
  have hmask : 2 ^ 32 - 1 - 2 ^ v = 2 ^ 32 - (2 ^ v + 1) := by omega
  rw [Nat.testBit_and, hmask, Nat.testBit_two_pow_sub_succ (Nat.pow_lt_pow_right (by decide) hv), Nat.testBit_two_pow_self]
  simp

theorem testBit_set (m v : Nat) : (m ||| 2 ^ v).testBit v = true := by
  rw [Nat.testBit_or, Nat.testBit_two_pow_self, Bool.or_true]

theorem contains_filter_ne (l : List Nat) (v : Nat) : (l.filter (· != v)).contains v = false := by simp

/-! ## Messages -/

section
variable {t : Nat} {v : Fin 32} {s u : State} (hu : s.advance t = u)
include hu

theorem exec_msixIntervalEnd_free (hwait : u.evt.vecWaiting.contains v.val = true) (hfree : u.vecFree v = true) :
    exec (.msixIntervalEnd t v) s = .next (if u.evt.vecMask.testBit v then
      { u with evt := { u.evt with pba := u.evt.pba ||| 2 ^ v.val, vecWaiting := u.evt.vecWaiting.filter (· != v.val) } }
      else u.msixSend v) := by
  subst hu
  exact congrArg Host.Outcome.next (if_neg (by rw [hwait, hfree]; decide))

/-- The vector's mask bit and its pending bit are cleared. -/
def State.unmasked (s : State) (v : Nat) : State :=
  { s with evt := { s.evt with vecMask := s.evt.vecMask &&& (2 ^ 32 - 1 - 2 ^ v), pba := s.evt.pba &&& (2 ^ 32 - 1 - 2 ^ v) } }

theorem exec_msixVectorUnmask_pending (hpba : u.evt.pba.testBit v = true) (hfree : u.vecFree v = true) :
    exec (.msixVectorUnmask t v) s = .next ((u.unmasked v).msixSend v) := by
  subst hu
  exact (congrArg Host.Outcome.next (if_pos hpba)).trans (congrArg Host.Outcome.next (if_pos hfree))

end

theorem State.msixSend_last (s : State) (v : Nat) : mapGet (s.msixSend v).evt.vecLast v = some s.now := if_pos rfl

/-! ## The trace port -/

/-- The packet `p` at the head of the trace queue has left, `rest` behind it. -/
def State.packetSent (s : State) (p : TracePacket) (rest : List TracePacket) : State :=
  { s.emit (.trace (traceBeats (p.bytes s.trace.pseq))) with
    trace := { s.trace with queue := rest, pseq := (s.trace.pseq + 1) % 2 ^ 16, headAt := s.now + beatCycles 4 } }

theorem exec_tracePacketSent_due {t : Nat} {p : TracePacket} {rest : List TracePacket} {s u : State} (hu : s.advance t = u)
    (hqueue : u.trace.queue = p :: rest) (hlost : u.trace.dropped = 0) (hdue : u.trace.headAt + beatCycles 102 ≤ u.now) :
    exec (.tracePacketSent t) s = .next (u.packetSent p rest) := by
  have hrun : exec (.tracePacketSent t) s = execTracePacketSent t s := rfl
  have hloss : (u.packetSent p rest).traceLoss = u.packetSent p rest := if_neg fun h => h.1 hlost
  rw [hrun, execTracePacketSent, hu]
  simp only [hqueue, if_neg (Nat.not_lt.mpr hdue)]
  exact congrArg Host.Outcome.next hloss

/-- Settles O58: each command is the branch of its operation that the premises name. -/
theorem messagesTraceAndGpio : Obligations.MessagesTraceAndGpio := by
  unfold Obligations.MessagesTraceAndGpio
  refine ⟨?_, ?_, ?_, ?_⟩
  · intro t v s u hu hwait hfree
    have hrun := exec_msixIntervalEnd_free hu hwait hfree
    refine ⟨fun hopen => ?_, fun hmasked => ?_⟩
    · rw [hopen] at hrun
      exact ⟨_, hrun, rfl, contains_filter_ne _ _, u.msixSend_last v, rfl, rfl⟩
    · rw [hmasked] at hrun
      exact ⟨_, hrun, rfl, testBit_set _ _, contains_filter_ne _ _, rfl, rfl⟩
  · intro t v s u hu hpba hfree
    exact ⟨_, exec_msixVectorUnmask_pending hu hpba hfree, rfl, testBit_clear _ v.isLt, testBit_clear _ v.isLt, rfl, rfl⟩
  · intro t p rest s u hu hqueue hlost hdue
    exact exec_tracePacketSent_due hu hqueue hlost hdue
  · intro t b h s u hu
    have hrun : exec (.gpioInputChange t b h) s = .next (u.setBit Reg.GLB_GPIO_IN b h) := by
      subst hu
      rfl
    refine ⟨_, hrun, State.bit_setBit_self _ _ _ _ (by omega), fun j _ hj => ?_, rfl, ?_, rfl⟩
    · exact State.bit_setBit_same _ _ _ _ _ (Ne.symm hj)
    · exact (SameRegs.refl u _).setReg List.mem_cons_self _

end Sys2Proof.Machine
end

section
/-! The event ring (R430). -/

namespace Sys2Proof.Machine

/-! ## Writes of registers that take effect at once -/

/-- A write of a register whose bits take effect at once places those that the mask lets through. -/
theorem State.store'_atOnce {a : Nat} (h : (findReg a).map (fun d => (d.access, d.applies)) = some (.rw, .atOnce)) (s : State)
    (req : Requester) (w : Word) : s.store' req a w = s.setReg a ((s.reg a &&& ~~~writeMask a) ||| w) := by
  obtain ⟨d, hd, heq⟩ := Option.map_eq_some_iff.mp h
  obtain ⟨hacc, happ⟩ := Prod.mk.injEq .. ▸ heq
  simp only [State.store', hd, hacc, happ]

theorem State.store'_ringCfg (s : State) (req : Requester) (w : Word) :
    s.store' req Reg.EVT_RING_CFG w = s.setReg Reg.EVT_RING_CFG ((s.reg Reg.EVT_RING_CFG &&& ~~~writeMask Reg.EVT_RING_CFG) ||| w) :=
  State.store'_atOnce (by decide) s req w

theorem State.store'_tail (s : State) (req : Requester) (w : Word) :
    s.store' req Reg.EVT_TAIL w = s.setReg Reg.EVT_TAIL ((s.reg Reg.EVT_TAIL &&& ~~~writeMask Reg.EVT_TAIL) ||| w) :=
  State.store'_atOnce (by decide) s req w

/-! ## EN -/

/-- A write of EVT_RING_CFG places its bits. -/
def State.placeCfg (s : State) (w : Word) : State :=
  s.setReg Reg.EVT_RING_CFG ((s.reg Reg.EVT_RING_CFG &&& ~~~writeMask Reg.EVT_RING_CFG) ||| (w &&& writeMask Reg.EVT_RING_CFG))

theorem bit_and_writeMask_ringCfg (w : Word) : (w &&& writeMask Reg.EVT_RING_CFG).bit 0 = w.bit 0 := by
  have hmask : (writeMask Reg.EVT_RING_CFG).getLsbD 0 = true := by decide
  simp only [Word.bit, BitVec.getLsbD_and, hmask, Bool.and_true]

theorem State.placeCfg_en (s : State) (w : Word) : (s.placeCfg w).bit Reg.EVT_RING_CFG 0 = w.bit 0 := by
  have hmask : (writeMask Reg.EVT_RING_CFG).getLsbD 0 = true := by decide
  simp only [State.bit, State.placeCfg, State.reg_setReg_self, Word.bit, BitVec.getLsbD_or, BitVec.getLsbD_and, BitVec.getLsbD_not,
    hmask, Bool.not_true, Bool.and_false, Bool.false_or, Bool.and_true]

theorem exec_evtRingEnable_ok {t : Nat} {req : Requester} {w : Word} {s u : State} (hu : s.advance t = u)
    (hok : u.accepts req Reg.EVT_RING_CFG w) : exec (.evtRingEnable t req w) s = .next (
      if w.bit 0 then (if u.bit Reg.EVT_STAT 0 then u.placeCfg w else (u.placeCfg w).enableRing) else (u.placeCfg w).disableRing) := by
  have hrun : exec (.evtRingEnable t req w) s = execEvtRingEnable t req w s := rfl
  rw [hrun, execEvtRingEnable, hu, State.guarded_ok hok, State.mirror_local _ _ _ _ (by decide), State.ringConfig,
    bit_and_writeMask_ringCfg, State.store'_ringCfg]
  rfl

/-- The ring from its first slot on, nothing lost, and the early queue empty. -/
def State.ringStarts (s : State) : State :=
  ((({ s with evt := { s.evt with early := [], earlyLost := 0, lostFirst := none, lostCount := 0 } } : State).setNat Reg.EVT_HEAD
    (2 ^ 31)).setNat Reg.EVT_TAIL 0).setNat Reg.EVT_STAT 1

theorem State.enableRing_eq {s : State} (hlost : s.evt.earlyLost = 0) : s.enableRing = s.ringStarts.each s.evt.early State.toRing := by
  have hover : s.earlyOverflow = [] := if_pos hlost
  rw [State.enableRing, hover, List.append_nil]
  rfl

theorem State.ringStarts_head (s : State) : s.ringStarts.reg Reg.EVT_HEAD = 0x80000000 := by
  rw [State.ringStarts, State.reg_setNat, if_neg (by decide), State.reg_setNat, if_neg (by decide), State.reg_setNat, if_pos rfl]
  rfl

theorem State.ringStarts_tail (s : State) : s.ringStarts.reg Reg.EVT_TAIL = 0 := by
  rw [State.ringStarts, State.reg_setNat, if_neg (by decide), State.reg_setNat, if_pos rfl]
  rfl

theorem State.ringStarts_stat (s : State) : s.ringStarts.reg Reg.EVT_STAT = 1 := by
  rw [State.ringStarts, State.reg_setNat, if_pos rfl]
  rfl

/-- The registers of the ring's pointers and state. -/
def ringRegs : List Nat := [Reg.EVT_HEAD, Reg.EVT_TAIL, Reg.EVT_STAT]

theorem State.sameRegs_ringStarts (s : State) : SameRegs s s.ringStarts ringRegs := by
  have hkept : SameRegs s { s with evt := { s.evt with early := [], earlyLost := 0, lostFirst := none, lostCount := 0 } } ringRegs :=
    fun _ _ => rfl
  exact ((hkept.setReg (by decide) _).setReg (by decide) _).setReg (by decide) _

theorem State.disableRing_off (s : State) : s.disableRing.bit Reg.EVT_STAT 0 = false := State.bit_setBit_self _ _ _ _ (by decide)

theorem State.disableRing_en (s : State) : s.disableRing.bit Reg.EVT_RING_CFG 0 = false :=
  (State.bit_setBit_ne _ _ _ _ _ _ (by decide)).trans (State.bit_setBit_self _ _ _ _ (by decide))

theorem State.sameRegs_disableRing (s : State) : SameRegs s s.disableRing [Reg.EVT_RING_CFG, Reg.EVT_STAT] :=
  ((SameRegs.refl s _).setReg (by decide) _).setReg (by decide) _

/-! ## TAIL -/

/-- A write of EVT_TAIL places its bits. -/
def State.placeTail (s : State) (w : Word) : State :=
  s.setReg Reg.EVT_TAIL ((s.reg Reg.EVT_TAIL &&& ~~~writeMask Reg.EVT_TAIL) ||| (w &&& writeMask Reg.EVT_TAIL))

theorem exec_evtTailWrite_ok {t : Nat} {req : Requester} {w : Word} {s u : State} (hu : s.advance t = u)
    (hok : u.accepts req Reg.EVT_TAIL w) : exec (.evtTailWrite t req w) s =
      .next (if (u.placeTail w).bit Reg.EVT_STAT 0 then (u.placeTail w).flushLost else u.placeTail w) := by
  have hrun : exec (.evtTailWrite t req w) s = execEvtTailWrite t req w s := rfl
  rw [hrun, execEvtTailWrite, hu, State.guarded_ok hok, State.mirror_local _ _ _ _ (by decide), State.store'_tail]
  rfl

/-- The record that reports what the ring lost, `c` the code of the first event lost. -/
def State.overflowRecord (s : State) (c : Nat) : Event := ⟨s.now, Ev.EVT_RING_OVERFLOW, [s.evt.lostCount, c], s.showNs⟩

/-- Nothing is lost that is not reported. -/
def State.lossReported (s : State) : State := { s with evt := { s.evt with lostFirst := none, lostCount := 0 } }

theorem State.flushLost_free {s : State} {c : Nat} (hlost : s.evt.lostFirst = some c) (hfree : 2 ≤ s.ringFree)
    (htrace : s.traceOn = false) : s.flushLost = s.lossReported.ringWrite (s.overflowRecord c) := by
  have hsend : s.lossReported.traceSend (.event (s.overflowRecord c)) = s.lossReported := by
    have hoff : s.lossReported.traceOn = false := htrace
    rw [State.traceSend, hoff]
    rfl
  rw [State.flushLost, hlost]
  refine (if_neg (Nat.not_lt.mpr hfree)).trans ?_
  exact congrArg (fun n : State => n.ringWrite (s.overflowRecord c)) hsend

/-- An event whose vector is off goes to its slot and nowhere else. -/
theorem State.ringWrite_unsignalled {s : State} {e : Event} (hvec : s.bit (Reg.EVT_VEC (e.code / 256)) 7 = false) :
    (s.ringWrite e).evt = s.evt ∧
      (s.ringWrite e).outbox = s.outbox ++ [.record (s.fld Reg.EVT_HEAD 0 17) (e.bytes (s.bit Reg.EVT_HEAD 31))] := by
  have hne : Reg.EVT_HEAD ≠ Reg.EVT_VEC (e.code / 256) := by
    unfold Reg.EVT_HEAD Reg.EVT_VEC
    omega
  have hsignal {n : State} (hn : n.reg (Reg.EVT_VEC (e.code / 256)) = s.reg (Reg.EVT_VEC (e.code / 256))) : n.signal e = n := by
    have hoff : (n.reg (Reg.EVT_VEC (e.code / 256))).bit 7 = false := (congrArg (Word.bit · 7) hn).trans hvec
    rw [State.signal, hoff]
    rfl
  unfold State.ringWrite
  extract_lets slots head phase s1 s2 s3
  have h2 : s2.reg (Reg.EVT_VEC (e.code / 256)) = s.reg (Reg.EVT_VEC (e.code / 256)) := State.reg_setFld_ne _ _ _ _ _ _ hne
  have h3 : s3.reg (Reg.EVT_VEC (e.code / 256)) = s.reg (Reg.EVT_VEC (e.code / 256)) ∧ s3.evt = s.evt ∧ s3.outbox = s1.outbox := by
    unfold s3
    split
    · exact ⟨(State.reg_setFld_ne _ _ _ _ _ _ hne).trans h2, rfl, rfl⟩
    · exact ⟨h2, rfl, rfl⟩
  obtain ⟨hreg, hevt, hout⟩ := h3
  rw [hsignal hreg]
  exact ⟨hevt, hout⟩

/-- Settles O57: the ring starts and stops by writes of its registers, and a loss is written before any other record. -/
theorem theRingStartsAndStops : Obligations.TheRingStartsAndStops := by
  unfold Obligations.TheRingStartsAndStops
  refine ⟨?_, ?_, ?_, ?_, ?_⟩
  · intro t req w s u hu hok hen hoff hearly hlost
    have hrun := exec_evtRingEnable_ok hu hok
    have hstart : (u.placeCfg w).enableRing = (u.placeCfg w).ringStarts := by
      have hempty : (u.placeCfg w).evt.early = [] := hearly
      have hnone : (u.placeCfg w).evt.earlyLost = 0 := hlost
      rw [State.enableRing_eq hnone, hempty]
      rfl
    rw [hen, hoff, if_pos rfl, if_neg (by decide), hstart] at hrun
    refine ⟨_, hrun, State.ringStarts_head _, State.ringStarts_tail _, State.ringStarts_stat _, rfl, ?_, rfl, ?_, rfl, rfl⟩
    · exact (congrArg (Word.bit · 0) (State.sameRegs_ringStarts _ _ (by decide))).trans ((u.placeCfg_en w).trans hen)
    · have hcfg : SameRegs u (u.placeCfg w) (Reg.EVT_RING_CFG :: ringRegs) := (SameRegs.refl u _).setReg List.mem_cons_self _
      exact hcfg.trans ((State.sameRegs_ringStarts _).mono (List.subset_cons_self _ _))
  · intro q u hq hlost
    exact ⟨u.ringStarts, u.ringStarts_head, u.ringStarts_tail, rfl, hq ▸ State.enableRing_eq hlost⟩
  · intro t req w s u hu hok hen
    have hrun := exec_evtRingEnable_ok hu hok
    rw [hen, if_neg (by decide)] at hrun
    have hcfg : SameRegs u (u.placeCfg w) [Reg.EVT_RING_CFG, Reg.EVT_STAT] := (SameRegs.refl u _).setReg List.mem_cons_self _
    exact ⟨_, hrun, State.disableRing_off _, State.disableRing_en _, rfl, hcfg.trans (State.sameRegs_disableRing _), rfl⟩
  · intro t req w s u v hu hok hv
    have hrun := exec_evtTailWrite_ok hu hok
    have hplace : u.placeTail w = v := hv
    rw [hplace] at hrun
    refine ⟨fun hnone => hrun.trans (congrArg _ ?_), fun c hlost hon hfree hvec htrace => ?_⟩
    · split
      next hon =>
        rcases hnone with hnone | hoff
        · rw [State.flushLost, hnone]
        · exact absurd (hon.symm.trans hoff) (by decide)
      next => rfl
    · rw [if_pos hon, State.flushLost_free hlost hfree htrace] at hrun
      have hoff : v.lossReported.bit (Reg.EVT_VEC ((v.overflowRecord c).code / 256)) 7 = false := by
        have hblock : (v.overflowRecord c).code / 256 = 3 := (by decide : Ev.EVT_RING_OVERFLOW / 256 = 3)
        rw [hblock]
        exact hvec
      obtain ⟨hevt, hout⟩ := State.ringWrite_unsignalled hoff
      exact ⟨_, hrun, congrArg EvtState.lostFirst hevt, hout⟩
  · intro t slot reason s u hu hon
    have hrun : exec (.evtRingWriteError t slot reason) s = .next (u.disableRing.raise Ev.EVT_RING_ERROR [slot, reason]) := by
      subst hu
      exact congrArg Host.Outcome.next (if_pos hon)
    refine ⟨_, hrun, u.disableRing_off, u.disableRing_en, rfl, ?_, RaisedBy.of_raise rfl _ _⟩
    exact u.sameRegs_disableRing.mono fun a ha => by simpa [or_comm] using ha

end Sys2Proof.Machine
end

section
/-! The PTP slaves (R346, R347): their messages, their servo and their timers. -/

namespace Sys2Proof.Machine

/-! ## A slave, and the choice of the source of show time -/

@[simp] theorem State.slave_setSlave (s : State) (b : Nat) (x : SlaveState) : (s.setSlave b x).slave b = x := by
  unfold State.setSlave State.slave
  split
  · rfl
  · rfl

@[simp] theorem State.setSlave_regs (s : State) (b : Nat) (x : SlaveState) : (s.setSlave b x).regs = s.regs := by
  unfold State.setSlave
  split
  · rfl
  · rfl

@[simp] theorem State.setSlave_hbm (s : State) (b : Nat) (x : SlaveState) : (s.setSlave b x).hbm = s.hbm := by
  unfold State.setSlave
  split
  · rfl
  · rfl

@[simp] theorem State.setSlave_raised (s : State) (b : Nat) (x : SlaveState) : (s.setSlave b x).raised = s.raised := by
  unfold State.setSlave
  split
  · rfl
  · rfl

theorem State.reg_setSlave (s : State) (b : Nat) (x : SlaveState) (a : Nat) : (s.setSlave b x).reg a = s.reg a :=
  State.reg_congr (s.setSlave_regs b x) a

theorem State.tbState_setSlave (s : State) (b c : Nat) (x : SlaveState) : (s.setSlave b x).tbState c = s.tbState c :=
  congrArg (Word.field · _ _) (s.reg_setSlave b x _)

/-- TB2 follows a line: nothing else of the time changes. -/
theorem State.followLine_eq (s : State) (l : TimeLine) :
    ∃ x y, s.followLine l = { s with time := { s.time with tb2 := x, slew := y } } := by
  unfold State.followLine
  extract_lets t
  split
  · exact ⟨_, _, rfl⟩
  · exact ⟨_, _, rfl⟩

theorem State.follow_eq (s : State) : ∃ x y, s.follow = { s with time := { s.time with tb2 := x, slew := y } } := by
  unfold State.follow
  split
  · exact s.followLine_eq _
  · exact ⟨_, _, rfl⟩

/-- `n` comes from `s` by a choice of the source: the slaves stand, TIME_STAT changes in its source alone, and events are added. -/
structure SourcePicked (s n : State) : Prop where
  time : ∃ x y, n.time = { s.time with tb2 := x, slew := y }
  hbm : n.hbm = s.hbm
  regs : SameRegs s n [Reg.TIME_STAT]
  states : n.fld Reg.TIME_STAT 0 4 = s.fld Reg.TIME_STAT 0 4
  raised : ∃ l, n.raised = s.raised ++ l

theorem SourcePicked.slave {s n : State} (h : SourcePicked s n) (b : Nat) : n.slave b = s.slave b := by
  obtain ⟨x, y, htime⟩ := h.time
  rw [State.slave, State.slave, htime]

theorem SourcePicked.refl (s : State) : SourcePicked s s :=
  ⟨⟨_, _, rfl⟩, rfl, SameRegs.refl s _, rfl, [], (List.append_nil _).symm⟩

/-- The state of TB0 or TB1 lies in the low bits of TIME_STAT. -/
theorem tbState_of_states {s n : State} (h : n.fld Reg.TIME_STAT 0 4 = s.fld Reg.TIME_STAT 0 4) {b : Nat} (hb : b < 2) :
    n.tbState b = s.tbState b := by
  have hlow (u : State) : u.tbState b = u.fld Reg.TIME_STAT 0 4 / 2 ^ (2 * b) % 4 := by
    have hcases : b = 0 ∨ b = 1 := by omega
    simp only [State.tbState, State.fld, Word.field]
    rcases hcases with rfl | rfl <;> omega
  rw [hlow, hlow, h]

/-- The line that TB2 follows is not of the slaves and not of the registers. -/
theorem SourcePicked.line {s n : State} (h : SourcePicked s n) (x : TimeLine) (y : Slew) :
    SourcePicked s { n with time := { n.time with tb2 := x, slew := y } } := by
  obtain ⟨⟨_, _, htime⟩, hhbm, hregs, hstates, hraised⟩ := h
  exact ⟨⟨x, y, by rw [htime]⟩, hhbm, hregs, hstates, hraised⟩

theorem SourcePicked.follow {s n : State} (h : SourcePicked s n) : SourcePicked s n.follow := by
  obtain ⟨x, y, hline⟩ := n.follow_eq
  rw [hline]
  exact h.line x y

theorem SourcePicked.followLine {s n : State} (h : SourcePicked s n) (l : TimeLine) : SourcePicked s (n.followLine l) := by
  obtain ⟨x, y, hline⟩ := n.followLine_eq l
  rw [hline]
  exact h.line x y

/-- The source of show time is set, and reported. -/
theorem State.sourcePicked_raise (s : State) (new : Nat) (args : List Nat) :
    SourcePicked s ((s.setFld Reg.TIME_STAT 4 3 new).raise Ev.TIME_TB2_SOURCE args) where
  time := ⟨_, _, rfl⟩
  hbm := rfl
  regs := (SameRegs.refl s _).setReg List.mem_cons_self _
  states := by rw [State.fld_raise, State.fld_setFld_same _ _ _ _ _ _ _ (by decide)]
  raised := ⟨_, rfl⟩

theorem State.sourcePicked_pickSource (s : State) : SourcePicked s s.pickSource := by
  unfold State.pickSource
  extract_lets new old off v
  have hv : SourcePicked s v := s.sourcePicked_raise new _
  split
  · exact SourcePicked.refl s
  · split
    · exact hv.followLine _
    · exact hv.follow

/-! ## The state of a time base -/

/-- A time base takes the state `new`, and reports it. -/
def State.baseMoves (s : State) (b new : Nat) : State :=
  ((s.setSlave b { s.slave b with lockedSince := if new = 2 then some s.now else none, good := 0, bad := 0 }).setFld Reg.TIME_STAT
    (2 * b) 2 new).raise Ev.TIME_TB_STATE
    [b, s.tbState b, new, (((s.slave b).master.map fun (m : Master) => m.ann.gmId).getD 0) % 2 ^ 32]

theorem State.setTbState_moves {s : State} {b new : Nat} (h : s.tbState b ≠ new) :
    s.setTbState b new = (s.baseMoves b new).pickSource := if_neg h

theorem State.setTbState_stays {s : State} {b new : Nat} (h : s.tbState b = new) : s.setTbState b new = s := if_pos h

theorem State.slave_baseMoves (s : State) (b new : Nat) : (s.baseMoves b new).slave b =
    { s.slave b with lockedSince := if new = 2 then some s.now else none, good := 0, bad := 0 } :=
  s.slave_setSlave b _

theorem State.tbState_baseMoves (s : State) {b new : Nat} (hb : b < 2) (hnew : new < 4) : (s.baseMoves b new).tbState b = new := by
  rw [State.baseMoves, State.tbState, State.fld_raise, State.fld_setFld_self _ _ _ _ _ (by omega)]
  exact Nat.mod_eq_of_lt hnew

theorem State.mem_raised_baseMoves (s : State) (b new : Nat) : ∃ e ∈ (s.baseMoves b new).raised, e.code = Ev.TIME_TB_STATE ∧
    e.args.take 3 = [b % 2 ^ 32, s.tbState b % 2 ^ 32, new % 2 ^ 32] :=
  ⟨_, List.mem_append_right _ List.mem_cons_self, rfl, rfl⟩

theorem State.baseMoves_hbm (s : State) (b new : Nat) : (s.baseMoves b new).hbm = s.hbm := s.setSlave_hbm b _

theorem State.sameRegs_baseMoves (s : State) (b new : Nat) : SameRegs s (s.baseMoves b new) [Reg.TIME_STAT] := by
  have hslave : SameRegs s (s.setSlave b { s.slave b with lockedSince := if new = 2 then some s.now else none, good := 0, bad := 0 })
      [Reg.TIME_STAT] := fun a _ => s.reg_setSlave b _ a
  exact hslave.setReg List.mem_cons_self _

/-- `n` comes from `s` by moves of time base `b`: the masters that it knows stand, and of the registers TIME_STAT alone changes. -/
structure BaseKept (b : Nat) (s n : State) : Prop where
  masters : (n.slave b).masters = (s.slave b).masters
  hbm : n.hbm = s.hbm
  regs : SameRegs s n [Reg.TIME_STAT]

theorem BaseKept.refl (b : Nat) (s : State) : BaseKept b s s := ⟨rfl, rfl, SameRegs.refl s _⟩

theorem BaseKept.setTbState {b : Nat} {s n : State} (h : BaseKept b s n) (new : Nat) : BaseKept b s (n.setTbState b new) := by
  by_cases hold : n.tbState b = new
  · rwa [State.setTbState_stays hold]
  · rw [State.setTbState_moves hold]
    have hpick := (n.baseMoves b new).sourcePicked_pickSource
    refine ⟨?_, ?_, ?_⟩
    · rw [hpick.slave, State.slave_baseMoves]
      exact h.masters
    · rw [hpick.hbm, State.baseMoves_hbm, h.hbm]
    · exact (h.regs.trans (n.sameRegs_baseMoves b new)).trans hpick.regs

theorem BaseKept.setSlave {b : Nat} {s n : State} (h : BaseKept b s n) {x : SlaveState} (hx : x.masters = (n.slave b).masters) :
    BaseKept b s (n.setSlave b x) :=
  ⟨by rw [State.slave_setSlave, hx, h.masters], by rw [State.setSlave_hbm, h.hbm],
    fun a ha => (n.reg_setSlave b x a).trans (h.regs a ha)⟩

/-- The choice of a master leaves the masters that are known. -/
theorem BaseKept.selectMaster {b : Nat} {s n : State} (h : BaseKept b s n) : BaseKept b s (n.selectMaster b) := by
  unfold State.selectMaster
  extract_lets x sel v
  have hv : BaseKept b s v := h.setSlave rfl
  clear_value sel
  split
  · exact h
  · split
    · exact hv.setTbState 1
    · split
      · exact hv.setTbState 0
      · split
        · exact hv.setTbState 3
        · exact hv

/-! ## Messages -/

section
variable {t b : Nat} {x : Fin 2} {m : PtpMsg} {s u : State} (hu : s.advance t = u)
include hu

theorem exec_ptpSync_twoStep (hslave : u.slaveOf x m = some b) (htwo : m.twoStep = true) : exec (.ptpSync t x m) s =
    .next (u.setSlave b { u.slave b with lastSync := u.now, syncLog := m.logInterval, twoStep := some m }) := by
  have hrun : exec (.ptpSync t x m) s = execPtpSync t x m s := rfl
  rw [hrun, execPtpSync, hu]
  simp only [hslave, htwo, if_true]

theorem exec_ptpSync_oneStep (hslave : u.slaveOf x m = some b) (htwo : m.twoStep = false) : exec (.ptpSync t x m) s =
    .next ((u.setSlave b { u.slave b with lastSync := u.now, syncLog := m.logInterval, twoStep := none }).takeSync b x m.stamp
      ((m.origin : Int) + m.correction)) := by
  have hrun : exec (.ptpSync t x m) s = execPtpSync t x m s := rfl
  rw [hrun, execPtpSync, hu]
  simp only [hslave, htwo, Bool.false_eq_true, if_false]

theorem exec_ptpFollowUp_named {y : PtpMsg} (hslave : u.slaveOf x m = some b) (htwo : (u.slave b).twoStep = some y)
    (hseq : y.seq = m.seq) : exec (.ptpFollowUp t x m) s =
    .next ((u.setSlave b { u.slave b with twoStep := none }).takeSync b x y.stamp ((m.origin : Int) + y.correction + m.correction)) := by
  have hrun : exec (.ptpFollowUp t x m) s = execPtpFollowUp t x m s := rfl
  rw [hrun, execPtpFollowUp, hu]
  simp only [hslave, htwo, hseq, ne_eq, not_true_eq_false, if_false]

/-- The delay of the path that a response to the slave's own request measures. -/
def State.pathDelay (s : State) (b : Nat) (x : Fin 2) (m : PtpMsg) : Int :=
  ((s.slave b).syncDelta + ((m.origin : Int) - (m.stamp + s.netAdj (Reg.NET_EGR_ADJ x)) - m.correction)) / 2

theorem exec_ptpDelayResp_first {c : Nat} (hslave : u.slaveOf x m = some b) (hreq : (u.slave b).delayReq = some (c, m.seq))
    (hmpd : (u.slave b).mpd = []) : exec (.ptpDelayResp t x m) s = .next (u.setSlave b
      { u.slave b with delayReq := none, delayLog := m.logInterval, mpd := [u.pathDelay b x m] }) := by
  have hrun : exec (.ptpDelayResp t x m) s = execPtpDelayResp t x m s := rfl
  rw [hrun, execPtpDelayResp, hu]
  simp only [hslave, hreq, hmpd, ne_eq, not_true_eq_false, if_false]
  rfl

end

/-- An Announce of a master of time base `b` enters its list. -/
theorem exec_ptpAnnounce_heard {t b : Nat} {x : Fin 2} {a : PtpAnnounce} {s u : State} (hu : s.advance t = u)
    (hbase : u.domainBase a.domain = some b) (hport : u.slavePort b x = true) :
    ∃ (n : State) (k : Master), exec (.ptpAnnounce t x a) s = .next n ∧ k ∈ (n.slave b).masters ∧ k.port = x.val ∧ k.ann = a ∧
      k.at_ = u.now := by
  have hrun : exec (.ptpAnnounce t x a) s = execPtpAnnounce t x a s := rfl
  rw [hrun, execPtpAnnounce, hu]
  simp -zeta only [hbase, hport, Bool.not_true, Bool.false_eq_true, if_false]
  extract_lets y same before new mine grown w n z
  have hgrown : new ∈ grown.masters := List.mem_append_right _ List.mem_cons_self
  have hnew : new ∈ w.masters := by
    unfold w
    split
    · exact hgrown
    · exact hgrown
  have hset : new ∈ ((u.setSlave b w).slave b).masters := by rwa [State.slave_setSlave]
  have hn : new ∈ (n.slave b).masters := by
    have hkept : BaseKept b (u.setSlave b w) n := (BaseKept.refl b _).selectMaster
    rwa [hkept.masters]
  refine ⟨_, new, rfl, ?_, rfl, rfl, rfl⟩
  split
  · rwa [State.slave_setSlave]
  · exact hn

/-! ## The servo steps -/

theorem State.fld_follow (s : State) (a lo n : Nat) : s.follow.fld a lo n = s.fld a lo n := by
  obtain ⟨x, y, hline⟩ := s.follow_eq
  rw [hline]
  rfl

theorem State.slave_follow (s : State) (b : Nat) : s.follow.slave b = s.slave b := by
  obtain ⟨x, y, hline⟩ := s.follow_eq
  rw [hline]
  rfl

/-- A time base that acquires and is far off steps its line, and goes on to acquire (R347). -/
theorem State.servo_acquiring {b : Nat} {o : Int} {u : State} (hst : u.tbState b = 1) (hoff : oneMicro < o.natAbs) :
    ((u.servo b o).slave b).line = (u.slave b).line.step u.now (-o) ∧ (u.servo b o).tbState b = 1 := by
  unfold State.servo
  extract_lets y aimed lock st off n add good bad v w
  have hn : n.tbState b = 1 := (u.tbState_setSlave b b _).trans hst
  rw [if_pos ⟨Or.inl hst, hoff⟩, State.setTbState_stays hn]
  refine ⟨?_, ?_⟩
  · rw [State.slave_follow, State.slave_setSlave]
  · rw [State.tbState, State.fld_follow]
    exact hn

/-! ## The egress queues leave the time -/

theorem State.time_settle (s : State) (x q c : Nat) : (s.settle x q c).time = s.time :=
  (apply_ite State.time _ _ _).trans (ite_self _)

theorem State.time_settlePort (s : State) (x c : Nat) : (s.settlePort x c).time = s.time :=
  State.each_keeps (g := State.time) (fun s q => s.time_settle x q c) s _

theorem State.time_tcCorrect (s : State) (x units : Nat) (f : QFrame) : (s.tcCorrect x units f).2.time = s.time := by
  unfold State.tcCorrect
  split
  · extract_lets
    split
    · rfl
    · split
      · rfl
      · split
        · rfl
        · split
          · split
            · rfl
            · rfl
          · rfl
  · rfl

theorem State.time_serve (s : State) (x c : Nat) : (s.serve x c).time = s.time := by
  unfold State.serve
  extract_lets e v e1 _
  split
  · rfl
  · split
    · rfl
    · extract_lets y
      have hv : v.time = s.time := s.time_settlePort x c
      split
      · exact hv
      · split
        next f _ _ bytes n hn =>
          have htime : n.time = s.time := by rw [← hv, ← v.time_tcCorrect x c f, hn]
          extract_lets w moved sent counted
          have hcounted : counted.time = n.time := (apply_ite State.time _ _ _).trans (ite_self _)
          exact hcounted.trans htime

theorem State.time_enqueue (s : State) (x q : Nat) (f : List Byte) (tc : Option (Nat × Nat)) : (s.enqueue x q f tc).time = s.time := by
  unfold State.enqueue
  extract_lets
  split
  · split
    · rfl
    · rfl
  · exact State.time_serve _ _ _

theorem State.slave_enqueue (s : State) (x q : Nat) (f : List Byte) (tc : Option (Nat × Nat)) (b : Nat) :
    (s.enqueue x q f tc).slave b = s.slave b := by
  rw [State.slave, State.slave, s.time_enqueue]

/-! ## The timers -/

section
variable {t p : Nat} {src : List Byte} {b : Fin 2} {s u : State} (hu : s.advance t = u)
include hu

/-- The slave sends its Delay_Req with the next number (R346). -/
theorem exec_ptpDelayReqDue_sends (hsel : (u.slave b).sel = some (src, p))
    (hdue : ((u.slave b).delayAt.all fun c => decide (c + logCycles 1 (u.slave b).delayLog ≤ u.now)) = true) :
    ∃ n : State, exec (.ptpDelayReqDue t b) s = .next n ∧ (n.slave b).delayAt = some u.now ∧
      (n.slave b).delaySeq = ((u.slave b).delaySeq + 1) % 2 ^ 16 ∧
      (n.slave b).delayReq = some (flatFns (u.time.tbFine b u.now), ((u.slave b).delaySeq + 1) % 2 ^ 16) ∧
      (n.slave b).sel = some (src, p) := by
  have hearly : ((u.slave b).delayAt.any fun c => decide (u.now < c + logCycles 1 (u.slave b).delayLog)) = false := by
    cases hat : (u.slave b).delayAt with
    | none => rfl
    | some c => simpa [hat] using hdue
  have hrun : exec (.ptpDelayReqDue t b) s = execPtpDelayReqDue t b s := rfl
  rw [hrun, execPtpDelayReqDue, hu]
  simp only [hsel, hearly, Bool.false_eq_true, if_false]
  refine ⟨_, rfl, ?_⟩
  rw [State.slave_enqueue, State.slave_setSlave]
  exact ⟨rfl, rfl, rfl, rfl⟩

/-- A LOCKED time base that hears no Sync holds over (R347). -/
theorem exec_ptpSyncTimeout_holds (hst : u.tbState b = 2) (hnow : u.syncNow b = false)
    (hlate : (u.slave b).lastSync + logCycles 3 (u.slave b).syncLog ≤ u.now) :
    ∃ (n : State) (e : Event), exec (.ptpSyncTimeout t b) s = .next n ∧ n.tbState b = 3 ∧ (n.slave b).lockedSince = none ∧ e ∈ n.raised ∧
      e.code = Ev.TIME_TB_STATE ∧ e.args.take 3 = [b.val, 2, 3] ∧ n.hbm = u.hbm ∧ SameRegs u n [Reg.TIME_STAT] := by
  have hrun : exec (.ptpSyncTimeout t b) s = execPtpSyncTimeout t b s := rfl
  have hmoves : exec (.ptpSyncTimeout t b) s = .next (u.baseMoves b 3).pickSource := by
    have hold : u.tbState b ≠ 3 := by omega
    rw [hrun, execPtpSyncTimeout, hu, ← State.setTbState_moves hold]
    exact congrArg Host.Outcome.next (if_pos ⟨hst, hlate, by rw [hnow]; rfl⟩)
  have hpick := (u.baseMoves b 3).sourcePicked_pickSource
  obtain ⟨l, hl⟩ := hpick.raised
  obtain ⟨e, hmem, hcode, hargs⟩ := u.mem_raised_baseMoves b 3
  refine ⟨_, e, hmoves, ?_, ?_, ?_, hcode, ?_, ?_, ?_⟩
  · rw [tbState_of_states hpick.states b.isLt, State.tbState_baseMoves _ b.isLt (by decide)]
  · rw [hpick.slave, State.slave_baseMoves]
    rfl
  · rw [hl]
    exact List.mem_append_left _ hmem
  · rw [hargs, hst, Nat.mod_eq_of_lt (by omega)]
    rfl
  · rw [hpick.hbm, State.baseMoves_hbm]
  · exact (u.sameRegs_baseMoves b 3).trans hpick.regs

/-- A slave that has forgotten the master of a source on a port. -/
def State.slaveWithout (s : State) (b p : Nat) (src : List Byte) : SlaveState :=
  { s.slave b with masters := (s.slave b).masters.filter fun m => !(m.port == p && m.ann.source == src) }

/-- A master that is silent is forgotten (R347). -/
theorem exec_ptpAnnounceTimeout_forgets (hsel : (u.slave b).sel = some (src, p)) (hnow : u.announceNow b = false)
    (hlate : (u.slave b).lastAnnounce + logCycles 3 (u.slave b).announceLog ≤ u.now) :
    ∃ n : State, exec (.ptpAnnounceTimeout t b) s = .next n ∧
      (∀ m ∈ (n.slave b).masters, ¬(m.port = p ∧ m.ann.source = src)) ∧ n.hbm = u.hbm ∧ SameRegs u n [Reg.TIME_STAT] := by
  have hrun : exec (.ptpAnnounceTimeout t b) s = execPtpAnnounceTimeout t b s := rfl
  have hforgets : exec (.ptpAnnounceTimeout t b) s = .next ((u.setSlave b (u.slaveWithout b p src)).selectMaster b) := by
    rw [hrun, execPtpAnnounceTimeout, hu]
    simp only [hsel, hlate, hnow, Bool.not_false, and_self, if_true, State.slaveWithout]
  refine ⟨_, hforgets, ?_⟩
  obtain ⟨hmasters, hhbm, hregs⟩ := (BaseKept.refl b.val (u.setSlave b (u.slaveWithout b p src))).selectMaster
  refine ⟨?_, hhbm.trans (u.setSlave_hbm b _), fun a ha => (hregs a ha).trans (u.reg_setSlave b _ a)⟩
  intro m hm hgone
  have hin : m ∈ (u.slaveWithout b p src).masters := by
    rw [← u.slave_setSlave b (u.slaveWithout b p src), ← hmasters]
    exact hm
  simp [State.slaveWithout, hgone.1, hgone.2] at hin

end

/-- Settles O46: each message and each timer is taken by the rules of its own, and a choice of master or source leaves the slaves. -/
theorem ptpSlaves : Obligations.PtpSlaves := by
  unfold Obligations.PtpSlaves
  refine ⟨?_, ?_, ?_, ?_, ?_, ?_, ?_, ?_, ?_⟩
  · exact fun t b x m s u hu => exec_ptpSync_twoStep hu
  · exact fun t b x m s u hu => exec_ptpSync_oneStep hu
  · exact fun t b x m y s u hu => exec_ptpFollowUp_named hu
  · intro t b c x m s u hu hslave hreq hmpd
    refine ⟨_, exec_ptpDelayResp_first hu hslave hreq hmpd, ?_⟩
    rw [State.slave_setSlave]
    exact ⟨rfl, rfl, rfl, u.setSlave_hbm b _, fun a _ => u.reg_setSlave b _ a, u.setSlave_raised b _⟩
  · exact fun t b x a s u hu => exec_ptpAnnounce_heard hu
  · exact fun b o u => State.servo_acquiring
  · exact fun t p src b s u hu => exec_ptpDelayReqDue_sends hu
  · exact fun t b s u hu => exec_ptpSyncTimeout_holds hu
  · exact fun t p src b s u hu => exec_ptpAnnounceTimeout_forgets hu

end Sys2Proof.Machine
end

section
/-! Show time, its references and PPS_OUT (R350 to R354, R359). -/

namespace Sys2Proof.Machine

/-! ## The source of show time moves -/

theorem State.pickSource_stays {s : State} (h : s.wantedSource = s.tbSource) : s.pickSource = s := if_pos h

/-- The source of show time is set, and reported. -/
def State.sourceMoves (s : State) (new arg : Nat) : State :=
  (s.setFld Reg.TIME_STAT 4 3 new).raise Ev.TIME_TB2_SOURCE [s.tbSource, new, arg]

theorem State.fld_line (s : State) (x : TimeLine) (y : Slew) (a lo n : Nat) :
    ({ s with time := { s.time with tb2 := x, slew := y } } : State).fld a lo n = s.fld a lo n := rfl

theorem State.raised_line (s : State) (x : TimeLine) (y : Slew) :
    ({ s with time := { s.time with tb2 := x, slew := y } } : State).raised = s.raised := rfl

/-- With another source wanted the choice sets and reports it, and TB2 takes a line. -/
theorem State.pickSource_moves {s : State} (h : s.wantedSource ≠ s.tbSource) : ∃ arg x y, s.pickSource =
    { s.sourceMoves s.wantedSource arg with time := { (s.sourceMoves s.wantedSource arg).time with tb2 := x, slew := y } } := by
  unfold State.pickSource
  extract_lets new old off v
  rw [if_neg h]
  split
  · obtain ⟨x, y, hline⟩ := v.followLine_eq { at_ := v.now, value := v.time.showFine v.now, addend := v.refAddend }
    exact ⟨_, x, y, hline⟩
  · obtain ⟨x, y, hline⟩ := v.follow_eq
    exact ⟨_, x, y, hline⟩

theorem State.tbSource_sourceMoves (s : State) (new arg : Nat) : (s.sourceMoves new arg).tbSource = new % 8 := by
  rw [State.tbSource, State.sourceMoves, State.fld_raise, State.fld_setFld_self _ _ _ _ _ (by decide)]
  rfl

theorem State.raised_sourceMoves (s : State) (new arg : Nat) : ∃ e : Event, (s.sourceMoves new arg).raised = s.raised ++ [e] ∧
    e.code = Ev.TIME_TB2_SOURCE ∧ e.args.take 2 = [s.tbSource % 2 ^ 32, new % 2 ^ 32] := ⟨_, rfl, rfl, rfl⟩

/-- TB0 that has been LOCKED for 10 s is wanted again, with REVERT (R352). -/
theorem State.wantedSource_reverts {u : State} {c : Nat} (hcfg : u.fld Reg.TIME_TB2_CFG 0 3 = 2) (hrevert : u.bit Reg.TIME_TB2_CFG 3 = true)
    (hsource : u.tbSource = 1) (hlocked : u.tbState 0 = 2) (hsince : u.time.tb0.lockedSince = some c) (hlong : c + ms 10000 ≤ u.now) :
    u.wantedSource = 0 := by
  have hback : (u.time.tb0.lockedSince.any fun c => decide (c + ms 10000 ≤ u.now)) = true := by
    rw [hsince, Option.any_some]
    exact decide_eq_true hlong
  simp only [State.wantedSource, State.autoSource, hcfg, hrevert, hsource, hlocked, hback, Bool.and_self, beq_self_eq_true, Bool.not_true,
    Bool.false_eq_true, and_false, if_false, if_true]

/-! ## Presence of the inputs -/

/-- A steer of TB2 at an edge on PPS_IN leaves what `SourcePicked` says. -/
theorem State.sourcePicked_ppsSteer (s : State) : SourcePicked
    (({ s with time := { s.time with lastPps := s.now, ppsPresent := true } } : State).setBit Reg.TIME_REF_STAT 1 true) s.ppsSteer := by
  unfold State.ppsSteer
  extract_lets x v w sec z
  have hw : SourcePicked (v.setBit Reg.TIME_REF_STAT 1 true) w := State.sourcePicked_pickSource _
  split
  · exact hw.followLine _
  · exact hw

/-- `n` comes from `s` by a capture on input `m`: the lines and inputs of time stand, and of the registers its own alone changes. -/
structure Captured (m : Nat) (s n : State) : Prop where
  now : n.now = s.now
  hbm : n.hbm = s.hbm
  regs : SameRegs s n [Reg.TIME_CAP_STAT m]

theorem Captured.setCap {m : Nat} {s n : State} (h : Captured m s n) (x : CapState) : Captured m s (n.setCap m x) :=
  ⟨h.now, h.hbm, h.regs.setReg List.mem_cons_self _⟩

theorem State.captured_capture (s : State) (m : Nat) (dn : Bool) : Captured m s (s.capture m dn) := by
  have hrefl : Captured m s s := ⟨rfl, rfl, SameRegs.refl s _⟩
  unfold State.capture
  split
  · exact hrefl
  · extract_lets x v w z
    split
    · have hw : Captured m s w := ⟨rfl, rfl, hrefl.regs.setReg List.mem_cons_self _⟩
      split
      · exact hw.setCap _
      · obtain ⟨hnow, hhbm, hregs⟩ := hw.setCap { x with overflowAt := some w.now, overflowCount := 0 }
        exact ⟨hnow, hhbm, hregs⟩
    · have hz : Captured m s z := hrefl.setCap _
      split
      · obtain ⟨hnow, hhbm, hregs⟩ := hz
        exact ⟨hnow, hhbm, hregs⟩
      · exact hz

/-- An edge on PPS_IN makes the input present (R354). -/
theorem exec_ppsInEdge_present {t : Nat} {s u : State} (hu : s.advance t = u) :
    ∃ n : State, exec (.ppsInEdge t) s = .next n ∧ n.time.lastPps = u.now ∧ n.time.ppsPresent = true ∧ n.bit Reg.TIME_REF_STAT 1 = true ∧
      n.hbm = u.hbm ∧ SameRegs u n [Reg.TIME_REF_STAT, Reg.TIME_STAT, Reg.TIME_CAP_STAT 2] := by
  have hrun : exec (.ppsInEdge t) s = execPpsInEdge t s := rfl
  rw [hrun, execPpsInEdge, hu]
  obtain ⟨hnow, hhbm, hregs⟩ := u.captured_capture 2 false
  obtain ⟨⟨x, y, htime⟩, hpick, hstat, -, -⟩ := (u.capture 2 false).sourcePicked_ppsSteer
  refine ⟨_, rfl, ?_, ?_, ?_, ?_, ?_⟩
  · rw [htime]
    exact hnow
  · rw [htime]
    rfl
  · have hreg := hstat Reg.TIME_REF_STAT (by decide)
    exact (congrArg (Word.bit · 1) hreg).trans (State.bit_setBit_self _ _ _ _ (by decide))
  · rw [hpick, ← hhbm]
    rfl
  · have hset : SameRegs u (({ u.capture 2 false with time := { (u.capture 2 false).time with
        lastPps := (u.capture 2 false).now, ppsPresent := true } } : State).setBit Reg.TIME_REF_STAT 1 true)
        [Reg.TIME_REF_STAT, Reg.TIME_STAT, Reg.TIME_CAP_STAT 2] :=
      SameRegs.setReg (fun a ha => hregs a fun hin => ha (by simp [List.mem_singleton.mp hin])) List.mem_cons_self _
    exact hset.trans (hstat.mono (by simp))

/-- The 10 MHz input is marked present, with its measured error. -/
def State.refReturns (s : State) : State :=
  (((({ s with time := { s.time with refPresent := true, refSince := s.now } } : State).setBit Reg.TIME_REF_STAT 0 true).setFld
    Reg.TIME_REF_STAT 16 16 (Config.refError s.fresh % 2 ^ 16)).useFresh)

theorem exec_ref10mInputReturn_present {t : Nat} {s u : State} (hu : s.advance t = u) (hball : u.fld Reg.TIME_STAT 8 2 = 2) :
    ∃ n : State, exec (.ref10mInputReturn t) s = .next n ∧ n.time.refPresent = true ∧ n.bit Reg.TIME_REF_STAT 0 = true ∧
      n.hbm = u.hbm ∧ SameRegs u n [Reg.TIME_REF_STAT, Reg.TIME_STAT] := by
  have hreturns : exec (.ref10mInputReturn t) s = .next u.refReturns.pickSource := by
    have hrun : exec (.ref10mInputReturn t) s = execRef10mInputReturn t s := rfl
    rw [hrun, execRef10mInputReturn, hu]
    exact congrArg Host.Outcome.next (if_neg (not_not.mpr hball))
  obtain ⟨⟨x, y, htime⟩, hhbm, hregs, -, -⟩ := u.refReturns.sourcePicked_pickSource
  refine ⟨_, hreturns, ?_, ?_, ?_, ?_⟩
  · rw [htime]
    rfl
  · have hreg := hregs Reg.TIME_REF_STAT (by decide)
    have hset : u.refReturns.bit Reg.TIME_REF_STAT 0 = true := by
      rw [State.refReturns, State.bit, State.reg_useFresh]
      exact (State.bit_setFld_outside _ _ _ _ _ _ (by decide)).trans (State.bit_setBit_self _ _ _ _ (by decide))
    exact (congrArg (Word.bit · 0) hreg).trans hset
  · rw [hhbm]
    rfl
  · have hset : SameRegs u u.refReturns [Reg.TIME_REF_STAT, Reg.TIME_STAT] :=
      ((SameRegs.refl u _).setReg List.mem_cons_self _).setReg List.mem_cons_self _
    exact hset.trans (hregs.mono (by simp))

theorem State.sameCycle_congr {s : State} {p q : Instr → Bool} (h : ∀ i, p i = q i) : s.sameCycle p = s.sameCycle q :=
  congrArg s.sameCycle (funext h)

section
variable {t : Nat} {s u : State} (hu : s.advance t = u)
include hu

theorem exec_timeRefTimeout_pps (hpresent : u.time.ppsPresent = true)
    (hedge : (u.sameCycle fun i => match i with | .ppsInEdge _ => true | _ => false) = false) (hlate : u.time.lastPps + us 1100000 ≤ u.now) :
    exec (.timeRefTimeout t 1) s = .next ((({ u with time := { u.time with ppsPresent := false } }).setBit Reg.TIME_REF_STAT 1 false).raise
      Ev.TIME_REF_LOSS [2]).pickSource := by
  have hrun : exec (.timeRefTimeout t 1) s = execTimeRefTimeout t 1 s := rfl
  rw [hrun, execTimeRefTimeout, hu]
  simp only [hpresent, hlate, decide_true, Bool.and_self, Bool.not_true, Bool.false_eq_true, if_true]
  exact congrArg Host.Outcome.next (if_neg (not_or.mpr ⟨not_false, fun h => Bool.false_ne_true
    ((hedge.symm.trans (State.sameCycle_congr fun i => by cases i <;> rfl)).trans h)⟩))

theorem exec_timeRefTimeout_ref (hpresent : u.time.refPresent = true) (hlate : u.time.refSince + us 10 ≤ u.now)
    (hedge : (u.sameCycle fun i => match i with | .ref10mInputReturn _ => true | _ => false) = false) :
    exec (.timeRefTimeout t 0) s = .next ((({ u with time := { u.time with refPresent := false } }).setBit Reg.TIME_REF_STAT 0 false).raise
      Ev.TIME_REF_LOSS [1]).pickSource := by
  have hrun : exec (.timeRefTimeout t 0) s = execTimeRefTimeout t 0 s := rfl
  have hne : (0 : Fin 2) ≠ 1 := by decide
  rw [hrun, execTimeRefTimeout, hu]
  simp only [hne, hpresent, hlate, decide_true, Bool.and_self, Bool.not_true, Bool.false_eq_true, if_false]
  exact congrArg Host.Outcome.next (if_neg (not_or.mpr ⟨not_false, fun h => Bool.false_ne_true
    ((hedge.symm.trans (State.sameCycle_congr fun i => by cases i <;> rfl)).trans h)⟩))

/-- With REVERT and TB0 LOCKED for 10 s the source goes back to TB0 (R352). -/
theorem exec_tb2RevertTimeout_reverts (hwanted : u.wantedSource = 0) (hsource : u.tbSource = 1) :
    ∃ (n : State) (e : Event), exec (.tb2RevertTimeout t) s = .next n ∧ n.tbSource = 0 ∧ n.raised = u.raised ++ [e] ∧
      e.code = Ev.TIME_TB2_SOURCE ∧ e.args.take 2 = [1, 0] ∧ n.hbm = u.hbm ∧ SameRegs u n [Reg.TIME_STAT] := by
  have hrun : exec (.tb2RevertTimeout t) s = execTb2RevertTimeout t s := rfl
  obtain ⟨arg, x, y, hpick⟩ := State.pickSource_moves (s := u) (by omega)
  obtain ⟨e, hraised, hcode, hargs⟩ := u.raised_sourceMoves u.wantedSource arg
  obtain ⟨-, hhbm, hregs, -, -⟩ := u.sourcePicked_pickSource
  refine ⟨u.pickSource, e, by rw [hrun, execTb2RevertTimeout, hu], ?_, ?_, hcode, ?_, hhbm, hregs⟩
  · rw [hpick, State.tbSource, State.fld_line]
    exact (u.tbSource_sourceMoves _ _).trans (by rw [hwanted])
  · rw [hpick, State.raised_line, hraised]
  · rw [hargs, hsource, hwanted]
    rfl

end

/-! ## TIME_CTL -/

theorem State.nat_setNat_self (s : State) (a v : Nat) : (s.setNat a v).nat a = v % 2 ^ 32 := by
  rw [State.nat, State.reg_setNat, if_pos rfl]
  exact BitVec.toNat_ofNat _ _

theorem State.nat_setNat_ne (s : State) {a b : Nat} (v : Nat) (h : a ≠ b) : (s.setNat a v).nat b = s.nat b := by
  rw [State.nat, State.reg_setNat, if_neg h, State.nat]

/-- A row of words is written to registers `f k`, `f (k + 1)`, …. -/
def State.writeRow (s : State) (f : Nat → Nat) (w : List Nat) (k : Nat) : State := s.each (w.zipIdx k) fun s v => s.setNat (f v.2) v.1

theorem State.writeRow_cons (s : State) (f : Nat → Nat) (v : Nat) (w : List Nat) (k : Nat) :
    s.writeRow f (v :: w) k = (s.setNat (f k) v).writeRow f w (k + 1) := rfl

theorem State.nat_writeRow_ne {f : Nat → Nat} {a : Nat} {w : List Nat} {k : Nat} (h : ∀ j, k ≤ j → j < k + w.length → f j ≠ a) (s : State) :
    (s.writeRow f w k).nat a = s.nat a := by
  induction w generalizing s k with
  | nil => rfl
  | cons v w ih =>
    rw [List.length_cons] at h
    rw [State.writeRow_cons, ih fun j hj hlt => h j (by omega) (by omega), State.nat_setNat_ne _ _ (h k (by omega) (by omega))]

theorem State.nat_writeRow {f : Nat → Nat} (hf : Function.Injective f) {w : List Nat} {k i v : Nat} (hi : w[i]? = some v) (s : State) :
    (s.writeRow f w k).nat (f (k + i)) = v % 2 ^ 32 := by
  induction w generalizing s k i with
  | nil => simp at hi
  | cons x w ih =>
    rw [State.writeRow_cons]
    cases i with
    | zero =>
      obtain rfl : x = v := by simpa using hi
      rw [State.nat_writeRow_ne (fun j hj _ heq => by have := hf heq; omega), Nat.add_zero, State.nat_setNat_self]
    | succ i =>
      rw [show k + (i + 1) = k + 1 + i by omega]
      exact ih (by simpa using hi) _

theorem Reg.TIME_TB_injective (b : Nat) : Function.Injective (Reg.TIME_TB b) := fun i j h => by
  simp only [Reg.TIME_TB] at h
  omega

/-- A snapshot of one base writes a row of eleven words, its time among them (Table 16-9). -/
theorem State.snapBase_eq (s : State) (b : Nat) : ∃ w : List Nat, s.snapBase b = s.writeRow (Reg.TIME_TB b) w 0 ∧ w.length = 11 ∧
    w[1]? = some (s.time.tbFine b s.now / 2 ^ 40 % 1000000000) ∧ w[2]? = some (s.time.tbFine b s.now / 2 ^ 40 / 1000000000) ∧
    w[3]? = some (s.time.tbFine b s.now / 2 ^ 40 / 1000000000 / 2 ^ 32 % 2 ^ 16) := ⟨_, rfl, rfl, rfl, rfl, rfl⟩

/-- What a snapshot leaves. -/
theorem State.snapBase_keeps {β : Type} {g : State → β} (h : ∀ (s : State) (a v : Nat), g (s.setNat a v) = g s) (s : State) (b : Nat) :
    g (s.snapBase b) = g s := by
  obtain ⟨w, hw, -⟩ := s.snapBase_eq b
  rw [hw]
  exact State.each_keeps (fun s (v : Nat × Nat) => h s _ v.1) s _

/-- The snapshots of the bases in `l` leave what every write of a register leaves. -/
theorem State.snapBases_keep {β : Type} {g : State → β} (h : ∀ (s : State) (a v : Nat), g (s.setNat a v) = g s) (s : State) (l : List Nat) :
    g (s.each l State.snapBase) = g s := State.each_keeps (State.snapBase_keeps h) s l

/-- The snapshot of another base leaves the row of base `b`. -/
theorem State.nat_snapBase_ne (s : State) {b c i : Nat} (hbc : c ≠ b) (hi : i < 16) :
    (s.snapBase c).nat (Reg.TIME_TB b i) = s.nat (Reg.TIME_TB b i) := by
  obtain ⟨w, hw, hlen, -⟩ := s.snapBase_eq c
  rw [hw]
  refine State.nat_writeRow_ne (fun j _ hj heq => ?_) s
  simp only [Reg.TIME_TB] at heq
  omega

theorem State.each_cons {α : Type} (s : State) (x : α) (l : List α) (f : State → α → State) :
    s.each (x :: l) f = (f s x).each l f := rfl

theorem State.nat_snapBases_ne {b i : Nat} {l : List Nat} (hb : b ∉ l) (hi : i < 16) (s : State) :
    (s.each l State.snapBase).nat (Reg.TIME_TB b i) = s.nat (Reg.TIME_TB b i) := by
  induction l generalizing s with
  | nil => rfl
  | cons c l ih =>
    obtain ⟨hne, hout⟩ := not_or.mp (mt List.mem_cons.mpr hb)
    rw [State.each_cons]
    exact (ih hout (s.snapBase c)).trans (s.nat_snapBase_ne (Ne.symm hne) hi)

/-- A word of base `b` stands, behind snapshots of several bases, as its own snapshot wrote it. -/
theorem State.nat_snapBases {P : State → Prop} {b i v : Nat} {l : List Nat} (hb : b ∈ l) (hi : i < 16)
    (hP : ∀ (s : State) (c : Nat), P s → P (s.snapBase c)) (hself : ∀ s : State, P s → (s.snapBase b).nat (Reg.TIME_TB b i) = v) {s : State}
    (hs : P s) : (s.each l State.snapBase).nat (Reg.TIME_TB b i) = v := by
  induction l generalizing s with
  | nil => simp at hb
  | cons c l ih =>
    rw [State.each_cons]
    by_cases hin : b ∈ l
    · exact ih hin (hP s c hs)
    · obtain rfl : b = c := (List.mem_cons.mp hb).resolve_right hin
      exact (State.nat_snapBases_ne hin hi (s.snapBase b)).trans (hself s hs)

/-- A word of each base behind SNAP: what its place in the row holds, at the times of the cycle (R350). -/
theorem State.nat_snapAll {u : State} {b i : Nat} {f : TimeState → Nat → Nat} (hb : b < 4) (hi : i < 11)
    (hf : ∀ s : State, ∃ w : List Nat, s.snapBase b = s.writeRow (Reg.TIME_TB b) w 0 ∧ w[i]? = some (f s.time s.now)) :
    (u.each [0, 1, 2, 3] State.snapBase).nat (Reg.TIME_TB b i) = f u.time u.now % 2 ^ 32 := by
  refine State.nat_snapBases (P := fun s => s.time = u.time ∧ s.now = u.now) ?_ (by omega) ?_ ?_ ⟨rfl, rfl⟩
  · have hcases : b = 0 ∨ b = 1 ∨ b = 2 ∨ b = 3 := by omega
    rcases hcases with rfl | rfl | rfl | rfl <;> decide
  · exact fun s c ⟨htime, hnow⟩ => ⟨(State.snapBase_keeps (g := State.time) (fun _ _ _ => rfl) s c).trans htime,
      (State.snapBase_keeps (g := State.now) (fun _ _ _ => rfl) s c).trans hnow⟩
  · intro s ⟨htime, hnow⟩
    obtain ⟨w, hw, hget⟩ := hf s
    have hrow := State.nat_writeRow (k := 0) (Reg.TIME_TB_injective b) hget s
    rwa [Nat.zero_add, htime, hnow, ← hw] at hrow

/-- SNAP takes all four bases in one cycle (R350). -/
theorem State.snapAll_times (u : State) {b : Nat} (hb : b < 4) :
    (u.each [0, 1, 2, 3] State.snapBase).nat (Reg.TIME_TB b 1) = u.time.tbFine b u.now / 2 ^ 40 % 1000000000 ∧
    (u.each [0, 1, 2, 3] State.snapBase).nat (Reg.TIME_TB b 2) = u.time.tbFine b u.now / 2 ^ 40 / 1000000000 % 2 ^ 32 ∧
    (u.each [0, 1, 2, 3] State.snapBase).nat (Reg.TIME_TB b 3) = u.time.tbFine b u.now / 2 ^ 40 / 1000000000 / 2 ^ 32 % 2 ^ 16 := by
  refine ⟨?_, ?_, ?_⟩
  · rw [State.nat_snapAll (f := fun x c => x.tbFine b c / 2 ^ 40 % 1000000000) hb (by decide)]
    · omega
    · intro s
      obtain ⟨w, hw, -, hget, -⟩ := s.snapBase_eq b
      exact ⟨w, hw, hget⟩
  · rw [State.nat_snapAll (f := fun x c => x.tbFine b c / 2 ^ 40 / 1000000000) hb (by decide)]
    intro s
    obtain ⟨w, hw, -, -, hget, -⟩ := s.snapBase_eq b
    exact ⟨w, hw, hget⟩
  · rw [State.nat_snapAll (f := fun x c => x.tbFine b c / 2 ^ 40 / 1000000000 / 2 ^ 32 % 2 ^ 16) hb (by decide)]
    · omega
    · intro s
      obtain ⟨w, hw, -, -, -, hget⟩ := s.snapBase_eq b
      exact ⟨w, hw, hget⟩

section
variable {t : Nat} {req : Requester} {s u : State} (hu : s.advance t = u)
include hu

theorem exec_timeCtlSnap_ok (hok : u.accepts req Reg.TIME_CTL 1) :
    exec (.timeCtlSnap t req) s = .next (u.each [0, 1, 2, 3] State.snapBase) := by
  have hrun : exec (.timeCtlSnap t req) s = execTimeCtlSnap t req s := rfl
  rw [hrun, execTimeCtlSnap, hu, State.control_ok hok (by decide)]

theorem exec_timeCtlSetTb3_ok (hok : u.accepts req Reg.TIME_CTL 2) (hsource : u.tbSource ≠ 5) :
    exec (.timeCtlSetTb3 t req) s = .next { u with time := { u.time with tb3 := TimeLine.nominal u.now u.setTime } } := by
  have hrun : exec (.timeCtlSetTb3 t req) s = execTimeCtlSetTb3 t req s := rfl
  rw [hrun, execTimeCtlSetTb3, hu, State.control_ok hok (by decide)]
  exact congrArg Host.Outcome.next (if_neg hsource)

theorem exec_timeCtlSetTb2_ok (hok : u.accepts req Reg.TIME_CTL 4) : exec (.timeCtlSetTb2 t req) s = .next { u with
    time := { u.time with tb2 := { u.time.tb2 with at_ := u.now, value := u.setTime }, slew := {} } } := by
  have hrun : exec (.timeCtlSetTb2 t req) s = execTimeCtlSetTb2 t req s := rfl
  rw [hrun, execTimeCtlSetTb2, hu, State.control_ok hok (by decide)]

end

/-! ## PPS_OUT -/

section
variable {t : Nat} {s u : State} (hu : s.advance t = u)
include hu

theorem exec_ppsOutSecond_begins (hen : u.bit Reg.TIME_PPS_CFG 2 = true) (hup : u.networkUp = true) (hon : u.domainOn 78 = true)
    (hsecond : u.secondBegins (u.fld Reg.TIME_PPS_CFG 0 2) = true) : exec (.ppsOutSecond t) s =
      .next { u with pins := { u.pins with ppsOut := true }, time := { u.time with ppsAt := some u.now } } := by
  have hrun : exec (.ppsOutSecond t) s = execPpsOutSecond t s := rfl
  rw [hrun, execPpsOutSecond, hu]
  exact congrArg Host.Outcome.next (if_pos (by rw [hen, hup, hon, hsecond]; rfl))

theorem exec_ppsOutSecond_down (hdown : u.networkUp = false) : exec (.ppsOutSecond t) s = .next u := by
  have hrun : exec (.ppsOutSecond t) s = execPpsOutSecond t s := rfl
  rw [hrun, execPpsOutSecond, hu]
  exact congrArg Host.Outcome.next (if_neg (by rw [hdown, Bool.and_false]; exact Bool.false_ne_true))

theorem exec_ppsOutWidthEnd_low (hover : (u.time.ppsAt.all fun c => decide (c + us (u.fld Reg.TIME_PPS_CFG 8 20) ≤ u.now)) = true) :
    exec (.ppsOutWidthEnd t) s =
      .next { u with pins := { u.pins with ppsOut := false }, time := { u.time with ppsAt := none } } := by
  have hrun : exec (.ppsOutWidthEnd t) s = execPpsOutWidthEnd t s := rfl
  have hwidth : (u.time.ppsAt.any fun c => decide (u.now < c + us (u.fld Reg.TIME_PPS_CFG 8 20))) = false := by
    cases hat : u.time.ppsAt with
    | none => rfl
    | some c =>
      rw [hat, Option.all_some, decide_eq_true_eq] at hover
      rw [Option.any_some, decide_eq_false_iff_not]
      omega
  rw [hrun, execPpsOutWidthEnd, hu]
  exact congrArg Host.Outcome.next (if_neg (by rw [hwidth]; exact Bool.false_ne_true))

end

/-- Settles O47: an input's edge, its timeout and the revert run through the choice of the source; TIME_CTL and PPS_OUT by their
arms. -/
theorem showTimeAndReferences : Obligations.ShowTimeAndReferences := by
  unfold Obligations.ShowTimeAndReferences
  refine ⟨?_, ?_, ?_, ?_, ?_, ?_, ?_, ?_, ?_, ?_, ?_, ?_⟩
  · exact fun t s u hu => exec_ppsInEdge_present hu
  · exact fun t s u hu => exec_ref10mInputReturn_present hu
  · exact fun t s u hu => exec_timeRefTimeout_pps hu
  · exact fun t s u hu => exec_timeRefTimeout_ref hu
  · exact fun t c s u hu hcfg hrevert hsource hlocked hsince hlong =>
      exec_tb2RevertTimeout_reverts hu (State.wantedSource_reverts hcfg hrevert hsource hlocked hsince hlong) hsource
  · exact fun u => State.pickSource_stays
  · exact fun t req s u hu hok => ⟨_, exec_timeCtlSnap_ok hu hok, fun b => u.snapAll_times,
      State.snapBases_keep (g := State.time) (fun _ _ _ => rfl) u _, State.snapBases_keep (g := State.hbm) (fun _ _ _ => rfl) u _,
      State.snapBases_keep (g := State.raised) (fun _ _ _ => rfl) u _⟩
  · exact fun t req s u hu => exec_timeCtlSetTb3_ok hu
  · exact fun t req s u hu => exec_timeCtlSetTb2_ok hu
  · exact fun t s u hu => exec_ppsOutSecond_begins hu
  · exact fun t s u hu => exec_ppsOutSecond_down hu
  · exact fun t s u hu => exec_ppsOutWidthEnd_low hu

end Sys2Proof.Machine
end

section
/-! Comparators and captures (R355 to R358, R360). -/

namespace Sys2Proof.Machine

/-! ## Allocation -/

section
variable {t : Nat} {s u : State} (hu : s.advance t = u)
include hu

theorem exec_timeCmpAllocReq_host (hok : u.accepts .host Reg.TIME_CMP_ALLOC 1) :
    exec (.timeCmpAllocReq t .host) s = .next (u.allocCmp .host) := by
  have hrun : exec (.timeCmpAllocReq t .host) s = execTimeCmpAllocReq t .host s := rfl
  rw [hrun, execTimeCmpAllocReq, hu, State.control_ok hok (by decide)]

theorem exec_timeCmpAllocFree_ok {req : Requester} {k : Fin 8}
    (hok : u.accepts req Reg.TIME_CMP_ALLOC (Word.ofNat (2 + k.val * 2 ^ 8))) :
    exec (.timeCmpAllocFree t req k) s = .next (u.freeCmp k) := by
  have hrun : exec (.timeCmpAllocFree t req k) s = execTimeCmpAllocFree t req k s := rfl
  rw [hrun, execTimeCmpAllocFree, hu, State.control_ok hok (by decide)]

end

/-- The comparators that are free, the lowest first. -/
def State.cmpFree (s : State) : List Nat := (List.range 8).filter fun n => !s.cmpUsed.contains n

theorem State.allocCmp_host (s : State) : s.allocCmp .host = match s.cmpFree[0]? with
    | some n => s.setNat Reg.TIME_CMP_ALLOC_STAT (1 + n * 2 ^ 8 + (ofBits s.cmpUsed + 2 ^ n) * 2 ^ 16)
    | none => (s.setFld Reg.TIME_CMP_ALLOC_STAT 0 2 2).raise Ev.TIME_CONFLICT [1, 1, Reg.TIME_CMP_ALLOC] := rfl

/-- The first number that passes a filter of a range is the lowest one that satisfies it. -/
theorem head_filter_range {p : Nat → Bool} {n k : Nat} (hk : k < n) (hp : p k = true) (hlow : ∀ j, j < k → p j = false) :
    ((List.range n).filter p)[0]? = some k := by
  rw [← List.head?_eq_getElem?, List.head?_filter, List.find?_range_eq_some]
  exact ⟨hp, List.mem_range.mpr hk, fun j hj => by simp [hlow j hj]⟩

theorem State.cmpFree_lowest {s : State} {k : Nat} (hk : k < 8) (hfree : k ∉ s.cmpUsed) (hlow : ∀ j, j < k → j ∈ s.cmpUsed) :
    s.cmpFree[0]? = some k :=
  head_filter_range hk (by simp [hfree]) fun j hj => by simp [hlow j hj]

theorem State.cmpFree_none {s : State} (hall : ∀ j, j < 8 → j ∈ s.cmpUsed) : s.cmpFree[0]? = none := by
  have hnil : s.cmpFree = [] := List.filter_eq_nil_iff.mpr fun j hj => by simp [hall j (List.mem_range.mp hj)]
  rw [hnil]
  rfl

theorem Reg.TIME_CMP_ne_allocStat (k : Fin 8) : Reg.TIME_CMP_ALLOC_STAT ≠ Reg.TIME_CMP k 0 := by
  simp only [Reg.TIME_CMP, Reg.TIME_CMP_ALLOC_STAT]
  omega

theorem State.freeCmp_disarms (s : State) (k : Fin 8) : (s.freeCmp k).bit (Reg.TIME_CMP k 0) 0 = false := by
  rw [State.freeCmp, State.bit_setBit_ne _ _ _ _ _ _ (Reg.TIME_CMP_ne_allocStat k), State.bit_setBit_self _ _ _ _ (by decide)]

theorem State.freeCmp_frees (s : State) (k : Fin 8) : (s.freeCmp k).bit Reg.TIME_CMP_ALLOC_STAT (16 + k) = false := by
  rw [State.freeCmp, State.bit_setBit_self _ _ _ _ (by omega)]

theorem State.sameRegs_freeCmp (s : State) (k : Nat) : SameRegs s (s.freeCmp k) [Reg.TIME_CMP k 0, Reg.TIME_CMP_ALLOC_STAT] :=
  ((SameRegs.refl s _).setReg List.mem_cons_self _).setReg (by simp) _

/-- A request that finds no comparator is refused (R355). -/
def State.cmpRefused (s : State) : State := (s.setFld Reg.TIME_CMP_ALLOC_STAT 0 2 2).raise Ev.TIME_CONFLICT [1, 1, Reg.TIME_CMP_ALLOC]

theorem State.allocCmp_refused {s : State} (hall : ∀ j, j < 8 → j ∈ s.cmpUsed) : s.allocCmp .host = s.cmpRefused := by
  rw [State.allocCmp_host, State.cmpFree_none hall, State.cmpRefused]

theorem State.fld_cmpRefused (s : State) : s.cmpRefused.fld Reg.TIME_CMP_ALLOC_STAT 0 2 = 2 := by
  rw [State.cmpRefused, State.fld_raise, State.fld_setFld_self _ _ _ _ _ (by decide)]
  rfl

theorem State.raisedBy_cmpRefused (s : State) : RaisedBy s s.cmpRefused [(Ev.TIME_CONFLICT, [1, 1, Reg.TIME_CMP_ALLOC])] := by
  have hmod : [(1 : Nat), 1, Reg.TIME_CMP_ALLOC].map (· % 2 ^ 32) = [1, 1, Reg.TIME_CMP_ALLOC] := by decide
  rw [← hmod]
  exact RaisedBy.of_raise rfl _ _

theorem State.sameRegs_cmpRefused (s : State) : SameRegs s s.cmpRefused [Reg.TIME_CMP_ALLOC_STAT] :=
  (SameRegs.refl s _).setReg List.mem_cons_self _

/-! ## A firing -/

theorem State.testBit_setTout (s : State) (o : Nat) (high : Bool) : (s.setTout o high).pins.tout.testBit o = high := by
  simp only [State.setTout]
  split
  next h => exact beq_iff_eq.mp h
  next h =>
    rw [Nat.testBit_xor, Nat.one_shiftLeft, Nat.testBit_two_pow_self]
    cases high <;> simp_all

theorem State.endPulse_eq (s : State) (o : Nat) :
    ∃ x y, s.endPulse o = { s with pins := x, time := { s.time with pulses := y } } := by
  unfold State.endPulse
  split
  · exact ⟨_, _, rfl⟩
  · exact ⟨_, _, rfl⟩

/-- `n` is `s` with outputs moved and pulses begun or ended. -/
def OutputsMoved (s n : State) : Prop := ∃ x y, n = { s with pins := x, time := { s.time with pulses := y } }

theorem OutputsMoved.setTout {s n : State} (h : OutputsMoved s n) (o : Nat) (high : Bool) : OutputsMoved s (n.setTout o high) := by
  obtain ⟨x, y, rfl⟩ := h
  exact ⟨_, _, rfl⟩

theorem OutputsMoved.pulses {s n : State} (h : OutputsMoved s n) (l : List (Nat × Nat)) :
    OutputsMoved s { n with time := { n.time with pulses := l } } := by
  obtain ⟨x, y, rfl⟩ := h
  exact ⟨_, _, rfl⟩

/-- The action of a firing moves an output and its pulses, and nothing else. -/
theorem State.cmpAction_eq (s : State) (n : Nat) : OutputsMoved s (s.cmpAction n) := by
  unfold State.cmpAction
  extract_lets o v fin time w
  have hv : OutputsMoved s v := s.endPulse_eq o
  split
  · exact ⟨_, _, rfl⟩
  · split
    · exact hv.setTout _ _
    · exact hv.setTout _ _
    · exact hv.setTout _ _
    · exact (hv.pulses _).setTout _ _

theorem State.cmpAction_keeps {β : Type} {g : State → β}
    (h : ∀ (s : State) (x : Pins) (y : List (Nat × Nat)), g { s with pins := x, time := { s.time with pulses := y } } = g s) (s : State)
    (n : Nat) : g (s.cmpAction n) = g s := by
  obtain ⟨x, y, heq⟩ := s.cmpAction_eq n
  rw [heq]
  exact h s x y

theorem State.reg_cmpAction (s : State) (n a : Nat) : (s.cmpAction n).reg a = s.reg a :=
  State.cmpAction_keeps (g := fun s => s.reg a) (fun _ _ _ => rfl) s n

/-- ACTION 0 drives its output high. -/
theorem State.cmpAction_high {s : State} {n : Nat} (hout : s.fld (Reg.TIME_CMP n 0) 8 3 ≤ 3) (haction : s.fld (Reg.TIME_CMP n 0) 12 2 = 0) :
    (s.cmpAction n).pins.tout.testBit (s.fld (Reg.TIME_CMP n 0) 8 3) = true := by
  have hacts : s.cmpAction n = (s.endPulse (s.fld (Reg.TIME_CMP n 0) 8 3)).setTout (s.fld (Reg.TIME_CMP n 0) 8 3) true := by
    have hkept : (s.endPulse (s.fld (Reg.TIME_CMP n 0) 8 3)).fld (Reg.TIME_CMP n 0) 12 2 = 0 := by
      obtain ⟨x, y, heq⟩ := s.endPulse_eq (s.fld (Reg.TIME_CMP n 0) 8 3)
      rw [heq]
      exact haction
    unfold State.cmpAction
    extract_lets o v fin time w
    rw [if_neg (by omega), hkept]
    rfl
  rw [hacts, State.testBit_setTout]

/-- The registers of a comparator that fires once: counted, not past, not armed. -/
def State.firedOnce (s : State) (n : Nat) : State :=
  (((s.cmpAction n).incFld (Reg.TIME_CMP n 7) 0 16 1).setBit (Reg.TIME_CMP n 7) 16 false).setBit (Reg.TIME_CMP n 0) 0 false

theorem Reg.TIME_CMP_ne (n : Nat) : Reg.TIME_CMP n 7 ≠ Reg.TIME_CMP n 0 := by
  simp only [Reg.TIME_CMP]
  omega

theorem State.fireCmp_notDue {s : State} {n : Nat} (h : s.cmpDue n = false) : s.fireCmp n = s := by
  rw [State.fireCmp, h]
  rfl

theorem State.fireCmp_once {s : State} {n e : Nat} (hdue : s.cmpDue n = true) (hexact : s.cmpExact n = some e)
    (hmode : s.fld (Reg.TIME_CMP n 0) 1 2 = 0) (hquiet : s.bit (Reg.TIME_CMP n 0) 14 = false) : s.fireCmp n = s.firedOnce n := by
  have hreg : ((s.cmpAction n).incFld (Reg.TIME_CMP n 7) 0 16 1).reg (Reg.TIME_CMP n 0) = s.reg (Reg.TIME_CMP n 0) := by
    rw [State.incFld, State.setFld, State.reg_setReg_ne _ _ _ _ (Reg.TIME_CMP_ne n), State.reg_cmpAction]
  have hevent : ((s.cmpAction n).incFld (Reg.TIME_CMP n 7) 0 16 1).cmpEvent n e = (s.cmpAction n).incFld (Reg.TIME_CMP n 7) 0 16 1 := by
    rw [State.cmpEvent, State.bit, hreg, ← State.bit, hquiet]
    rfl
  rw [State.fireCmp, hdue, hexact]
  simp only [Bool.not_true, Bool.false_eq_true, if_false]
  rw [hevent, State.advanceCmp, State.fld, hreg, ← State.fld, hmode]
  rfl

theorem State.firedOnce_count (s : State) (n : Nat) :
    (s.firedOnce n).fld (Reg.TIME_CMP n 7) 0 16 = min 65535 (s.fld (Reg.TIME_CMP n 7) 0 16 + 1) := by
  rw [State.firedOnce, State.setBit, State.setBit, State.fld_setFld_ne _ _ _ _ _ _ _ _ (Reg.TIME_CMP_ne n).symm,
    State.fld_setFld_same _ _ _ _ _ _ _ (by decide), State.fld_incFld_self _ _ _ _ _ (by decide), State.fld, State.reg_cmpAction, ← State.fld]
  rfl

theorem State.firedOnce_disarms (s : State) (n : Nat) : (s.firedOnce n).bit (Reg.TIME_CMP n 0) 0 = false :=
  State.bit_setBit_self _ _ _ _ (by decide)

theorem State.sameRegs_firedOnce (s : State) (n : Nat) : SameRegs s (s.firedOnce n) [Reg.TIME_CMP n 0, Reg.TIME_CMP n 7] := by
  have haction : SameRegs s (s.cmpAction n) [Reg.TIME_CMP n 0, Reg.TIME_CMP n 7] := fun a _ => s.reg_cmpAction n a
  have hstat : Reg.TIME_CMP n 7 ∈ [Reg.TIME_CMP n 0, Reg.TIME_CMP n 7] := by simp
  exact ((haction.setReg hstat _).setReg hstat _).setReg List.mem_cons_self _

theorem State.firedOnce_hbm (s : State) (n : Nat) : (s.firedOnce n).hbm = s.hbm :=
  State.cmpAction_keeps (g := State.hbm) (fun _ _ _ => rfl) s n

theorem State.firedOnce_raised (s : State) (n : Nat) : (s.firedOnce n).raised = s.raised :=
  State.cmpAction_keeps (g := State.raised) (fun _ _ _ => rfl) s n

theorem State.firedOnce_pins (s : State) (n : Nat) : (s.firedOnce n).pins = (s.cmpAction n).pins := rfl

/-- Only the firing comparator stands in the list when no lower one fires in the cycle. -/
theorem filter_range_sameCycle_nil {u : State} {k : Fin 8}
    (h : (u.sameCycle fun i => match i with | .timeCmpFire _ j => decide (j.val < k.val) | _ => false) = false) :
    ((List.range k).filter fun m => u.sameCycle fun i => match i with | .timeCmpFire _ j => j.val == m | _ => false) = [] := by
  refine List.filter_eq_nil_iff.mpr fun m hm hfire => Bool.false_ne_true (h.symm.trans ?_)
  obtain ⟨i, hi, hpair⟩ := List.any_eq_true.mp hfire
  refine List.any_eq_true.mpr ⟨i, hi, ?_⟩
  obtain ⟨hcycle, hnum⟩ := Bool.and_eq_true_iff.mp hpair
  refine Bool.and_eq_true_iff.mpr ⟨hcycle, ?_⟩
  dsimp only at hnum ⊢
  split at hnum
  · have hlt := List.mem_range.mp hm
    exact decide_eq_true (by rwa [beq_iff_eq.mp hnum])
  · exact absurd hnum Bool.false_ne_true

theorem exec_timeCmpFire_alone {t : Nat} {k : Fin 8} {s u : State} (hu : s.advance t = u)
    (h : (u.sameCycle fun i => match i with | .timeCmpFire _ j => decide (j.val < k.val) | _ => false) = false) :
    exec (.timeCmpFire t k) s = .next (u.fireCmp k) := by
  have hrun : exec (.timeCmpFire t k) s = execTimeCmpFire t k s := rfl
  rw [hrun, execTimeCmpFire, hu]
  exact congrArg (fun l => Host.Outcome.next (u.each (l ++ [k.val]) State.fireCmp)) (filter_range_sameCycle_nil h)

/-- The end of a pulse drives its output low. -/
theorem State.endPulse_low {u : State} {o : Nat} (hdue : (u.time.pulses.any fun p => p.1 == o && decide (p.2 ≤ u.now)) = true) :
    (u.endPulse o).pins.tout.testBit o = false ∧ ((u.endPulse o).time.pulses.any fun p => p.1 == o) = false := by
  rw [State.endPulse, if_pos hdue]
  refine ⟨State.testBit_setTout _ o false, ?_⟩
  refine List.any_eq_false.mpr fun p hp hnum => ?_
  have hout := (List.mem_filter.mp hp).2
  simp [beq_iff_eq.mp hnum] at hout

/-! ## Captures -/

theorem State.cap_setCap {s : State} {m : Nat} (hm : m < s.time.caps.length) (x : CapState) : (s.setCap m x).cap m = x := by
  have hset : (s.time.caps.set m x).getD m {} = x := by
    rw [List.getD_eq_getElem?_getD, List.getElem?_set_self hm]
    rfl
  exact hset

section
variable {t : Nat} {m : Fin 3} {dn : Bool} {s u : State} (hu : s.advance t = u)
include hu

theorem exec_timeCaptureEdge_unasked (hno : u.captures m dn = false) : exec (.timeCaptureEdge t m dn) s = .next u := by
  have hrun : exec (.timeCaptureEdge t m dn) s = execTimeCaptureEdge t m dn s := rfl
  rw [hrun, execTimeCaptureEdge, hu, State.capture, hno]
  rfl

theorem exec_timeCaptureEdge_queued (hcap : u.captures m dn = true) (hroom : (u.cap m).queue.length < 16)
    (hquiet : u.bit (Reg.TIME_CAP_CFG m) 6 = false) : exec (.timeCaptureEdge t m dn) s = .next (u.setCap m { u.cap m with
      queue := (u.cap m).queue ++ [⟨flatFns (u.time.tbFine (u.fld (Reg.TIME_CAP_CFG m) 4 2) u.now), dn⟩] }) := by
  have hrun : exec (.timeCaptureEdge t m dn) s = execTimeCaptureEdge t m dn s := rfl
  have hcfg (x : CapState) : (u.setCap m x).bit (Reg.TIME_CAP_CFG m) 6 = false := by
    have hne : Reg.TIME_CAP_STAT m ≠ Reg.TIME_CAP_CFG m := by
      simp only [Reg.TIME_CAP_STAT, Reg.TIME_CAP_CFG]
      omega
    rw [← hquiet]
    exact congrArg (Word.bit · 6) (State.reg_setReg_ne _ _ _ _ hne)
  rw [hrun, execTimeCaptureEdge, hu, State.capture, hcap]
  simp only [Bool.not_true, Bool.false_eq_true, if_false, Nat.not_le.mpr hroom, hcfg]

end

theorem State.fld_setCap (s : State) (m : Nat) {x : CapState} (h : x.queue.length < 32) :
    (s.setCap m x).fld (Reg.TIME_CAP_STAT m) 0 5 = x.queue.length := by
  rw [State.setCap, State.fld_setFld_self _ _ _ _ _ (by decide)]
  exact Nat.mod_eq_of_lt h

theorem State.sameRegs_setCap (s : State) (m : Nat) (x : CapState) : SameRegs s (s.setCap m x) [Reg.TIME_CAP_STAT m] :=
  SameRegs.setReg (SameRegs.refl s _) List.mem_cons_self _

/-- The queue of a capture is left with `rest`, and FNS, LO and HI show three words. -/
def State.showStamp (s : State) (m : Nat) (rest : List Stamp) (fns lo hi : Nat) : State :=
  (((s.setCap m { s.cap m with queue := rest }).setNat (Reg.TIME_CAP_FNS m) fns).setNat (Reg.TIME_CAP_LO m) lo).setNat (Reg.TIME_CAP_HI m) hi

section
variable (s : State) (m : Nat) (rest : List Stamp) (fns lo hi : Nat)

theorem State.showStamp_hbm : (s.showStamp m rest fns lo hi).hbm = s.hbm := rfl

theorem State.showStamp_raised : (s.showStamp m rest fns lo hi).raised = s.raised := rfl

theorem State.showStamp_outbox : (s.showStamp m rest fns lo hi).outbox = s.outbox := rfl

theorem State.cap_showStamp (hm : m < s.time.caps.length) : ((s.showStamp m rest fns lo hi).cap m).queue = rest :=
  congrArg CapState.queue (State.cap_setCap hm { s.cap m with queue := rest })

theorem State.sameRegs_showStamp : SameRegs s (s.showStamp m rest fns lo hi)
    [Reg.TIME_CAP_STAT m, Reg.TIME_CAP_FNS m, Reg.TIME_CAP_LO m, Reg.TIME_CAP_HI m] := by
  have hset : SameRegs s (s.setCap m { s.cap m with queue := rest })
      [Reg.TIME_CAP_STAT m, Reg.TIME_CAP_FNS m, Reg.TIME_CAP_LO m, Reg.TIME_CAP_HI m] := (s.sameRegs_setCap m _).mono (by simp)
  exact ((hset.setReg (by simp) _).setReg (by simp) _).setReg (by simp) _

theorem State.nat_showStamp : (s.showStamp m rest fns lo hi).nat (Reg.TIME_CAP_FNS m) = fns % 2 ^ 32 ∧
    (s.showStamp m rest fns lo hi).nat (Reg.TIME_CAP_LO m) = lo % 2 ^ 32 ∧
    (s.showStamp m rest fns lo hi).nat (Reg.TIME_CAP_HI m) = hi % 2 ^ 32 := by
  have hhi : Reg.TIME_CAP_HI m ≠ Reg.TIME_CAP_LO m := by simp only [Reg.TIME_CAP_HI, Reg.TIME_CAP_LO]; omega
  have hhi' : Reg.TIME_CAP_HI m ≠ Reg.TIME_CAP_FNS m := by simp only [Reg.TIME_CAP_HI, Reg.TIME_CAP_FNS]; omega
  have hlo : Reg.TIME_CAP_LO m ≠ Reg.TIME_CAP_FNS m := by simp only [Reg.TIME_CAP_LO, Reg.TIME_CAP_FNS]; omega
  refine ⟨?_, ?_, ?_⟩
  · rw [State.showStamp, State.nat_setNat_ne _ _ hhi', State.nat_setNat_ne _ _ hlo, State.nat_setNat_self]
  · rw [State.showStamp, State.nat_setNat_ne _ _ hhi, State.nat_setNat_self]
  · rw [State.showStamp, State.nat_setNat_self]

end

/-- The word that FNS shows for a stamp: its low bits, its direction, and VALID. -/
def Stamp.fnsWord (v : Stamp) : Nat := v.flat % 2 ^ 16 + bitOf v.falling * 2 ^ 16 + 2 ^ 31

theorem Stamp.fnsWord_mod (v : Stamp) : v.fnsWord % 2 ^ 32 = v.fnsWord := by
  have hbit : bitOf v.falling ≤ 1 := by cases v.falling <;> decide
  exact Nat.mod_eq_of_lt (by rw [Stamp.fnsWord]; omega)

/-- The oldest stamp `v` is taken: the queue behind it stays, and FNS, LO and HI show it. -/
def State.stampTaken (s : State) (m : Nat) (v : Stamp) (rest : List Stamp) : State :=
  s.showStamp m rest v.fnsWord (v.flat / 2 ^ 16) (v.flat / 2 ^ 48)

theorem State.takeStamp_cons {s : State} {m : Nat} {v : Stamp} {rest : List Stamp} (h : (s.cap m).queue = v :: rest) :
    s.takeStamp m = s.stampTaken m v rest := by
  rw [State.takeStamp, h]
  rfl

theorem State.hostRead_ok {s : State} {a : Nat} (f : State → State) (hready : s.ready = true) (hreset : s.resetOver a = none)
    (hblock : s.blockAnswers a = true) : s.hostRead a f = (f s).emit (.completion (leBytes 4 ((f s).nat a))) := by
  simp only [State.hostRead, hready, hreset, hblock, Bool.not_true, Bool.false_and, Bool.false_eq_true, Option.isSome_none, Bool.or_self,
    if_false]

theorem State.cap_emit (s : State) (o : Out) (m : Nat) : (s.emit o).cap m = s.cap m := rfl

theorem State.nat_emit (s : State) (o : Out) (a : Nat) : (s.emit o).nat a = s.nat a := rfl

/-- A read of FNS takes the oldest stamp and returns it (R360). -/
theorem exec_timeCapFnsRead_oldest {t : Nat} {m : Fin 3} {v : Stamp} {rest : List Stamp} {s u : State} (hu : s.advance t = u)
    (hready : u.ready = true) (hreset : u.resetOver (Reg.TIME_CAP_FNS m) = none) (hblock : u.blockAnswers (Reg.TIME_CAP_FNS m) = true)
    (hqueue : (u.cap m).queue = v :: rest) : exec (.timeCapFnsRead t m) s =
      .next ((u.stampTaken m v rest).emit (.completion (leBytes 4 ((u.stampTaken m v rest).nat (Reg.TIME_CAP_FNS m))))) := by
  have hrun : exec (.timeCapFnsRead t m) s = execTimeCapFnsRead t m s := rfl
  rw [hrun, execTimeCapFnsRead, hu, State.hostRead_ok _ hready hreset hblock, State.takeStamp_cons hqueue]

/-- Settles O48: allocation by the free comparator of lowest number, a firing by its action and its count, a capture by its queue. -/
theorem comparatorsAndCaptures : Obligations.ComparatorsAndCaptures := by
  unfold Obligations.ComparatorsAndCaptures
  refine ⟨?_, ?_, ?_, ?_, ?_, ?_, ?_, ?_, ?_⟩
  · intro t k s u hu hok hk hfree hlow
    rw [exec_timeCmpAllocReq_host hu hok, State.allocCmp_host, State.cmpFree_lowest hk hfree hlow]
  · intro t s u hu hok hall
    refine ⟨u.cmpRefused, ?_, u.fld_cmpRefused, rfl, u.sameRegs_cmpRefused, u.raisedBy_cmpRefused⟩
    rw [exec_timeCmpAllocReq_host hu hok, State.allocCmp_refused hall]
  · intro t req k s u hu hok
    exact ⟨_, exec_timeCmpAllocFree_ok hu hok, u.freeCmp_disarms k, u.freeCmp_frees k, rfl, u.sameRegs_freeCmp k, rfl⟩
  · intro t e k s u hu hlow hdue hexact hmode hquiet
    refine ⟨u.firedOnce k, ?_, u.firedOnce_count k, u.firedOnce_disarms k, u.firedOnce_hbm k, u.sameRegs_firedOnce k,
      u.firedOnce_raised k, ?_⟩
    · rw [exec_timeCmpFire_alone hu hlow, State.fireCmp_once hdue hexact hmode hquiet]
    · rw [State.firedOnce_pins]
      exact State.cmpAction_high
  · intro t k s u hu hlow hdue
    rw [exec_timeCmpFire_alone hu hlow, State.fireCmp_notDue hdue]
  · intro t o s u hu hdue
    have hrun : exec (.timePulseEnd t o) s = .next (u.endPulse o) := hu ▸ rfl
    obtain ⟨hlow, hgone⟩ := State.endPulse_low hdue
    obtain ⟨x, y, heq⟩ := u.endPulse_eq o
    exact ⟨_, hrun, hlow, hgone, by rw [heq], by rw [heq], by rw [heq]⟩
  · intro t m dn s u hu hcap hroom hlen hquiet
    refine ⟨_, exec_timeCaptureEdge_queued hu hcap hroom hquiet, ?_, ?_, rfl, u.sameRegs_setCap m _, rfl⟩
    · rw [State.cap_setCap (by omega)]
    · rw [State.fld_setCap _ _ (by rw [List.length_append, List.length_singleton]; omega), List.length_append, List.length_singleton]
  · exact fun t m dn s u hu => exec_timeCaptureEdge_unasked hu
  · intro t m v rest s u hu hready hreset hblock hqueue hlen
    obtain ⟨hfns, hlo, hhi⟩ := u.nat_showStamp m rest v.fnsWord (v.flat / 2 ^ 16) (v.flat / 2 ^ 48)
    refine ⟨_, exec_timeCapFnsRead_oldest hu hready hreset hblock hqueue, ?_, ?_, ?_, ?_, ?_, ?_, ?_, ?_⟩
    · rw [State.cap_emit]
      exact u.cap_showStamp m rest _ _ _ (by omega)
    · rw [State.nat_emit]
      exact hfns.trans v.fnsWord_mod
    · rw [State.nat_emit]
      exact hlo
    · rw [State.nat_emit]
      exact hhi
    · rw [State.nat_emit, State.emit_outbox]
      exact congrArg (· ++ _) (u.showStamp_outbox m rest _ _ _)
    · rw [State.emit_hbm]
      exact u.showStamp_hbm m rest _ _ _
    · exact fun a ha => (State.reg_emit _ _ a).trans (u.sameRegs_showStamp m rest _ _ _ a ha)
    · rw [State.emit_raised]
      exact u.showStamp_raised m rest _ _ _

end Sys2Proof.Machine
end

section
/-! Yarn packets (R326 to R329). -/

namespace Sys2Proof.Machine

/-! ## A write of HBM -/

theorem State.byte_hbmWrite_inside (s : State) (a tg : Nat) {bs : List Byte} {i : Nat} (hi : i < bs.length) :
    (s.hbmWrite a bs tg).byte (a + i) = bs.getD i 0 := by
  rw [State.byte_hbmWrite, memWrite_inside _ _ _ _ hi, Option.getD_some, List.getElem_eq_getD]

theorem State.byte_hbmWrite_outside (s : State) {a : Nat} (tg : Nat) {bs : List Byte} {b : Nat} (hb : b < a ∨ a + bs.length ≤ b) :
    (s.hbmWrite a bs tg).byte b = s.byte b := by
  rw [State.byte_hbmWrite, memWrite_outside _ _ _ _ hb, State.byte]

/-! ## A discard -/

theorem State.sameRegs_yarnDrop (s : State) (y r k : Nat) : SameRegs s (s.yarnDrop y r k) [Reg.STORE_YARN_STAT y] := by
  have hinc : SameRegs s (s.incFld (Reg.STORE_YARN_STAT y) 16 16 1) [Reg.STORE_YARN_STAT y] :=
    (SameRegs.refl s _).setReg List.mem_cons_self _
  unfold State.yarnDrop
  extract_lets
  split
  · exact hinc
  · exact hinc

theorem State.yarnDrop_updates (s : State) (y r k : Nat) : (s.yarnDrop y r k).store.updates = s.store.updates := by
  unfold State.yarnDrop
  extract_lets
  split
  · rfl
  · rfl

/-- A discard is counted (R329). -/
theorem State.fld_yarnDrop (s : State) (y r k : Nat) :
    (s.yarnDrop y r k).fld (Reg.STORE_YARN_STAT y) 16 16 = min 65535 (s.fld (Reg.STORE_YARN_STAT y) 16 16 + 1) := by
  have hinc := s.fld_incFld_self (Reg.STORE_YARN_STAT y) 16 16 1 (by decide)
  unfold State.yarnDrop
  extract_lets
  split
  · exact hinc
  · exact hinc

/-! ## Packets that take effect in LIVE -/

section
variable {t : Nat} {y : Fin 16} {p : List Byte} {s u : State} (hu : s.advance t = u)
include hu

theorem exec_yarnDescriptor_live (hen : u.yarnEnabled y = true) (hlive : u.modeCode = Mode.LIVE) (hon : u.hbmOffPeriod = false)
    (hheader : yarnHeaderOk p 2 = true) (hlen : 100 ≤ p.length) (hnum : leAt (p.drop 32) 0 1 ≤ 63) :
    exec (.yarnDescriptor t y p) s = .next (u.each (List.range 16) fun v i =>
      v.descWrite .yarn (leAt (p.drop 32) 0 1) i (Word.ofNat (leAt (p.drop 32) (4 + 4 * i) 4))) := by
  have hrun : exec (.yarnDescriptor t y p) s = execYarnDescriptor t y p s := rfl
  have hfits : ¬((p.drop 32).length < 68 ∨ 63 < leAt (p.drop 32) 0 1) := by
    rw [List.length_drop]
    omega
  rw [hrun, execYarnDescriptor, hu]
  simp only [State.yarnLive, hen, hlive, hon, hheader, hfits, Bool.not_true, Bool.false_eq_true, ne_eq, not_true_eq_false, or_self, if_false]

theorem exec_yarnCommit_live (hen : u.yarnEnabled y = true) (hlive : u.modeCode = Mode.LIVE) (hon : u.hbmOffPeriod = false)
    (hheader : yarnHeaderOk p 3 = true) (hok : u.accepts .yarn Reg.SCAN_COMMIT 1) : exec (.yarnCommit t y p) s = .next u.commitGo := by
  have hrun : exec (.yarnCommit t y p) s = execYarnCommit t y p s := rfl
  have hcause : writeCause u .yarn Reg.SCAN_COMMIT 4 1 = none := hok
  rw [hrun, execYarnCommit, hu]
  simp only [State.yarnLive, hen, hlive, hon, hheader, hcause, Bool.not_true, Bool.false_eq_true, ne_eq, not_true_eq_false, or_self, if_false]

theorem exec_yarn_notLive (hmode : u.modeCode ≠ Mode.LIVE) :
    exec (.yarnDescriptor t y p) s = .next (u.yarnDrop y 1 (yarnUpdate p)) ∧
    exec (.yarnCommit t y p) s = .next (u.yarnDrop y 1 (yarnUpdate p)) := by
  have hdesc : exec (.yarnDescriptor t y p) s = execYarnDescriptor t y p s := rfl
  have hcommit : exec (.yarnCommit t y p) s = execYarnCommit t y p s := rfl
  have hdrops (k : Nat) (f : State → State) : u.yarnLive y p k f = u.yarnDrop y 1 (yarnUpdate p) := if_pos (Or.inr (Or.inl hmode))
  exact ⟨by rw [hdesc, execYarnDescriptor, hu, hdrops], by rw [hcommit, execYarnCommit, hu, hdrops]⟩

theorem exec_yarnUpdateTimeout_discards {k : Nat} {x : Update}
    (hfind : (u.store.updates.find? fun z => z.stream == y.val && z.id == k) = some x) (hlate : x.first + ms 100 ≤ u.now)
    (halone : (u.sameCycle fun i => match i with | .yarnDataFragment _ z p => z == y && yarnUpdate p == k | _ => false) = false) :
    exec (.yarnUpdateTimeout t y k) s =
      .next (({ u with store := { u.store with updates := u.store.updates.erase x } }).yarnDrop y 2 k) := by
  have hrun : exec (.yarnUpdateTimeout t y k) s = execYarnUpdateTimeout t y k s := rfl
  have hnot : decide (u.now < x.first + ms 100) = false := decide_eq_false (by omega)
  rw [hrun, execYarnUpdateTimeout, hu]
  simp only [hfind, hnot, Bool.or_false]
  exact congrArg Host.Outcome.next (if_neg fun h => Bool.false_ne_true (halone.symm.trans h))

end

/-! ## The first fragment of an update -/

/-- The update that a fragment begins: its place is free in the staging area. -/
def State.beginUpdate (s : State) (y : Nat) (p : List Byte) : Update :=
  { stream := y, id := yarnUpdate p, total := leAt p 0x10 4, skein := leAt p 0x14 4, first := s.now, base := s.stagingBase (leAt p 0x10 4)
    parts := [(leAt p 0x0C 4, p.drop 32)] }

/-- A fragment of the update `x` is stored, and the update alone is in assembly. -/
def State.stageFragment (s : State) (x : Update) (p : List Byte) : State :=
  let n := s.useFresh.hbmWrite (x.base + leAt p 0x0C 4) (p.drop 32) (if x.skein = 0 then 3 else 1)
  { n with store := { n.store with updates := [x] } }

theorem State.stagingBase_fits {s : State} {total : Nat} (h : total ≤ s.fld Reg.STORE_YSTAGE 16 15 * 2 ^ 20) :
    (s.area Reg.STORE_YSTAGE).1 ≤ s.stagingBase total ∧ s.stagingBase total + total ≤ (s.area Reg.STORE_YSTAGE).2 := by
  have hend : (s.area Reg.STORE_YSTAGE).2 = (s.area Reg.STORE_YSTAGE).1 + s.fld Reg.STORE_YSTAGE 16 15 * 2 ^ 20 := Nat.add_mul _ _ _
  have hbase : s.stagingBase total = (s.area Reg.STORE_YSTAGE).1 +
      Config.stagingPlace s.fresh % ((s.area Reg.STORE_YSTAGE).2 - (s.area Reg.STORE_YSTAGE).1 - total + 1) := rfl
  have hmod (m : Nat) : Config.stagingPlace s.fresh % (m + 1) < m + 1 := Nat.mod_lt _ m.succ_pos
  have hplace := hmod ((s.area Reg.STORE_YSTAGE).2 - (s.area Reg.STORE_YSTAGE).1 - total)
  omega

theorem State.updates_hbmWrite (s : State) (a tg : Nat) (bs : List Byte) :
    (s.useFresh.hbmWrite a bs tg).store.updates = s.store.updates := congrArg StoreState.updates (State.touchHbm_store _)

theorem State.yarnFragment_first {s : State} {y : Nat} {p : List Byte} (hnone : s.store.updates = [])
    (htotal : within 33 16777216 (leAt p 0x10 4) = true) (hfit : leAt p 0x0C 4 + (p.drop 32).length ≤ leAt p 0x10 4)
    (hroom : s.staged + leAt p 0x10 4 ≤ s.fld Reg.STORE_YSTAGE 16 15 * 2 ^ 20)
    (hpart : assembled [(leAt p 0x0C 4, p.drop 32)] (leAt p 0x10 4) = none) :
    s.yarnFragment y p = s.stageFragment (s.beginUpdate y p) p := by
  have hroom' : decide (s.fld Reg.STORE_YSTAGE 16 15 * 2 ^ 20 < s.staged + leAt p 0x10 4) = false := decide_eq_false (by omega)
  unfold State.yarnFragment
  simp only [htotal, hnone, hroom', Nat.not_lt.mpr hfit, hpart, List.filter_nil, List.any_nil, List.find?_nil, Bool.not_true,
    Bool.false_eq_true, or_self, if_false, Option.isNone_none, Bool.and_false, Option.getD_none, if_true, List.nil_append, Option.isSome_none,
    State.updates_hbmWrite]
  rfl

theorem exec_yarnDataFragment_first {t : Nat} {y : Fin 16} {p : List Byte} {s u v : State} (hu : s.advance t = u)
    (hen : u.yarnEnabled y = true) (hmode : fullMode u.modeCode = true) (hon : u.hbmOffPeriod = false)
    (hheader : yarnHeaderOk p 1 = true) (hv : u.wakeHbm = v) (hnone : v.store.updates = [])
    (htotal : within 33 16777216 (leAt p 0x10 4) = true) (hfit : leAt p 0x0C 4 + (p.drop 32).length ≤ leAt p 0x10 4)
    (hroom : v.staged + leAt p 0x10 4 ≤ v.fld Reg.STORE_YSTAGE 16 15 * 2 ^ 20)
    (hpart : assembled [(leAt p 0x0C 4, p.drop 32)] (leAt p 0x10 4) = none) :
    exec (.yarnDataFragment t y p) s = .next (v.stageFragment (v.beginUpdate y p) p) := by
  have hrun : exec (.yarnDataFragment t y p) s = execYarnDataFragment t y p s := rfl
  rw [hrun, execYarnDataFragment, hu]
  simp only [hen, hmode, hon, hheader, Bool.not_true, Bool.false_eq_true, or_self, if_false]
  rw [hv, State.yarnFragment_first hnone htotal hfit hroom hpart]

theorem State.byte_stageFragment (s : State) (x : Update) (p : List Byte) (a : Nat) : (s.stageFragment x p).byte a =
    (s.useFresh.hbmWrite (x.base + leAt p 0x0C 4) (p.drop 32) (if x.skein = 0 then 3 else 1)).byte a := rfl

theorem State.sameRegs_stageFragment (s : State) (x : Update) (p : List Byte) : SameRegs s (s.stageFragment x p) [] :=
  fun a _ => State.reg_congr (State.hbmWrite_regs s.useFresh _ _ _) a

theorem State.stageFragment_raised (s : State) (x : Update) (p : List Byte) : (s.stageFragment x p).raised = s.raised :=
  State.hbmWrite_raised s.useFresh _ _ _

/-- Settles O44: the first fragment by its place in the staging area, the packets of LIVE by their writes, the timeout by its discard. -/
theorem yarnPackets : Obligations.YarnPackets := by
  unfold Obligations.YarnPackets
  refine ⟨?_, ?_, ?_, ?_, ?_, ?_⟩
  · intro t y p s u v hu hen hmode hon hheader hv hnone htotal hfit hroom hpart
    obtain ⟨hlow, hhigh⟩ := State.stagingBase_fits (s := v) (total := leAt p 0x10 4) (by omega)
    refine ⟨_, v.beginUpdate y p, exec_yarnDataFragment_first hu hen hmode hon hheader hv hnone htotal hfit hroom hpart, rfl, rfl, rfl, rfl, rfl,
      rfl, hlow, hhigh, ?_, ?_, v.sameRegs_stageFragment _ p, v.stageFragment_raised _ p⟩
    · intro i hi
      rw [State.byte_stageFragment, State.byte_hbmWrite_inside _ _ _ hi]
    · intro a ha
      rw [State.byte_stageFragment, State.byte_hbmWrite_outside _ _ ha]
      rfl
  · exact fun t y p s u hu => exec_yarnDescriptor_live hu
  · exact fun t y p s u hu => exec_yarnCommit_live hu
  · exact fun t k y x s u hu => exec_yarnUpdateTimeout_discards hu
  · exact fun t y p s u hu => exec_yarn_notLive hu
  · exact fun y r k u => ⟨u.fld_yarnDrop y r k, u.sameRegs_yarnDrop y r k, u.yarnDrop_updates y r k⟩

end Sys2Proof.Machine
end

section
/-! The data ports (R331 to R333). -/

namespace Sys2Proof.Machine

/-! ## A write TLP -/

/-- The bytes of `data` are stored one by one from `a + k`. -/
def State.writeBytes (s : State) (a : Nat) (data : List Byte) (k : Nat) : State :=
  s.each ((data.zipIdx k).map fun x => (a + x.2, x.1)) fun s x => s.hbmWrite x.1 [x.2] 3

theorem State.writeBytes_cons (s : State) (a : Nat) (b : Byte) (data : List Byte) (k : Nat) :
    s.writeBytes a (b :: data) k = (s.hbmWrite (a + k) [b] 3).writeBytes a data (k + 1) := rfl

theorem State.byte_writeBytes_outside {a : Nat} {data : List Byte} {k b : Nat} (h : b < a + k ∨ a + k + data.length ≤ b) (s : State) :
    (s.writeBytes a data k).byte b = s.byte b := by
  induction data generalizing s k with
  | nil => rfl
  | cons x data ih =>
    rw [List.length_cons] at h
    rw [State.writeBytes_cons, ih (by omega), State.byte_hbmWrite_outside _ _ (by rw [List.length_singleton]; omega)]

theorem State.byte_writeBytes_inside {a : Nat} {data : List Byte} {k i : Nat} (hi : i < data.length) (s : State) :
    (s.writeBytes a data k).byte (a + k + i) = data.getD i 0 := by
  induction data generalizing s k i with
  | nil => simp at hi
  | cons x data ih =>
    rw [State.writeBytes_cons]
    cases i with
    | zero =>
      have hbyte := s.byte_hbmWrite_inside (a + k) 3 (bs := [x]) (i := 0) Nat.one_pos
      rw [State.byte_writeBytes_outside (by omega), hbyte]
      rfl
    | succ i =>
      have hrest := ih (k := k + 1) (i := i) (by simpa using hi) (s.hbmWrite (a + k) [x] 3)
      rw [show a + k + (i + 1) = a + (k + 1) + i by omega, hrest]
      rfl

theorem State.writeBytes_keeps {β : Type} {g : State → β} (h : ∀ (s : State) (a tg : Nat) (bs : List Byte), g (s.hbmWrite a bs tg) = g s)
    (s : State) (a : Nat) (data : List Byte) (k : Nat) : g (s.writeBytes a data k) = g s :=
  State.each_keeps (fun s (x : Nat × Byte) => h s x.1 3 [x.2]) s _

theorem testBit_fifteen {i : Nat} (h : i < 4) : (15).testBit i = true := by
  have hcases : i = 0 ∨ i = 1 ∨ i = 2 ∨ i = 3 := by omega
  rcases hcases with rfl | rfl | rfl | rfl <;> rfl

/-- With every byte enabled a TLP of more than one dword stores them all. -/
theorem enabledBytes_all {data : List Byte} (h : 4 < data.length) (a : Nat) :
    enabledBytes a 15 15 data = data.zipIdx.map fun x => (a + x.2, x.1) := by
  refine congrArg (List.map _) (List.filter_eq_self.mpr fun x hx => ?_)
  have hlt : x.2 < data.length := by
    obtain ⟨-, hlt, -⟩ := List.mem_zipIdx hx
    omega
  split
  next hlow => rw [testBit_fifteen hlow, decide_eq_false (by omega)]; rfl
  next =>
    split
    next hend => exact testBit_fifteen (by omega)
    next => rfl

/-! ## The pointer -/

theorem Reg.DPORT_PTR_ne (p : Nat) : Reg.DPORT_PTR_HI p ≠ Reg.DPORT_PTR_LO p := by
  simp only [Reg.DPORT_PTR_HI, Reg.DPORT_PTR_LO]
  omega

theorem State.fld_low (s : State) (a n : Nat) : s.fld a 0 n = s.nat a % 2 ^ n := rfl

theorem State.dportPtr_setPtr (s : State) (p a : Nat) : (s.setPtr p a).dportPtr p = a % 2 ^ 32 / 4 * 4 + a / 2 ^ 32 % 8 * 2 ^ 32 := by
  have hlo : (s.setPtr p a).nat (Reg.DPORT_PTR_LO p) = a % 2 ^ 32 := by
    rw [State.setPtr, State.nat_setNat_ne _ _ (Reg.DPORT_PTR_ne p), State.nat_setNat_self, Nat.mod_mod]
  have hhi : (s.setPtr p a).nat (Reg.DPORT_PTR_HI p) = a / 2 ^ 32 % 8 := by
    rw [State.setPtr, State.nat_setNat_self]
    omega
  rw [State.dportPtr, hlo, State.fld_low, hhi]
  omega

theorem stepBytes_dvd (v : Nat) : 4 ∣ stepBytes v := by
  unfold stepBytes
  split <;> decide

/-- Whole steps from a dword move the pointer to their sum, in its 35 bits. -/
theorem State.dportPtr_stepPtr {s : State} {p n k : Nat} (hk : stepBytes (s.fld (Reg.DPORT_STEP p) 0 3) = k) (hne : k ≠ 0) :
    (s.stepPtr p n).dportPtr p = (s.dportPtr p + ceilDiv n k * k) % 2 ^ 35 := by
  have hdword : 4 ∣ s.dportPtr p + ceilDiv n k * k := by
    have hptr : 4 ∣ s.dportPtr p := by
      rw [State.dportPtr]
      omega
    exact hptr.add (Dvd.dvd.mul_left (hk ▸ stepBytes_dvd _) _)
  have hstep : s.stepPtr p n = s.setPtr p (s.dportPtr p + ceilDiv n k * k) := by
    rw [State.stepPtr, hk]
    exact if_neg hne
  rw [hstep, State.dportPtr_setPtr]
  omega

theorem State.stepPtr_stays {s : State} {p n : Nat} (hk : stepBytes (s.fld (Reg.DPORT_STEP p) 0 3) = 0) : s.stepPtr p n = s := if_pos hk

theorem State.sameRegs_stepPtr (s : State) (p n : Nat) : SameRegs s (s.stepPtr p n) [Reg.DPORT_PTR_LO p, Reg.DPORT_PTR_HI p] := by
  unfold State.stepPtr
  extract_lets st
  split
  · exact SameRegs.refl s _
  · exact ((SameRegs.refl s _).setReg List.mem_cons_self _).setReg (by simp) _

theorem State.stepPtr_keeps {β : Type} {g : State → β} (h : ∀ (s : State) (a v : Nat), g (s.setNat a v) = g s) (s : State) (p n : Nat) :
    g (s.stepPtr p n) = g s := by
  unfold State.stepPtr
  extract_lets st
  split
  · rfl
  · exact (h _ _ _).trans (h _ _ _)

/-! ## The TLPs -/

/-- A write TLP has stored its bytes, before its pointer steps. -/
def State.written (u : State) (p a : Nat) (data : List Byte) : State := ((u.dropPrefetch p).wakeHbm.writeBytes a data 0).touchHbm

section
variable {t off k len : Nat} {p : Fin 4} {data : List Byte} {s u : State} (hu : s.advance t = u)
include hu

theorem exec_dportWriteTlp_stores (hon : u.endpointOn = true) (hready : u.ready = true) (hperiod : u.dport.period = none)
    (hrange : (u.dropPrefetch p).wakeHbm.dportRange (u.dportPtr p) data.length = false) (hlen : 4 < data.length) :
    exec (.dportWriteTlp t p off 15 15 data) s =
      .next ((u.written p (u.dportPtr p) data).stepPtr p data.length) := by
  have hrun : exec (.dportWriteTlp t p off 15 15 data) s = execDportWriteTlp t p off 15 15 data s := rfl
  rw [hrun, execDportWriteTlp, hu]
  simp only [hon, hready, hperiod, hrange, enabledBytes_all hlen, Bool.not_true, Bool.false_eq_true, Option.isSome_none, if_false]
  rfl

theorem exec_dportReadTlp_returns (hon : u.endpointOn = true) (hready : u.ready = true) (hperiod : u.dport.period = none)
    (hrange : u.wakeHbm.dportRange (u.dportPtr p) (ceilDiv len 4 * 4) = false)
    (hlost : u.wakeHbm.lostIn (u.dportPtr p) (ceilDiv len 4 * 4) = false) :
    exec (.dportReadTlp t p off len) s = .next (((u.wakeHbm.touchHbm.stepPtr p (ceilDiv len 4 * 4)).prefetch p).emit
      (.completion (u.wakeHbm.dportBytes p (u.dportPtr p) (ceilDiv len 4 * 4)))) := by
  have hrun : exec (.dportReadTlp t p off len) s = execDportReadTlp t p off len s := rfl
  rw [hrun, execDportReadTlp, hu]
  simp only [hon, hready, hperiod, hrange, hlost, Bool.not_true, Bool.false_eq_true, Option.isSome_none, if_false]

theorem exec_dportReadTlp_beyond (hon : u.endpointOn = true) (hready : u.ready = true) (hperiod : u.dport.period = none)
    (hrange : u.wakeHbm.dportRange (u.dportPtr p) (ceilDiv len 4 * 4) = true) :
    exec (.dportReadTlp t p off len) s = .next ((u.wakeHbm.raiseRange p (u.dportPtr p) (ceilDiv len 4 * 4)).emit
      (.completion (allOnes (ceilDiv len 4 * 4)))) := by
  have hrun : exec (.dportReadTlp t p off len) s = execDportReadTlp t p off len s := rfl
  rw [hrun, execDportReadTlp, hu]
  simp only [hon, hready, hperiod, hrange, Bool.not_true, Bool.false_eq_true, Option.isSome_none, if_true, if_false]

end

/-! ## What a TLP leaves -/

theorem State.reg_wakeHbm (s : State) (a : Nat) : s.wakeHbm.reg a = s.reg a := State.reg_congr s.wakeHbm_regs a

theorem State.byte_congr {s n : State} (h : n.hbm = s.hbm) (a : Nat) : n.byte a = s.byte a := by rw [State.byte, State.byte, h]

theorem State.byte_stepPtr (s : State) (p n a : Nat) : (s.stepPtr p n).byte a = s.byte a :=
  State.byte_congr (State.stepPtr_keeps (g := State.hbm) (fun _ _ _ => rfl) s p n) a

theorem State.byte_touchHbm (s : State) (a : Nat) : s.touchHbm.byte a = s.byte a := State.byte_congr s.touchHbm_hbm a

theorem State.reg_written (u : State) (p a : Nat) (data : List Byte) (r : Nat) : (u.written p a data).reg r = u.reg r := by
  rw [State.written, State.reg_congr (State.touchHbm_regs _), State.reg_congr (State.writeBytes_keeps State.hbmWrite_regs _ a data 0),
    State.reg_wakeHbm]
  rfl

theorem State.byte_written_outside (u : State) (p : Nat) {a : Nat} {data : List Byte} {b : Nat} (h : b < a ∨ a + data.length ≤ b) :
    (u.written p a data).byte b = u.byte b := by
  have hwake : (u.dropPrefetch p).wakeHbm.byte b = u.byte b := State.byte_congr (State.wakeHbm_hbm _) b
  rw [State.written, State.byte_touchHbm, State.byte_writeBytes_outside (k := 0) h, hwake]

theorem State.byte_written_inside (u : State) (p a : Nat) {data : List Byte} {i : Nat} (h : i < data.length) :
    (u.written p a data).byte (a + i) = data.getD i 0 := by
  rw [State.written, State.byte_touchHbm]
  exact State.byte_writeBytes_inside (k := 0) h _

theorem State.raised_written (u : State) (p a : Nat) (data : List Byte) : (u.written p a data).raised = u.raised := by
  rw [State.written, State.touchHbm_raised, State.writeBytes_keeps (g := State.raised) State.hbmWrite_raised, State.wakeHbm_raised]
  rfl

theorem State.dportPtr_congr {s n : State} (h : ∀ a, n.reg a = s.reg a) (p : Nat) : n.dportPtr p = s.dportPtr p := by
  simp only [State.dportPtr, State.nat, State.fld, h]

/-- What the port has not prefetched comes from HBM. -/
theorem State.dportBytes_fresh {s : State} {p : Nat} (h : (s.dport.prefetch.any fun x => x.1 == p) = false) (a n : Nat) :
    s.dportBytes p a n = s.bytes a n := by
  refine List.map_congr_left fun i _ => ?_
  have hnone : (s.dport.prefetch.find? fun x => x.1 == p && x.2.1 ≤ a + i && a + i < x.2.1 + x.2.2.length) = none := by
    refine List.find?_eq_none.mpr fun x hx hmatch => List.any_eq_false.mp h x hx ?_
    exact (Bool.and_eq_true_iff.mp (Bool.and_eq_true_iff.mp hmatch).1).1
  rw [hnone]

theorem State.prefetch_eq (s : State) (p : Nat) : ∃ x y, s.prefetch p = { s with dport := x, fresh := y } := ⟨_, _, rfl⟩

/-- What a read TLP that returns bytes leaves behind. -/
theorem State.readTlp_keeps {β : Type} {g : State → β} (hnat : ∀ (s : State) (a v : Nat), g (s.setNat a v) = g s)
    (hport : ∀ (s : State) (x : DportState) (y : Nat), g { s with dport := x, fresh := y } = g s) (s : State) (p n : Nat) :
    g ((s.stepPtr p n).prefetch p) = g s := by
  obtain ⟨x, y, heq⟩ := (s.stepPtr p n).prefetch_eq p
  rw [heq, hport, State.stepPtr_keeps hnat]

theorem State.sameRegs_prefetch (s : State) (p : Nat) (l : List Nat) : SameRegs s (s.prefetch p) l := by
  obtain ⟨x, y, heq⟩ := s.prefetch_eq p
  rw [heq]
  exact fun _ _ => rfl

/-- The range error is reported when none was within 1 ms (R333). -/
theorem State.raiseRange_first {s : State} {p : Nat} (h : mapGet s.dport.range p = none) (a n : Nat) : s.raiseRange p a n =
    ({ s with dport := { s.dport with range := mapPut s.dport.range p s.now } } : State).raise Ev.DPORT_RANGE [p, a / 8, n] := by
  rw [State.raiseRange, h]
  rfl

/-- A write TLP stores its bytes at the pointer, and steps it (R331). -/
theorem exec_dportWriteTlp_effect {t off k : Nat} {p : Fin 4} {data : List Byte} {s u : State} (hu : s.advance t = u)
    (hon : u.endpointOn = true) (hready : u.ready = true) (hperiod : u.dport.period = none)
    (hrange : (u.dropPrefetch p).wakeHbm.dportRange (u.dportPtr p) data.length = false) (hlen : 4 < data.length)
    (hk : stepBytes (u.fld (Reg.DPORT_STEP p) 0 3) = k) :
    ∃ n : State, exec (.dportWriteTlp t p off 15 15 data) s = .next n ∧
      (∀ i : Nat, i < data.length → n.byte (u.dportPtr p + i) = data.getD i 0) ∧
      (∀ a : Nat, a < u.dportPtr p ∨ u.dportPtr p + data.length ≤ a → n.byte a = u.byte a) ∧
      (k = 0 → SameRegs u n []) ∧
      (k ≠ 0 → n.dportPtr p = (u.dportPtr p + ceilDiv data.length k * k) % 2 ^ 35 ∧
        SameRegs u n [Reg.DPORT_PTR_LO p, Reg.DPORT_PTR_HI p]) ∧ n.raised = u.raised := by
  have hstep : stepBytes ((u.written p (u.dportPtr p) data).fld (Reg.DPORT_STEP p) 0 3) = k := by
    rw [State.fld, State.reg_written, ← State.fld, hk]
  have hsame (l : List Nat) : SameRegs u (u.written p (u.dportPtr p) data) l := fun a _ => u.reg_written p _ data a
  refine ⟨_, exec_dportWriteTlp_stores hu hon hready hperiod hrange hlen, fun i hi => ?_, fun a ha => ?_, fun hzero => ?_,
    fun hne => ⟨?_, (hsame _).trans (State.sameRegs_stepPtr _ _ _)⟩, ?_⟩
  · rw [State.byte_stepPtr, State.byte_written_inside _ _ _ hi]
  · rw [State.byte_stepPtr, State.byte_written_outside _ _ ha]
  · rw [State.stepPtr_stays (hstep.trans hzero)]
    exact hsame _
  · rw [State.dportPtr_stepPtr hstep hne, State.dportPtr_congr (u.reg_written p _ data)]
  · rw [State.stepPtr_keeps (g := State.raised) (fun _ _ _ => rfl), State.raised_written]

theorem State.usable_wakeHbm (s : State) : s.wakeHbm.usable = s.usable := by
  simp only [State.usable, State.rowsUse, State.slots, State.fld, State.reg_wakeHbm]

/-- A read TLP within the usable range returns the bytes of HBM (R331). -/
theorem exec_dportReadTlp_effect {t off len : Nat} {p : Fin 4} {s u : State} (hu : s.advance t = u) (hon : u.endpointOn = true)
    (hready : u.ready = true) (hperiod : u.dport.period = none)
    (hrange : u.wakeHbm.dportRange (u.dportPtr p) (ceilDiv len 4 * 4) = false)
    (hlost : u.lostIn (u.dportPtr p) (ceilDiv len 4 * 4) = false) (hfresh : (u.dport.prefetch.any fun x => x.1 == p.val) = false) :
    ∃ n : State, exec (.dportReadTlp t p off len) s = .next n ∧
      n.outbox = u.outbox ++ [.completion (u.bytes (u.dportPtr p) (ceilDiv len 4 * 4))] ∧
      SameRegs u n [Reg.DPORT_PTR_LO p, Reg.DPORT_PTR_HI p] ∧ n.hbm = u.hbm ∧ n.raised = u.raised := by
  have hlost' : u.wakeHbm.lostIn (u.dportPtr p) (ceilDiv len 4 * 4) = false := by
    rw [← hlost]
    refine congrArg (List.any _) (funext fun b => ?_)
    rw [State.isLost, State.isLost, State.marked, State.marked, State.usable_wakeHbm, State.wakeHbm_hbm]
  have hfresh' : (u.wakeHbm.dport.prefetch.any fun x => x.1 == p.val) = false := by rwa [State.wakeHbm_dport]
  have hbytes : u.wakeHbm.bytes (u.dportPtr p) (ceilDiv len 4 * 4) = u.bytes (u.dportPtr p) (ceilDiv len 4 * 4) :=
    List.map_congr_left fun i _ => State.byte_congr u.wakeHbm_hbm _
  refine ⟨_, exec_dportReadTlp_returns hu hon hready hperiod hrange hlost', ?_⟩
  rw [State.dportBytes_fresh hfresh', hbytes]
  have hregs : SameRegs u u.wakeHbm.touchHbm [Reg.DPORT_PTR_LO p, Reg.DPORT_PTR_HI p] :=
    fun a _ => (State.reg_congr (State.touchHbm_regs _) a).trans (u.reg_wakeHbm a)
  refine ⟨?_, ?_, ?_, ?_⟩
  · rw [State.emit_outbox, State.readTlp_keeps (g := State.outbox) (fun _ _ _ => rfl) (fun _ _ _ => rfl), State.touchHbm_outbox,
      State.wakeHbm_outbox]
  · exact fun a ha => (State.reg_emit _ _ a).trans (((hregs.trans (State.sameRegs_stepPtr _ _ _)).trans (State.sameRegs_prefetch _ _ _)) a ha)
  · rw [State.emit_hbm, State.readTlp_keeps (g := State.hbm) (fun _ _ _ => rfl) (fun _ _ _ => rfl), State.touchHbm_hbm, State.wakeHbm_hbm]
  · rw [State.emit_raised, State.readTlp_keeps (g := State.raised) (fun _ _ _ => rfl) (fun _ _ _ => rfl), State.touchHbm_raised,
      State.wakeHbm_raised]

/-- A read TLP beyond the usable range returns all ones, and reports it (R333). -/
theorem exec_dportReadTlp_range {t off len : Nat} {p : Fin 4} {s u : State} (hu : s.advance t = u) (hon : u.endpointOn = true)
    (hready : u.ready = true) (hperiod : u.dport.period = none)
    (hrange : u.wakeHbm.dportRange (u.dportPtr p) (ceilDiv len 4 * 4) = true) (hfirst : mapGet u.dport.range p.val = none) :
    ∃ n : State, exec (.dportReadTlp t p off len) s = .next n ∧ n.outbox = u.outbox ++ [.completion (allOnes (ceilDiv len 4 * 4))] ∧
      SameRegs u n [] ∧ n.hbm = u.hbm ∧
      RaisedBy u n [(Ev.DPORT_RANGE, [p.val, u.dportPtr p / 8, ceilDiv len 4 * 4].map (· % 2 ^ 32))] := by
  have hfirst' : mapGet u.wakeHbm.dport.range p.val = none := by rwa [State.wakeHbm_dport]
  refine ⟨_, exec_dportReadTlp_beyond hu hon hready hperiod hrange, ?_⟩
  rw [State.raiseRange_first hfirst']
  refine ⟨?_, ?_, ?_, ?_⟩
  · rw [State.emit_outbox, State.raise_outbox]
    exact congrArg (· ++ _) u.wakeHbm_outbox
  · exact fun a _ => (State.reg_emit _ _ a).trans ((State.reg_raise _ _ _ a).trans (u.reg_wakeHbm a))
  · rw [State.emit_hbm, State.raise_hbm]
    exact u.wakeHbm_hbm
  · rw [RaisedBy, State.emit_raised]
    exact RaisedBy.of_raise u.wakeHbm_raised _ _

/-! ## A write of a pointer register -/

theorem dportReg_atOnce (p : Fin 4) (r : Fin 3) :
    (findReg (dportReg p r)).map (fun d => (d.access, d.applies)) = some (.rw, .atOnce) ∧ mirrorScope (dportReg p r) = 0 := by
  revert p r
  decide +kernel

theorem exec_dportPtrWrite_ok {t : Nat} {req : Requester} {p : Fin 4} {r : Fin 3} {w : Word} {s u : State} (hu : s.advance t = u)
    (hok : u.accepts req (dportReg p r) w) : exec (.dportPtrWrite t req p r w) s =
      .next ((u.setReg (dportReg p r) ((u.reg (dportReg p r) &&& ~~~writeMask (dportReg p r)) ||| (w &&& writeMask (dportReg p r)))).dropPrefetch
        p) := by
  obtain ⟨hrw, hlocal⟩ := dportReg_atOnce p r
  have hrun : exec (.dportPtrWrite t req p r w) s = execDportPtrWrite t req p r w s := rfl
  rw [hrun, execDportPtrWrite, hu, State.guarded_ok hok, State.mirror_local _ _ _ _ hlocal, State.store'_atOnce hrw]

theorem State.dropPrefetch_gone (s : State) (p : Nat) : ((s.dropPrefetch p).dport.prefetch.any fun x => x.1 == p) = false := by
  refine List.any_eq_false.mpr fun x hx hnum => ?_
  have hout := (List.mem_filter.mp hx).2
  simp [beq_iff_eq.mp hnum] at hout

end Sys2Proof.Machine
end

section
/-! Descriptor DMA (R335, R336). -/

namespace Sys2Proof.Machine

/-! ## The start of an entry -/

theorem dmaReg_local (c : Fin 4) (r : Fin 2) : mirrorScope (dmaReg c r) = 0 := by
  revert c r
  decide +kernel

theorem exec_dportDmaStart_ok {t : Nat} {req : Requester} {c : Fin 4} {r : Fin 2} {w : Word} {s u : State} (hu : s.advance t = u)
    (hok : u.accepts req (dmaReg c r) w) : exec (.dportDmaStart t req c r w) s =
      .next ((u.store' req (dmaReg c r) (w &&& writeMask (dmaReg c r))).refreshRun.wakeHbm.dmaKick c) := by
  have hrun : exec (.dportDmaStart t req c r w) s = execDportDmaStart t req c r w s := rfl
  rw [hrun, execDportDmaStart, hu, State.guarded_ok hok, State.mirror_local _ _ _ _ (dmaReg_local c r)]

theorem State.dmaKick_starts {s : State} {c : Nat} (hrun : s.bit (Reg.DPORT_DMA_CFG c) 0 = true)
    (hidle : s.bit (Reg.DPORT_DMA_STAT c) 0 = false) (hon : s.dport.period = none)
    (hentry : s.fld (Reg.DPORT_DMA_TAIL c) 0 15 ≠ s.fld (Reg.DPORT_DMA_HEAD c) 0 15) :
    s.dmaKick c = s.setBit (Reg.DPORT_DMA_STAT c) 0 true :=
  if_pos (by rw [hrun, hidle, hon, bne_iff_ne.mpr hentry]; rfl)

/-- A channel that starts its next entry shows it in BUSY, or nothing changes. -/
theorem State.dmaKick_cases (s : State) (c : Nat) : s.dmaKick c = s.setBit (Reg.DPORT_DMA_STAT c) 0 true ∨ s.dmaKick c = s := by
  unfold State.dmaKick
  split
  · exact Or.inl rfl
  · exact Or.inr rfl

/-! ## The end of an entry -/

section
variable {t : Nat} {c : Fin 4} {e d : List Byte} {s u : State} (hu : s.advance t = u)
include hu

theorem exec_dportDmaEntryDone_ends (hbusy : u.bit (Reg.DPORT_DMA_STAT c) 0 = true) (hnone : (u.dmaDecode c).isSome = false)
    (hplain : u.dmaDecodes (parseDma e) 0 = false) : exec (.dportDmaEntryDone t c e d 0) s =
      .next ((u.dmaRun (parseDma e) d 0).1.dmaEnd c (parseDma e) (u.dmaRun (parseDma e) d 0).2) := by
  have hrun : exec (.dportDmaEntryDone t c e d 0) s = execDportDmaEntryDone t c e d 0 s := rfl
  rw [hrun, execDportDmaEntryDone, hu]
  simp only [hbusy, hnone, hplain, Bool.not_true, Bool.or_self, Bool.false_eq_true, if_false]

end

/-- The four low bits of a word whose low field is 0. -/
theorem bit_of_field_zero {w : Word} {i n : Nat} (h : w.field 0 n = 0) (hi : i < n) : w.bit i = false := by
  have htest : (w.field 0 n).testBit i = w.bit i := by
    rw [Word.field, Nat.shiftRight_zero, Nat.testBit_mod_two_pow, decide_eq_true hi, Bool.true_and, BitVec.testBit_toNat, Word.bit]
  rw [← htest, h, Nat.zero_testBit]

theorem State.dmaRun_copies {s : State} {e : DmaEntry} {d : List Byte} (hgood : e.bad = false) (hread : e.ctl.bit 0 = false)
    (hplain : e.ctl.bit 1 = false) (hlen : d.length = e.length) (hrange : s.dportRange e.hbm e.length = false) :
    s.dmaRun e d 0 = (s.hbmWrite e.hbm d 3, 0) := by
  have hbytes : e.bytes = e.length := by rw [DmaEntry.bytes, hplain]; rfl
  simp only [State.dmaRun, hgood, hbytes, hrange, hread, Bool.false_eq_true, ne_eq, not_true_eq_false, if_false]
  rw [← hlen, List.take_length]

/-- A good entry that sets no fence and raises nothing has run: TAIL moves on and the channel counts. -/
def State.dmaCounts (s : State) (c : Nat) (e : DmaEntry) : State :=
  let tail := s.fld (Reg.DPORT_DMA_TAIL c) 0 15
  let n := (((s.setBit (Reg.DPORT_DMA_STAT c) 0 false).setFld (Reg.DPORT_DMA_STAT c) 8 8 0).dmaWriteBack c tail e 0)
  ((n.setFld (Reg.DPORT_DMA_TAIL c) 0 15 ((tail + 1) % 2 ^ n.fld (Reg.DPORT_DMA_CFG c) 4 4)).incFld (Reg.DPORT_DMA_STAT c) 16 16 1)

theorem State.dmaEnd_good {s : State} {c : Nat} {e : DmaEntry} (hfence : e.ctl.bit 3 = false) (hquiet : e.ctl.bit 10 = false) :
    s.dmaEnd c e 0 = (s.dmaCounts c e).dmaKick c := by
  simp only [State.dmaEnd, State.dmaNext, hfence, hquiet, Bool.false_eq_true, if_false, if_true]
  rfl

theorem Reg.DPORT_DMA_ne (c : Nat) : Reg.DPORT_DMA_STAT c ≠ Reg.DPORT_DMA_CFG c ∧ Reg.DPORT_DMA_STAT c ≠ Reg.DPORT_DMA_TAIL c := by
  simp only [Reg.DPORT_DMA_STAT, Reg.DPORT_DMA_CFG, Reg.DPORT_DMA_TAIL]
  omega

theorem State.dmaWriteBack_reg (s : State) (c tail : Nat) (e : DmaEntry) (status a : Nat) :
    (s.dmaWriteBack c tail e status).reg a = s.reg a := State.reg_emit _ _ a

theorem State.dmaWriteBack_fld (s : State) (c tail : Nat) (e : DmaEntry) (status a lo n : Nat) :
    (s.dmaWriteBack c tail e status).fld a lo n = s.fld a lo n := State.fld_emit _ _ a lo n

theorem State.fld_setBit_ne (s : State) {a b : Nat} (i : Nat) (x : Bool) (lo n : Nat) (h : a ≠ b) :
    (s.setBit a i x).fld b lo n = s.fld b lo n := State.fld_setFld_ne _ _ _ _ _ _ _ _ h

theorem State.dmaCounts_tail (s : State) (c : Nat) (e : DmaEntry) : (s.dmaCounts c e).fld (Reg.DPORT_DMA_TAIL c) 0 15 =
    (s.fld (Reg.DPORT_DMA_TAIL c) 0 15 + 1) % 2 ^ s.fld (Reg.DPORT_DMA_CFG c) 4 4 % 2 ^ 15 := by
  obtain ⟨hcfg, htail⟩ := Reg.DPORT_DMA_ne c
  rw [State.dmaCounts, State.incFld, State.fld_setFld_ne _ _ _ _ _ _ _ _ htail, State.fld_setFld_self _ _ _ _ _ (by decide),
    State.dmaWriteBack_fld, State.fld_setFld_ne _ _ _ _ _ _ _ _ hcfg, State.fld_setBit_ne _ _ _ _ _ hcfg]

theorem State.dmaCounts_done (s : State) (c : Nat) (e : DmaEntry) : (s.dmaCounts c e).fld (Reg.DPORT_DMA_STAT c) 16 16 =
    min 65535 (s.fld (Reg.DPORT_DMA_STAT c) 16 16 + 1) := by
  obtain ⟨-, htail⟩ := Reg.DPORT_DMA_ne c
  rw [State.dmaCounts, State.fld_incFld_self _ _ _ _ _ (by decide), State.fld_setFld_ne _ _ _ _ _ _ _ _ htail.symm,
    State.dmaWriteBack_fld, State.fld_setFld_same _ _ _ _ _ _ _ (by decide), State.setBit, State.fld_setFld_same _ _ _ _ _ _ _ (by decide)]
  rfl

theorem State.dmaCounts_status (s : State) (c : Nat) (e : DmaEntry) : (s.dmaCounts c e).fld (Reg.DPORT_DMA_STAT c) 8 8 = 0 := by
  obtain ⟨-, htail⟩ := Reg.DPORT_DMA_ne c
  rw [State.dmaCounts, State.incFld, State.fld_setFld_same _ _ _ _ _ _ _ (by decide), State.fld_setFld_ne _ _ _ _ _ _ _ _ htail.symm,
    State.dmaWriteBack_fld, State.fld_setFld_self _ _ _ _ _ (by decide)]
  rfl

theorem State.sameRegs_dmaCounts (s : State) (c : Nat) (e : DmaEntry) :
    SameRegs s (s.dmaCounts c e) [Reg.DPORT_DMA_TAIL c, Reg.DPORT_DMA_STAT c] := by
  have hstat : Reg.DPORT_DMA_STAT c ∈ [Reg.DPORT_DMA_TAIL c, Reg.DPORT_DMA_STAT c] := by simp
  have hback : SameRegs s (((s.setBit (Reg.DPORT_DMA_STAT c) 0 false).setFld (Reg.DPORT_DMA_STAT c) 8 8 0).dmaWriteBack c
      (s.fld (Reg.DPORT_DMA_TAIL c) 0 15) e 0) [Reg.DPORT_DMA_TAIL c, Reg.DPORT_DMA_STAT c] :=
    fun a ha => (State.dmaWriteBack_reg _ _ _ _ _ a).trans ((((SameRegs.refl s _).setReg hstat _).setReg hstat _) a ha)
  exact (hback.setReg List.mem_cons_self _).setReg hstat _

theorem State.dmaCounts_hbm (s : State) (c : Nat) (e : DmaEntry) : (s.dmaCounts c e).hbm = s.hbm := rfl

theorem State.dmaCounts_raised (s : State) (c : Nat) (e : DmaEntry) : (s.dmaCounts c e).raised = s.raised := rfl

theorem State.fld_dmaKick (s : State) (c a : Nat) {lo n : Nat} (h : a ≠ Reg.DPORT_DMA_STAT c ∨ 1 ≤ lo) :
    (s.dmaKick c).fld a lo n = s.fld a lo n := by
  rcases s.dmaKick_cases c with hkick | hkick
  · rw [hkick]
    rcases h with hne | hlo
    · exact State.fld_setBit_ne _ _ _ _ _ hne.symm
    · exact State.fld_setFld_outside _ _ _ _ _ _ (Or.inr hlo)
  · rw [hkick]

theorem State.dmaKick_keeps {β : Type} {g : State → β} (h : ∀ (s : State) (a v : Nat) (b : Bool), g (s.setBit a v b) = g s) (s : State) (c : Nat) :
    g (s.dmaKick c) = g s := by
  rcases s.dmaKick_cases c with hkick | hkick
  · rw [hkick, h]
  · rw [hkick]

theorem State.sameRegs_dmaKick (s : State) (c : Nat) : SameRegs s (s.dmaKick c) [Reg.DPORT_DMA_STAT c] := by
  rcases s.dmaKick_cases c with hkick | hkick
  · rw [hkick]
    exact (SameRegs.refl s _).setReg List.mem_cons_self _
  · rw [hkick]
    exact SameRegs.refl s _

/-! ## A failed entry -/

/-- A device-to-host entry has failed: the channel stops. -/
def State.dmaStops (s : State) (c : Nat) (e : DmaEntry) (status : Nat) : State :=
  let tail := s.fld (Reg.DPORT_DMA_TAIL c) 0 15
  (((((s.setBit (Reg.DPORT_DMA_STAT c) 0 false).setFld (Reg.DPORT_DMA_STAT c) 8 8 status).dmaWriteBack c tail e status).setBit
    (Reg.DPORT_DMA_CFG c) 0 false).refreshRun).raise Ev.DPORT_DMA_ERROR [c, tail, status]

theorem State.dmaEnd_bad {s : State} {c : Nat} {e : DmaEntry} (hread : e.ctl.bit 0 = true) : s.dmaEnd c e 1 = s.dmaStops c e 1 := by
  simp only [State.dmaEnd, State.dmaStop, hread, one_ne_zero, if_false, if_true]
  rfl

theorem State.sameRegs_dmaStops (s : State) (c : Nat) (e : DmaEntry) (status : Nat) :
    SameRegs s (s.dmaStops c e status) [Reg.DPORT_DMA_CFG c, Reg.DPORT_DMA_STAT c, Reg.DPORT_STAT] := by
  have hstat : Reg.DPORT_DMA_STAT c ∈ [Reg.DPORT_DMA_CFG c, Reg.DPORT_DMA_STAT c, Reg.DPORT_STAT] := by simp
  have hback : SameRegs s (((s.setBit (Reg.DPORT_DMA_STAT c) 0 false).setFld (Reg.DPORT_DMA_STAT c) 8 8 status).dmaWriteBack c
      (s.fld (Reg.DPORT_DMA_TAIL c) 0 15) e status) [Reg.DPORT_DMA_CFG c, Reg.DPORT_DMA_STAT c, Reg.DPORT_STAT] :=
    fun a ha => (State.dmaWriteBack_reg _ _ _ _ _ a).trans ((((SameRegs.refl s _).setReg hstat _).setReg hstat _) a ha)
  exact (hback.setReg List.mem_cons_self _).setReg (by simp) _

/-- A register that DPORT_STAT is not reads through the refresh of RUN and the event. -/
theorem State.reg_dmaStops (s : State) (c : Nat) (e : DmaEntry) (status : Nat) {a : Nat} (h : Reg.DPORT_STAT ≠ a) :
    (s.dmaStops c e status).reg a = ((((s.setBit (Reg.DPORT_DMA_STAT c) 0 false).setFld (Reg.DPORT_DMA_STAT c) 8 8 status).dmaWriteBack c
      (s.fld (Reg.DPORT_DMA_TAIL c) 0 15) e status).setBit (Reg.DPORT_DMA_CFG c) 0 false).reg a := by
  rw [State.dmaStops, State.reg_raise, State.refreshRun, State.reg_setFld_ne _ _ _ _ _ _ h]

theorem Reg.DPORT_STAT_ne (c : Nat) : Reg.DPORT_STAT ≠ Reg.DPORT_DMA_CFG c ∧ Reg.DPORT_STAT ≠ Reg.DPORT_DMA_STAT c := by
  simp only [Reg.DPORT_STAT, Reg.DPORT_DMA_CFG, Reg.DPORT_DMA_STAT]
  omega

theorem State.dmaStops_off (s : State) (c : Nat) (e : DmaEntry) (status : Nat) :
    (s.dmaStops c e status).bit (Reg.DPORT_DMA_CFG c) 0 = false := by
  rw [State.bit, State.reg_dmaStops _ _ _ _ (Reg.DPORT_STAT_ne c).1]
  exact State.bit_setBit_self _ _ _ _ (by decide)

theorem State.dmaStops_status (s : State) (c : Nat) (e : DmaEntry) :
    (s.dmaStops c e 1).fld (Reg.DPORT_DMA_STAT c) 8 8 = 1 := by
  rw [State.fld, State.reg_dmaStops _ _ _ _ (Reg.DPORT_STAT_ne c).2, ← State.fld,
    State.fld_setBit_ne _ _ _ _ _ (Reg.DPORT_DMA_ne c).1.symm, State.dmaWriteBack_fld, State.fld_setFld_self _ _ _ _ _ (by decide)]
  rfl

theorem State.dmaStops_idle (s : State) (c : Nat) (e : DmaEntry) (status : Nat) :
    (s.dmaStops c e status).bit (Reg.DPORT_DMA_STAT c) 0 = false := by
  rw [State.bit, State.reg_dmaStops _ _ _ _ (Reg.DPORT_STAT_ne c).2, ← State.bit, State.bit_setBit_ne _ _ _ _ _ _ (Reg.DPORT_DMA_ne c).1.symm,
    State.bit, State.dmaWriteBack_reg, ← State.bit, State.bit_setFld_outside _ _ _ _ _ _ (by decide), State.bit_setBit_self _ _ _ _ (by decide)]

theorem State.dmaStops_hbm (s : State) (c : Nat) (e : DmaEntry) (status : Nat) : (s.dmaStops c e status).hbm = s.hbm := rfl

theorem State.raisedBy_dmaStops (s : State) {c : Nat} (e : DmaEntry) {status : Nat} (hc : c < 4) (hstatus : status < 256) :
    RaisedBy s (s.dmaStops c e status) [(Ev.DPORT_DMA_ERROR, [c, s.fld (Reg.DPORT_DMA_TAIL c) 0 15, status])] := by
  have htail : s.fld (Reg.DPORT_DMA_TAIL c) 0 15 < 2 ^ 15 := Nat.mod_lt _ (by decide)
  have hmod : [c, s.fld (Reg.DPORT_DMA_TAIL c) 0 15, status].map (· % 2 ^ 32) = [c, s.fld (Reg.DPORT_DMA_TAIL c) 0 15, status] := by
    simp only [List.map_cons, List.map_nil, Nat.mod_eq_of_lt (show c < 2 ^ 32 by omega),
      Nat.mod_eq_of_lt (show s.fld (Reg.DPORT_DMA_TAIL c) 0 15 < 2 ^ 32 by omega), Nat.mod_eq_of_lt (show status < 2 ^ 32 by omega)]
  rw [← hmod]
  exact RaisedBy.of_raise rfl _ _

/-! ## The obligation -/

/-- A copied entry leaves its data in HBM, and the channel behind it. -/
theorem exec_dportDmaEntryDone_copies {t : Nat} {c : Fin 4} {e d : List Byte} {s u : State} (hu : s.advance t = u)
    (hbusy : u.bit (Reg.DPORT_DMA_STAT c) 0 = true) (hnone : (u.dmaDecode c).isSome = false) (hgood : (parseDma e).bad = false)
    (hlow : (parseDma e).ctl.field 0 4 = 0) (hquiet : (parseDma e).ctl.bit 10 = false) (hlen : d.length = (parseDma e).length)
    (hrange : u.dportRange (parseDma e).hbm (parseDma e).length = false) : exec (.dportDmaEntryDone t c e d 0) s =
      .next (((u.hbmWrite (parseDma e).hbm d 3).dmaCounts c (parseDma e)).dmaKick c) := by
  have hzero (i : Nat) (hi : i < 4) : (parseDma e).ctl.bit i = false := bit_of_field_zero hlow hi
  have hplain : u.dmaDecodes (parseDma e) 0 = false := by
    rw [State.dmaDecodes, hzero 1 (by decide)]
    rfl
  rw [exec_dportDmaEntryDone_ends hu hbusy hnone hplain, State.dmaRun_copies hgood (hzero 0 (by decide)) (hzero 1 (by decide)) hlen hrange,
    State.dmaEnd_good (hzero 3 (by decide)) hquiet]

/-- What a copied entry leaves behind: its bytes, TAIL moved on, one more entry counted, and no status. -/
theorem State.copied_fields (s : State) (c : Nat) (e : DmaEntry) :
    ((s.dmaCounts c e).dmaKick c).fld (Reg.DPORT_DMA_TAIL c) 0 15 =
      (s.fld (Reg.DPORT_DMA_TAIL c) 0 15 + 1) % 2 ^ s.fld (Reg.DPORT_DMA_CFG c) 4 4 % 2 ^ 15 ∧
    ((s.dmaCounts c e).dmaKick c).fld (Reg.DPORT_DMA_STAT c) 16 16 = min 65535 (s.fld (Reg.DPORT_DMA_STAT c) 16 16 + 1) ∧
    ((s.dmaCounts c e).dmaKick c).fld (Reg.DPORT_DMA_STAT c) 8 8 = 0 :=
  ⟨(State.fld_dmaKick _ _ _ (Or.inl (Reg.DPORT_DMA_ne c).2.symm)).trans (s.dmaCounts_tail c e),
    (State.fld_dmaKick _ _ _ (Or.inr (by decide))).trans (s.dmaCounts_done c e),
    (State.fld_dmaKick _ _ _ (Or.inr (by decide))).trans (s.dmaCounts_status c e)⟩

theorem State.sameRegs_copied (s : State) (c : Nat) (e : DmaEntry) :
    SameRegs s ((s.dmaCounts c e).dmaKick c) [Reg.DPORT_DMA_TAIL c, Reg.DPORT_DMA_STAT c] :=
  (s.sameRegs_dmaCounts c e).trans ((State.sameRegs_dmaKick _ c).mono (by simp))

theorem State.copied_hbm (s : State) (c : Nat) (e : DmaEntry) : ((s.dmaCounts c e).dmaKick c).hbm = s.hbm :=
  (State.dmaKick_keeps (g := State.hbm) (fun _ _ _ _ => rfl) _ c).trans (s.dmaCounts_hbm c e)

theorem State.copied_raised (s : State) (c : Nat) (e : DmaEntry) : ((s.dmaCounts c e).dmaKick c).raised = s.raised :=
  (State.dmaKick_keeps (g := State.raised) (fun _ _ _ _ => rfl) _ c).trans (s.dmaCounts_raised c e)

theorem State.sameRegs_hbmWrite (s : State) (a tg : Nat) (bs : List Byte) (l : List Nat) : SameRegs s (s.hbmWrite a bs tg) l :=
  fun r _ => State.reg_congr (s.hbmWrite_regs a tg bs) r

theorem State.fld_hbmWrite (s : State) (a tg : Nat) (bs : List Byte) (r lo n : Nat) : (s.hbmWrite a bs tg).fld r lo n = s.fld r lo n :=
  congrArg (Word.field · lo n) (State.reg_congr (s.hbmWrite_regs a tg bs) r)

theorem exec_dportDmaEntryDone_stores {t : Nat} {c : Fin 4} {e d : List Byte} {s u : State} (hu : s.advance t = u)
    (hbusy : u.bit (Reg.DPORT_DMA_STAT c) 0 = true) (hnone : (u.dmaDecode c).isSome = false) (hgood : (parseDma e).bad = false)
    (hlow : (parseDma e).ctl.field 0 4 = 0) (hquiet : (parseDma e).ctl.bit 10 = false) (hlen : d.length = (parseDma e).length)
    (hrange : u.dportRange (parseDma e).hbm (parseDma e).length = false) :
    ∃ n : State, exec (.dportDmaEntryDone t c e d 0) s = .next n ∧
      (∀ i : Nat, i < d.length → n.byte ((parseDma e).hbm + i) = d.getD i 0) ∧
      (∀ a : Nat, a < (parseDma e).hbm ∨ (parseDma e).hbm + d.length ≤ a → n.byte a = u.byte a) ∧
      n.fld (Reg.DPORT_DMA_TAIL c) 0 15 =
        (u.fld (Reg.DPORT_DMA_TAIL c) 0 15 + 1) % 2 ^ u.fld (Reg.DPORT_DMA_CFG c) 4 4 % 2 ^ 15 ∧
      n.fld (Reg.DPORT_DMA_STAT c) 16 16 = min 65535 (u.fld (Reg.DPORT_DMA_STAT c) 16 16 + 1) ∧
      n.fld (Reg.DPORT_DMA_STAT c) 8 8 = 0 ∧ SameRegs u n [Reg.DPORT_DMA_TAIL c, Reg.DPORT_DMA_STAT c] ∧ n.raised = u.raised := by
  refine ⟨_, exec_dportDmaEntryDone_copies hu hbusy hnone hgood hlow hquiet hlen hrange, ?_⟩
  generalize parseDma e = x
  obtain ⟨htail, hdone, hstatus⟩ := (u.hbmWrite x.hbm d 3).copied_fields c x
  rw [State.fld_hbmWrite, State.fld_hbmWrite] at htail
  rw [State.fld_hbmWrite] at hdone
  have hbyte := State.byte_congr ((u.hbmWrite x.hbm d 3).copied_hbm c x)
  refine ⟨fun i hi => (hbyte _).trans (u.byte_hbmWrite_inside _ _ hi), fun a ha => (hbyte a).trans (u.byte_hbmWrite_outside _ ha), htail, hdone,
    hstatus, (u.sameRegs_hbmWrite _ _ _ _).trans (State.sameRegs_copied _ _ _), (State.copied_raised _ _ _).trans (u.hbmWrite_raised _ _ _)⟩

theorem exec_dportDmaEntryDone_fails {t : Nat} {c : Fin 4} {e d : List Byte} {s u : State} (hu : s.advance t = u)
    (hbusy : u.bit (Reg.DPORT_DMA_STAT c) 0 = true) (hnone : (u.dmaDecode c).isSome = false) (hbad : (parseDma e).bad = true)
    (hread : (parseDma e).ctl.bit 0 = true) : exec (.dportDmaEntryDone t c e d 0) s = .next (u.dmaStops c (parseDma e) 1) := by
  have hplain : u.dmaDecodes (parseDma e) 0 = false := by
    rw [State.dmaDecodes, hbad, Bool.not_true, Bool.and_false, Bool.false_and, Bool.false_and]
  have hruns : u.dmaRun (parseDma e) d 0 = (u, 1) := by
    rw [State.dmaRun, hbad]
    rfl
  rw [exec_dportDmaEntryDone_ends hu hbusy hnone hplain, hruns, State.dmaEnd_bad hread]

/-- Settles O45: TLPs by their bytes and their steps, entries by their copy and by the end of the channel. -/
theorem dataPortsAndDma : Obligations.DataPortsAndDma := by
  unfold Obligations.DataPortsAndDma
  refine ⟨?_, ?_, ?_, ?_, ?_, ?_, ?_, ?_⟩
  · intro t off k p data s u v hu hon hready hperiod hv hrange hlen hk
    subst hv
    exact exec_dportWriteTlp_effect hu hon hready hperiod hrange hlen hk
  · exact fun t off len p s u => exec_dportReadTlp_effect
  · exact fun t off len p s u => exec_dportReadTlp_range
  · exact fun t req p r w s u hu hok => ⟨_, exec_dportPtrWrite_ok hu hok, State.dropPrefetch_gone _ _, State.reg_setReg_self _ _ _,
      (SameRegs.refl u _).setReg List.mem_cons_self _, rfl, rfl⟩
  · exact fun t req c r w s u hu => exec_dportDmaStart_ok hu
  · exact fun c u => State.dmaKick_starts
  · exact fun t c e d s u => exec_dportDmaEntryDone_stores
  · exact fun t c e d s u hu hbusy hnone hbad hread => ⟨_, exec_dportDmaEntryDone_fails hu hbusy hnone hbad hread, u.dmaStops_off c _ 1,
      u.dmaStops_status c _, u.dmaStops_idle c _ 1, u.dmaStops_hbm c _ 1, u.sameRegs_dmaStops c _ 1, u.raisedBy_dmaStops _ c.isLt (by decide)⟩

end Sys2Proof.Machine
end

section
/-! Ethernet reception, cue frames and venue fragments (R340 to R344, R363 to R367). -/

namespace Sys2Proof.Machine

/-! ## Frames -/

/-- Only a datagram has a consumer (Table 17-1). -/
theorem State.consumer_udp {s : State} {x j : Nat} {k : L3} {f : List Byte} (h : s.consumer x k f = some j) :
    ∃ v6 src dst sport dport o, k = .udp v6 src dst sport dport o := by
  have hbound : s.boundEntry x j k f = true := List.find?_some (p := fun n => s.boundEntry x n k f) h
  cases k with
  | udp v6 src dst sport dport o => exact ⟨v6, src, dst, sport, dport, o, rfl⟩
  | _ => exact absurd hbound Bool.false_ne_true

section
variable {t : Nat} {x : Fin 2} {f : List Byte} {ok : Bool} {s u : State} (hu : s.advance t = u)
include hu

theorem exec_ethFrameRx_bad (hon : u.netOn x = true) (hup : u.networkUp = true) (hbad : u.frameOk x f ok = false) :
    exec (.ethFrameRx t x f ok) s = .next (u.incFld (Reg.NET_DROP_CNT x) 0 16 1) := by
  have hrun : exec (.ethFrameRx t x f ok) s = execEthFrameRx t x f ok s := rfl
  rw [hrun, execEthFrameRx, hu]
  simp only [State.receive, hon, hup, hbad, Bool.not_true, Bool.or_self, Bool.false_eq_true, Bool.not_false, if_false, if_true]

/-- A good datagram for the port itself goes to its entry, and is not forwarded (R340, R342). -/
theorem exec_ethFrameRx_own {j : Nat} {v : State} (hon : u.netOn x = true) (hup : u.networkUp = true) (hgood : u.frameOk x f ok = true)
    (hv : u.incFld (Reg.NET_RX_CNT x) 0 32 1 = v) (hready : v.ready = true) (hown : v.ownMac x f = true)
    (hwho : v.consumer x (classify f) f = some j) :
    exec (.ethFrameRx t x f ok) s = .next (v.ingress x (classify f) f true false (some j)) := by
  have hrun : exec (.ethFrameRx t x f ok) s = execEthFrameRx t x f ok s := rfl
  obtain ⟨v6, src, dst, sport, dport, o, hudp⟩ := State.consumer_udp hwho
  rw [hrun, execEthFrameRx, hu, State.receive, hv]
  rw [hudp] at hwho ⊢
  simp only [hon, hup, hgood, hready, hown, hwho, Bool.not_true, Bool.or_self, Bool.false_eq_true, if_false, Bool.true_or, Bool.and_false,
    Bool.true_and, Bool.false_and, Bool.or_false, Option.isSome_some, Bool.or_true, if_true]

end

/-- A datagram that no entry polices reaches its consumer. -/
theorem State.ingress_plain {s : State} {x j : Nat} {f : List Byte} (hwho : s.consumer x (classify f) f = some j)
    (hnone : s.ingressEntry x (classify f) f = none) (hsum : udpSumOk (classify f) f = true) :
    s.ingress x (classify f) f true false (some j) = s.emit (.deliver x (some j)) := by
  obtain ⟨v6, src, dst, sport, dport, o, hudp⟩ := State.consumer_udp hwho
  rw [hudp] at hsum hnone ⊢
  simp only [State.ingress, hnone, State.consume, hsum, Bool.not_true, Bool.and_false, Bool.false_eq_true, if_false, if_true]

/-- A datagram over its stream's rate is dropped. -/
theorem State.ingress_policed {s : State} {x j n : Nat} {f : List Byte} {k : L3} (hentry : s.ingressEntry x k f = some n)
    (hover : s.bucket n x < 3200 * (f.length + 4)) : s.ingress x k f true false (some j) = s.policeDrop n x := by
  have hpolice : s.police n x (f.length + 4) = (false, s.policeDrop n x) := if_neg (by omega)
  simp only [State.ingress, hentry, hpolice, Bool.not_false, if_true]

/-! ## The link level -/

theorem State.checkEthPath_alone {s : State} (h : s.paired = false) : s.checkEthPath = s := by
  rw [State.checkEthPath, h]
  rfl

/-- The level of a link has settled, and is reported. -/
def State.linkSettled (s : State) (x : Nat) : State :=
  ({ s with net := { s.net with change := s.net.change.filter fun d => d.1 != x } } : State).raise Ev.NET_LINK_STATE
    [x, if s.bit (Reg.NET_PORT_STAT x) 0 then 1 else 2]

theorem exec_netLinkSettle_settles {t : Nat} {x : Fin 2} {c : Nat × Nat × Bool} {s u : State} (hu : s.advance t = u)
    (halone : u.paired = false) (hchange : (u.net.change.find? fun d => d.1 == x.val) = some c) (hlong : c.2.1 + ms 10 ≤ u.now)
    (hstill : u.linkMoves x = false) : exec (.netLinkSettle t x) s = .next (u.linkSettled x) := by
  have hrun : exec (.netLinkSettle t x) s = execNetLinkSettle t x s := rfl
  have hnot : ¬(u.now < c.2.1 + ms 10 ∨ u.linkMoves x = true) := by
    rw [hstill, not_or]
    exact ⟨by omega, Bool.false_ne_true⟩
  rw [hrun, execNetLinkSettle, hu]
  simp only [hchange, if_neg hnot]
  rw [State.checkEthPath_alone (by exact halone)]
  rfl

theorem State.raisedBy_linkSettled (s : State) {x : Nat} (hx : x < 2) : RaisedBy s (s.linkSettled x)
    [(Ev.NET_LINK_STATE, [x, if s.bit (Reg.NET_PORT_STAT x) 0 then 1 else 2])] := by
  have hmod : [x, if s.bit (Reg.NET_PORT_STAT x) 0 then 1 else 2].map (· % 2 ^ 32) =
      [x, if s.bit (Reg.NET_PORT_STAT x) 0 then 1 else 2] := by
    have hport : x % 2 ^ 32 = x := Nat.mod_eq_of_lt (by omega)
    split <;> rw [List.map_cons, hport] <;> rfl
  rw [← hmod]
  exact RaisedBy.of_raise rfl _ _

theorem State.change_linkSettled (s : State) (x : Nat) : ((s.linkSettled x).net.change.any fun d => d.1 == x) = false := by
  refine List.any_eq_false.mpr fun d hd hnum => ?_
  have hout := (List.mem_filter.mp hd).2
  simp [beq_iff_eq.mp hnum] at hout

/-! ## Cue frames -/

section
variable {t : Nat} {x : Fin 2} {p : List Byte} {s u : State} (hu : s.advance t = u) (hnet : u.sec.pattern.cueNet.isSome = true)
  (hready : u.ready = true)
include hu hnet hready

theorem exec_networkCueFrame_taken : exec (.networkCueFrame t x p) s = .next (u.cuePayload x p) := by
  have hrun : exec (.networkCueFrame t x p) s = execNetworkCueFrame t x p s := rfl
  have hsome : u.sec.pattern.cueNet.isNone = false := by rw [← Option.not_isSome, hnet, Bool.not_true]
  rw [hrun, execNetworkCueFrame, hu]
  simp only [hsome, State.cueArrives, hready, Bool.false_eq_true, if_false, if_true]

theorem exec_venueFragment_taken : exec (.venueFragment t x p) s = .next (u.cuePayload x p) := by
  have hrun : exec (.venueFragment t x p) s = execVenueFragment t x p s := rfl
  have hsome : u.sec.pattern.cueNet.isNone = false := by rw [← Option.not_isSome, hnet, Bool.not_true]
  rw [hrun, execVenueFragment, hu]
  simp only [hsome, State.cueArrives, hready, Bool.false_eq_true, if_false, if_true]

end

theorem State.cuePayload_bad {s : State} {x : Nat} {p : List Byte} (h : cueHeaderOk p = false) : s.cuePayload x p = s.cueDrop x 1 := by
  rw [State.cuePayload, h]
  rfl

theorem State.cuePayload_cue {s : State} {x : Nat} {p : List Byte} (h : cueHeaderOk p = true) (htype : leAt p 5 1 = 1) :
    s.cuePayload x p = s.networkCue (leAt p 8 2) := by
  simp only [State.cuePayload, h, htype, Bool.not_true, Bool.false_eq_true, if_false, if_true]

theorem State.cuePayload_part {s : State} {x : Nat} {p : List Byte} (h : cueHeaderOk p = true) (htype : leAt p 5 1 = 2) :
    s.cuePayload x p = s.venuePart x p := by
  simp only [State.cuePayload, h, htype, Bool.not_true, Bool.false_eq_true, if_false, OfNat.ofNat_ne_one]

/-- The first dropped frame of a port is reported. -/
def State.cueDropped (s : State) (x reason : Nat) : State :=
  ({ s with net := { s.net with cueDrop := s.net.cueDrop.set x (some s.now, 0) } } : State).raise Ev.NET_CUE_DROP [x, reason, 1]

theorem State.cueDrop_first {s : State} {x : Nat} (h : s.net.cueDrop.getD x (none, 0) = (none, 0)) (reason : Nat) :
    s.cueDrop x reason = s.cueDropped x reason := by
  rw [State.cueDrop, h]
  rfl

theorem State.raisedBy_cueDropped (s : State) {x : Nat} (hx : x < 2) : RaisedBy s (s.cueDropped x 1) [(Ev.NET_CUE_DROP, [x, 1, 1])] := by
  have hmod : [x, 1, 1].map (· % 2 ^ 32) = [x, 1, 1] := by
    rw [List.map_cons, Nat.mod_eq_of_lt (by omega)]
    rfl
  rw [← hmod]
  exact RaisedBy.of_raise rfl _ _

/-! ## Venue fragments -/

/-- The first fragment that fits begins an assembly (R344). -/
theorem State.venuePart_first {s : State} {x : Nat} {p : List Byte} (hnone : s.net.assembly = none)
    (hfits : fragmentFits (leAt p 0xC 4) (p.drop 0x14).length (leAt p 0x10 4) = true)
    (hpart : assembled [(leAt p 0xC 4, p.drop 0x14)] (leAt p 0x10 4) = none) : s.venuePart x p = { s with
      net := { s.net with assembly := some ⟨leAt p 8 2, leAt p 0x10 4, x, s.now, [(leAt p 0xC 4, p.drop 0x14)]⟩ } } := by
  simp only [State.venuePart, hnone, hfits, hpart, Bool.not_true, Bool.false_eq_true, if_false, List.nil_append]

/-- No fragment of the assembly arrives in the cycle in which its time is over. -/
theorem exec_venueAssemblyTimeout_drops {t : Nat} {a : Assembly} {s u : State} (hu : s.advance t = u) (hasm : u.net.assembly = some a)
    (hlate : a.first + ms 100 ≤ u.now)
    (hquiet : (u.sameCycle fun i => match i with | .venueFragment _ _ p => leAt p 8 2 == a.id | _ => false) = false)
    (hpart : assembled a.parts a.total = none) :
    exec (.venueAssemblyTimeout t) s = .next (({ u with net := { u.net with assembly := none } }).cueDrop a.port 3) := by
  have hrun : exec (.venueAssemblyTimeout t) s = execVenueAssemblyTimeout t s := rfl
  rw [hrun, execVenueAssemblyTimeout, hu]
  simp only [hasm]
  refine congrArg Host.Outcome.next (if_neg (not_or.mpr ⟨by omega, ?_⟩))
  rw [List.filterMap_eq_nil_iff.mpr, List.append_nil, hpart]
  · exact Bool.false_ne_true
  · intro i hi
    have hother := List.any_eq_false.mp hquiet i hi
    split
    next c y p =>
      refine if_neg fun ⟨hcycle, _, _, hid⟩ => hother ?_
      exact Bool.and_eq_true_iff.mpr ⟨beq_iff_eq.mpr hcycle, beq_iff_eq.mpr hid⟩
    next => rfl

/-- Settles O42: a frame by the steps of its reception, a cue frame by its type, the timeouts by their cycle. -/
theorem ethernetReception : Obligations.EthernetReception := by
  unfold Obligations.EthernetReception
  refine ⟨?_, ?_, ?_, ?_, ?_, ?_, ?_, ?_, ?_⟩
  · exact fun t x f ok s u hu => exec_ethFrameRx_bad hu
  · intro t j x f ok s u v hu hon hup hgood hv hready hown hwho hnone hsum
    rw [exec_ethFrameRx_own hu hon hup hgood hv hready hown hwho, State.ingress_plain hwho hnone hsum]
  · intro t j n x f ok s u v hu hon hup hgood hv hready hown hwho hentry hover
    rw [exec_ethFrameRx_own hu hon hup hgood hv hready hown hwho, State.ingress_policed hentry hover]
  · exact fun t x c s u hu halone hchange hlong hstill => ⟨_, exec_netLinkSettle_settles hu halone hchange hlong hstill, rfl,
      SameRegs.refl u _, u.change_linkSettled x, u.raisedBy_linkSettled x.isLt⟩
  · intro t x p s u hu hnet hready hheader htype
    rw [exec_networkCueFrame_taken hu hnet hready, State.cuePayload_cue hheader htype]
  · intro n u hnone
    rw [State.networkCue, hnone]
  · intro t x p s u hu hnet hready hheader hfirst
    refine ⟨u.cueDropped x 1, ?_, rfl, SameRegs.refl u _, rfl, rfl, u.raisedBy_cueDropped x.isLt⟩
    rw [exec_networkCueFrame_taken hu hnet hready, State.cuePayload_bad hheader, State.cueDrop_first hfirst]
  · intro t x p s u hu hnet hready hheader htype hnone hfits hpart
    rw [exec_venueFragment_taken hu hnet hready, State.cuePayload_part hheader htype, State.venuePart_first hnone hfits hpart]
  · exact fun t a s u hu => exec_venueAssemblyTimeout_drops hu

end Sys2Proof.Machine
end

section
/-! Egress queues, histograms, counters and windows (R369 to R378). -/

namespace Sys2Proof.Machine

/-! ## Folds over a list without repetition -/

theorem State.each_keeps_mem {α β : Type} {g : State → β} {f : State → α → State} {l : List α} (h : ∀ s, ∀ x ∈ l, g (f s x) = g s) (s : State) :
    g (s.each l f) = g s := by
  induction l generalizing s with
  | nil => rfl
  | cons x l ih =>
    rw [State.each_cons, ih (fun s y hy => h s y (List.mem_cons_of_mem x hy)), h s x List.mem_cons_self]

theorem State.each_preserves {α : Type} {P : State → Prop} {f : State → α → State} (h : ∀ s x, P s → P (f s x)) (l : List α) {s : State}
    (hs : P s) : P (s.each l f) := by
  induction l generalizing s with
  | nil => exact hs
  | cons x l ih => exact ih (h s x hs)

/-- The step of one element turns `P` into `Q`; the steps of the others keep each of them. -/
theorem State.each_once {α : Type} {P Q : State → Prop} {f : State → α → State} {x : α} {l : List α} (hl : l.Nodup) (hx : x ∈ l)
    (hP : ∀ s y, y ≠ x → y ∈ l → P s → P (f s y)) (hat : ∀ s, P s → Q (f s x)) (hQ : ∀ s y, y ≠ x → y ∈ l → Q s → Q (f s y)) {s : State}
    (hs : P s) : Q (s.each l f) := by
  induction l generalizing s with
  | nil => simp at hx
  | cons y l ih =>
    obtain ⟨hout, hrest⟩ := List.nodup_cons.mp hl
    rw [State.each_cons]
    by_cases hyx : y = x
    · subst hyx
      have htail (k : List α) (hk : k ⊆ l) : ∀ n, Q n → Q (n.each k f) := by
        induction k with
        | nil => exact fun _ h => h
        | cons z k ihk =>
          intro n hn
          have hz : z ∈ l := hk List.mem_cons_self
          exact ihk (fun w hw => hk (List.mem_cons_of_mem z hw)) _ (hQ n z (fun heq => hout (heq ▸ hz)) (List.mem_cons_of_mem y hz) hn)
      exact htail l (fun _ h => h) _ (hat s hs)
    · have hin : x ∈ l := (List.mem_cons.mp hx).resolve_left (Ne.symm hyx)
      exact ih hrest hin (fun s z hz hzl => hP s z hz (List.mem_cons_of_mem y hzl)) (fun s z hz hzl => hQ s z hz (List.mem_cons_of_mem y hzl))
        (hP s y hyx List.mem_cons_self hs)

/-! ## A queue behind a settlement -/

theorem getD_set_ite {α : Type} (l : List α) (i j : Nat) (v d : α) :
    (l.set i v).getD j d = if i = j ∧ i < l.length then v else l.getD j d := by
  rw [List.getD_eq_getElem?_getD, List.getElem?_set]
  by_cases hij : i = j
  · by_cases hlen : i < l.length
    · rw [if_pos hij, if_pos hlen, if_pos ⟨hij, hlen⟩]
      rfl
    · have hout : l[j]? = none := List.getElem?_eq_none (by omega)
      rw [if_pos hij, if_neg hlen, if_neg fun h => hlen h.2, List.getD_eq_getElem?_getD, hout]
  · rw [if_neg hij, if_neg fun h => hij h.1, List.getD_eq_getElem?_getD]

theorem State.egress_setEgress_ite (s : State) (x y : Nat) (e : EgressPort) :
    (s.setEgress x e).egress y = if x = y ∧ x < s.traf.ports.length then e else s.egress y := getD_set_ite _ _ _ _ _

theorem State.egress_setEgress {s : State} {x : Nat} (h : x < s.traf.ports.length) (e : EgressPort) : (s.setEgress x e).egress x = e := by
  rw [State.egress_setEgress_ite, if_pos ⟨rfl, h⟩]

/-- `n` is `s` with queues of the ports settled: the frames that wait and those in transmission stand. -/
structure Settled (s n : State) : Prop where
  other : ∃ p, n = { s with traf := { s.traf with ports := p } }
  ports : n.traf.ports.length = s.traf.ports.length
  sending : ∀ x, (n.egress x).sending = (s.egress x).sending
  frames : ∀ x k, ((n.egress x).queue k).frames = ((s.egress x).queue k).frames

theorem Settled.refl (s : State) : Settled s s := ⟨⟨_, rfl⟩, rfl, fun _ => rfl, fun _ _ => rfl⟩

theorem EgressPort.frames_setQueue (e : EgressPort) (q k : Nat) {v : EgressQueue} (hv : v.frames = (e.queue q).frames) :
    ((e.setQueue q v).queue k).frames = (e.queue k).frames := by
  have hqueue : (e.setQueue q v).queue k = if q = k ∧ q < e.queues.length then v else e.queue k := getD_set_ite _ _ _ _ _
  rw [hqueue]
  split
  next h => rw [hv, h.1]
  next => rfl

theorem Settled.setQueue {s n : State} (h : Settled s n) (x q : Nat) {v : EgressQueue} (hv : v.frames = ((n.egress x).queue q).frames) :
    Settled s (n.setEgress x ((n.egress x).setQueue q v)) := by
  obtain ⟨⟨p, hother⟩, hports, hsending, hframes⟩ := h
  refine ⟨⟨_, by rw [State.setEgress, hother]⟩, (List.length_set ..).trans hports, fun y => ?_, fun y k => ?_⟩
  · rw [State.egress_setEgress_ite, ← hsending]
    split
    next hy => rw [← hy.1]; rfl
    next => rfl
  · rw [State.egress_setEgress_ite, ← hframes]
    split
    next hy => rw [EgressPort.frames_setQueue _ _ _ hv, hy.1]
    next => rfl

theorem Settled.settle {s n : State} (h : Settled s n) (x q c : Nat) : Settled s (n.settle x q c) := by
  unfold State.settle
  extract_lets e
  split
  · exact h
  · exact h.setQueue x q rfl

theorem State.settled_settlePort (s : State) (x c : Nat) : Settled s (s.settlePort x c) :=
  State.each_preserves (fun _ q h => h.settle x q c) _ (Settled.refl s)

/-! ## Service -/

theorem State.serve_none {s : State} {x c : Nat} (hidle : (s.egress x).sending = none)
    (hnone : ((List.range 8).any fun k => s.eligibleQueue x k c) = false) : s.serve x c = s := by
  have hfind : ((List.range 8).reverse.find? fun k => s.eligibleQueue x k c) = none :=
    List.find?_eq_none.mpr fun k hk => List.any_eq_false.mp hnone k (List.mem_reverse.mp hk)
  rw [State.serve, hidle, hfind]
  rfl

theorem State.traf_tcCorrect (s : State) (x units : Nat) (f : QFrame) : (s.tcCorrect x units f).2.traf = s.traf := by
  unfold State.tcCorrect
  split
  · extract_lets
    split
    · rfl
    · split
      · rfl
      · split
        · rfl
        · split
          · split
            · rfl
            · rfl
          · rfl
  · rfl

/-- A port whose queue has a frame exists. -/
theorem State.port_of_frame {s : State} {x q : Nat} {f : QFrame} (h : nextFrame ((s.egress x).queue q).frames = some f) :
    x < s.traf.ports.length := by
  by_contra hout
  have hport : s.egress x = {} := by
    rw [State.egress, List.getD_eq_getElem?_getD, List.getElem?_eq_none (by omega)]
    rfl
  have hempty : ((s.egress x).queue q).frames = [] := by
    have hqueue : (({} : EgressPort).queue q) = {} := by
      rw [EgressPort.queue, List.getD_eq_getElem?_getD, List.getElem?_replicate]
      split
      · rfl
      · rfl
    rw [hport, hqueue]
  rw [hempty] at h
  cases h

/-- Of the queues that may be served the one of the highest number sends its next frame (R370, R376). -/
theorem State.serve_sends {s : State} {x c q : Nat} {f : QFrame} (hidle : (s.egress x).sending = none)
    (hfind : ((List.range 8).reverse.find? fun k => s.eligibleQueue x k c) = some q)
    (hnext : nextFrame ((s.egress x).queue q).frames = some f) :
    ((s.serve x c).egress x).sending = some (q, c, c + wireUnits f.bytes.length) := by
  have hport := State.port_of_frame hnext
  obtain ⟨-, hlen, -, hframes⟩ := s.settled_settlePort x c
  rw [← hframes] at hnext
  unfold State.serve
  extract_lets e v e1 cyc
  rw [if_neg (by rw [hidle]; exact Bool.false_ne_true), hfind]
  dsimp only
  rw [hnext]
  dsimp only
  have htraf : (v.tcCorrect x c f).2.traf = v.traf := v.traf_tcCorrect x c f
  generalize hp : v.tcCorrect x c f = p at htraf
  obtain ⟨bytes, n⟩ := p
  dsimp only at htraf ⊢
  have hset : (State.egress (n.setEgress x { (e1.setQueue q { (e1.queue q) with
      frames := (e1.queue q).frames.erase f, vtime := f.start,
      left := (if (e1.queue q).leftAt = cyc then (e1.queue q).left else []) ++ [f], leftAt := cyc }) with
      sending := some (q, c, c + wireUnits f.bytes.length) }) x).sending = some (q, c, c + wireUnits f.bytes.length) := by
    rw [State.egress_setEgress (by rw [htraf]; exact hport.trans_eq hlen.symm)]
  split
  · exact hset
  · exact hset

/-- An empty queue may not be served. -/
theorem State.eligibleQueue_empty {s : State} {x q : Nat} (h : ((s.egress x).queue q).frames = []) (c : Nat) :
    s.eligibleQueue x q c = false := by
  rw [State.eligibleQueue, h]
  rfl

/-- The frame of a port that transmits is over. -/
def State.portIdle (s : State) (x fin : Nat) : State := (s.settlePort x fin).setEgress x { (s.settlePort x fin).egress x with sending := none }

theorem State.egress_portIdle {s : State} {x : Nat} (h : x < s.traf.ports.length) (fin : Nat) :
    (s.portIdle x fin).egress x = { (s.settlePort x fin).egress x with sending := none } := by
  obtain ⟨-, hlen, -, -⟩ := s.settled_settlePort x fin
  exact State.egress_setEgress (h.trans_eq hlen.symm) _

theorem State.portIdle_eq (s : State) (x fin : Nat) : ∃ p, s.portIdle x fin = { s with traf := { s.traf with ports := p } } := by
  obtain ⟨⟨p, hother⟩, -, -, -⟩ := s.settled_settlePort x fin
  exact ⟨_, by rw [State.portIdle, State.setEgress, hother]⟩

/-- A port with nothing to send falls idle at the end of its frame (R370). -/
theorem exec_trafEgressDone_idle {t q c fin : Nat} {x : Fin 2} {s u : State} (hu : s.advance t = u)
    (hsending : (u.egress x).sending = some (q, c, fin)) (hends : fin < unitsOf (u.now + 1))
    (hempty : ((List.range 8).all fun k => ((u.egress x).queue k).frames.isEmpty) = true) (hport : x.val < u.traf.ports.length) :
    exec (.trafEgressDone t x) s = .next (u.portIdle x fin) := by
  have hrun : exec (.trafEgressDone t x) s = execTrafEgressDone t x s := rfl
  obtain ⟨-, -, -, hframes⟩ := u.settled_settlePort x fin
  have hnone : ((List.range 8).any fun k => (u.portIdle x fin).eligibleQueue x k fin) = false := by
    refine List.any_eq_false.mpr fun k hk => ?_
    have hqueue : (((u.portIdle x fin).egress x).queue k).frames = [] := by
      rw [State.egress_portIdle hport]
      exact (hframes x k).trans (List.isEmpty_iff.mp (List.all_eq_true.mp hempty k hk))
    rw [State.eligibleQueue_empty hqueue]
    exact Bool.false_ne_true
  have hserve := State.serve_none (by rw [State.egress_portIdle hport]) hnone
  rw [hrun, execTrafEgressDone, hu]
  simp only [hsending, if_neg (Nat.not_le.mpr hends)]
  exact congrArg Host.Outcome.next hserve

/-- A queue whose credit is 0 competes at this cycle's start (R372). -/
theorem exec_shapedQueueEligible_now {t : Nat} {x : Fin 2} {q : Fin 8} {s u : State} (hu : s.advance t = u)
    (hcredit : ((u.egress x).queue q).credit = 0) (hat : ((u.egress x).queue q).at_ = unitsOf u.now) :
    exec (.shapedQueueEligible t x q) s = .next (u.serve x (unitsOf u.now)) := by
  have hrun : exec (.shapedQueueEligible t x q) s = execShapedQueueEligible t x q s := rfl
  have hzero : u.zeroCross x q = unitsOf u.now := by
    rw [State.zeroCross, hcredit, hat]
    exact if_pos (Or.inl (le_refl _))
  have hlast : unitsOf u.now ≤ unitsOf (u.now + 1) - 1 := by
    simp only [unitsOf]
    omega
  rw [hrun, execShapedQueueEligible, hu]
  simp only [hzero, hat, max_self, min_eq_right hlast]

/-! ## The window of a stream -/

theorem State.deWindow_setWindow (s : State) (n : Nat) (w : DeWindow) : (s.setWindow n w).deWindow n = w := by
  have hnone : (s.traf.windows.filter fun v => v.1 != n).find? (fun v => v.1 == n) = none := by
    refine List.find?_eq_none.mpr fun v hv hnum => ?_
    have hout := (List.mem_filter.mp hv).2
    simp [beq_iff_eq.mp hnum] at hout
  have hfind : (s.setWindow n w).traf.windows.find? (fun v => v.1 == n) = some (n, w) := by
    simp [State.setWindow, List.find?_append, hnone]
  rw [State.deWindow, hfind]

theorem exec_trafDeTimeout_resets {t : Nat} {k : Fin 256} {s u : State} (hu : s.advance t = u) (hfresh : (u.deWindow k).fresh = false)
    (hnone : u.frameNow 0 k (fun _ _ => true) = false) (hnone' : u.frameNow 1 k (fun _ _ => true) = false)
    (hlate : (u.deWindow k).last + ms (u.fld (Reg.TRAF_IN_CFG k) 8 8) ≤ u.now) :
    exec (.trafDeTimeout t k) s = .next (u.resetWindow k) := by
  have hrun : exec (.trafDeTimeout t k) s = execTrafDeTimeout t k s := rfl
  rw [hrun, execTrafDeTimeout, hu]
  refine congrArg Host.Outcome.next (if_neg ?_)
  rw [hfresh, hnone, hnone']
  simp only [Bool.false_eq_true, false_or, or_false, Nat.not_lt]
  exact hlate

/-! ## CLEAR_HIST and CLEAR_CNT -/

theorem mapGet_filter {α : Type} (p : Nat → Bool) (m : List (Nat × α)) (a : Nat) :
    mapGet (m.filter fun x => p x.1) a = if p a then mapGet m a else none := by
  induction m with
  | nil => simp
  | cons x m ih =>
    obtain ⟨k, v⟩ := x
    rw [List.filter_cons, mapGet_cons]
    by_cases hk : k = a
    · subst hk
      by_cases hp : p k = true
      · simp [hp, mapGet_cons]
      · simp [hp, ih]
    · by_cases hp : p k = true
      · simp [hp, mapGet_cons, hk, ih]
      · simp [hp, hk, ih]

/-- Registers of a range return to their reset values. -/
theorem State.reg_resetRange (s : State) (lo hi a : Nat) : (s.resetRange lo hi).reg a = if lo ≤ a ∧ a < hi then resetWord a else s.reg a := by
  have hget : mapGet (s.resetRange lo hi).regs a = if (decide (a < lo) || decide (hi ≤ a)) = true then mapGet s.regs a else none :=
    mapGet_filter (fun k => decide (k < lo) || decide (hi ≤ k)) s.regs a
  rw [State.reg, hget]
  by_cases hin : lo ≤ a ∧ a < hi
  · rw [if_pos hin, if_neg (by simp; omega)]
    rfl
  · rw [if_neg hin, if_pos (by simp; omega), State.reg]

/-- Counters that a list of writes sets to 0. -/
theorem State.nat_setReg_zero {s : State} {a : Nat} (b : Nat) (h : s.nat a = 0) : (s.setReg b 0).nat a = 0 := by
  by_cases hb : b = a
  · rw [hb, State.nat, State.reg_setReg_self]
    rfl
  · rw [State.nat, State.reg_setReg_ne _ _ _ _ hb, ← State.nat, h]

theorem State.nat_setReg_self_zero (s : State) (a : Nat) : (s.setReg a 0).nat a = 0 := by
  rw [State.nat, State.reg_setReg_self]
  rfl

def State.clearDrops (s : State) : State := s.each [0, 1] fun s x => s.each (List.range 8) fun s q => s.setReg (Reg.TRAF_QDROP x q) 0

def State.clearOut (s : State) : State := s.each [0, 1] fun s x => s.each (List.range 32) fun s k => s.setReg (Reg.TRAF_OUT_STAT x k) 0

/-- The counters of one ingress entry, but SEQ, are cleared. -/
def State.clearEntry (s : State) (i : Nat) : State :=
  (((s.setReg (Reg.TRAF_IN_CNT i 0) 0).setReg (Reg.TRAF_IN_CNT i 1) 0).setReg (Reg.TRAF_IN_CNT i 2) 0).setFld (Reg.TRAF_IN_CNT i 3) 16 16 0

def State.clearIn (s : State) : State := s.each (List.range 256) State.clearEntry

section
variable {t : Nat} {req : Requester} {s u : State} (hu : s.advance t = u)
include hu

theorem exec_trafCtlClearHist_ok (hok : u.accepts req Reg.TRAF_CTL 2) :
    exec (.trafCtlClearHist t req) s = .next (u.resetRange (Reg.TRAF_HIST 0 0 0 0) (Reg.TRAF_HIST 2 0 0 0)) := by
  have hrun : exec (.trafCtlClearHist t req) s = execTrafCtlClearHist t req s := rfl
  rw [hrun, execTrafCtlClearHist, hu, State.control_ok hok (by decide)]

theorem exec_trafCtlClearCnt_ok (hok : u.accepts req Reg.TRAF_CTL 1) :
    exec (.trafCtlClearCnt t req) s = .next u.clearDrops.clearOut.clearIn := by
  have hrun : exec (.trafCtlClearCnt t req) s = execTrafCtlClearCnt t req s := rfl
  rw [hrun, execTrafCtlClearCnt, hu, State.control_ok hok (by decide)]
  rfl

end

theorem mem_pair {x : Nat} (h : x < 2) : x ∈ [0, 1] := by
  have hcases : x = 0 ∨ x = 1 := by omega
  rcases hcases with rfl | rfl <;> decide

/-- A register that one of a table of writes clears reads 0 behind the table. -/
theorem State.nat_clearTable {f : Nat → Nat → Nat} {l k : List Nat} {x q : Nat} (hx : x ∈ l) (hq : q ∈ k) (s : State) :
    (s.each l fun s x => s.each k fun s q => s.setReg (f x q) 0).nat (f x q) = 0 := by
  have hstep (s : State) (y z : Nat) (h : s.nat (f x q) = 0) : (s.setReg (f y z) 0).nat (f x q) = 0 := State.nat_setReg_zero _ h
  refine State.each_establishes (P := fun s => s.nat (f x q) = 0) hx (fun s => ?_) (fun s y h => ?_) s
  · exact State.each_establishes (P := fun s => s.nat (f x q) = 0) hq (fun s => s.nat_setReg_self_zero _) (fun s z h => hstep s x z h) s
  · exact State.each_preserves (P := fun s => s.nat (f x q) = 0) (fun s z h => hstep s y z h) k h

theorem State.nat_clearDrops (s : State) {x q : Nat} (hx : x < 2) (hq : q < 8) : s.clearDrops.nat (Reg.TRAF_QDROP x q) = 0 :=
  State.nat_clearTable (f := Reg.TRAF_QDROP) (mem_pair hx) (List.mem_range.mpr hq) s

theorem State.nat_clearOut (s : State) {x k : Nat} (hx : x < 2) (hk : k < 32) : s.clearOut.nat (Reg.TRAF_OUT_STAT x k) = 0 :=
  State.nat_clearTable (f := Reg.TRAF_OUT_STAT) (mem_pair hx) (List.mem_range.mpr hk) s

/-- Counters of the drops and of the egress streams lie below those of the entries. -/
theorem State.reg_clearIn_ne (s : State) {a : Nat} (h : a < Reg.TRAF_IN_CNT 0 0) : s.clearIn.reg a = s.reg a := by
  refine State.each_keeps (g := fun s => s.reg a) (fun s i => ?_) s _
  have hne (j : Nat) : Reg.TRAF_IN_CNT i j ≠ a := by
    simp only [Reg.TRAF_IN_CNT] at h ⊢
    omega
  rw [State.clearEntry, State.reg_setFld_ne _ _ _ _ _ _ (hne 3), State.reg_setReg_ne _ _ _ _ (hne 2), State.reg_setReg_ne _ _ _ _ (hne 1),
    State.reg_setReg_ne _ _ _ _ (hne 0)]

theorem State.reg_clearOut_ne (s : State) {a : Nat} (h : ∀ x k, x < 2 → k < 32 → Reg.TRAF_OUT_STAT x k ≠ a) : s.clearOut.reg a = s.reg a := by
  refine State.each_keeps_mem (g := fun s => s.reg a) (fun s x hx => ?_) s
  refine State.each_keeps_mem (g := fun s => s.reg a) (fun s k hk => ?_) s
  have hx2 : x < 2 := by
    simp at hx
    omega
  exact State.reg_setReg_ne _ _ _ _ (h x k hx2 (List.mem_range.mp hk))

theorem State.reg_clearDrops_ne (s : State) {a : Nat} (h : ∀ x q, x < 2 → q < 8 → Reg.TRAF_QDROP x q ≠ a) : s.clearDrops.reg a = s.reg a := by
  refine State.each_keeps_mem (g := fun s => s.reg a) (fun s x hx => ?_) s
  refine State.each_keeps_mem (g := fun s => s.reg a) (fun s q hq => ?_) s
  have hx2 : x < 2 := by
    simp at hx
    omega
  exact State.reg_setReg_ne _ _ _ _ (h x q hx2 (List.mem_range.mp hq))

theorem Reg.TRAF_IN_CNT_ne {i j k l : Nat} (hj : j < 4) (hl : l < 4) (h : j ≠ l) : Reg.TRAF_IN_CNT i j ≠ Reg.TRAF_IN_CNT k l := by
  simp only [Reg.TRAF_IN_CNT]
  omega

/-- A counter of an entry that stands at 0 stays there, and the entry's own clearing sets it. -/
theorem State.nat_clearEntry_keeps {s : State} {k j : Nat} (hj : j < 3) (i : Nat) (h : s.nat (Reg.TRAF_IN_CNT k j) = 0) :
    (s.clearEntry i).nat (Reg.TRAF_IN_CNT k j) = 0 := by
  rw [State.clearEntry, State.nat, State.reg_setFld_ne _ _ _ _ _ _ (Reg.TRAF_IN_CNT_ne (by decide) (by omega) (by omega)), ← State.nat]
  exact State.nat_setReg_zero _ (State.nat_setReg_zero _ (State.nat_setReg_zero _ h))

theorem State.nat_clearEntry_self (s : State) {j : Nat} (hj : j < 3) (i : Nat) : (s.clearEntry i).nat (Reg.TRAF_IN_CNT i j) = 0 := by
  rw [State.clearEntry, State.nat, State.reg_setFld_ne _ _ _ _ _ _ (Reg.TRAF_IN_CNT_ne (by decide) (by omega) (by omega)), ← State.nat]
  have hcases : j = 0 ∨ j = 1 ∨ j = 2 := by omega
  rcases hcases with rfl | rfl | rfl
  · exact State.nat_setReg_zero _ (State.nat_setReg_zero _ (State.nat_setReg_self_zero _ _))
  · exact State.nat_setReg_zero _ (State.nat_setReg_self_zero _ _)
  · exact State.nat_setReg_self_zero _ _

theorem State.nat_clearIn (s : State) {i j : Nat} (hi : i < 256) (hj : j < 3) : s.clearIn.nat (Reg.TRAF_IN_CNT i j) = 0 :=
  State.each_establishes (P := fun s => s.nat (Reg.TRAF_IN_CNT i j) = 0) (List.mem_range.mpr hi) (fun s => s.nat_clearEntry_self hj i)
    (fun _ k h => State.nat_clearEntry_keeps hj k h) s

/-- SEQ of an entry stands, and what lies above it is cleared. -/
theorem State.fld_clearEntry (s : State) (k i lo n : Nat) : (s.clearEntry k).fld (Reg.TRAF_IN_CNT i 3) lo n =
    (s.setFld (Reg.TRAF_IN_CNT k 3) 16 16 0).fld (Reg.TRAF_IN_CNT i 3) lo n := by
  have hne (j : Nat) (hj : j < 3) : Reg.TRAF_IN_CNT k j ≠ Reg.TRAF_IN_CNT i 3 := Reg.TRAF_IN_CNT_ne (by omega) (by decide) (by omega)
  by_cases hk : Reg.TRAF_IN_CNT k 3 = Reg.TRAF_IN_CNT i 3
  · rw [State.clearEntry, hk, State.fld, State.setFld, State.reg_setReg_self, State.fld, State.setFld, State.reg_setReg_self,
      State.reg_setReg_ne _ _ _ _ (hne 2 (by decide)), State.reg_setReg_ne _ _ _ _ (hne 1 (by decide)),
      State.reg_setReg_ne _ _ _ _ (hne 0 (by decide))]
  · rw [State.clearEntry, State.fld_setFld_ne _ _ _ _ _ _ _ _ hk, State.fld_setFld_ne _ _ _ _ _ _ _ _ hk, State.fld,
      State.reg_setReg_ne _ _ _ _ (hne 2 (by decide)), State.reg_setReg_ne _ _ _ _ (hne 1 (by decide)),
      State.reg_setReg_ne _ _ _ _ (hne 0 (by decide)), State.fld]

theorem State.seq_clearIn (s : State) (i : Nat) : s.clearIn.fld (Reg.TRAF_IN_CNT i 3) 0 16 = s.fld (Reg.TRAF_IN_CNT i 3) 0 16 := by
  refine State.each_keeps (g := fun s => s.fld (Reg.TRAF_IN_CNT i 3) 0 16) (fun s k => ?_) s _
  exact (s.fld_clearEntry k i 0 16).trans (State.fld_setFld_outside _ _ _ _ _ _ (Or.inl (by decide)))

theorem State.rogue_clearIn (s : State) {i : Nat} (hi : i < 256) : s.clearIn.fld (Reg.TRAF_IN_CNT i 3) 16 16 = 0 := by
  refine State.each_establishes (P := fun s => s.fld (Reg.TRAF_IN_CNT i 3) 16 16 = 0) (List.mem_range.mpr hi) (fun s => ?_)
    (fun s k h => ?_) s
  · rw [State.fld_clearEntry, State.fld_setFld_self _ _ _ _ _ (by decide)]
    rfl
  · rw [State.fld_clearEntry]
    by_cases hk : Reg.TRAF_IN_CNT k 3 = Reg.TRAF_IN_CNT i 3
    · rw [hk, State.fld_setFld_self _ _ _ _ _ (by decide)]
      rfl
    · rw [State.fld_setFld_ne _ _ _ _ _ _ _ _ hk, h]

end Sys2Proof.Machine
end

section
/-! Histograms, and the statement of the traffic unit (R370 to R378). -/

namespace Sys2Proof.Machine

/-! ## A sample -/

/-- The frames that a sample of queue `q` of port `x` counts: those that had entered before the cycle of the sample. -/
def State.sampled (s : State) (x q : Nat) : EgressQueue :=
  let v := (s.egress x).queue q
  { v with frames := ((if v.leftAt = s.now then v.left else []) ++ v.frames).filter fun (f : QFrame) => f.at_ < s.now }

/-- Age of the oldest frame that a sample counts, in ns. -/
def State.sampledAge (s : State) (x q : Nat) : Nat :=
  match (s.sampled x q).frames with
  | f :: _ => (s.now - f.at_) * 5 / 2
  | [] => 0

/-- The sample of one queue counts in its two histograms. -/
def State.sampleQueue (s : State) (x q : Nat) : State :=
  (s.incFld (Reg.TRAF_HIST x q 0 (histBin (s.fld (Reg.TRAF_PORT_CFG x) 8 4) (s.sampled x q).bytes)) 0 32 1).incFld
    (Reg.TRAF_HIST x q 1 (histBin (s.fld (Reg.TRAF_PORT_CFG x) 16 4) (s.sampledAge x q))) 0 32 1

def State.samplePort (s : State) (x : Nat) : State := s.each (List.range 8) fun s q => s.sampleQueue x q

def State.samplePorts (s : State) : State := s.each [0, 1] State.samplePort

/-- A sample is taken in this cycle. -/
def State.sampleTaken (s : State) : State := { s with traf := { s.traf with histAt := some s.now } }

theorem exec_trafHistSample_due {t : Nat} {s u : State} (hu : s.advance t = u) (hdue : limited u.traf.histAt (ms 1) u.now = false) :
    exec (.trafHistSample t) s = .next u.sampleTaken.samplePorts := by
  have hrun : exec (.trafHistSample t) s = execTrafHistSample t s := rfl
  rw [hrun, execTrafHistSample, hu]
  exact congrArg Host.Outcome.next (if_neg (by rw [hdue]; exact Bool.false_ne_true))

theorem histBin_le (u v : Nat) : histBin u v < 16 := by
  unfold histBin
  split
  · decide
  · omega

theorem Reg.TRAF_HIST_ne {x q k l x' q' k' l' : Nat} (hq : q < 8) (hk : k < 2) (hl : l < 16) (hq' : q' < 8) (hk' : k' < 2) (hl' : l' < 16)
    (h : ¬(x = x' ∧ q = q' ∧ k = k')) : Reg.TRAF_HIST x q k l ≠ Reg.TRAF_HIST x' q' k' l' := by
  simp only [Reg.TRAF_HIST]
  omega

theorem State.fld_incFld_ne (s : State) {a b : Nat} (lo n k lo' n' : Nat) (h : a ≠ b) : (s.incFld a lo n k).fld b lo' n' = s.fld b lo' n' :=
  State.fld_setFld_ne _ _ _ _ _ _ _ _ h

/-- The sample of another queue leaves the bins of this one. -/
theorem State.fld_sampleQueue_ne (s : State) {x q x' q' k : Nat} (hq : q < 8) (hq' : q' < 8) (hk : k < 2) (h : ¬(x' = x ∧ q' = q)) :
    (s.sampleQueue x' q').fld (Reg.TRAF_HIST x q k 0) 0 32 = s.fld (Reg.TRAF_HIST x q k 0) 0 32 := by
  have hne (j l : Nat) (hj : j < 2) (hl : l < 16) : Reg.TRAF_HIST x' q' j l ≠ Reg.TRAF_HIST x q k 0 :=
    Reg.TRAF_HIST_ne hq' hj hl hq hk (by decide) fun ⟨hx, hqq, _⟩ => h ⟨hx, hqq⟩
  rw [State.sampleQueue, State.fld_incFld_ne _ _ _ _ _ _ (hne 1 _ (by decide) (histBin_le _ _)),
    State.fld_incFld_ne _ _ _ _ _ _ (hne 0 _ (by decide) (histBin_le _ _))]

/-- The sample of an empty queue counts in the lowest bin of both histograms. -/
theorem State.fld_sampleQueue_empty {s : State} {x q k : Nat} (hempty : ((s.egress x).queue q).frames = [])
    (hleft : ((s.egress x).queue q).leftAt = s.now → ((s.egress x).queue q).left = []) (hq : q < 8) (hk : k < 2) :
    (s.sampleQueue x q).fld (Reg.TRAF_HIST x q k 0) 0 32 = min (2 ^ 32 - 1) (s.fld (Reg.TRAF_HIST x q k 0) 0 32 + 1) := by
  have hframes : (s.sampled x q).frames = [] := by
    have hgone : (if ((s.egress x).queue q).leftAt = s.now then ((s.egress x).queue q).left else []) = [] := by
      split
      next h => exact hleft h
      next => rfl
    simp only [State.sampled, hgone, hempty, List.append_nil, List.filter_nil]
  have hbytes : (s.sampled x q).bytes = 0 := by rw [EgressQueue.bytes, hframes]; rfl
  have hage : s.sampledAge x q = 0 := by rw [State.sampledAge, hframes]
  have hbin (u : Nat) : histBin u 0 = 0 := if_pos rfl
  rw [State.sampleQueue, hbytes, hage, hbin, hbin]
  have hcases : k = 0 ∨ k = 1 := by omega
  rcases hcases with rfl | rfl
  · rw [State.fld_incFld_ne _ _ _ _ _ _ (Reg.TRAF_HIST_ne hq (by decide) (by decide) hq (by decide) (by decide) (by omega)),
      State.fld_incFld_self _ _ _ _ _ (by decide)]
  · rw [State.fld_incFld_self _ _ _ _ _ (by decide),
      State.fld_incFld_ne _ _ _ _ _ _ (Reg.TRAF_HIST_ne hq (by decide) (by decide) hq (by decide) (by decide) (by omega))]

theorem State.sampleQueue_keeps {β : Type} {g : State → β} (h : ∀ (s : State) (a lo n k : Nat), g (s.incFld a lo n k) = g s) (s : State)
    (x q : Nat) : g (s.sampleQueue x q) = g s := (h _ _ _ _ _).trans (h _ _ _ _ _)

theorem State.samplePort_keeps {β : Type} {g : State → β} (h : ∀ (s : State) (a lo n k : Nat), g (s.incFld a lo n k) = g s) (s : State)
    (x : Nat) : g (s.samplePort x) = g s := State.each_keeps (fun s q => State.sampleQueue_keeps h s x q) s _

theorem State.samplePorts_keeps {β : Type} {g : State → β} (h : ∀ (s : State) (a lo n k : Nat), g (s.incFld a lo n k) = g s) (s : State) :
    g s.samplePorts = g s := State.each_keeps (State.samplePort_keeps h) s _

/-- The queues and the clock are those of `u`, and bin 0 of a histogram stands at `v`. -/
structure BinAt (u : State) (a v : Nat) (s : State) : Prop where
  traf : s.traf = u.traf
  now : s.now = u.now
  bin : s.fld a 0 32 = v

theorem BinAt.sampleQueue {u s : State} {x q k v : Nat} (h : BinAt u (Reg.TRAF_HIST x q k 0) v s) {y z : Nat} (hq : q < 8) (hz : z < 8)
    (hk : k < 2) (hyz : ¬(y = x ∧ z = q)) : BinAt u (Reg.TRAF_HIST x q k 0) v (s.sampleQueue y z) :=
  ⟨(State.sampleQueue_keeps (g := State.traf) (fun _ _ _ _ _ => rfl) s y z).trans h.traf,
    (State.sampleQueue_keeps (g := State.now) (fun _ _ _ _ _ => rfl) s y z).trans h.now,
    (s.fld_sampleQueue_ne hq hz hk hyz).trans h.bin⟩

theorem BinAt.samplePort {u s : State} {x q k v : Nat} (h : BinAt u (Reg.TRAF_HIST x q k 0) v s) {y : Nat} (hq : q < 8) (hk : k < 2)
    (hy : y ≠ x) : BinAt u (Reg.TRAF_HIST x q k 0) v (s.samplePort y) :=
  ⟨(State.samplePort_keeps (g := State.traf) (fun _ _ _ _ _ => rfl) s y).trans h.traf,
    (State.samplePort_keeps (g := State.now) (fun _ _ _ _ _ => rfl) s y).trans h.now,
    (State.each_keeps_mem (g := fun s => s.fld (Reg.TRAF_HIST x q k 0) 0 32)
      (fun n _ hz => n.fld_sampleQueue_ne hq (List.mem_range.mp hz) hk fun hyz => hy hyz.1) s).trans h.bin⟩

section
variable {u s : State} {x q k v : Nat} (hempty : ((u.egress x).queue q).frames = [])
  (hleft : ((u.egress x).queue q).leftAt = u.now → ((u.egress x).queue q).left = []) (hq : q < 8) (hk : k < 2)
include hempty hleft hq hk

theorem BinAt.sampleQueue_self (h : BinAt u (Reg.TRAF_HIST x q k 0) v s) :
    BinAt u (Reg.TRAF_HIST x q k 0) (min (2 ^ 32 - 1) (v + 1)) (s.sampleQueue x q) := by
  obtain ⟨htraf, hnow, hbin⟩ := h
  have hport : s.egress x = u.egress x := by rw [State.egress, State.egress, htraf]
  rw [← hport] at hempty hleft
  rw [← hnow] at hleft
  refine ⟨(State.sampleQueue_keeps (g := State.traf) (fun _ _ _ _ _ => rfl) s x q).trans htraf,
    (State.sampleQueue_keeps (g := State.now) (fun _ _ _ _ _ => rfl) s x q).trans hnow, ?_⟩
  rw [State.fld_sampleQueue_empty hempty hleft hq hk, hbin]

theorem BinAt.samplePort_self (h : BinAt u (Reg.TRAF_HIST x q k 0) v s) :
    BinAt u (Reg.TRAF_HIST x q k 0) (min (2 ^ 32 - 1) (v + 1)) (s.samplePort x) :=
  State.each_once (P := BinAt u (Reg.TRAF_HIST x q k 0) v) (Q := BinAt u (Reg.TRAF_HIST x q k 0) (min (2 ^ 32 - 1) (v + 1)))
    List.nodup_range (List.mem_range.mpr hq) (fun _ _ hz hlt hs => hs.sampleQueue hq (List.mem_range.mp hlt) hk fun hyz => hz hyz.2)
    (fun _ hs => hs.sampleQueue_self hempty hleft hq hk)
    (fun _ _ hz hlt hs => hs.sampleQueue hq (List.mem_range.mp hlt) hk fun hyz => hz hyz.2) h

/-- Over the samples of all queues each histogram of an empty one counts once. -/
theorem BinAt.samplePorts (hx : x < 2) (h : BinAt u (Reg.TRAF_HIST x q k 0) v s) :
    BinAt u (Reg.TRAF_HIST x q k 0) (min (2 ^ 32 - 1) (v + 1)) s.samplePorts :=
  State.each_once (P := BinAt u (Reg.TRAF_HIST x q k 0) v) (Q := BinAt u (Reg.TRAF_HIST x q k 0) (min (2 ^ 32 - 1) (v + 1)))
    (by decide) (mem_pair hx) (fun _ _ hy _ hs => hs.samplePort hq hk hy) (fun _ hs => hs.samplePort_self hempty hleft hq hk)
    (fun _ _ hy _ hs => hs.samplePort hq hk hy) h

end

/-! ## The obligation -/

/-- A sample counts an empty queue in the lowest bin of both its histograms (R377). -/
theorem exec_trafHistSample_empty {t x q : Nat} {s u : State} (hu : s.advance t = u) (hx : x < 2) (hq : q < 8)
    (hempty : ((u.egress x).queue q).frames = []) (hleft : ((u.egress x).queue q).leftAt = u.now → ((u.egress x).queue q).left = [])
    (hdue : limited u.traf.histAt (ms 1) u.now = false) :
    ∃ n : State, exec (.trafHistSample t) s = .next n ∧
      (∀ k : Nat, k < 2 → n.fld (Reg.TRAF_HIST x q k 0) 0 32 = min (2 ^ 32 - 1) (u.fld (Reg.TRAF_HIST x q k 0) 0 32 + 1)) ∧
      n.hbm = u.hbm ∧ n.raised = u.raised ∧ n.traf = { u.traf with histAt := some u.now } := by
  refine ⟨_, exec_trafHistSample_due hu hdue, fun k hk => ?_, State.samplePorts_keeps (g := State.hbm) (fun _ _ _ _ _ => rfl) _,
    State.samplePorts_keeps (g := State.raised) (fun _ _ _ _ _ => rfl) _, State.samplePorts_keeps (g := State.traf) (fun _ _ _ _ _ => rfl) _⟩
  have hbin : BinAt u.sampleTaken (Reg.TRAF_HIST x q k 0) (u.fld (Reg.TRAF_HIST x q k 0) 0 32) u.sampleTaken := ⟨rfl, rfl, rfl⟩
  have hempty' : ((u.sampleTaken.egress x).queue q).frames = [] := hempty
  have hleft' : ((u.sampleTaken.egress x).queue q).leftAt = u.sampleTaken.now → ((u.sampleTaken.egress x).queue q).left = [] := hleft
  exact (hbin.samplePorts hempty' hleft' hq hk hx).bin

theorem State.nat_cleared_drops (u : State) {x q : Nat} (hx : x < 2) (hq : q < 8) :
    u.clearDrops.clearOut.clearIn.nat (Reg.TRAF_QDROP x q) = 0 := by
  have hlow : Reg.TRAF_QDROP x q < Reg.TRAF_IN_CNT 0 0 := by
    simp only [Reg.TRAF_QDROP, Reg.TRAF_IN_CNT]
    omega
  have hne (y k : Nat) (_ : y < 2) (_ : k < 32) : Reg.TRAF_OUT_STAT y k ≠ Reg.TRAF_QDROP x q := by
    simp only [Reg.TRAF_QDROP, Reg.TRAF_OUT_STAT]
    omega
  rw [State.nat, State.reg_clearIn_ne _ hlow, State.reg_clearOut_ne _ hne, ← State.nat, u.nat_clearDrops hx hq]

theorem State.nat_cleared_out (u : State) {x k : Nat} (hx : x < 2) (hk : k < 32) :
    u.clearDrops.clearOut.clearIn.nat (Reg.TRAF_OUT_STAT x k) = 0 := by
  have hlow : Reg.TRAF_OUT_STAT x k < Reg.TRAF_IN_CNT 0 0 := by
    simp only [Reg.TRAF_OUT_STAT, Reg.TRAF_IN_CNT]
    omega
  rw [State.nat, State.reg_clearIn_ne _ hlow, ← State.nat, State.nat_clearOut _ hx hk]

theorem State.seq_cleared (u : State) (i : Nat) :
    u.clearDrops.clearOut.clearIn.fld (Reg.TRAF_IN_CNT i 3) 0 16 = u.fld (Reg.TRAF_IN_CNT i 3) 0 16 := by
  have hout (y k : Nat) (_ : y < 2) (_ : k < 32) : Reg.TRAF_OUT_STAT y k ≠ Reg.TRAF_IN_CNT i 3 := by
    simp only [Reg.TRAF_IN_CNT, Reg.TRAF_OUT_STAT]
    omega
  have hdrop (y q : Nat) (_ : y < 2) (_ : q < 8) : Reg.TRAF_QDROP y q ≠ Reg.TRAF_IN_CNT i 3 := by
    simp only [Reg.TRAF_IN_CNT, Reg.TRAF_QDROP]
    omega
  rw [State.seq_clearIn, State.fld, State.reg_clearOut_ne _ hout, State.reg_clearDrops_ne _ hdrop, ← State.fld]

theorem State.cleared_keeps {β : Type} {g : State → β} (h : ∀ (s : State) (a : Nat) (w : Word), g (s.setReg a w) = g s) (u : State) :
    g u.clearDrops.clearOut.clearIn = g u := by
  have hdrops : g u.clearDrops = g u := State.each_keeps (fun s _ => State.each_keeps (fun s _ => h s _ _) s _) u _
  have hout : g u.clearDrops.clearOut = g u.clearDrops := State.each_keeps (fun s _ => State.each_keeps (fun s _ => h s _ _) s _) _ _
  have hin : g u.clearDrops.clearOut.clearIn = g u.clearDrops.clearOut :=
    State.each_keeps (fun s _ => (h _ _ _).trans ((h _ _ _).trans ((h _ _ _).trans (h s _ _)))) _ _
  exact hin.trans (hout.trans hdrops)

/-- Settles O43: service by the highest eligible queue, the counters and histograms by their folds. -/
theorem trafficQueuesAndCounters : Obligations.TrafficQueuesAndCounters := by
  unfold Obligations.TrafficQueuesAndCounters
  refine ⟨?_, ?_, ?_, ?_, ?_, ?_, ?_, ?_⟩
  · exact fun x c q fr u => State.serve_sends
  · exact fun x c u => State.serve_none
  · intro t q c fin x s u hu hsending hends hempty hports
    have hport : x.val < u.traf.ports.length := by omega
    obtain ⟨p, heq⟩ := u.portIdle_eq x fin
    refine ⟨_, exec_trafEgressDone_idle hu hsending hends hempty hport, by rw [State.egress_portIdle hport], ?_⟩
    rw [heq]
    exact ⟨rfl, rfl, SameRegs.refl u _, rfl⟩
  · exact fun t x q s u hu => exec_shapedQueueEligible_now hu
  · exact fun t x q s u hu => exec_trafHistSample_empty hu
  · exact fun t req s u hu hok => ⟨_, exec_trafCtlClearHist_ok hu hok, u.reg_resetRange _ _, rfl, rfl⟩
  · intro t req s u hu hok
    exact ⟨_, exec_trafCtlClearCnt_ok hu hok, fun x q hx hq => u.nat_cleared_drops hx hq, fun x k hx hk => u.nat_cleared_out hx hk,
      fun i hi => ⟨State.nat_clearIn _ hi (by decide), State.nat_clearIn _ hi (by decide), State.nat_clearIn _ hi (by decide),
        State.rogue_clearIn _ hi, u.seq_cleared i⟩,
      State.cleared_keeps (g := State.hbm) (fun _ _ _ => rfl) u, State.cleared_keeps (g := State.raised) (fun _ _ _ => rfl) u⟩
  · intro t k s u hu hfresh hnone hnone' hlate
    refine ⟨_, exec_trafDeTimeout_resets hu hfresh hnone hnone' hlate, ?_, ?_, rfl, SameRegs.refl u _, rfl⟩
    · rw [State.resetWindow, State.deWindow_setWindow]
    · rw [State.resetWindow, State.deWindow_setWindow]

end Sys2Proof.Machine
end

section
/-! Sensor rounds (R402 to R405) and the refresh multiplier (R261). -/

namespace Sys2Proof.Machine

/-! ## Conversions -/

/-- The state with other die sensors. -/
def State.withSensors (s : State) (l : List DieSensor) : State := { s with health := { s.health with sensors := l } }

theorem State.setSensor_eq (s : State) (n : Nat) (x : DieSensor) : s.setSensor n x = s.withSensors (s.health.sensors.set n x) := rfl

theorem State.withSensors_withSensors (s : State) (l m : List DieSensor) : (s.withSensors l).withSensors m = s.withSensors m := rfl

theorem State.withSensors_self (s : State) : s.withSensors s.health.sensors = s := rfl

theorem State.sensor_setSensor {s : State} {n : Nat} (h : n < s.health.sensors.length) (x : DieSensor) : (s.setSensor n x).sensor n = x := by
  have hset : (s.health.sensors.set n x).getD n {} = x := by rw [getD_set_ite, if_pos ⟨rfl, h⟩]
  exact hset

/-- Setting a sensor to what it is changes nothing. -/
theorem State.setSensor_self (s : State) (n : Nat) : s.setSensor n (s.sensor n) = s := by
  have hset : s.health.sensors.set n (s.sensor n) = s.health.sensors := by
    refine List.ext_getElem (List.length_set ..) fun i hi hi' => ?_
    rw [List.getElem_set]
    split
    next h => subst h; rw [State.sensor, List.getD_eq_getElem _ _ hi']
    next => rfl
  rw [State.setSensor_eq, hset, State.withSensors_self]

/-- A sensor with its first conversion. -/
def firstConversion (v : Int) : DieSensor := { conv := [v] }

/-- The first conversion of a sensor is stored, and shows nothing yet (R403). -/
theorem State.convert_first {s : State} {n : Nat} {v : Int} (h : n < s.health.sensors.length) (hfresh : s.sensor n = {})
    (hok : tempOk v = true) : s.convert n v = s.setSensor n (firstConversion v) := by
  have hfiltered : (s.setSensor n (firstConversion v)).filtered n = none := by
    rw [State.filtered, State.sensor_setSensor h]
    rfl
  have hconv : { s.sensor n with conv := (v :: (s.sensor n).conv).take 3 } = firstConversion v := by rw [hfresh]; rfl
  simp only [State.convert, hok, if_true, hconv, hfiltered]

/-- A round over fresh sensors stores one conversion for each. -/
theorem State.each_convert_first {l : List Int} (hok : l.all tempOk = true) {d : List DieSensor} {s : State}
    (hs : s.health.sensors = d ++ List.replicate l.length ({} : DieSensor)) :
    (s.each (l.zipIdx d.length) fun s (x : Int × Nat) => s.convert x.2 x.1) = s.withSensors (d ++ l.map firstConversion) := by
  induction l generalizing d s with
  | nil =>
    have hd : s.health.sensors = d := hs.trans (List.append_nil d)
    rw [List.map_nil, List.append_nil, ← hd]
    rfl
  | cons v l ih =>
    rw [List.all_cons, Bool.and_eq_true] at hok
    have hlen : d.length < s.health.sensors.length := by
      rw [hs, List.length_append, List.length_replicate, List.length_cons]
      omega
    have hfresh : s.sensor d.length = {} := by
      rw [State.sensor, hs, List.getD_eq_getElem?_getD, List.getElem?_append_right (le_refl _), Nat.sub_self]
      rfl
    have hset : s.health.sensors.set d.length (firstConversion v) = (d ++ [firstConversion v]) ++ List.replicate l.length ({} : DieSensor) := by
      rw [hs, List.set_append_right _ _ (le_refl _), Nat.sub_self, List.append_assoc]
      rfl
    rw [List.zipIdx_cons, State.each_cons, State.convert_first hlen hfresh hok.1, State.setSensor_eq, hset]
    have hrest := ih hok.2 (d := d ++ [firstConversion v])
      (s := s.withSensors ((d ++ [firstConversion v]) ++ List.replicate l.length ({} : DieSensor))) rfl
    rw [List.length_append, List.length_singleton] at hrest
    rw [hrest, State.withSensors_withSensors, List.append_assoc]
    rfl

/-- No sensor has a filtered value yet, and none has been far from its neighbours. -/
def State.unheard (s : State) : Prop := ∀ n, s.filtered n = none ∧ (s.sensor n).far = 0 ∧ (s.sensor n).near = 0

theorem State.unheard_first (s : State) (l : List Int) : (s.withSensors (l.map firstConversion)).unheard := by
  intro n
  have hsensor : (s.withSensors (l.map firstConversion)).sensor n = ((l[n]?).map firstConversion).getD {} := by
    rw [State.sensor, State.withSensors, List.getD_eq_getElem?_getD, List.getElem?_map]
  rw [State.filtered, hsensor]
  cases l[n]? with
  | none => exact ⟨rfl, rfl, rfl⟩
  | some v => exact ⟨rfl, rfl, rfl⟩

/-- The neighbour check of a sensor without a filtered value changes nothing. -/
theorem State.checkSensor_unheard {s : State} (h : s.unheard) (marked : List Nat) (n : Nat) : s.checkSensor marked n = s := by
  obtain ⟨hnone, hfar, hnear⟩ := h n
  have hself : ({ s.sensor n with far := 0, near := 0 } : DieSensor) = s.sensor n := by
    generalize s.sensor n = x at hfar hnear
    cases x
    dsimp only at hfar hnear
    rw [hfar, hnear]
  have hdecide (b : Prop) [Decidable b] : (if b then none else s.filtered n) = none := by rw [hnone, ite_self]
  rw [State.checkSensor, hdecide]
  dsimp only
  rw [hself, State.setSensor_self]

theorem State.each_fixed {α : Type} {s : State} {l : List α} {f : State → α → State} (h : ∀ x, f s x = s) : s.each l f = s := by
  induction l with
  | nil => rfl
  | cons x l ih => rw [State.each_cons, h, ih]

/-- A round that finds no filtered value shows no T_hot (R403). -/
theorem State.roundEnds_unheard {s : State} (h : s.unheard) :
    s.roundEnds = ({ s with health := { s.health with tHot := none } } : State).setFld Reg.HLTH_STAT 16 16 0 := by
  have hdie (n : State) (hn : n.unheard) : n.tDie = none := by
    have hnil : (List.range 32).filterMap (fun k => if n.suspect k then none else n.filtered k) = [] :=
      List.filterMap_eq_nil_iff.mpr fun k _ => by rw [(hn k).1, ite_self]
    rw [State.tDie, hnil]
    rfl
  have hhot : s.hotNow = none := by rw [State.hotNow, hdie s h]
  have hdie' : ({ s with health := { s.health with tHot := none } } : State).tDie = none := hdie _ h
  simp only [State.roundEnds, hhot, hdie']

/-! ## Rounds -/

section
variable {t : Nat} {r : List Int} {s u : State} (hu : s.advance t = u) (hon : u.healthOn = true)
include hu hon

theorem exec_hlthSensorRound_runs (hrun : u.bit Reg.HLTH_STAT 4 = false) : exec (.hlthSensorRound t r) s = .next (u.sensorRound r) := by
  have hexec : exec (.hlthSensorRound t r) s = execHlthSensorRound t r s := rfl
  rw [hexec, execHlthSensorRound, hu]
  simp only [hon, hrun, Bool.not_true, Bool.or_self, Bool.false_eq_true, if_false]

theorem exec_hlthRoundOverdue_fails (hrun : u.bit Reg.HLTH_STAT 4 = false) (hnone : u.roundNow = false)
    (hlate : u.health.lastRound + 2 * (if u.bit Reg.HLTH_STAT 5 then us 100 else ms 1) ≤ u.now) :
    exec (.hlthRoundOverdue t) s = .next (u.seqFail 2) := by
  have hexec : exec (.hlthRoundOverdue t) s = execHlthRoundOverdue t s := rfl
  rw [hexec, execHlthRoundOverdue, hu]
  simp only [hon, hrun, hnone, decide_eq_false (Nat.not_lt.mpr hlate), Bool.not_true, Bool.or_self, Bool.false_eq_true, if_false]

end

/-- The sequencer has failed: its history is dropped. -/
theorem State.seqFail_bits (s : State) (reason : Nat) :
    (s.seqFail reason).bit Reg.HLTH_STAT 4 = true ∧ (s.seqFail reason).bit Reg.HLTH_STAT 5 = false := by
  refine ⟨?_, ?_⟩
  · rw [State.seqFail, State.bit_raise, State.bit_setBit_same _ _ _ _ _ (by decide), State.bit_setBit_self _ _ _ _ (by decide)]
  · rw [State.seqFail, State.bit_raise, State.bit_setBit_self _ _ _ _ (by decide)]

theorem State.sameRegs_seqFail (s : State) (reason : Nat) : SameRegs s (s.seqFail reason) [Reg.HLTH_STAT] :=
  ((SameRegs.refl s _).setReg List.mem_cons_self _).setReg List.mem_cons_self _

theorem State.raisedBy_seqFail (s : State) (reason : Nat) : RaisedBy s (s.seqFail reason) [(Ev.HLTH_SEQ_FAIL, [reason % 2 ^ 32])] :=
  RaisedBy.of_raise rfl _ _

theorem State.seqFail_hbm (s : State) (reason : Nat) : (s.seqFail reason).hbm = s.hbm := rfl

theorem State.seqFail_sensors (s : State) (reason : Nat) : (s.seqFail reason).health.sensors = s.health.sensors := rfl

/-- A second round whose reference is off fails the sequencer (R405). -/
theorem State.sensorRound_fails {s : State} {r : List Int} (hoff : 512 < (r.getD 32 0).natAbs) (hbad : 1 ≤ s.health.refBad) :
    s.sensorRound r = ({ s with health := { s.health with refBad := s.health.refBad + 1, lastRound := s.now } } : State).seqFail 1 := by
  have hdec : decide (deg 2 < ((r.getD 32 0).natAbs : Int)) = true := decide_eq_true (by simp only [deg]; omega)
  have htwo : 2 ≤ s.health.refBad + 1 := by omega
  simp only [State.sensorRound, hdec, if_true, htwo]

/-- The first round behind power-up. -/
def State.firstRound (s : State) (r : List Int) : State :=
  ({ s with health := { s.health with refBad := 0, lastRound := s.now, sensors := (r.take 32).map firstConversion, tHot := none } } :
    State).setFld Reg.HLTH_STAT 16 16 0

theorem State.sensorRound_first {s : State} {r : List Int} (hlen : r.length = 33) (hok : (r.take 32).all tempOk = true)
    (hoff : (r.getD 32 0).natAbs ≤ 512) (hfresh : s.health.sensors = List.replicate 32 {}) : s.sensorRound r = s.firstRound r := by
  have hdec : decide (deg 2 < ((r.getD 32 0).natAbs : Int)) = false := decide_eq_false (by simp only [deg]; omega)
  have htake : (r.take 32).length = 32 := by rw [List.length_take]; omega
  have hconverted := State.each_convert_first hok (d := [])
    (s := { s with health := { s.health with refBad := 0, lastRound := s.now } }) (by rw [htake]; exact hfresh)
  rw [List.nil_append] at hconverted
  have hchecked (n : State) (hn : n.unheard) (marked : List Nat) :
      (n.each (List.range 32) fun s k => s.checkSensor marked k) = n := State.each_fixed fun k => State.checkSensor_unheard hn marked k
  have hunheard := State.unheard_first { s with health := { s.health with refBad := 0, lastRound := s.now } } (r.take 32)
  simp only [State.sensorRound, hdec, Bool.false_eq_true, if_false]
  rw [if_neg (by decide)]
  refine (congrArg (fun n : State => (n.each (List.range 32) fun s k => s.checkSensor ((List.range 32).filter n.suspect) k).roundEnds)
    hconverted).trans ?_
  dsimp only
  rw [hchecked _ hunheard, State.roundEnds_unheard hunheard]
  rfl

/-- A third conversion shows the median (R403). -/
theorem State.convert_third {u : State} {k : Nat} {a b v m : Int} (hk : k < u.health.sensors.length) (hconv : (u.sensor k).conv = [a, b])
    (hok : tempOk v = true) (hm : (sortInt [v, a, b]).getD 1 0 = m) (hlow : -10240 ≤ m) (hhigh : m ≤ 32767) :
    (u.convert k v).fld (Reg.HLTH_DIE_TEMP k) 0 16 = unsigned 16 m ∧ (u.convert k v).bit (Reg.HLTH_DIE_TEMP k) 17 = true := by
  have hfiltered : (u.setSensor k { u.sensor k with conv := (v :: (u.sensor k).conv).take 3 }).filtered k = some m := by
    rw [State.filtered, State.sensor_setSensor hk]
    simp only [hconv, List.take_succ_cons, List.take_zero, hm]
  have hshows : u.convert k v = ((u.setSensor k { u.sensor k with conv := (v :: (u.sensor k).conv).take 3 }).setTemp
      (Reg.HLTH_DIE_TEMP k) 0 m).setBit (Reg.HLTH_DIE_TEMP k) 17 true := by
    simp only [State.convert, hok, if_true, hfiltered]
  rw [hshows]
  refine ⟨?_, State.bit_setBit_self _ _ _ _ (by decide)⟩
  rw [State.setBit, State.fld_setFld_same _ _ _ _ _ _ _ (by decide)]
  exact State.fld_setTemp (by omega) hhigh _ _

/-! ## The stack sensors -/

/-- A reading of stack sensor `h` is stored and shown. -/
def State.stackShown (s : State) (h : Nat) (c : Int) : State :=
  (({ s with health := { s.health with stackFail := s.health.stackFail.set h false, stackTemp := s.health.stackTemp.set h c } } : State).setFld
    (Reg.HLTH_HBM_TEMP h) 0 16 (unsigned 16 c)).setBit (Reg.HLTH_HBM_TEMP h) 16 true

theorem tempOk_low {c : Int} (h : tempOk c = true) : -10240 ≤ c := by
  have hlow := of_decide_eq_true (Bool.and_eq_true_iff.mp h).1
  simp only [deg] at hlow
  omega

theorem State.stackRead_ok {s : State} {h : Nat} {c : Int} (hok : tempOk c = true) (hhigh : c ≤ 32767) :
    s.stackRead h (some c) = s.stackShown h c := by
  have hlow := tempOk_low hok
  simp only [State.stackRead, hok, if_true, State.setTemp, if_pos (And.intro (show -32768 ≤ c by omega) hhigh)]
  rfl

/-- Both stack sensors are read. -/
def State.stackPair (s : State) (a b : Int) : State := (s.stackShown 0 a).stackShown 1 b

theorem State.each_stackRead {s : State} {a b : Int} (ha : tempOk a = true) (hb : tempOk b = true) (hah : a ≤ 32767) (hbh : b ≤ 32767) :
    (s.each ([some a, some b].take 2).zipIdx fun s (x : Option Int × Nat) => s.stackRead x.2 x.1) = s.stackPair a b := by
  have hpair : (s.stackRead 0 (some a)).stackRead 1 (some b) = s.stackPair a b := by
    rw [State.stackRead_ok ha hah, State.stackRead_ok hb hbh, State.stackPair]
  exact hpair

theorem State.sameRegs_stackShown (s : State) (h : Nat) (c : Int) : SameRegs s (s.stackShown h c) [Reg.HLTH_HBM_TEMP h] :=
  ((SameRegs.refl s _).setReg List.mem_cons_self _).setReg List.mem_cons_self _

theorem State.sameRegs_stackPair (s : State) (a b : Int) : SameRegs s (s.stackPair a b) [Reg.HLTH_HBM_TEMP 0, Reg.HLTH_HBM_TEMP 1] :=
  ((s.sameRegs_stackShown 0 a).mono (by simp)).trans ((State.sameRegs_stackShown _ 1 b).mono (by simp))

theorem State.fld_stackShown {s : State} {h : Nat} (c : Int) : (s.stackShown h c).fld (Reg.HLTH_HBM_TEMP h) 0 16 = unsigned 16 c := by
  rw [State.stackShown, State.setBit, State.fld_setFld_same _ _ _ _ _ _ _ (by decide), State.fld_setFld_self _ _ _ _ _ (by decide)]
  refine Nat.mod_eq_of_lt ?_
  unfold unsigned
  omega

theorem State.bit_stackShown {s : State} {h : Nat} (c : Int) : (s.stackShown h c).bit (Reg.HLTH_HBM_TEMP h) 16 = true :=
  State.bit_setBit_self _ _ _ _ (by decide)

theorem Reg.HLTH_HBM_TEMP_ne : Reg.HLTH_HBM_TEMP 0 ∉ [Reg.HLTH_HBM_TEMP 1] := by decide

/-- What the registers of both sensors show. -/
theorem State.fld_stackPair (s : State) (a b : Int) : (s.stackPair a b).fld (Reg.HLTH_HBM_TEMP 0) 0 16 = unsigned 16 a ∧
    (s.stackPair a b).fld (Reg.HLTH_HBM_TEMP 1) 0 16 = unsigned 16 b :=
  ⟨((State.sameRegs_stackShown _ 1 b).fld Reg.HLTH_HBM_TEMP_ne 0 16).trans (State.fld_stackShown a), State.fld_stackShown b⟩

theorem State.bit_stackPair (s : State) (a b : Int) : (s.stackPair a b).bit (Reg.HLTH_HBM_TEMP 0) 16 = true ∧
    (s.stackPair a b).bit (Reg.HLTH_HBM_TEMP 1) 16 = true := by
  have hreg := (s.stackShown 0 a).sameRegs_stackShown 1 b _ Reg.HLTH_HBM_TEMP_ne
  exact ⟨(congrArg (Word.bit · 16) hreg).trans (State.bit_stackShown a), State.bit_stackShown b⟩

theorem State.stackPair_hbm (s : State) (a b : Int) : (s.stackPair a b).hbm = s.hbm := rfl
theorem State.stackPair_raised (s : State) (a b : Int) : (s.stackPair a b).raised = s.raised := rfl
theorem State.stackPair_sensors (s : State) (a b : Int) : (s.stackPair a b).health.sensors = s.health.sensors := rfl

/-- Behind both reads the stack sensors have the two readings and no failure. -/
theorem State.stackTemps_stackPair {s : State} (htemp : s.health.stackTemp.length = 2) (a b : Int) :
    (s.stackPair a b).stackTemps = [a, b] := by
  obtain ⟨hbit0, hbit1⟩ := s.bit_stackPair a b
  obtain ⟨x, y, hxy⟩ := List.length_eq_two.mp htemp
  have htemps : (s.stackPair a b).health.stackTemp = [a, b] := by
    have hset : (s.stackPair a b).health.stackTemp = (s.health.stackTemp.set 0 a).set 1 b := rfl
    rw [hset, hxy]
    rfl
  simp only [State.stackTemps, List.filterMap_cons, List.filterMap_nil, hbit0, hbit1, if_true, htemps]
  rfl

theorem State.stackFail_stackPair {s : State} (hfail : s.health.stackFail = [false, false]) (a b : Int) :
    (s.stackPair a b).health.stackFail.any id = false := by
  have hset : (s.stackPair a b).health.stackFail = (s.health.stackFail.set 0 false).set 1 false := rfl
  rw [hset, hfail]
  rfl

theorem refreshCode_lt (k : Nat) (c : Int) : refreshCode k c < 4 := by
  unfold refreshCode
  extract_lets up down
  have hup : up ≤ 2 := by
    unfold up
    split
    · decide
    · split <;> decide
  have hdown : down ≤ 2 := by
    unfold down
    split
    · decide
    · split <;> decide
  split
  · omega
  · omega

/-- The refresh multiplier takes the code of the hotter reading (R261). -/
def State.refreshTo (s : State) (k : Nat) (c : Int) : State := (s.setFld Reg.HBM_STAT 2 2 k).raise Ev.HBM_REFRESH_RATE [k, argInt c]

section
variable {s : State} (hfail : s.health.stackFail = [false, false]) (htemp : s.health.stackTemp.length = 2) (a b : Int)
include hfail htemp

theorem State.refreshRate_stackPair : (s.stackPair a b).refreshRate =
    if refreshCode (s.fld Reg.HBM_STAT 2 2) (max a b) = s.fld Reg.HBM_STAT 2 2 then s.stackPair a b
    else (s.stackPair a b).refreshTo (refreshCode (s.fld Reg.HBM_STAT 2 2) (max a b)) (max a b) := by
  have hold : (s.stackPair a b).fld Reg.HBM_STAT 2 2 = s.fld Reg.HBM_STAT 2 2 := (s.sameRegs_stackPair a b).fld (by decide) 2 2
  have hmax : maxInt [a, b] = some (max a b) := rfl
  simp only [State.refreshRate, State.stackFail_stackPair hfail, State.stackTemps_stackPair htemp, hmax, hold, Bool.false_eq_true, if_false]
  rfl

/-- The multiplier that both readings set, and the registers that they leave. -/
theorem State.refreshRate_effect : (s.stackPair a b).refreshRate.fld Reg.HBM_STAT 2 2 = refreshCode (s.fld Reg.HBM_STAT 2 2) (max a b) ∧
    SameRegs (s.stackPair a b) (s.stackPair a b).refreshRate [Reg.HBM_STAT] := by
  have hold : (s.stackPair a b).fld Reg.HBM_STAT 2 2 = s.fld Reg.HBM_STAT 2 2 := (s.sameRegs_stackPair a b).fld (by decide) 2 2
  rw [State.refreshRate_stackPair hfail htemp]
  split
  next heq => exact ⟨hold.trans heq.symm, SameRegs.refl _ _⟩
  next =>
    refine ⟨?_, (SameRegs.refl _ _).setReg List.mem_cons_self _⟩
    rw [State.refreshTo, State.fld_raise, State.fld_setFld_self _ _ _ _ _ (by decide)]
    exact Nat.mod_eq_of_lt (refreshCode_lt _ _)

end

theorem exec_hbmStackSensorRead_pair {t : Nat} {a b : Int} {s u : State} (hu : s.advance t = u) (hon : u.healthOn = true)
    (hpower : u.domainOn 55 = true) (ha : tempOk a = true) (hb : tempOk b = true) (hah : a ≤ 32767) (hbh : b ≤ 32767) :
    exec (.hbmStackSensorRead t [some a, some b]) s = .next (u.stackPair a b).refreshRate := by
  have hexec : exec (.hbmStackSensorRead t [some a, some b]) s = execHbmStackSensorRead t [some a, some b] s := rfl
  rw [hexec, execHbmStackSensorRead, hu]
  simp only [hon, hpower, Bool.not_true, Bool.or_self, Bool.false_eq_true, if_false, State.each_stackRead ha hb hah hbh]

/-! ## An on-demand read -/

/-- What an on-demand read shows behind its readings. -/
def State.ondemandEnds (s : State) : State := (({ s with health := { s.health with tHot := none } } : State).setFld Reg.HLTH_STAT 16 16 0)

theorem exec_hlthOndemandRead_first {t : Nat} {r : List Int} {a b : Int} {s u : State} (hu : s.advance t = u) (hon : u.healthOn = true)
    (hfailed : u.bit Reg.HLTH_STAT 4 = true) (hlen : r.length = 32) (hok : r.all tempOk = true) (ha : tempOk a = true) (hb : tempOk b = true)
    (hah : a ≤ 32767) (hbh : b ≤ 32767) (hfresh : u.health.sensors = List.replicate 32 {})
    (hrate : u.domainOn 55 = false ∨ u.health.stackFail = [false, false] ∧ u.health.stackTemp.length = 2 ∧
      refreshCode (u.fld Reg.HBM_STAT 2 2) (max a b) = u.fld Reg.HBM_STAT 2 2) :
    exec (.hlthOndemandRead t (r ++ [a, b])) s = .next ((u.withSensors (r.map firstConversion)).stackPair a b).ondemandEnds := by
  have hexec : exec (.hlthOndemandRead t (r ++ [a, b])) s = execHlthOndemandRead t (r ++ [a, b]) s := rfl
  have hconverted : (u.each (r.zipIdx) fun s (x : Int × Nat) => s.convert x.2 x.1) = u.withSensors (r.map firstConversion) := by
    have heach := State.each_convert_first hok (d := []) (s := u) (by rw [hlen]; exact hfresh)
    rwa [List.nil_append] at heach
  have htake : (r ++ [a, b]).take 32 = r := by rw [← hlen, List.take_left]
  have hdrop : (r ++ [a, b]).drop 32 = [a, b] := by rw [← hlen, List.drop_left]
  generalize hv : u.withSensors (r.map firstConversion) = v at hconverted
  have hread : (v.each ([a, b].take 2).zipIdx fun s (x : Int × Nat) => s.stackRead x.2 (some x.1)) = v.stackPair a b :=
    State.each_stackRead ha hb hah hbh
  have hunheard : (v.stackPair a b).unheard := by
    have hfirst := u.unheard_first r
    rw [hv] at hfirst
    exact hfirst
  have hrefresh : (if (v.stackPair a b).domainOn 55 then (v.stackPair a b).refreshRate else v.stackPair a b) = v.stackPair a b := by
    have hpower : (v.stackPair a b).domainOn 55 = u.domainOn 55 := by
      have hsame := v.sameRegs_stackPair a b (Reg.PWR_DOMAIN_STAT0 + 4 * (55 / 32)) (by decide)
      rw [State.domainOn, State.bit, hsame, ← hv]
      rfl
    rw [hpower]
    rcases hrate with hoff | ⟨hfail, htemp, hcode⟩
    · rw [hoff]
      rfl
    · have hstays : (v.stackPair a b).refreshRate = v.stackPair a b := by
        rw [← hv, State.refreshRate_stackPair (s := u.withSensors (r.map firstConversion)) hfail htemp]
        exact if_pos hcode
      rw [hstays, ite_self]
  rw [hexec, execHlthOndemandRead, hu]
  simp only [hon, hfailed, Bool.not_true, Bool.or_self, Bool.false_eq_true, if_false, htake, hdrop, hconverted, hread, hrefresh]
  rw [State.roundEnds_unheard hunheard, State.ondemandEnds]

/-! ## A suspect -/

/-- A sensor is marked suspect, with the reading and the median of its neighbours (R404). -/
def State.marksSuspect (s : State) (k : Nat) (x : DieSensor) (args : List Nat) : State :=
  ((s.setSensor k x).setBit (Reg.HLTH_DIE_TEMP k) 16 true).raise Ev.HLTH_SENSOR_SUSPECT args

theorem State.checkSensor_third {u : State} {k : Nat} {f : Int} (hf : u.filtered k = some f) (hclear : u.suspect k = false)
    (hfar : (u.sensor k).far = 2) (hfew : ((List.range 32).filter u.suspect).length < 4)
    (hnear : 2 ≤ ((neighbours k).filterMap u.filtered).length) (hgood : (neighbours k).all (fun j => !u.suspect j) = true)
    (hoff : 4096 < (2 * f - median2 ((neighbours k).filterMap u.filtered)).natAbs) :
    ∃ (x : DieSensor) (args : List Nat), u.checkSensor ((List.range 32).filter u.suspect) k = u.marksSuspect k x args := by
  have hkept : (neighbours k).filter (fun j => !((List.range 32).filter u.suspect).contains j) = neighbours k := by
    refine List.filter_eq_self.mpr fun j hj => ?_
    have hj' := List.all_eq_true.mp hgood j hj
    simp only [Bool.not_eq_true', List.contains_eq_mem, decide_eq_false_iff_not, List.mem_filter, not_and] at hj' ⊢
    exact fun _ => ne_true_of_eq_false hj'
  have hclose : ¬((2 * f - median2 ((neighbours k).filterMap u.filtered)).natAbs ≤ 3072) := by omega
  refine ⟨{ u.sensor k with far := 3, near := 0, fifth := false },
    [k, argInt f, argInt (roundDivInt (median2 ((neighbours k).filterMap u.filtered)) 2), 1], ?_⟩
  rw [State.checkSensor, hkept]
  simp only [Nat.not_lt.mpr hnear, if_false, hf, hclear, hfar, hfew, if_pos hoff, if_neg hclose, Bool.false_eq_true, if_true]
  rfl

theorem State.marksSuspect_suspect (s : State) (k : Nat) (x : DieSensor) (args : List Nat) : (s.marksSuspect k x args).suspect k = true := by
  rw [State.suspect, State.marksSuspect, State.bit_raise, State.bit_setBit_self _ _ _ _ (by decide)]

theorem State.sameRegs_marksSuspect (s : State) (k : Nat) (x : DieSensor) (args : List Nat) :
    SameRegs s (s.marksSuspect k x args) [Reg.HLTH_DIE_TEMP k] := (SameRegs.refl s _).setReg List.mem_cons_self _

theorem State.marksSuspect_hbm (s : State) (k : Nat) (x : DieSensor) (args : List Nat) : (s.marksSuspect k x args).hbm = s.hbm := rfl

theorem State.marksSuspect_codes (s : State) (k : Nat) (x : DieSensor) (args : List Nat) :
    (s.marksSuspect k x args).raised.map (·.code) = s.raised.map (·.code) ++ [Ev.HLTH_SENSOR_SUSPECT] := by
  rw [State.marksSuspect, State.raise_raised, List.map_append]
  rfl

end Sys2Proof.Machine
end

section
/-! The throttle (R406 to R408), and the statement of the sensors. -/

namespace Sys2Proof.Machine

/-! ## Steps of the throttle -/

theorem State.aimVolts_keeps {β : Type} {g : State → β} (h : ∀ (s : State) (a lo n v : Nat), g (s.setFld a lo n v) = g s) (s : State) :
    g s.aimVolts = g s := (h _ _ _ _ _).trans (h _ _ _ _ _)

theorem State.sameRegs_aimVolts (s : State) : SameRegs s s.aimVolts [Reg.HLTH_AVS] :=
  ((SameRegs.refl s _).setReg List.mem_cons_self _).setReg List.mem_cons_self _

/-- Step 2 is asked for while step 1 is in effect: it is in effect at once, and is reported (R407). -/
def State.secondStep (s : State) : State :=
  (({ s with health := { s.health with want := 2, cause := 1 } } : State).setFld Reg.HLTH_STAT 0 2 2).raise Ev.HLTH_THROTTLE
    [s.fld Reg.HLTH_STAT 0 2, 2, 1, s.fld Reg.SCAN_STAT 16 16]

theorem State.setStep_second {s : State} (hwant : s.health.want = 1) (hstep : s.fld Reg.HLTH_STAT 0 2 ≠ 0) :
    s.setStep 2 1 = s.secondStep.aimVolts := by
  have hstep' (h : HealthState) : ¬(({ s with health := h } : State).fld Reg.HLTH_STAT 0 2 = 0) := hstep
  have hdivider : ((1 == 0) != (2 == 0)) = false := by decide
  simp only [State.setStep, hwant, hdivider, hstep', OfNat.ofNat_ne_one, OfNat.one_ne_ofNat, Bool.false_eq_true, Bool.not_false, ne_eq,
    not_false_eq_true, and_self, if_true, if_false]
  rfl

/-- The throttle is released: the divider is left to the next latch (R406, R407). -/
def State.stepReleased (s : State) : State :=
  { s with health := { s.health with want := 0, cause := 3, decided := s.now } }

theorem State.setStep_release {s : State} (hwant : s.health.want = 1) : s.setStep 0 3 = s.stepReleased.aimVolts := by
  have hdivider : ((1 == 0) != (0 == 0)) = true := by decide
  simp only [State.setStep, hwant, hdivider, OfNat.one_ne_ofNat, zero_ne_one, Bool.not_true, Bool.false_eq_true,
    false_and, if_true, if_false]
  rfl

section
variable {s : State} {hot : Int} (hwant : s.health.want = 1)
include hwant

/-- A throttle that has lasted 2 s at its threshold goes to step 2 (R407). -/
theorem State.decideStep_late (hlate : s.health.stepAt + ms 2000 ≤ s.now) (hon : s.health.tempOn = true) (hhot : s.throttleAt ≤ hot) :
    s.decideStep hot = s.setStep 2 1 := by
  have hlate' : decide (s.health.stepAt + ms 2000 ≤ s.now) = true := decide_eq_true hlate
  simp only [State.decideStep, hwant, hlate', hon, hhot, Bool.true_or, Bool.not_true, Bool.false_eq_true, if_false, OfNat.one_ne_ofNat,
    false_and, max_self, ne_eq, one_ne_zero, not_false_eq_true, beq_self_eq_true, Bool.and_self, and_self, or_true, if_true,
    Nat.not_ofNat_lt_one]

/-- Without a condition that holds the throttle the step is 0. -/
theorem State.decideStep_cool (hoff : s.health.tempOn = false) (hpre : s.bit Reg.HLTH_STAT 2 = false) :
    s.decideStep hot = s.setStep 0 3 := by
  simp only [State.decideStep, hwant, hoff, hpre]
  rfl

end

/-- The throttle by temperature has ended. -/
def State.tempOff (s : State) : State := { s with health := { s.health with tempOn := false } }

theorem State.releaseThrottle_cool {s : State} {hot : Int} {c : Nat} (hon : s.health.tempOn = true) (hcool : s.health.coolAt = some c)
    (hlong : c + ms 1000 ≤ s.now) (hhot : hot < s.throttleAt - deg 5) (hpre : s.bit Reg.HLTH_STAT 2 = false) :
    s.releaseThrottle hot = s.tempOff.decideStep hot := by
  have hany : (s.health.coolAt.any fun k => decide (k + ms 1000 ≤ s.now)) = true := by
    rw [hcool, Option.any_some]
    exact decide_eq_true hlong
  have hpre' : s.tempOff.bit Reg.HLTH_STAT 2 = false := hpre
  have hcool' : decide (hot < s.throttleAt - deg 5) = true := decide_eq_true hhot
  rw [State.releaseThrottle]
  simp only [hon, hany, hcool', Bool.and_self, if_true]
  have hrest : (s.tempOff.bit Reg.HLTH_STAT 2 && true && s.tempOff.health.calmAt.any fun k => decide (k + ms 1000 ≤ s.tempOff.now)) = false := by
    rw [hpre']
    rfl
  exact congrArg (fun n : State => n.decideStep hot) (if_neg fun hyes => Bool.false_ne_true (hrest.symm.trans hyes))

section
variable {t : Nat} {h : Int} {s u : State} (hu : s.advance t = u) (hhot : u.health.tHot = some h) (hnone : u.roundNow = false)
include hu hhot hnone

theorem exec_throttleStep2Timeout_decides : exec (.throttleStep2Timeout t) s = .next (u.decideStep h) := by
  have hexec : exec (.throttleStep2Timeout t) s = execThrottleStep2Timeout t s := rfl
  rw [hexec, execThrottleStep2Timeout, hu]
  simp only [hhot, hnone, Bool.false_eq_true, if_false]

theorem exec_throttleReleaseTimeout_releases : exec (.throttleReleaseTimeout t) s = .next (u.releaseThrottle h) := by
  have hexec : exec (.throttleReleaseTimeout t) s = execThrottleReleaseTimeout t s := rfl
  rw [hexec, execThrottleReleaseTimeout, hu]
  simp only [hhot, hnone, Bool.false_eq_true, if_false]

end

theorem exec_throttleStep2Timeout_second {t : Nat} {h : Int} {s u : State} (hu : s.advance t = u) (hhot : u.health.tHot = some h)
    (hnone : u.roundNow = false) (hwant : u.health.want = 1) (hlate : u.health.stepAt + ms 2000 ≤ u.now) (hon : u.health.tempOn = true)
    (hthr : u.throttleAt ≤ h) (hstep : u.fld Reg.HLTH_STAT 0 2 ≠ 0) :
    exec (.throttleStep2Timeout t) s = .next u.secondStep.aimVolts := by
  rw [exec_throttleStep2Timeout_decides hu hhot hnone, State.decideStep_late hwant hlate hon hthr, State.setStep_second hwant hstep]

theorem State.fld_secondStep (s : State) : s.secondStep.fld Reg.HLTH_STAT 0 2 = 2 := by
  rw [State.secondStep, State.fld_raise, State.fld_setFld_self _ _ _ _ _ (by decide)]
  rfl

theorem State.sameRegs_secondStep (s : State) : SameRegs s s.secondStep [Reg.HLTH_STAT] :=
  SameRegs.setReg (SameRegs.refl s _) List.mem_cons_self _

theorem State.raisedBy_secondStep (s : State) : RaisedBy s s.secondStep
    [(Ev.HLTH_THROTTLE, [s.fld Reg.HLTH_STAT 0 2, 2, 1, s.fld Reg.SCAN_STAT 16 16])] := by
  have hstep : s.fld Reg.HLTH_STAT 0 2 < 2 ^ 2 := Nat.mod_lt _ (by decide)
  have hscan : s.fld Reg.SCAN_STAT 16 16 < 2 ^ 16 := Nat.mod_lt _ (by decide)
  have hmod : [s.fld Reg.HLTH_STAT 0 2, 2, 1, s.fld Reg.SCAN_STAT 16 16].map (· % 2 ^ 32) =
      [s.fld Reg.HLTH_STAT 0 2, 2, 1, s.fld Reg.SCAN_STAT 16 16] := by
    rw [List.map_cons, List.map_cons, List.map_cons, List.map_cons, Nat.mod_eq_of_lt (a := s.fld Reg.HLTH_STAT 0 2) (by omega),
      Nat.mod_eq_of_lt (a := s.fld Reg.SCAN_STAT 16 16) (by omega)]
    rfl
  rw [← hmod]
  exact RaisedBy.of_raise rfl _ _

theorem State.secondStep_want (s : State) : s.secondStep.health.want = 2 := rfl
theorem State.secondStep_hbm (s : State) : s.secondStep.hbm = s.hbm := rfl

theorem exec_throttleReleaseTimeout_cool {t c : Nat} {h : Int} {s u : State} (hu : s.advance t = u) (hhot : u.health.tHot = some h)
    (hnone : u.roundNow = false) (hwant : u.health.want = 1) (hon : u.health.tempOn = true) (hcool : u.health.coolAt = some c)
    (hlong : c + ms 1000 ≤ u.now) (hthr : h < u.throttleAt - deg 5) (hpre : u.bit Reg.HLTH_STAT 2 = false) :
    exec (.throttleReleaseTimeout t) s = .next u.tempOff.stepReleased.aimVolts := by
  have hwant' : u.tempOff.health.want = 1 := hwant
  rw [exec_throttleReleaseTimeout_releases hu hhot hnone, State.releaseThrottle_cool hon hcool hlong hthr hpre,
    State.decideStep_cool hwant' rfl hpre, State.setStep_release hwant']

/-! ## The obligation -/

theorem State.sameRegs_firstRound (s : State) (r : List Int) : SameRegs s (s.firstRound r) [Reg.HLTH_STAT] :=
  SameRegs.setReg (SameRegs.refl s _) List.mem_cons_self _

theorem State.fld_firstRound (s : State) (r : List Int) : (s.firstRound r).fld Reg.HLTH_STAT 16 16 = 0 := by
  rw [State.firstRound, State.fld_setFld_self _ _ _ _ _ (by decide)]
  rfl

theorem State.sameRegs_ondemandEnds (s : State) : SameRegs s s.ondemandEnds [Reg.HLTH_STAT] :=
  SameRegs.setReg (SameRegs.refl s _) List.mem_cons_self _

theorem State.ondemandEnds_hbm (s : State) : s.ondemandEnds.hbm = s.hbm := rfl
theorem State.ondemandEnds_raised (s : State) : s.ondemandEnds.raised = s.raised := rfl
theorem State.ondemandEnds_sensors (s : State) : s.ondemandEnds.health.sensors = s.health.sensors := rfl

/-- A failed round has marked the sequencer, and left the readings. -/
theorem exec_hlthSensorRound_fails {t : Nat} {r : List Int} {s u : State} (hu : s.advance t = u) (hon : u.healthOn = true)
    (hrun : u.bit Reg.HLTH_STAT 4 = false) (hoff : 512 < (r.getD 32 0).natAbs) (hbad : 1 ≤ u.health.refBad) :
    ∃ v : State, v.regs = u.regs ∧ v.hbm = u.hbm ∧ v.raised = u.raised ∧ v.health.sensors = u.health.sensors ∧
      exec (.hlthSensorRound t r) s = .next (v.seqFail 1) :=
  ⟨{ u with health := { u.health with refBad := u.health.refBad + 1, lastRound := u.now } }, rfl, rfl, rfl, rfl,
    by rw [exec_hlthSensorRound_runs hu hon hrun, State.sensorRound_fails hoff hbad]⟩

/-- Settles O53: rounds over fresh sensors by their fold, suspects, stack sensors and throttle each by the rule of its own. -/
theorem sensorRoundsAndLimits : Obligations.SensorRoundsAndLimits := by
  unfold Obligations.SensorRoundsAndLimits
  refine ⟨?_, ?_, ?_, ?_, ?_, ?_, ?_, ?_, ?_⟩
  · intro t r s u hu hon hrun hlen hok hoff hfresh
    refine ⟨u.firstRound r, ?_, rfl, rfl, rfl, u.fld_firstRound r, rfl, u.sameRegs_firstRound r, rfl⟩
    rw [exec_hlthSensorRound_runs hu hon hrun, State.sensorRound_first hlen hok hoff hfresh]
  · exact fun k a b v m u hk hlen hconv => State.convert_third (by omega) hconv
  · intro t r s u hu hon hrun hoff hbad
    obtain ⟨v, hregs, hhbm, hraised, hsensors, hexec⟩ := exec_hlthSensorRound_fails hu hon hrun hoff hbad
    refine ⟨_, hexec, (v.seqFail_bits 1).1, (v.seqFail_hbm 1).trans hhbm, fun a ha => ?_, (v.seqFail_sensors 1).trans hsensors, ?_⟩
    · exact (v.sameRegs_seqFail 1 a ha).trans (State.reg_congr hregs a)
    · rw [RaisedBy, ← hraised]
      exact v.raisedBy_seqFail 1
  · intro t s u hu hon hrun hnone hlate
    obtain ⟨hfail, hfast⟩ := u.seqFail_bits 2
    exact ⟨_, exec_hlthRoundOverdue_fails hu hon hrun hnone hlate, hfail, hfast, u.seqFail_hbm 2, u.sameRegs_seqFail 2, u.raisedBy_seqFail 2⟩
  · intro t r a b s u hu hon hfailed hlen hok ha hb hah hbh hfresh hrate
    refine ⟨_, exec_hlthOndemandRead_first hu hon hfailed hlen hok ha hb hah hbh hfresh hrate, ?_⟩
    generalize hv : u.withSensors (r.map firstConversion) = v
    have hends := (v.stackPair a b).sameRegs_ondemandEnds
    obtain ⟨hshow0, hshow1⟩ := v.fld_stackPair a b
    have hregs : SameRegs u v [Reg.HLTH_STAT, Reg.HLTH_HBM_TEMP 0, Reg.HLTH_HBM_TEMP 1] := by
      rw [← hv]
      exact fun _ _ => rfl
    refine ⟨?_, (hends.fld (by decide) 0 16).trans hshow0, (hends.fld (by decide) 0 16).trans hshow1, ?_, ?_, ?_⟩
    · rw [State.ondemandEnds_sensors, State.stackPair_sensors, ← hv]
      rfl
    · rw [State.ondemandEnds_hbm, State.stackPair_hbm, ← hv]
      rfl
    · exact (hregs.trans ((v.sameRegs_stackPair a b).mono (by simp))).trans (hends.mono (by simp))
    · rw [State.ondemandEnds_raised, State.stackPair_raised, ← hv]
      rfl
  · intro k f u hk hlen hf hclear hfar hfew hnear hgood hoff
    obtain ⟨x, args, hmarks⟩ := State.checkSensor_third hf hclear hfar hfew hnear hgood hoff
    exact ⟨_, hmarks, u.marksSuspect_suspect k x args, u.marksSuspect_hbm k x args, u.sameRegs_marksSuspect k x args,
      u.marksSuspect_codes k x args⟩
  · intro t a b s u hu hon hpower ha hb hah hbh hfail htemp
    obtain ⟨hcode, hregs⟩ := State.refreshRate_effect hfail htemp a b
    obtain ⟨hshow0, hshow1⟩ := u.fld_stackPair a b
    exact ⟨_, exec_hbmStackSensorRead_pair hu hon hpower ha hb hah hbh, (hregs.fld (by decide) 0 16).trans hshow0,
      (hregs.fld (by decide) 0 16).trans hshow1, hcode, ((u.sameRegs_stackPair a b).mono (by simp)).trans (hregs.mono (by simp))⟩
  · intro t h s u hu hhot hnone hwant hlate hon hthr hstep
    refine ⟨_, exec_throttleStep2Timeout_second hu hhot hnone hwant hlate hon hthr hstep, ?_, ?_, ?_, ?_, ?_⟩
    · exact (State.aimVolts_keeps (g := fun s => s.health.want) (fun _ _ _ _ _ => rfl) _).trans u.secondStep_want
    · exact ((State.sameRegs_aimVolts _).fld (by decide) 0 2).trans u.fld_secondStep
    · exact (State.aimVolts_keeps (g := State.hbm) (fun _ _ _ _ _ => rfl) _).trans u.secondStep_hbm
    · exact (u.sameRegs_secondStep.mono (by simp)).trans ((State.sameRegs_aimVolts _).mono (by simp))
    · rw [RaisedBy, State.aimVolts_keeps (g := State.raised) (fun _ _ _ _ _ => rfl)]
      exact u.raisedBy_secondStep
  · intro t c h s u hu hhot hnone hwant hon hcool hlong hthr hpre
    refine ⟨_, exec_throttleReleaseTimeout_cool hu hhot hnone hwant hon hcool hlong hthr hpre, ?_⟩
    have hregs : SameRegs u u.tempOff.stepReleased [Reg.HLTH_AVS] := fun _ _ => rfl
    refine ⟨State.aimVolts_keeps (g := fun s => s.health.want) (fun _ _ _ _ _ => rfl) _,
      State.aimVolts_keeps (g := fun s => s.health.tempOn) (fun _ _ _ _ _ => rfl) _,
      State.aimVolts_keeps (g := fun s => s.health.decided) (fun _ _ _ _ _ => rfl) _,
      State.aimVolts_keeps (g := State.hbm) (fun _ _ _ _ _ => rfl) _, hregs.trans (State.sameRegs_aimVolts _),
      State.aimVolts_keeps (g := State.raised) (fun _ _ _ _ _ => rfl) _⟩

end Sys2Proof.Machine
end

section
/-! Core-voltage steps and calibration items (R410, R412, R450). -/

namespace Sys2Proof.Machine

/-! ## The core voltage -/

section
variable {t v : Nat} {s u : State} (hu : s.advance t = u)
include hu

theorem exec_avsStep_up (hreached : u.calReached = true) (hidle : u.health.sent = none)
    (hgoal : u.health.volts + 5 ≤ u.fld Reg.HLTH_AVS 0 10) (hquiet : limited u.health.avsAt (us 100) u.now = false) :
    exec (.avsStep t) s = .next (({ u with
      health := { u.health with sent := some (u.health.volts + 5), tries := 0, avsAt := some u.now } }).emit (.avs (u.health.volts + 5))) := by
  have hexec : exec (.avsStep t) s = execAvsStep t s := rfl
  have hup : u.health.volts < u.fld Reg.HLTH_AVS 0 10 := by omega
  have hmoves : ¬(u.health.volts + 5 = u.health.volts) := by omega
  have haim : ¬(u.fld Reg.HLTH_AVS 0 10 = 0) := by omega
  rw [hexec, execAvsStep, hu]
  simp only [hreached, hidle, hup, min_eq_right hgoal, hmoves, haim, hquiet, if_true, Bool.not_true, Bool.false_eq_true, Option.isSome_none,
    or_self, if_false]

theorem exec_avsResponse_good (hsent : u.health.sent = some v) :
    exec (.avsResponse t true) s = .next { u with health := { u.health with sent := none, volts := v } } := by
  have hexec : exec (.avsResponse t true) s = execAvsResponse t true s := rfl
  rw [hexec, execAvsResponse, hu]
  simp only [hsent, if_true]

theorem exec_avsResponse_again (hsent : u.health.sent = some v) (htries : u.health.tries < 2) : exec (.avsResponse t false) s =
    .next (({ u with health := { u.health with tries := u.health.tries + 1 } }).emit (.avs v)) := by
  have hexec : exec (.avsResponse t false) s = execAvsResponse t false s := rfl
  rw [hexec, execAvsResponse, hu]
  simp only [hsent, htries, Bool.false_eq_true, if_true, if_false]

theorem exec_avsResponse_ends (hsent : u.health.sent = some v) (htries : 2 ≤ u.health.tries) :
    exec (.avsResponse t false) s = .next { u with health := { u.health with sent := none } } := by
  have hexec : exec (.avsResponse t false) s = execAvsResponse t false s := rfl
  rw [hexec, execAvsResponse, hu]
  simp only [hsent, Nat.not_lt.mpr htries, Bool.false_eq_true, if_false]

end

/-! ## An item resolves -/

/-- A calibration run goes on with a measurement, or ends. -/
def State.withCal (s : State) (c : Option CalRun) : State := { s with health := { s.health with cal := c } }

/-- The registers that sampling of the thermistors writes. -/
def thmRegs : List Nat := (List.range 16).flatMap fun n => [Reg.EMIT_THM n, Reg.EMIT_ZONE_STAT n]

theorem State.startThm_keeps {β : Type} {g : State → β}
    (hstart : ∀ (s : State) (x : List ThmState), g { s with emit_ := { s.emit_ with thm := x } } = g s)
    (hset : ∀ (s : State), ∀ a ∈ thmRegs, ∀ w, g (s.setReg a w) = g s) (s : State) : g (s.startThm s.thmEnabled) = g s := by
  have hmem (n : Nat) (hn : n < 16) : Reg.EMIT_THM n ∈ thmRegs ∧ Reg.EMIT_ZONE_STAT n ∈ thmRegs :=
    ⟨List.mem_flatMap.mpr ⟨n, List.mem_range.mpr hn, List.mem_cons_self⟩,
      List.mem_flatMap.mpr ⟨n, List.mem_range.mpr hn, List.mem_cons_of_mem _ List.mem_cons_self⟩⟩
  unfold State.startThm
  extract_lets fresh thm emit v
  refine (State.each_keeps_mem (fun n k hk => ?_) v).trans (hstart s thm)
  have hk16 : k < 16 := List.mem_range.mp (List.mem_filter.mp hk).1
  obtain ⟨hthm, hzone⟩ := hmem k hk16
  exact (State.showZone_keeps (fun n w => hset n _ hzone w) _).trans (hset n _ hthm _)

/-- The registers that an item's value in effect writes. -/
def State.calEffect (s : State) (i : Nat) : State := (s.applyCal i).refreshCalSum

theorem Reg.HLTH_CAL_STAT_ne {i : Nat} (hi : i < 0x230) :
    Reg.HLTH_CAL_SUM ≠ Reg.HLTH_CAL_STAT i ∧ Reg.EMIT_IREF_STAT i ≠ Reg.HLTH_CAL_STAT i ∧ Reg.HLTH_CAL_SUM ≠ Reg.HLTH_CAL_POWERUP i ∧
      Reg.EMIT_IREF_STAT i ≠ Reg.HLTH_CAL_POWERUP i ∧ Reg.HLTH_CAL_STAT i ≠ Reg.HLTH_CAL_POWERUP i := by
  simp only [Reg.HLTH_CAL_SUM, Reg.HLTH_CAL_STAT, Reg.EMIT_IREF_STAT, Reg.HLTH_CAL_POWERUP]
  omega

theorem State.applyCal_cases (s : State) (i : Nat) : ∃ v w,
    s.applyCal i = (s.setFld (Reg.HLTH_CAL_STAT i) 2 2 v).setFld (Reg.EMIT_IREF_STAT i) 16 8 w ∨
    s.applyCal i = s.setFld (Reg.HLTH_CAL_STAT i) 2 2 v := by
  unfold State.applyCal
  extract_lets v n
  refine ⟨v.2, v.1, ?_⟩
  split
  · exact Or.inl rfl
  · exact Or.inr rfl

/-- The result code of an item stands below its source. -/
theorem State.fld_calEffect (s : State) {i : Nat} (hi : i < 0x230) :
    (s.calEffect i).fld (Reg.HLTH_CAL_STAT i) 0 2 = s.fld (Reg.HLTH_CAL_STAT i) 0 2 := by
  obtain ⟨hsum, hiref, -, -, -⟩ := Reg.HLTH_CAL_STAT_ne hi
  have hsource (v : Nat) : (s.setFld (Reg.HLTH_CAL_STAT i) 2 2 v).fld (Reg.HLTH_CAL_STAT i) 0 2 = s.fld (Reg.HLTH_CAL_STAT i) 0 2 :=
    State.fld_setFld_same _ _ _ _ _ _ _ (by decide)
  rw [State.calEffect, State.refreshCalSum, State.fld, State.reg_setNat, if_neg hsum, ← State.fld]
  obtain ⟨v, w, happly | happly⟩ := s.applyCal_cases i
  · rw [happly, State.fld_setFld_ne _ _ _ _ _ _ _ _ hiref, hsource]
  · rw [happly, hsource]

/-- The value found at power-up stands. -/
theorem State.nat_calEffect (s : State) {i : Nat} (hi : i < 0x230) :
    (s.calEffect i).nat (Reg.HLTH_CAL_POWERUP i) = s.nat (Reg.HLTH_CAL_POWERUP i) := by
  obtain ⟨-, -, hsum, hiref, hstat⟩ := Reg.HLTH_CAL_STAT_ne hi
  rw [State.calEffect, State.refreshCalSum, State.nat_setNat_ne _ _ hsum]
  obtain ⟨v, w, happly | happly⟩ := s.applyCal_cases i
  · rw [happly, State.nat, State.reg_setFld_ne _ _ _ _ _ _ hiref, State.reg_setFld_ne _ _ _ _ _ _ hstat, State.nat]
  · rw [happly, State.nat, State.reg_setFld_ne _ _ _ _ _ _ hstat, State.nat]

theorem State.calEffect_keeps {β : Type} {g : State → β} (h : ∀ (s : State) (a : Nat) (w : Word), g (s.setReg a w) = g s) (s : State) (i : Nat) :
    g (s.calEffect i) = g s := by
  refine (h _ _ _).trans ?_
  obtain ⟨v, w, happly | happly⟩ := s.applyCal_cases i
  · rw [happly]
    exact (h _ _ _).trans (h _ _ _)
  · rw [happly]
    exact h _ _ _

/-- The registers of an item that resolves with a trim, or without one. -/
def State.calTrimmed (s : State) (i result : Nat) (trim : Option Nat) : State :=
  ((match trim with
    | some v => s.setNat (Reg.HLTH_CAL_POWERUP i) v
    | none => s).setFld (Reg.HLTH_CAL_STAT i) 0 2 result).calEffect i

/-- An item that resolves writes its registers, and the ADC's reference may start the thermistors. -/
theorem State.calResolve_cases (s : State) (i result : Nat) (trim : Option Nat) : ∃ h : HealthState,
    s.calResolve i result trim = ({ s with health := h } : State).calTrimmed i result trim ∨
    s.calResolve i result trim = (({ s with health := h } : State).calTrimmed i result trim).startThm
      (({ s with health := h } : State).calTrimmed i result trim).thmEnabled := by
  unfold State.calResolve
  extract_lets old popped trimmed shown
  refine ⟨popped.health, ?_⟩
  split
  · exact Or.inr rfl
  · exact Or.inl rfl

/-- What an item that resolves leaves alone. -/
theorem State.calResolve_keeps {β : Type} {g : State → β} (hhealth : ∀ (s : State) (h : HealthState), g { s with health := h } = g s)
    (hthm : ∀ (s : State) (x : List ThmState), g { s with emit_ := { s.emit_ with thm := x } } = g s)
    (hset : ∀ (s : State) (a : Nat) (w : Word), g (s.setReg a w) = g s) (s : State) (i result : Nat) (trim : Option Nat) :
    g (s.calResolve i result trim) = g s := by
  have htrimmed (h : HealthState) : g (({ s with health := h } : State).calTrimmed i result trim) = g s := by
    refine (State.calEffect_keeps hset _ i).trans ((hset _ _ _).trans ?_)
    cases trim
    · exact hhealth s h
    · exact (hset _ _ _).trans (hhealth s h)
  obtain ⟨h, hresolve | hresolve⟩ := s.calResolve_cases i result trim
  · rw [hresolve, htrimmed]
  · rw [hresolve, State.startThm_keeps hthm fun s a _ w => hset s a w, htrimmed]

theorem thmRegs_ne {i : Nat} (hi : i < 0x230) : ∀ a ∈ thmRegs, a ≠ Reg.HLTH_CAL_STAT i ∧ a ≠ Reg.HLTH_CAL_POWERUP i := by
  intro a ha
  obtain ⟨n, hn, hreg⟩ := List.mem_flatMap.mp ha
  have hn16 : n < 16 := List.mem_range.mp hn
  obtain rfl | rfl : a = Reg.EMIT_THM n ∨ a = Reg.EMIT_ZONE_STAT n := by simpa using hreg
  · simp only [Reg.EMIT_THM, Reg.HLTH_CAL_STAT, Reg.HLTH_CAL_POWERUP]
    omega
  · simp only [Reg.EMIT_ZONE_STAT, Reg.HLTH_CAL_STAT, Reg.HLTH_CAL_POWERUP]
    omega

theorem State.fld_calTrimmed (s : State) {i result : Nat} (hi : i < 0x230) (hresult : result < 4) (trim : Option Nat) :
    (s.calTrimmed i result trim).fld (Reg.HLTH_CAL_STAT i) 0 2 = result := by
  rw [State.calTrimmed.eq_def, State.fld_calEffect _ hi, State.fld_setFld_self _ _ _ _ _ (by decide)]
  exact Nat.mod_eq_of_lt hresult

theorem State.fld_calResolve (s : State) {i result : Nat} (hi : i < 0x230) (hresult : result < 4) (trim : Option Nat) :
    (s.calResolve i result trim).fld (Reg.HLTH_CAL_STAT i) 0 2 = result := by
  obtain ⟨h, hresolve | hresolve⟩ := s.calResolve_cases i result trim
  · rw [hresolve, State.fld_calTrimmed _ hi hresult]
  · rw [hresolve]
    refine Eq.trans ?_ (State.fld_calTrimmed ({ s with health := h } : State) hi hresult trim)
    exact State.startThm_keeps (g := fun s => s.fld (Reg.HLTH_CAL_STAT i) 0 2) (fun _ _ => rfl)
      (fun s a ha w => by rw [State.fld, State.reg_setReg_ne _ _ _ _ (thmRegs_ne hi a ha).1, ← State.fld]) _

/-- The value of an item at power-up, with its trim where it found one. -/
theorem State.nat_calTrimmed (s : State) {i : Nat} (hi : i < 0x230) (result : Nat) (trim : Option Nat) :
    (s.calTrimmed i result trim).nat (Reg.HLTH_CAL_POWERUP i) = trim.elim (s.nat (Reg.HLTH_CAL_POWERUP i)) (· % 2 ^ 32) := by
  obtain ⟨-, -, -, -, hstat⟩ := Reg.HLTH_CAL_STAT_ne hi
  rw [State.calTrimmed.eq_def, State.nat_calEffect _ hi, State.nat, State.reg_setFld_ne _ _ _ _ _ _ hstat, ← State.nat]
  cases trim with
  | none => rfl
  | some v => exact State.nat_setNat_self _ _ _

theorem State.nat_calResolve (s : State) {i : Nat} (hi : i < 0x230) (result : Nat) (trim : Option Nat) :
    (s.calResolve i result trim).nat (Reg.HLTH_CAL_POWERUP i) = trim.elim (s.nat (Reg.HLTH_CAL_POWERUP i)) (· % 2 ^ 32) := by
  obtain ⟨h, hresolve | hresolve⟩ := s.calResolve_cases i result trim
  · rw [hresolve, State.nat_calTrimmed _ hi]
    rfl
  · rw [hresolve]
    refine Eq.trans ?_ (State.nat_calTrimmed ({ s with health := h } : State) hi result trim)
    exact State.startThm_keeps (g := fun s => s.nat (Reg.HLTH_CAL_POWERUP i)) (fun _ _ => rfl)
      (fun s a ha w => by rw [State.nat, State.reg_setReg_ne _ _ _ _ (thmRegs_ne hi a ha).2, ← State.nat]) _

/-! ## An item fails -/

theorem State.fld_calFail (s : State) {i : Nat} (hi : i < 0x230) (reason : Nat) (got : List (Option Nat)) :
    (s.calFail i reason got).fld (Reg.HLTH_CAL_STAT i) 0 2 = 3 := by
  rw [State.calFail, State.fld_raise, State.fld_calResolve _ hi (by decide)]

theorem State.nat_calFail (s : State) {i : Nat} (hi : i < 0x230) (reason : Nat) (got : List (Option Nat)) :
    (s.calFail i reason got).nat (Reg.HLTH_CAL_POWERUP i) = s.nat (Reg.HLTH_CAL_POWERUP i) := by
  rw [State.calFail, State.nat, State.reg_raise, ← State.nat, State.nat_calResolve _ hi]
  rfl

theorem State.raisedBy_calFail (s : State) (i reason a b : Nat) (got : List (Option Nat)) (hi : i < 0x230) (hreason : reason < 2 ^ 32) :
    RaisedBy s (s.calFail i reason (some a :: some b :: none :: got)) [(Ev.CAL_FAIL, [i, reason, a % 2 ^ 32, b % 2 ^ 32, 0])] := by
  have hresolve : (s.calResolve i 3 none).raised = s.raised :=
    State.calResolve_keeps (g := State.raised) (fun _ _ => rfl) (fun _ _ => rfl) (fun _ _ _ => rfl) s i 3 none
  have hmod : [i, reason, a, b, 0].map (· % 2 ^ 32) = [i, reason, a % 2 ^ 32, b % 2 ^ 32, 0] := by
    simp only [List.map_cons, List.map_nil, Nat.mod_eq_of_lt hreason, Nat.mod_eq_of_lt (show i < 2 ^ 32 by omega), Nat.zero_mod]
  rw [← hmod]
  exact RaisedBy.of_raise hresolve _ _

/-! ## Measurements of an item -/

/-- Two measurements that lie within the tolerance of each other agree (R412). -/
theorem calPair_agree {tol a b : Nat} (hup : a ≤ b + tol) (hdown : b ≤ a + tol) : calPair tol [some a, some b] = some (a, b) :=
  if_pos ⟨hup, hdown⟩

/-- A third measurement without a value agrees with neither of the first two, and they do not agree with each other's place. -/
theorem calPair_timeout (tol : Nat) (a b : Option Nat) : calPair tol [a, b, none] = none := by
  cases a <;> cases b <;> rfl

section
variable {t i v c : Nat} {rest : List Nat} {s u : State} (hu : s.advance t = u)
include hu

theorem exec_calMeasureDone_first (hcal : u.health.cal = some { items := i :: rest, since := c }) : exec (.calMeasureDone t i v) s =
    .next { u with health := { u.health with cal := some { items := i :: rest, got := [some v], since := u.now } } } := by
  have hexec : exec (.calMeasureDone t i v) s = execCalMeasureDone t i v s := rfl
  rw [hexec, execCalMeasureDone, hu, State.calMeasured, hcal]
  simp only [List.head?_cons, ne_eq, not_true_eq_false, if_false]
  rfl

theorem exec_calMeasureDone_resolves {a tr : Nat} (hi : i < 0x230) (hcal : u.health.cal = some { items := i :: rest, got := [some a], since := c })
    (hup : a ≤ v + calTolerance i) (hdown : v ≤ a + calTolerance i) (htrim : calTrim i (roundDiv (a + v) 2) u.now = some tr) :
    ∃ n : State, exec (.calMeasureDone t i v) s = .next n ∧ n.fld (Reg.HLTH_CAL_STAT i) 0 2 = 1 ∧
      n.nat (Reg.HLTH_CAL_POWERUP i) = tr % 2 ^ 32 ∧ n.hbm = u.hbm ∧ n.raised = u.raised := by
  have hexec : exec (.calMeasureDone t i v) s = execCalMeasureDone t i v s := rfl
  rw [hexec, execCalMeasureDone, hu, State.calMeasured, hcal]
  simp only [List.head?_cons, ne_eq, not_true_eq_false, if_false, List.cons_append, List.nil_append, calPair_agree hup hdown, htrim,
    List.length_cons, List.length_nil]
  refine ⟨_, rfl, State.fld_calResolve _ hi (by decide) _, State.nat_calResolve _ hi _ _, ?_, ?_⟩
  · exact State.calResolve_keeps (g := State.hbm) (fun _ _ => rfl) (fun _ _ => rfl) (fun _ _ _ => rfl) _ _ _ _
  · exact State.calResolve_keeps (g := State.raised) (fun _ _ => rfl) (fun _ _ => rfl) (fun _ _ _ => rfl) _ _ _ _

theorem exec_calMeasureTimeout_fails {a b : Nat} (hi : i < 0x230) (hdue : c + ms 1 ≤ u.now)
    (hdone : (u.sameCycle fun x => match x with | .calMeasureDone _ k _ => k == i | _ => false) = false)
    (hcal : u.health.cal = some { items := i :: rest, got := [some a, some b], since := c }) :
    ∃ n : State, exec (.calMeasureTimeout t i) s = .next n ∧ n.fld (Reg.HLTH_CAL_STAT i) 0 2 = 3 ∧
      n.nat (Reg.HLTH_CAL_POWERUP i) = u.nat (Reg.HLTH_CAL_POWERUP i) ∧
      RaisedBy u n [(Ev.CAL_FAIL, [i, 1, a % 2 ^ 32, b % 2 ^ 32, 0])] := by
  have hexec : exec (.calMeasureTimeout t i) s = execCalMeasureTimeout t i s := rfl
  have hover : (u.health.cal.any fun c => decide (c.since + ms 1 ≤ u.now)) = true := by
    rw [hcal, Option.any_some]
    exact decide_eq_true hdue
  have hnone : ¬(((u.sameCycle fun x => match x with | .calMeasureDone _ k _ => k == i | _ => false) ||
      !(u.health.cal.any fun c => decide (c.since + ms 1 ≤ u.now))) = true) := by
    rw [hdone, hover]
    exact Bool.false_ne_true
  have hfails : u.calMeasured i none =
      (u.withCal (some { items := i :: rest, got := [some a, some b, none], since := u.now })).calFail i 1 [some a, some b, none] := by
    rw [State.calMeasured, hcal]
    simp only [List.head?_cons, ne_eq, not_true_eq_false, if_false, List.cons_append, List.nil_append, calPair_timeout, List.length_cons,
      List.length_nil]
    rfl
  have hnat (run : Option CalRun) : ((u.withCal run).calFail i 1 [some a, some b, none]).nat (Reg.HLTH_CAL_POWERUP i) =
      u.nat (Reg.HLTH_CAL_POWERUP i) := State.nat_calFail _ hi 1 _
  have hraised (run : Option CalRun) : RaisedBy u ((u.withCal run).calFail i 1 [some a, some b, none])
      [(Ev.CAL_FAIL, [i, 1, a % 2 ^ 32, b % 2 ^ 32, 0])] := State.raisedBy_calFail _ i 1 a b [] hi (by decide)
  refine ⟨_, hexec.trans ?_, State.fld_calFail _ hi 1 _, hnat _, hraised (some { items := i :: rest, got := [some a, some b, none], since := u.now })⟩
  rw [execCalMeasureTimeout, hu]
  refine congrArg Host.Outcome.next ((if_neg ?_).trans hfails)
  exact hnone

end

/-- Settles O54: the converter steps by 5 mV and retries twice, and a calibration item is resolved by two measurements that agree. -/
theorem voltageStepsAndCalibration : Obligations.VoltageStepsAndCalibration := by
  unfold Obligations.VoltageStepsAndCalibration
  refine ⟨?_, ?_, ?_, ?_, ?_⟩
  case refine_1 => exact fun t s u hu hreached hidle hgoal hquiet => exec_avsStep_up hu hreached hidle hgoal hquiet
  case refine_2 => exact fun t v s u hu hsent => ⟨exec_avsResponse_good hu hsent, exec_avsResponse_again hu hsent, exec_avsResponse_ends hu hsent⟩
  case refine_3 => exact fun t i v c rest s u hu hcal => exec_calMeasureDone_first hu hcal
  case refine_4 =>
    exact fun t i a v c tr rest s u hu hi hcal hup hdown htrim => exec_calMeasureDone_resolves hu hi hcal hup hdown htrim
  case refine_5 =>
    intro t i a b c rest s u hu hi hdue hdone hcal _
    exact exec_calMeasureTimeout_fails hu hi hdue ((State.sameCycle_congr fun x => by cases x <;> rfl).trans hdone) hcal

end Sys2Proof.Machine
end

section
/-! Ageing, the margin re-plan and HLTH_CTL (R404, R405, R415 to R418). -/

namespace Sys2Proof.Machine

/-! ## The margin and the measurement of the pairs -/

/-- The registers that show the margin. -/
theorem State.refreshMargin_eq (s : State) : ∃ x y v w, s.refreshMargin =
    (((s.setFld Reg.HLTH_MARGIN 0 16 x).setFld Reg.HLTH_MARGIN 16 8 y).setFld Reg.HLTH_AVS 0 10 v).setFld Reg.HLTH_AVS 16 10 w := ⟨_, _, _, _, rfl⟩

theorem State.reg_refreshMargin_ne (s : State) {a : Nat} (hmargin : Reg.HLTH_MARGIN ≠ a) (havs : Reg.HLTH_AVS ≠ a) :
    s.refreshMargin.reg a = s.reg a := by
  obtain ⟨x, y, v, w, h⟩ := s.refreshMargin_eq
  rw [h, State.reg_setFld_ne _ _ _ _ _ _ havs, State.reg_setFld_ne _ _ _ _ _ _ havs, State.reg_setFld_ne _ _ _ _ _ _ hmargin,
    State.reg_setFld_ne _ _ _ _ _ _ hmargin]

/-- A margin that is worked out leaves the choice of the divider. -/
theorem State.bit_refreshMargin_fixed (s : State) : s.refreshMargin.bit Reg.HLTH_MARGIN 24 = s.bit Reg.HLTH_MARGIN 24 := by
  obtain ⟨x, y, v, w, h⟩ := s.refreshMargin_eq
  have hne : Reg.HLTH_AVS ≠ Reg.HLTH_MARGIN := by decide
  rw [h, State.bit, State.reg_setFld_ne _ _ _ _ _ _ hne, State.reg_setFld_ne _ _ _ _ _ _ hne, ← State.bit,
    State.bit_setFld_outside _ _ _ _ _ _ (by decide), State.bit_setFld_outside _ _ _ _ _ _ (by decide)]

/-- What a measurement of the pairs leaves alone. -/
theorem State.measurePairs_keeps {β : Type} {g : State → β} (h : ∀ (s : State) (a : Nat) (w : Word), g (s.setReg a w) = g s) (s : State)
    (ps : List (Nat × Nat)) : g (s.measurePairs ps) = g s := by
  unfold State.measurePairs
  extract_lets d stored
  obtain ⟨x, y, v, w, hmargin⟩ := (stored.setFld Reg.HLTH_AGE 0 20 (roundDiv (topEight d).sum 8)).refreshMargin_eq
  rw [hmargin]
  exact (h _ _ _).trans ((h _ _ _).trans ((h _ _ _).trans ((h _ _ _).trans ((h _ _ _).trans (State.each_keeps (fun s x => h _ _ _) s _)))))

theorem Reg.HLTH_RO_injective : Function.Injective Reg.HLTH_RO := by
  intro a b h
  simp only [Reg.HLTH_RO] at h
  omega

theorem Reg.HLTH_RO_ne {k : Nat} (hk : k < 64) : Reg.HLTH_MARGIN ≠ Reg.HLTH_RO k ∧ Reg.HLTH_AVS ≠ Reg.HLTH_RO k ∧ Reg.HLTH_AGE ≠ Reg.HLTH_RO k := by
  simp only [Reg.HLTH_MARGIN, Reg.HLTH_AVS, Reg.HLTH_AGE, Reg.HLTH_RO]
  omega

theorem roDrift_lt (p : Nat × Nat) : roDrift p < 2 ^ 32 := by
  unfold roDrift
  split <;> omega

/-- Each pair shows its drift (R416). -/
theorem State.nat_measurePairs_ro (s : State) {ps : List (Nat × Nat)} {k : Nat} (hk : k < min 64 ps.length) :
    (s.measurePairs ps).nat (Reg.HLTH_RO k) = roDrift (ps.getD k (0, 0)) := by
  obtain ⟨hk64, hlen⟩ := lt_min_iff.mp hk
  obtain ⟨hmargin, havs, hage⟩ := Reg.HLTH_RO_ne hk64
  have hdrift : ((ps.take 64).map roDrift)[k]? = some (roDrift (ps.getD k (0, 0))) := by
    rw [List.getElem?_map, List.getElem?_take_of_lt hk64, List.getElem?_eq_getElem hlen, Option.map_some, List.getD_eq_getElem _ _ hlen]
  unfold State.measurePairs
  extract_lets d stored
  have hstored : stored.nat (Reg.HLTH_RO k) = roDrift (ps.getD k (0, 0)) := by
    have hrow := State.nat_writeRow Reg.HLTH_RO_injective hdrift s (k := 0)
    rw [Nat.zero_add, Nat.mod_eq_of_lt (roDrift_lt _)] at hrow
    exact hrow
  rw [State.nat, State.reg_refreshMargin_ne _ hmargin havs, State.reg_setFld_ne _ _ _ _ _ _ hage, ← State.nat, hstored]

/-- A measurement leaves the hours counted. -/
theorem State.fld_measurePairs_hours (s : State) (ps : List (Nat × Nat)) : (s.measurePairs ps).fld Reg.HLTH_AGE 20 12 = s.fld Reg.HLTH_AGE 20 12 := by
  unfold State.measurePairs
  extract_lets d stored
  have hstored : stored.fld Reg.HLTH_AGE 20 12 = s.fld Reg.HLTH_AGE 20 12 := by
    refine State.each_keeps_mem (g := fun s => s.fld Reg.HLTH_AGE 20 12) (fun s x hx => ?_) s
    have hlt : x.2 < 0 + ((ps.take 64).map roDrift).length := (List.mem_zipIdx hx).2.1
    rw [List.length_map, List.length_take] at hlt
    rw [State.fld, State.reg_setNat, if_neg (Reg.HLTH_RO_ne (by omega)).2.2.symm, ← State.fld]
  rw [State.fld, State.reg_refreshMargin_ne _ (by decide) (by decide), ← State.fld, State.fld_setFld_same _ _ _ _ _ _ _ (by decide), hstored]

/-! ## The log -/

/-- A record of the log writes no register below the log. -/
theorem State.reg_healthLog_below (s : State) (kind : Nat) (values : List Nat) {a : Nat} (ha : a < Reg.HLTH_LOG 0) :
    (s.healthLog kind values).reg a = s.reg a := by
  refine State.each_keeps (g := fun s => s.reg a) (fun n i => ?_) s _
  have hne : Reg.HLTH_LOG (16 * (s.health.logPos % 1024) + i) ≠ a := by
    simp only [Reg.HLTH_LOG] at ha ⊢
    omega
  exact (State.reg_setNat _ _ _ _).trans (if_neg hne)

theorem State.logPos_healthLog (s : State) (kind : Nat) (values : List Nat) :
    (s.healthLog kind values).health.logPos = (s.health.logPos + 1) % 1024 := rfl

theorem State.healthLog_keeps {β : Type} {g : State → β} (h : ∀ (s : State) (a : Nat) (w : Word), g (s.setReg a w) = g s)
    (hhealth : ∀ (s : State) (x : HealthState), g { s with health := x } = g s) (s : State) (kind : Nat) (values : List Nat) :
    g (s.healthLog kind values) = g s :=
  (hhealth _ _).trans (State.each_keeps (fun _ _ => h _ _ _) s _)

/-! ## The hourly measurement -/

section
variable {t : Nat} {s u : State} (hu : s.advance t = u)
include hu

theorem exec_ageingMeasure {ps : List (Nat × Nat)} (hon : u.healthOn = true) (hhour : limited u.health.ageAt hourCycles u.now = false) :
    ∃ a b, exec (.ageingMeasure t ps) s = .next
      ((((({ u with health := { u.health with ageAt := some u.now } } : State).measurePairs ps).incFld
        Reg.HLTH_AGE 20 12 1).healthLog 0 a).healthLog 2 b) := by
  have hexec : exec (.ageingMeasure t ps) s = execAgeingMeasure t ps s := rfl
  rw [hexec, execAgeingMeasure, hu]
  simp only [hon, hhour, Bool.not_true]
  exact ⟨_, _, rfl⟩

theorem exec_ageingMeasure_shows {ps : List (Nat × Nat)} (hon : u.healthOn = true) (hhour : limited u.health.ageAt hourCycles u.now = false) :
    ∃ n : State, exec (.ageingMeasure t ps) s = .next n ∧
      (∀ k : Nat, k < min 64 ps.length → n.nat (Reg.HLTH_RO k) = roDrift (ps.getD k (0, 0))) ∧
      n.fld Reg.HLTH_AGE 20 12 = min 4095 (u.fld Reg.HLTH_AGE 20 12 + 1) ∧
      n.health.logPos = ((u.health.logPos + 1) % 1024 + 1) % 1024 ∧ n.hbm = u.hbm ∧ n.raised = u.raised := by
  obtain ⟨a, b, hexec⟩ := exec_ageingMeasure hu (ps := ps) hon hhour
  have hkeeps {β : Type} {g : State → β} (hreg : ∀ (s : State) (a : Nat) (w : Word), g (s.setReg a w) = g s) (s : State) :
      g ((s.measurePairs ps).incFld Reg.HLTH_AGE 20 12 1) = g s := (hreg _ _ _).trans (State.measurePairs_keeps hreg s ps)
  refine ⟨_, hexec, fun k hk => ?_, ?_, ?_, ?_, ?_⟩
  · have hlow : Reg.HLTH_RO k < Reg.HLTH_LOG 0 := by
      simp only [Reg.HLTH_RO, Reg.HLTH_LOG]
      omega
    have hage : Reg.HLTH_AGE ≠ Reg.HLTH_RO k := (Reg.HLTH_RO_ne (lt_min_iff.mp hk).1).2.2
    rw [State.nat, State.reg_healthLog_below _ _ _ hlow, State.reg_healthLog_below _ _ _ hlow, State.incFld, State.reg_setFld_ne _ _ _ _ _ _ hage,
      ← State.nat, State.nat_measurePairs_ro _ hk]
  · rw [State.fld, State.reg_healthLog_below _ _ _ (by decide), State.reg_healthLog_below _ _ _ (by decide), ← State.fld,
      State.fld_incFld_self _ _ _ _ _ (by decide), State.fld_measurePairs_hours]
    rfl
  · rw [State.logPos_healthLog, State.logPos_healthLog, hkeeps (g := fun s => s.health.logPos) fun _ _ _ => rfl]
  · exact (State.healthLog_keeps (fun _ _ _ => rfl) (fun _ _ => rfl) _ _ _).trans
      ((State.healthLog_keeps (fun _ _ _ => rfl) (fun _ _ => rfl) _ _ _).trans (hkeeps (g := State.hbm) (fun _ _ _ => rfl) _))
  · exact (State.healthLog_keeps (fun _ _ _ => rfl) (fun _ _ => rfl) _ _ _).trans
      ((State.healthLog_keeps (fun _ _ _ => rfl) (fun _ _ => rfl) _ _ _).trans (hkeeps (g := State.raised) (fun _ _ _ => rfl) _))

/-! ## HLTH_CTL -/

theorem exec_hlthCtlRead {req : Requester} (haccepts : u.accepts req Reg.HLTH_CTL 1) : exec (.hlthCtlRead t req) s = .next u := by
  have hexec : exec (.hlthCtlRead t req) s = execHlthCtlRead t req s := rfl
  rw [hexec, execHlthCtlRead, hu, State.control_ok haccepts (by decide)]

theorem exec_hlthCtlRestore {req : Requester} (haccepts : u.accepts req Reg.HLTH_CTL 2) : exec (.hlthCtlRestore t req) s =
    .next (if u.modeCode = Mode.SERVICE then { u with health := { u.health with restore := some u.now } }
      else u.raise Ev.HLTH_CMD_REFUSED [Reg.HLTH_CTL, u.modeCode]) := by
  have hexec : exec (.hlthCtlRestore t req) s = execHlthCtlRestore t req s := rfl
  rw [hexec, execHlthCtlRestore, hu, State.control_ok haccepts (by decide)]

theorem exec_hlthCtlReplan {req : Requester} {v : State} (haccepts : u.accepts req Reg.HLTH_CTL 4) (hservice : u.modeCode = Mode.SERVICE)
    (hsafe : u.mode.serviceSafe = false) (hidle : u.bit Reg.HLTH_STAT 6 = false) (hv : u.setBit Reg.HLTH_STAT 6 true = v) :
    exec (.hlthCtlReplan t req) s = .next ((((v.each v.replanLanes State.retrainNow).hbmOff false).each
      ((List.range 8).map (· + 55)).reverse State.dropDomain).askDomains ((List.range 8).map (· + 55))) := by
  have hexec : exec (.hlthCtlReplan t req) s = execHlthCtlReplan t req s := rfl
  have hadmits : ¬(u.modeCode ≠ Mode.SERVICE ∨ u.mode.serviceSafe = true ∨ u.bit Reg.HLTH_STAT 6 = true) := by
    rw [hsafe, hidle, hservice]
    decide
  rw [hexec, execHlthCtlReplan, hu, State.control_ok haccepts (by decide), if_neg hadmits, hv]

end

/-! ## Marks are cleared -/

/-- A sensor whose mark is cleared. -/
def State.clearSuspect (s : State) (n : Nat) : State :=
  (s.setSensor n { s.sensor n with far := 0, near := 0, fifth := false }).setBit (Reg.HLTH_DIE_TEMP n) 16 false

theorem Reg.HLTH_DIE_TEMP_ne {j k : Nat} (h : j ≠ k) : Reg.HLTH_DIE_TEMP j ≠ Reg.HLTH_DIE_TEMP k := by
  simp only [Reg.HLTH_DIE_TEMP]
  omega

theorem State.length_sensors_clearSuspect (s : State) (n : Nat) : (s.clearSuspect n).health.sensors.length = s.health.sensors.length :=
  List.length_set ..

theorem State.clearSuspect_self {s : State} {k : Nat} (h : k < s.health.sensors.length) :
    (s.clearSuspect k).suspect k = false ∧ ((s.clearSuspect k).sensor k).far = 0 :=
  ⟨State.bit_setBit_self _ _ _ _ (by decide), congrArg DieSensor.far (State.sensor_setSensor h _)⟩

theorem State.clearSuspect_ne (s : State) {j k : Nat} (h : j ≠ k) :
    (s.clearSuspect j).suspect k = s.suspect k ∧ (s.clearSuspect j).sensor k = s.sensor k := by
  refine ⟨State.bit_setBit_ne _ _ _ _ _ _ (Reg.HLTH_DIE_TEMP_ne h), ?_⟩
  exact (getD_set_ite _ _ _ _ _).trans (if_neg fun hk => h hk.1)

/-- Every mark is cleared (R404). -/
theorem State.each_clearSuspect {s : State} (hlen : s.health.sensors.length = 32) {k : Nat} (hk : k < 32) :
    (s.each (List.range 32) State.clearSuspect).suspect k = false ∧ ((s.each (List.range 32) State.clearSuspect).sensor k).far = 0 := by
  refine State.each_once (P := fun s => s.health.sensors.length = 32) (Q := fun s => s.suspect k = false ∧ (s.sensor k).far = 0)
    List.nodup_range (List.mem_range.mpr hk) (fun s j _ _ h => (s.length_sensors_clearSuspect j).trans h)
    (fun s h => State.clearSuspect_self (by omega)) (fun s j hj _ h => ?_) hlen
  obtain ⟨hmark, hsensor⟩ := s.clearSuspect_ne hj
  rw [hmark, hsensor]
  exact h

theorem State.sameRegs_clearSuspect (s : State) : SameRegs s (s.each (List.range 32) State.clearSuspect) ((List.range 32).map Reg.HLTH_DIE_TEMP) := by
  have hone (s : State) (n : Nat) : SameRegs s (s.clearSuspect n) [Reg.HLTH_DIE_TEMP n] :=
    SameRegs.setReg (n := s.setSensor n _) (SameRegs.refl s _) List.mem_cons_self _
  rw [List.map_eq_flatMap]
  exact SameRegs.each (f := State.clearSuspect) hone s (List.range 32)

theorem State.clearSuspect_hbm (s : State) (n : Nat) : (s.clearSuspect n).hbm = s.hbm := rfl

theorem State.clearSuspect_raised (s : State) (n : Nat) : (s.clearSuspect n).raised = s.raised := rfl

theorem exec_hlthCtlClearSuspect {t : Nat} {s u : State} (hu : s.advance t = u) {req : Requester} (haccepts : u.accepts req Reg.HLTH_CTL 8) :
    exec (.hlthCtlClearSuspect t req) s = .next (u.each (List.range 32) State.clearSuspect) := by
  have hexec : exec (.hlthCtlClearSuspect t req) s = execHlthCtlClearSuspect t req s := rfl
  rw [hexec, execHlthCtlClearSuspect, hu, State.control_ok haccepts (by decide)]
  rfl

/-! ## A re-plan ends -/

/-- The ray clock is fixed at ÷6, or not, and the re-plan is over. -/
def State.fixDivider (s : State) (fix : Bool) (decided : Nat) : State :=
  ((({ s with health := { s.health with decided := decided } } : State).setBit Reg.HLTH_MARGIN 24 fix).setBit Reg.HLTH_STAT 6 false).refreshMargin

theorem State.bit_fixDivider (s : State) (fix : Bool) (d : Nat) :
    (s.fixDivider fix d).bit Reg.HLTH_STAT 6 = false ∧ (s.fixDivider fix d).bit Reg.HLTH_MARGIN 24 = fix := by
  refine ⟨?_, ?_⟩
  · rw [State.fixDivider, State.bit, State.reg_refreshMargin_ne _ (by decide) (by decide), ← State.bit, State.bit_setBit_self _ _ _ _ (by decide)]
  · rw [State.fixDivider, State.bit_refreshMargin_fixed, State.bit_setBit_ne _ _ _ _ _ _ (by decide), State.bit_setBit_self _ _ _ _ (by decide)]

theorem State.fixDivider_keeps {β : Type} {g : State → β} (h : ∀ (s : State) (a : Nat) (w : Word), g (s.setReg a w) = g s)
    (hhealth : ∀ (s : State) (x : HealthState), g { s with health := x } = g s) (s : State) (fix : Bool) (d : Nat) :
    g (s.fixDivider fix d) = g s :=
  (h _ _ _).trans ((h _ _ _).trans ((h _ _ _).trans ((h _ _ _).trans ((h _ _ _).trans ((h _ _ _).trans (hhealth _ _))))))

theorem exec_hlthReplanDone {t : Nat} {ps : List (Nat × Nat)} {s u : State} (hu : s.advance t = u) (hruns : u.bit Reg.HLTH_STAT 6 = true) :
    ∃ d l, exec (.hlthReplanDone t ps) s =
      .next (((u.measurePairs ps).fixDivider (decide (850 < (u.measurePairs ps).vReq5)) d).raise Ev.HLTH_REPLAN_DONE l) := by
  have hexec : exec (.hlthReplanDone t ps) s = execHlthReplanDone t ps s := rfl
  rw [hexec, execHlthReplanDone, hu]
  exact ⟨_, _, congrArg Host.Outcome.next (if_neg (by rw [hruns]; decide))⟩

theorem exec_hlthReplanDone_shows {t : Nat} {ps : List (Nat × Nat)} {s u : State} (hu : s.advance t = u) (hruns : u.bit Reg.HLTH_STAT 6 = true) :
    ∃ (n : State) (e : Event), exec (.hlthReplanDone t ps) s = .next n ∧ n.bit Reg.HLTH_STAT 6 = false ∧
      n.bit Reg.HLTH_MARGIN 24 = decide (850 < (u.measurePairs ps).vReq5) ∧ n.hbm = u.hbm ∧ n.raised = u.raised ++ [e] ∧
      e.code = Ev.HLTH_REPLAN_DONE := by
  obtain ⟨d, l, hexec⟩ := exec_hlthReplanDone hu (ps := ps) hruns
  obtain ⟨hover, hfixed⟩ := (u.measurePairs ps).bit_fixDivider (decide (850 < (u.measurePairs ps).vReq5)) d
  have hkeeps {β : Type} {g : State → β} (hreg : ∀ (s : State) (a : Nat) (w : Word), g (s.setReg a w) = g s)
      (hhealth : ∀ (s : State) (x : HealthState), g { s with health := x } = g s) :
      g ((u.measurePairs ps).fixDivider (decide (850 < (u.measurePairs ps).vReq5)) d) = g u :=
    (State.fixDivider_keeps hreg hhealth _ _ _).trans (State.measurePairs_keeps hreg u ps)
  have hraised : ∃ e : Event, (((u.measurePairs ps).fixDivider (decide (850 < (u.measurePairs ps).vReq5)) d).raise Ev.HLTH_REPLAN_DONE l).raised =
      u.raised ++ [e] ∧ e.code = Ev.HLTH_REPLAN_DONE := by
    rw [State.raise_raised, hkeeps (g := State.raised) (fun _ _ _ => rfl) fun _ _ => rfl]
    exact ⟨_, rfl, rfl⟩
  obtain ⟨e, hraised, hcode⟩ := hraised
  refine ⟨_, e, hexec, ?_, ?_, ?_, hraised, hcode⟩
  · rw [State.bit_raise, hover]
  · rw [State.bit_raise, hfixed]
  · rw [State.raise_hbm]
    exact hkeeps (fun _ _ _ => rfl) fun _ _ => rfl

/-- Settles O55: the hourly measurement, a re-plan and the commands of HLTH_CTL. -/
theorem ageingAndHealthControls : Obligations.AgeingAndHealthControls := by
  unfold Obligations.AgeingAndHealthControls
  refine ⟨?_, ?_, ?_, ?_, ?_, ?_⟩
  case refine_1 => exact fun t ps s u hu hon hhour => exec_ageingMeasure_shows hu hon hhour
  case refine_2 => exact fun t req s u hu haccepts => exec_hlthCtlRead hu haccepts
  case refine_3 =>
    intro t req s u hu haccepts
    exact ⟨fun hservice => (exec_hlthCtlRestore hu haccepts).trans (congrArg _ (if_pos hservice)),
      fun hother => (exec_hlthCtlRestore hu haccepts).trans (congrArg _ (if_neg hother))⟩
  case refine_4 =>
    intro t req s u hu haccepts hlen
    refine ⟨_, exec_hlthCtlClearSuspect hu haccepts, fun k hk => State.each_clearSuspect hlen hk, ?_, State.sameRegs_clearSuspect u, ?_⟩
    · exact State.each_keeps (f := State.clearSuspect) State.clearSuspect_hbm u (List.range 32)
    · exact State.each_keeps (f := State.clearSuspect) State.clearSuspect_raised u (List.range 32)
  case refine_5 => exact fun t req s u v hu haccepts hservice hsafe hidle hv => exec_hlthCtlReplan hu haccepts hservice hsafe hidle hv
  case refine_6 => exact fun t ps s u hu hruns => exec_hlthReplanDone_shows hu hruns

end Sys2Proof.Machine
end

section
/-! Jobs of the decompression engines (R280, R287, R290, R291). -/

namespace Sys2Proof.Machine

/-! ## The checks of a job -/

/-- A job of no bytes, or one that leaves the usable range, is refused before its engine is looked at (R290). -/
theorem State.admitJob_range {u : State} {j : HankJob} (h : j.len = 0 ∨ u.usable < j.src + j.len ∨ u.usable < j.dst + j.cap) (e : Nat) :
    u.admitJob j e = .error 4 := if_pos h

/-- A refusal has a status of the register's field. -/
theorem State.admitJob_error {u : State} {j : HankJob} {e st : Nat} (h : u.admitJob j e = .error st) : st < 2 ^ 16 := by
  have hcases : st = 4 ∨ st = 5 ∨ st = 6 ∨ st = 3 := by
    unfold State.admitJob at h
    split at h
    case isTrue => exact Or.inl (Except.error.inj h).symm
    split at h
    case isTrue => exact Or.inr (Or.inl (Except.error.inj h).symm)
    split at h
    case isTrue => exact Or.inr (Or.inr (Or.inl (Except.error.inj h).symm))
    split at h
    case isTrue =>
      split at h
      · cases h
      · exact Or.inr (Or.inr (Or.inr (Except.error.inj h).symm))
    case isFalse =>
      split at h
      · cases h
      · exact Or.inr (Or.inr (Or.inr (Except.error.inj h).symm))
  omega

theorem State.hostJob_seq_lt (u : State) : u.hostJob.seq < 2 ^ 16 := Nat.mod_lt _ (by decide)

/-! ## Results -/

/-- The registers of a host job's result. -/
theorem State.nat_jobResult (s : State) {st code seq out : Nat} (h : st + code * 2 ^ 4 + seq * 2 ^ 16 < 2 ^ 32) :
    (s.jobResult st code seq out).nat Reg.HANK_JOB_RESULT = st + code * 2 ^ 4 + seq * 2 ^ 16 ∧
      (s.jobResult st code seq out).nat Reg.HANK_JOB_OUT = out % 2 ^ 32 := by
  refine ⟨?_, State.nat_setNat_self _ _ _⟩
  rw [State.jobResult, State.nat_setNat_ne _ _ (by decide), State.nat_setNat_self, Nat.mod_eq_of_lt h]

theorem State.sameRegs_jobResult (s : State) (st code seq out : Nat) :
    SameRegs s (s.jobResult st code seq out) [Reg.HANK_JOB_RESULT, Reg.HANK_JOB_OUT] :=
  ((SameRegs.refl s _).setReg List.mem_cons_self _).setReg (List.mem_cons_of_mem _ List.mem_cons_self) _

/-! ## A job is submitted -/

section
variable {t e : Nat} {req : Requester} {s u : State} (hu : s.advance t = u)
include hu

theorem exec_hankJobSubmit_queues (haccepts : u.accepts req Reg.HANK_JOB_SUBMIT 1)
    (hadmits : u.admitJob u.hostJob (u.fld Reg.HANK_JOB_CTL 1 3) = .ok e) :
    exec (.hankJobSubmit t req) s = .next (u.wakeHbm.touchHbm.queueJob e u.hostJob) := by
  have hexec : exec (.hankJobSubmit t req) s = execHankJobSubmit t req s := rfl
  rw [hexec, execHankJobSubmit, hu, State.control_ok haccepts (by decide)]
  simp only [hadmits]

theorem exec_hankJobSubmit_refuses {st : Nat} (haccepts : u.accepts req Reg.HANK_JOB_SUBMIT 1)
    (hrefuses : u.admitJob u.hostJob (u.fld Reg.HANK_JOB_CTL 1 3) = .error st) : exec (.hankJobSubmit t req) s =
    .next ((u.jobResult st 0 u.hostJob.seq 0).raise Ev.HANK_JOB_REFUSED [u.hostJob.seq, st]) := by
  have hexec : exec (.hankJobSubmit t req) s = execHankJobSubmit t req s := rfl
  rw [hexec, execHankJobSubmit, hu, State.control_ok haccepts (by decide)]
  simp only [hrefuses]

theorem exec_hankJobComplete {e : Fin 6} {j : HankJob} (hrun : (u.engine e).run = some j) :
    exec (.hankJobComplete t e) s = .next (u.jobEnds e j (u.runJob e j)) := by
  have hexec : exec (.hankJobComplete t e) s = execHankJobComplete t e s := rfl
  rw [hexec, execHankJobComplete, hu]
  simp only [hrun]

end

/-- What a refusal shows (R290). -/
theorem State.jobRefused_shows (u : State) {st seq : Nat} (hst : st < 2 ^ 16) (hseq : seq < 2 ^ 16) :
    ((u.jobResult st 0 seq 0).raise Ev.HANK_JOB_REFUSED [seq, st]).nat Reg.HANK_JOB_RESULT = st + seq * 2 ^ 16 ∧
      ((u.jobResult st 0 seq 0).raise Ev.HANK_JOB_REFUSED [seq, st]).nat Reg.HANK_JOB_OUT = 0 ∧
      RaisedBy u ((u.jobResult st 0 seq 0).raise Ev.HANK_JOB_REFUSED [seq, st]) [(Ev.HANK_JOB_REFUSED, [seq, st])] := by
  obtain ⟨hresult, hout⟩ := u.nat_jobResult (st := st) (code := 0) (seq := seq) (out := 0) (by omega)
  have hmod : [seq, st].map (· % 2 ^ 32) = [seq, st] := by
    simp only [List.map_cons, List.map_nil, Nat.mod_eq_of_lt (show seq < 2 ^ 32 by omega), Nat.mod_eq_of_lt (show st < 2 ^ 32 by omega)]
  refine ⟨?_, ?_, ?_⟩
  · rw [State.nat, State.reg_raise, ← State.nat, hresult, Nat.zero_mul, Nat.add_zero]
  · rw [State.nat, State.reg_raise, ← State.nat, hout, Nat.zero_mod]
  · have hraised := RaisedBy.of_raise (n := u.jobResult st 0 seq 0) (u := u) rfl Ev.HANK_JOB_REFUSED [seq, st]
    rw [hmod] at hraised
    exact hraised

/-! ## A host job ends -/

theorem State.hostJobEnds_done (u : State) (e : Nat) (j : HankJob) {r : JobEnd} (hgood : r.err = none) : u.hostJobEnds e j r =
    (u.jobResult 1 0 j.seq r.bytes.length).raise Ev.HANK_JOB_DONE [j.seq, 1, 0, r.bytes.length, e] := by
  rw [State.hostJobEnds, hgood]
  rfl

/-- What a host job that ends without an error shows (R287). -/
theorem State.hostJobEnds_shows (u : State) (e : Nat) {j : HankJob} {r : JobEnd} (hseq : j.seq < 65536) (hgood : r.err = none) :
    (u.hostJobEnds e j r).nat Reg.HANK_JOB_RESULT = 1 + j.seq * 2 ^ 16 ∧
      (u.hostJobEnds e j r).nat Reg.HANK_JOB_OUT = r.bytes.length % 2 ^ 32 ∧
      RaisedBy u (u.hostJobEnds e j r) [(Ev.HANK_JOB_DONE, [j.seq, 1, 0, r.bytes.length, e].map (· % 2 ^ 32))] := by
  obtain ⟨hresult, hout⟩ := u.nat_jobResult (st := 1) (code := 0) (seq := j.seq) (out := r.bytes.length) (by omega)
  rw [u.hostJobEnds_done e j hgood]
  refine ⟨?_, ?_, ?_⟩
  · rw [State.nat, State.reg_raise, ← State.nat, hresult, Nat.zero_mul, Nat.add_zero]
  · rw [State.nat, State.reg_raise, ← State.nat, hout]
  · exact RaisedBy.of_raise (n := u.jobResult 1 0 j.seq r.bytes.length) rfl _ _

/-- Settles O38: host jobs are queued or refused, and a job that ends shows its result. -/
theorem hankJobsQueueAndEnd : Obligations.HankJobsQueueAndEnd := by
  unfold Obligations.HankJobsQueueAndEnd
  refine ⟨?_, ?_, ?_, ?_, ?_⟩
  case refine_1 => exact fun t e req s u hu haccepts hadmits => exec_hankJobSubmit_queues hu haccepts hadmits
  case refine_2 =>
    intro t st req s u hu haccepts hrefuses
    obtain ⟨hresult, hout, hraised⟩ := u.jobRefused_shows (State.admitJob_error hrefuses) u.hostJob_seq_lt
    exact ⟨_, exec_hankJobSubmit_refuses hu haccepts hrefuses, hresult, hout, State.sameRegs_jobResult u st 0 u.hostJob.seq 0, rfl, hraised⟩
  case refine_3 => exact fun t e j s u hu hrun => exec_hankJobComplete hu hrun
  case refine_4 => exact fun e j r u hseq hgood => ⟨_, rfl, u.hostJobEnds_shows e hseq hgood⟩
  case refine_5 => exact fun j e u h => State.admitJob_range h e

end Sys2Proof.Machine
end

section
/-! Commands of the 2D engine (R293, R301 to R306). -/

namespace Sys2Proof.Machine

/-! ## The queue and the scoreboard -/

/-- The commands in flight with another command. -/
def State.withIssued (s : State) (q : List NeedleCmd) (l : List NeedleRun) : State := { s with needle := { s.needle with queue := q, runs := l } }

/-- A run of the scoreboard without its mark. -/
def NeedleRun.entry (r : NeedleRun) : Nat × NeedleCmd := (r.slot, r.cmd)

/-- A head of the queue that cancels marks runs, and changes nothing else. -/
theorem State.frogHead_cases (s : State) : s.frogHead = s ∨ ∃ f : NeedleRun → NeedleRun, (∀ r, (f r).entry = r.entry) ∧
    s.frogHead = { s with needle := { s.needle with runs := s.needle.runs.map f } } := by
  unfold State.frogHead
  split
  case h_2 => exact Or.inl rfl
  case h_1 c q hqueue =>
    extract_lets mark
    split
    case isTrue => exact Or.inl rfl
    case isFalse =>
      refine Or.inr ⟨mark, fun r => ?_, rfl⟩
      simp only [mark]
      split <;> rfl

theorem State.frogHead_keeps {β : Type} {g : State → β}
    (h : ∀ (s : State) (x : List NeedleRun), g { s with needle := { s.needle with runs := x } } = g s)
    (s : State) : g s.frogHead = g s := by
  obtain hsame | ⟨f, -, hmarks⟩ := s.frogHead_cases
  · rw [hsame]
  · rw [hmarks, h]

/-- The runs keep their slots and commands. -/
theorem State.entries_frogHead (s : State) : s.frogHead.needle.runs.map NeedleRun.entry = s.needle.runs.map NeedleRun.entry := by
  obtain hsame | ⟨f, hf, hmarks⟩ := s.frogHead_cases
  · rw [hsame]
  · rw [hmarks]
    exact (List.map_map ..).trans (List.map_congr_left fun r _ => hf r)

theorem State.frogHead_empty {s : State} (h : s.needle.queue = []) : s.frogHead = s := by
  unfold State.frogHead
  rw [h]

theorem State.frogHead_plain {s : State} {c : NeedleCmd} {q : List NeedleCmd} (h : s.needle.queue = c :: q) (hplain : c.frog = false) :
    s.frogHead = s := by
  unfold State.frogHead
  rw [h]
  exact if_pos (by rw [hplain]; rfl)

theorem State.issueHead_empty {s : State} (h : s.needle.queue = []) : s.issueHead = s := by
  unfold State.issueHead
  rw [h]

theorem State.issueHead_issues {s : State} {c : NeedleCmd} {q : List NeedleCmd} {k : Nat} (h : s.needle.queue = c :: q) (hfree : s.freeSlot = some k)
    (hclear : (s.holding.any fun r => conflicts c r.cmd) = false) :
    s.issueHead = s.withIssued q (s.needle.runs ++ [{ slot := k, cmd := c }]) := by
  unfold State.issueHead
  rw [h, hfree]
  exact if_neg (by rw [hclear]; decide)

theorem State.issueHead_waits {s : State} {c : NeedleCmd} {q : List NeedleCmd} {k : Nat} (h : s.needle.queue = c :: q) (hfree : s.freeSlot = some k)
    (hconflict : (s.holding.any fun r => conflicts c r.cmd) = true) : s.issueHead = s := by
  unfold State.issueHead
  rw [h, hfree]
  exact if_pos hconflict

theorem State.issueHead_keeps {β : Type} {g : State → β} (h : ∀ (s : State) (x : NeedleState), g { s with needle := x } = g s) (s : State) :
    g s.issueHead = g s := by
  unfold State.issueHead
  split
  · split
    · rfl
    · exact h _ _
  · rfl

theorem State.refreshNeedle_needle (s : State) : s.refreshNeedle.needle = s.needle := State.setNat_needle _ _ _

theorem State.refreshNeedle_hbm (s : State) : s.refreshNeedle.hbm = s.hbm := State.setNat_hbm _ _ _

theorem State.sameRegs_refreshNeedle (s : State) : SameRegs s s.refreshNeedle [Reg.NEEDLE_STAT] :=
  (SameRegs.refl s _).setReg List.mem_cons_self _

/-! ## A command is submitted -/

/-- The queue with another command behind it. -/
def State.withQueued (s : State) (q : List NeedleCmd) : State := { s with needle := { s.needle with queue := q } }

/-- The state in which the head of the queue is looked at. -/
def State.lookedAt (u : State) : State := { u with needle := { u.needle with issueAt := some u.now } }

section
variable {t : Nat} {req : Requester} {s u : State} (hu : s.advance t = u)
include hu

theorem exec_needleSubmit_queues (haccepts : u.accepts req Reg.NEEDLE_SUBMIT 1)
    (hpasses : u.captured.check (decide (64 ≤ u.needle.queue.length) && !u.headLeaves) u.usable u.venueBase = 0) : exec (.needleSubmit t req) s =
    .next ((u.wakeHbm.touchHbm.withQueued (u.needle.queue ++ [u.captured])).frogHead).refreshNeedle := by
  have hexec : exec (.needleSubmit t req) s = execNeedleSubmit t req s := rfl
  have hneedle : u.wakeHbm.touchHbm.needle = u.needle := by rw [State.touchHbm_needle, State.wakeHbm_needle]
  rw [hexec, execNeedleSubmit, hu, State.control_ok haccepts (by decide)]
  refine congrArg Host.Outcome.next ((if_pos hpasses).trans ?_)
  rw [State.withQueued, hneedle]

theorem exec_needleSubmit_rejects {r : Nat} (haccepts : u.accepts req Reg.NEEDLE_SUBMIT 1)
    (hfails : u.captured.check (decide (64 ≤ u.needle.queue.length) && !u.headLeaves) u.usable u.venueBase = r) (hr : r ≠ 0) :
    exec (.needleSubmit t req) s = .next ((u.setNat Reg.NEEDLE_RESULT (4 + r * 2 ^ 4 + u.captured.seq * 2 ^ 16)).raise
      Ev.NEEDLE_REJECTED [u.captured.seq, r, Reg.NEEDLE_SUBMIT]) := by
  have hexec : exec (.needleSubmit t req) s = execNeedleSubmit t req s := rfl
  subst hfails
  rw [hexec, execNeedleSubmit, hu, State.control_ok haccepts (by decide)]
  exact congrArg Host.Outcome.next (if_neg hr)

/-! ## The head of the queue is looked at -/

theorem exec_needleCmdIssue : exec (.needleCmdIssue t) s = .next u.lookedAt.frogHead.issueHead.frogHead.refreshNeedle := by
  have hexec : exec (.needleCmdIssue t) s = execNeedleCmdIssue t s := rfl
  rw [hexec, execNeedleCmdIssue, hu]
  rfl

/-! ## A command in flight ends -/

theorem exec_needleCmdComplete_done {k : Nat} {r : NeedleRun} (hrun : u.needleRun k = some r) (hsource : u.lostSource r.cmd = none)
    (hkept : r.frogBy = none) : exec (.needleCmdComplete t k none 0) s = .next (u.needleDone k r.cmd) := by
  have hexec : exec (.needleCmdComplete t k none 0) s = execNeedleCmdComplete t k none 0 s := rfl
  rw [hexec, execNeedleCmdComplete, hu]
  simp only [hrun, hsource, hkept]

theorem exec_needleCmdComplete_fails {k a n : Nat} {r : NeedleRun} (hrun : u.needleRun k = some r) :
    exec (.needleCmdComplete t k (some a) n) s = .next (u.needleFail k r.cmd a n) := by
  have hexec : exec (.needleCmdComplete t k (some a) n) s = execNeedleCmdComplete t k (some a) n s := rfl
  rw [hexec, execNeedleCmdComplete, hu]
  simp only [hrun]

theorem exec_needleFrogStop {k n f : Nat} {r : NeedleRun} (hrun : u.needleRun k = some r) (hfrogged : r.frogBy = some f) :
    exec (.needleFrogStop t k n) s = .next (u.frogEnd k r.cmd f n) := by
  have hexec : exec (.needleFrogStop t k n) s = execNeedleFrogStop t k n s := rfl
  obtain ⟨slot, cmd, by_⟩ := r
  obtain rfl : by_ = some f := hfrogged
  rw [hexec, execNeedleFrogStop, hu]
  simp only [hrun]

end

/-! ## What a command leaves behind -/

/-- The rows that a command writes touch HBM alone. -/
theorem State.needleWrite_keeps {β : Type} {g : State → β} (h : ∀ (s : State) (a : Nat) (bs : List Byte) (k : Nat), g (s.hbmWrite a bs k) = g s)
    (s : State) (c : NeedleCmd) (rows : List Nat) : g (s.needleWrite c rows).1 = g s :=
  State.each_keeps (fun s _ => h s _ _ _) s _

theorem State.endRun_keeps {β : Type} {g : State → β} (h : ∀ (s : State) (x : NeedleState), g { s with needle := x } = g s)
    (hset : ∀ (s : State) (a : Nat) (w : Word), g (s.setReg a w) = g s) (s : State) (k : Nat) : g (s.endRun k) = g s := by
  unfold State.endRun
  extract_lets needle left issued
  have hissued : g issued = g left := by
    simp only [issued]
    split
    · exact (State.issueHead_keeps h _).trans (State.frogHead_keeps (fun _ _ => h _ _) _)
    · rfl
  exact (hset _ _ _).trans ((State.frogHead_keeps (fun _ _ => h _ _) _).trans (hissued.trans (h _ _)))

/-- With no command waiting, a run that ends leaves the other runs. -/
theorem State.runs_endRun {s : State} (h : s.needle.queue = []) (k : Nat) : (s.endRun k).needle.runs = s.needle.runs.filter fun r => r.slot != k := by
  unfold State.endRun
  extract_lets needle left issued
  have hleft : left.frogHead = left := State.frogHead_empty h
  have hissued : issued = left := by
    simp only [issued]
    split
    · rw [hleft]
      exact State.issueHead_empty h
    · rfl
  rw [hissued, hleft]
  rfl

/-- A command that is complete: its rows are written, it leaves the scoreboard, and it shows its result. -/
def State.needleEnds (s : State) (k : Nat) (c : NeedleCmd) (rows : List Nat) (status lo : Nat) : State :=
  (((s.needleWrite c rows).1.endRun k).needleResult status 0 c.seq).incFld Reg.NEEDLE_COUNT lo 16 1

theorem State.nat_needleEnds (s : State) (k : Nat) {c : NeedleCmd} (hseq : c.seq < 65536) (rows : List Nat) {status : Nat} (hstatus : status < 16)
    (lo : Nat) : (s.needleEnds k c rows status lo).nat Reg.NEEDLE_RESULT = status + c.seq * 2 ^ 16 := by
  rw [State.needleEnds, State.nat, State.incFld, State.reg_setFld_ne _ _ _ _ _ _ (by decide), ← State.nat, State.needleResult,
    State.nat_setNat_self, Nat.zero_mul, Nat.add_zero, Nat.mod_eq_of_lt (by omega)]

theorem State.raised_needleEnds (s : State) (k : Nat) (c : NeedleCmd) (rows : List Nat) (status lo : Nat) :
    (s.needleEnds k c rows status lo).raised = s.raised := by
  rw [State.needleEnds, State.incFld_raised, State.needleResult, State.setNat_raised,
    State.endRun_keeps (g := State.raised) (fun _ _ => rfl) (fun _ _ _ => rfl), State.needleWrite_keeps fun s a bs k => s.hbmWrite_raised a k bs]

theorem State.runs_needleEnds {s : State} (h : s.needle.queue = []) (k : Nat) (c : NeedleCmd) (rows : List Nat) (status lo : Nat) :
    ((s.needleEnds k c rows status lo).needle.runs.all fun r => r.slot != k) = true := by
  have hqueue : (s.needleWrite c rows).1.needle.queue = [] :=
    (congrArg NeedleState.queue (State.needleWrite_keeps (fun _ _ _ _ => State.touchHbm_needle _) s c rows)).trans h
  rw [State.needleEnds, State.incFld_needle, State.needleResult, State.setNat_needle, State.runs_endRun hqueue, List.all_filter]
  exact List.all_eq_true.mpr fun r _ => by cases r.slot != k <;> rfl

/-- A command that is complete, with its event where it asks for one (R302). -/
theorem State.needleDone_eq (s : State) (k : Nat) (c : NeedleCmd) : ∃ bytes, s.needleDone k c =
    if c.notify then (s.needleEnds k c c.rows 1 0).raise Ev.NEEDLE_CMD_DONE [c.seq, bytes] else s.needleEnds k c c.rows 1 0 := ⟨_, rfl⟩

theorem State.frogEnd_eq (s : State) (k : Nat) (c : NeedleCmd) (f n : Nat) : s.frogEnd k c f n =
    (s.needleEnds k c (c.stripeRows n) 2 16).raise Ev.NEEDLE_FROGGED [c.seq, f, min n (ceilDiv c.dh 64)] := rfl

theorem State.needleDone_shows (u : State) (k : Nat) {c : NeedleCmd} (hseq : c.seq < 65536) :
    (u.needleDone k c).nat Reg.NEEDLE_RESULT = 1 + c.seq * 2 ^ 16 ∧
    (u.needle.queue = [] → ((u.needleDone k c).needle.runs.all fun r => r.slot != k) = true) ∧
    (c.notify = false → (u.needleDone k c).raised = u.raised) ∧
    (c.notify = true → ∃ e : Event, (u.needleDone k c).raised = u.raised ++ [e] ∧ e.code = Ev.NEEDLE_CMD_DONE) := by
  obtain ⟨bytes, hdone⟩ := u.needleDone_eq k c
  rw [hdone]
  cases hnotify : c.notify with
  | false =>
    rw [if_neg Bool.false_ne_true]
    exact ⟨u.nat_needleEnds k hseq _ (by decide) 0, fun h => State.runs_needleEnds h k c _ 1 0, fun _ => u.raised_needleEnds k c _ 1 0,
      fun h => absurd h Bool.false_ne_true⟩
  | true =>
    rw [if_pos rfl]
    refine ⟨?_, fun h => ?_, fun h => absurd h.symm Bool.false_ne_true, fun _ => ?_⟩
    · rw [State.nat, State.reg_raise, ← State.nat, u.nat_needleEnds k hseq _ (by decide)]
    · rw [State.raise_needle]
      exact State.runs_needleEnds h k c _ 1 0
    · rw [State.raise_raised, State.raised_needleEnds]
      exact ⟨_, rfl, rfl⟩

theorem State.frogEnd_shows (u : State) (k f n : Nat) {c : NeedleCmd} (hseq : c.seq < 65536) :
    (u.frogEnd k c f n).nat Reg.NEEDLE_RESULT = 2 + c.seq * 2 ^ 16 ∧
    ∃ e : Event, (u.frogEnd k c f n).raised = u.raised ++ [e] ∧ e.code = Ev.NEEDLE_FROGGED ∧
      e.args = [c.seq, f, min n (ceilDiv c.dh 64)].map (· % 2 ^ 32) := by
  rw [State.frogEnd_eq]
  refine ⟨?_, ?_⟩
  · rw [State.nat, State.reg_raise, ← State.nat, u.nat_needleEnds k hseq _ (by decide)]
  · rw [State.raise_raised, State.raised_needleEnds]
    exact ⟨_, rfl, rfl, rfl⟩

/-! ## The obligation -/

theorem State.withQueued_frogHead_keeps {β : Type} {g : State → β} (h : ∀ (s : State) (x : NeedleState), g { s with needle := x } = g s)
    (s : State) (q : List NeedleCmd) : g (s.withQueued q).frogHead = g s := (State.frogHead_keeps (fun _ _ => h _ _) _).trans (h _ _)

theorem exec_needleSubmit_joins {t : Nat} {req : Requester} {s u : State} (hu : s.advance t = u) (haccepts : u.accepts req Reg.NEEDLE_SUBMIT 1)
    (hpasses : u.captured.check (decide (64 ≤ u.needle.queue.length) && !u.headLeaves) u.usable u.venueBase = 0) :
    ∃ n : State, exec (.needleSubmit t req) s = .next n ∧ n.needle.queue = u.needle.queue ++ [u.captured] ∧
      n.needle.runs.map (fun r => (r.slot, r.cmd)) = u.needle.runs.map (fun r => (r.slot, r.cmd)) ∧ n.hbm = u.hbm ∧
      n.raised = u.raised ∧ SameRegs u n [Reg.NEEDLE_STAT] := by
  refine ⟨_, exec_needleSubmit_queues hu haccepts hpasses, ?_, ?_, ?_, ?_, ?_⟩
  · rw [State.refreshNeedle_needle, State.frogHead_keeps (g := fun s => s.needle.queue) fun _ _ => rfl]
    rfl
  · have hruns : u.wakeHbm.touchHbm.needle.runs = u.needle.runs := by rw [State.touchHbm_needle, State.wakeHbm_needle]
    rw [State.refreshNeedle_needle, ← hruns]
    exact State.entries_frogHead _
  · rw [State.refreshNeedle_hbm, State.withQueued_frogHead_keeps (g := State.hbm) fun _ _ => rfl, State.touchHbm_hbm, State.wakeHbm_hbm]
  · rw [State.refreshNeedle_raised, State.withQueued_frogHead_keeps (g := State.raised) fun _ _ => rfl, State.touchHbm_raised, State.wakeHbm_raised]
  · refine SameRegs.trans (fun a _ => ?_) (State.sameRegs_refreshNeedle _)
    rw [State.withQueued_frogHead_keeps (g := fun s => s.reg a) fun _ _ => rfl, State.reg_congr (State.touchHbm_regs _), State.reg_wakeHbm]

theorem exec_needleCmdIssue_issues {t k : Nat} {c : NeedleCmd} {s u : State} (hu : s.advance t = u) (hqueue : u.needle.queue = [c])
    (hplain : c.frog = false) (hfree : u.freeSlot = some k) (hclear : (u.holding.any fun r => conflicts c r.cmd) = false) :
    exec (.needleCmdIssue t) s = .next (u.lookedAt.withIssued [] (u.needle.runs ++ [{ slot := k, cmd := c }])).refreshNeedle := by
  have hhead : u.lookedAt.frogHead = u.lookedAt := State.frogHead_plain hqueue hplain
  have hissues : u.lookedAt.issueHead = u.lookedAt.withIssued [] (u.lookedAt.needle.runs ++ [{ slot := k, cmd := c }]) :=
    State.issueHead_issues (s := u.lookedAt) hqueue hfree hclear
  rw [exec_needleCmdIssue hu, hhead, hissues, State.frogHead_empty (show (u.lookedAt.withIssued [] _).needle.queue = [] from rfl)]
  rfl

theorem exec_needleCmdIssue_waits {t k : Nat} {c : NeedleCmd} {s u : State} (hu : s.advance t = u) (hqueue : u.needle.queue = [c])
    (hplain : c.frog = false) (hfree : u.freeSlot = some k) (hconflict : (u.holding.any fun r => conflicts c r.cmd) = true) :
    exec (.needleCmdIssue t) s = .next u.lookedAt.refreshNeedle := by
  have hhead : u.lookedAt.frogHead = u.lookedAt := State.frogHead_plain hqueue hplain
  have hwaits : u.lookedAt.issueHead = u.lookedAt := State.issueHead_waits (s := u.lookedAt) hqueue hfree hconflict
  rw [exec_needleCmdIssue hu, hhead, hwaits, hhead]

theorem State.sameRegs_issued (u : State) (q : List NeedleCmd) (l : List NeedleRun) :
    SameRegs u (u.lookedAt.withIssued q l).refreshNeedle [Reg.NEEDLE_STAT] :=
  SameRegs.trans (v := u.lookedAt.withIssued q l) (fun _ _ => rfl) (State.sameRegs_refreshNeedle _)

/-- Settles O39: commands of the 2D engine are queued or rejected, issue when nothing conflicts, and end in one of three ways. -/
theorem blitCommandsQueueIssueAndEnd : Obligations.BlitCommandsQueueIssueAndEnd := by
  unfold Obligations.BlitCommandsQueueIssueAndEnd
  refine ⟨?_, ?_, ?_, ?_, ?_, ?_, ?_, ?_, ?_⟩
  case refine_1 => exact fun t req s u hu haccepts hpasses => exec_needleSubmit_joins hu haccepts hpasses
  case refine_2 => exact fun t r req s u hu haccepts hfails hr => exec_needleSubmit_rejects hu haccepts hfails hr
  case refine_3 => exact fun t k c s u hu hqueue hplain hfree hclear =>
    ⟨_, exec_needleCmdIssue_issues hu hqueue hplain hfree hclear, congrArg NeedleState.queue (State.refreshNeedle_needle _),
      congrArg NeedleState.runs (State.refreshNeedle_needle _), u.sameRegs_issued _ _, State.refreshNeedle_hbm _, State.refreshNeedle_raised _⟩
  case refine_4 => exact fun t k c s u hu hqueue hplain hfree hconflict =>
    ⟨_, exec_needleCmdIssue_waits hu hqueue hplain hfree hconflict, State.refreshNeedle_needle _, State.refreshNeedle_raised _⟩
  case refine_5 => exact fun t k r s u hu hrun hsource hkept => exec_needleCmdComplete_done hu hrun hsource hkept
  case refine_6 => exact fun t k a n r s u hu hrun => exec_needleCmdComplete_fails hu hrun
  case refine_7 => exact fun t k n f r s u hu hrun hfrogged => exec_needleFrogStop hu hrun hfrogged
  case refine_8 => exact fun k c u hseq => u.needleDone_shows k hseq
  case refine_9 => exact fun k f n c u hseq => u.frogEnd_shows k f n hseq

end Sys2Proof.Machine
end

section
/-! The drives and their transfers (R312, R313, R325). -/

namespace Sys2Proof.Machine

/-! ## Commands in flight -/

/-- A command that is taken was in flight, is no longer, and nothing else changes. -/
theorem State.nvmeTake_some {u v : State} {d cid : Nat} {c : NvmeCmd} (h : u.nvmeTake d cid = some (c, v)) :
    c ∈ u.store.inflight ∧ c.drive = d ∧ c.cid = cid ∧ v.regs = u.regs ∧ v.hbm = u.hbm ∧ v.raised = u.raised ∧
      (v.store.inflight.any fun x => x.drive == d && x.cid == cid) = false := by
  obtain ⟨c', hfind, hpair⟩ := Option.map_eq_some_iff.mp h
  obtain ⟨rfl, rfl⟩ := Prod.mk.inj hpair
  have hkey := List.find?_some hfind
  rw [Bool.and_eq_true, beq_iff_eq, beq_iff_eq] at hkey
  refine ⟨List.mem_of_find?_eq_some hfind, hkey.1, hkey.2, rfl, rfl, rfl, ?_⟩
  rw [List.any_eq_false]
  intro x hx
  have hother := (List.mem_filter.mp hx).2
  cases hmatch : x.drive == d && x.cid == cid with
  | false => exact Bool.false_ne_true
  | true => rw [hmatch] at hother; exact absurd hother Bool.false_ne_true

section
variable {t cid : Nat} {d : Fin 2} {c : NvmeCmd} {s u v : State} (hu : s.advance t = u)
include hu

theorem exec_nvmeCompletion (st : Nat) (bs : List Byte) (htake : u.nvmeTake d cid = some (c, v)) : exec (.nvmeCompletion t d cid st bs) s =
    .next (if st = 0 then v.nvmeGood c bs else v.nvmeError c st) := by
  have hexec : exec (.nvmeCompletion t d cid st bs) s = execNvmeCompletion t d cid st bs s := rfl
  rw [hexec, execNvmeCompletion, hu]
  simp only [htake]

theorem exec_nvmeTimeout (htake : u.nvmeTake d cid = some (c, v))
    (hearly : (u.sameCycle fun i => match i with | .nvmeCompletion _ e k _ _ => e == d && k == cid | _ => false) = false)
    (hdue : c.submitted + ms 2000 ≤ u.now) : exec (.nvmeTimeout t d cid) s = .next (v.nvmeError c 0xFFFF) := by
  have hexec : exec (.nvmeTimeout t d cid) s = execNvmeTimeout t d cid s := rfl
  have hover : ¬(((u.sameCycle fun i => match i with | .nvmeCompletion _ e k _ _ => e == d && k == cid | _ => false) ||
      decide (u.now < c.submitted + ms 2000)) = true) := by
    rw [hearly, Bool.false_or, decide_eq_true_iff]
    exact Nat.not_lt.mpr hdue
  rw [hexec, execNvmeTimeout, hu]
  simp only [htake]
  exact congrArg Host.Outcome.next (if_neg hover)

theorem exec_nvmeControllerFatal (hup : u.fld (Reg.STORE_DRV_STAT d) 0 2 = 2) :
    exec (.nvmeControllerFatal t d) s = .next ((u.disableDrive d 2).dropDrive d) := by
  have hexec : exec (.nvmeControllerFatal t d) s = execNvmeControllerFatal t d s := rfl
  rw [hexec, execNvmeControllerFatal, hu]
  exact congrArg Host.Outcome.next (if_neg (by rw [hup]; decide))

end

/-! ## A transfer ends -/

theorem exec_storeXferDone {t op st : Nat} {b : Bool} {s u : State} (hu : s.advance t = u) (hxfer : u.store.xfer = some (op, 0, b, st))
    (hst : st < 65536) : ∃ n : State, exec (.storeXferDone t) s = .next n ∧ n.store.xfer = none ∧
      n.nat Reg.STORE_XFER_STAT = (if b then 2 else 1) * 2 + st * 2 ^ 16 ∧ SameRegs u n [Reg.STORE_XFER_STAT] ∧
      RaisedBy u n [(Ev.STORE_XFER_DONE, [op % 2 ^ 32, if b then 2 else 1, st])] := by
  have hexec : exec (.storeXferDone t) s = execStoreXferDone t s := rfl
  have hr : (if b then 2 else 1) < 4 := by split <;> decide
  have hmod : [op, if b then 2 else 1, st].map (· % 2 ^ 32) = [op % 2 ^ 32, if b then 2 else 1, st] := by
    simp only [List.map_cons, List.map_nil, Nat.mod_eq_of_lt (show st < 2 ^ 32 by omega),
      Nat.mod_eq_of_lt (show (if b then 2 else 1) < 2 ^ 32 by omega)]
  rw [hexec, execStoreXferDone, hu]
  simp only [hxfer]
  refine ⟨_, rfl, rfl, ?_, ?_, ?_⟩
  · rw [State.nat, State.reg_raise, ← State.nat, State.nat_setNat_self]
    exact Nat.mod_eq_of_lt (by omega)
  · exact ((SameRegs.refl u _).setReg (n := { u with store := _ }) List.mem_cons_self _)
  · rw [← hmod]
    exact RaisedBy.of_raise rfl _ _

/-! ## A transfer starts -/

theorem writeMask_storeXferCmd : writeMask Reg.STORE_XFER_CMD = 0xFF1F := by decide

/-- The operation of a transfer reaches its register. -/
theorem field_xferCmd (w : Word) {op : Nat} (hop : op < 8) : (w.put 0 3 op &&& writeMask Reg.STORE_XFER_CMD).field 0 3 = op := by
  have hput : (w.put 0 3 op).toNat % 2 ^ 3 = op := (Word.field_put_self w 0 3 op (by decide)).trans (Nat.mod_eq_of_lt hop)
  rw [writeMask_storeXferCmd, Word.field, BitVec.toNat_and, Nat.shiftRight_zero, Nat.and_mod_two_pow, hput]
  exact (Nat.and_two_pow_sub_one_eq_mod op 3).trans (Nat.mod_eq_of_lt hop)

/-- A transfer that is busy with a number of commands. -/
def State.xferBusy (s : State) (op k : Nat) : State :=
  (({ s with store := { s.store with xfer := some (op, k, false, 0) } } : State).setBit Reg.STORE_XFER_STAT 0 true).setFld Reg.STORE_XFER_STAT 1 3 0

/-- The commands of a transfer go out. -/
def State.submitAll {α : Type} (s : State) (l : List α) (c : α → NvmeCmd) : State := s.each l fun s p => s.nvmeSubmit (c p)

theorem State.submitAll_keeps {α β : Type} {g : State → β} (hstore : ∀ (s : State) (n : Nat) (l : List NvmeCmd),
      g { s with store := { s.store with nextCid := n, inflight := l } } = g s) (hemit : ∀ (s : State) (o : Out), g (s.emit o) = g s)
    (s : State) (l : List α) (c : α → NvmeCmd) : g (s.submitAll l c) = g s :=
  State.each_keeps (fun _ _ => (hemit _ _).trans (hstore _ _ _)) s l

/-- Each command is in flight. -/
theorem State.length_inflight_submitAll {α : Type} (s : State) (l : List α) (c : α → NvmeCmd) :
    (s.submitAll l c).store.inflight.length = s.store.inflight.length + l.length := by
  induction l generalizing s with
  | nil => rfl
  | cons x l ih =>
    have hone : (s.nvmeSubmit (c x)).store.inflight.length = s.store.inflight.length + 1 := List.length_append
    refine (ih (s.nvmeSubmit (c x))).trans ?_
    rw [hone, List.length_cons]
    omega

theorem length_flatMap_map {α β γ : Type} (l : List α) (m : List β) (f : α → β → γ) :
    (l.flatMap fun d => m.map (f d)).length = l.length * m.length := by
  induction l with
  | nil => exact (Nat.zero_mul _).symm
  | cons x l ih => rw [List.flatMap_cons, List.length_append, ih, List.length_map, List.length_cons, Nat.succ_mul, Nat.add_comm]

/-- A transfer goes to one drive, or to each for a mirrored write or deallocate (R325). -/
def State.xferBoth (s : State) (op : Nat) : Bool := (op == 2 || op == 4) && s.bit Reg.STORE_CFG 2

/-- The number of commands that a transfer takes. -/
def State.xferCount (s : State) (op drive n : Nat) : Nat :=
  let most := if s.xferBoth op then min (s.lbaLimit 0) (s.lbaLimit 1) else s.store.maxLbas[drive]?.getD 256
  (if s.xferBoth op then 2 else 1) * if op ≤ 2 then ceilDiv n most else 1

/-- An access to HBM leaves the number of commands. -/
theorem State.xferCount_touchHbm (s : State) (op drive n : Nat) : s.touchHbm.xferCount op drive n = s.xferCount op drive n := by
  have hbit : s.touchHbm.bit Reg.STORE_CFG 2 = s.bit Reg.STORE_CFG 2 := congrArg (Word.bit · 2) (State.reg_congr s.touchHbm_regs _)
  have hlimit (v : Nat) : s.touchHbm.lbaLimit v = s.lbaLimit v := by rw [State.lbaLimit, hbit, State.touchHbm_store, State.lbaLimit]
  have hboth : s.touchHbm.xferBoth op = s.xferBoth op := by rw [State.xferBoth, hbit, State.xferBoth]
  rw [State.xferCount, hboth, hlimit, hlimit, State.touchHbm_store, State.xferCount]

theorem State.xferBoth_iff (s : State) (op : Nat) : s.xferBoth op = true ↔ (op = 2 ∨ op = 4) ∧ s.bit Reg.STORE_CFG 2 = true := by
  rw [State.xferBoth, Bool.and_eq_true, Bool.or_eq_true, beq_iff_eq, beq_iff_eq]

/-- A command moves what both drives take where it goes to both, which a read never does (R313). -/
theorem State.xferCount_eq (s : State) (op drive n : Nat) : s.xferCount op drive n =
    (if (op = 2 ∨ op = 4) ∧ s.bit Reg.STORE_CFG 2 = true then 2 else 1) * (if op ≤ 2 then ceilDiv n
      (if op = 2 ∧ s.bit Reg.STORE_CFG 2 = true then min (s.lbaLimit 0) (s.lbaLimit 1) else s.store.maxLbas[drive]?.getD 256) else 1) := by
  unfold State.xferCount
  simp only [s.xferBoth_iff]
  by_cases hle : op ≤ 2
  · have hwrite : (op = 2 ∨ op = 4) ↔ op = 2 := by omega
    simp only [hwrite]
  · simp only [if_neg hle]

/-- The bytes that a transfer moves. -/
def xferBytes (op n : Nat) : Nat := match op with
  | 1 => 4096 * n
  | 2 => 4096 * n
  | 5 => 512
  | _ => 0

theorem xferBytes_eq {op : Nat} (h : 1 ≤ op) (n : Nat) : xferBytes op n = if op ≤ 2 then 4096 * n else if op = 5 then 512 else 0 := by
  unfold xferBytes
  split
  · rfl
  · rfl
  · rfl
  next hread hwrite hlog =>
    have hother : ¬op ≤ 2 := fun hle => (show op = 1 ∨ op = 2 by omega).elim hread hwrite
    rw [if_neg hother, if_neg hlog]

/-- A transfer that nothing refuses is busy with its commands, which go out one by one (R325). -/
theorem State.xferStart_runs {s : State} {w : Word} {op : Nat} (hop : w.field 0 3 = op)
    (hruns : s.xferReason op (w.field 3 1) (s.nat Reg.STORE_XFER_LBA + w.field 4 1 * 2 ^ 32) (w.field 8 8 + 1)
      (s.fld Reg.STORE_XFER_HBM 0 23 * 4096) (xferBytes op (w.field 8 8 + 1)) = 0) :
    ∃ (v : State) (l : List (Nat × Nat × Nat)) (c : Nat × Nat × Nat → NvmeCmd), (v = s ∨ v = s.touchHbm) ∧
      l.length = s.xferCount op (w.field 3 1) (w.field 8 8 + 1) ∧ s.xferStart w = (v.xferBusy op l.length).submitAll l c := by
  subst hop
  unfold State.xferStart
  extract_lets op drive lba n addr bytes r both ds code touched most parts cmds source started busy
  have hr : r = 0 := hruns
  have htouched : touched = s ∨ touched = s.touchHbm := by
    simp only [touched]
    split
    · exact Or.inr rfl
    · exact Or.inl rfl
  have hcount : touched.xferCount op drive n = s.xferCount op drive n := by
    obtain h | h := htouched
    · rw [h]
    · rw [h, State.xferCount_touchHbm]
  have hboth : touched.xferBoth op = both := by
    obtain h | h := htouched
    · rw [h]
      rfl
    · rw [h, State.xferBoth, State.bit, State.reg_congr s.touchHbm_regs]
      rfl
  have hds : ds.length = if both then 2 else 1 := by
    simp only [ds]
    split <;> rfl
  have hparts : parts.length = if op ≤ 2 then ceilDiv n most else 1 := by
    simp only [parts]
    split
    · rw [List.length_map, List.length_range]
    · rfl
  have hcmds : cmds.length = s.xferCount op drive n := by
    rw [← hcount, State.xferCount, hboth]
    exact (length_flatMap_map ds parts fun d p => (d, p.1, p.2)).trans (by rw [hds, hparts])
  exact ⟨touched, cmds, _, htouched, hcmds, if_neg (not_not.mpr hr)⟩

/-- A row of the transfer command writes the register with its operation. -/
theorem exec_storeXfer {t op : Nat} {i : Instr} {req : Requester} {w : Word} {s u : State} (hu : s.advance t = u)
    (hrow : (i, op) ∈ [(Instr.storeXferRead t req w, 1), (.storeXferWrite t req w, 2), (.storeXferFlush t req w, 3),
      (.storeXferDeallocate t req w, 4), (.storeXferSmartLog t req w, 5)]) : (1 ≤ op ∧ op < 8) ∧ exec i s = .next (u.xferWrite req op w) := by
  subst hu
  simp only [List.mem_cons, Prod.mk.injEq, List.not_mem_nil, or_false] at hrow
  obtain ⟨rfl, rfl⟩ | ⟨rfl, rfl⟩ | ⟨rfl, rfl⟩ | ⟨rfl, rfl⟩ | ⟨rfl, rfl⟩ := hrow
  all_goals exact ⟨by decide, rfl⟩

/-- What a transfer that starts leaves and shows. -/
theorem State.xferStarted_shows {u v : State} (hv : v = u ∨ v = u.touchHbm) {α : Type} (op : Nat) (l : List α) (c : α → NvmeCmd) :
    ((v.xferBusy op l.length).submitAll l c).bit Reg.STORE_XFER_STAT 0 = true ∧
      ((v.xferBusy op l.length).submitAll l c).fld Reg.STORE_XFER_STAT 1 3 = 0 ∧
      ((v.xferBusy op l.length).submitAll l c).store.xfer = some (op, l.length, false, 0) ∧
      ((v.xferBusy op l.length).submitAll l c).store.inflight.length = u.store.inflight.length + l.length ∧
      SameRegs u ((v.xferBusy op l.length).submitAll l c) [Reg.STORE_XFER_STAT] ∧
      ((v.xferBusy op l.length).submitAll l c).raised = u.raised ∧ ((v.xferBusy op l.length).submitAll l c).hbm = u.hbm := by
  have hregs (a : Nat) : ((v.xferBusy op l.length).submitAll l c).reg a = (v.xferBusy op l.length).reg a :=
    State.submitAll_keeps (g := fun s => s.reg a) (fun _ _ _ => rfl) (fun _ _ => rfl) _ l c
  have hsame : (∀ a, v.reg a = u.reg a) ∧ v.store = u.store ∧ v.raised = u.raised ∧ v.hbm = u.hbm := by
    obtain h | h := hv
    · rw [h]
      exact ⟨fun _ => rfl, rfl, rfl, rfl⟩
    · rw [h]
      exact ⟨State.reg_congr u.touchHbm_regs, u.touchHbm_store, u.touchHbm_raised, u.touchHbm_hbm⟩
  obtain ⟨hreg, hstore, hraised, hhbm⟩ := hsame
  refine ⟨?_, ?_, ?_, ?_, fun a ha => ?_, ?_, ?_⟩
  · rw [State.bit, hregs, ← State.bit, State.xferBusy, State.bit_setFld_outside _ _ _ _ _ _ (by decide), State.bit_setBit_self _ _ _ _ (by decide)]
  · rw [State.fld, hregs, ← State.fld, State.xferBusy, State.fld_setFld_self _ _ _ _ _ (by decide)]
    rfl
  · exact State.submitAll_keeps (g := fun s => s.store.xfer) (fun _ _ _ => rfl) (fun _ _ => rfl) _ l c
  · rw [State.length_inflight_submitAll, ← hstore]
    rfl
  · have hne : Reg.STORE_XFER_STAT ≠ a := fun h => ha (List.mem_singleton.mpr h.symm)
    rw [hregs, ← hreg, State.xferBusy, State.reg_setFld_ne _ _ _ _ _ _ hne, State.setBit, State.reg_setFld_ne _ _ _ _ _ _ hne]
    rfl
  · exact (State.submitAll_keeps (g := State.raised) (fun _ _ _ => rfl) (fun _ _ => rfl) _ l c).trans hraised
  · exact (State.submitAll_keeps (g := State.hbm) (fun _ _ _ => rfl) (fun _ _ => rfl) _ l c).trans hhbm

theorem exec_storeXfer_runs {t op : Nat} {i : Instr} {req : Requester} {w x : Word} {s u : State} (hu : s.advance t = u)
    (hrow : (i, op) ∈ [(Instr.storeXferRead t req w, 1), (.storeXferWrite t req w, 2), (.storeXferFlush t req w, 3),
      (.storeXferDeallocate t req w, 4), (.storeXferSmartLog t req w, 5)])
    (haccepts : u.accepts req Reg.STORE_XFER_CMD (w.put 0 3 op)) (hx : x = w.put 0 3 op &&& writeMask Reg.STORE_XFER_CMD)
    (hruns : u.xferReason op (x.field 3 1) (u.nat Reg.STORE_XFER_LBA + x.field 4 1 * 2 ^ 32) (x.field 8 8 + 1)
      (u.fld Reg.STORE_XFER_HBM 0 23 * 4096) (if op ≤ 2 then 4096 * (x.field 8 8 + 1) else if op = 5 then 512 else 0) = 0) :
    ∃ n : State, exec i s = .next n ∧ n.bit Reg.STORE_XFER_STAT 0 = true ∧ n.fld Reg.STORE_XFER_STAT 1 3 = 0 ∧
      n.store.xfer = some (op, u.xferCount op (x.field 3 1) (x.field 8 8 + 1), false, 0) ∧
      n.store.inflight.length = u.store.inflight.length + u.xferCount op (x.field 3 1) (x.field 8 8 + 1) ∧
      SameRegs u n [Reg.STORE_XFER_STAT] ∧ n.raised = u.raised ∧ n.hbm = u.hbm := by
  obtain ⟨⟨hone, height⟩, hexec⟩ := exec_storeXfer hu hrow
  have hop : x.field 0 3 = op := hx ▸ field_xferCmd w height
  rw [← xferBytes_eq hone] at hruns
  obtain ⟨v, l, c, hv, hlen, hstart⟩ := State.xferStart_runs hop hruns
  rw [State.xferWrite, State.guarded_ok haccepts, State.mirror_local _ _ _ _ (by decide), ← hx, hstart] at hexec
  refine ⟨_, hexec, ?_⟩
  rw [← hlen]
  exact State.xferStarted_shows hv op l c

/-- Settles O41: commands of the drives end in one of three ways, and a transfer runs until all its commands have ended. -/
theorem storeDrives : Obligations.StoreDrives := by
  unfold Obligations.StoreDrives
  refine ⟨?_, ?_, ?_, ?_, ?_, ?_, ?_⟩
  case refine_1 => exact fun t cid d bs c s u v hu htake => exec_nvmeCompletion hu 0 bs htake
  case refine_2 => exact fun t cid st d bs c s u v hu htake hst => (exec_nvmeCompletion hu st bs htake).trans (congrArg _ (if_neg hst))
  case refine_3 =>
    intro t cid d c s u v hu htake hearly hdue
    exact exec_nvmeTimeout hu htake ((State.sameCycle_congr fun x => by cases x <;> rfl).trans hearly) hdue
  case refine_4 => exact fun t d s u hu hup => exec_nvmeControllerFatal hu hup
  case refine_5 => exact fun d cid c u v htake => State.nvmeTake_some htake
  case refine_6 =>
    intro t op bytes m k i req w x s u hu hrow haccepts hx hbytes hruns hm hk
    rw [hbytes] at hruns
    rw [hk, hm, ← u.xferCount_eq]
    exact exec_storeXfer_runs hu hrow haccepts hx hruns
  case refine_7 => exact fun t op st b s u hu hxfer hst => exec_storeXferDone hu hxfer hst

end Sys2Proof.Machine
end
